-- ==== Sys2Proof/Word.lean ====
section
/-!
DEFINITION. The byte and word types of the ZF4096 model. Bytes are what memories, frames and images are made of;
a register is a 32-bit word (R9). Exact arithmetic is done on `Nat` and `Int` and narrowed where a rule narrows.
-/
namespace Sys2Proof

/-- One byte: bit 7 is the most significant (R8). -/
abbrev Byte := BitVec 8

/-- One 32-bit register word (R9). -/
abbrev Word := BitVec 32

end Sys2Proof
end

