-- ==== Sys2Proof/Syntax.lean ====
section
/-!
DEFINITION. The commands of the block: one constructor of `Instr` for each row of the table of operations and events,
with the operands the row's rule gives it. Received frames are operands as raw data characters, most significant byte
first, with the count of code and disparity errors the receiver saw in them (R65); what a rule leaves to the outside
world (an operand's sensed value, a partner's verdict) is an operand too.
-/
namespace Sys2Proof

/-- Who makes an access to the device space (R502, R524). `triad` is the voted triad, and core 0 in CALVED; `core1` and
`core2` are the other cores in CALVED (R134). -/
inductive Requester where
  | triad | core1 | core2 | host | debugger | dma
deriving DecidableEq, Repr

/-- An access to the device space: who makes it, its size in bytes (R9), and what the ECC of a memory finds where it reads a
word: 0 nothing, 1 a corrected error, 2 an uncorrectable one (R132, R290, R514). -/
structure Access where
  req : Requester
  size : Nat := 4
  ecc : Nat := 0
deriving DecidableEq, Repr

/-- What a memory test found (R480): memory, phase, march element with its background, word address or failing lane, data
and check bits that differed, failing words, and the expected and formed signatures. -/
structure FailRec where
  mem : Nat
  phase : Nat
  element : Nat
  addr : Nat
  failBits : Nat
  eccBits : Nat
  nfail : Nat
  sigExp : Nat
  sigAct : Nat
deriving DecidableEq, Repr

/-- One core's copy of a bus transaction (R280): address, write data, byte enables, and the attributes write, instruction
fetch, user privilege and size in bytes; a transaction lies within one 32-bit word. -/
structure BusOp where
  addr : Nat
  data : Nat
  be : Nat
  write : Bool
  fetch : Bool
  user : Bool
  size : Nat := 4
deriving DecidableEq, Repr

/-- A staged write or command, which takes effect at a commit point (R17). -/
inductive Staged where
  | regWrite (req : Requester) (addr w : Nat)
  | ctrlWords (off : Nat) (words : List Nat)
  | calWord (off w : Nat)
  | calEntry (off : Nat) (words : List Nat)
  | ledgerClear (segs first num : Nat)
  | serac (cmd sel first num : Nat)
  | manual (ch : Nat) (words : List Nat)
  | manRelease (ch : Nat)
  | seqCmd (cmd sel start first num : Nat)
  | seqProg (slot : Nat) (bytes : List Byte)
  | seqUnload (slot : Nat)
  | unfence (ut ui : Nat)
  | axis (n w : Nat)
  | tcm (addr w : Nat)
  | zone (z m : Nat)
  | confirm
  | disarm                             -- an arming of SAFE_CONFIRM abandoned on the ACTIVE device (R58)
  | firnLoad                           -- the images that both devices have accepted take effect (R57)
  | chop (v : Nat)                     -- CHOP_FAULT: 0 cleared, 1 set, 2 set with UNTESTED
  | grant (v : Nat)                    -- NET_GRANT of the ACTIVE device (R244)
  | hold (zones : Nat)                 -- zone holds of the ACTIVE device (R551)
deriving DecidableEq, Repr

/-- What a SAVED frame holds of an axis (R393): controller state, mode in force, commanded direction and speed, speed and
position estimates, electrical angle, force set value, `ABNORMAL_KE`, lockout, brake state and last brake-test result. -/
structure SavedAxis where
  state : Nat := 0
  mode : Nat := 0
  dir : Nat := 0
  set : List Nat := []
  speed : Int := 0
  pos : Int := 0
  angle : Nat := 0
  ke : Bool := false
  locked : Bool := false
  brake : Bool := false
  result : Nat := 0
deriving DecidableEq, Repr

/-- The saved state of R393, with masks over the safe outputs; `chop` is the tick of the last passed chopper test. -/
structure SavedState where
  cyc : Nat := 0
  axes : List SavedAxis := []
  outOn : Nat := 0
  outLock : Nat := 0
  outReset : Nat := 0
  funcs : List Nat := []
  phase : Nat := 0
  chop : Nat := 0
deriving DecidableEq, Repr

/-- What a RESYNC frame carries (R390, R391): a batch of a group's channels with the bytes of their ranges in record order,
HOT and cached, and `FOLD_CYC`; or the state of a class of R387. -/
inductive Resync where
  | group (g : Nat) (items : List (Nat × List Byte × Nat)) (last : Bool)
  | zones (modes : List Nat) (holds zq : Nat) (bq : Bool)
  | serac (chans : List (Nat × Nat × Nat))
  | netting (level fault grant factor : Nat)
  | barriers (bars : List (Nat × Nat × List Nat))
  | fences (own partner : List Nat)
  | config (regs : List (Nat × Nat))
  | ranging (chans : List (Nat × List Nat))
deriving DecidableEq, Repr
/-- The commands of the block, one per row of the table of operations and events. -/
inductive Instr where
  /-- TICK_EDGE (R15): At each tick edge Tk the sample window closes and tick k begins, with tick-derived counters, cycle-boundary and trunk-boundary work. -/
  | tickEdge (tj : Int) (site : Nat)
  /-- SERAC_VERDICT (R264): By Tk + 8 µs both Serac planes evaluate every checked channel, trip channels, quench zones, send express frames and update channel state. -/
  | seracVerdict (flips : List (Nat × Nat × Nat)) (late : List (Nat × Nat)) (parity : List (Nat × Nat))
  /-- FLOE_TICK_MARKER (R69): The device sends a TICK marker on each synced port at Tk − D carrying the tick number. -/
  | floeTickMarker (port : Nat)
  /-- SAMPLE_BLOCK_RX (R82): A received sample block that passes its checks is fed to the decimator, or a gap restarts the streams with substitution. -/
  | sampleBlockRx (port : Nat) (hdr : List Byte) (blk : List Byte) (codeErrs : Nat)
  /-- SUPERFRAME_RX (R82): A complete upstream superframe is checked and accepted, its header flags, auxiliary area and channel status taken. -/
  | superframeRx (port : Nat) (hdr : List Byte) (blks : List (List Byte)) (crc : List Byte) (codeErrs : Nat)
  /-- BRICK_CAPS_RX (R74): A BRICK_CAPS frame is judged, a version selected and SELECT sent, or the port parked with a reason. -/
  | brickCapsRx (port : Nat) (frame : List Byte) (codeErrs : Nat)
  /-- SELECT_ACK_RX (R75): A SELECT_ACK in DELAY is checked against the selected version, parking the port on a mismatch. -/
  | selectAckRx (port : Nat) (frame : List Byte) (codeErrs : Nat)
  /-- ECHO_REPLY_RX (R70): An ECHO_REPLY gives a delay sample; after 16 at link-up the port starts TICK markers or parks with reason DELAY. -/
  | echoReplyRx (port : Nat) (frame : List Byte) (rtt : Nat) (codeErrs : Nat)
  /-- ECHO_SEND (R70): The device sends an ECHO link frame every 100 µs in DELAY and once every 1,024 ticks in service. -/
  | echoSend (port : Nat)
  /-- DEV_CAPS_SEND (R75): The device sends DEV_CAPS every 100 µs while a port is in CAPS. -/
  | devCapsSend (port : Nat)
  /-- SELECT_REPEAT (R75): A parked port repeats SELECT with VER 0 every 10 ms. -/
  | selectRepeat (port : Nat)
  /-- FLOE_COMMA_LOCK (R75): Upstream comma lock followed by 1,024 error-free characters moves a port from ALIGN to CAPS. -/
  | floeCommaLock (port : Nat)
  /-- FLOE_CAPS_TIMEOUT (R75): 5 ms in CAPS without a valid BRICK_CAPS returns the port to ALIGN. -/
  | floeCapsTimeout (port : Nat)
  /-- FLOE_DELAY_TIMEOUT (R75): 5 ms in DELAY without the SELECT_ACK and 16 replies returns the port to ALIGN. -/
  | floeDelayTimeout (port : Nat)
  /-- FLOE_SYNC_TIMEOUT (R75): 20 ticks in SYNC without 4 consecutive valid superframes return the port to ALIGN. -/
  | floeSyncTimeout (port : Nat)
  /-- FLOE_LOCK_LOSS (R75): Upstream lock lost for 1 ms in ACTIVE or LOST sets RENEG and returns the port to ALIGN. -/
  | floeLockLoss (port : Nat)
  /-- EXPRESS_ACK_RX (R91): A version 3 express acknowledgement records the acknowledged EXP_ID and latched mask. -/
  | expressAckRx (port : Nat) (frame : List Byte) (codeErrs : Nat)
  /-- EXPRESS_RESEND (R91): 20 µs after an unacknowledged express frame with EXP_RESEND set, the device sends it once more. -/
  | expressResend (port : Nat)
  /-- EXP_NOACK (R91): No acknowledgement within 20 µs of the last express frame sets EXP_NOACK and raises a MINOR event. -/
  | expNoack (port : Nat)
  /-- RESTART (R98): FLOE_CTRL.RESTART restarts a port's link-up at ALIGN in COMMISSION or SERVICE, otherwise is refused. -/
  | restart (req : Requester) (port : Nat) (w : Nat)
  /-- FLOE_CNT_CLR (R98): FLOE_CTRL.CNT_CLR clears the port's error counters. -/
  | floeCntClr (req : Requester) (port : Nat) (w : Nat)
  /-- LOAD_ACTIVE (R55): FIRN_CTRL LOAD_ACTIVE starts verification of an image for commit as the active variant. -/
  | loadActive (req : Requester) (w : Nat)
  /-- PRELOAD (R55): FIRN_CTRL PRELOAD starts verification of an image to be held in the slot of its variant. -/
  | preload (req : Requester) (w : Nat)
  /-- DISCARD (R55): FIRN_CTRL DISCARD empties a slot that is not active or pending. -/
  | discard (req : Requester) (w : Nat)
  /-- FIRN_VERIFY_DONE (R54): Verification of a firn image completes with acceptance or a loader error code and offset. -/
  | firnVerifyDone (partner : Option (Nat × Nat))
  /-- SAFE_CONFIRM (R58): A write to SAFE_CONFIRM arms, disarms or is refused in safety confirmation. -/
  | safeConfirm (req : Requester) (w : Nat)
  /-- CAPTURE_ZERO (R114): MEAS_CAL_CTRL CAPTURE_ZERO starts a zero-point capture over the channel set. -/
  | captureZero (req : Requester) (w : Nat)
  /-- CAPTURE_FULL (R114): MEAS_CAL_CTRL CAPTURE_FULL starts a full-point capture over the channel set. -/
  | captureFull (req : Requester) (w : Nat)
  /-- COMPUTE (R115): MEAS_CAL_CTRL COMPUTE forms new calibration entries from both captures. -/
  | compute (req : Requester) (w : Nat)
  /-- ABORT (R114): MEAS_CAL_CTRL ABORT abandons a capture and discards all captures. -/
  | abort (req : Requester) (w : Nat)
  /-- SET_NOMINAL (R115): MEAS_CAL_CTRL SET_NOMINAL writes nominal calibration entries to the channel set. -/
  | setNominal (req : Requester) (w : Nat)
  /-- CAL_SEGMENT_WRITE (R116): A host or triad write to a CAL segment is staged as IMPORTED or refused outside COMMISSION and SERVICE. -/
  | calSegmentWrite (req : Requester) (addr : Nat) (w : Nat)
  /-- CONTACT_CHECK_PHASE (R119): A contact check phase ends after its reading count and the next phase or the result follows. -/
  | contactCheckPhase (ch : Nat)
  /-- LEDGER_UE (R132): An uncorrectable ECC error in the HOT store or cache poisons its unit and raises LEDGER_HOT_UE or LEDGER_CACHE_UE. -/
  | ledgerUe (addr : Nat)
  /-- LEDGER_SEGMENT_WRITE (R128): A host or triad write to a ledger segment is staged for CTRL or refused for HOT, GRADE, HIST and LOG. -/
  | ledgerSegmentWrite (req : Requester) (addr : Nat) (w : Nat)
  /-- MULTIWORD_READ (R134): A read of a word of a multi-word value fills, uses or releases the requester's shadow or reports a torn read. -/
  | multiwordRead (by_ : Access) (addr : Nat)
  /-- SHADOW_TIMEOUT (R134): 64 µs after the lowest-word read the read shadow is released. -/
  | shadowTimeout (req : Requester)
  /-- WRITE_STAGING_TIMEOUT (R135): A multi-word CTRL staging incomplete after 64 µs is discarded with WTORN set. -/
  | writeStagingTimeout (req : Requester)
  /-- LEDGER_STREAM_ENABLE (R137): A write setting a stream's EN enables it or is refused with REFUSED. -/
  | ledgerStreamEnable (req : Requester) (strm : Nat) (w : Nat)
  /-- LEDGER_STREAM_CAPTURE (R136): An enabled ledger stream captures its range in a matching tick or after a matching fold and queues a capture record. -/
  | ledgerStreamCapture (strm : Nat)
  /-- FLUSH (R131): LEDGER_CTRL.FLUSH starts writing every dirty line and every HOT segment to DRAM. -/
  | flush (req : Requester) (w : Nat)
  /-- CLR_GO (R140): LEDGER_CTRL.CLR_GO issues a clear of the selected segments for the channel set at the next commit point. -/
  | clrGo (req : Requester) (w : Nat)
  /-- GO (R158): CHAN_MAN_CTRL.GO issues a manual demand for a channel or is refused. -/
  | go (req : Requester) (w : Nat)
  /-- RELEASE (R158): CHAN_MAN_CTRL.RELEASE returns a manually driven channel to OFF. -/
  | release (req : Requester) (w : Nat)
  /-- STALE_HOLD_ENTER (R156): At STALE_MAX + 1 non-VALID voltage ticks a channel enters STALE_HOLD at zero current. -/
  | staleHoldEnter (ch : Nat)
  /-- HOLDOVER_CAPTURE_END (R152): After CAP_TICKS VALID readings the holdover capture sets V_HOLD and the range phase follows. -/
  | holdoverCaptureEnd (ch : Nat)
  /-- FLOAT_SATURATED (R152): A holdover float at a bound for HO_SAT ticks sets HO_SAT and logs event 0x44. -/
  | floatSaturated (ch : Nat)
  /-- PULSE_LEVEL_CHANGE (R151): A PULSE level's tick count runs out and the channel switches to the other level. -/
  | pulseLevelChange (ch : Nat)
  /-- LOAD (R163): SEQ_LOAD_CTRL LOAD starts verification of a step program image for a slot. -/
  | load (req : Requester) (w : Nat)
  /-- UNLOAD (R163): SEQ_LOAD_CTRL UNLOAD empties a program slot. -/
  | unload (req : Requester) (w : Nat)
  /-- PROGRAM_VERIFY_DONE (R163): Program image verification completes with acceptance or a load code and offset. -/
  | programVerifyDone (partnerOk : Bool)
  /-- SEQ_START (R179): SEQ_CMD START starts the program of each qualifying channel of the set. -/
  | seqStart (req : Requester) (w : Nat)
  /-- PAUSE (R179): SEQ_CMD PAUSE pauses running or waiting programs with cause HOST. -/
  | pause (req : Requester) (w : Nat)
  /-- SEQ_RESUME (R180): SEQ_CMD RESUME clears MODE and HOST causes and resumes checked positions. -/
  | seqResume (req : Requester) (w : Nat)
  /-- SEQ_ABORT (R179): SEQ_CMD ABORT aborts programs with cause HOST. -/
  | seqAbort (req : Requester) (w : Nat)
  /-- SKIP (R170): SEQ_CMD SKIP ends a RUN step or leaves a barrier as CONTINUE. -/
  | skip (req : Requester) (w : Nat)
  /-- STEP_RUN (R166): A RUN step writes its demand and grading request and runs until a termination. -/
  | stepRun (ch : Nat)
  /-- STEP_LOOP (R171): A LOOP step pushes a loop stack entry with REMAIN := COUNT. -/
  | stepLoop (ch : Nat)
  /-- STEP_NEXT (R171): A NEXT step repeats or pops the innermost loop. -/
  | stepNext (ch : Nat)
  /-- STEP_BRANCH (R172): A BRANCH step tests a result and jumps, breaks the loop or continues. -/
  | stepBranch (ch : Nat)
  /-- STEP_BARRIER (R175): A BARRIER step makes the channel WAITING with its wait demand. -/
  | stepBarrier (ch : Nat)
  /-- STEP_END (R173): An END step ends the program with a result code and demand OFF. -/
  | stepEnd (ch : Nat)
  /-- TERMINATION_FIRE (R169): A termination whose condition held for CONFIRM evaluated ticks fires and ends the step. -/
  | terminationFire (ch : Nat)
  /-- STEP_TIME_TERMINATION (R168): T_STEP reaching T_MAX ends the RUN step by time. -/
  | stepTimeTermination (ch : Nat)
  /-- BARRIER_TIMEOUT (R178): BAR_T reaching TIMEOUT raises SEQ_BAR_TIMEOUT and acts by TO_ACT. -/
  | barrierTimeout (ch : Nat)
  /-- REMOTE_BARRIER_RELEASE (R177): A SEGMENT or LINE barrier is released on every device once the carried arrivals reach EXPECT. -/
  | remoteBarrierRelease (line : Bool) (b : Nat)
  /-- GRADE_WINDOW_CLOSE (R193): A grading measurement window closes after its last reading or point, or ends early with a status. -/
  | gradeWindowClose (ch : Nat)
  /-- ENGINE_SAMPLE_TASK (R223): The sample task runs the per-sample FIR part once block b of all served ports is in X memory. -/
  | engineSampleTask (e : Nat)
  /-- ENGINE_CHANNEL_RUN (R225): The sequencer dispatches one channel run of a scheduled kernel on an engine. -/
  | engineChannelRun (e : Nat)
  /-- ENGINE_RUNAWAY (R225): A run reaching its cycle limit is stopped, RUNAWAY set and its group made incomplete. -/
  | engineRunaway (e : Nat)
  /-- NOP (R220): Engine instruction with no operation. -/
  | engNop (e : Nat) (smp : Bool) (w : Nat)
  /-- END (R220): Engine instruction ending the channel run. -/
  | engEnd (e : Nat) (smp : Bool) (w : Nat)
  /-- EVT (R220): Engine instruction raising user event ENG_USER. -/
  | engEvt (e : Nat) (smp : Bool) (w : Nat)
  /-- LDI (R220): Engine instruction loading a sign-extended immediate. -/
  | engLdi (e : Nat) (smp : Bool) (w : Nat)
  /-- LDIH (R220): Engine instruction loading an immediate into bits [31:16]. -/
  | engLdih (e : Nat) (smp : Bool) (w : Nat)
  /-- MOV (R220): Engine register move. -/
  | engMov (e : Nat) (smp : Bool) (w : Nat)
  /-- LDC (R220): Engine instruction loading a constant of the running kernel. -/
  | engLdc (e : Nat) (smp : Bool) (w : Nat)
  /-- ADD (R220): Engine add. -/
  | engAdd (e : Nat) (smp : Bool) (w : Nat)
  /-- SUB (R220): Engine subtract. -/
  | engSub (e : Nat) (smp : Bool) (w : Nat)
  /-- AND (R220): Engine bitwise AND. -/
  | engAnd (e : Nat) (smp : Bool) (w : Nat)
  /-- OR (R220): Engine bitwise OR. -/
  | engOr (e : Nat) (smp : Bool) (w : Nat)
  /-- XOR (R220): Engine bitwise XOR. -/
  | engXor (e : Nat) (smp : Bool) (w : Nat)
  /-- MIN (R220): Engine minimum. -/
  | engMin (e : Nat) (smp : Bool) (w : Nat)
  /-- MAX (R220): Engine maximum. -/
  | engMax (e : Nat) (smp : Bool) (w : Nat)
  /-- ABS (R220): Engine absolute value. -/
  | engAbs (e : Nat) (smp : Bool) (w : Nat)
  /-- SHL (R220): Engine shift left. -/
  | engShl (e : Nat) (smp : Bool) (w : Nat)
  /-- SHR (R220): Engine arithmetic shift right. -/
  | engShr (e : Nat) (smp : Bool) (w : Nat)
  /-- ADDI (R220): Engine add of a sign-extended immediate. -/
  | engAddi (e : Nat) (smp : Bool) (w : Nat)
  /-- MUL (R220): Engine multiply giving the low 32 bits. -/
  | engMul (e : Nat) (smp : Bool) (w : Nat)
  /-- DIV (R220): Engine signed divide rounded toward zero, saturating on zero divisor. -/
  | engDiv (e : Nat) (smp : Bool) (w : Nat)
  /-- RDV (R220): Engine reading-word extraction setting SR.NV. -/
  | engRdv (e : Nat) (smp : Bool) (w : Nat)
  /-- MPY (R220): Engine multiply into an accumulator. -/
  | engMpy (e : Nat) (smp : Bool) (w : Nat)
  /-- MAC (R220): Engine multiply-accumulate. -/
  | engMac (e : Nat) (smp : Bool) (w : Nat)
  /-- MSU (R220): Engine multiply-subtract. -/
  | engMsu (e : Nat) (smp : Bool) (w : Nat)
  /-- MAC2 (R220): Engine dual multiply-accumulate. -/
  | engMac2 (e : Nat) (smp : Bool) (w : Nat)
  /-- TAPM_SLOT (R221): TAPM slot form advancing four transposed FIR partial sums. -/
  | engTapmSlot (e : Nat) (smp : Bool) (w : Nat)
  /-- TAPM_LINE (R221): TAPM line form doing a two-tap delay-line FIR step. -/
  | engTapmLine (e : Nat) (smp : Bool) (w : Nat)
  /-- CLRA (R220): Engine accumulator clear. -/
  | engClra (e : Nat) (smp : Bool) (w : Nat)
  /-- ADDA (R220): Engine accumulator add. -/
  | engAdda (e : Nat) (smp : Bool) (w : Nat)
  /-- SHA (R220): Engine accumulator arithmetic shift. -/
  | engSha (e : Nat) (smp : Bool) (w : Nat)
  /-- RND (R220): Engine rounding extraction of an accumulator. -/
  | engRnd (e : Nat) (smp : Bool) (w : Nat)
  /-- LDA (R220): Engine load of an accumulator from a Y slot. -/
  | engLda (e : Nat) (smp : Bool) (w : Nat)
  /-- STA (R220): Engine store of an accumulator to a Y slot. -/
  | engSta (e : Nat) (smp : Bool) (w : Nat)
  /-- LDH (R220): Engine load of a HOT word. -/
  | engLdh (e : Nat) (smp : Bool) (w : Nat)
  /-- LDHQ (R220): Engine load of two HOT words. -/
  | engLdhq (e : Nat) (smp : Bool) (w : Nat)
  /-- STH (R226): Engine store of a HOT word, journaled and permission-checked. -/
  | engSth (e : Nat) (smp : Bool) (w : Nat)
  /-- STHQ (R226): Engine store of two HOT words. -/
  | engSthq (e : Nat) (smp : Bool) (w : Nat)
  /-- LDHA (R220): Engine load of a signed 64-bit HOT value into an accumulator. -/
  | engLdha (e : Nat) (smp : Bool) (w : Nat)
  /-- STHA (R220): Engine store of a saturated 64-bit accumulator to HOT. -/
  | engStha (e : Nat) (smp : Bool) (w : Nat)
  /-- SINCOS (R220): Engine cosine and sine of a phase. -/
  | engSincos (e : Nat) (smp : Bool) (w : Nat)
  /-- BR (R220): Engine unconditional branch. -/
  | engBr (e : Nat) (smp : Bool) (w : Nat)
  /-- BZ (R220): Engine branch on zero. -/
  | engBz (e : Nat) (smp : Bool) (w : Nat)
  /-- BNZ (R220): Engine branch on non-zero. -/
  | engBnz (e : Nat) (smp : Bool) (w : Nat)
  /-- BLT (R220): Engine branch on negative. -/
  | engBlt (e : Nat) (smp : Bool) (w : Nat)
  /-- BGE (R220): Engine branch on non-negative. -/
  | engBge (e : Nat) (smp : Bool) (w : Nat)
  /-- BNV (R220): Engine branch on SR.NV. -/
  | engBnv (e : Nat) (smp : Bool) (w : Nat)
  /-- REP (R222): Engine repeat of a body an immediate number of times. -/
  | engRep (e : Nat) (smp : Bool) (w : Nat)
  /-- REPR (R222): Engine repeat of a body a register number of times. -/
  | engRepr (e : Nat) (smp : Bool) (w : Nat)
  /-- PEAK_CLR (R235): CHAN_ENG_CTRL.PEAK_CLR clears an engine's peak fields. -/
  | peakClr (req : Requester) (e : Nat) (w : Nat)
  /-- AUX_CONVERSION_DONE (R446): A converter conversion completes, is calibrated and delivered, with bus comparators, force and result records updated. -/
  | auxConversionDone (conv : Nat) (raw : Int) (subt : Nat)
  /-- BUS_SENSE_GAP (R237): 20 µs without a bus sample enters TRIP with TRIP_SENSE set. -/
  | busSenseGap (us : Nat)
  /-- TRIP_CLR (R239): NET_CTRL.TRIP_CLR requests leaving TRIP at the next cycle boundary, or is refused. -/
  | tripClr (req : Requester) (w : Nat)
  /-- TEST_NOW (R246): NET_CTRL.TEST_NOW makes a chopper test due. -/
  | testNow (req : Requester) (w : Nat)
  /-- SERAC_RELEASE (R272): SERAC_CMD RELEASE releases each qualifying tripped channel at Tk + 8 µs of its commit tick. -/
  | seracRelease (req : Requester) (w : Nat)
  /-- SERAC_TRIP_CMD (R263): SERAC_CMD TRIP trips the channels of the set with cause HOST. -/
  | seracTripCmd (req : Requester) (w : Nat)
  /-- QCLR (R256): SERAC_CMD QCLR sets SQ to zero for the channels of the set. -/
  | qclr (req : Requester) (w : Nat)
  /-- FIRE_CLR (R270): SERAC_CTRL.FIRE_CLR releases FIRE_N when permitted. -/
  | fireClr (req : Requester) (w : Nat)
  /-- INJ_GO (R269): SERAC_CTRL.INJ_GO forces check 0 in one plane to test the comparator. -/
  | injGo (req : Requester) (w : Nat)
  /-- TRIAD_TRANSACTION (R280): The voter aligns and votes a triad bus transaction, performing it, fencing a differing core or suppressing it. -/
  | triadTransaction (copies : List (Option BusOp)) (voterOk : Bool) (core : Nat) (ecc : Nat)
  /-- CORE_PARITY_ERROR (R284): A parity error in a core fences it with kind INTERNAL. -/
  | coreParityError (core : Nat)
  /-- REINTEGRATION (R287): At a permitted tick edge a fenced core is re-integrated by state copy, or the attempt fails. -/
  | reintegration (core : Nat) (equal : Bool) (fail : Nat)
  /-- TCM_HOST_WRITE (R291): A host write to the TCM is performed in a HOSTW region, forwarded in a pair, or refused. -/
  | tcmHostWrite (addr : Nat) (w : Nat)
  /-- TRI_CALVE_START (R295): A write of TRI_CALVE_START releases cores 1 and 2 in CALVED. -/
  | triCalveStart (req : Requester) (w : Nat)
  /-- HALT (R296): TRI_DBG_CTRL.HALT halts the triad through the input distributor, or is refused. -/
  | halt (req : Requester) (w : Nat)
  /-- DBG_RESUME (R296): TRI_DBG_CTRL.RESUME resumes the halted triad. -/
  | dbgResume (req : Requester) (w : Nat)
  /-- DBG_STEP (R296): TRI_DBG_CTRL.STEP single-steps the triad. -/
  | dbgStep (req : Requester) (w : Nat)
  /-- DBG_REG_WRITE (R296): A write of TRI_DBG_REG_DATA is replayed to all cores. -/
  | dbgRegWrite (req : Requester) (w : Nat)
  /-- TRI_WDOG_KICK (R299): A write to TRI_WDOG_KICK restarts the watchdog period, or raises TRI_WDOG on a wrong key. -/
  | triWdogKick (req : Requester) (w : Nat)
  /-- MISM_CLR (R301): TRI_CTRL.MISM_CLR clears TRI_MISM_CNT. -/
  | mismClr (req : Requester) (w : Nat)
  /-- MORAINE_PASS (R302): Every 0.5 µs Moraine takes the raised events in source order, classifies, escalates and orders reactions. -/
  | morainePass (cfgDiff : Option Nat)
  /-- FAULT_REL (R319): MOR_CTRL.FAULT_REL releases FAULT_N, or is refused in safe state. -/
  | faultRel (req : Requester) (w : Nat)
  /-- FAULT_HOLD (R319): MOR_CTRL.FAULT_HOLD drives FAULT_N low. -/
  | faultHold (req : Requester) (w : Nat)
  /-- MOR_UNFENCE (R311): MOR_UNFENCE.GO lifts a unit's fence at the next commit point, or is refused. -/
  | morUnfence (req : Requester) (w : Nat)
  /-- MOR_INJ (R322): MOR_INJ.GO raises an injected event of an assigned source. -/
  | morInj (req : Requester) (w : Nat)
  /-- MOR_RAISE (R322): MOR_RAISE.GO raises a MOR_SW source with a unit and data word. -/
  | morRaise (req : Requester) (w : Nat)
  /-- MOR_PEND_CLEAR (R320): A write of 1 to MOR_PEND clears a source's pending bit. -/
  | morPendClear (req : Requester) (n : Nat) (w : Nat)
  /-- MOR_LOG_RD (R324): A write to MOR_LOG_RD records how far software has read the event ring. -/
  | morLogRd (req : Requester) (w : Nat)
  /-- RIME_SLOT_TX (R332): At the action point of an owned static slot the node sends its status block or transmit buffer, gated by the guardian. -/
  | rimeSlotTx (slot : Nat) (lag : Int)
  /-- RIME_FRAME_RX (R333): A received segment frame is checked, taken into the receive buffer and used for adoption, confirmation or collision. -/
  | rimeFrameRx (ch : Nat) (sof : Nat) (gdev : Int) (framed : Bool) (codeErrs : Nat) (frame : List Byte)
  /-- TRUNK_SLOT_TX (R367): A gateway sends its trunk frame in its gateway slot. -/
  | trunkSlotTx (lag : Int)
  /-- TRUNK_FRAME_RX (R367): A received trunk frame is checked and its gateway block or reference taken. -/
  | trunkFrameRx (ch : Nat) (sof : Nat) (framed : Bool) (codeErrs : Nat) (frame : List Byte)
  /-- CS_LISTEN_TIMEOUT (R340): The cold-start listen timer reaching 2 + RANK silent cycles starts a leading attempt. -/
  | csListenTimeout (trunk : Bool)
  /-- CS_ATTEMPT_END (R340): Attempt cycle 7 ends with fewer than two confirming nodes and the leader stops. -/
  | csAttemptEnd (trunk : Bool)
  /-- RIME_CH_FAIL (R334): A Rime channel silent for 8 cycles while the other carries frames raises RIMEL_CH_FAIL. -/
  | rimeChFail (ch : Nat)
  /-- GCLK_FAIL (R348): A GCLK monitor fault holds the enables low and raises RIMEL_GCLK_FAIL. -/
  | gclkFail (why : Nat)
  /-- RIMEL_ENABLE (R340): Setting RIMEL_CTRL.EN starts the segment controller in the listening state. -/
  | rimelEnable (req : Requester) (w : Nat)
  /-- RIMEL_DISABLE (R340): Clearing RIMEL_CTRL.EN stops sending and disables the controller. -/
  | rimelDisable (req : Requester) (w : Nat)
  /-- RIMEL_RESTART (R340): RIMEL_CTRL.RESTART returns the controller to the listening state with ATTEMPTS cleared. -/
  | rimelRestart (req : Requester) (w : Nat)
  /-- RIMET_ENABLE (R368): Setting RIMET_CTRL.EN starts the trunk controller, or is refused without a trunk record. -/
  | rimetEnable (req : Requester) (w : Nat)
  /-- RIMET_DISABLE (R369): Clearing RIMET_CTRL.EN stops the trunk controller. -/
  | rimetDisable (req : Requester) (w : Nat)
  /-- RIMET_RESTART (R369): RIMET_CTRL.RESTART returns the trunk controller to the listening state. -/
  | rimetRestart (req : Requester) (w : Nat)
  /-- RIMET_MC_GO (R363): RIMET_MC.GO issues a Rime mode change request, or is refused. -/
  | rimetMcGo (req : Requester) (w : Nat)
  /-- SCH_LANE_CHANGE (R378): A schrund lane gains or loses block lock and the link goes up or down. -/
  | schLaneChange (mask : Nat) (dly : Nat)
  /-- SCH_TICK_RX (R380): A valid partner TICK frame restores the heartbeat and delivers its orders and port states. -/
  | schTickRx (ns : Nat) (psub : Nat) (lane : Nat) (frame : List Byte)
  /-- INPUT_RX (R383): A STANDBY device receives a forwarded non-deterministic input. -/
  | inputRx (cyc : Nat) (input : Staged) (payload : List Byte)
  /-- CLOSE_RX (R383): A STANDBY device receives the CLOSE of a cycle and checks its count and CRC. -/
  | closeRx (cyc : Nat) (count : Nat) (crc : Nat)
  /-- DIGEST_RX (R389): A STANDBY device compares received digests and requests resynchronisation of diverging groups and classes. -/
  | digestRx (cyc : Nat) (groups : List (Nat × Nat)) (classes : List Nat)
  /-- RESYNC_RX (R390): A resynchronisation batch is received for installation at the next commit point. -/
  | resyncRx (batch : Resync)
  /-- RS_REQ_RX (R390): The ACTIVE device receives a resynchronisation request and starts capturing batches. -/
  | rsReqRx (groups : List Nat) (classes : List Nat)
  /-- SAVED_RX (R393): The non-owner keeps the owner's saved state of a cycle. -/
  | savedRx (saved : SavedState)
  /-- BULK_RX (R396): A joiner or STANDBY receives image or program data in BULK pieces for verification. -/
  | bulkRx (kind : Nat) (slot : Nat) (total : Nat) (last : Bool) (bytes : List Byte)
  /-- CLAIM_SAMPLE (R377): 2 µs after claiming the device samples PAIR_PEER_N and keeps ownership or resolves a split by rank. -/
  | claimSample (low : Bool)
  /-- TAKEOVER (R398): An ENGAGED STANDBY takes over on a SAFE report or a corroborated heartbeat loss. -/
  | takeover (corr : Bool) (peerLow : Bool)
  /-- WAIT_MS_TIMEOUT (R396): WAIT_MS in START without a link makes the device SOLO or DETACHED STANDBY. -/
  | waitMsTimeout (peerLow : Bool)
  /-- DETACH (R397): SCH_CTRL.DETACH detaches an ENGAGED STANDBY device. -/
  | detach (req : Requester) (w : Nat)
  /-- SCH_CNT_CLR (R401): SCH_CTRL.CNT_CLR clears the SCH counters. -/
  | schCntClr (req : Requester) (w : Nat)
  /-- TPULSE_OFF_PULSE (R404): Each test-pulse source gives its off-pulse once per TP_MS, and cross-shorts and stuck-lows are checked. -/
  | tpulseOffPulse (src : Nat) (high : Nat) (low : Nat)
  /-- SAFE_INPUT_FILTERED (R405): A safe input level change that has held for its FILTER time becomes its filtered state. -/
  | safeInputFiltered (input : Nat) (level : Bool)
  /-- SAFETY_EVALUATION (R407): At Tk + 1 µs the evaluator updates every function and forms each output's demand. -/
  | safetyEvaluation (cfgDiff : Option Nat)
  /-- SAFE_DISCREPANCY (R406): Paired channels disagreeing longer than DISC, or a two-hand or lock-feedback fault, lock the function out. -/
  | safeDiscrepancy (func : Nat) (kind : Nat)
  /-- SAFE_RESET_ACTION (R411): A reset press released after 0.1–2.5 s resets waiting functions and steps safety confirmation. -/
  | safeResetAction (input : Nat) (us : Nat) (gapUs : Nat) (subt : Nat)
  /-- BRAKE_GO (R416): SAFE_CTRL.BRAKE_GO makes a brake test due for an axis. -/
  | brakeGo (req : Requester) (w : Nat)
  /-- UNLOCK_GO (R412): SAFE_CTRL.UNLOCK_GO requests a guard door unlock, or is refused. -/
  | unlockGo (req : Requester) (w : Nat)
  /-- RELOCK (R412): SAFE_CTRL.RELOCK relocks a guard door. -/
  | relock (req : Requester) (w : Nat)
  /-- SAFE_OUTPUT_TEST (R414): Every TEST_S an on safe output turns one switch off for its off-pulse test. -/
  | safeOutputTest (out : Nat)
  /-- SAFE_OUTPUT_TEST_END (R414): A test switch turns back on at its off readback or fails after 400 µs. -/
  | safeOutputTestEnd (out : Nat) (off : Bool)
  /-- SAFE_READBACK_FAULT (R413): A switch readback disagreeing for 1 ms locks the output out. -/
  | safeReadbackFault (out : Nat) (sw : Nat)
  /-- TPULSE_READBACK_FAULT (R418): A TPULSE readback disagreeing with its drive raises SAFE_TP_FAULT and locks out its functions. -/
  | tpulseReadbackFault (src : Nat)
  /-- BRAKE_TEST_DUE (R416): Every TEST_H hours a brake test falls due and runs at a permitted verdict. -/
  | brakeTestDue (axis : Nat)
  /-- BRAKE_TEST_END (R416): After 1 s against the brake the test passes or fails by the position moved. -/
  | brakeTestEnd (axis : Nat)
  /-- BRAKE_TEST_OVERDUE (R416): A brake test not passed within 1 h of falling due locks the axis out with cause OVERDUE. -/
  | brakeTestOverdue (axis : Nat)
  /-- AXIS_PWM_PERIOD (R424): At each carrier centre the axis samples currents, reads the encoder and runs its current loops. -/
  | axisPwmPeriod (axis : Nat) (raw : List Int) (enc : List Byte) (spd : Int)
  /-- AXIS_START (R430): AXIS_CMD START starts or changes an axis's mode, or is refused. -/
  | axisStart (req : Requester) (axis : Nat) (w : Nat)
  /-- AXIS_STOP (R429): AXIS_CMD STOP is a stop cause that short-brakes the axis. -/
  | axisStop (req : Requester) (axis : Nat) (w : Nat)
  /-- AXIS_CLEAR (R430): AXIS_CMD CLEAR clears ABNORMAL_KE and FAULT, or is refused. -/
  | axisClear (req : Requester) (axis : Nat) (w : Nat)
  /-- AXIS_MEASURE_END (R431): After BEMF_US the back-EMF measurement ends with a catch, a short or a fault. -/
  | axisMeasureEnd (axis : Nat) (emf : Nat) (clamp : Bool) (seqOk : Bool)
  /-- AXIS_STANDSTILL (R429): Speed below STILL_RPM for STILL_MS is standstill and moves the axis to ARMING or OFF. -/
  | axisStandstill (axis : Nat)
  /-- AXIS_STOP_SLOW (R429): STOP_MS elapsed in STOPPING applies the brake and raises AXIS_STOP_SLOW. -/
  | axisStopSlow (axis : Nat)
  /-- AXIS_FORCE_TIMEOUT (R448): A force input without a result for 1 ms counts as a force above F_MAX. -/
  | axisForceTimeout (axis : Nat)
  /-- AUX_TICK_TRIGGER (R443): At Tk + TICK_OFS a TICK converter starts a pass, or marks the running pass late. -/
  | auxTickTrigger (conv : Nat)
  /-- SW_GO (R441): AUX_CONV_CTRL.SW_GO starts one pass of an OFF converter. -/
  | swGo (req : Requester) (conv : Nat) (w : Nat)
  /-- APPLY (R440): AUX_CONV_CTRL.APPLY installs the staged sequence copy, or fails. -/
  | apply (req : Requester) (conv : Nat) (w : Nat)
  /-- AUX_CAPTURE_ZERO (R450): AUX_CAL_CTRL CAPTURE_ZERO starts a zero capture of an input. -/
  | auxCaptureZero (req : Requester) (w : Nat)
  /-- AUX_CAPTURE_FULL (R450): AUX_CAL_CTRL CAPTURE_FULL starts a full capture of an input. -/
  | auxCaptureFull (req : Requester) (w : Nat)
  /-- AUX_COMPUTE (R450): AUX_CAL_CTRL COMPUTE forms calibration or interleave trim from both captures. -/
  | auxCompute (req : Requester) (w : Nat)
  /-- AUX_CAL_ABORT (R450): AUX_CAL_CTRL ABORT abandons an auxiliary capture. -/
  | auxCalAbort (req : Requester) (w : Nat)
  /-- AUX_SET_NOMINAL (R450): AUX_CAL_CTRL SET_NOMINAL writes nominal auxiliary calibration. -/
  | auxSetNominal (req : Requester) (w : Nat)
  /-- DOMAIN_READY (R463): A switched-on domain reports ready and the next domain is switched on. -/
  | domainReady (refOk : Bool)
  /-- THAW_WAKE (R468): Thaw WAKE starts a wake from DORMANT. -/
  | thawWake (data : List Byte)
  /-- THAW_SLEEP (R468): Thaw SLEEP writes PWR_RETAIN and requests dormancy. -/
  | thawSleep (data : List Byte)
  /-- THAW_TIMER (R468): Thaw TIMER writes PWR_TIMER and restarts the timer in DORMANT. -/
  | thawTimer (data : List Byte)
  /-- THAW_ZONE (R469): Thaw ZONE requests a zone mode as a host request. -/
  | thawZone (data : List Byte)
  /-- POWER_ON_RESET (R534): All rails above threshold for 2 ms release power-on reset and start the start-up sequence. -/
  | powerOnReset (calve : Bool) (rank : Bool)
  /-- RST_N_RESET (R473): RST_N held low for 1 µs resets the device, keeping retained regions. -/
  | rstNReset (calve : Bool) (rank : Bool)
  /-- LCY_RESET (R473): A write of 0xD1E5 to LCY_RESET starts a software reset. -/
  | lcyReset (req : Requester) (w : Nat) (calve : Bool) (rank : Bool)
  /-- BIST_ONLINE_SLICE (R487): In the tick slack an online self-test slice marches 128 words of one memory and restores them. -/
  | bistOnlineSlice (mem : Nat) (slice : Nat) (last : Bool) (fail : Option FailRec) (lost : List Nat)
  /-- HOST_GO (R489): BIST_CTRL.HOST_GO starts a full self-test of one memory, or is refused. -/
  | hostGo (req : Requester) (w : Nat)
  /-- TRANSITION (R494): LCY_CMD TRANSITION moves the life-cycle state and resets the device, or is refused. -/
  | transition (req : Requester) (w : Nat) (bootKeys : List (Option (Nat × Nat))) (firnKeys : List (Option (Nat × Nat)))
  /-- ROLLBACK_ADV (R484): LCY_CMD ROLLBACK_ADV raises the rollback counter to the running image's version. -/
  | rollbackAdv (req : Requester) (w : Nat)
  /-- REVOKE (R499): LCY_CMD REVOKE blows the revocation bits of the named key slots. -/
  | revoke (req : Requester) (w : Nat)
  /-- GRANT_CALVE (R492): LCY_CMD GRANT_CALVE grants the CALVE permission where the state allows. -/
  | grantCalve (req : Requester) (w : Nat)
  /-- GRANT_DBG (R492): LCY_CMD GRANT_DBG grants the DBG permission where the state allows. -/
  | grantDbg (req : Requester) (w : Nat)
  /-- HOSTBOOT (R492): LCY_CMD HOSTBOOT verifies a host-written TCM image against the provisioning key and boots it. -/
  | hostboot (req : Requester) (w : Nat) (at_ : Nat)
  /-- REVOKE_CALVE (R499): LCY_CMD REVOKE_CALVE revokes the CALVE permission. -/
  | revokeCalve (req : Requester) (w : Nat)
  /-- REVOKE_DBG (R499): LCY_CMD REVOKE_DBG revokes the DBG permission. -/
  | revokeDbg (req : Requester) (w : Nat)
  /-- HELLO (R506): Mailbox HELLO sets the mailbox version and returns identity. -/
  | hello (req : Requester) (w : Nat)
  /-- MBX_STATUS (R506): Mailbox STATUS returns zone modes, device properties and the last decided ZONE_MODE. -/
  | mbxStatus (req : Requester) (w : Nat)
  /-- ZONE_MODE (R507): Mailbox ZONE_MODE queues a zone mode request for a boundary, or refuses it. -/
  | zoneMode (req : Requester) (w : Nat)
  /-- MBX_SLEEP (R459): Mailbox SLEEP requests device dormancy and returns a sleep code. -/
  | mbxSleep (req : Requester) (w : Nat)
  /-- RING (R509): Mailbox RING configures and enables or disables a host ring. -/
  | ring (req : Requester) (w : Nat)
  /-- SYS_ZONE_REQ (R526): A triad write of SYS_ZONE_REQ.GO issues a zone mode request. -/
  | sysZoneReq (req : Requester) (w : Nat)
  /-- HOST_RING_WRITE (R510): A queued record is written to a host ring when it fits, followed by the head write-back. -/
  | hostRingWrite (ring : Nat)
  /-- HOST_RING_TAIL (R509): A host write of HOST_RING_TAIL frees ring room. -/
  | hostRingTail (req : Requester) (ring : Nat) (w : Nat)
  /-- RING_HOLDOFF_EXPIRY (R512): HOLDOFF µs after the first unsignalled record the ring signals its vector. -/
  | ringHoldoffExpiry (ring : Nat)
  /-- QSPI_READ (R518): HOST_QSPI_CMD READ reads flash into the buffer. -/
  | qspiRead (req : Requester) (w : Nat)
  /-- QSPI_PROG (R518): HOST_QSPI_CMD PROG programs up to 256 bytes within a page. -/
  | qspiProg (req : Requester) (w : Nat)
  /-- ERASE4K (R518): HOST_QSPI_CMD ERASE4K erases a 4 KiB sector. -/
  | erase4k (req : Requester) (w : Nat)
  /-- ERASE64K (R518): HOST_QSPI_CMD ERASE64K erases a 64 KiB block. -/
  | erase64k (req : Requester) (w : Nat)
  /-- BLOCK_LOCK (R11): A write of 1 to a block's LOCK bit locks its RWL fields until reset. -/
  | blockLock (req : Requester) (addr : Nat) (w : Nat)
  /-- REGISTER_WRITE (R12): A write to a register without a row of its own sets fields by access code or is refused and logged. -/
  | registerWrite (by_ : Access) (addr : Nat) (w : Nat)
  /-- MEMORY_SELF_TEST_DONE (R478): The start-up memory self-test ends with restored retained regions and a pass or a held reset with the failure record. -/
  | memorySelfTestDone (us : Nat) (fail : Option FailRec)
  /-- DRAM_TRAINING_DONE (R475): DRAM training completes with SIZE and TRAINED set, or fails and holds the device in reset with phase DRAM. -/
  | dramTrainingDone (size : Nat) (fail : Option FailRec)
  /-- DRAM_WIPE_DONE (R481): The wipe of the whole populated DRAM completes, initialising ECC and the ledger, and secure boot starts. -/
  | dramWipeDone (fail : Option FailRec)
  /-- BOOT_VERDICT (R483): Secure boot reaches its verdict on copy A or B, starting the triad and releasing FAULT_N or halting in BOOT. -/
  | bootVerdict (okA : Bool) (okB : Bool)
  /-- FLOE_NO_SIGNAL (R75): 10 ms without upstream lock in ALIGN sets NO_SIGNAL. -/
  | floeNoSignal (port : Nat)
  /-- TCM_SCRUB (R290): The scrubber reads and corrects one TCM word. -/
  | tcmScrub (flaw : Nat)
  /-- BRAKE_FEEDBACK_FAULT (R415): BRAKE_FB not following BRAKE within FB_MS locks the axis out with cause FEEDBACK. -/
  | brakeFeedbackFault (axis : Nat)
  /-- BISTREC (R468): Thaw BISTREC returns the self-test failure record while held in reset. -/
  | bistrec (n : Nat)
  /-- HOST_TEST_DONE (R489): A host-requested memory test ends with a wipe and HOST_DONE or HOST_FAIL. -/
  | hostTestDone (fail : Option FailRec)
  /-- EXTEST (R496): Boundary-scan EXTEST instruction, permitted while RST_N is held low. -/
  | extest (rstLow : Bool)
  /-- HIGHZ (R496): Boundary-scan HIGHZ instruction, permitted while RST_N is held low. -/
  | highz (rstLow : Bool)
  /-- HOST_LINK_DOWN (R503): A PCIe fundamental reset or link loss stops the rings and resets the mailbox version. -/
  | hostLinkDown (fundamental : Bool)
  /-- DRC_UE (R513): An uncorrectable DRAM error returns POISON, marks the word and raises DRC_UE. -/
  | drcUe (addr : Nat) (reader : Option Requester)
  /-- DRC_RANK (R515): A DRAM rank exceeding its error limit or failing calibration is marked failed. -/
  | drcRank (rank : Nat) (cause : Nat)
  /-- RIME_ACTIVITY (R341): Comma lock or a character with a code or disparity error on a non-fenced Rime channel counts as activity and restarts the CS_WAIT listen timer. -/
  | rimeActivity (ch : Nat)
  /-- TJ_HOLD_RELEASE (R538): Tj falling below 120 °C ends the hardware hold in power-on reset that began at 135 °C. -/
  | tjHoldRelease (calve : Bool) (rank : Bool)
  /-- BRAKE_FB_FOLLOWS (R429): BRAKE_FB[n] following BRAKE[n] moves an ARMING axis to RUN, or a STOPPING axis to switches off and OFF. -/
  | brakeFbFollows (axis : Nat)
  /-- HOST_LINK_UP (R7): The PCIe link finishes training to the highest common width and rate and sets LINK_UP, SPEED and WIDTH. -/
  | hostLinkUp (speed : Nat) (width : Nat)
  /-- PATROL_SCRUB (R514): The DRAM patrol scrubber reads and corrects a populated word, marks an uncorrectable word and counts completed passes. -/
  | patrolScrub (addr : Nat) (flaw : Nat) (last : Bool)
  /-- FUSE_STEP_DONE (R494): The fuse writes of an accepted life-cycle transition complete and the device resets with the life-cycle source, or LCY_E_FUSE is set. -/
  | fuseStepDone (ok : Bool) (calve : Bool) (rank : Bool)
  /-- SUPERFRAME_DEADLINE (R16): At Tk + 3 µs a port whose superframe is incomplete or bad counts it missing, flags readings STALE and marks the brick lost after a second miss. -/
  | superframeDeadline
  /-- COMMIT_POINT (R17): At Tk + 6 µs staged host and triad writes, commands, mode changes and image loads take effect together in arrival order, and late readings are handled. -/
  | commitPoint
  /-- COMMAND_ASSEMBLY (R142): At Tk + 40 µs the CONTROL window ends, incomplete groups are rolled back, barriers are checked and command slots are assembled with Serac state, netting, limits and ranging. -/
  | commandAssembly
  /-- COMMAND_FRAME_SEND (R83): At Tk + 44 µs a command frame leaves on every ACTIVE or LOST port, the tick-done event goes to the triad and incomplete groups are reported overrun. -/
  | commandFrameSend
  /-- VARIANT_SWITCH (R60): At an agreed mode-change boundary the bound variant becomes active, or VAR_MISS makes the device ISOLATED. -/
  | variantSwitch
  /-- CONFIRM_TIMEOUT (R58): 30 s in ARMED without a completed two-step reset returns confirmation to UNCONFIRMED. -/
  | confirmTimeout
  /-- CONFIRMATION_RECORD_WRITE (R417): The confirmation record is written to both flash copies within 1 s of confirmation. -/
  | confirmationRecordWrite
  /-- CAL_CAPTURE_DONE (R114): After 2^LOG2N summed readings a calibration capture completes and holds Z or F. -/
  | calCaptureDone
  /-- LEDGER_FOLD (R129): The fold of a cycle adds grading partials, writes back the step working set, appends queued events and computes results, marks and evaluations. -/
  | ledgerFold
  /-- FOLD_LATE (R129): A fold not complete before the first tick of cycle N + 2 carries partials forward, sets FOLD_LATE and raises a NOTE. -/
  | foldLate
  /-- FLUSH_DONE (R131): A ledger flush completes and FLUSH_BUSY clears. -/
  | flushDone
  /-- BUS_LEVEL_STEP_DOWN (R238): After 20 tick means below the entry threshold minus hysteresis the bus level steps down one level. -/
  | busLevelStepDown
  /-- CHOP_TEST_DUE (R246): Every 10 s a chopper test falls due and runs at a permitted cycle boundary or is skipped. -/
  | chopTestDue
  /-- CHOP_TEST_END (R246): After TEST_US the chopper pulse ends and Δ gives a pass or a failure. -/
  | chopTestEnd
  /-- CHOP_UNTESTED (R247): No passed test within 30 s of one falling due sets CHOP_FAULT and UNTESTED. -/
  | chopUntested
  /-- WDOG_TIMEOUT (R299): A missed watchdog period raises TRI_WDOG. -/
  | wdogTimeout
  /-- SHADOW_CLOSE (R316): A reaction shadow closes at the tick edge after its SHADOW ticks. -/
  | shadowClose
  /-- FAULT_PULSE_END (R319): The 1 ms FAULT_N pulse ends and a pending release takes effect. -/
  | faultPulseEnd
  /-- EVENT_RING_WRITE (R323): A queued event entry is written to the event ring, overwriting the oldest unread entry when full. -/
  | eventRingWrite
  /-- RIME_REF_TX (R354): A time master sends its reference frame in its reference slot. -/
  | rimeRefTx
  /-- RIME_DOWNLINK_TX (R370): A gateway sends its downlink frame in the downlink slot of every cycle. -/
  | rimeDownlinkTx
  /-- TIME_OFFSET_CORRECTION (R356): At 850 µs of a cycle the offset correction C is formed for spreading over the next cycle. -/
  | timeOffsetCorrection
  /-- TIME_RATE_CORRECTION (R357): At the end of a cycle ≡ 15 mod 16 the rate correction is updated. -/
  | timeRateCorrection
  /-- RIMEL_SYNC_LOSS (R349): An integrated controller loses synchronisation on a loss cause and the device becomes ISOLATED. -/
  | rimelSyncLoss
  /-- MODE_CHANGE_EVAL (R364): At the end of cycle c + 2 a segment judges the mode change agreed or lapsed. -/
  | modeChangeEval
  /-- LINE_MODE_CHANGE_EVAL (R365): At the end of the gateway slots of T + 2 each gateway judges the line mode change agreed or lapsed. -/
  | lineModeChangeEval
  /-- TIME_ISO_LIMIT (R362): 2,000 ISOLATED cycles raise TIME_ISO_LIMIT and PRODUCTION zones enter hold. -/
  | timeIsoLimit
  /-- SCH_TICK_TX (R379): At Tk + 28 µs the device sends its schrund TICK frame with its state and orders. -/
  | schTickTx
  /-- SCH_TICK_DEADLINE (R380): A tick without a valid TICK frame by Tk + 30 µs is a miss, and two misses lose the heartbeat. -/
  | schTickDeadline
  /-- INPUT_GAP (R383): A missing or mismatching CLOSE by its deadline sets INPUT_GAP and detaches the STANDBY device. -/
  | inputGap
  /-- OWNERSHIP_CLAIM (R377): After PAIR_PEER_N has been high for 2 µs the device drives PAIR_OWN_N low. -/
  | ownershipClaim
  /-- JOIN_TIMEOUT (R396): A join not complete in 10 s sets JOIN_FAIL. -/
  | joinTimeout
  /-- JOIN_RETRY (R396): 1 s after a failed join the join is retried while JOIN_EN is set. -/
  | joinRetry
  /-- SAFE_EVAL_LATE (R407): A verdict missing at Tk + 20 µs turns every safe output off and raises SAFE_EVAL_LATE. -/
  | safeEvalLate
  /-- AUX_CAPTURE_TIMEOUT (R450): A capture without its conversions within 100 ms fails with AUX_CAL_E_NORES. -/
  | auxCaptureTimeout
  /-- SLEEP_ENTRY_COMPLETE (R460): Dormancy entry finishes with the domains off and STATE DORMANT, starting a latched wake. -/
  | sleepEntryComplete
  /-- THAW_ADDRESS_MATCH (R462): An address match on the thaw wake address in dormancy starts a wake. -/
  | thawAddressMatch
  /-- WAKE_N_ASSERT (R462): WAKE_N held low for 10 µs starts a wake. -/
  | wakeNAssert
  /-- AON_TIMER_EXPIRY (R462): The AON timer reaching zero starts a wake. -/
  | aonTimerExpiry
  /-- DOMAIN_READY_TIMEOUT (R463): A domain not ready within 2 ms is switched off for a retry, or the wake fails after four attempts. -/
  | domainReadyTimeout
  /-- DOMAIN_RETRY (R463): After 1 ms off a failed domain is switched on again. -/
  | domainRetry
  /-- REFCLK_LOSS (R466): Loss of REFCLK moves the time base to the internal RC and raises PWR_REFCLK_LOSS. -/
  | refclkLoss
  /-- REFCLK_RESTORED (R465): REFCLK within limits for 1 ms moves the device to it at the next tick edge and clears WAKE_DEGRADED. -/
  | refclkRestored
  /-- THAW_STATUS (R468): Thaw STATUS returns 8 bytes of power, wake and zone-request state. -/
  | thawStatus
  /-- THAW_ID (R468): Thaw ID returns the vendor and device identity. -/
  | thawId
  /-- SUPPLY_FALL (R534): A rail falling through its threshold causes a power-on reset within 2 µs. -/
  | supplyFall
  /-- BYPASS (R496): Boundary-scan BYPASS instruction, also taken for gated instructions. -/
  | bypass
  /-- IDCODE (R496): Boundary-scan IDCODE instruction returning 0x1409_6A95. -/
  | idcode
  /-- SAMPLE_PRELOAD (R496): Boundary-scan SAMPLE/PRELOAD instruction. -/
  | samplePreload
  /-- TESTMODE (R497): Private TESTMODE instruction runs the icefall, clears keys, wipes memories and enables internal scan. -/
  | testmode
  /-- QSPI_DONE (R518): A flash command completes, sets QDONE and signals vector 13. -/
  | qspiDone
  /-- DRC_SCRUB_LATE (R514): A patrol scrub pass not complete within twice HOURS sets SCRUB_LATE. -/
  | drcScrubLate
  /-- GCLK_RESTORED (R348): GCLK back within limits for 1 ms allows the guardian to be armed again. -/
  | gclkRestored
  /-- ICEFALL_BRAKE_MS (R313): At t0 + MOR_ICE_CFG.BRAKE_MS every BRAKE output not yet de-energised at standstill is de-energised. -/
  | icefallBrakeMs
  /-- PAIR_PEER_N_FALL (R399): PAIR_PEER_N going low makes a device in safe state stop its Floe command frames and TICK markers, and marks the partner's claim. -/
  | pairPeerNFall
  /-- SRAM_WIPE_DONE (R481): The start-up SRAM wipe completes and DRAM training begins. -/
  | sramWipeDone
deriving DecidableEq, Repr

end Sys2Proof
end

