-- ==== Sys2Proof/Decode.lean ====
section
/-!
DEFINITION. The command that a word spells by the bits of the table of operations and events. No row of that table gives
bits: its rows are operations and events, which reach the block as register accesses, frames, pins and times.
-/
namespace Sys2Proof

/-- The command a word of `nbits` bits spells: none, since no row of the table gives an encoding. -/
def decodeTableWord (_nbits _w : Nat) : Option Instr := none

end Sys2Proof
end

