-- ==== Sys2Proof/Config.lean ====
section
/-!
DEFINITION. The free values of the model: constants with no body, so that nothing can evaluate them and a statement
about them holds whatever they are. `Config.freeNat` is applied to the counter `Dev.free`, which every use advances.
-/
namespace Sys2Proof

/-- A value the spec leaves open, fresh at each use (log entry 7). -/
opaque Config.freeNat : Nat → Nat

/-- The value of a register of core 0, which the debugger reads (R296): by the place of the counter of free values where the
cores ran last, and the register's number (log entry 49). -/
opaque Config.coreReg : Nat → Nat → Nat

/-- A stored sample carried to another range (R110) where no sample is equal in calibrated terms: the new gain, full scale or
sum of taps is 0. The arguments are the sample, both calibration entries' gain and offset, both full scales and the sum of
the profile's taps (log entry 8). -/
opaque Config.rescaleSample : List Int → Int

/-- The commanded current as a sample of the new range (R110) where no sample has its calibrated value: the gain, full scale
or sum of taps is 0. The arguments are the block, the calibration entry, the setpoints and the sum of taps (log entry 8). -/
opaque Config.commandSample : List Int → Int

/-- The instant within a sample block at which an interpolated setpoint is taken (R110), in 65,536ths of the block, modulo
65,537, of the block and both setpoints (log entry 8). -/
opaque Config.blockInstant : Nat → Int → Int → Nat

/-- Which of the two integers next to a quotient that is no integer stands for it, where a rule gives a whole-number
quantity and no direction of rounding: even the lower, odd the upper (log entry 22). The arguments are the quotient's
numerator and denominator. -/
opaque Config.openRound : Int → Int → Nat

/-- The class digest of R388: the state is serialised in an order the spec leaves to the stepping. The arguments are the
class and its state (log entry 70). -/
opaque Config.classDigest : Nat → List Nat → Nat

/-- The set that the ledger cache's hash selects for a line (R131), modulo 3,584: the spec names a hash and does not print it
(log entry 227). -/
opaque Config.cacheSet : Nat → Nat

/-- The way that a full set of the ledger cache gives up, modulo 16, of the set and its lines: the spec states no rule of
replacement (log entry 227). -/
opaque Config.cacheVictim : Nat → List (Nat × Bool) → Nat

/-- A byte of a channel descriptor, which the loader writes to an engine's X memory (R213) and whose contents the spec does
not give: of the image, the engine, the channel and the byte's number (log entry 145). -/
opaque Config.descriptorByte : List Byte → Nat → Nat → Nat → Nat

/-- A byte of the working area that the ROM kernels keep in an engine's Y memory (R213), whose contents the spec does not
give: of the counter of free values, the tick, the engine and the address (log entry 145). -/
opaque Config.romWorkByte : Nat → Nat → Nat → Nat → Nat

/-- The provisioning key of the boot ROM (R492), a P-384 public key that the spec does not print. -/
opaque Config.provisioningKey : Nat × Nat

end Sys2Proof
end

