-- ==== Sys2Proof/Machine/Maps.lean ====
section
/-!
DEFINITION. Canonical sparse maps, byte memories, bit fields, fixed-point helpers and the check sums the spec names
(CRC-32C and CRC-32 of R7, the CRC-64 of R389, CRC-8). A sparse map is a list of (key, value) pairs with strictly
rising keys that lists no entry equal to what an unlisted key reads as, so that equal contents are equal data.
-/
namespace Sys2Proof.Machine

/-- A sparse map from keys to values, in canonical form. -/
abbrev SMap (α : Type) := List (Nat × α)

/-- The value listed at a key. -/
def SMap.find {α : Type} : SMap α → Nat → Option α
  | [], _ => none
  | (k', v) :: m, k => if k' = k then some v else SMap.find m k

/-- List a value at a key, in order. -/
def SMap.put {α : Type} : SMap α → Nat → α → SMap α
  | [], k, v => [(k, v)]
  | (k', v') :: m, k, v =>
    if k' = k then (k, v) :: m
    else if k < k' then (k, v) :: (k', v') :: m
    else (k', v') :: SMap.put m k v

/-- Unlist a key. -/
def SMap.del {α : Type} : SMap α → Nat → SMap α
  | [], _ => []
  | (k', v') :: m, k => if k' = k then SMap.del m k else (k', v') :: SMap.del m k

/-- Read a key; an unlisted key reads as `dflt`. -/
def SMap.get {α : Type} (dflt : α) (m : SMap α) (k : Nat) : α := (SMap.find m k).getD dflt

/-- Write a key, keeping the canonical form: writing what an unlisted key reads as removes the entry. -/
def SMap.set {α : Type} [DecidableEq α] (dflt : α) (m : SMap α) (k : Nat) (v : α) : SMap α :=
  if v = dflt then SMap.del m k else SMap.put m k v

/-- Change the value at a key by a function. -/
def SMap.mod {α : Type} [DecidableEq α] (dflt : α) (m : SMap α) (k : Nat) (f : α → α) : SMap α :=
  SMap.set dflt m k (f (SMap.get dflt m k))

/-- Strictly rising keys, all above a bound. -/
def SMap.sortedAbove {α : Type} : Nat → SMap α → Bool
  | _, [] => true
  | b, (k, _) :: m => decide (b < k) && SMap.sortedAbove k m

/-- Strictly rising keys. -/
def SMap.sorted {α : Type} : SMap α → Bool
  | [] => true
  | (k, _) :: m => SMap.sortedAbove k m

/-- The canonical form: rising keys, and no entry equal to what an unlisted key reads as. -/
def SMap.wf {α : Type} [DecidableEq α] (dflt : α) (m : SMap α) : Bool :=
  SMap.sorted m && m.all (fun e => decide (e.2 ≠ dflt))

/-- A byte memory: the listed cells, in canonical form. -/
abbrev Memory := List Host.Cell

/-- What a byte of memory that nothing has written reads as: zero. R481 and R133 give zero after the start-up wipe;
before it the spec gives no value. DESIGN CHOICE (log entry 3, unsafe before the wipe). -/
def Memory.unlisted : BitVec 8 := 0

/-- The canonical form of a byte memory. -/
def Memory.wf (m : Memory) : Bool := SMap.wf Memory.unlisted m

/-- Read one byte. -/
def Memory.readByte (m : Memory) (a : Nat) : BitVec 8 := SMap.get Memory.unlisted m a

/-- Write one byte. -/
def Memory.writeByte (m : Memory) (a : Nat) (b : BitVec 8) : Memory := SMap.set Memory.unlisted m a b

/-- Read `n` bytes as one little-endian number (R8). -/
def Memory.readLE (m : Memory) (a : Nat) : Nat → Nat
  | 0 => 0
  | n + 1 => (Memory.readByte m a).toNat + 256 * Memory.readLE m (a + 1) n

/-- Write a number as `n` little-endian bytes (R8). -/
def Memory.writeLE (m : Memory) (a : Nat) : Nat → Nat → Memory
  | 0, _ => m
  | n + 1, v => Memory.writeLE (Memory.writeByte m a (BitVec.ofNat 8 v)) (a + 1) n (v / 256)

/-- Write a list of bytes from an address up. -/
def Memory.writeList (m : Memory) (a : Nat) : List (BitVec 8) → Memory
  | [] => m
  | b :: bs => Memory.writeList (Memory.writeByte m a b) (a + 1) bs

/-- Read a list of `n` bytes. -/
def Memory.readList (m : Memory) (a : Nat) : Nat → List (BitVec 8)
  | 0 => []
  | n + 1 => Memory.readByte m a :: Memory.readList m (a + 1) n

/-- Unlist every byte of a range (the wipe of a range to what an unlisted byte reads as). -/
def Memory.clearRange (m : Memory) (a n : Nat) : Memory := m.filter (fun e => decide (e.1 < a ∨ a + n ≤ e.1))

/-- Bits `[lo + n - 1 : lo]` of a number. -/
def bits (w lo n : Nat) : Nat := w / 2 ^ lo % 2 ^ n

/-- One bit of a number. -/
def bit (w i : Nat) : Bool := w / 2 ^ i % 2 == 1

/-- A number with one bit set or cleared. -/
def setBit (w i : Nat) (b : Bool) : Nat :=
  if bit w i == b then w else if b then w + 2 ^ i else w - 2 ^ i

/-- The number of a truth value. -/
def b2n (b : Bool) : Nat := if b then 1 else 0

/-- The signed value of an `n`-bit two's-complement number. -/
def toS (n w : Nat) : Int :=
  let v := w % 2 ^ n
  if 2 * v < 2 ^ n then (v : Int) else (v : Int) - (2 : Int) ^ n

/-- The `n`-bit two's-complement number of an integer, wrapping. -/
def ofS (n : Nat) (x : Int) : Nat := (x % (2 : Int) ^ n).toNat

/-- Saturate an integer to a signed `n`-bit range. -/
def satS (n : Nat) (x : Int) : Int :=
  let hi : Int := (2 : Int) ^ (n - 1) - 1
  let lo : Int := -((2 : Int) ^ (n - 1))
  if x > hi then hi else if x < lo then lo else x

/-- Clamp an integer between two bounds. -/
def clampI (lo hi x : Int) : Int := if x < lo then lo else if x > hi then hi else x

/-- round(a / b) for b > 0: to the nearest integer, halves away from zero (R556). -/
def roundDiv (a b : Int) : Int :=
  if 0 ≤ a then (2 * a + b).fdiv (2 * b) else -((2 * (-a) + b).fdiv (2 * b))

/-- Arithmetic shift right, rounding down. -/
def asr (x : Int) (n : Nat) : Int := x.fdiv ((2 : Int) ^ n)

/-- Add to a counter that saturates at `n` bits. -/
def satAdd (n a b : Nat) : Nat := if a + b < 2 ^ n then a + b else 2 ^ n - 1

/-- Add to a counter that wraps at `n` bits. -/
def wrapAdd (n a b : Nat) : Nat := (a + b) % 2 ^ n

/-- The integer square root by bit-wise search: the greatest r with r² ≤ x, below 2^n. -/
def isqrt (n x : Nat) : Nat :=
  (List.range n).foldl (fun r i => let t := r + 2 ^ (n - 1 - i); if t * t ≤ x then t else r) 0

/-- Big-endian bytes as a number (frames: most significant byte first, R8). -/
def beNat (bs : List (BitVec 8)) : Nat := bs.foldl (fun a b => 256 * a + b.toNat) 0

/-- Little-endian bytes as a number. -/
def leNat (bs : List (BitVec 8)) : Nat := bs.foldr (fun b a => b.toNat + 256 * a) 0

/-- A number as `n` big-endian bytes. -/
def natBE : Nat → Nat → List (BitVec 8)
  | 0, _ => []
  | n + 1, v => BitVec.ofNat 8 (v / 256 ^ n) :: natBE n v

/-- A number as `n` little-endian bytes. -/
def natLE : Nat → Nat → List (BitVec 8)
  | 0, _ => []
  | n + 1, v => BitVec.ofNat 8 v :: natLE n (v / 256)

/-- Bytes `[o, o + n)` of a byte string. -/
def sub (bs : List (BitVec 8)) (o n : Nat) : List (BitVec 8) := (bs.drop o).take n

/-- A big-endian field of a frame at a byte offset. -/
def beAt (bs : List (BitVec 8)) (o n : Nat) : Nat := beNat (sub bs o n)

/-- A little-endian field of an image at a byte offset. -/
def leAt (bs : List (BitVec 8)) (o n : Nat) : Nat := leNat (sub bs o n)

/-- One step of a reflected CRC over one bit. -/
def crcBitR (poly crc : Nat) : Nat := if crc % 2 = 1 then (crc / 2) ^^^ poly else crc / 2

/-- A reflected CRC register after one byte. -/
def crcByteR (poly crc : Nat) (b : BitVec 8) : Nat :=
  (List.range 8).foldl (fun c _ => crcBitR poly c) (crc ^^^ b.toNat)

/-- CRC-32C of R7: polynomial 0x1EDC_6F41, initial all ones, reflected, final inversion. -/
def crc32c (bs : List (BitVec 8)) : Nat := (bs.foldl (crcByteR 0x82F63B78) 0xFFFFFFFF) ^^^ 0xFFFFFFFF

/-- CRC-32 of R7: polynomial 0x04C1_1DB7 with the parameters of IEEE 802.3. -/
def crc32 (bs : List (BitVec 8)) : Nat := (bs.foldl (crcByteR 0xEDB88320) 0xFFFFFFFF) ^^^ 0xFFFFFFFF

/-- One most-significant-first CRC step over one bit of an `n`-bit register. -/
def crcBitM (n poly crc : Nat) : Nat :=
  if bit crc (n - 1) then ((2 * crc) % 2 ^ n) ^^^ poly else (2 * crc) % 2 ^ n

/-- A most-significant-first CRC register after one byte. -/
def crcByteM (n poly crc : Nat) (b : BitVec 8) : Nat :=
  (List.range 8).foldl (fun c _ => crcBitM n poly c) (crc ^^^ (b.toNat * 2 ^ (n - 8)))

/-- Every `i < n` that satisfies `p`, in rising order. -/
def sel (n : Nat) (p : Nat → Bool) : List Nat := (List.range n).filter p

/-- Fold a state through a list of indices. -/
def each {σ : Type} (l : List Nat) (s : σ) (f : σ → Nat → σ) : σ := l.foldl f s

end Sys2Proof.Machine
end

