-- ==== Sys2Proof/Machine/Crypto.lean ====
section
/-!
DEFINITION. The cryptographic functions the spec names by their standards (R7): SHA-384 of FIPS 180-4, ECDSA
verification on P-384 of FIPS 186-4, AES-128 of FIPS 197 and its CMAC of SP 800-38B. Their inner tables come from
those standards, not from the spec's own pages: PRESUMED (log entry 5).
-/
namespace Sys2Proof.Machine

/-- The greatest r below 2^n with r³ ≤ x. -/
def icbrt (n x : Nat) : Nat :=
  (List.range n).foldl (fun r i => let t := r + 2 ^ (n - 1 - i); if t * t * t ≤ x then t else r) 0

/-- Whether a number below 1,000 is prime. -/
def isPrimeSmall (n : Nat) : Bool := decide (2 ≤ n) && (List.range n).all (fun d => decide (d < 2) || decide (n % d ≠ 0))

/-- The first `n` primes at or above `p`, with fuel. -/
def primesFrom : Nat → Nat → Nat → List Nat
  | 0, _, _ => []
  | _, 0, _ => []
  | fuel + 1, n + 1, p => if isPrimeSmall p then p :: primesFrom fuel n (p + 1) else primesFrom fuel (n + 1) (p + 1)

/-- The 80 round constants of SHA-384: the first 64 bits of the fractional parts of cube roots of the first 80 primes. -/
def sha384K : List Nat := (primesFrom 500 80 2).map (fun p => icbrt 70 (p * 2 ^ 192) % 2 ^ 64)

/-- The initial hash of SHA-384: the first 64 bits of the fractional parts of the square roots of the 9th to 16th primes. -/
def sha384IV : List Nat := ((primesFrom 100 16 2).drop 8).map (fun p => isqrt 70 (p * 2 ^ 128) % 2 ^ 64)

/-- Rotate a 64-bit number right. -/
def rotr64 (x n : Nat) : Nat := (x / 2 ^ n + x * 2 ^ (64 - n)) % 2 ^ 64

/-- Complement of a 64-bit number. -/
def not64 (x : Nat) : Nat := 2 ^ 64 - 1 - x

/-- The padded message of SHA-384. -/
def sha384Pad (m : List (BitVec 8)) : List (BitVec 8) :=
  let z := (112 + 128 - (m.length + 1) % 128) % 128
  m ++ (128#8 :: List.replicate z 0#8) ++ natBE 16 (8 * m.length)

/-- The message schedule, newest word first. -/
def sha384Schedule (block : List (BitVec 8)) : List Nat :=
  let w0 := (List.range 16).map (fun i => beAt block (8 * i) 8)
  ((List.range 64).foldl (fun (w : List Nat) _ =>
    let a := w.getD 14 0
    let b := w.getD 1 0
    let s0 := rotr64 a 1 ^^^ rotr64 a 8 ^^^ (a / 2 ^ 7)
    let s1 := rotr64 b 19 ^^^ rotr64 b 61 ^^^ (b / 2 ^ 6)
    ((w.getD 15 0 + s0 + w.getD 6 0 + s1) % 2 ^ 64) :: w) w0.reverse).reverse

/-- One round of SHA-384 on the eight working variables. -/
def sha384Round (v : List Nat) (kw : Nat × Nat) : List Nat :=
  match v with
  | [a, b, c, d, e, f, g, h] =>
    let s1 := rotr64 e 14 ^^^ rotr64 e 18 ^^^ rotr64 e 41
    let ch := (e &&& f) ^^^ (not64 e &&& g)
    let t1 := h + s1 + ch + kw.1 + kw.2
    let s0 := rotr64 a 28 ^^^ rotr64 a 34 ^^^ rotr64 a 39
    let mj := (a &&& b) ^^^ (a &&& c) ^^^ (b &&& c)
    [(t1 + s0 + mj) % 2 ^ 64, a, b, c, (d + t1) % 2 ^ 64, e, f, g]
  | _ => v

/-- The hash state after one block. -/
def sha384Block (h : List Nat) (block : List (BitVec 8)) : List Nat :=
  let v := (sha384K.zip (sha384Schedule block)).foldl sha384Round h
  (h.zip v).map (fun p => (p.1 + p.2) % 2 ^ 64)

/-- The hash state after all blocks, with fuel for their number. -/
def sha384Blocks : Nat → List Nat → List (BitVec 8) → List Nat
  | 0, h, _ => h
  | n + 1, h, m => sha384Blocks n (sha384Block h (m.take 128)) (m.drop 128)

/-- SHA-384 (FIPS 180-4). -/
def sha384 (m : List (BitVec 8)) : List (BitVec 8) :=
  let p := sha384Pad m
  (((sha384Blocks (p.length / 128) sha384IV p).take 6).map (natBE 8)).flatten

/-- The prime of P-384. -/
def p384P : Nat := 2 ^ 384 - 2 ^ 128 - 2 ^ 96 + 2 ^ 32 - 1

/-- The order of P-384. -/
def p384N : Nat := 0xffffffffffffffffffffffffffffffffffffffffffffffffc7634d81f4372ddf581a0db248b0a77aecec196accc52973

/-- The coefficient b of P-384. -/
def p384B : Nat := 0xb3312fa7e23ee7e4988e056be3f82d19181d9c6efe8141120314088f5013875ac656398d8a2ed19d2a85c8edd3ec2aef

/-- The base point of P-384. -/
def p384G : Nat × Nat :=
  (0xaa87ca22be8b05378eb1c71ef320ad746e1d3b628ba79b9859f741e082542a385502f25dbf55296c3a545e3872760ab7,
   0x3617de4a96262c6f5d9e98bf9292dc29f8f41dbd289a147ce9da3113b5f0b8c00a60b1ce1d7e819d7a431d7c90ea0e5f)

/-- x^e mod m, over the low `bitsN` bits of e. -/
def powMod (m : Nat) : Nat → Nat → Nat → Nat
  | 0, _, _ => 1 % m
  | k + 1, x, e => let r := powMod m k (x * x % m) (e / 2); if e % 2 = 1 then r * x % m else r

/-- The inverse modulo a prime below 2^384. -/
def invMod (m x : Nat) : Nat := powMod m 384 x (m - 2)

/-- Point addition on P-384; `none` is the point at infinity. -/
def p384Add (a b : Option (Nat × Nat)) : Option (Nat × Nat) :=
  match a, b with
  | none, q => q
  | q, none => q
  | some (x1, y1), some (x2, y2) =>
    let p := p384P
    if x1 = x2 ∧ (y1 + y2) % p = 0 then none
    else
      let l := if x1 = x2 then (3 * x1 * x1 + (p - 3)) * invMod p (2 * y1) % p
               else (y2 + p - y1) * invMod p ((x2 + p - x1) % p) % p
      let x3 := (l * l + 2 * p - x1 - x2) % p
      some (x3, (l * (x1 + p - x3) + p - y1) % p)

/-- Scalar multiplication over the low `n` bits. -/
def p384Mul : Nat → Nat → Option (Nat × Nat) → Option (Nat × Nat)
  | 0, _, _ => none
  | n + 1, k, q =>
    let r := p384Mul n (k / 2) (p384Add q q)
    if k % 2 = 1 then p384Add r q else r

/-- Whether a point satisfies the curve equation. -/
def p384On (q : Nat × Nat) : Bool :=
  decide (q.1 < p384P ∧ q.2 < p384P ∧ q.2 * q.2 % p384P = (q.1 * q.1 * q.1 + (p384P - 3) * q.1 + p384B) % p384P)

/-- ECDSA P-384 verification with SHA-384 (FIPS 186-4). The key is (x, y). -/
def ecdsaVerify (key : Nat × Nat) (m : List (BitVec 8)) (r s : Nat) : Bool :=
  if p384On key && decide (0 < r ∧ r < p384N ∧ 0 < s ∧ s < p384N) then
    let e := beNat (sha384 m)
    let w := invMod p384N s
    match p384Add (p384Mul 384 (e * w % p384N) (some p384G)) (p384Mul 384 (r * w % p384N) (some key)) with
    | none => false
    | some (x, _) => decide (x % p384N = r)
  else false

/-- Multiplication in GF(2^8) with the AES polynomial. -/
def gfMul (a b : Nat) : Nat :=
  ((List.range 8).foldl (fun (s : Nat × Nat) i =>
    let acc := if bit b i then s.1 ^^^ s.2 else s.1
    let t := 2 * s.2
    (acc, if t < 256 then t else t ^^^ 0x11B)) (0, a)).1

/-- The AES S-box: inversion in GF(2^8), then the affine map. -/
def aesSbox (x : Nat) : Nat :=
  let x2 := gfMul x x
  let x4 := gfMul x2 x2
  let x8 := gfMul x4 x4
  let x16 := gfMul x8 x8
  let x32 := gfMul x16 x16
  let x64 := gfMul x32 x32
  let x128 := gfMul x64 x64
  let i := gfMul x128 (gfMul x64 (gfMul x32 (gfMul x16 (gfMul x8 (gfMul x4 x2)))))
  let rot := fun n => (i * 2 ^ n + i / 2 ^ (8 - n)) % 256
  i ^^^ rot 1 ^^^ rot 2 ^^^ rot 3 ^^^ rot 4 ^^^ 0x63

/-- The AES-128 key schedule: eleven round keys of 16 bytes, oldest first. -/
def aesKeys (key : List Nat) : List (List Nat) :=
  ((List.range 10).foldl (fun (s : List (List Nat) × Nat) _ =>
    let k := s.1.headD []
    let g := fun i => k.getD i 0
    let t := [aesSbox (g 13) ^^^ s.2, aesSbox (g 14), aesSbox (g 15), aesSbox (g 12)]
    let n := (List.range 16).foldl (fun (acc : List Nat) i =>
      acc ++ [g i ^^^ (if i < 4 then t.getD i 0 else acc.getD (i - 4) 0)]) []
    (n :: s.1, gfMul s.2 2)) ([key], 1)).1.reverse

/-- One AES round without the key: SubBytes, ShiftRows and, except in the last, MixColumns. -/
def aesRound (last : Bool) (st : List Nat) : List Nat :=
  let sr := (List.range 16).map (fun i => aesSbox (st.getD ((i + 4 * (i % 4)) % 16) 0))
  if last then sr else
    (List.range 16).map (fun i =>
      let c := 4 * (i / 4)
      let g := fun j => sr.getD (c + (i + j) % 4) 0
      gfMul (g 0) 2 ^^^ gfMul (g 1) 3 ^^^ g 2 ^^^ g 3)

/-- Bytewise exclusive or. -/
def xorL (a b : List Nat) : List Nat := (a.zip b).map (fun p => p.1 ^^^ p.2)

/-- AES-128 of one block (FIPS 197). -/
def aes128 (key block : List Nat) : List Nat :=
  match aesKeys key with
  | [] => block
  | k0 :: ks =>
    let n := ks.length
    (ks.zip (List.range n)).foldl (fun st ki => xorL (aesRound (decide (ki.2 + 1 = n)) st) ki.1) (xorL block k0)

/-- The CMAC subkey doubling. -/
def cmacDouble (b : List Nat) : List Nat :=
  let v := b.foldl (fun a x => 256 * a + x) 0
  let d := (2 * v) % 2 ^ 128
  (natBE 16 (if v < 2 ^ 127 then d else d ^^^ 0x87)).map (·.toNat)

/-- The CBC chain over the blocks of a message, the last one masked. -/
def cmacChain (key k1 k2 : List Nat) : Nat → List Nat → List Nat → List Nat
  | 0, st, _ => st
  | f + 1, st, m =>
    if m.length > 16 then cmacChain key k1 k2 f (aes128 key (xorL st (m.take 16))) (m.drop 16)
    else if m.length = 16 then aes128 key (xorL st (xorL m k1))
    else aes128 key (xorL st (xorL (m ++ [128] ++ List.replicate (15 - m.length) 0) k2))

/-- AES-128 CMAC (SP 800-38B). -/
def aesCmac (key m : List (BitVec 8)) : List (BitVec 8) :=
  let k := key.map (·.toNat)
  let l := aes128 k (List.replicate 16 0)
  let k1 := cmacDouble l
  (cmacChain k k1 (cmacDouble k1) (m.length / 16 + 1) (List.replicate 16 0) (m.map (·.toNat))).map (BitVec.ofNat 8)

end Sys2Proof.Machine
end

