-- ==== Sys2Proof/Machine/GraupelWord.lean ====
section
/-!
DEFINITION. The Graupel instruction word of R219 and R220: fields, opcodes, the register codes of R215, and the static
checks of R232 on a user kernel's code (reserved codes, branch targets, `REP` bodies of R222).
-/
namespace Sys2Proof.Machine

/-- The fields of a 64-bit instruction word below its opcode, R219. -/
structure GFields where
  a : Nat
  b : Nat
  c : Nat
  flg : Nat
  x : Nat
  y : Nat
deriving DecidableEq, Repr, Inhabited

/-- The opcode of a word. -/
def gOpc (w : Nat) : Nat := bits w 56 8

/-- The fields of a word. -/
def gFields (w : Nat) : GFields :=
  { a := bits w 50 6, b := bits w 44 6, c := bits w 38 6, flg := bits w 32 6, x := bits w 16 16, y := bits w 0 16 }

/-- What an operand field of an opcode names. -/
inductive GArg where
  | none | dst | src | acc | accPair | ay | ax | any
deriving DecidableEq, Repr

/-- The register codes that R215 lists. -/
def gRegOk (r : Nat) : Bool :=
  decide (r ≤ 0x13) || decide (0x18 ≤ r ∧ r ≤ 0x38)

/-- The registers that R215 marks read-only. -/
def gRegReadOnly (r : Nat) : Bool := [0x31, 0x32, 0x33, 0x34, 0x35, 0x38].contains r

/-- The width of a register, R215. -/
def gRegWidth (r : Nat) : Nat :=
  if r ≤ 0xF then 32 else if r ≤ 0x13 then 80 else if r ≤ 0x2F then 16
  else if r = 0x30 then 9 else if r = 0x31 then 12 else if r = 0x32 then 12
  else if r = 0x35 then 5 else if r = 0x37 then 4 else if r = 0x38 then 16 else 32

/-- One row of the instruction summary of R220: operand kinds, whether it carries an immediate, cycles, latency. -/
structure GRow where
  opc : Nat
  a : GArg
  b : GArg
  c : GArg
  imm : Bool
  cyc : Nat
  lat : Nat
deriving DecidableEq, Repr

/-- The instruction summary of R220. Branch costs are those of a branch not taken. -/
def gRows : List GRow :=
  [⟨0x00, .none, .none, .none, false, 1, 0⟩, ⟨0x01, .none, .none, .none, false, 1, 0⟩,
   ⟨0x02, .none, .none, .none, true, 1, 0⟩, ⟨0x08, .dst, .none, .none, true, 1, 1⟩,
   ⟨0x09, .dst, .none, .none, true, 1, 1⟩, ⟨0x0A, .dst, .src, .none, false, 1, 1⟩,
   ⟨0x0B, .dst, .none, .none, true, 1, 1⟩, ⟨0x10, .dst, .src, .src, false, 1, 1⟩,
   ⟨0x11, .dst, .src, .src, false, 1, 1⟩, ⟨0x12, .dst, .src, .src, false, 1, 1⟩,
   ⟨0x13, .dst, .src, .src, false, 1, 1⟩, ⟨0x14, .dst, .src, .src, false, 1, 1⟩,
   ⟨0x15, .dst, .src, .src, false, 1, 1⟩, ⟨0x16, .dst, .src, .src, false, 1, 1⟩,
   ⟨0x17, .dst, .src, .none, false, 1, 1⟩, ⟨0x18, .dst, .src, .src, false, 1, 1⟩,
   ⟨0x19, .dst, .src, .src, false, 1, 1⟩, ⟨0x1A, .dst, .src, .none, true, 1, 1⟩,
   ⟨0x1B, .dst, .src, .src, false, 1, 1⟩, ⟨0x1C, .dst, .src, .src, false, 12, 12⟩,
   ⟨0x1D, .dst, .src, .none, false, 1, 1⟩] ++
  [⟨0x20, .acc, .src, .src, false, 1, 1⟩, ⟨0x21, .acc, .src, .src, false, 1, 1⟩,
   ⟨0x22, .acc, .src, .src, false, 1, 1⟩, ⟨0x23, .accPair, .src, .src, false, 1, 1⟩,
   ⟨0x24, .ax, .ay, .any, false, 1, 1⟩, ⟨0x28, .acc, .none, .none, false, 1, 1⟩,
   ⟨0x29, .acc, .acc, .none, false, 1, 1⟩, ⟨0x2A, .acc, .src, .none, false, 1, 1⟩,
   ⟨0x2B, .dst, .acc, .src, false, 1, 1⟩, ⟨0x2C, .acc, .ay, .none, false, 1, 2⟩,
   ⟨0x2D, .ay, .acc, .none, false, 1, 0⟩, ⟨0x30, .dst, .none, .none, true, 1, 4⟩,
   ⟨0x31, .dst, .none, .none, true, 1, 4⟩, ⟨0x32, .src, .none, .none, true, 1, 0⟩,
   ⟨0x33, .src, .none, .none, true, 1, 0⟩, ⟨0x34, .acc, .none, .none, true, 1, 4⟩,
   ⟨0x35, .acc, .none, .none, true, 1, 0⟩, ⟨0x38, .dst, .src, .none, false, 1, 4⟩,
   ⟨0x40, .none, .none, .none, true, 3, 0⟩, ⟨0x41, .src, .none, .none, true, 1, 0⟩,
   ⟨0x42, .src, .none, .none, true, 1, 0⟩, ⟨0x43, .src, .none, .none, true, 1, 0⟩,
   ⟨0x44, .src, .none, .none, true, 1, 0⟩, ⟨0x45, .none, .none, .none, true, 1, 0⟩,
   ⟨0x48, .none, .none, .none, true, 2, 0⟩, ⟨0x49, .src, .none, .none, false, 2, 0⟩]

/-- The row of an opcode; opcodes not listed are reserved. -/
def gRow (opc : Nat) : Option GRow := gRows.find? (fun r => r.opc == opc)

/-- Whether a register code fits an operand kind, and is not reserved. -/
def gArgOk (k : GArg) (r : Nat) : Bool :=
  match k with
  | .none => true
  | .dst | .src | .any => gRegOk r
  | .acc => decide (0x10 ≤ r ∧ r ≤ 0x13)
  | .accPair => decide (r = 0x10 ∨ r = 0x12)
  | .ay => decide (0x1C ≤ r ∧ r ≤ 0x1F)
  | .ax => decide (0x18 ≤ r ∧ r ≤ 0x1B)

/-- A branch opcode. -/
def gIsBranch (opc : Nat) : Bool := decide (0x40 ≤ opc ∧ opc ≤ 0x45)

/-- A repeat opcode. -/
def gIsRep (opc : Nat) : Bool := decide (opc = 0x48 ∨ opc = 0x49)

/-- A move slot holds no reserved bit and, when valid, no reserved register code. -/
def gMoveOk (m : Nat) : Bool := decide (bits m 0 5 = 0) && (!bit m 15 || decide (bits m 9 5 ≤ 0x17))

/-- The reserved-field and register-code part of R232 for one word. -/
def gWordOk (w : Nat) : Bool :=
  match gRow (gOpc w) with
  | none => false
  | some r =>
    let f := gFields w
    gArgOk r.a f.a && gArgOk r.b f.b && gArgOk r.c f.c && (r.imm || gMoveOk f.x) && gMoveOk f.y &&
    (if gIsRep r.opc then true else if r.opc = 0x24 then decide (f.flg < 16) else decide (f.flg = 0))

/-- The repeat bodies of a kernel: first and last instruction of each. -/
def gBodies (code : List Nat) : List (Nat × Nat) :=
  (sel code.length (fun i => gIsRep (gOpc (code.getD i 0)))).map
    (fun i => (i + 1, i + 1 + bits (code.getD i 0) 32 6))

/-- R222 and the branch rules of R232 over a kernel's code. -/
def gCodeShapeOk (code : List Nat) : Bool :=
  let bs := gBodies code
  let n := code.length
  let inB := fun (i : Nat) (p : Nat × Nat) => decide (p.1 ≤ i ∧ i ≤ p.2)
  bs.all (fun p => decide (p.2 < n)) &&
  bs.all (fun p => bs.all (fun q => !(inB q.1 p) || decide (q.1 = p.1) || decide (q.2 ≤ p.2))) &&
  (List.range n).all (fun i => decide ((bs.filter (inB i)).length ≤ 4)) &&
  (List.range n).all (fun i =>
    let w := code.getD i 0
    if gIsBranch (gOpc w) then
      decide (bits w 16 16 < n) && bs.all (fun p => !(inB i p) && !(inB (bits w 16 16) p))
    else true) &&
  (match code.getLast? with
   | some w => decide (gOpc w = 0x01 ∨ gOpc w = 0x40)
   | none => false)

end Sys2Proof.Machine
end

