-- ==== Sys2Proof/Machine/ImageTypes.lean ====
section
/-!
DEFINITION. What a firn image holds once it is parsed: its sections and the records of R43 to R49, R53, R139, R236,
R257, R336, R368, R402, R421, R438, R455, R558 and R231. Every record keeps the image offset it was read at, which is
what `FIRN_ERROFF` names.
-/
namespace Sys2Proof.Machine

/-- A record header of R40: image offset, tag, length. -/
structure RecHdr where
  off : Nat
  tag : Nat
  len : Nat
deriving DecidableEq, Repr, Inhabited

/-- A section of R40. -/
structure Sect where
  typ : Nat
  off : Nat
  count : Nat
  len : Nat
  recs : List RecHdr
deriving DecidableEq, Repr, Inhabited

/-- Brick map record, R43. -/
structure BrickRec where
  off : Nat
  port : Nat
  zone : Nat
  floor : Nat
  base : Nat
  count : Nat
deriving DecidableEq, Repr, Inhabited

/-- Zone record, R45. -/
structure ZoneRec where
  off : Nat
  zone : Nat
  start : Nat
deriving DecidableEq, Repr, Inhabited

/-- Group record, R46. -/
structure GroupRec where
  off : Nat
  group : Nat
  zone : Nat
  program : Nat
  profile : Nat
  template : Nat
  kernel : Nat
  ranges : List (Nat × Nat)
deriving DecidableEq, Repr, Inhabited

/-- Decimation profile record, R48. -/
structure ProfRec where
  off : Nat
  profile : Nat
  coef : List Int
deriving DecidableEq, Repr, Inhabited

/-- Schedule entry, R49. -/
structure SchedRec where
  off : Nat
  engine : Nat
  window : Nat
  kernel : Nat
  first : Nat
  num : Nat
  phases : Nat
  cycCh : Nat
  cycSmp : Nat
deriving DecidableEq, Repr, Inhabited

/-- Span record, R139. -/
structure SpanRec where
  off : Nat
  first : Nat
  last : Nat
  lv : Nat
  li : Nat
deriving DecidableEq, Repr, Inhabited

/-- Serac template record, R257. -/
structure SeracRec where
  off : Nat
  template : Nat
  tempReq : Bool
  tripSense : Bool
  uvMode : Nat
  conf : Nat
  staleMax : Nat
  vMax : Int
  vMin : Int
  vRev : Int
  iChgMax : Nat
  iDisMax : Nat
  tMax : Int
  tFire : Int
  dvdtRise : Nat
  dvdtFall : Nat
  dtdtMax : Nat
  dvLog2 : Nat
  dtLog2 : Nat
  cdropMax : Nat
  qExp : Nat
  qPct : Nat
  act : Nat
  fireBits : Nat
deriving DecidableEq, Repr, Inhabited

/-- Segment schedule record, R336. -/
structure SegSched where
  off : Nat
  mode : Nat
  owner : List Nat
  sync : Nat
deriving DecidableEq, Repr, Inhabited

/-- Trunk record, R368. -/
structure TrunkRec where
  off : Nat
  mode : Nat
  gw : Nat
  tmaster : List Nat
deriving DecidableEq, Repr, Inhabited

/-- Live mask range record, R558. -/
structure LiveRec where
  off : Nat
  seg : Nat
  start : Nat
  len : Nat
deriving DecidableEq, Repr, Inhabited

/-- Safety input record, R402. -/
structure SafeInRec where
  off : Nat
  input : Nat
  typ : Nat
  tp : Nat
  filter : Nat
deriving DecidableEq, Repr, Inhabited

/-- Safety function record, R402. -/
structure SafeFuncRec where
  off : Nat
  func : Nat
  kind : Nat
  ins : List Nat
  reset : Nat
  lockOut : Nat
  zones : Nat
  disc : Nat
deriving DecidableEq, Repr, Inhabited

/-- Safety output record, R402. -/
structure SafeOutRec where
  off : Nat
  out : Nat
  testS : Nat
  funcs : Nat
deriving DecidableEq, Repr, Inhabited

/-- Guard mapping record, R402. -/
structure GuardRec where
  off : Nat
  zone : Nat
  action : Nat
  iAllow : Nat
deriving DecidableEq, Repr, Inhabited

/-- Brake record, R402. -/
structure BrakeRec where
  off : Nat
  axis : Nat
  testH : Nat
  fbMs : Nat
  moveLim : Nat
deriving DecidableEq, Repr, Inhabited

/-- Entry of an auxiliary sequence, R438. -/
structure AuxEnt where
  input : Nat
  ts : Nat
  gain : Nat
  count : Nat
  ilv : Bool
  pull : Nat
  pullI : Nat
deriving DecidableEq, Repr, Inhabited

/-- Auxiliary sequence record, R438; `words` are the entry words as they stand. -/
structure AuxRec where
  off : Nat
  conv : Nat
  trig : Nat
  nent : Nat
  axis : Nat
  tickOfs : Nat
  words : List Nat
deriving DecidableEq, Repr, Inhabited

/-- Axis descriptor record, R421. -/
structure AxisRec where
  off : Nat
  axis : Nat
  zone : Nat
  poles : Nat
  vertical : Bool
  encInv : Bool
  ke : Nat
  rs : Nat
  ls : Nat
  iMax : Nat
  tHold : Nat
  speedMax : Nat
  catchRpm : Nat
  stillRpm : Nat
  stillMs : Nat
  stopMs : Nat
  fPwm : Nat
  deadtime : Nat
  minWin : Nat
  bemfUs : Nat
  ainI : List Nat
  ainF : Nat
  ainV : List Nat
  iScale : Nat
  vScale : Nat
  fScale : Nat
  angOfs : Nat
  fMax : Nat
deriving DecidableEq, Repr, Inhabited

/-- Policy record, R455. -/
structure PolicyRec where
  off : Nat
  domain : Nat
  run : Nat
deriving DecidableEq, Repr, Inhabited

/-- Bus record, R236. -/
structure BusRec where
  off : Nat
  ain : Nat
  vNom : Nat
  warn : Nat
  chopOff : Nat
  chopOn : Nat
  curb : Nat
  trip : Nat
  low : Nat
  margin : Nat
  hyst : Nat
  scale : Nat
  exportMax : Nat
deriving DecidableEq, Repr, Inhabited

/-- User kernel record, R231. -/
structure KernRec where
  off : Nat
  kernel : Nat
  cls : Nat
  entry : Nat
  code : List Nat
  consts : List Nat
deriving DecidableEq, Repr, Inhabited

/-- A parsed firn image. `bytes` is the whole image, which R59 compares. -/
structure Image where
  bytes : List Byte := []
  format : Nat := 0
  variant : Nat := 0
  serial : Nat := 0
  ledgerVer : Nat := 0
  sects : List Sect := []
  bricks : List BrickRec := []
  zones : List ZoneRec := []
  groups : List GroupRec := []
  profs : List ProfRec := []
  sched : List SchedRec := []
  spans : List SpanRec := []
  serac : List SeracRec := []
  binding : List Nat := []
  segs : List SegSched := []
  trunks : List TrunkRec := []
  live : List LiveRec := []
  liveClasses : Nat := 0
  safeIns : List SafeInRec := []
  safeFuncs : List SafeFuncRec := []
  safeOuts : List SafeOutRec := []
  guards : List GuardRec := []
  brakes : List BrakeRec := []
  creset : Nat := 0xFF
  safeCheck : Nat := 0
  aux : List AuxRec := []
  axes : List AxisRec := []
  policy : List PolicyRec := []
  bus : Option BusRec := none
  kernels : List KernRec := []
deriving DecidableEq, Repr, Inhabited

end Sys2Proof.Machine
end

