-- ==== Sys2Proof/Machine/FirnLoad.lean ====
section
/-!
DEFINITION. The firn loader's checks: the header, signature and digest steps of R54, the walk of R557, the parsing of
every record, and the field and cross-reference checks of step 5, the budget of R52 and the preload comparison of R59.
Every check answers the first fault it meets as (code, offset); `none` is a pass.
-/
namespace Sys2Proof.Machine

/-- A loader fault: error code and byte offset. -/
abbrev FirnErr := Nat × Nat

/-- Fault unless the condition holds. -/
def need (ok : Bool) (code off : Nat) : Option FirnErr := if ok then none else some (code, off)

/-- The first fault of a list of checks. -/
def firstFault {α : Type} (l : List α) (f : α → Option FirnErr) : Option FirnErr := l.findSome? f

/-- The earliest offset among faults of one code, R50's "first offending entry". -/
def minFault (l : List FirnErr) : Option FirnErr :=
  l.foldl (fun acc e => match acc with | none => some e | some m => if e.2 < m.2 then some e else some m) none

/-- Check two by two: an element that clashes with an earlier one. -/
def clash {α : Type} (p : α → α → Bool) : List α → List α → Option α
  | _, [] => none
  | seen, x :: xs => if seen.any (fun y => p y x) then some x else clash p (x :: seen) xs

namespace FirnCode
def magic : Nat := 0x01
def version : Nat := 0x02
def length : Nat := 0x03
def noKey : Nat := 0x04
def signature : Nat := 0x05
def digest : Nat := 0x06
def sectionLength : Nat := 0x07
def recordLength : Nat := 0x08
def count : Nat := 0x09
def sectionType : Nat := 0x0A
def sectionDup : Nat := 0x0B
def sectionMissing : Nat := 0x0C
def value : Nat := 0x0D
def overlap : Nat := 0x0E
def group : Nat := 0x0F
def schedule : Nat := 0x10
def budget : Nat := 0x11
def safetyCrc : Nat := 0x12
def variantFixed : Nat := 0x13
def binding : Nat := 0x14
def mode : Nat := 0x15
def pair : Nat := 0x16
def slotBusy : Nat := 0x17
def busy : Nat := 0x18
def kernel : Nat := 0x19
end FirnCode

/-- The section types of R42: type, required, maximum records, version, may a variant differ. -/
def sectTable : List (Nat × Bool × Nat × Nat × Bool) :=
  [(1, true, 128, 1, false), (2, true, 16, 1, false), (3, true, 256, 1, true), (4, true, 32, 1, true),
   (5, true, 1024, 1, true), (6, true, 64, 1, false), (7, true, 64, 1, true), (8, true, 17, 1, true),
   (9, false, 129, 2, false), (10, true, 512, 1, false), (11, false, 8, 1, false), (12, false, 8, 1, false),
   (13, true, 16, 1, false), (14, false, 64, 3, true)]

/-- What a loader check needs from the device besides the image. -/
structure LoadCtx where
  paired : Bool          -- role ACTIVE or STANDBY, R38
  bufLen : Nat           -- FIRN_LEN
  keyMask : Nat          -- FIRN_KEYMASK
  keys : List (Option (Nat × Nat))   -- the firn key slots, none where a slot holds no key
  keysOn : Bool          -- the life-cycle state lets firn keys serve, R492
  netLocked : Option (Nat × Nat)     -- the locked NET_SENSE (AIN, SCALE), R236
deriving DecidableEq, Repr

/-- Step 1 of R54. -/
def checkHeader (b : List Byte) (c : LoadCtx) : Option FirnErr :=
  let imgLen := leAt b 8 4
  need (leAt b 0 4 == 0x4E524946) FirnCode.magic 0
  <|> need (decide (1 ≤ leAt b 4 2 ∧ leAt b 4 2 ≤ 3)) FirnCode.version 4
  <|> need (leAt b 6 2 == 96) FirnCode.length 6
  <|> need (!(c.paired && leAt b 4 2 == 1)) FirnCode.pair 4
  <|> need (decide (200 ≤ imgLen ∧ imgLen ≤ 0x400000 ∧ imgLen % 8 = 0)) FirnCode.length 8
  <|> need (decide (imgLen ≤ c.bufLen)) FirnCode.length 8
  <|> need (decide (leAt b 12 1 ≤ (if leAt b 4 2 = 1 then 0 else 3))) FirnCode.value 12
  <|> need (leAt b 13 1 == 0) FirnCode.value 13
  <|> need (leAt b 22 2 == 0) FirnCode.value 22
  <|> need (leAt b 24 8 == 0) FirnCode.value 24
  <|> need (leAt b 80 16 == 0) FirnCode.value 80

/-- Steps 2 and 3 of R54. -/
def checkSignature (b : List Byte) (c : LoadCtx) : Option FirnErr :=
  let n := leAt b 8 4
  let sb := n - 104
  let slot := leAt b (sb + 4) 2
  let key := if c.keysOn then (c.keys.getD slot none) else none
  need (leAt b sb 4 == 0x4E474953) FirnCode.magic sb
  <|> need (leAt b (sb + 6) 2 == 0) FirnCode.value (n - 98)
  <|> need (decide (slot ≤ 3) && key.isSome && bit c.keyMask slot) FirnCode.noKey (sb + 4)
  <|> need (ecdsaVerify (key.getD (0, 0)) (sub b 0 sb) (leAt b (sb + 8) 48) (leAt b (sb + 56) 48)) FirnCode.signature sb
  <|> need (decide (sha384 (sub b 96 (sb - 96)) = sub b 32 48)) FirnCode.digest 32

/-- The tags a section type defines, with the length each gives; `none` for a length that count fields give. -/
def tagLen (typ tag : Nat) : Option (Option Nat) :=
  match typ, tag with
  | 1, 0x0101 => some (some 12) | 2, 0x0201 => some (some 8) | 3, 0x0301 => some none
  | 4, 0x0401 => some (some 264) | 5, 0x0501 => some (some 20) | 6, 0x0601 => some (some 8)
  | 6, 0x0602 => some (some 8) | 7, 0x0701 => some (some 64) | 8, 0x0801 => some (some 12)
  | 8, 0x0802 => some (some 80) | 8, 0x0803 => some (some 44) | 9, 0x0901 => some (some 12)
  | 9, 0x0902 => some (some 8) | 10, 0x0A01 => some (some 8) | 10, 0x0A02 => some (some 16)
  | 10, 0x0A03 => some (some 12) | 10, 0x0A04 => some (some 12) | 10, 0x0A05 => some (some 12)
  | 10, 0x0A06 => some (some 8) | 10, 0x0AFF => some (some 8) | 11, 0x0B01 => some none
  | 12, 0x0C01 => some (some 72) | 13, 0x0D01 => some (some 8) | 13, 0x0D10 => some (some 48)
  | 14, 0x0E01 => some none
  | _, _ => none

/-- The length that the count fields of a record give, R557: `none` when the fixed part does not fit. -/
def countedLen (b : List Byte) (tag off len : Nat) : Option Nat :=
  if tag = 0x0301 then (if len < 16 then none else some (16 + 4 * leAt b (off + 11) 1))
  else if tag = 0x0B01 then (if len < 12 then none else some (12 + 4 * leAt b (off + 6) 1))
  else if len < 16 then none else some (16 + 8 * leAt b (off + 6) 2 + 4 * leAt b (off + 8) 2)

/-- The records of one section, R557; fuel is the record count. -/
def walkRecs (b : List Byte) (typ secOff secEnd : Nat) : Nat → Nat → List RecHdr → Except FirnErr (Nat × List RecHdr)
  | 0, o, acc => .ok (o, acc.reverse)
  | n + 1, o, acc =>
    if secEnd < o + 4 then .error (FirnCode.count, secOff + 2)
    else
      let tag := leAt b o 2
      let len := leAt b (o + 2) 2
      match tagLen typ tag with
      | none => .error (FirnCode.value, o)
      | some l =>
        if len < 4 ∨ len % 4 ≠ 0 ∨ secEnd < o + len then .error (FirnCode.recordLength, o + 2)
        else
          let want := match l with | some x => some x | none => countedLen b tag o len
          if want = some len then walkRecs b typ secOff secEnd n (o + len) (⟨o, tag, len⟩ :: acc)
          else .error (FirnCode.recordLength, o + 2)

/-- The walk of R557; fuel is the section count. -/
def walkSects (b : List Byte) (fmt fin : Nat) : Nat → Nat → List Sect → Except FirnErr (List Sect)
  | 0, o, acc => if o = fin then .ok acc.reverse else .error (FirnCode.count, 14)
  | n + 1, o, acc =>
    if fin ≤ o then .error (FirnCode.count, 14)
    else
      let typ := leAt b o 2
      let cnt := leAt b (o + 2) 2
      let len := leAt b (o + 4) 4
      if fin < o + 8 ∨ len < 8 ∨ len % 8 ≠ 0 ∨ fin < o + len then .error (FirnCode.sectionLength, o + 4)
      else
        match sectTable.find? (fun t => t.1 == typ && decide (t.2.2.2.1 ≤ fmt)) with
        | none => .error (FirnCode.sectionType, o)
        | some t =>
          if acc.any (fun s => s.typ == typ) then .error (FirnCode.sectionDup, o)
          else if t.2.2.1 < cnt then .error (FirnCode.count, o + 2)
          else
            match walkRecs b typ o (o + len) cnt (o + 8) [] with
            | .error e => .error e
            | .ok (e, rs) =>
              let rest := o + len - e
              if 8 ≤ rest then .error (FirnCode.sectionLength, o + 4)
              else
                match (List.range rest).find? (fun i => leAt b (e + i) 1 != 0) with
                | some i => .error (FirnCode.value, e + i)
                | none => walkSects b fmt fin n (o + len) (⟨typ, o, cnt, len, rs⟩ :: acc)

/-- Step 4 of R54. -/
def walkImage (b : List Byte) : Except FirnErr (List Sect) :=
  let n := leAt b 14 2
  if n < 1 ∨ 32 < n then .error (FirnCode.count, 14)
  else walkSects b (leAt b 4 2) (leAt b 8 4 - 104) n 96 []

/-- The records of a tag, in image order. -/
def recsOf (ss : List Sect) (tag : Nat) : List RecHdr := (ss.flatMap (·.recs)).filter (fun r => r.tag == tag)

/-- A signed little-endian 32-bit field. -/
def le32s (b : List Byte) (o : Nat) : Int := toS 32 (leAt b o 4)

def parseBrick (b : List Byte) (o : Nat) : BrickRec :=
  ⟨o, leAt b (o + 4) 1, leAt b (o + 5) 1, leAt b (o + 6) 1, leAt b (o + 8) 2, leAt b (o + 10) 1⟩

def parseZone (b : List Byte) (o : Nat) : ZoneRec := ⟨o, leAt b (o + 4) 1, leAt b (o + 5) 1⟩

def parseGroup (b : List Byte) (o : Nat) : GroupRec :=
  ⟨o, leAt b (o + 4) 1, leAt b (o + 5) 1, leAt b (o + 6) 1, leAt b (o + 7) 1, leAt b (o + 8) 1, leAt b (o + 9) 1,
   (List.range (leAt b (o + 11) 1)).map (fun i => (leAt b (o + 16 + 4 * i) 2, leAt b (o + 18 + 4 * i) 2))⟩

def parseProf (b : List Byte) (o : Nat) : ProfRec :=
  ⟨o, leAt b (o + 4) 1, (List.range 64).map (fun i => le32s b (o + 8 + 4 * i))⟩

def parseSched (b : List Byte) (o : Nat) : SchedRec :=
  ⟨o, leAt b (o + 4) 1, leAt b (o + 5) 1, leAt b (o + 6) 1, leAt b (o + 8) 2, leAt b (o + 10) 2, leAt b (o + 12) 4,
   leAt b (o + 16) 2, leAt b (o + 18) 2⟩

def parseSpan (b : List Byte) (o : Nat) : SpanRec :=
  ⟨o, leAt b (o + 4) 1, leAt b (o + 5) 1, leAt b (o + 6) 1, leAt b (o + 7) 1⟩

def parseSerac (b : List Byte) (o : Nat) : SeracRec :=
  let f := leAt b (o + 5) 1
  { off := o, template := leAt b (o + 4) 1, tempReq := bit f 0, tripSense := bit f 1, uvMode := bits f 2 2,
    conf := leAt b (o + 6) 1 % 16, staleMax := leAt b (o + 7) 1, vMax := le32s b (o + 8), vMin := le32s b (o + 12),
    vRev := le32s b (o + 16), iChgMax := leAt b (o + 20) 4, iDisMax := leAt b (o + 24) 4,
    tMax := toS 16 (leAt b (o + 28) 2), tFire := toS 16 (leAt b (o + 30) 2), dvdtRise := leAt b (o + 32) 4,
    dvdtFall := leAt b (o + 36) 4, dtdtMax := leAt b (o + 40) 2, dvLog2 := leAt b (o + 42) 1 % 16,
    dtLog2 := leAt b (o + 43) 1 % 16, cdropMax := leAt b (o + 44) 4, qExp := leAt b (o + 48) 4,
    qPct := leAt b (o + 52) 1, act := leAt b (o + 56) 4, fireBits := leAt b (o + 60) 2 }

def parseSeg (b : List Byte) (o : Nat) : SegSched :=
  ⟨o, leAt b (o + 4) 1, (List.range 64).map (fun i => leAt b (o + 8 + i) 1), leAt b (o + 72) 8⟩

def parseTrunk (b : List Byte) (o : Nat) : TrunkRec :=
  ⟨o, leAt b (o + 4) 1, leAt b (o + 8) 32, (List.range 4).map (fun i => leAt b (o + 40 + i) 1)⟩

def parseLive (b : List Byte) (o : Nat) : LiveRec := ⟨o, leAt b (o + 4) 2, leAt b (o + 6) 2, leAt b (o + 8) 2⟩

def parseSafeIn (b : List Byte) (o : Nat) : SafeInRec :=
  ⟨o, leAt b (o + 4) 1, leAt b (o + 5) 1, leAt b (o + 6) 1, leAt b (o + 7) 1⟩

def parseSafeFunc (b : List Byte) (o : Nat) : SafeFuncRec :=
  ⟨o, leAt b (o + 4) 1, leAt b (o + 5) 1, (List.range 4).map (fun i => leAt b (o + 6 + i) 1), leAt b (o + 10) 1,
   leAt b (o + 11) 1, leAt b (o + 12) 2, leAt b (o + 14) 2⟩

def parseSafeOut (b : List Byte) (o : Nat) : SafeOutRec := ⟨o, leAt b (o + 4) 1, leAt b (o + 5) 1, leAt b (o + 8) 4⟩

def parseGuard (b : List Byte) (o : Nat) : GuardRec := ⟨o, leAt b (o + 4) 1, leAt b (o + 5) 1, leAt b (o + 8) 4⟩

def parseBrake (b : List Byte) (o : Nat) : BrakeRec :=
  ⟨o, leAt b (o + 4) 1, leAt b (o + 5) 1, leAt b (o + 6) 1, leAt b (o + 8) 2⟩

def parseAux (b : List Byte) (o : Nat) : AuxRec :=
  ⟨o, leAt b (o + 4) 1, leAt b (o + 5) 1, leAt b (o + 6) 1, leAt b (o + 7) 1, leAt b (o + 8) 2,
   (List.range (leAt b (o + 6) 1)).map (fun i => leAt b (o + 12 + 4 * i) 4)⟩

/-- The fields of a sequence entry word, R438. -/
def auxEnt (w : Nat) : AuxEnt :=
  ⟨bits w 0 6, bits w 6 3, bits w 9 3, bits w 12 8 + 1, bit w 20, bits w 21 2, bits w 23 2⟩

def parseAxis (b : List Byte) (o : Nat) : AxisRec :=
  { off := o, axis := leAt b (o + 4) 1, zone := leAt b (o + 5) 1, poles := leAt b (o + 6) 1,
    vertical := bit (leAt b (o + 7) 1) 0, encInv := bit (leAt b (o + 7) 1) 1, ke := leAt b (o + 8) 4,
    rs := leAt b (o + 12) 4, ls := leAt b (o + 16) 4, iMax := leAt b (o + 20) 4, tHold := leAt b (o + 24) 4,
    speedMax := leAt b (o + 28) 2, catchRpm := leAt b (o + 30) 2, stillRpm := leAt b (o + 32) 1,
    stillMs := leAt b (o + 33) 1, stopMs := leAt b (o + 34) 2, fPwm := leAt b (o + 36) 2,
    deadtime := leAt b (o + 38) 2, minWin := leAt b (o + 40) 2, bemfUs := leAt b (o + 42) 2,
    ainI := (List.range 3).map (fun i => leAt b (o + 44 + i) 1), ainF := leAt b (o + 47) 1,
    ainV := (List.range 3).map (fun i => leAt b (o + 48 + i) 1), iScale := leAt b (o + 52) 4,
    vScale := leAt b (o + 56) 4, fScale := leAt b (o + 60) 4, angOfs := leAt b (o + 64) 2,
    fMax := leAt b (o + 68) 4 }

def parsePolicy (b : List Byte) (o : Nat) : PolicyRec := ⟨o, leAt b (o + 4) 1, leAt b (o + 5) 1⟩

def parseBus (b : List Byte) (o : Nat) : BusRec :=
  ⟨o, leAt b (o + 4) 1 % 64, leAt b (o + 8) 4, leAt b (o + 12) 4, leAt b (o + 16) 4, leAt b (o + 20) 4,
   leAt b (o + 24) 4, leAt b (o + 28) 4, leAt b (o + 32) 4, leAt b (o + 36) 2, leAt b (o + 38) 2,
   leAt b (o + 40) 4 % 2 ^ 20, leAt b (o + 44) 4⟩

def parseKern (b : List Byte) (o : Nat) : KernRec :=
  let ni := leAt b (o + 6) 2
  ⟨o, leAt b (o + 4) 1, leAt b (o + 5) 1, leAt b (o + 10) 2, (List.range ni).map (fun i => leAt b (o + 16 + 8 * i) 8),
   (List.range (leAt b (o + 8) 2)).map (fun i => leAt b (o + 16 + 8 * ni + 4 * i) 4)⟩

/-- Parse every record of a walked image. -/
def parseImage (b : List Byte) (ss : List Sect) : Image :=
  let rs := fun tag => (recsOf ss tag).map (·.off)
  { bytes := b.take (leAt b 8 4), format := leAt b 4 2, variant := leAt b 12 1, serial := leAt b 16 4,
    ledgerVer := leAt b 20 2, sects := ss, bricks := (rs 0x0101).map (parseBrick b), zones := (rs 0x0201).map (parseZone b),
    groups := (rs 0x0301).map (parseGroup b), profs := (rs 0x0401).map (parseProf b),
    sched := (rs 0x0501).map (parseSched b), spans := (rs 0x0602).map (parseSpan b),
    serac := (rs 0x0701).map (parseSerac b),
    binding := (match rs 0x0801 with | o :: _ => (List.range 8).map (fun i => leAt b (o + 4 + i) 1) | [] => []),
    segs := (rs 0x0802).map (parseSeg b), trunks := (rs 0x0803).map (parseTrunk b),
    live := (rs 0x0901).map (parseLive b),
    liveClasses := (match rs 0x0902 with | o :: _ => leAt b (o + 4) 4 | [] => 0),
    safeIns := (rs 0x0A01).map (parseSafeIn b), safeFuncs := (rs 0x0A02).map (parseSafeFunc b),
    safeOuts := (rs 0x0A03).map (parseSafeOut b), guards := (rs 0x0A04).map (parseGuard b),
    brakes := (rs 0x0A05).map (parseBrake b),
    creset := (match rs 0x0A06 with | o :: _ => leAt b (o + 4) 1 | [] => 0xFF),
    safeCheck := (match rs 0x0AFF with | o :: _ => leAt b (o + 4) 4 | [] => 0),
    aux := (rs 0x0B01).map (parseAux b), axes := (rs 0x0C01).map (parseAxis b),
    policy := (rs 0x0D01).map (parsePolicy b),
    bus := (match rs 0x0D10 with | o :: _ => some (parseBus b o) | [] => none),
    kernels := (rs 0x0E01).map (parseKern b) }

/-- The section of a type. -/
def Image.sect (i : Image) (t : Nat) : Option Sect := i.sects.find? (fun s => s.typ == t)

/-- The offset of a section's header. -/
def Image.sectOff (i : Image) (t : Nat) : Nat := ((i.sect t).map (·.off)).getD (leAt i.bytes 8 4 - 104)

/-- The brick map record that serves a channel, R27. -/
def Image.brickOf (i : Image) (c : Nat) : Option BrickRec :=
  i.bricks.find? (fun r => decide (r.base ≤ c ∧ c < r.base + r.count))

/-- A populated channel, R27. -/
def Image.populated (i : Image) (c : Nat) : Bool := (i.brickOf c).isSome

/-- The populated channels in rising order. -/
def Image.channels (i : Image) : List Nat := sel 4096 i.populated

/-- The group of a channel, R28. -/
def Image.groupOf (i : Image) (c : Nat) : Option GroupRec :=
  i.groups.find? (fun g => g.ranges.any (fun r => decide (r.1 ≤ c ∧ c < r.1 + r.2)))

/-- The brick map record of a port. -/
def Image.brickAt (i : Image) (p : Nat) : Option BrickRec := i.bricks.find? (fun r => r.port == p)

/-- The zone of a channel, R28: that of its port. -/
def Image.zoneOfCh (i : Image) (c : Nat) : Option Nat := (i.brickOf c).map (·.zone)

/-- Whether a kernel ID is a user kernel that the image defines. -/
def Image.userKernel (i : Image) (k : Nat) : Option KernRec := i.kernels.find? (fun r => r.kernel == k)

/-- The channels of a group, in range order. -/
def GroupRec.channels (g : GroupRec) : List Nat := g.ranges.flatMap (fun r => (List.range r.2).map (r.1 + ·))

/-- Whether an entry binds a channel in a phase. -/
def SchedRec.binds (e : SchedRec) (c p : Nat) : Bool := decide (e.first ≤ c ∧ c < e.first + e.num) && bit e.phases p

/-- Missing sections, R42 and R558. -/
def checkMissing (i : Image) (paired : Bool) : Option FirnErr :=
  let e := (FirnCode.sectionMissing, leAt i.bytes 8 4 - 104)
  firstFault sectTable (fun t => if (t.2.1 || (t.1 == 9 && paired)) && (i.sect t.1).isNone then some e else none)

/-- Field values of the brick map, zones and groups: R43 to R47. -/
def checkBay (i : Image) : Option FirnErr :=
  let b := i.bytes
  let V := FirnCode.value
  firstFault i.bricks (fun r =>
    need (decide (r.port ≤ 127)) V (r.off + 4)
    <|> need (decide (r.zone ≤ 15) && i.zones.any (fun z => z.zone == r.zone)) V (r.off + 5)
    <|> need (decide (1 ≤ r.floor ∧ r.floor ≤ (if i.format = 1 then 2 else 3))) V (r.off + 6)
    <|> need (leAt b (r.off + 7) 1 == 0) V (r.off + 7)
    <|> need (decide (r.base ≤ 4095)) V (r.off + 8)
    <|> need (decide (1 ≤ r.count ∧ r.count ≤ (if r.floor = 1 then 16 else 32) ∧ r.base + r.count ≤ 4096)) V (r.off + 10)
    <|> need (leAt b (r.off + 11) 1 == 0) V (r.off + 11))
  <|> (clash (fun x y => x.port == y.port || decide (x.base < y.base + y.count ∧ y.base < x.base + x.count)) []
        i.bricks).map (fun r => (FirnCode.overlap, r.off))
  <|> firstFault i.zones (fun z =>
    need (decide (z.zone ≤ 15)) V (z.off + 4)
    <|> need ([1, 2, 5].contains z.start) V (z.off + 5)
    <|> need (leAt b (z.off + 6) 2 == 0) V (z.off + 6))
  <|> (clash (fun x y => x.zone == y.zone) [] i.zones).map (fun z => (FirnCode.overlap, z.off))
  <|> firstFault i.groups (fun g =>
    need (decide (g.zone ≤ 15)) V (g.off + 5)
    <|> need (decide (g.program ≤ 63 ∨ g.program = 0xFF)) V (g.off + 6)
    <|> need (i.profs.any (fun p => p.profile == g.profile)) V (g.off + 7)
    <|> need (i.serac.any (fun t => t.template == g.template)) V (g.off + 8)
    <|> need (g.kernel == 2 || (i.userKernel g.kernel).any (fun k => k.cls == 0)) V (g.off + 9)
    <|> need (leAt b (g.off + 10) 1 == 0) V (g.off + 10)
    <|> need (decide (1 ≤ g.ranges.length ∧ g.ranges.length ≤ 32)) V (g.off + 11)
    <|> need (leAt b (g.off + 12) 4 == 0) V (g.off + 12)
    <|> firstFault (g.ranges.zip (List.range 32)) (fun r => need (decide (1 ≤ r.1.2)) V (g.off + 18 + 4 * r.2)))
  <|> (clash (fun x y => x.group == y.group) [] i.groups).map (fun g => (FirnCode.overlap, g.off))
  <|> (let rs := i.groups.flatMap (fun g => (g.ranges.zip (List.range 32)).map (fun r => (g.zone, r.1, g.off + 16 + 4 * r.2)))
       firstFault rs (fun r =>
          need ((List.range r.2.1.2).all (fun k => i.zoneOfCh (r.2.1.1 + k) == some r.1)) FirnCode.group r.2.2)
       <|> (clash (fun x y => decide (x.2.1.1 < y.2.1.1 + y.2.1.2 ∧ y.2.1.1 < x.2.1.1 + x.2.1.2)) [] rs).map
            (fun r => (FirnCode.group, r.2.2)))

/-- Decimation profiles, ledger layout and Serac templates: R48, R139, R257, R258. -/
def checkSignal (i : Image) : Option FirnErr :=
  let b := i.bytes
  let V := FirnCode.value
  firstFault i.profs (fun p =>
    need (decide (p.profile ≤ 31)) V (p.off + 4) <|> need (leAt b (p.off + 5) 3 == 0) V (p.off + 5))
  <|> (clash (fun x y => x.profile == y.profile) [] i.profs).map (fun p => (FirnCode.overlap, p.off))
  <|> need (i.profs.any (fun p => p.profile == 0) || i.channels.all (fun c => (i.groupOf c).isSome)) V (i.sectOff 4)
  <|> (match recsOf i.sects 0x0601 with
       | [r] => need (leAt b (r.off + 4) 2 == i.ledgerVer) V (r.off + 4) <|> need (leAt b (r.off + 6) 2 == 0) V (r.off + 6)
       | _ => some (V, i.sectOff 6))
  <|> need (i.ledgerVer / 256 == 1) V 20
  <|> firstFault i.spans (fun s =>
    need (decide (s.first ≤ s.last)) V (s.off + 5)
    <|> need (decide (s.lv ≤ 24)) V (s.off + 6) <|> need (decide (s.li ≤ 24)) V (s.off + 7))
  <|> (clash (fun x y => decide (x.first ≤ y.last ∧ y.first ≤ x.last)) [] i.spans).map (fun s => (FirnCode.overlap, s.off))
  <|> firstFault i.serac (fun t =>
    need (decide (t.template ≤ 63)) V (t.off + 4)
    <|> need (decide (t.uvMode ≤ 2) && bits (leAt b (t.off + 5) 1) 4 4 == 0) V (t.off + 5)
    <|> need (decide (1 ≤ leAt b (t.off + 6) 1 ∧ leAt b (t.off + 6) 1 ≤ 15)) V (t.off + 6)
    <|> need (decide (1 ≤ t.staleMax ∧ t.staleMax ≤ 64)) V (t.off + 7)
    <|> need (decide (t.vMin < t.vMax)) V (t.off + 12)
    <|> need (decide (t.vRev ≤ 0)) V (t.off + 16)
    <|> need (decide (t.tMax = 0x7FFF ∨ t.tFire = 0x7FFF ∨ t.tMax < t.tFire)) V (t.off + 30)
    <|> need (decide (leAt b (t.off + 42) 1 ≤ 8)) V (t.off + 42)
    <|> need (decide (leAt b (t.off + 43) 1 ≤ 10)) V (t.off + 43)
    <|> need (decide (100 ≤ t.qPct ∧ t.qPct ≤ 200)) V (t.off + 52)
    <|> need (leAt b (t.off + 53) 3 == 0) V (t.off + 53)
    <|> need (decide (t.act < 2 ^ 28)) V (t.off + 56)
    <|> need (bit t.fireBits 13 && decide (t.fireBits < 2 ^ 14)) V (t.off + 60)
    <|> need (leAt b (t.off + 62) 2 == 0) V (t.off + 62))
  <|> (clash (fun x y => x.template == y.template) [] i.serac).map (fun t => (FirnCode.overlap, t.off))
  <|> need (i.serac.any (fun t => t.template == 0)) V (i.sectOff 7)

/-- Binding, segment and trunk records: R53, R337, R368. `active` is the active image of a preload. A binding that format 1
does not define, of a further mode or to a variant other than 0, is a fault of its field (R38). -/
def checkRime (i : Image) (active : Option Image) : Option FirnErr :=
  let b := i.bytes
  let V := FirnCode.value
  let B := FirnCode.binding
  let bound := (List.range 8).filter (fun m => i.binding.getD m 0xFF == i.variant)
  match recsOf i.sects 0x0801 with
  | [] => some (B, i.sectOff 8)
  | _ :: r2 :: _ => some (B, r2.off)
  | [r] =>
    firstFault (List.range 8) (fun m =>
      let v := i.binding.getD m 0xFF
      need (decide (v = 0xFF ∨ (v ≤ 3 ∧ (i.format = 1 → m = 0 ∧ v = 0)))) V (r.off + 4 + m))
    <|> need (!bound.isEmpty) B r.off
    <|> need (match active with | some a => decide (a.binding = i.binding) | none => true) B r.off
    <|> firstFault i.segs (fun s =>
      need (decide (s.mode ≤ 7)) V (s.off + 4) <|> need (leAt b (s.off + 5) 3 == 0) V (s.off + 5)
      <|> firstFault (s.owner.zip (List.range 64)) (fun o => need (decide (o.1 ≤ 63 ∨ o.1 = 0xFF)) V (s.off + 8 + o.2)))
    <|> (clash (fun x y => x.mode == y.mode) [] i.segs).map (fun s => (FirnCode.overlap, s.off))
    <|> need (i.segs.all (fun s => bound.contains s.mode)) B r.off
    <|> need (bound.all (fun m => i.segs.any (fun s => s.mode == m))) B r.off
    <|> firstFault i.trunks (fun t =>
      need (decide (t.mode ≤ 7)) V (t.off + 4) <|> need (leAt b (t.off + 5) 3 == 0) V (t.off + 5)
      <|> firstFault (t.tmaster.zip (List.range 4)) (fun o => need (o.1 == 0xFF || bit t.gw o.1) V (t.off + 40 + o.2)))
    <|> (clash (fun x y => x.mode == y.mode) [] i.trunks).map (fun t => (FirnCode.overlap, t.off))
    <|> need (i.trunks.all (fun t => bound.contains t.mode)) B r.off
    <|> need (i.trunks.isEmpty || bound.all (fun m => i.trunks.any (fun t => t.mode == m))) B r.off

/-- The sizes of the ledger segments by segment code, R125. -/
def segSize (s : Nat) : Nat := [512, 1024, 2048, 2048, 2048, 512].getD s 0

/-- Live mask, R558. -/
def checkLive (i : Image) : Option FirnErr :=
  let b := i.bytes
  match i.sect 9 with
  | none => none
  | some s =>
    firstFault i.live (fun r =>
      need (decide (r.seg ≤ 5)) FirnCode.value (r.off + 4)
      <|> need (decide (r.start + r.len ≤ segSize r.seg)) FirnCode.value (r.off + 8)
      <|> need (leAt b (r.off + 10) 2 == 0) FirnCode.value (r.off + 10))
    <|> firstFault i.live.zipIdx (fun (r, n) =>
      let before := i.live.take n
      need (before.all (fun x => x.seg != r.seg || decide (x.start + x.len ≤ r.start ∨ r.start + r.len ≤ x.start)))
        FirnCode.value r.off
      <|> need (decide ((before.map (·.len)).foldl (· + ·) r.len ≤ 1024)) FirnCode.value r.off)
    <|> firstFault (recsOf i.sects 0x0902) (fun o => need (leAt b (o.off + 4) 4 / 2 ^ 9 == 0) FirnCode.value o.off)
    <|> (match recsOf i.sects 0x0902 with
         | [] => some (FirnCode.value, s.off)
         | [_] => none
         | _ :: r2 :: _ => some (FirnCode.overlap, r2.off))

/-- The inputs a function names. -/
def SafeFuncRec.used (f : SafeFuncRec) : List Nat := f.ins.filter (· != 0xFF)

/-- Whether an input type fits a function kind, R402: ESTOP and GUARD take NC contacts or OSSD, TWOHAND two-hand contacts, CURTAIN OSSD. -/
def kindFits (kind typ : Nat) : Bool :=
  match kind with
  | 1 | 2 => typ == 0 || typ == 1
  | 3 => typ == 2
  | 4 => typ == 1
  | _ => false

/-- Safety section, R402, R403, R559. A second check record before a valid last one is rejected with the same code, at the
section header: the model's choice, DESIGN CHOICE (log entry 218). -/
def checkSafety (i : Image) : Option FirnErr :=
  let b := i.bytes
  let V := FirnCode.value
  match i.sect 10 with
  | none => none
  | some s =>
    let typOf := fun n => ((i.safeIns.find? (fun r => r.input == n)).map (·.typ)).getD 99
    let tpOf := fun n => ((i.safeIns.find? (fun r => r.input == n)).map (·.tp)).getD 0xFF
    need (match s.recs.getLast? with | some r => r.tag == 0x0AFF && crc32 (sub b s.off (r.off - s.off)) == leAt b (r.off + 4) 4
                                     | none => false) FirnCode.safetyCrc s.off
    <|> need ((recsOf i.sects 0x0AFF).length == 1) FirnCode.safetyCrc s.off
    <|> (match recsOf i.sects 0x0A06 with
         | [r] => need (typOf (leAt b (r.off + 4) 1) == 3) V (r.off + 4) <|> need (leAt b (r.off + 5) 3 == 0) V (r.off + 5)
         | _ => some (V, s.off))
    <|> firstFault i.safeIns (fun r =>
      need (decide (r.input ≤ 23)) V (r.off + 4) <|> need (decide (r.typ ≤ 3)) V (r.off + 5)
      <|> need (if r.typ = 0 ∨ r.typ = 2 then decide (r.tp ≤ 3) else r.tp == 0xFF) V (r.off + 6)
      <|> need (decide (1 ≤ r.filter ∧ r.filter ≤ 100 ∧ (r.typ = 1 → 10 ≤ r.filter))) V (r.off + 7))
    <|> (clash (fun x y => x.input == y.input) [] i.safeIns).map (fun r => (FirnCode.overlap, r.off))
    <|> firstFault i.safeFuncs (fun f =>
      need (decide (f.func ≤ 31)) V (f.off + 4) <|> need (decide (1 ≤ f.kind ∧ f.kind ≤ 4)) V (f.off + 5)
      <|> firstFault (f.ins.zip (List.range 4)) (fun n =>
        if n.1 = 0xFF then need (decide (2 ≤ n.2) && f.kind != 3) V (f.off + 6 + n.2)
        else need (kindFits f.kind (typOf n.1) && (decide (n.2 < 2) || f.kind == 3 || (f.kind == 2 && f.lockOut != 0xFF)))
               V (f.off + 6 + n.2))
      <|> need (if f.reset = 0xFF then f.kind == 3 else typOf f.reset == 3) V (f.off + 10)
      <|> need (decide (f.lockOut ≤ 7 ∨ f.lockOut = 0xFF)) V (f.off + 11)
      <|> need (decide (f.zones ≠ 0)) V (f.off + 12)
      <|> need (decide (1 ≤ f.disc ∧ f.disc ≤ 200)) V (f.off + 14)
      <|> (clash (fun x y => decide (tpOf x ≠ 0xFF) && tpOf x == tpOf y) [] f.used).bind (fun n =>
            (i.safeIns.find? (fun r => r.input == n)).map (fun r => (V, r.off + 6))))
    <|> (clash (fun x y => x.func == y.func) [] i.safeFuncs).map (fun f => (FirnCode.overlap, f.off))
    <|> (clash (fun (x y : SafeFuncRec) => x.used.any (fun n => y.used.contains n)) [] i.safeFuncs).map
          (fun f => (V, f.off + 6))
    <|> firstFault i.safeOuts (fun o =>
      need (decide (o.out ≤ 7) && !(i.safeFuncs.any (fun f => f.lockOut == o.out))) V (o.off + 4)
      <|> need (decide (1 ≤ o.testS ∧ o.testS ≤ 60)) V (o.off + 5) <|> need (leAt b (o.off + 6) 2 == 0) V (o.off + 6)
      <|> need (decide (o.funcs ≠ 0) && (List.range 32).all (fun f => !(bit o.funcs f) || i.safeFuncs.any (fun r => r.func == f)))
            V (o.off + 8))
    <|> (clash (fun x y => x.out == y.out) [] i.safeOuts).map (fun o => (FirnCode.overlap, o.off))
    <|> firstFault i.guards (fun g =>
      need (decide (g.zone ≤ 15)) V (g.off + 4) <|> need (decide (g.action ≤ 1)) V (g.off + 5)
      <|> need (leAt b (g.off + 6) 2 == 0) V (g.off + 6)
      <|> need (if g.action = 0 then g.iAllow == 0 else decide (1 ≤ g.iAllow)) V (g.off + 8))
    <|> (clash (fun x y => x.zone == y.zone) [] i.guards).map (fun g => (FirnCode.overlap, g.off))
    <|> firstFault i.brakes (fun k =>
      need (decide (k.axis ≤ 7) && i.axes.any (fun a => a.axis == k.axis)) V (k.off + 4)
      <|> need (decide (1 ≤ k.testH ∧ k.testH ≤ 168)) V (k.off + 5)
      <|> need (decide (10 ≤ k.fbMs ∧ k.fbMs ≤ 250)) V (k.off + 6) <|> need (leAt b (k.off + 7) 1 == 0) V (k.off + 7)
      <|> need (decide (1 ≤ k.moveLim)) V (k.off + 8) <|> need (leAt b (k.off + 10) 2 == 0) V (k.off + 10))
    <|> (clash (fun x y => x.axis == y.axis) [] i.brakes).map (fun k => (FirnCode.overlap, k.off))

/-- The sampling time of a code in nanoseconds, R437. -/
def auxTs (ts : Nat) : Nat := 100 * 2 ^ ts

/-- Twice the nominal duration of an entry in nanoseconds, R439. -/
def auxDur2 (e : AuxEnt) : Nat :=
  if e.ilv then (e.count + 1) * (auxTs e.ts + 100) else 2 * e.count * (auxTs e.ts + 100)

/-- The rules of R439 on one sequence: `trigOf` gives the trigger of every converter. -/
def auxSeqFault (i : Image) (r : AuxRec) (trigOf : Nat → Nat) : Option FirnErr :=
  let V := FirnCode.value
  let p := r.conv / 2
  let es := r.words.map auxEnt
  need (decide (r.conv ≤ 7)) V (r.off + 4)
  <|> need (decide (r.trig ≤ 4) && !(r.trig == 4 && (r.conv % 2 == 0 || i.axes.any (fun a => a.axis / 2 == p)))) V (r.off + 5)
  <|> need (if r.trig = 4 then r.nent == 0 else decide (1 ≤ r.nent ∧ r.nent ≤ 16)) V (r.off + 6)
  <|> need (if r.trig = 3 then decide (r.axis ≤ 7) && i.axes.any (fun a => a.axis == r.axis) else r.axis == 0xFF) V (r.off + 7)
  <|> need (if r.trig = 2 then decide (r.tickOfs ≤ 44) else r.tickOfs == 0) V (r.off + 8)
  <|> firstFault (r.words.zip (List.range 16)) (fun w =>
      let e := auxEnt w.1
      need (e.input / 16 == p && decide (e.gain ≤ 6) && decide (e.pull ≤ 2) && decide (e.pullI ≤ 2) && decide (w.1 < 2 ^ 25)
            && (!e.ilv || (r.conv % 2 == 0 && trigOf (r.conv + 1) == 4))) V (r.off + 12 + 4 * w.2))
  <|> (if r.trig = 2 then
        firstFault (List.range es.length) (fun k =>
          need (decide (((es.take (k + 1)).map auxDur2).foldl (· + ·) 0 ≤ 100000)) V (r.off + 12 + 4 * k))
       else none)

/-- Auxiliary sequences and axes, R439, R421, R422. -/
def checkMotion (i : Image) : Option FirnErr :=
  let b := i.bytes
  let V := FirnCode.value
  let trigOf := fun c => ((i.aux.find? (fun r => r.conv == c)).map (·.trig)).getD 0
  firstFault i.aux (fun r => auxSeqFault i r trigOf <|> need (leAt b (r.off + 10) 2 == 0) V (r.off + 10))
  <|> (clash (fun x y => x.conv == y.conv) [] i.aux).map (fun r => (FirnCode.overlap, r.off))
  <|> firstFault i.axes (fun a =>
    let p := a.axis / 2
    need (decide (a.axis ≤ 7)) V (a.off + 4)
    <|> need (i.zones.any (fun z => z.zone == a.zone)) V (a.off + 5)
    <|> need (decide (1 ≤ a.poles ∧ a.poles ≤ 32)) V (a.off + 6)
    <|> need (decide (leAt b (a.off + 7) 1 < 4) && (!a.vertical || i.brakes.any (fun k => k.axis == a.axis))) V (a.off + 7)
    <|> need (decide (1 ≤ a.ke)) V (a.off + 8)
    <|> need (decide (1000 ≤ a.ls)) V (a.off + 16)
    <|> need (decide (a.ke * 1000000 ≤ a.iMax * a.ls)) V (a.off + 20)
    <|> need (decide (13 * a.tHold * 1000000 ≤ 15 * a.poles * a.ke * a.iMax)) V (a.off + 24)
    <|> need (decide (1 ≤ a.speedMax ∧ a.speedMax ≤ 30000)) V (a.off + 28)
    <|> need (decide (a.catchRpm ≤ a.speedMax)) V (a.off + 30)
    <|> need (decide (1 ≤ a.stillRpm)) V (a.off + 32)
    <|> need (decide (1 ≤ a.stillMs)) V (a.off + 33)
    <|> need (decide (10 ≤ a.stopMs ∧ a.stopMs ≤ 60000)) V (a.off + 34)
    <|> need (decide (4000 ≤ a.fPwm ∧ a.fPwm ≤ 40000) && i.axes.all (fun o => o.axis / 2 != p || o.fPwm == a.fPwm)) V (a.off + 36)
    <|> need (decide (100 ≤ a.deadtime ∧ a.deadtime ≤ 5000)) V (a.off + 38)
    <|> need (decide (a.minWin = 0 ∨ (300 ≤ a.minWin ∧ a.minWin ≤ 10000))) V (a.off + 40)
    <|> need (decide (200 ≤ a.bemfUs ∧ a.bemfUs ≤ 2000)) V (a.off + 42)
    <|> need (a.ainI.all (fun n => n / 16 == p)) V (a.off + 44)
    <|> need (decide (a.ainF ≤ 63 ∨ a.ainF = 0xFF)) V (a.off + 47)
    <|> need (a.ainV.all (fun n => n / 16 == p)) V (a.off + 48)
    <|> need (leAt b (a.off + 51) 1 == 0) V (a.off + 51)
    <|> need (!(a.ainF == 0xFF) || a.fScale == 0) V (a.off + 60)
    <|> need (leAt b (a.off + 66) 2 == 0) V (a.off + 66)
    <|> need (!(a.ainF == 0xFF) || a.fMax == 0) V (a.off + 68))
  <|> (clash (fun x y => x.axis == y.axis) [] i.axes).map (fun a => (FirnCode.overlap, a.off))

/-- Whether R454 lets a domain be OFF in running operation under an image. -/
def mayBeOff (i : Image) (d : Nat) : Bool :=
  match d with
  | 6 => i.sched.all (fun e => decide (12 ≤ e.engine))
  | 7 => i.sched.all (fun e => decide (e.engine < 12))
  | 9 => i.bricks.all (fun r => decide (64 ≤ r.port))
  | 10 => i.bricks.all (fun r => decide (r.port < 64))
  | 11 => true
  | 15 => i.safeFuncs.isEmpty
  | _ => false

/-- The orders of R236 over the bus thresholds, checked pair by pair from `LOW` upward: the offset at fault. -/
def busChain (r : BusRec) : Option Nat :=
  if r.low ≥ r.vNom then some 8 else if r.vNom ≥ r.warn then some 12 else if r.warn ≥ r.chopOff then some 16
  else if r.chopOff ≥ r.chopOn then some 20 else if r.chopOn ≥ r.curb then some 24
  else if r.curb ≥ r.trip then some 28
  else if r.curb ≤ r.margin + r.warn then some 36 else none

/-- Power policy, R236 and R455. -/
def checkPower (i : Image) (c : LoadCtx) : Option FirnErr :=
  let b := i.bytes
  let V := FirnCode.value
  (match recsOf i.sects 0x0D10 with
   | [h] =>
     let r := parseBus b h.off
     need (decide (leAt b (r.off + 4) 1 < 64)) V (r.off + 4)
     <|> need (match c.netLocked with | some s => s.1 == r.ain | none => true) V (r.off + 4)
     <|> need (leAt b (r.off + 5) 3 == 0) V (r.off + 5)
     <|> need (decide (48000 ≤ r.vNom ∧ r.vNom ≤ 800000)) V (r.off + 8)
     <|> need (decide (r.trip ≤ 1000000)) V (r.off + 28)
     <|> need (decide (100 ≤ r.hyst ∧ r.hyst ≤ 20000)) V (r.off + 38)
     <|> need (decide (leAt b (r.off + 40) 4 < 2 ^ 20)) V (r.off + 40)
     <|> need (match c.netLocked with | some s => s.2 == r.scale | none => true) V (r.off + 40)
     <|> (busChain r).map (fun o => (V, r.off + o))
   | _ => some (V, i.sectOff 13))
  <|> firstFault i.policy (fun p =>
    need (decide (1 ≤ p.domain ∧ p.domain ≤ 15)) V (p.off + 4)
    <|> need (decide (p.run ≤ 1) && (p.run == 0 || mayBeOff i p.domain)) V (p.off + 5)
    <|> need (leAt b (p.off + 6) 2 == 0) V (p.off + 6))
  <|> (clash (fun x y => x.domain == y.domain) [] i.policy).map (fun p => (FirnCode.overlap, p.off))

/-- The user kernels that the schedule binds on an engine, in record order, R233. -/
def Image.kernelsOn (i : Image) (e : Nat) : List KernRec :=
  i.kernels.filter (fun k => i.sched.any (fun s => s.engine == e && s.kernel == k.kernel))

/-- The bytes of a kernel in program memory, R233. -/
def KernRec.size (k : KernRec) : Nat := 8 * k.code.length + 4 * k.consts.length

/-- User kernels, R232. -/
def checkKernels (i : Image) : Option FirnErr :=
  let b := i.bytes
  firstFault i.kernels (fun k =>
    need (decide (0x40 ≤ k.kernel ∧ k.kernel ≤ 0x7F ∧ k.cls ≤ 1 ∧ 1 ≤ k.code.length ∧ k.code.length ≤ 2048
                  ∧ k.consts.length ≤ 4096 ∧ k.entry < k.code.length) && leAt b (k.off + 12) 4 == 0
          && k.code.all gWordOk && gCodeShapeOk k.code) FirnCode.kernel k.off)
  <|> (clash (fun x y => x.kernel == y.kernel) [] i.kernels).map (fun k => (FirnCode.kernel, k.off))
  <|> firstFault (List.range 24) (fun e =>
        let ks := i.kernelsOn e
        firstFault (List.range ks.length) (fun n =>
          need (decide (((ks.take (n + 1)).map KernRec.size).foldl (· + ·) 0 ≤ 16384)) FirnCode.kernel
            ((ks.getD n default).off)))

/-- The class of a CONTROL entry for a channel, R224: STEP 0, REG 1, OTHER 2. -/
def ctlClass (i : Image) (e : SchedRec) (c : Nat) : Nat :=
  if e.kernel = 1 then 0 else if ((i.groupOf c).map (·.kernel)) = some e.kernel then 1 else 2

/-- Field values of the schedule, R49, R229, R232. -/
def checkSchedFields (i : Image) : Option FirnErr :=
  let b := i.bytes
  let V := FirnCode.value
  firstFault i.sched (fun e =>
    need (decide (e.engine ≤ 23)) V (e.off + 4) <|> need (decide (e.window ≤ 1)) V (e.off + 5)
    <|> need (decide (e.kernel ≤ 3) || (i.userKernel e.kernel).isSome) V (e.off + 6)
    <|> need (leAt b (e.off + 7) 1 == 0) V (e.off + 7)
    <|> need (decide (1 ≤ e.num ∧ e.first + e.num ≤ 4096)) V (e.off + 10)
    <|> need (decide (e.phases < 2 ^ 20)) V (e.off + 12)
    <|> need (e.window == 0 || e.cycSmp == 0) V (e.off + 18)
    <|> need (!(i.policy.any (fun p => p.run == 1 && ((p.domain == 6 && decide (e.engine < 12)) || (p.domain == 7 && decide (12 ≤ e.engine))))))
          V e.off)

/-- R50 and R224 over the schedule: the first offending entry, or the section header. An entry binds every channel of its
range, populated or not (R49, R213). Where an offending entry and a missing binding both stand, the entry is reported: the
model's choice, DESIGN CHOICE (log entry 217). -/
def checkSched (i : Image) : Option FirnErr :=
  let S := FirnCode.schedule
  let firs := i.sched.filter (fun e => e.window == 0)
  let ctls := i.sched.filter (fun e => e.window == 1)
  let chs := i.channels
  let entryBad : SchedRec → Bool := fun e =>
    (e.window == 0 && (e.kernel != 0 || e.phases != 0xFFFFF ||
       chs.any (fun c => decide (e.first ≤ c ∧ c < e.first + e.num) &&
         firs.any (fun f => decide (f.off < e.off ∧ f.first ≤ c ∧ c < f.first + f.num))) ||
       decide (256 < ((firs.filter (fun f => f.engine == e.engine && decide (f.off ≤ e.off))).map (·.num)).foldl (· + ·) 0)))
    || (e.window == 1 && (e.kernel == 0 || (decide (0x40 ≤ e.kernel) && decide (e.cycCh < 4)) ||
       ctls.any (fun f => decide (f.off < e.off) && (List.range 20).any (fun p => bit e.phases p && bit f.phases p) &&
         ((List.range e.num).any (fun k =>
            decide (f.first ≤ e.first + k ∧ e.first + k < f.first + f.num) &&
            (f.engine != e.engine || decide (ctlClass i e (e.first + k) < ctlClass i f (e.first + k))))))))
  let hdr := (S, i.sectOff 5)
  minFault ((i.sched.filter entryBad).map (fun e => (S, e.off)))
  <|> need (chs.all (fun c => firs.any (fun f => decide (f.first ≤ c ∧ c < f.first + f.num)))) S hdr.2
  <|> need (chs.all (fun c => match i.groupOf c with
        | none => true
        | some g => (List.range 20).all (fun p =>
            ctls.any (fun e => e.kernel == g.kernel && e.binds c p) &&
            (g.program == 0xFF || ctls.any (fun e => e.kernel == 1 && e.binds c p))))) S hdr.2

/-- The cycle counts the budget uses, R51: the greater of declared and ROM cost. -/
def budgetCyc (e : SchedRec) : Nat × Nat :=
  let rom := match e.kernel with | 0 => (12, 4) | 1 => (8, 0) | 2 => (24, 0) | 3 => (60, 0) | _ => (0, 0)
  (max e.cycCh rom.1, if e.window = 0 then max e.cycSmp rom.2 else 0)

/-- The budget of R52. -/
def checkBudget (i : Image) : Option FirnErr :=
  firstFault (List.range 24) (fun e =>
    firstFault (List.range 20) (fun p =>
      let es := i.sched.filter (fun x => x.engine == e && bit x.phases p)
      let fir := es.filter (fun x => x.window == 0)
      let ctl := es.filter (fun x => x.window == 1)
      let sum : List SchedRec → (SchedRec → Nat) → Nat := fun l f => (l.map f).foldl (· + ·) 0
      let s := sum fir (fun x => x.num * (budgetCyc x).2)
      let f := sum fir (fun x => x.num * (budgetCyc x).1)
      let c := sum ctl (fun x => x.num * (budgetCyc x).1)
      let last := fun (l : List SchedRec) => (l.foldl (fun m x => max m x.off) 0)
      need (decide (2 * s + f ≤ 4560)) FirnCode.budget (last fir)
      <|> need (decide (11 * s + c ≤ 25840)) FirnCode.budget (last es)
      <|> need (decide (3 * s ≤ 7600)) FirnCode.budget (last fir)))

/-- Step 5 of R54. Its order over sections is the model's own reading: DEDUCED (log entry 6). -/
def checkFields (i : Image) (c : LoadCtx) (active : Option Image) : Option FirnErr :=
  checkMissing i c.paired
  <|> checkBay i <|> checkSignal i <|> checkKernels i <|> checkSchedFields i <|> checkSched i
  <|> checkRime i active <|> checkLive i <|> checkSafety i <|> checkMotion i <|> checkPower i c

/-- Step 7 of R54: the comparison of R59 with the active image. -/
def checkPreload (i act : Image) : Option FirnErr :=
  let sec := fun (x : Image) t => (x.sect t).map (fun s => sub x.bytes s.off s.len)
  let firB := fun (x : Image) => (x.sched.filter (fun e => e.window == 0)).map (fun e => sub x.bytes e.off 20)
  need (i.ledgerVer == act.ledgerVer) FirnCode.variantFixed 20
  <|> firstFault (sectTable.filter (fun t => !t.2.2.2.2)) (fun t =>
        need (decide (sec i t.1 = sec act t.1)) FirnCode.variantFixed (i.sectOff t.1))
  <|> need (decide (firB i = firB act)) FirnCode.variantFixed (i.sectOff 5)

/-- The whole verification of R54. -/
def verifyImage (b : List Byte) (c : LoadCtx) (preload : Option Image) : Except FirnErr Image :=
  match checkHeader b c <|> checkSignature b c with
  | some e => .error e
  | none =>
    match walkImage b with
    | .error e => .error e
    | .ok ss =>
      let i := parseImage b ss
      match checkFields i c preload <|> checkBudget i <|> (preload.bind (checkPreload i)) with
      | some e => .error e
      | none => .ok i

/-- Step through section headers to the one that holds an offset; fuel is the section count. -/
def sectScan (b : List Byte) (fin off : Nat) : Nat → Nat → Nat
  | 0, _ => 0
  | n + 1, o =>
    let len := leAt b (o + 4) 4
    if fin ≤ o ∨ off < o then 0
    else if off < o + max len 8 then leAt b o 2
    else sectScan b fin off n (o + max len 8)

/-- The type of the section that holds an offset, 0 for the header and the signature block: `FIRN_ERR.SECTION` of R63. -/
def sectAt (b : List Byte) (off : Nat) : Nat :=
  let fin := leAt b 8 4 - 104
  if off < 96 ∨ fin ≤ off then 0 else sectScan b fin off 33 96

end Sys2Proof.Machine
end

