-- ==== Sys2Proof/Machine/MorTable.lean ====
section
/-!
DEFINITION. Moraine's assigned sources: the table of R305 and the source tables of R230, R248, R275, R351, R373, R400,
R418, R435, R452, R471, R498, R520 and R538, with the defaults of R305. `N` and `W` of a source that is not MINOR are
not used (R307); they reset to the MINOR defaults 16 and 1,000 ms (DESIGN CHOICE, log entry 2).
-/
namespace Sys2Proof.Machine

/-- A source: number, unit type, class, reaction, N, W, escalated reaction, fixed. -/
structure MorSrc where
  src : Nat
  unit : Nat
  cls : Nat
  react : Nat
  n : Nat
  w : Nat
  esc : Nat
  fixed : Bool
deriving DecidableEq, Repr

/-- Assigned sources, part 1. -/
def morTable1 : List MorSrc :=
  [⟨0x0, 0, 3, 5, 16, 1000, 5, true⟩, ⟨0x1, 0, 0, 0, 16, 1000, 1, false⟩, ⟨0x8, 15, 1, 0, 16, 1000, 1, false⟩,
   ⟨0x9, 15, 1, 0, 16, 1000, 1, false⟩, ⟨0xA, 15, 1, 0, 16, 1000, 1, false⟩, ⟨0xB, 15, 1, 0, 16, 1000, 1, false⟩,
   ⟨0xC, 15, 1, 0, 16, 1000, 1, false⟩, ⟨0xD, 15, 1, 0, 16, 1000, 1, false⟩, ⟨0xE, 15, 1, 0, 16, 1000, 1, false⟩,
   ⟨0xF, 15, 1, 0, 16, 1000, 1, false⟩, ⟨0x10, 7, 1, 2, 3, 60000, 2, false⟩, ⟨0x11, 7, 1, 2, 3, 60000, 2, false⟩,
   ⟨0x12, 7, 1, 2, 3, 60000, 2, false⟩, ⟨0x13, 0, 3, 5, 16, 1000, 5, true⟩, ⟨0x14, 0, 3, 5, 16, 1000, 5, true⟩,
   ⟨0x15, 0, 3, 5, 16, 1000, 5, true⟩, ⟨0x16, 7, 0, 0, 16, 1000, 1, false⟩, ⟨0x17, 0, 2, 5, 16, 1000, 5, false⟩,
   ⟨0x18, 0, 1, 1, 8, 1000, 1, false⟩, ⟨0x19, 0, 2, 5, 16, 1000, 5, false⟩, ⟨0x1A, 0, 0, 0, 16, 1000, 1, false⟩,
   ⟨0x30, 0, 0, 0, 16, 1000, 1, false⟩, ⟨0x31, 0, 1, 0, 16, 1000, 1, false⟩, ⟨0x32, 0, 2, 1, 16, 1000, 1, false⟩,
   ⟨0x33, 0, 1, 1, 16, 1000, 1, false⟩, ⟨0x34, 0, 2, 4, 16, 1000, 4, false⟩, ⟨0x35, 0, 1, 1, 16, 1000, 1, false⟩,
   ⟨0x36, 0, 3, 5, 16, 1000, 5, true⟩, ⟨0x40, 0, 2, 1, 16, 1000, 1, false⟩, ⟨0x50, 0, 2, 5, 16, 1000, 5, false⟩,
   ⟨0x51, 0, 1, 1, 16, 1000, 1, false⟩, ⟨0x52, 0, 0, 0, 16, 1000, 1, false⟩]

/-- Assigned sources, part 2. -/
def morTable2 : List MorSrc :=
  [⟨0x53, 0, 1, 1, 16, 1000, 1, false⟩, ⟨0x60, 3, 1, 1, 3, 10000, 1, false⟩, ⟨0x61, 3, 1, 0, 16, 1000, 1, false⟩,
   ⟨0x62, 3, 0, 0, 16, 1000, 1, false⟩, ⟨0x63, 3, 1, 0, 16, 1000, 1, false⟩, ⟨0x64, 3, 1, 0, 16, 1000, 1, false⟩,
   ⟨0x65, 3, 1, 0, 16, 1000, 1, false⟩, ⟨0xA0, 1, 2, 2, 16, 1000, 2, false⟩, ⟨0xA1, 1, 2, 2, 16, 1000, 2, false⟩,
   ⟨0xA2, 0, 0, 0, 16, 1000, 1, false⟩, ⟨0xC0, 4, 2, 2, 16, 1000, 2, false⟩, ⟨0xC1, 1, 1, 0, 16, 1000, 1, false⟩,
   ⟨0xC2, 1, 0, 0, 16, 1000, 1, false⟩, ⟨0xC8, 5, 1, 0, 16, 1000, 1, false⟩, ⟨0xC9, 5, 0, 0, 16, 1000, 1, false⟩,
   ⟨0xCA, 5, 1, 0, 16, 1000, 1, false⟩, ⟨0xCB, 5, 1, 0, 16, 1000, 1, false⟩, ⟨0xCC, 5, 1, 0, 16, 1000, 1, false⟩,
   ⟨0xCD, 5, 0, 0, 16, 1000, 1, false⟩, ⟨0xE0, 1, 0, 0, 16, 1000, 1, false⟩, ⟨0xE1, 4, 1, 1, 16, 1000, 1, false⟩,
   ⟨0xE2, 6, 2, 1, 16, 1000, 1, false⟩, ⟨0xE3, 0, 2, 1, 16, 1000, 1, false⟩, ⟨0xE4, 6, 2, 1, 16, 1000, 1, false⟩,
   ⟨0xE5, 1, 0, 0, 16, 1000, 1, false⟩, ⟨0xE6, 1, 1, 0, 16, 1000, 1, false⟩, ⟨0xE7, 6, 2, 1, 16, 1000, 1, false⟩,
   ⟨0xE8, 0, 2, 4, 16, 1000, 4, false⟩, ⟨0xE9, 0, 3, 5, 16, 1000, 5, false⟩, ⟨0x100, 0, 0, 0, 16, 1000, 1, false⟩,
   ⟨0x101, 0, 1, 1, 16, 1000, 1, false⟩, ⟨0x102, 0, 2, 1, 16, 1000, 1, false⟩]

/-- Assigned sources, part 3. -/
def morTable3 : List MorSrc :=
  [⟨0x103, 0, 2, 1, 16, 1000, 1, false⟩, ⟨0x104, 0, 1, 1, 16, 1000, 1, false⟩, ⟨0x105, 0, 0, 0, 16, 1000, 1, false⟩,
   ⟨0x106, 0, 0, 0, 16, 1000, 1, false⟩, ⟨0x110, 0, 1, 1, 16, 1000, 1, false⟩, ⟨0x111, 0, 0, 0, 16, 1000, 1, false⟩,
   ⟨0x112, 0, 1, 1, 16, 1000, 1, false⟩, ⟨0x113, 8, 1, 0, 16, 1000, 1, false⟩, ⟨0x114, 0, 2, 1, 16, 1000, 1, false⟩,
   ⟨0x115, 0, 2, 1, 16, 1000, 1, false⟩, ⟨0x116, 0, 1, 0, 16, 1000, 1, false⟩, ⟨0x117, 0, 1, 0, 16, 1000, 1, false⟩,
   ⟨0x130, 0, 1, 1, 16, 1000, 1, false⟩, ⟨0x131, 0, 0, 0, 16, 1000, 1, false⟩, ⟨0x132, 0, 0, 0, 16, 1000, 1, false⟩,
   ⟨0x133, 0, 0, 0, 16, 1000, 1, false⟩, ⟨0x134, 0, 1, 1, 16, 1000, 1, false⟩, ⟨0x135, 0, 1, 1, 16, 1000, 1, false⟩,
   ⟨0x136, 0, 0, 0, 16, 1000, 1, false⟩, ⟨0x140, 0, 1, 1, 16, 1000, 1, false⟩, ⟨0x141, 4, 1, 1, 16, 1000, 1, false⟩,
   ⟨0x142, 4, 0, 0, 16, 1000, 1, false⟩, ⟨0x143, 4, 2, 1, 16, 1000, 1, false⟩, ⟨0x144, 0, 0, 0, 16, 1000, 1, false⟩,
   ⟨0x145, 0, 1, 0, 16, 1000, 1, false⟩, ⟨0x146, 0, 2, 1, 16, 1000, 1, false⟩, ⟨0x147, 0, 1, 1, 16, 1000, 1, false⟩,
   ⟨0x148, 0, 1, 1, 16, 1000, 1, false⟩, ⟨0x149, 0, 0, 0, 16, 1000, 1, false⟩, ⟨0x150, 6, 0, 0, 16, 1000, 1, false⟩,
   ⟨0x151, 6, 1, 1, 16, 1000, 1, false⟩, ⟨0x152, 0, 2, 1, 16, 1000, 1, false⟩]

/-- Assigned sources, part 4. -/
def morTable4 : List MorSrc :=
  [⟨0x153, 0, 3, 5, 16, 1000, 5, true⟩, ⟨0x154, 0, 2, 1, 16, 1000, 1, false⟩, ⟨0x155, 0, 3, 5, 16, 1000, 5, true⟩,
   ⟨0x156, 6, 0, 0, 16, 1000, 1, false⟩, ⟨0x157, 0, 2, 1, 16, 1000, 1, false⟩, ⟨0x158, 0, 0, 0, 16, 1000, 1, false⟩,
   ⟨0x160, 0, 1, 1, 16, 1000, 1, false⟩, ⟨0x161, 0, 1, 1, 16, 1000, 1, false⟩, ⟨0x162, 0, 1, 1, 16, 1000, 1, false⟩,
   ⟨0x163, 0, 1, 1, 16, 1000, 1, false⟩, ⟨0x164, 0, 0, 0, 16, 1000, 1, false⟩, ⟨0x165, 0, 0, 0, 16, 1000, 1, false⟩,
   ⟨0x170, 0, 0, 0, 16, 1000, 1, false⟩, ⟨0x171, 0, 0, 0, 16, 1000, 1, false⟩, ⟨0x172, 0, 1, 1, 16, 1000, 1, false⟩,
   ⟨0x173, 0, 0, 0, 16, 1000, 1, false⟩, ⟨0x178, 0, 0, 0, 16, 1000, 1, false⟩, ⟨0x179, 0, 1, 1, 16, 1000, 1, false⟩,
   ⟨0x17A, 0, 2, 5, 16, 1000, 5, false⟩, ⟨0x17B, 0, 0, 0, 16, 1000, 1, false⟩, ⟨0x17C, 0, 1, 1, 16, 1000, 1, false⟩,
   ⟨0x17D, 0, 0, 0, 16, 1000, 1, false⟩]

/-- Every assigned source. -/
def morTable : List MorSrc := morTable1 ++ morTable2 ++ morTable3 ++ morTable4

/-- The assigned source of a number; other numbers are reserved (R304). -/
def morSrc (s : Nat) : Option MorSrc := morTable.find? (fun r => r.src == s)

/-- Whether a source number is assigned. -/
def morAssigned (s : Nat) : Bool := (morSrc s).isSome

/-- The unit type of a source: 0xF for `MOR_SW[0..7]` (R303). -/
def morUnit (s : Nat) : Nat := ((morSrc s).map (·.unit)).getD 0

def morCls (s : Nat) : Nat := ((morSrc s).map (·.cls)).getD 0
def morReact (s : Nat) : Nat := ((morSrc s).map (·.react)).getD 0
def morEsc (s : Nat) : Nat := ((morSrc s).map (·.esc)).getD 0
def morN (s : Nat) : Nat := ((morSrc s).map (·.n)).getD 0
def morW (s : Nat) : Nat := ((morSrc s).map (·.w)).getD 0
def morFixed (s : Nat) : Bool := ((morSrc s).map (·.fixed)).getD false

namespace Src
def MOR_CFG_PARITY : Nat := 0x0
def MOR_LOG_DROP : Nat := 0x1
def TRI_THREE_WAY : Nat := 0x13
def TRI_DUPLEX_MISM : Nat := 0x14
def TRI_VOTER_CMP : Nat := 0x15
def TRI_REINT_FAIL : Nat := 0x16
def TRI_TCM_UE : Nat := 0x17
def TRI_MPU : Nat := 0x18
def TRI_WDOG : Nat := 0x19
def TRI_CALVE_DENIED : Nat := 0x1A
def PWR_SLEEP : Nat := 0x30
def PWR_DOM_RETRY : Nat := 0x31
def PWR_WAKE_FAIL : Nat := 0x32
def PWR_WAKE_DEGRADED : Nat := 0x33
def PWR_REFCLK_LOSS : Nat := 0x34
def PWR_TJ_WARN : Nat := 0x35
def PWR_TJ_TRIP : Nat := 0x36
def FIRN_VAR_MISS : Nat := 0x40
def BIST_ONLINE_FAIL : Nat := 0x50
def BIST_HOST_FAIL : Nat := 0x51
def BIST_INTEST : Nat := 0x52
def BOOT_COPY_B : Nat := 0x53
def FLOE_LOST : Nat := 0x60
def FLOE_DISAGREE : Nat := 0x61
def FLOE_PARK : Nat := 0x62
def FLOE_DELAY_EV : Nat := 0x63
def FLOE_BAD_SLOT : Nat := 0x64
def FLOE_EXP_NOACK : Nat := 0x65
def LEDGER_HOT_UE : Nat := 0xA0
def LEDGER_CACHE_UE : Nat := 0xA1
def LEDGER_FOLD_LATE : Nat := 0xA2
def GRP_OVERRUN : Nat := 0xC0
def CHAN_STALE_HOLD : Nat := 0xC1
def SEQ_BAR_TIMEOUT : Nat := 0xC2
def ENG_ACC_OV : Nat := 0xC8
def ENG_RUNAWAY : Nat := 0xC9
def ENG_MEM_VIOL : Nat := 0xCA
def ENG_JRNL_FULL : Nat := 0xCB
def ENG_SMP_OVR : Nat := 0xCC
def ENG_USER : Nat := 0xCD
def SERAC_TRIP : Nat := 0xE0
def SERAC_GROUP_TRIP : Nat := 0xE1
def SERAC_ZONE_QUENCH : Nat := 0xE2
def SERAC_BAY_QUENCH : Nat := 0xE3
def SERAC_FIRE : Nat := 0xE4
def SERAC_EXT_LATCH : Nat := 0xE5
def SERAC_DISAGREE : Nat := 0xE6
def SERAC_DIS_ESC : Nat := 0xE7
def SERAC_PLANE_LATE : Nat := 0xE8
def SERAC_CFG_PARITY : Nat := 0xE9
def NET_BUS_WARN : Nat := 0x100
def NET_BUS_CURB : Nat := 0x101
def NET_BUS_TRIP : Nat := 0x102
def NET_SENSE : Nat := 0x103
def NET_CHOP_FAIL : Nat := 0x104
def NET_BUS_LOW : Nat := 0x105
def NET_XCH_MISS : Nat := 0x106
def RIMEL_SYNC_LOSS : Nat := 0x110
def RIMEL_CS_ABORT : Nat := 0x111
def RIMEL_CS_EXHAUST : Nat := 0x112
def RIMEL_CH_FAIL : Nat := 0x113
def RIMEL_GRD_BLOCK : Nat := 0x114
def RIMEL_GCLK_FAIL : Nat := 0x115
def RIMEL_AUTH : Nat := 0x116
def RIMEL_TRUNC : Nat := 0x117
def RIMET_SYNC_LOSS : Nat := 0x130
def RIMET_CS_ABORT : Nat := 0x131
def TIME_CLOCK : Nat := 0x132
def TIME_STEP : Nat := 0x133
def TIME_BEHIND : Nat := 0x134
def TIME_ISO_LIMIT : Nat := 0x135
def RIMET_MC_LAPSE : Nat := 0x136
def SCH_HB_LOSS : Nat := 0x140
def SCH_TAKEOVER : Nat := 0x141
def SCH_RESYNC : Nat := 0x142
def SCH_RESYNC_REPEAT : Nat := 0x143
def SCH_CLASS_RESYNC : Nat := 0x144
def SCH_LANE : Nat := 0x145
def SCH_INPUT_GAP : Nat := 0x146
def SCH_SPLIT : Nat := 0x147
def SCH_DETACH : Nat := 0x148
def SCH_JOIN_FAIL : Nat := 0x149
def SAFE_DEMAND : Nat := 0x150
def SAFE_IN_FAULT : Nat := 0x151
def SAFE_OUT_FAULT : Nat := 0x152
def SAFE_EVAL_LATE : Nat := 0x153
def SAFE_BRAKE_FAIL : Nat := 0x154
def SAFE_CFG_PARITY : Nat := 0x155
def SAFE_RESET_REJ : Nat := 0x156
def SAFE_TP_FAULT : Nat := 0x157
def SAFE_UNCONFIRMED : Nat := 0x158
def AXIS_KE : Nat := 0x160
def AXIS_OC : Nat := 0x161
def AXIS_FORCE : Nat := 0x162
def AXIS_ENC : Nat := 0x163
def AXIS_STOP_SLOW : Nat := 0x164
def AXIS_PATTERN : Nat := 0x165
def AUX_TRIG_OVR : Nat := 0x170
def AUX_LATE : Nat := 0x171
def AUX_OPEN : Nat := 0x172
def AUX_CLIP : Nat := 0x173
def FWL_VIOL : Nat := 0x178
def DRC_UE : Nat := 0x179
def DRC_RANK : Nat := 0x17A
def DRC_SCRUB_LATE : Nat := 0x17B
def HOST_LINK_DOWN : Nat := 0x17C
def HOST_RING_DROP : Nat := 0x17D
/-- `MOR_SW[i]`. -/
def MOR_SW (i : Nat) : Nat := 8 + i
/-- `TRI_CORE_MISM[c]`. -/
def TRI_CORE_MISM (c : Nat) : Nat := 0x10 + c
end Src

end Sys2Proof.Machine
end

