-- ==== Sys2Proof/Machine/Regs.lean ====
section
/-!
DEFINITION. One handle for every register field of the register tables of chapters 02 to 23: byte address, lowest bit,
width and reset value (R10, R11, R527). Indexed registers take their indices in the order of the spec's brackets. A
reset value that the tables give as "from image", "from strap", "from fuses", "from header" or "random" stands as 0 here
and is written by the step that the spec names (log entry 2).
-/
namespace Sys2Proof.Machine

/-- A register field: byte address of its register, lowest bit, width, reset value. -/
structure Fld where
  addr : Nat
  lo : Nat
  wd : Nat
  rst : Nat
deriving DecidableEq, Repr

namespace Reg

def FIRN_CTRL_CMD : Fld := ⟨0x10040000, 0, 4, 0⟩
def FIRN_CTRL_SLOT : Fld := ⟨0x10040000, 4, 2, 0⟩
def FIRN_STAT_BUSY : Fld := ⟨0x10040004, 0, 1, 0⟩
def FIRN_STAT_DONE : Fld := ⟨0x10040004, 1, 1, 0⟩
def FIRN_STAT_ERR : Fld := ⟨0x10040004, 2, 1, 0⟩
def FIRN_STAT_VAR_MISS : Fld := ⟨0x10040004, 3, 1, 0⟩
def FIRN_STAT_ACTIVE_VAR : Fld := ⟨0x10040004, 4, 2, 0⟩
def FIRN_STAT_SLOT_VALID : Fld := ⟨0x10040004, 8, 4, 0⟩
def FIRN_STAT_PEND_VAR : Fld := ⟨0x10040004, 12, 2, 0⟩
def FIRN_STAT_PEND : Fld := ⟨0x10040004, 14, 1, 0⟩
def FIRN_STAT_COMMIT_PEND : Fld := ⟨0x10040004, 15, 1, 0⟩
def FIRN_STAT_FORMAT : Fld := ⟨0x10040004, 16, 2, 0⟩
def FIRN_ERR_CODE : Fld := ⟨0x10040008, 0, 8, 0⟩
def FIRN_ERR_SLOT : Fld := ⟨0x10040008, 8, 2, 0⟩
def FIRN_ERR_PARTNER : Fld := ⟨0x10040008, 10, 1, 0⟩
def FIRN_ERR_SECTION : Fld := ⟨0x10040008, 16, 16, 0⟩
def FIRN_ERROFF_OFFSET : Fld := ⟨0x1004000C, 0, 32, 0⟩
def FIRN_SRC_LO_ADDR : Fld := ⟨0x10040010, 0, 32, 0⟩
def FIRN_SRC_HI_ADDR : Fld := ⟨0x10040014, 0, 3, 0⟩
def FIRN_LEN_LEN : Fld := ⟨0x10040018, 0, 23, 0⟩
def FIRN_SLOT_SERIAL_SERIAL (n : Nat) : Fld := ⟨0x10040020 + 4 * n, 0, 32, 0⟩
def FIRN_SAFE_CRC_CHECK : Fld := ⟨0x10040030, 0, 32, 0⟩
def FIRN_LEDGER_VER_VER : Fld := ⟨0x10040034, 0, 16, 0⟩
def FIRN_PAIR_ERR_OFFSET : Fld := ⟨0x10040038, 0, 32, 0⟩
def FIRN_KEYMASK_SLOTS : Fld := ⟨0x1004003C, 0, 4, 0xF⟩
def FIRN_LOCK_LOCK : Fld := ⟨0x10040040, 0, 1, 0⟩

def FLOE_CTRL_ENABLE (n : Nat) : Fld := ⟨0x10050000 + 0x100 * n, 0, 1, 0⟩
def FLOE_CTRL_RESTART (n : Nat) : Fld := ⟨0x10050000 + 0x100 * n, 1, 1, 0⟩
def FLOE_CTRL_TX_INV (n : Nat) : Fld := ⟨0x10050000 + 0x100 * n, 2, 1, 0⟩
def FLOE_CTRL_RX_INV (n : Nat) : Fld := ⟨0x10050000 + 0x100 * n, 3, 1, 0⟩
def FLOE_CTRL_EXP_RESEND (n : Nat) : Fld := ⟨0x10050000 + 0x100 * n, 4, 1, 1⟩
def FLOE_CTRL_CNT_CLR (n : Nat) : Fld := ⟨0x10050000 + 0x100 * n, 5, 1, 0⟩
def FLOE_STAT_STATE (n : Nat) : Fld := ⟨0x10050004 + 0x100 * n, 0, 4, 0⟩
def FLOE_STAT_VER (n : Nat) : Fld := ⟨0x10050004 + 0x100 * n, 4, 2, 0⟩
def FLOE_STAT_PARK_REASON (n : Nat) : Fld := ⟨0x10050004 + 0x100 * n, 8, 3, 0⟩
def FLOE_STAT_NO_SIGNAL (n : Nat) : Fld := ⟨0x10050004 + 0x100 * n, 11, 1, 0⟩
def FLOE_STAT_LOST_EV (n : Nat) : Fld := ⟨0x10050004 + 0x100 * n, 16, 1, 0⟩
def FLOE_STAT_DISAGREE (n : Nat) : Fld := ⟨0x10050004 + 0x100 * n, 17, 1, 0⟩
def FLOE_STAT_EXP_NOACK (n : Nat) : Fld := ⟨0x10050004 + 0x100 * n, 18, 1, 0⟩
def FLOE_STAT_SKEW (n : Nat) : Fld := ⟨0x10050004 + 0x100 * n, 19, 1, 0⟩
def FLOE_STAT_BAD_SLOT (n : Nat) : Fld := ⟨0x10050004 + 0x100 * n, 20, 1, 0⟩
def FLOE_STAT_PARK_EV (n : Nat) : Fld := ⟨0x10050004 + 0x100 * n, 21, 1, 0⟩
def FLOE_STAT_RENEG (n : Nat) : Fld := ⟨0x10050004 + 0x100 * n, 22, 1, 0⟩
def FLOE_CAPS_VER_MIN (n : Nat) : Fld := ⟨0x10050008 + 0x100 * n, 0, 4, 0⟩
def FLOE_CAPS_VER_MAX (n : Nat) : Fld := ⟨0x10050008 + 0x100 * n, 4, 4, 0⟩
def FLOE_CAPS_NCH (n : Nat) : Fld := ⟨0x10050008 + 0x100 * n, 8, 6, 0⟩
def FLOE_CAPS_NRANGE (n : Nat) : Fld := ⟨0x10050008 + 0x100 * n, 16, 3, 0⟩
def FLOE_CAPS_EXP_ACK (n : Nat) : Fld := ⟨0x10050008 + 0x100 * n, 19, 1, 0⟩
def FLOE_CHSTAT_USABLE (n : Nat) : Fld := ⟨0x1005000C + 0x100 * n, 0, 32, 0⟩
def FLOE_BRICK_ID_ID (n : Nat) : Fld := ⟨0x10050010 + 0x100 * n, 0, 32, 0⟩
def FLOE_BRICK_SN_SERIAL (n : Nat) : Fld := ⟨0x10050014 + 0x100 * n, 0, 32, 0⟩
def FLOE_BRICK_FW_FW (n : Nat) : Fld := ⟨0x10050018 + 0x100 * n, 0, 32, 0⟩
def FLOE_DELAY_D_NS (n : Nat) : Fld := ⟨0x1005001C + 0x100 * n, 0, 16, 0⟩
def FLOE_ERR_CODE_CNT (n : Nat) : Fld := ⟨0x10050020 + 0x100 * n, 0, 32, 0⟩
def FLOE_ERR_FRAME_CNT (n : Nat) : Fld := ⟨0x10050024 + 0x100 * n, 0, 32, 0⟩
def FLOE_MISS_CNT (n : Nat) : Fld := ⟨0x10050028 + 0x100 * n, 0, 32, 0⟩
def FLOE_EXP_ID (n : Nat) : Fld := ⟨0x1005002C + 0x100 * n, 0, 32, 0⟩
def FLOE_BRICK_HDR_HDR (n : Nat) : Fld := ⟨0x10050030 + 0x100 * n, 0, 32, 0⟩
def FLOE_BRICK_DIS_DIS_SEQ (n : Nat) : Fld := ⟨0x10050034 + 0x100 * n, 0, 16, 0⟩
def FLOE_RANGE_FS_FS_UA (n : Nat) (m : Nat) : Fld := ⟨0x10050038 + 0x100 * n + 4 * m, 0, 32, 0⟩
def FLOE_VFS_VFS (n : Nat) : Fld := ⟨0x1005004C + 0x100 * n, 0, 32, 0⟩
def FLOE_RAMP_RAMP (n : Nat) : Fld := ⟨0x10050050 + 0x100 * n, 0, 32, 0⟩
def FLOE_LOST_SUM_PORTS (n : Nat) : Fld := ⟨0x10058000 + 4 * n, 0, 32, 0⟩
def FLOE_PARK_SUM_PORTS (n : Nat) : Fld := ⟨0x10058010 + 4 * n, 0, 32, 0⟩
def FLOE_GLOCK_LOCK : Fld := ⟨0x10058020, 0, 1, 0⟩

def MEAS_CTRL_OVL_LIM : Fld := ⟨0x10060000, 0, 16, 0x7000⟩
def MEAS_STAT_CAL_BUSY : Fld := ⟨0x10060004, 0, 1, 0⟩
def MEAS_STAT_CAL_DONE : Fld := ⟨0x10060004, 1, 1, 0⟩
def MEAS_STAT_CAL_ERR : Fld := ⟨0x10060004, 2, 1, 0⟩
def MEAS_STAT_ZERO_HELD : Fld := ⟨0x10060004, 4, 1, 0⟩
def MEAS_STAT_FULL_HELD : Fld := ⟨0x10060004, 5, 1, 0⟩
def MEAS_STAT_CAL_CODE : Fld := ⟨0x10060004, 8, 8, 0⟩
def MEAS_STAT_CAL_FAILS : Fld := ⟨0x10060004, 16, 13, 0⟩
def MEAS_CAL_CTRL_CMD : Fld := ⟨0x10060008, 0, 4, 0⟩
def MEAS_CAL_CTRL_STREAM : Fld := ⟨0x10060008, 4, 3, 0⟩
def MEAS_CAL_CTRL_LOG2N : Fld := ⟨0x10060008, 8, 4, 8⟩
def MEAS_CAL_CTRL_SETTLE : Fld := ⟨0x10060008, 12, 8, 8⟩
def MEAS_RNG_UP_PCT (n : Nat) : Fld := ⟨0x10060400 + 4 * n, 0, 8, 0x5F⟩
def MEAS_RNG_DN_PCT (n : Nat) : Fld := ⟨0x10060400 + 4 * n, 8, 8, 0x50⟩
def MEAS_RNG_HOLD (n : Nat) : Fld := ⟨0x10060400 + 4 * n, 16, 8, 0x14⟩
def MEAS_RNG_FORCE_RANGE (n : Nat) : Fld := ⟨0x10060400 + 4 * n, 24, 3, 0⟩
def MEAS_RNG_FORCE (n : Nat) : Fld := ⟨0x10060400 + 4 * n, 27, 1, 0⟩
def MEAS_RNG_CLIP_UP (n : Nat) : Fld := ⟨0x10060400 + 4 * n, 28, 1, 1⟩
def MEAS_CAL_CH_FIRST : Fld := ⟨0x1006000C, 0, 12, 0⟩
def MEAS_CAL_CH_NUM : Fld := ⟨0x1006000C, 16, 13, 0⟩
def MEAS_CAL_REFZ_REFZ : Fld := ⟨0x10060010, 0, 24, 0⟩
def MEAS_CAL_REFF_REFF : Fld := ⟨0x10060014, 0, 24, 0⟩
def MEAS_CAL_REFID_LO_ID : Fld := ⟨0x10060018, 0, 32, 0⟩
def MEAS_CAL_REFID_HI_ID : Fld := ⟨0x1006001C, 0, 32, 0⟩
def MEAS_CAL_FAIL_CH_CH : Fld := ⟨0x10060020, 0, 12, 0⟩
def MEAS_CAL_FAIL_CH_CODE : Fld := ⟨0x10060020, 16, 8, 0⟩
def MEAS_RNG_CNT_CNT : Fld := ⟨0x10060024, 0, 32, 0⟩
def MEAS_SUBST_CNT_CNT : Fld := ⟨0x10060028, 0, 32, 0⟩
def MEAS_CLIP_CNT_CNT : Fld := ⟨0x1006002C, 0, 32, 0⟩
def MEAS_LOCK_LOCK : Fld := ⟨0x10060030, 0, 1, 0⟩
def MEAS_CONTACT_LIM_HIGH_MOHM (n : Nat) : Fld := ⟨0x10060800 + 8 * n, 0, 16, 0x14⟩
def MEAS_CONTACT_LIM_OPEN_MOHM (n : Nat) : Fld := ⟨0x10060800 + 8 * n, 16, 16, 0x7D0⟩
def MEAS_CONTACT_TIM_BASE (n : Nat) : Fld := ⟨0x10060804 + 8 * n, 0, 8, 4⟩
def MEAS_CONTACT_TIM_SETTLE (n : Nat) : Fld := ⟨0x10060804 + 8 * n, 8, 8, 5⟩
def MEAS_CONTACT_TIM_MEAS (n : Nat) : Fld := ⟨0x10060804 + 8 * n, 16, 8, 4⟩

def LEDGER_CTRL_FLUSH : Fld := ⟨0x4200000, 0, 1, 0⟩
def LEDGER_CTRL_CLR_GO : Fld := ⟨0x4200000, 1, 1, 0⟩
def LEDGER_CTRL_CLR_SEG : Fld := ⟨0x4200000, 9, 4, 0⟩
def LEDGER_RSTAT_TORN_HOST : Fld := ⟨0x4200004, 0, 1, 0⟩
def LEDGER_RSTAT_TORN_TRIAD : Fld := ⟨0x4200004, 1, 1, 0⟩
def LEDGER_RSTAT_WTORN_HOST : Fld := ⟨0x4200004, 2, 1, 0⟩
def LEDGER_RSTAT_WTORN_TRIAD : Fld := ⟨0x4200004, 3, 1, 0⟩
def LEDGER_RSTAT_SNAP_HOST : Fld := ⟨0x4200004, 4, 1, 0⟩
def LEDGER_RSTAT_SNAP_TRIAD : Fld := ⟨0x4200004, 5, 1, 0⟩
def LEDGER_RSTAT_FLUSH_BUSY : Fld := ⟨0x4200004, 6, 1, 0⟩
def LEDGER_RSTAT_CLR_BUSY : Fld := ⟨0x4200004, 7, 1, 0⟩
def LEDGER_RSTAT_FOLD_LATE : Fld := ⟨0x4200004, 8, 1, 0⟩
def LEDGER_RSTAT_UE : Fld := ⟨0x4200004, 9, 1, 0⟩
def LEDGER_STRM_CTRL_EN (n : Nat) : Fld := ⟨0x4200800 + 0x20 * n, 0, 1, 0⟩
def LEDGER_STRM_CTRL_SEG (n : Nat) : Fld := ⟨0x4200800 + 0x20 * n, 1, 3, 0⟩
def LEDGER_STRM_CTRL_PERIOD (n : Nat) : Fld := ⟨0x4200800 + 0x20 * n, 16, 16, 0⟩
def LEDGER_TORN_ADDR_ADDR : Fld := ⟨0x4200008, 0, 32, 0⟩
def LEDGER_BASE_LO_ADDR : Fld := ⟨0x420000C, 25, 7, 0⟩
def LEDGER_BASE_HI_ADDR : Fld := ⟨0x4200010, 0, 3, 0⟩
def LEDGER_CLR_CH_FIRST : Fld := ⟨0x4200014, 0, 12, 0⟩
def LEDGER_CLR_CH_NUM : Fld := ⟨0x4200014, 16, 13, 0⟩
def LEDGER_FOLD_CYC_CYC : Fld := ⟨0x4200018, 0, 32, 0⟩
def LEDGER_ECC_CNT_CNT : Fld := ⟨0x420001C, 0, 32, 0⟩
def LEDGER_UE_ADDR_ADDR : Fld := ⟨0x4200020, 0, 32, 0⟩
def LEDGER_MISS_CNT_CNT : Fld := ⟨0x4200024, 0, 32, 0⟩
def LEDGER_LOCK_LOCK : Fld := ⟨0x4200028, 0, 1, 0⟩
def LEDGER_AVG_LOG2N_V (n : Nat) : Fld := ⟨0x4200400 + 4 * n, 0, 5, 0⟩
def LEDGER_AVG_LOG2N_I (n : Nat) : Fld := ⟨0x4200400 + 4 * n, 8, 5, 0⟩
def LEDGER_STRM_CH_FIRST (n : Nat) : Fld := ⟨0x4200804 + 0x20 * n, 0, 12, 0⟩
def LEDGER_STRM_CH_NUM (n : Nat) : Fld := ⟨0x4200804 + 0x20 * n, 16, 13, 0⟩
def LEDGER_STRM_RANGE_OFFSET (n : Nat) : Fld := ⟨0x4200808 + 0x20 * n, 0, 11, 0⟩
def LEDGER_STRM_RANGE_LEN (n : Nat) : Fld := ⟨0x4200808 + 0x20 * n, 16, 12, 0⟩
def LEDGER_STRM_PHASE_PHASE (n : Nat) : Fld := ⟨0x420080C + 0x20 * n, 0, 16, 0⟩
def LEDGER_STRM_STAT_ACTIVE (n : Nat) : Fld := ⟨0x4200810 + 0x20 * n, 0, 1, 0⟩
def LEDGER_STRM_STAT_REFUSED (n : Nat) : Fld := ⟨0x4200810 + 0x20 * n, 1, 1, 0⟩
def LEDGER_STRM_LOSS_CNT (n : Nat) : Fld := ⟨0x4200814 + 0x20 * n, 0, 32, 0⟩
def LEDGER_STRM_CNT_CNT (n : Nat) : Fld := ⟨0x4200818 + 0x20 * n, 0, 32, 0⟩

def CHAN_STAT_STALE_EV : Fld := ⟨0x10070000, 0, 1, 0⟩
def CHAN_STAT_DEMAND_EV : Fld := ⟨0x10070000, 1, 1, 0⟩
def CHAN_STAT_HO_EV : Fld := ⟨0x10070000, 2, 1, 0⟩
def CHAN_STAT_MAN_REF : Fld := ⟨0x10070000, 3, 1, 0⟩
def CHAN_STAT_MAN_PEND : Fld := ⟨0x10070000, 4, 1, 0⟩
def CHAN_REGCFG_STALE_MAX (n : Nat) : Fld := ⟨0x10071024 + 0x40 * n, 0, 8, 4⟩
def CHAN_REGCFG_CAP_TICKS (n : Nat) : Fld := ⟨0x10071024 + 0x40 * n, 8, 12, 0xC8⟩
def CHAN_REGCFG_TONE_SET (n : Nat) : Fld := ⟨0x10071024 + 0x40 * n, 20, 4, 0⟩
def CHAN_REGCFG_TONE_EN (n : Nat) : Fld := ⟨0x10071024 + 0x40 * n, 24, 1, 0⟩
def CHAN_REGCFG_HO_SAT (n : Nat) : Fld := ⟨0x10071024 + 0x40 * n, 25, 7, 0x14⟩
def CHAN_STALE_CNT_CNT : Fld := ⟨0x10070004, 0, 32, 0⟩
def CHAN_LOCK_LOCK : Fld := ⟨0x10070008, 0, 1, 0⟩
def CHAN_MAN_CH_CH : Fld := ⟨0x10070010, 0, 12, 0⟩
def CHAN_MAN_CTRL_GO : Fld := ⟨0x10070014, 0, 1, 0⟩
def CHAN_MAN_CTRL_RELEASE : Fld := ⟨0x10070014, 1, 1, 0⟩
def CHAN_MAN_DEM_WORD (n : Nat) : Fld := ⟨0x10070020 + 4 * n, 0, 32, 0⟩
def CHAN_KPV_KP (n : Nat) : Fld := ⟨0x10071000 + 0x40 * n, 0, 32, 0xA00000⟩
def CHAN_KIV_KI (n : Nat) : Fld := ⟨0x10071004 + 0x40 * n, 0, 32, 0x100000⟩
def CHAN_KPP_KP (n : Nat) : Fld := ⟨0x10071008 + 0x40 * n, 0, 32, 0⟩
def CHAN_KIP_KI (n : Nat) : Fld := ⟨0x1007100C + 0x40 * n, 0, 32, 0⟩
def CHAN_KPH_KP (n : Nat) : Fld := ⟨0x10071010 + 0x40 * n, 0, 32, 0x400⟩
def CHAN_KIH_KI (n : Nat) : Fld := ⟨0x10071014 + 0x40 * n, 0, 32, 0x40⟩
def CHAN_SLEW_SLEW (n : Nat) : Fld := ⟨0x10071018 + 0x40 * n, 0, 32, 0⟩
def CHAN_ICHG_ILIM (n : Nat) : Fld := ⟨0x1007101C + 0x40 * n, 0, 32, 0x7FFFFFFF⟩
def CHAN_IDIS_ILIM (n : Nat) : Fld := ⟨0x10071020 + 0x40 * n, 0, 32, 0x7FFFFFFF⟩
def CHAN_CPVMIN_VMIN (n : Nat) : Fld := ⟨0x10071028 + 0x40 * n, 0, 32, 0x7A120⟩
def CHAN_TONE_INC_INC (n : Nat) (m : Nat) : Fld := ⟨0x10075000 + 0x40 * n + 8 * m, 0, 32, 0⟩
def CHAN_TONE_AMP_AMP (n : Nat) (m : Nat) : Fld := ⟨0x10075004 + 0x40 * n + 8 * m, 0, 16, 0⟩
def CHAN_TONE_AMP_PHASE0 (n : Nat) (m : Nat) : Fld := ⟨0x10075004 + 0x40 * n + 8 * m, 16, 16, 0⟩
def CHAN_GRD_COND_QTY (n : Nat) (m : Nat) (k : Nat) : Fld := ⟨0x10076000 + 0x800 * n + 0x20 * m + 8 * k, 0, 5, 0⟩
def CHAN_GRD_COND_OP (n : Nat) (m : Nat) (k : Nat) : Fld := ⟨0x10076000 + 0x800 * n + 0x20 * m + 8 * k, 5, 1, 0⟩
def CHAN_GRD_COND_EN (n : Nat) (m : Nat) (k : Nat) : Fld := ⟨0x10076000 + 0x800 * n + 0x20 * m + 8 * k, 6, 1, 0⟩
def CHAN_GRD_COND_PA (n : Nat) (m : Nat) (k : Nat) : Fld := ⟨0x10076000 + 0x800 * n + 0x20 * m + 8 * k, 8, 8, 0⟩
def CHAN_GRD_COND_PB (n : Nat) (m : Nat) (k : Nat) : Fld := ⟨0x10076000 + 0x800 * n + 0x20 * m + 8 * k, 16, 8, 0⟩
def CHAN_GRD_PSET_WORD (n : Nat) (m : Nat) : Fld := ⟨0x10077000 + 0x20 * n + 4 * m, 0, 32, 0⟩
def CHAN_GRD_ICA_CFG_BIN_UV (n : Nat) : Fld := ⟨0x10077804 + 8 * n, 0, 16, 0x7D0⟩
def CHAN_GRD_ICA_CFG_HSHIFT (n : Nat) : Fld := ⟨0x10077804 + 8 * n, 16, 5, 0xE⟩
def CHAN_GRD_ICA_CFG_EN (n : Nat) : Fld := ⟨0x10077804 + 8 * n, 24, 1, 0⟩
def CHAN_GRD_ICA_CFG_SPLIT (n : Nat) : Fld := ⟨0x10077804 + 8 * n, 25, 1, 0⟩
def CHAN_GRD_ICA_CFG_TONES (n : Nat) : Fld := ⟨0x10077804 + 8 * n, 26, 1, 0⟩
def CHAN_GRD_LIM_LIMIT (n : Nat) (m : Nat) (k : Nat) : Fld := ⟨0x10076004 + 0x800 * n + 0x20 * m + 8 * k, 0, 32, 0⟩
def CHAN_GRD_CTRL_REC_EN : Fld := ⟨0x10077400, 0, 1, 0⟩
def CHAN_GRD_STAT_REC_DROP : Fld := ⟨0x10077404, 0, 1, 0⟩
def CHAN_GRD_STAT_HIST_SAT : Fld := ⟨0x10077404, 1, 1, 0⟩
def CHAN_GRD_STAT_BUSY_EV : Fld := ⟨0x10077404, 2, 1, 0⟩
def CHAN_GRD_TBL_COUNT (n : Nat) : Fld := ⟨0x10077408 + 4 * n, 0, 7, 0⟩
def CHAN_GRD_REC_CNT_CNT : Fld := ⟨0x10077410, 0, 32, 0⟩
def CHAN_GRD_REC_DROP_CNT : Fld := ⟨0x10077414, 0, 32, 0⟩
def CHAN_GRD_BUSY_CNT_CNT : Fld := ⟨0x10077418, 0, 32, 0⟩
def CHAN_GRD_ICA_V_V_LO (n : Nat) : Fld := ⟨0x10077800 + 8 * n, 0, 32, 0x2625A0⟩
def CHAN_ENG_CTRL_WRAP (n : Nat) : Fld := ⟨0x2030000 + 0x40000 * n, 0, 1, 0⟩
def CHAN_ENG_CTRL_PEAK_CLR (n : Nat) : Fld := ⟨0x2030000 + 0x40000 * n, 1, 1, 0⟩
def CHAN_ENG_STAT_ACC_OV (n : Nat) : Fld := ⟨0x2030004 + 0x40000 * n, 0, 1, 0⟩
def CHAN_ENG_STAT_RUNAWAY (n : Nat) : Fld := ⟨0x2030004 + 0x40000 * n, 1, 1, 0⟩
def CHAN_ENG_STAT_MEM_VIOL (n : Nat) : Fld := ⟨0x2030004 + 0x40000 * n, 2, 1, 0⟩
def CHAN_ENG_STAT_JRNL_FULL (n : Nat) : Fld := ⟨0x2030004 + 0x40000 * n, 3, 1, 0⟩
def CHAN_ENG_STAT_SMP_OVR (n : Nat) : Fld := ⟨0x2030004 + 0x40000 * n, 4, 1, 0⟩
def CHAN_ENG_STAT_ROLLBACK (n : Nat) : Fld := ⟨0x2030004 + 0x40000 * n, 5, 1, 0⟩
def CHAN_ENG_STAT_FINISH_LATE (n : Nat) : Fld := ⟨0x2030004 + 0x40000 * n, 6, 1, 0⟩
def CHAN_ENG_STAT_CONTROL_LATE (n : Nat) : Fld := ⟨0x2030004 + 0x40000 * n, 7, 1, 0⟩
def CHAN_ENG_STAT_BANK (n : Nat) : Fld := ⟨0x2030004 + 0x40000 * n, 8, 1, 0⟩
def CHAN_ENG_OV_CH (n : Nat) : Fld := ⟨0x2030008 + 0x40000 * n, 0, 12, 0⟩
def CHAN_ENG_OV_KERNEL (n : Nat) : Fld := ⟨0x2030008 + 0x40000 * n, 16, 8, 0⟩
def CHAN_ENG_CYC_CNT (n : Nat) : Fld := ⟨0x203000C + 0x40000 * n, 0, 32, 0⟩
def CHAN_ENG_LOAD_FINISH (n : Nat) : Fld := ⟨0x2030010 + 0x40000 * n, 0, 16, 0⟩
def CHAN_ENG_LOAD_CONTROL (n : Nat) : Fld := ⟨0x2030010 + 0x40000 * n, 16, 16, 0⟩
def CHAN_ENG_PEAK_FINISH (n : Nat) : Fld := ⟨0x2030014 + 0x40000 * n, 0, 16, 0⟩
def CHAN_ENG_PEAK_CONTROL (n : Nat) : Fld := ⟨0x2030014 + 0x40000 * n, 16, 16, 0⟩
def CHAN_ENG_SMP_LAST (n : Nat) : Fld := ⟨0x2030018 + 0x40000 * n, 0, 16, 0⟩
def CHAN_ENG_SMP_PEAK (n : Nat) : Fld := ⟨0x2030018 + 0x40000 * n, 16, 16, 0⟩
def CHAN_ENG_JRNL_LAST (n : Nat) : Fld := ⟨0x203001C + 0x40000 * n, 0, 13, 0⟩
def CHAN_ENG_JRNL_PEAK (n : Nat) : Fld := ⟨0x203001C + 0x40000 * n, 16, 13, 0⟩
def CHAN_ENG_VIOL_ADDR (n : Nat) : Fld := ⟨0x2030020 + 0x40000 * n, 0, 16, 0⟩
def CHAN_ENG_VIOL_SPACE (n : Nat) : Fld := ⟨0x2030020 + 0x40000 * n, 16, 2, 0⟩
def CHAN_ENG_VIOL_CH (n : Nat) : Fld := ⟨0x2030020 + 0x40000 * n, 20, 12, 0⟩
def CHAN_ENG_RUNAWAY_CNT_CNT (n : Nat) : Fld := ⟨0x2030024 + 0x40000 * n, 0, 32, 0⟩
def CHAN_ENG_SMP_OVR_CNT_CNT (n : Nat) : Fld := ⟨0x2030028 + 0x40000 * n, 0, 32, 0⟩
def CHAN_ENG_SUM_ENG : Fld := ⟨0x10075400, 0, 24, 0⟩
def CHAN_ENG_LOCK_LOCK : Fld := ⟨0x10075404, 0, 1, 0⟩

def SEQ_CMD_CMD : Fld := ⟨0x10078000, 0, 4, 0⟩
def SEQ_CMD_SEL : Fld := ⟨0x10078000, 4, 2, 0⟩
def SEQ_CMD_START_STEP : Fld := ⟨0x10078000, 16, 10, 0⟩
def SEQ_STAT_CMD_PEND : Fld := ⟨0x10078008, 0, 1, 0⟩
def SEQ_STAT_CMD_DONE : Fld := ⟨0x10078008, 1, 1, 0⟩
def SEQ_STAT_CMD_SKIP : Fld := ⟨0x10078008, 2, 1, 0⟩
def SEQ_STAT_LOAD_BUSY : Fld := ⟨0x10078008, 3, 1, 0⟩
def SEQ_STAT_LOAD_DONE : Fld := ⟨0x10078008, 4, 1, 0⟩
def SEQ_STAT_LOAD_ERR : Fld := ⟨0x10078008, 5, 1, 0⟩
def SEQ_STAT_CTRL_DISC : Fld := ⟨0x10078008, 6, 1, 0⟩
def SEQ_STAT_BAR_TO : Fld := ⟨0x10078008, 7, 1, 0⟩
def SEQ_STAT_SKIP_CNT : Fld := ⟨0x10078008, 16, 13, 0⟩
def SEQ_CFG_CONFIRM (n : Nat) : Fld := ⟨0x10078400 + 4 * n, 0, 4, 3⟩
def SEQ_CFG_DVDT_W (n : Nat) : Fld := ⟨0x10078400 + 4 * n, 4, 3, 4⟩
def SEQ_CMD_SET_FIRST : Fld := ⟨0x10078004, 0, 12, 0⟩
def SEQ_CMD_SET_NUM : Fld := ⟨0x10078004, 16, 13, 0⟩
def SEQ_CMD_ERR_CH : Fld := ⟨0x1007800C, 0, 12, 0⟩
def SEQ_CMD_ERR_REASON : Fld := ⟨0x1007800C, 16, 8, 0⟩
def SEQ_LOAD_CTRL_CMD : Fld := ⟨0x10078010, 0, 4, 0⟩
def SEQ_LOAD_CTRL_SLOT : Fld := ⟨0x10078010, 8, 6, 0⟩
def SEQ_LOAD_SRC_LO_ADDR : Fld := ⟨0x10078014, 0, 32, 0⟩
def SEQ_LOAD_SRC_HI_ADDR : Fld := ⟨0x10078018, 0, 3, 0⟩
def SEQ_LOAD_LEN_LEN : Fld := ⟨0x1007801C, 0, 16, 0⟩
def SEQ_LOAD_ERR_CODE : Fld := ⟨0x10078020, 0, 8, 0⟩
def SEQ_LOAD_ERR_SLOT : Fld := ⟨0x10078020, 8, 6, 0⟩
def SEQ_LOAD_ERR_OFFSET : Fld := ⟨0x10078020, 16, 16, 0⟩
def SEQ_SLOT_VALID_LO_SLOTS : Fld := ⟨0x10078024, 0, 32, 0⟩
def SEQ_SLOT_VALID_HI_SLOTS : Fld := ⟨0x10078028, 0, 32, 0⟩
def SEQ_BAR_TO_CNT_CNT : Fld := ⟨0x1007802C, 0, 32, 0⟩
def SEQ_SLOT_INFO_NSTEPS (n : Nat) : Fld := ⟨0x10078100 + 4 * n, 0, 11, 0⟩
def SEQ_SLOT_INFO_USERS (n : Nat) : Fld := ⟨0x10078100 + 4 * n, 16, 13, 0⟩
def SEQ_SLOT_ID_PROG_ID (n : Nat) : Fld := ⟨0x10078200 + 4 * n, 0, 32, 0⟩
def SEQ_LBAR_EXPECT (n : Nat) : Fld := ⟨0x10078800 + 4 * n, 0, 15, 0⟩
def SEQ_LBAR_GEN (n : Nat) : Fld := ⟨0x10078800 + 4 * n, 16, 8, 0⟩
def SEQ_LBAR_LOCAL (n : Nat) : Fld := ⟨0x10078800 + 4 * n, 24, 1, 0⟩
def SEQ_LBAR_REL (n : Nat) : Fld := ⟨0x10078800 + 4 * n, 25, 1, 0⟩

def NET_CTRL_TRIP_CLR : Fld := ⟨0x10090000, 0, 1, 0⟩
def NET_CTRL_TEST_NOW : Fld := ⟨0x10090000, 1, 1, 0⟩
def NET_CTRL_XCH_EN : Fld := ⟨0x10090000, 2, 1, 0⟩
def NET_STAT_LEVEL : Fld := ⟨0x10090004, 0, 2, 0⟩
def NET_STAT_CHOP_ON : Fld := ⟨0x10090004, 2, 1, 0⟩
def NET_STAT_CHOP_FAULT : Fld := ⟨0x10090004, 3, 1, 0⟩
def NET_STAT_UNTESTED : Fld := ⟨0x10090004, 4, 1, 0⟩
def NET_STAT_TRIP_SENSE : Fld := ⟨0x10090004, 5, 1, 0⟩
def NET_STAT_WARN_EV : Fld := ⟨0x10090004, 8, 1, 0⟩
def NET_STAT_CURB_EV : Fld := ⟨0x10090004, 9, 1, 0⟩
def NET_STAT_TRIP_EV : Fld := ⟨0x10090004, 10, 1, 0⟩
def NET_STAT_TEST_FAIL : Fld := ⟨0x10090004, 11, 1, 0⟩
def NET_STAT_TEST_PASS : Fld := ⟨0x10090004, 12, 1, 0⟩
def NET_STAT_SENSE_EV : Fld := ⟨0x10090004, 13, 1, 0⟩
def NET_STAT_LOW_EV : Fld := ⟨0x10090004, 14, 1, 0⟩
def NET_STAT_XCH_MISS : Fld := ⟨0x10090004, 15, 1, 0⟩
def NET_BUS_MV_SAMPLE : Fld := ⟨0x10090008, 0, 20, 0⟩
def NET_BUS_MEAN_MEAN : Fld := ⟨0x1009000C, 0, 20, 0⟩
def NET_SENSE_AIN : Fld := ⟨0x10090010, 0, 6, 0⟩
def NET_SENSE_SCALE : Fld := ⟨0x10090010, 12, 20, 0⟩
def NET_THR_WARN_MV : Fld := ⟨0x10090014, 0, 20, 0⟩
def NET_THR_CURB_MV : Fld := ⟨0x10090018, 0, 20, 0⟩
def NET_THR_TRIP_MV : Fld := ⟨0x1009001C, 0, 20, 0⟩
def NET_THR_CHOP_ON_MV : Fld := ⟨0x10090020, 0, 20, 0⟩
def NET_THR_CHOP_OFF_MV : Fld := ⟨0x10090024, 0, 20, 0⟩
def NET_THR_LOW_MV : Fld := ⟨0x10090028, 0, 20, 0⟩
def NET_HYST_MV : Fld := ⟨0x1009002C, 0, 16, 0⟩
def NET_CURB_MARGIN_MV : Fld := ⟨0x10090030, 0, 16, 0⟩
def NET_EXPORT_MAX_W : Fld := ⟨0x10090034, 0, 32, 0⟩
def NET_EFF_ETA_C : Fld := ⟨0x10090038, 0, 16, 0xF000⟩
def NET_EFF_ETA_D : Fld := ⟨0x10090038, 16, 16, 0xF000⟩
def NET_WARN_PCT_PCT : Fld := ⟨0x1009003C, 0, 7, 0x32⟩
def NET_TEST_TIME_TEST_US : Fld := ⟨0x10090040, 0, 9, 0x64⟩
def NET_TEST_DV_DV_MIN : Fld := ⟨0x10090044, 0, 16, 0⟩
def NET_TEST_DV_DV_MAX : Fld := ⟨0x10090044, 16, 16, 0xFFFF⟩
def NET_TEST_VMIN_MV : Fld := ⟨0x10090048, 0, 20, 0⟩
def NET_TEST_RES_DELTA : Fld := ⟨0x1009004C, 0, 16, 0⟩
def NET_TEST_RES_RESULT : Fld := ⟨0x1009004C, 16, 2, 0⟩
def NET_XCFG_DOMAIN : Fld := ⟨0x10090050, 0, 4, 0⟩
def NET_XCFG_MEMBERS : Fld := ⟨0x10090050, 4, 7, 1⟩
def NET_XCFG_MARGIN : Fld := ⟨0x10090050, 16, 6, 0xA⟩
def NET_P_CHG_W : Fld := ⟨0x10090054, 0, 32, 0⟩
def NET_P_DIS_W : Fld := ⟨0x10090058, 0, 32, 0⟩
def NET_FACTOR_F : Fld := ⟨0x1009005C, 0, 17, 0x10000⟩
def NET_GRANT_W : Fld := ⟨0x10090060, 0, 32, 0⟩
def NET_PUB_SURP_W : Fld := ⟨0x10090064, 0, 32, 0⟩
def NET_PUB_DEF_W : Fld := ⟨0x10090068, 0, 32, 0⟩
def NET_CNT_TRIPS : Fld := ⟨0x1009006C, 0, 16, 0⟩
def NET_CNT_FAILS : Fld := ⟨0x1009006C, 16, 16, 0⟩
def NET_LOCK_LOCK : Fld := ⟨0x10090070, 0, 1, 0⟩

def SERAC_CTRL_FIRE_CLR : Fld := ⟨0x10080000, 0, 1, 0⟩
def SERAC_CTRL_INJ_GO : Fld := ⟨0x10080000, 1, 1, 0⟩
def SERAC_STAT_TRIP_EV : Fld := ⟨0x10080004, 0, 1, 0⟩
def SERAC_STAT_DIS_EV : Fld := ⟨0x10080004, 1, 1, 0⟩
def SERAC_STAT_ESC_EV : Fld := ⟨0x10080004, 2, 1, 0⟩
def SERAC_STAT_FIRE : Fld := ⟨0x10080004, 3, 1, 0⟩
def SERAC_STAT_FIRE_EV : Fld := ⟨0x10080004, 4, 1, 0⟩
def SERAC_STAT_LATE_EV : Fld := ⟨0x10080004, 5, 1, 0⟩
def SERAC_STAT_CMD_PEND : Fld := ⟨0x10080004, 6, 1, 0⟩
def SERAC_STAT_CMD_SKIP : Fld := ⟨0x10080004, 7, 1, 0⟩
def SERAC_STAT_INJ_PASS : Fld := ⟨0x10080004, 8, 1, 0⟩
def SERAC_STAT_INJ_FAIL : Fld := ⟨0x10080004, 9, 1, 0⟩
def SERAC_CMD_CMD : Fld := ⟨0x10080008, 0, 4, 0⟩
def SERAC_CMD_SEL : Fld := ⟨0x10080008, 4, 2, 0⟩
def SERAC_CMD_SET_FIRST : Fld := ⟨0x1008000C, 0, 12, 0⟩
def SERAC_CMD_SET_NUM : Fld := ⟨0x1008000C, 16, 13, 0⟩
def SERAC_CMD_ERR_CH : Fld := ⟨0x10080010, 0, 12, 0⟩
def SERAC_CMD_ERR_REASON : Fld := ⟨0x10080010, 16, 8, 0⟩
def SERAC_SKIP_CNT : Fld := ⟨0x10080014, 0, 13, 0⟩
def SERAC_DIS_CFG_DIS_N : Fld := ⟨0x10080018, 0, 8, 3⟩
def SERAC_DIS_CFG_DIS_W : Fld := ⟨0x10080018, 8, 21, 0x4E20⟩
def SERAC_QUENCH_ZQ : Fld := ⟨0x1008001C, 0, 16, 0⟩
def SERAC_QUENCH_BQ : Fld := ⟨0x1008001C, 16, 1, 0⟩
def SERAC_FIRE_ZONES_ZONES : Fld := ⟨0x10080020, 0, 16, 0⟩
def SERAC_TRIP_CNT_CNT : Fld := ⟨0x10080024, 0, 32, 0⟩
def SERAC_DIS_CNT_TICKS : Fld := ⟨0x10080028, 0, 16, 0⟩
def SERAC_DIS_CNT_ESC : Fld := ⟨0x10080028, 16, 16, 0⟩
def SERAC_DIS_LAST_CH : Fld := ⟨0x1008002C, 0, 12, 0⟩
def SERAC_DIS_LAST_DIFF : Fld := ⟨0x1008002C, 16, 14, 0⟩
def SERAC_INJ_CH : Fld := ⟨0x10080030, 0, 12, 0⟩
def SERAC_INJ_PLANE : Fld := ⟨0x10080030, 12, 1, 0⟩
def SERAC_LOCK_LOCK : Fld := ⟨0x10080034, 0, 1, 0⟩
def SERAC_TRIP_SUM_CH (n : Nat) : Fld := ⟨0x10080100 + 4 * n, 0, 32, 0⟩
def SERAC_ZONE_DIS_CNT (n : Nat) : Fld := ⟨0x10080300 + 4 * n, 0, 8, 0⟩

def TRI_CTRL_REINT_EN : Fld := ⟨0x10030000, 0, 1, 1⟩
def TRI_CTRL_MISM_CLR : Fld := ⟨0x10030000, 1, 1, 0⟩
def TRI_STAT_CONFIG : Fld := ⟨0x10030004, 0, 2, 0⟩
def TRI_STAT_FENCED : Fld := ⟨0x10030004, 2, 3, 0⟩
def TRI_STAT_CALVE_DENIED : Fld := ⟨0x10030004, 5, 1, 0⟩
def TRI_STAT_STRAP : Fld := ⟨0x10030004, 6, 1, 0⟩
def TRI_STAT_PERMIT : Fld := ⟨0x10030004, 7, 1, 0⟩
def TRI_STAT_REINT_BUSY : Fld := ⟨0x10030004, 8, 1, 0⟩
def TRI_STAT_MISM_EV : Fld := ⟨0x10030004, 9, 1, 0⟩
def TRI_STAT_REINT_EV : Fld := ⟨0x10030004, 10, 1, 0⟩
def TRI_STAT_REINT_FAIL : Fld := ⟨0x10030004, 11, 1, 0⟩
def TRI_STAT_MPU_EV : Fld := ⟨0x10030004, 12, 1, 0⟩
def TRI_STAT_WDOG_EV : Fld := ⟨0x10030004, 13, 1, 0⟩
def TRI_STAT_TCM_UE_EV : Fld := ⟨0x10030004, 14, 1, 0⟩
def TRI_MPU_ATTR_SIZE (n : Nat) : Fld := ⟨0x10030104 + 8 * n, 0, 5, 0xC⟩
def TRI_MPU_ATTR_SR (n : Nat) : Fld := ⟨0x10030104 + 8 * n, 8, 1, 0⟩
def TRI_MPU_ATTR_SW (n : Nat) : Fld := ⟨0x10030104 + 8 * n, 9, 1, 0⟩
def TRI_MPU_ATTR_SX (n : Nat) : Fld := ⟨0x10030104 + 8 * n, 10, 1, 0⟩
def TRI_MPU_ATTR_UR (n : Nat) : Fld := ⟨0x10030104 + 8 * n, 11, 1, 0⟩
def TRI_MPU_ATTR_UW (n : Nat) : Fld := ⟨0x10030104 + 8 * n, 12, 1, 0⟩
def TRI_MPU_ATTR_UX (n : Nat) : Fld := ⟨0x10030104 + 8 * n, 13, 1, 0⟩
def TRI_MPU_ATTR_HOSTW (n : Nat) : Fld := ⟨0x10030104 + 8 * n, 14, 1, 0⟩
def TRI_MISM_LAST_CORE : Fld := ⟨0x10030008, 0, 2, 0⟩
def TRI_MISM_LAST_KIND : Fld := ⟨0x10030008, 2, 4, 0⟩
def TRI_MISM_ADDR_ADDR : Fld := ⟨0x1003000C, 0, 32, 0⟩
def TRI_MISM_CNT_CNT : Fld := ⟨0x10030010, 0, 24, 0⟩
def TRI_REINT_CNT_CNT : Fld := ⟨0x10030014, 0, 32, 0⟩
def TRI_REINT_CFG_DELAY : Fld := ⟨0x10030018, 0, 8, 0x14⟩
def TRI_WDOG_CFG_PERIOD : Fld := ⟨0x1003001C, 0, 16, 0⟩
def TRI_WDOG_KICK_KEY : Fld := ⟨0x10030020, 0, 16, 0⟩
def TRI_TCM_ECC_CNT : Fld := ⟨0x10030024, 0, 32, 0⟩
def TRI_TCM_UE_ADDR_ADDR : Fld := ⟨0x10030028, 0, 32, 0⟩
def TRI_SCRUB_EN : Fld := ⟨0x1003002C, 0, 1, 1⟩
def TRI_SCRUB_PASS : Fld := ⟨0x1003002C, 16, 16, 0⟩
def TRI_MPU_VADDR_ADDR : Fld := ⟨0x10030030, 0, 32, 0⟩
def TRI_MPU_VINFO_CORE : Fld := ⟨0x10030034, 0, 2, 0⟩
def TRI_MPU_VINFO_TYPE : Fld := ⟨0x10030034, 2, 3, 0⟩
def TRI_CALVE_ENTRY_ADDR (n : Nat) : Fld := ⟨0x10030044 + 4 * n, 0, 32, 0⟩
def TRI_CALVE_START_CORES : Fld := ⟨0x1003004C, 1, 2, 0⟩
def TRI_DBG_CTRL_HALT : Fld := ⟨0x10030050, 0, 1, 0⟩
def TRI_DBG_CTRL_RESUME : Fld := ⟨0x10030050, 1, 1, 0⟩
def TRI_DBG_CTRL_STEP : Fld := ⟨0x10030050, 2, 1, 0⟩
def TRI_DBG_STAT_HALTED : Fld := ⟨0x10030054, 0, 1, 0⟩
def TRI_DBG_STAT_REFUSED : Fld := ⟨0x10030054, 1, 1, 0⟩
def TRI_DBG_STAT_NO_CORE0 : Fld := ⟨0x10030054, 2, 1, 0⟩
def TRI_DBG_STAT_REPLAY_ERR : Fld := ⟨0x10030054, 3, 1, 0⟩
def TRI_DBG_REG_SEL_REG : Fld := ⟨0x10030058, 0, 8, 0⟩
def TRI_DBG_REG_DATA_DATA : Fld := ⟨0x1003005C, 0, 32, 0⟩
def TRI_LOCK_LOCK : Fld := ⟨0x10030060, 0, 1, 0⟩
def TRI_MPU_BASE_EN (n : Nat) : Fld := ⟨0x10030100 + 8 * n, 0, 1, 0⟩
def TRI_MPU_BASE_BASE (n : Nat) : Fld := ⟨0x10030100 + 8 * n, 12, 20, 0⟩

def MOR_CTRL_FAULT_REL : Fld := ⟨0x10020000, 0, 1, 0⟩
def MOR_CTRL_FAULT_HOLD : Fld := ⟨0x10020000, 1, 1, 0⟩
def MOR_CTRL_FAULT_CLASS : Fld := ⟨0x10020000, 4, 2, 2⟩
def MOR_STAT_FAULT : Fld := ⟨0x10020004, 0, 1, 0⟩
def MOR_STAT_PULSE : Fld := ⟨0x10020004, 1, 1, 0⟩
def MOR_STAT_SAFE : Fld := ⟨0x10020004, 2, 1, 0⟩
def MOR_STAT_ICE_BUSY : Fld := ⟨0x10020004, 3, 1, 0⟩
def MOR_STAT_ICE_STEP : Fld := ⟨0x10020004, 4, 3, 0⟩
def MOR_STAT_CFG_PARITY : Fld := ⟨0x10020004, 7, 1, 0⟩
def MOR_STAT_IRQ_EV : Fld := ⟨0x10020004, 8, 1, 0⟩
def MOR_STAT_LOG_DROP : Fld := ⟨0x10020004, 9, 1, 0⟩
def MOR_STAT_UNFENCE_REF : Fld := ⟨0x10020004, 10, 1, 0⟩
def MOR_SRC_CFG_CLASS (n : Nat) : Fld := ⟨0x10021000 + 8 * n, 0, 2, (morCls n)⟩
def MOR_SRC_CFG_REACT (n : Nat) : Fld := ⟨0x10021000 + 8 * n, 2, 3, (morReact n)⟩
def MOR_SRC_CFG_REACT_ESC (n : Nat) : Fld := ⟨0x10021000 + 8 * n, 5, 3, (morEsc n)⟩
def MOR_SRC_CFG_N (n : Nat) : Fld := ⟨0x10021000 + 8 * n, 8, 8, (morN n)⟩
def MOR_SRC_CFG_SHADOW (n : Nat) : Fld := ⟨0x10021000 + 8 * n, 16, 8, (if morAssigned n then 20 else 0)⟩
def MOR_SRC_CFG_UTYPE (n : Nat) : Fld := ⟨0x10021000 + 8 * n, 24, 4, (morUnit n)⟩
def MOR_SRC_CFG_FIXED (n : Nat) : Fld := ⟨0x10021000 + 8 * n, 28, 1, (b2n (morFixed n))⟩
def MOR_LAST_SRC : Fld := ⟨0x10020008, 0, 9, 0⟩
def MOR_LAST_CLASS : Fld := ⟨0x10020008, 9, 2, 0⟩
def MOR_LAST_REACT : Fld := ⟨0x10020008, 11, 3, 0⟩
def MOR_LAST_UTYPE : Fld := ⟨0x10020008, 16, 4, 0⟩
def MOR_LAST_UINDEX : Fld := ⟨0x10020008, 20, 12, 0⟩
def MOR_EVT_CNT_CNT : Fld := ⟨0x1002000C, 0, 32, 0⟩
def MOR_CONSEQ_CNT_CNT : Fld := ⟨0x10020010, 0, 32, 0⟩
def MOR_SAFE_SRC_SRC : Fld := ⟨0x10020014, 0, 9, 0⟩
def MOR_ICE_CFG_BRAKE_MS : Fld := ⟨0x10020018, 0, 16, 0xC8⟩
def MOR_INJ_SRC : Fld := ⟨0x10020020, 0, 9, 0⟩
def MOR_INJ_UTYPE : Fld := ⟨0x10020020, 12, 4, 0⟩
def MOR_INJ_UINDEX : Fld := ⟨0x10020020, 16, 12, 0⟩
def MOR_INJ_GO : Fld := ⟨0x10020020, 31, 1, 0⟩
def MOR_RAISE_SW : Fld := ⟨0x10020024, 0, 3, 0⟩
def MOR_RAISE_UTYPE : Fld := ⟨0x10020024, 12, 4, 0⟩
def MOR_RAISE_UINDEX : Fld := ⟨0x10020024, 16, 12, 0⟩
def MOR_RAISE_GO : Fld := ⟨0x10020024, 31, 1, 0⟩
def MOR_RAISE_DATA_DATA : Fld := ⟨0x10020028, 0, 32, 0⟩
def MOR_UNFENCE_UTYPE : Fld := ⟨0x1002002C, 0, 4, 0⟩
def MOR_UNFENCE_UINDEX : Fld := ⟨0x1002002C, 4, 12, 0⟩
def MOR_UNFENCE_GO : Fld := ⟨0x1002002C, 31, 1, 0⟩
def MOR_LOG_RD_RD : Fld := ⟨0x10020030, 0, 32, 0⟩
def MOR_LOG_WRITTEN_CNT : Fld := ⟨0x10020034, 0, 32, 0⟩
def MOR_LOG_LOST_CNT : Fld := ⟨0x10020038, 0, 32, 0⟩
def MOR_LOG_DROPPED_CNT : Fld := ⟨0x1002003C, 0, 32, 0⟩
def MOR_PEND_SRC (n : Nat) : Fld := ⟨0x10020080 + 4 * n, 0, 32, 0⟩
def MOR_ESC_SRC (n : Nat) : Fld := ⟨0x100200C0 + 4 * n, 0, 32, 0⟩
def MOR_FENCED_GRP_UNITS (n : Nat) : Fld := ⟨0x10020100 + 4 * n, 0, 32, 0⟩
def MOR_FENCED_PORT_UNITS (n : Nat) : Fld := ⟨0x10020120 + 4 * n, 0, 32, 0⟩
def MOR_FENCED_BRICK_UNITS (n : Nat) : Fld := ⟨0x10020130 + 4 * n, 0, 32, 0⟩
def MOR_FENCED_ENG_UNITS : Fld := ⟨0x10020140, 0, 24, 0⟩
def MOR_FENCED_MISC_ZONES : Fld := ⟨0x10020144, 0, 16, 0⟩
def MOR_FENCED_MISC_RIME : Fld := ⟨0x10020144, 16, 4, 0⟩
def MOR_FENCED_MISC_CORES : Fld := ⟨0x10020144, 20, 3, 0⟩
def MOR_FENCED_CH_UNITS (n : Nat) : Fld := ⟨0x10020200 + 4 * n, 0, 32, 0⟩
def MOR_SRC_WIN_W_MS (n : Nat) : Fld := ⟨0x10021004 + 8 * n, 0, 16, (morW n)⟩

def RIMEL_CTRL_EN : Fld := ⟨0x100A0000, 0, 1, 0⟩
def RIMEL_CTRL_RESTART : Fld := ⟨0x100A0000, 1, 1, 0⟩
def RIMEL_CTRL_AUTH_REQ : Fld := ⟨0x100A0000, 2, 1, 0⟩
def RIMEL_CTRL_VER : Fld := ⟨0x100A0000, 4, 2, 1⟩
def RIMEL_STAT_CSTATE : Fld := ⟨0x100A0004, 0, 3, 0⟩
def RIMEL_STAT_RSTATE : Fld := ⟨0x100A0004, 3, 2, 0⟩
def RIMEL_STAT_GRD_BLOCKED : Fld := ⟨0x100A0004, 5, 1, 0⟩
def RIMEL_STAT_GCLK_FAIL : Fld := ⟨0x100A0004, 6, 1, 0⟩
def RIMEL_STAT_CS_EXHAUST : Fld := ⟨0x100A0004, 7, 1, 0⟩
def RIMEL_STAT_SYNC_LOSS_EV : Fld := ⟨0x100A0004, 8, 1, 0⟩
def RIMEL_STAT_CS_ABORT_EV : Fld := ⟨0x100A0004, 9, 1, 0⟩
def RIMEL_STAT_COLLISION_EV : Fld := ⟨0x100A0004, 10, 1, 0⟩
def RIMEL_STAT_CH_A_FAIL : Fld := ⟨0x100A0004, 11, 1, 0⟩
def RIMEL_STAT_CH_B_FAIL : Fld := ⟨0x100A0004, 12, 1, 0⟩
def RIMEL_STAT_TRUNC_EV : Fld := ⟨0x100A0004, 13, 1, 0⟩
def RIMEL_NODE_NODE : Fld := ⟨0x100A0008, 0, 6, 0⟩
def RIMEL_NODE_SEG : Fld := ⟨0x100A0008, 8, 8, 0⟩
def RIMEL_NODE_RANK : Fld := ⟨0x100A0008, 16, 2, 0⟩
def RIMEL_NODE_COLD : Fld := ⟨0x100A0008, 18, 1, 0⟩
def RIMEL_CS_CS_MAX : Fld := ⟨0x100A000C, 0, 4, 8⟩
def RIMEL_CS_ATTEMPTS : Fld := ⟨0x100A000C, 8, 4, 0⟩
def RIMEL_RXDLY_A_NS : Fld := ⟨0x100A0010, 0, 16, 0⟩
def RIMEL_RXDLY_B_NS : Fld := ⟨0x100A0010, 16, 16, 0⟩
def RIMEL_LINE_ID_ID : Fld := ⟨0x100A0014, 0, 32, 0⟩
def RIMEL_KEY_KEY (n : Nat) : Fld := ⟨0x100A0018 + 4 * n, 0, 32, 0⟩
def RIMEL_KEY_STAT_VALID : Fld := ⟨0x100A0028, 0, 1, 0⟩
def RIMEL_CYCLE_CYC : Fld := ⟨0x100A002C, 0, 24, 0⟩
def RIMEL_CYCLE_MODE : Fld := ⟨0x100A002C, 24, 3, 0⟩
def RIMEL_SEEN_LO_NODES : Fld := ⟨0x100A0030, 0, 32, 0⟩
def RIMEL_SEEN_HI_NODES : Fld := ⟨0x100A0034, 0, 32, 0⟩
def RIMEL_CNT_OK_CNT (n : Nat) : Fld := ⟨0x100A0040 + 4 * n, 0, 32, 0⟩
def RIMEL_CNT_CRC_CNT (n : Nat) : Fld := ⟨0x100A0048 + 4 * n, 0, 32, 0⟩
def RIMEL_CNT_TIME_CNT (n : Nat) : Fld := ⟨0x100A0050 + 4 * n, 0, 32, 0⟩
def RIMEL_CNT_AUTH_CNT : Fld := ⟨0x100A0058, 0, 32, 0⟩
def RIMEL_CNT_DIFF_CNT : Fld := ⟨0x100A005C, 0, 32, 0⟩
def RIMEL_GRD_CORR : Fld := ⟨0x100A0060, 0, 16, 0⟩
def RIMEL_GRD_TRUNC : Fld := ⟨0x100A0060, 16, 16, 0⟩
def RIMEL_LOSS_CNT : Fld := ⟨0x100A0064, 0, 16, 0⟩
def RIMEL_LOSS_CAUSE : Fld := ⟨0x100A0064, 16, 4, 0⟩
def RIMEL_LOCK_LOCK : Fld := ⟨0x100A0068, 0, 1, 0⟩
def RIMEL_TXDATA_DATA (n : Nat) : Fld := ⟨0x100A0080 + 4 * n, 0, 32, 0⟩
def RIMEL_TXLEN_LEN (n : Nat) : Fld := ⟨0x100A0100 + 4 * n, 0, 7, 0⟩
def RIMEL_TXBUF_DATA (n : Nat) (m : Nat) : Fld := ⟨0x100A1000 + 0x80 * n + 4 * m, 0, 32, 0⟩
def RIMEL_RXBUF_DATA (n : Nat) (m : Nat) : Fld := ⟨0x100A4000 + 0x80 * n + 4 * m, 0, 32, 0⟩

def RIMET_MC_MODE : Fld := ⟨0x100B0030, 0, 3, 0⟩
def RIMET_MC_GO : Fld := ⟨0x100B0030, 3, 1, 0⟩
def RIMET_MC_PEND : Fld := ⟨0x100B0030, 4, 1, 0⟩
def RIMET_MC_LAPSE : Fld := ⟨0x100B0030, 5, 1, 0⟩
def RIMET_MC_AGREED : Fld := ⟨0x100B0030, 6, 1, 0⟩
def RIMET_MC_PEND_MODE : Fld := ⟨0x100B0030, 8, 3, 0⟩
def RIMET_CTRL_EN : Fld := ⟨0x100B0000, 0, 1, 0⟩
def RIMET_CTRL_RESTART : Fld := ⟨0x100B0000, 1, 1, 0⟩
def RIMET_CTRL_VER : Fld := ⟨0x100B0000, 4, 2, 1⟩
def RIMET_STAT_CSTATE : Fld := ⟨0x100B0004, 0, 3, 0⟩
def RIMET_STAT_SYNC_LOSS_EV : Fld := ⟨0x100B0004, 3, 1, 0⟩
def RIMET_STAT_CS_ABORT_EV : Fld := ⟨0x100B0004, 4, 1, 0⟩
def RIMET_RXDLY_A_NS : Fld := ⟨0x100B0008, 0, 16, 0⟩
def RIMET_RXDLY_B_NS : Fld := ⟨0x100B0008, 16, 16, 0⟩
def RIMET_CYCLE_TCYC : Fld := ⟨0x100B000C, 0, 24, 0⟩
def RIMET_SEEN_GW (n : Nat) : Fld := ⟨0x100B0010 + 4 * n, 0, 32, 0⟩
def RIMET_MC_AT_BOUND : Fld := ⟨0x100B0034, 0, 24, 0⟩
def RIMET_CNT_CNT : Fld := ⟨0x100B0038, 0, 32, 0⟩
def RIMET_LOCK_LOCK : Fld := ⟨0x100B003C, 0, 1, 0⟩

def TIME_STAT_METHOD : Fld := ⟨0x10150004, 0, 2, 0⟩
def TIME_STAT_MASTER : Fld := ⟨0x10150004, 2, 1, 0⟩
def TIME_STAT_REF_RANK : Fld := ⟨0x10150004, 3, 2, 0⟩
def TIME_STAT_ALIGNED : Fld := ⟨0x10150004, 5, 1, 0⟩
def TIME_STAT_SLEWING : Fld := ⟨0x10150004, 6, 1, 0⟩
def TIME_STAT_LINE : Fld := ⟨0x10150004, 7, 1, 0⟩
def TIME_STAT_STEP_EV : Fld := ⟨0x10150004, 8, 1, 0⟩
def TIME_STAT_BEHIND_EV : Fld := ⟨0x10150004, 9, 1, 0⟩
def TIME_STAT_CLOCK_EV : Fld := ⟨0x10150004, 10, 1, 0⟩
def TIME_STAT_EXT_CAP : Fld := ⟨0x10150004, 11, 1, 0⟩
def TIME_STAT_SPLIT : Fld := ⟨0x10150004, 12, 1, 0⟩
def TIME_CTRL_SLEW_NS : Fld := ⟨0x10150000, 0, 8, 0x32⟩
def TIME_CTRL_SLEW_WIN : Fld := ⟨0x10150000, 16, 16, 0x7D0⟩
def TIME_SYNC_METHOD : Fld := ⟨0x10150008, 0, 2, 0⟩
def TIME_SYNC_MASTER_EN : Fld := ⟨0x10150008, 2, 1, 0⟩
def TIME_SYNC_MRANK : Fld := ⟨0x10150008, 3, 2, 0⟩
def TIME_LIM_OFS_LIM : Fld := ⟨0x1015000C, 0, 12, 0x3E8⟩
def TIME_LIM_EXT_LIM : Fld := ⟨0x1015000C, 12, 10, 0x1F4⟩
def TIME_LIM_RATE_LIM : Fld := ⟨0x1015000C, 22, 10, 0x1F4⟩
def TIME_NOW_LO_NS : Fld := ⟨0x10150010, 0, 32, 0⟩
def TIME_NOW_HI_NS : Fld := ⟨0x10150014, 0, 32, 0⟩
def TIME_TICK_LO_K : Fld := ⟨0x10150018, 0, 32, 0⟩
def TIME_TICK_HI_K : Fld := ⟨0x1015001C, 0, 32, 0⟩
def TIME_OFS_C : Fld := ⟨0x10150020, 0, 16, 0⟩
def TIME_OFS_EXT : Fld := ⟨0x10150020, 16, 16, 0⟩
def TIME_RATE_PPB : Fld := ⟨0x10150024, 0, 32, 0⟩
def TIME_PREC_NS : Fld := ⟨0x10150028, 0, 16, 0⟩
def TIME_PREC_NSYNC : Fld := ⟨0x10150028, 16, 8, 0⟩
def TIME_ISO_CYC : Fld := ⟨0x1015002C, 0, 32, 0⟩
def TIME_STEP_CNT_CNT : Fld := ⟨0x10150030, 0, 32, 0⟩
def TIME_LOCK_LOCK : Fld := ⟨0x10150034, 0, 1, 0⟩

def SCH_CTRL_JOIN_EN : Fld := ⟨0x100C0000, 0, 1, 1⟩
def SCH_CTRL_DETACH : Fld := ⟨0x100C0000, 1, 1, 0⟩
def SCH_CTRL_CNT_CLR : Fld := ⟨0x100C0000, 2, 1, 0⟩
def SCH_STAT_ROLE : Fld := ⟨0x100C0004, 0, 2, 0⟩
def SCH_STAT_PSTATE : Fld := ⟨0x100C0004, 2, 2, 0⟩
def SCH_STAT_RANK : Fld := ⟨0x100C0004, 4, 1, 0⟩
def SCH_STAT_OWN : Fld := ⟨0x100C0004, 5, 1, 0⟩
def SCH_STAT_PEER : Fld := ⟨0x100C0004, 6, 1, 0⟩
def SCH_STAT_HB_OK : Fld := ⟨0x100C0004, 7, 1, 0⟩
def SCH_STAT_LANES : Fld := ⟨0x100C0004, 8, 3, 0⟩
def SCH_STAT_SPLIT_EV : Fld := ⟨0x100C0004, 11, 1, 0⟩
def SCH_STAT_TKO_EV : Fld := ⟨0x100C0004, 12, 1, 0⟩
def SCH_STAT_HB_LOSS_EV : Fld := ⟨0x100C0004, 13, 1, 0⟩
def SCH_STAT_RESYNC_EV : Fld := ⟨0x100C0004, 14, 1, 0⟩
def SCH_STAT_DETACH_EV : Fld := ⟨0x100C0004, 15, 1, 0⟩
def SCH_STAT_JOIN_EV : Fld := ⟨0x100C0004, 16, 1, 0⟩
def SCH_STAT_JOIN_FAIL : Fld := ⟨0x100C0004, 17, 1, 0⟩
def SCH_STAT_INPUT_GAP : Fld := ⟨0x100C0004, 18, 1, 0⟩
def SCH_STAT_JOIN_CAUSE : Fld := ⟨0x100C0004, 19, 2, 0⟩
def SCH_CFG_PAIR_EN : Fld := ⟨0x100C0008, 0, 1, 0⟩
def SCH_CFG_PNODE : Fld := ⟨0x100C0008, 2, 6, 0⟩
def SCH_CFG_WAIT_MS : Fld := ⟨0x100C0008, 8, 16, 0x1F4⟩
def SCH_CFG_HOLD_MS : Fld := ⟨0x100C0008, 24, 8, 0x14⟩
def SCH_LINK_DLY_NS : Fld := ⟨0x100C000C, 0, 16, 0⟩
def SCH_HB_MISS : Fld := ⟨0x100C0010, 0, 16, 0⟩
def SCH_HB_LOSS : Fld := ⟨0x100C0010, 16, 16, 0⟩
def SCH_RS_CNT_GROUPS : Fld := ⟨0x100C0014, 0, 16, 0⟩
def SCH_RS_CNT_CLASSES : Fld := ⟨0x100C0014, 16, 16, 0⟩
def SCH_RS_LAST_GROUP : Fld := ⟨0x100C0018, 0, 9, 0⟩
def SCH_RS_LAST_CLASS : Fld := ⟨0x100C0018, 16, 5, 0⟩
def SCH_IN_LAST_CYC_CYC : Fld := ⟨0x100C001C, 0, 32, 0⟩
def SCH_SAVED_CYC_CYC : Fld := ⟨0x100C0020, 0, 32, 0⟩
def SCH_TKO_TICK_LO_K : Fld := ⟨0x100C0024, 0, 32, 0⟩
def SCH_TKO_TICK_HI_K : Fld := ⟨0x100C0028, 0, 32, 0⟩
def SCH_LANE_ERR_CNT : Fld := ⟨0x100C002C, 0, 32, 0⟩
def SCH_LOCK_LOCK : Fld := ⟨0x100C0030, 0, 1, 0⟩
def SCH_RS_ACTIVE_GROUPS (n : Nat) : Fld := ⟨0x100C0040 + 4 * n, 0, 32, 0⟩

def SAFE_STAT_CONF : Fld := ⟨0x100D0004, 0, 2, 0⟩
def SAFE_STAT_EVAL : Fld := ⟨0x100D0004, 2, 1, 0⟩
def SAFE_STAT_REC_OK : Fld := ⟨0x100D0004, 3, 1, 0⟩
def SAFE_STAT_DEMAND_EV : Fld := ⟨0x100D0004, 4, 1, 0⟩
def SAFE_STAT_FAULT_EV : Fld := ⟨0x100D0004, 5, 1, 0⟩
def SAFE_STAT_RESET_REJ : Fld := ⟨0x100D0004, 6, 1, 0⟩
def SAFE_STAT_OUT_FAULT_EV : Fld := ⟨0x100D0004, 7, 1, 0⟩
def SAFE_STAT_BRAKE_FAIL_EV : Fld := ⟨0x100D0004, 8, 1, 0⟩
def SAFE_STAT_LATE_EV : Fld := ⟨0x100D0004, 9, 1, 0⟩
def SAFE_CTRL_BRAKE_GO : Fld := ⟨0x100D0008, 0, 1, 0⟩
def SAFE_CTRL_AXIS : Fld := ⟨0x100D0008, 1, 3, 0⟩
def SAFE_CTRL_UNLOCK_GO : Fld := ⟨0x100D0008, 8, 1, 0⟩
def SAFE_CTRL_RELOCK : Fld := ⟨0x100D0008, 9, 1, 0⟩
def SAFE_CTRL_FUNC : Fld := ⟨0x100D0008, 10, 5, 0⟩
def SAFE_FUNC_STATE (n : Nat) : Fld := ⟨0x100D0100 + 4 * n, 0, 3, 0⟩
def SAFE_FUNC_KIND (n : Nat) : Fld := ⟨0x100D0100 + 4 * n, 4, 3, 0⟩
def SAFE_FUNC_CAUSE (n : Nat) : Fld := ⟨0x100D0100 + 4 * n, 8, 4, 0⟩
def SAFE_CONFIRM_CHECK : Fld := ⟨0x100D0000, 0, 32, 0⟩
def SAFE_IN_STATE : Fld := ⟨0x100D000C, 0, 24, 0⟩
def SAFE_OUT_DEMAND : Fld := ⟨0x100D0010, 0, 8, 0⟩
def SAFE_OUT_READBACK : Fld := ⟨0x100D0010, 8, 8, 0⟩
def SAFE_OUT_LOCKOUT : Fld := ⟨0x100D0010, 16, 8, 0⟩
def SAFE_TP_CFG_TP_US : Fld := ⟨0x100D0014, 0, 10, 0xC8⟩
def SAFE_TP_CFG_TP_MS : Fld := ⟨0x100D0014, 16, 7, 5⟩
def SAFE_CNT_DEMANDS : Fld := ⟨0x100D0018, 0, 16, 0⟩
def SAFE_CNT_RESET_REJ : Fld := ⟨0x100D0018, 16, 16, 0⟩
def SAFE_TEST_CNT_DISCARDED : Fld := ⟨0x100D001C, 0, 16, 0⟩
def SAFE_TEST_CNT_FAILED : Fld := ⟨0x100D001C, 16, 16, 0⟩
def SAFE_CONF_TIME_LO_NS : Fld := ⟨0x100D0020, 0, 32, 0⟩
def SAFE_CONF_TIME_HI_NS : Fld := ⟨0x100D0024, 0, 32, 0⟩
def SAFE_LOCK_LOCK : Fld := ⟨0x100D0028, 0, 1, 0⟩
def SAFE_BRAKE_STATE (n : Nat) : Fld := ⟨0x100D0200 + 4 * n, 0, 2, 0⟩
def SAFE_BRAKE_RESULT (n : Nat) : Fld := ⟨0x100D0200 + 4 * n, 2, 2, 0⟩
def SAFE_BRAKE_LOCKOUT (n : Nat) : Fld := ⟨0x100D0200 + 4 * n, 4, 1, 0⟩
def SAFE_BRAKE_CAUSE (n : Nat) : Fld := ⟨0x100D0200 + 4 * n, 5, 3, 0⟩
def SAFE_BRAKE_HOURS (n : Nat) : Fld := ⟨0x100D0200 + 4 * n, 16, 16, 0⟩

def AXIS_CMD_CMD (n : Nat) : Fld := ⟨0x100E0000 + 0x100 * n, 0, 4, 0⟩
def AXIS_CMD_MODE (n : Nat) : Fld := ⟨0x100E0000 + 0x100 * n, 4, 2, 1⟩
def AXIS_CMD_DIR (n : Nat) : Fld := ⟨0x100E0000 + 0x100 * n, 6, 1, 0⟩
def AXIS_STAT_STATE (n : Nat) : Fld := ⟨0x100E0004 + 0x100 * n, 0, 3, 0⟩
def AXIS_STAT_HOLDING (n : Nat) : Fld := ⟨0x100E0004 + 0x100 * n, 3, 1, 0⟩
def AXIS_STAT_AT_VLIM (n : Nat) : Fld := ⟨0x100E0004 + 0x100 * n, 4, 1, 0⟩
def AXIS_STAT_ABNORMAL_KE (n : Nat) : Fld := ⟨0x100E0004 + 0x100 * n, 5, 1, 0⟩
def AXIS_STAT_FAULT (n : Nat) : Fld := ⟨0x100E0004 + 0x100 * n, 6, 1, 0⟩
def AXIS_STAT_CAUSE (n : Nat) : Fld := ⟨0x100E0004 + 0x100 * n, 8, 4, 0⟩
def AXIS_STAT_START_EV (n : Nat) : Fld := ⟨0x100E0004 + 0x100 * n, 16, 1, 0⟩
def AXIS_STAT_STOP_EV (n : Nat) : Fld := ⟨0x100E0004 + 0x100 * n, 17, 1, 0⟩
def AXIS_STAT_KE_EV (n : Nat) : Fld := ⟨0x100E0004 + 0x100 * n, 18, 1, 0⟩
def AXIS_STAT_OC_EV (n : Nat) : Fld := ⟨0x100E0004 + 0x100 * n, 19, 1, 0⟩
def AXIS_STAT_FORCE_EV (n : Nat) : Fld := ⟨0x100E0004 + 0x100 * n, 20, 1, 0⟩
def AXIS_STAT_ENC_EV (n : Nat) : Fld := ⟨0x100E0004 + 0x100 * n, 21, 1, 0⟩
def AXIS_STAT_SLOW_EV (n : Nat) : Fld := ⟨0x100E0004 + 0x100 * n, 22, 1, 0⟩
def AXIS_STAT_REFUSED (n : Nat) : Fld := ⟨0x100E0004 + 0x100 * n, 23, 1, 0⟩
def AXIS_SPEED_SET_SPEED (n : Nat) : Fld := ⟨0x100E0008 + 0x100 * n, 0, 16, 0⟩
def AXIS_SPEED_SET_ACCEL (n : Nat) : Fld := ⟨0x100E0008 + 0x100 * n, 16, 16, 0⟩
def AXIS_POS_SET_POS (n : Nat) : Fld := ⟨0x100E000C + 0x100 * n, 0, 32, 0⟩
def AXIS_FORCE_SET_F_SET (n : Nat) : Fld := ⟨0x100E0010 + 0x100 * n, 0, 32, 0⟩
def AXIS_FORCE_CONTACT_F_CONTACT (n : Nat) : Fld := ⟨0x100E0014 + 0x100 * n, 0, 32, 0⟩
def AXIS_GAIN_I_KP (n : Nat) : Fld := ⟨0x100E0018 + 0x100 * n, 0, 16, 0⟩
def AXIS_GAIN_I_KI (n : Nat) : Fld := ⟨0x100E0018 + 0x100 * n, 16, 16, 0⟩
def AXIS_GAIN_S_KP (n : Nat) : Fld := ⟨0x100E001C + 0x100 * n, 0, 16, 0⟩
def AXIS_GAIN_S_KI (n : Nat) : Fld := ⟨0x100E001C + 0x100 * n, 16, 16, 0⟩
def AXIS_POS_CFG_KP_P (n : Nat) : Fld := ⟨0x100E0020 + 0x100 * n, 0, 16, 0⟩
def AXIS_POS_CFG_POS_WIN (n : Nat) : Fld := ⟨0x100E0020 + 0x100 * n, 16, 16, 0x40⟩
def AXIS_GAIN_F_KP_F (n : Nat) : Fld := ⟨0x100E0024 + 0x100 * n, 0, 16, 0⟩
def AXIS_GAIN_F_KI_F (n : Nat) : Fld := ⟨0x100E0024 + 0x100 * n, 16, 16, 0⟩
def AXIS_POS_POS (n : Nat) : Fld := ⟨0x100E0028 + 0x100 * n, 0, 32, 0⟩
def AXIS_SPEED_SPEED (n : Nat) : Fld := ⟨0x100E002C + 0x100 * n, 0, 32, 0⟩
def AXIS_CUR_IQ (n : Nat) : Fld := ⟨0x100E0030 + 0x100 * n, 0, 16, 0⟩
def AXIS_CUR_ID (n : Nat) : Fld := ⟨0x100E0030 + 0x100 * n, 16, 16, 0⟩
def AXIS_FORCE_F (n : Nat) : Fld := ⟨0x100E0034 + 0x100 * n, 0, 32, 0⟩
def AXIS_KE_KE (n : Nat) : Fld := ⟨0x100E0038 + 0x100 * n, 0, 32, 0⟩
def AXIS_SKIP_SKIPS (n : Nat) : Fld := ⟨0x100E003C + 0x100 * n, 0, 16, 0⟩
def AXIS_SKIP_PATTERN (n : Nat) : Fld := ⟨0x100E003C + 0x100 * n, 16, 16, 0⟩
def AXIS_MOD_MOD_MAX : Fld := ⟨0x100E1000, 0, 7, 0x5F⟩
def AXIS_LOCK_LOCK : Fld := ⟨0x100E1004, 0, 1, 0⟩

def AUX_CONV_CTRL_TRIG (n : Nat) : Fld := ⟨0x100F0100 + 0x20 * n, 0, 3, 0⟩
def AUX_CONV_CTRL_PWM_AXIS (n : Nat) : Fld := ⟨0x100F0100 + 0x20 * n, 4, 3, 0⟩
def AUX_CONV_CTRL_TICK_OFS (n : Nat) : Fld := ⟨0x100F0100 + 0x20 * n, 8, 6, 0⟩
def AUX_CONV_CTRL_NENT (n : Nat) : Fld := ⟨0x100F0100 + 0x20 * n, 16, 5, 0⟩
def AUX_CONV_CTRL_APPLY (n : Nat) : Fld := ⟨0x100F0100 + 0x20 * n, 30, 1, 0⟩
def AUX_CONV_CTRL_SW_GO (n : Nat) : Fld := ⟨0x100F0100 + 0x20 * n, 31, 1, 0⟩
def AUX_CONV_STAT_BUSY (n : Nat) : Fld := ⟨0x100F0104 + 0x20 * n, 0, 1, 0⟩
def AUX_CONV_STAT_PEND (n : Nat) : Fld := ⟨0x100F0104 + 0x20 * n, 1, 1, 0⟩
def AUX_CONV_STAT_APPLY_PEND (n : Nat) : Fld := ⟨0x100F0104 + 0x20 * n, 2, 1, 0⟩
def AUX_CONV_STAT_ENTRY (n : Nat) : Fld := ⟨0x100F0104 + 0x20 * n, 8, 4, 0⟩
def AUX_CONV_STAT_OVR_EV (n : Nat) : Fld := ⟨0x100F0104 + 0x20 * n, 16, 1, 0⟩
def AUX_CONV_STAT_LATE_EV (n : Nat) : Fld := ⟨0x100F0104 + 0x20 * n, 17, 1, 0⟩
def AUX_CONV_STAT_OPEN_EV (n : Nat) : Fld := ⟨0x100F0104 + 0x20 * n, 18, 1, 0⟩
def AUX_CONV_STAT_CLIP_EV (n : Nat) : Fld := ⟨0x100F0104 + 0x20 * n, 19, 1, 0⟩
def AUX_CAL_CTRL_CMD : Fld := ⟨0x100F0000, 0, 4, 0⟩
def AUX_CAL_CTRL_TRIM : Fld := ⟨0x100F0000, 4, 1, 0⟩
def AUX_CAL_CTRL_INPUT : Fld := ⟨0x100F0000, 8, 6, 0⟩
def AUX_CAL_CTRL_GAIN : Fld := ⟨0x100F0000, 16, 3, 0⟩
def AUX_CAL_CTRL_LOG2N : Fld := ⟨0x100F0000, 20, 4, 8⟩
def AUX_CAL_REF_REFZ : Fld := ⟨0x100F0004, 0, 16, 0⟩
def AUX_CAL_REF_REFF : Fld := ⟨0x100F0004, 16, 16, 0⟩
def AUX_CAL_STAT_BUSY : Fld := ⟨0x100F0008, 0, 1, 0⟩
def AUX_CAL_STAT_DONE : Fld := ⟨0x100F0008, 1, 1, 0⟩
def AUX_CAL_STAT_ERR : Fld := ⟨0x100F0008, 2, 1, 0⟩
def AUX_CAL_STAT_ZERO_HELD : Fld := ⟨0x100F0008, 3, 1, 0⟩
def AUX_CAL_STAT_FULL_HELD : Fld := ⟨0x100F0008, 4, 1, 0⟩
def AUX_CAL_STAT_CODE : Fld := ⟨0x100F0008, 8, 8, 0⟩
def AUX_OPEN_LO_INPUTS : Fld := ⟨0x100F000C, 0, 32, 0⟩
def AUX_OPEN_HI_INPUTS : Fld := ⟨0x100F0010, 0, 32, 0⟩
def AUX_LOCK_LOCK : Fld := ⟨0x100F0014, 0, 1, 0⟩
def AUX_CONV_CNT_LATE (n : Nat) : Fld := ⟨0x100F0108 + 0x20 * n, 0, 16, 0⟩
def AUX_CONV_CNT_OVR (n : Nat) : Fld := ⟨0x100F0108 + 0x20 * n, 16, 16, 0⟩
def AUX_OW_LIM_OW_LIM (n : Nat) : Fld := ⟨0x100F010C + 0x20 * n, 0, 15, 0x7530⟩
def AUX_SEQ_ENTRY (n : Nat) (m : Nat) : Fld := ⟨0x100F0400 + 0x40 * n + 4 * m, 0, 32, 0⟩
def AUX_RES_DATA (n : Nat) (m : Nat) (k : Nat) : Fld := ⟨0x100F1000 + 0x100 * n + 0x10 * m + 4 * k, 0, 32, 0⟩
def AUX_CAL_GAIN (n : Nat) (m : Nat) : Fld := ⟨0x100F2000 + 0x20 * n + 4 * m, 0, 16, 0x4000⟩
def AUX_CAL_OFFSET (n : Nat) (m : Nat) : Fld := ⟨0x100F2000 + 0x20 * n + 4 * m, 16, 16, 0⟩
def AUX_TRIM_T_GAIN (n : Nat) : Fld := ⟨0x100F3000 + 4 * n, 0, 16, 0x4000⟩
def AUX_TRIM_T_OFS (n : Nat) : Fld := ⟨0x100F3000 + 4 * n, 16, 16, 0⟩

def PWR_STAT_STATE : Fld := ⟨0x10010000, 0, 3, 0⟩
def PWR_STAT_WAKE_DEGRADED : Fld := ⟨0x10010000, 3, 1, 0⟩
def PWR_STAT_CLK_RC : Fld := ⟨0x10010000, 4, 1, 0⟩
def PWR_STAT_REFCLK_OK : Fld := ⟨0x10010000, 5, 1, 0⟩
def PWR_STAT_REFCLK_LOST : Fld := ⟨0x10010000, 6, 1, 0⟩
def PWR_STAT_ENTRY_ABORT : Fld := ⟨0x10010000, 7, 1, 0⟩
def PWR_STAT_SLEEP_CODE : Fld := ⟨0x10010000, 8, 8, 0⟩
def PWR_STAT_DOM_ON : Fld := ⟨0x10010000, 16, 16, 1⟩
def PWR_WAKE_CAUSE_THAW : Fld := ⟨0x10010004, 0, 1, 0⟩
def PWR_WAKE_CAUSE_WAKE_N : Fld := ⟨0x10010004, 1, 1, 0⟩
def PWR_WAKE_CAUSE_TIMER : Fld := ⟨0x10010004, 2, 1, 0⟩
def PWR_WAKE_CAUSE_WAKE_IN_ENTRY : Fld := ⟨0x10010004, 3, 1, 0⟩
def PWR_WAKE_CAUSE_POR : Fld := ⟨0x10010004, 4, 1, 1⟩
def PWR_RETAIN_BANKS : Fld := ⟨0x10010008, 0, 4, 1⟩
def PWR_WAKE_EN_THAW : Fld := ⟨0x1001000C, 0, 1, 1⟩
def PWR_WAKE_EN_WAKE_N : Fld := ⟨0x1001000C, 1, 1, 1⟩
def PWR_WAKE_EN_TIMER : Fld := ⟨0x1001000C, 2, 1, 0⟩
def PWR_TIMER_MS : Fld := ⟨0x10010010, 0, 32, 0⟩
def PWR_DOM_FAIL_DOMAIN : Fld := ⟨0x10010014, 0, 4, 0⟩
def PWR_DOM_FAIL_ATTEMPTS : Fld := ⟨0x10010014, 4, 3, 0⟩
def PWR_DOM_FAIL_FAILED : Fld := ⟨0x10010014, 7, 1, 0⟩
def PWR_POLICY_OFF : Fld := ⟨0x10010018, 0, 16, 0⟩
def PWR_CNT_SLEEPS : Fld := ⟨0x1001001C, 0, 16, 0⟩
def PWR_CNT_FAILS : Fld := ⟨0x1001001C, 16, 16, 0⟩
def PWR_LOCK_LOCK : Fld := ⟨0x10010020, 0, 1, 0⟩

def THAW_CFG_ADDR : Fld := ⟨0x10140000, 0, 7, 0x5A⟩
def THAW_CFG_SLEEP_EN : Fld := ⟨0x10140000, 8, 1, 1⟩
def THAW_STAT_MATCH_EV : Fld := ⟨0x10140004, 0, 1, 0⟩
def THAW_STAT_NACK_EV : Fld := ⟨0x10140004, 1, 1, 0⟩
def THAW_STAT_SLEEP_EV : Fld := ⟨0x10140004, 2, 1, 0⟩
def THAW_CNT_ACK : Fld := ⟨0x10140008, 0, 16, 0⟩
def THAW_CNT_NACK : Fld := ⟨0x10140008, 16, 16, 0⟩
def THAW_LOCK_LOCK : Fld := ⟨0x1014000C, 0, 1, 0⟩

def BIST_STAT_STARTUP_PASS : Fld := ⟨0x10100000, 0, 1, 0⟩
def BIST_STAT_ONLINE_ACTIVE : Fld := ⟨0x10100000, 1, 1, 0⟩
def BIST_STAT_HOST_BUSY : Fld := ⟨0x10100000, 2, 1, 0⟩
def BIST_STAT_ONLINE_FAIL : Fld := ⟨0x10100000, 3, 1, 0⟩
def BIST_STAT_HOST_DONE : Fld := ⟨0x10100000, 4, 1, 0⟩
def BIST_STAT_HOST_FAIL : Fld := ⟨0x10100000, 5, 1, 0⟩
def BIST_STAT_INTEST_EV : Fld := ⟨0x10100000, 6, 1, 0⟩
def BIST_STAT_COPY_B : Fld := ⟨0x10100000, 7, 1, 0⟩
def BIST_STAT_BOOT_CODE : Fld := ⟨0x10100000, 8, 8, 0⟩
def BIST_CTRL_ONLINE_EN : Fld := ⟨0x10100004, 0, 1, 1⟩
def BIST_CTRL_SLICES : Fld := ⟨0x10100004, 1, 2, 3⟩
def BIST_CTRL_HOST_GO : Fld := ⟨0x10100004, 4, 1, 0⟩
def BIST_CTRL_HOST_MEM : Fld := ⟨0x10100004, 8, 8, 0⟩
def BIST_RESET_CAUSE_CAUSE : Fld := ⟨0x10100008, 0, 3, 0⟩
def BIST_ONLINE_PASS_CNT : Fld := ⟨0x1010000C, 0, 32, 0⟩
def BIST_ONLINE_POS_MEM : Fld := ⟨0x10100010, 0, 8, 0⟩
def BIST_ONLINE_POS_SLICE : Fld := ⟨0x10100010, 16, 16, 0⟩
def BIST_INTEST_ADDR_ADDR : Fld := ⟨0x10100014, 0, 32, 0⟩
def BIST_INTEST_REQ_REQ : Fld := ⟨0x10100018, 0, 4, 0⟩
def BIST_STARTUP_US_US : Fld := ⟨0x1010001C, 0, 16, 0⟩
def BIST_FAIL_CNT_ONLINE : Fld := ⟨0x10100020, 0, 16, 0⟩
def BIST_FAIL_CNT_HOST : Fld := ⟨0x10100020, 16, 16, 0⟩
def BIST_REC_BYTES (n : Nat) : Fld := ⟨0x10100040 + 4 * n, 0, 32, 0⟩
def BIST_LOCK_LOCK : Fld := ⟨0x10100080, 0, 1, 0⟩

def LCY_CMD_CMD : Fld := ⟨0x10108004, 0, 4, 0⟩
def LCY_CMD_TARGET : Fld := ⟨0x10108004, 4, 2, 0⟩
def LCY_CMD_ARG : Fld := ⟨0x10108004, 8, 8, 0⟩
def LCY_CMD_KEY : Fld := ⟨0x10108004, 16, 16, 0⟩
def LCY_STATE_STATE : Fld := ⟨0x10108000, 0, 2, 0⟩
def LCY_STATE_CALVE : Fld := ⟨0x10108000, 2, 1, 0⟩
def LCY_STATE_DBG : Fld := ⟨0x10108000, 3, 1, 0⟩
def LCY_STATE_ROLLBACK : Fld := ⟨0x10108000, 4, 7, 0⟩
def LCY_STATE_TRANS : Fld := ⟨0x10108000, 11, 5, 0⟩
def LCY_STATE_BOOT_KEYS : Fld := ⟨0x10108000, 16, 4, 0⟩
def LCY_STATE_FIRN_KEYS : Fld := ⟨0x10108000, 20, 4, 0⟩
def LCY_STAT_CODE : Fld := ⟨0x10108008, 0, 8, 0⟩
def LCY_STAT_DONE : Fld := ⟨0x10108008, 8, 1, 0⟩
def LCY_STAT_ERR : Fld := ⟨0x10108008, 9, 1, 0⟩
def LCY_NONCE_LO_NONCE : Fld := ⟨0x1010800C, 0, 32, 0⟩
def LCY_NONCE_HI_NONCE : Fld := ⟨0x10108010, 0, 32, 0⟩
def LCY_AUTH_ADDR : Fld := ⟨0x10108014, 0, 32, 0⟩
def LCY_SERIAL_SERIAL : Fld := ⟨0x10108018, 0, 32, 0⟩
def LCY_RESET_KEY : Fld := ⟨0x1010801C, 0, 16, 0⟩
def LCY_LOCK_LOCK : Fld := ⟨0x10108020, 0, 1, 0⟩

def HOST_IRQ_STAT_CAUSE : Fld := ⟨0x10110000, 0, 16, 0⟩
def HOST_IRQ_EN_EN : Fld := ⟨0x10110004, 0, 16, 0⟩
def HOST_STAT_LINK_UP : Fld := ⟨0x10110008, 0, 1, 0⟩
def HOST_STAT_SPEED : Fld := ⟨0x10110008, 1, 2, 0⟩
def HOST_STAT_WIDTH : Fld := ⟨0x10110008, 3, 3, 0⟩
def HOST_STAT_LINK_DOWN_EV : Fld := ⟨0x10110008, 6, 1, 0⟩
def HOST_STAT_MBX_VER : Fld := ⟨0x10110008, 8, 3, 1⟩
def HOST_DWIN_PAGE : Fld := ⟨0x1011000C, 0, 4, 0⟩
def HOST_MBX_DB_TAG : Fld := ⟨0x10110010, 0, 16, 0⟩
def HOST_MBX_STAT_BUSY : Fld := ⟨0x10110014, 0, 1, 0⟩
def HOST_MBX_STAT_DONE : Fld := ⟨0x10110014, 1, 1, 0⟩
def HOST_MBX_STAT_OVR : Fld := ⟨0x10110014, 2, 1, 0⟩
def HOST_LOCK_LOCK : Fld := ⟨0x10110018, 0, 1, 0⟩
def HOST_LOCK_BOOTW : Fld := ⟨0x10110018, 1, 1, 0⟩
def HOST_MBX_REQ_DATA (n : Nat) : Fld := ⟨0x10110100 + 4 * n, 0, 32, 0⟩
def HOST_MBX_RSP_DATA (n : Nat) : Fld := ⟨0x10110140 + 4 * n, 0, 32, 0⟩
def HOST_RING_HEAD_HEAD (n : Nat) : Fld := ⟨0x10110200 + 0x10 * n, 0, 32, 0⟩
def HOST_RING_TAIL_TAIL (n : Nat) : Fld := ⟨0x10110204 + 0x10 * n, 0, 32, 0⟩
def HOST_RING_DROP_CNT (n : Nat) : Fld := ⟨0x10110208 + 0x10 * n, 0, 32, 0⟩
def HOST_RING_MOD_THRESH (n : Nat) : Fld := ⟨0x1011020C + 0x10 * n, 0, 16, 1⟩
def HOST_RING_MOD_HOLDOFF (n : Nat) : Fld := ⟨0x1011020C + 0x10 * n, 16, 16, 0x64⟩
def HOST_QSPI_CMD_CMD : Fld := ⟨0x10110400, 0, 4, 0⟩
def HOST_QSPI_CMD_QBUSY : Fld := ⟨0x10110400, 8, 1, 0⟩
def HOST_QSPI_CMD_QDONE : Fld := ⟨0x10110400, 9, 1, 0⟩
def HOST_QSPI_ADDR_ADDR : Fld := ⟨0x10110404, 0, 32, 0⟩
def HOST_QSPI_LEN_LEN : Fld := ⟨0x10110408, 0, 9, 0⟩
def HOST_QSPI_BUF_DATA (n : Nat) : Fld := ⟨0x10110500 + 4 * n, 0, 32, 0⟩

def DRC_STAT_SIZE : Fld := ⟨0x10120000, 0, 6, 0⟩
def DRC_STAT_TRAINED : Fld := ⟨0x10120000, 6, 1, 0⟩
def DRC_STAT_SCRUB_LATE : Fld := ⟨0x10120000, 7, 1, 0⟩
def DRC_STAT_RANK_FAIL : Fld := ⟨0x10120000, 8, 2, 0⟩
def DRC_TWIN_PAGE : Fld := ⟨0x10120004, 0, 4, 0⟩
def DRC_ECC_CNT_CNT : Fld := ⟨0x10120008, 0, 32, 0⟩
def DRC_UE_ADDR_LO_ADDR : Fld := ⟨0x1012000C, 0, 32, 0⟩
def DRC_UE_ADDR_HI_ADDR : Fld := ⟨0x10120010, 0, 3, 0⟩
def DRC_SCRUB_HOURS : Fld := ⟨0x10120014, 0, 8, 0x18⟩
def DRC_SCRUB_PASS : Fld := ⟨0x10120014, 16, 16, 0⟩
def DRC_ECC_CFG_UE_LIM : Fld := ⟨0x10120018, 0, 8, 4⟩
def DRC_LOCK_LOCK : Fld := ⟨0x1012001C, 0, 1, 0⟩

def FWL_VADDR_ADDR : Fld := ⟨0x10130000, 0, 32, 0⟩
def FWL_VREQ_REQ : Fld := ⟨0x10130004, 0, 4, 0⟩
def FWL_VREQ_CODE : Fld := ⟨0x10130004, 4, 4, 0⟩
def FWL_VREQ_WRITE : Fld := ⟨0x10130004, 8, 1, 0⟩
def FWL_VPAGE_PAGE : Fld := ⟨0x10130008, 0, 4, 0⟩
def FWL_VPAGE_WIN : Fld := ⟨0x10130008, 4, 1, 0⟩
def FWL_VCNT_CNT : Fld := ⟨0x1013000C, 0, 32, 0⟩
def FWL_REG_BASE_BASE (n : Nat) : Fld := ⟨0x10130100 + 0x10 * n, 12, 20, 0⟩
def FWL_REG_BASE_HI_BASE (n : Nat) : Fld := ⟨0x10130104 + 0x10 * n, 0, 3, 0⟩
def FWL_REG_ATTR_SIZE (n : Nat) : Fld := ⟨0x10130108 + 0x10 * n, 0, 6, 0xC⟩
def FWL_REG_ATTR_EN (n : Nat) : Fld := ⟨0x10130108 + 0x10 * n, 8, 1, 0⟩
def FWL_REG_ATTR_PERM (n : Nat) : Fld := ⟨0x10130108 + 0x10 * n, 9, 4, 0⟩
def FWL_LOCK_LOCK : Fld := ⟨0x10130200, 0, 1, 0⟩

/-- The mode of zone z, three bits of `SYS_ZMODE_LO` and `SYS_ZMODE_HI` (R525). -/
def SYS_ZMODE (z : Nat) : Fld := ⟨if z < 10 then 0x1000000C else 0x10000010, 3 * (z % 10), 3, 0⟩
def SYS_ID_DEVICE : Fld := ⟨0x10000000, 0, 16, 0x4096⟩
def SYS_ID_STEPPING : Fld := ⟨0x10000000, 16, 8, 1⟩
def SYS_VENDOR_VENDOR : Fld := ⟨0x10000004, 0, 16, 0x1F4A⟩
def SYS_PROPS_ROLE : Fld := ⟨0x10000008, 0, 2, 0⟩
def SYS_PROPS_TRIAD : Fld := ⟨0x10000008, 2, 2, 0⟩
def SYS_PROPS_RIME : Fld := ⟨0x10000008, 4, 2, 0⟩
def SYS_PROPS_SAFE : Fld := ⟨0x10000008, 6, 1, 0⟩
def SYS_PROPS_BOOT : Fld := ⟨0x10000008, 7, 1, 1⟩
def SYS_ZONE_REQ_ZONE : Fld := ⟨0x10000014, 0, 4, 0⟩
def SYS_ZONE_REQ_MODE : Fld := ⟨0x10000014, 4, 3, 0⟩
def SYS_ZONE_REQ_GO : Fld := ⟨0x10000014, 8, 1, 0⟩
def SYS_ZONE_REQ_PEND : Fld := ⟨0x10000014, 9, 1, 0⟩
def SYS_ZONE_REQ_DONE : Fld := ⟨0x10000014, 10, 1, 0⟩
def SYS_ZONE_REQ_REFUSED : Fld := ⟨0x10000014, 11, 1, 0⟩
def SYS_ZHOLD_ZONES : Fld := ⟨0x10000018, 0, 16, 0⟩

end Reg

end Sys2Proof.Machine
end

