-- ==== Sys2Proof/Machine/RegTable.lean ====
section
/-!
DEFINITION. The register tables as data for host and triad accesses: for every register its address, index ranges with
their strides, the scope of its RWS fields (R13) and, field by field, the access code of R11 and the stated limits.
-/
namespace Sys2Proof.Machine

/-- The access codes of R11. -/
inductive Acc where
  | rw | ro | wo | w1c | w1s | rwl | rws
deriving DecidableEq, Repr

/-- What governs the RWS fields of a register, R13. -/
inductive RegScope where
  | device | group | port | axis
deriving DecidableEq, Repr

/-- One field of a register row: its handle by index, access code, stated limits. -/
structure FldRow where
  f : Nat → Nat → Nat → Fld
  acc : Acc
  lim : Option (Nat × Nat)

/-- One register row: address of element 0, (count, stride) per index, scope, fields. -/
structure RegRow where
  addr : Nat
  dims : List (Nat × Nat)
  scope : RegScope
  flds : List FldRow

/-- Registers of the FIRN block. -/
def regRowsFirn : List RegRow :=
  [⟨0x10040000, [], .device,
    [⟨fun _ _ _ => Reg.FIRN_CTRL_CMD, .wo, none⟩,
     ⟨fun _ _ _ => Reg.FIRN_CTRL_SLOT, .wo, none⟩]⟩,
   ⟨0x10040004, [], .device,
    [⟨fun _ _ _ => Reg.FIRN_STAT_BUSY, .ro, none⟩,
     ⟨fun _ _ _ => Reg.FIRN_STAT_DONE, .w1c, none⟩,
     ⟨fun _ _ _ => Reg.FIRN_STAT_ERR, .w1c, none⟩,
     ⟨fun _ _ _ => Reg.FIRN_STAT_VAR_MISS, .w1c, none⟩,
     ⟨fun _ _ _ => Reg.FIRN_STAT_ACTIVE_VAR, .ro, none⟩,
     ⟨fun _ _ _ => Reg.FIRN_STAT_SLOT_VALID, .ro, none⟩,
     ⟨fun _ _ _ => Reg.FIRN_STAT_PEND_VAR, .ro, none⟩,
     ⟨fun _ _ _ => Reg.FIRN_STAT_PEND, .ro, none⟩,
     ⟨fun _ _ _ => Reg.FIRN_STAT_COMMIT_PEND, .ro, none⟩,
     ⟨fun _ _ _ => Reg.FIRN_STAT_FORMAT, .ro, none⟩]⟩,
   ⟨0x10040008, [], .device,
    [⟨fun _ _ _ => Reg.FIRN_ERR_CODE, .ro, none⟩,
     ⟨fun _ _ _ => Reg.FIRN_ERR_SLOT, .ro, none⟩,
     ⟨fun _ _ _ => Reg.FIRN_ERR_PARTNER, .ro, none⟩,
     ⟨fun _ _ _ => Reg.FIRN_ERR_SECTION, .ro, none⟩]⟩,
   ⟨0x1004000C, [], .device,
    [⟨fun _ _ _ => Reg.FIRN_ERROFF_OFFSET, .ro, none⟩]⟩,
   ⟨0x10040010, [], .device,
    [⟨fun _ _ _ => Reg.FIRN_SRC_LO_ADDR, .rw, none⟩]⟩,
   ⟨0x10040014, [], .device,
    [⟨fun _ _ _ => Reg.FIRN_SRC_HI_ADDR, .rw, none⟩]⟩,
   ⟨0x10040018, [], .device,
    [⟨fun _ _ _ => Reg.FIRN_LEN_LEN, .rw, none⟩]⟩,
   ⟨0x10040020, [(4, 4)], .device,
    [⟨fun n _ _ => Reg.FIRN_SLOT_SERIAL_SERIAL n, .ro, none⟩]⟩,
   ⟨0x10040030, [], .device,
    [⟨fun _ _ _ => Reg.FIRN_SAFE_CRC_CHECK, .ro, none⟩]⟩,
   ⟨0x10040034, [], .device,
    [⟨fun _ _ _ => Reg.FIRN_LEDGER_VER_VER, .ro, none⟩]⟩,
   ⟨0x10040038, [], .device,
    [⟨fun _ _ _ => Reg.FIRN_PAIR_ERR_OFFSET, .ro, none⟩]⟩,
   ⟨0x1004003C, [], .device,
    [⟨fun _ _ _ => Reg.FIRN_KEYMASK_SLOTS, .rwl, none⟩]⟩,
   ⟨0x10040040, [], .device,
    [⟨fun _ _ _ => Reg.FIRN_LOCK_LOCK, .w1s, none⟩]⟩]

/-- Registers of the FLOE block. -/
def regRowsFloe : List RegRow :=
  [⟨0x10050000, [(128, 0x100)], .port,
    [⟨fun n _ _ => Reg.FLOE_CTRL_ENABLE n, .ro, none⟩,
     ⟨fun n _ _ => Reg.FLOE_CTRL_RESTART n, .wo, none⟩,
     ⟨fun n _ _ => Reg.FLOE_CTRL_TX_INV n, .rwl, none⟩,
     ⟨fun n _ _ => Reg.FLOE_CTRL_RX_INV n, .rwl, none⟩,
     ⟨fun n _ _ => Reg.FLOE_CTRL_EXP_RESEND n, .rws, none⟩,
     ⟨fun n _ _ => Reg.FLOE_CTRL_CNT_CLR n, .wo, none⟩]⟩,
   ⟨0x10050004, [(128, 0x100)], .device,
    [⟨fun n _ _ => Reg.FLOE_STAT_STATE n, .ro, none⟩,
     ⟨fun n _ _ => Reg.FLOE_STAT_VER n, .ro, none⟩,
     ⟨fun n _ _ => Reg.FLOE_STAT_PARK_REASON n, .ro, none⟩,
     ⟨fun n _ _ => Reg.FLOE_STAT_NO_SIGNAL n, .ro, none⟩,
     ⟨fun n _ _ => Reg.FLOE_STAT_LOST_EV n, .w1c, none⟩,
     ⟨fun n _ _ => Reg.FLOE_STAT_DISAGREE n, .w1c, none⟩,
     ⟨fun n _ _ => Reg.FLOE_STAT_EXP_NOACK n, .w1c, none⟩,
     ⟨fun n _ _ => Reg.FLOE_STAT_SKEW n, .w1c, none⟩,
     ⟨fun n _ _ => Reg.FLOE_STAT_BAD_SLOT n, .w1c, none⟩,
     ⟨fun n _ _ => Reg.FLOE_STAT_PARK_EV n, .w1c, none⟩,
     ⟨fun n _ _ => Reg.FLOE_STAT_RENEG n, .w1c, none⟩]⟩,
   ⟨0x10050008, [(128, 0x100)], .device,
    [⟨fun n _ _ => Reg.FLOE_CAPS_VER_MIN n, .ro, none⟩,
     ⟨fun n _ _ => Reg.FLOE_CAPS_VER_MAX n, .ro, none⟩,
     ⟨fun n _ _ => Reg.FLOE_CAPS_NCH n, .ro, none⟩,
     ⟨fun n _ _ => Reg.FLOE_CAPS_NRANGE n, .ro, none⟩,
     ⟨fun n _ _ => Reg.FLOE_CAPS_EXP_ACK n, .ro, none⟩]⟩,
   ⟨0x1005000C, [(128, 0x100)], .device,
    [⟨fun n _ _ => Reg.FLOE_CHSTAT_USABLE n, .ro, none⟩]⟩,
   ⟨0x10050010, [(128, 0x100)], .device,
    [⟨fun n _ _ => Reg.FLOE_BRICK_ID_ID n, .ro, none⟩]⟩,
   ⟨0x10050014, [(128, 0x100)], .device,
    [⟨fun n _ _ => Reg.FLOE_BRICK_SN_SERIAL n, .ro, none⟩]⟩,
   ⟨0x10050018, [(128, 0x100)], .device,
    [⟨fun n _ _ => Reg.FLOE_BRICK_FW_FW n, .ro, none⟩]⟩,
   ⟨0x1005001C, [(128, 0x100)], .device,
    [⟨fun n _ _ => Reg.FLOE_DELAY_D_NS n, .ro, none⟩]⟩,
   ⟨0x10050020, [(128, 0x100)], .device,
    [⟨fun n _ _ => Reg.FLOE_ERR_CODE_CNT n, .ro, none⟩]⟩,
   ⟨0x10050024, [(128, 0x100)], .device,
    [⟨fun n _ _ => Reg.FLOE_ERR_FRAME_CNT n, .ro, none⟩]⟩,
   ⟨0x10050028, [(128, 0x100)], .device,
    [⟨fun n _ _ => Reg.FLOE_MISS_CNT n, .ro, none⟩]⟩,
   ⟨0x1005002C, [(128, 0x100)], .device,
    [⟨fun n _ _ => Reg.FLOE_EXP_ID n, .ro, none⟩]⟩,
   ⟨0x10050030, [(128, 0x100)], .device,
    [⟨fun n _ _ => Reg.FLOE_BRICK_HDR_HDR n, .ro, none⟩]⟩,
   ⟨0x10050034, [(128, 0x100)], .device,
    [⟨fun n _ _ => Reg.FLOE_BRICK_DIS_DIS_SEQ n, .ro, none⟩]⟩,
   ⟨0x10050038, [(128, 0x100), (5, 4)], .device,
    [⟨fun n m _ => Reg.FLOE_RANGE_FS_FS_UA n m, .ro, none⟩]⟩,
   ⟨0x1005004C, [(128, 0x100)], .device,
    [⟨fun n _ _ => Reg.FLOE_VFS_VFS n, .ro, none⟩]⟩,
   ⟨0x10050050, [(128, 0x100)], .device,
    [⟨fun n _ _ => Reg.FLOE_RAMP_RAMP n, .ro, none⟩]⟩,
   ⟨0x10058000, [(4, 4)], .device,
    [⟨fun n _ _ => Reg.FLOE_LOST_SUM_PORTS n, .ro, none⟩]⟩,
   ⟨0x10058010, [(4, 4)], .device,
    [⟨fun n _ _ => Reg.FLOE_PARK_SUM_PORTS n, .ro, none⟩]⟩,
   ⟨0x10058020, [], .device,
    [⟨fun _ _ _ => Reg.FLOE_GLOCK_LOCK, .w1s, none⟩]⟩]

/-- Registers of the MEAS block. -/
def regRowsMeas : List RegRow :=
  [⟨0x10060000, [], .device,
    [⟨fun _ _ _ => Reg.MEAS_CTRL_OVL_LIM, .rwl, (some (0x4000, 0x8000))⟩]⟩,
   ⟨0x10060004, [], .device,
    [⟨fun _ _ _ => Reg.MEAS_STAT_CAL_BUSY, .ro, none⟩,
     ⟨fun _ _ _ => Reg.MEAS_STAT_CAL_DONE, .w1c, none⟩,
     ⟨fun _ _ _ => Reg.MEAS_STAT_CAL_ERR, .w1c, none⟩,
     ⟨fun _ _ _ => Reg.MEAS_STAT_ZERO_HELD, .ro, none⟩,
     ⟨fun _ _ _ => Reg.MEAS_STAT_FULL_HELD, .ro, none⟩,
     ⟨fun _ _ _ => Reg.MEAS_STAT_CAL_CODE, .ro, none⟩,
     ⟨fun _ _ _ => Reg.MEAS_STAT_CAL_FAILS, .ro, none⟩]⟩,
   ⟨0x10060008, [], .device,
    [⟨fun _ _ _ => Reg.MEAS_CAL_CTRL_CMD, .wo, none⟩,
     ⟨fun _ _ _ => Reg.MEAS_CAL_CTRL_STREAM, .rw, (some (0, 5))⟩,
     ⟨fun _ _ _ => Reg.MEAS_CAL_CTRL_LOG2N, .rw, (some (4, 0xE))⟩,
     ⟨fun _ _ _ => Reg.MEAS_CAL_CTRL_SETTLE, .rw, (some (4, 0xFF))⟩]⟩,
   ⟨0x10060400, [(256, 4)], .group,
    [⟨fun n _ _ => Reg.MEAS_RNG_UP_PCT n, .rws, (some (0x32, 0x64))⟩,
     ⟨fun n _ _ => Reg.MEAS_RNG_DN_PCT n, .rws, (some (0xA, 0x5F))⟩,
     ⟨fun n _ _ => Reg.MEAS_RNG_HOLD n, .rws, (some (1, 0xFF))⟩,
     ⟨fun n _ _ => Reg.MEAS_RNG_FORCE_RANGE n, .rws, (some (0, 3))⟩,
     ⟨fun n _ _ => Reg.MEAS_RNG_FORCE n, .rws, none⟩,
     ⟨fun n _ _ => Reg.MEAS_RNG_CLIP_UP n, .rws, none⟩]⟩,
   ⟨0x1006000C, [], .device,
    [⟨fun _ _ _ => Reg.MEAS_CAL_CH_FIRST, .rw, none⟩,
     ⟨fun _ _ _ => Reg.MEAS_CAL_CH_NUM, .rw, (some (1, 0x1000))⟩]⟩,
   ⟨0x10060010, [], .device,
    [⟨fun _ _ _ => Reg.MEAS_CAL_REFZ_REFZ, .rw, none⟩]⟩,
   ⟨0x10060014, [], .device,
    [⟨fun _ _ _ => Reg.MEAS_CAL_REFF_REFF, .rw, none⟩]⟩,
   ⟨0x10060018, [], .device,
    [⟨fun _ _ _ => Reg.MEAS_CAL_REFID_LO_ID, .rw, none⟩]⟩,
   ⟨0x1006001C, [], .device,
    [⟨fun _ _ _ => Reg.MEAS_CAL_REFID_HI_ID, .rw, none⟩]⟩,
   ⟨0x10060020, [], .device,
    [⟨fun _ _ _ => Reg.MEAS_CAL_FAIL_CH_CH, .ro, none⟩,
     ⟨fun _ _ _ => Reg.MEAS_CAL_FAIL_CH_CODE, .ro, none⟩]⟩,
   ⟨0x10060024, [], .device,
    [⟨fun _ _ _ => Reg.MEAS_RNG_CNT_CNT, .ro, none⟩]⟩,
   ⟨0x10060028, [], .device,
    [⟨fun _ _ _ => Reg.MEAS_SUBST_CNT_CNT, .ro, none⟩]⟩,
   ⟨0x1006002C, [], .device,
    [⟨fun _ _ _ => Reg.MEAS_CLIP_CNT_CNT, .ro, none⟩]⟩,
   ⟨0x10060030, [], .device,
    [⟨fun _ _ _ => Reg.MEAS_LOCK_LOCK, .w1s, none⟩]⟩,
   ⟨0x10060800, [(256, 8)], .group,
    [⟨fun n _ _ => Reg.MEAS_CONTACT_LIM_HIGH_MOHM n, .rws, (some (1, 0xFFFF))⟩,
     ⟨fun n _ _ => Reg.MEAS_CONTACT_LIM_OPEN_MOHM n, .rws, none⟩]⟩,
   ⟨0x10060804, [(256, 8)], .group,
    [⟨fun n _ _ => Reg.MEAS_CONTACT_TIM_BASE n, .rws, (some (1, 0x40))⟩,
     ⟨fun n _ _ => Reg.MEAS_CONTACT_TIM_SETTLE n, .rws, (some (4, 0x40))⟩,
     ⟨fun n _ _ => Reg.MEAS_CONTACT_TIM_MEAS n, .rws, (some (1, 0x40))⟩]⟩]

/-- Registers of the LEDGER block. -/
def regRowsLedger : List RegRow :=
  [⟨0x4200000, [], .device,
    [⟨fun _ _ _ => Reg.LEDGER_CTRL_FLUSH, .wo, none⟩,
     ⟨fun _ _ _ => Reg.LEDGER_CTRL_CLR_GO, .wo, none⟩,
     ⟨fun _ _ _ => Reg.LEDGER_CTRL_CLR_SEG, .rw, none⟩]⟩,
   ⟨0x4200004, [], .device,
    [⟨fun _ _ _ => Reg.LEDGER_RSTAT_TORN_HOST, .w1c, none⟩,
     ⟨fun _ _ _ => Reg.LEDGER_RSTAT_TORN_TRIAD, .w1c, none⟩,
     ⟨fun _ _ _ => Reg.LEDGER_RSTAT_WTORN_HOST, .w1c, none⟩,
     ⟨fun _ _ _ => Reg.LEDGER_RSTAT_WTORN_TRIAD, .w1c, none⟩,
     ⟨fun _ _ _ => Reg.LEDGER_RSTAT_SNAP_HOST, .ro, none⟩,
     ⟨fun _ _ _ => Reg.LEDGER_RSTAT_SNAP_TRIAD, .ro, none⟩,
     ⟨fun _ _ _ => Reg.LEDGER_RSTAT_FLUSH_BUSY, .ro, none⟩,
     ⟨fun _ _ _ => Reg.LEDGER_RSTAT_CLR_BUSY, .ro, none⟩,
     ⟨fun _ _ _ => Reg.LEDGER_RSTAT_FOLD_LATE, .w1c, none⟩,
     ⟨fun _ _ _ => Reg.LEDGER_RSTAT_UE, .w1c, none⟩]⟩,
   ⟨0x4200800, [(8, 0x20)], .device,
    [⟨fun n _ _ => Reg.LEDGER_STRM_CTRL_EN n, .rw, none⟩,
     ⟨fun n _ _ => Reg.LEDGER_STRM_CTRL_SEG n, .rw, (some (0, 5))⟩,
     ⟨fun n _ _ => Reg.LEDGER_STRM_CTRL_PERIOD n, .rw, none⟩]⟩,
   ⟨0x4200008, [], .device,
    [⟨fun _ _ _ => Reg.LEDGER_TORN_ADDR_ADDR, .ro, none⟩]⟩,
   ⟨0x420000C, [], .device,
    [⟨fun _ _ _ => Reg.LEDGER_BASE_LO_ADDR, .rwl, none⟩]⟩,
   ⟨0x4200010, [], .device,
    [⟨fun _ _ _ => Reg.LEDGER_BASE_HI_ADDR, .rwl, none⟩]⟩,
   ⟨0x4200014, [], .device,
    [⟨fun _ _ _ => Reg.LEDGER_CLR_CH_FIRST, .rw, none⟩,
     ⟨fun _ _ _ => Reg.LEDGER_CLR_CH_NUM, .rw, (some (1, 0x1000))⟩]⟩,
   ⟨0x4200018, [], .device,
    [⟨fun _ _ _ => Reg.LEDGER_FOLD_CYC_CYC, .ro, none⟩]⟩,
   ⟨0x420001C, [], .device,
    [⟨fun _ _ _ => Reg.LEDGER_ECC_CNT_CNT, .ro, none⟩]⟩,
   ⟨0x4200020, [], .device,
    [⟨fun _ _ _ => Reg.LEDGER_UE_ADDR_ADDR, .ro, none⟩]⟩,
   ⟨0x4200024, [], .device,
    [⟨fun _ _ _ => Reg.LEDGER_MISS_CNT_CNT, .ro, none⟩]⟩,
   ⟨0x4200028, [], .device,
    [⟨fun _ _ _ => Reg.LEDGER_LOCK_LOCK, .w1s, none⟩]⟩,
   ⟨0x4200400, [(256, 4)], .group,
    [⟨fun n _ _ => Reg.LEDGER_AVG_LOG2N_V n, .rws, (some (0, 0x18))⟩,
     ⟨fun n _ _ => Reg.LEDGER_AVG_LOG2N_I n, .rws, (some (0, 0x18))⟩]⟩,
   ⟨0x4200804, [(8, 0x20)], .device,
    [⟨fun n _ _ => Reg.LEDGER_STRM_CH_FIRST n, .rw, none⟩,
     ⟨fun n _ _ => Reg.LEDGER_STRM_CH_NUM n, .rw, (some (1, 0x1000))⟩]⟩,
   ⟨0x4200808, [(8, 0x20)], .device,
    [⟨fun n _ _ => Reg.LEDGER_STRM_RANGE_OFFSET n, .rw, none⟩,
     ⟨fun n _ _ => Reg.LEDGER_STRM_RANGE_LEN n, .rw, (some (4, 0x800))⟩]⟩,
   ⟨0x420080C, [(8, 0x20)], .device,
    [⟨fun n _ _ => Reg.LEDGER_STRM_PHASE_PHASE n, .rw, none⟩]⟩,
   ⟨0x4200810, [(8, 0x20)], .device,
    [⟨fun n _ _ => Reg.LEDGER_STRM_STAT_ACTIVE n, .ro, none⟩,
     ⟨fun n _ _ => Reg.LEDGER_STRM_STAT_REFUSED n, .w1c, none⟩]⟩,
   ⟨0x4200814, [(8, 0x20)], .device,
    [⟨fun n _ _ => Reg.LEDGER_STRM_LOSS_CNT n, .ro, none⟩]⟩,
   ⟨0x4200818, [(8, 0x20)], .device,
    [⟨fun n _ _ => Reg.LEDGER_STRM_CNT_CNT n, .ro, none⟩]⟩]

/-- Registers of the CHAN block. -/
def regRowsChan1 : List RegRow :=
  [⟨0x10070000, [], .device,
    [⟨fun _ _ _ => Reg.CHAN_STAT_STALE_EV, .w1c, none⟩,
     ⟨fun _ _ _ => Reg.CHAN_STAT_DEMAND_EV, .w1c, none⟩,
     ⟨fun _ _ _ => Reg.CHAN_STAT_HO_EV, .w1c, none⟩,
     ⟨fun _ _ _ => Reg.CHAN_STAT_MAN_REF, .w1c, none⟩,
     ⟨fun _ _ _ => Reg.CHAN_STAT_MAN_PEND, .ro, none⟩]⟩,
   ⟨0x10071024, [(256, 0x40)], .group,
    [⟨fun n _ _ => Reg.CHAN_REGCFG_STALE_MAX n, .rws, (some (1, 0x40))⟩,
     ⟨fun n _ _ => Reg.CHAN_REGCFG_CAP_TICKS n, .rws, (some (0x10, 0xFFF))⟩,
     ⟨fun n _ _ => Reg.CHAN_REGCFG_TONE_SET n, .rws, none⟩,
     ⟨fun n _ _ => Reg.CHAN_REGCFG_TONE_EN n, .rws, none⟩,
     ⟨fun n _ _ => Reg.CHAN_REGCFG_HO_SAT n, .rws, (some (1, 0x7F))⟩]⟩,
   ⟨0x10070004, [], .device,
    [⟨fun _ _ _ => Reg.CHAN_STALE_CNT_CNT, .ro, none⟩]⟩,
   ⟨0x10070008, [], .device,
    [⟨fun _ _ _ => Reg.CHAN_LOCK_LOCK, .w1s, none⟩]⟩,
   ⟨0x10070010, [], .device,
    [⟨fun _ _ _ => Reg.CHAN_MAN_CH_CH, .rw, none⟩]⟩,
   ⟨0x10070014, [], .device,
    [⟨fun _ _ _ => Reg.CHAN_MAN_CTRL_GO, .wo, none⟩,
     ⟨fun _ _ _ => Reg.CHAN_MAN_CTRL_RELEASE, .wo, none⟩]⟩,
   ⟨0x10070020, [(8, 4)], .device,
    [⟨fun n _ _ => Reg.CHAN_MAN_DEM_WORD n, .rw, none⟩]⟩,
   ⟨0x10071000, [(256, 0x40)], .group,
    [⟨fun n _ _ => Reg.CHAN_KPV_KP n, .rws, none⟩]⟩,
   ⟨0x10071004, [(256, 0x40)], .group,
    [⟨fun n _ _ => Reg.CHAN_KIV_KI n, .rws, none⟩]⟩,
   ⟨0x10071008, [(256, 0x40)], .group,
    [⟨fun n _ _ => Reg.CHAN_KPP_KP n, .rws, none⟩]⟩,
   ⟨0x1007100C, [(256, 0x40)], .group,
    [⟨fun n _ _ => Reg.CHAN_KIP_KI n, .rws, none⟩]⟩,
   ⟨0x10071010, [(256, 0x40)], .group,
    [⟨fun n _ _ => Reg.CHAN_KPH_KP n, .rws, none⟩]⟩,
   ⟨0x10071014, [(256, 0x40)], .group,
    [⟨fun n _ _ => Reg.CHAN_KIH_KI n, .rws, none⟩]⟩,
   ⟨0x10071018, [(256, 0x40)], .group,
    [⟨fun n _ _ => Reg.CHAN_SLEW_SLEW n, .rws, none⟩]⟩,
   ⟨0x1007101C, [(256, 0x40)], .group,
    [⟨fun n _ _ => Reg.CHAN_ICHG_ILIM n, .rwl, (some (0, 0x7FFFFFFF))⟩]⟩,
   ⟨0x10071020, [(256, 0x40)], .group,
    [⟨fun n _ _ => Reg.CHAN_IDIS_ILIM n, .rwl, (some (0, 0x7FFFFFFF))⟩]⟩,
   ⟨0x10071028, [(256, 0x40)], .group,
    [⟨fun n _ _ => Reg.CHAN_CPVMIN_VMIN n, .rws, (some (1, 0x7FFFFFFF))⟩]⟩,
   ⟨0x10075000, [(16, 0x40), (8, 8)], .device,
    [⟨fun n m _ => Reg.CHAN_TONE_INC_INC n m, .rws, none⟩]⟩,
   ⟨0x10075004, [(16, 0x40), (8, 8)], .device,
    [⟨fun n m _ => Reg.CHAN_TONE_AMP_AMP n m, .rws, (some (0, 0x1F4))⟩,
     ⟨fun n m _ => Reg.CHAN_TONE_AMP_PHASE0 n m, .rws, none⟩]⟩,
   ⟨0x10076000, [(2, 0x800), (64, 0x20), (4, 8)], .device,
    [⟨fun n m k => Reg.CHAN_GRD_COND_QTY n m k, .rws, (some (0, 0x10))⟩,
     ⟨fun n m k => Reg.CHAN_GRD_COND_OP n m k, .rws, none⟩,
     ⟨fun n m k => Reg.CHAN_GRD_COND_EN n m k, .rws, none⟩,
     ⟨fun n m k => Reg.CHAN_GRD_COND_PA n m k, .rws, none⟩,
     ⟨fun n m k => Reg.CHAN_GRD_COND_PB n m k, .rws, none⟩]⟩]

/-- Registers of the CHAN block. -/
def regRowsChan2 : List RegRow :=
  [⟨0x10077000, [(32, 0x20), (8, 4)], .device,
    [⟨fun n m _ => Reg.CHAN_GRD_PSET_WORD n m, .rws, none⟩]⟩,
   ⟨0x10077804, [(256, 8)], .group,
    [⟨fun n _ _ => Reg.CHAN_GRD_ICA_CFG_BIN_UV n, .rws, (some (1, 0xFFFF))⟩,
     ⟨fun n _ _ => Reg.CHAN_GRD_ICA_CFG_HSHIFT n, .rws, none⟩,
     ⟨fun n _ _ => Reg.CHAN_GRD_ICA_CFG_EN n, .rws, none⟩,
     ⟨fun n _ _ => Reg.CHAN_GRD_ICA_CFG_SPLIT n, .rws, none⟩,
     ⟨fun n _ _ => Reg.CHAN_GRD_ICA_CFG_TONES n, .rws, none⟩]⟩,
   ⟨0x10076004, [(2, 0x800), (64, 0x20), (4, 8)], .device,
    [⟨fun n m k => Reg.CHAN_GRD_LIM_LIMIT n m k, .rws, none⟩]⟩,
   ⟨0x10077400, [], .device,
    [⟨fun _ _ _ => Reg.CHAN_GRD_CTRL_REC_EN, .rw, none⟩]⟩,
   ⟨0x10077404, [], .device,
    [⟨fun _ _ _ => Reg.CHAN_GRD_STAT_REC_DROP, .w1c, none⟩,
     ⟨fun _ _ _ => Reg.CHAN_GRD_STAT_HIST_SAT, .w1c, none⟩,
     ⟨fun _ _ _ => Reg.CHAN_GRD_STAT_BUSY_EV, .w1c, none⟩]⟩,
   ⟨0x10077408, [(2, 4)], .device,
    [⟨fun n _ _ => Reg.CHAN_GRD_TBL_COUNT n, .rws, (some (0, 0x40))⟩]⟩,
   ⟨0x10077410, [], .device,
    [⟨fun _ _ _ => Reg.CHAN_GRD_REC_CNT_CNT, .ro, none⟩]⟩,
   ⟨0x10077414, [], .device,
    [⟨fun _ _ _ => Reg.CHAN_GRD_REC_DROP_CNT, .ro, none⟩]⟩,
   ⟨0x10077418, [], .device,
    [⟨fun _ _ _ => Reg.CHAN_GRD_BUSY_CNT_CNT, .ro, none⟩]⟩,
   ⟨0x10077800, [(256, 8)], .group,
    [⟨fun n _ _ => Reg.CHAN_GRD_ICA_V_V_LO n, .rws, none⟩]⟩,
   ⟨0x2030000, [(24, 0x40000)], .device,
    [⟨fun n _ _ => Reg.CHAN_ENG_CTRL_WRAP n, .rwl, none⟩,
     ⟨fun n _ _ => Reg.CHAN_ENG_CTRL_PEAK_CLR n, .wo, none⟩]⟩,
   ⟨0x2030004, [(24, 0x40000)], .device,
    [⟨fun n _ _ => Reg.CHAN_ENG_STAT_ACC_OV n, .w1c, none⟩,
     ⟨fun n _ _ => Reg.CHAN_ENG_STAT_RUNAWAY n, .w1c, none⟩,
     ⟨fun n _ _ => Reg.CHAN_ENG_STAT_MEM_VIOL n, .w1c, none⟩,
     ⟨fun n _ _ => Reg.CHAN_ENG_STAT_JRNL_FULL n, .w1c, none⟩,
     ⟨fun n _ _ => Reg.CHAN_ENG_STAT_SMP_OVR n, .w1c, none⟩,
     ⟨fun n _ _ => Reg.CHAN_ENG_STAT_ROLLBACK n, .w1c, none⟩,
     ⟨fun n _ _ => Reg.CHAN_ENG_STAT_FINISH_LATE n, .w1c, none⟩,
     ⟨fun n _ _ => Reg.CHAN_ENG_STAT_CONTROL_LATE n, .w1c, none⟩,
     ⟨fun n _ _ => Reg.CHAN_ENG_STAT_BANK n, .ro, none⟩]⟩,
   ⟨0x2030008, [(24, 0x40000)], .device,
    [⟨fun n _ _ => Reg.CHAN_ENG_OV_CH n, .ro, none⟩,
     ⟨fun n _ _ => Reg.CHAN_ENG_OV_KERNEL n, .ro, none⟩]⟩,
   ⟨0x203000C, [(24, 0x40000)], .device,
    [⟨fun n _ _ => Reg.CHAN_ENG_CYC_CNT n, .ro, none⟩]⟩,
   ⟨0x2030010, [(24, 0x40000)], .device,
    [⟨fun n _ _ => Reg.CHAN_ENG_LOAD_FINISH n, .ro, none⟩,
     ⟨fun n _ _ => Reg.CHAN_ENG_LOAD_CONTROL n, .ro, none⟩]⟩,
   ⟨0x2030014, [(24, 0x40000)], .device,
    [⟨fun n _ _ => Reg.CHAN_ENG_PEAK_FINISH n, .ro, none⟩,
     ⟨fun n _ _ => Reg.CHAN_ENG_PEAK_CONTROL n, .ro, none⟩]⟩,
   ⟨0x2030018, [(24, 0x40000)], .device,
    [⟨fun n _ _ => Reg.CHAN_ENG_SMP_LAST n, .ro, none⟩,
     ⟨fun n _ _ => Reg.CHAN_ENG_SMP_PEAK n, .ro, none⟩]⟩,
   ⟨0x203001C, [(24, 0x40000)], .device,
    [⟨fun n _ _ => Reg.CHAN_ENG_JRNL_LAST n, .ro, none⟩,
     ⟨fun n _ _ => Reg.CHAN_ENG_JRNL_PEAK n, .ro, none⟩]⟩,
   ⟨0x2030020, [(24, 0x40000)], .device,
    [⟨fun n _ _ => Reg.CHAN_ENG_VIOL_ADDR n, .ro, none⟩,
     ⟨fun n _ _ => Reg.CHAN_ENG_VIOL_SPACE n, .ro, none⟩,
     ⟨fun n _ _ => Reg.CHAN_ENG_VIOL_CH n, .ro, none⟩]⟩,
   ⟨0x2030024, [(24, 0x40000)], .device,
    [⟨fun n _ _ => Reg.CHAN_ENG_RUNAWAY_CNT_CNT n, .ro, none⟩]⟩]

/-- Registers of the CHAN block. -/
def regRowsChan3 : List RegRow :=
  [⟨0x2030028, [(24, 0x40000)], .device,
    [⟨fun n _ _ => Reg.CHAN_ENG_SMP_OVR_CNT_CNT n, .ro, none⟩]⟩,
   ⟨0x10075400, [], .device,
    [⟨fun _ _ _ => Reg.CHAN_ENG_SUM_ENG, .ro, none⟩]⟩,
   ⟨0x10075404, [], .device,
    [⟨fun _ _ _ => Reg.CHAN_ENG_LOCK_LOCK, .w1s, none⟩]⟩]

/-- Registers of the SEQ block. -/
def regRowsSeq : List RegRow :=
  [⟨0x10078000, [], .device,
    [⟨fun _ _ _ => Reg.SEQ_CMD_CMD, .wo, none⟩,
     ⟨fun _ _ _ => Reg.SEQ_CMD_SEL, .rw, none⟩,
     ⟨fun _ _ _ => Reg.SEQ_CMD_START_STEP, .rw, none⟩]⟩,
   ⟨0x10078008, [], .device,
    [⟨fun _ _ _ => Reg.SEQ_STAT_CMD_PEND, .ro, none⟩,
     ⟨fun _ _ _ => Reg.SEQ_STAT_CMD_DONE, .w1c, none⟩,
     ⟨fun _ _ _ => Reg.SEQ_STAT_CMD_SKIP, .w1c, none⟩,
     ⟨fun _ _ _ => Reg.SEQ_STAT_LOAD_BUSY, .ro, none⟩,
     ⟨fun _ _ _ => Reg.SEQ_STAT_LOAD_DONE, .w1c, none⟩,
     ⟨fun _ _ _ => Reg.SEQ_STAT_LOAD_ERR, .w1c, none⟩,
     ⟨fun _ _ _ => Reg.SEQ_STAT_CTRL_DISC, .w1c, none⟩,
     ⟨fun _ _ _ => Reg.SEQ_STAT_BAR_TO, .w1c, none⟩,
     ⟨fun _ _ _ => Reg.SEQ_STAT_SKIP_CNT, .ro, none⟩]⟩,
   ⟨0x10078400, [(256, 4)], .group,
    [⟨fun n _ _ => Reg.SEQ_CFG_CONFIRM n, .rws, (some (1, 0xF))⟩,
     ⟨fun n _ _ => Reg.SEQ_CFG_DVDT_W n, .rws, (some (1, 7))⟩]⟩,
   ⟨0x10078004, [], .device,
    [⟨fun _ _ _ => Reg.SEQ_CMD_SET_FIRST, .rw, none⟩,
     ⟨fun _ _ _ => Reg.SEQ_CMD_SET_NUM, .rw, (some (1, 0x1000))⟩]⟩,
   ⟨0x1007800C, [], .device,
    [⟨fun _ _ _ => Reg.SEQ_CMD_ERR_CH, .ro, none⟩,
     ⟨fun _ _ _ => Reg.SEQ_CMD_ERR_REASON, .ro, none⟩]⟩,
   ⟨0x10078010, [], .device,
    [⟨fun _ _ _ => Reg.SEQ_LOAD_CTRL_CMD, .wo, none⟩,
     ⟨fun _ _ _ => Reg.SEQ_LOAD_CTRL_SLOT, .rw, none⟩]⟩,
   ⟨0x10078014, [], .device,
    [⟨fun _ _ _ => Reg.SEQ_LOAD_SRC_LO_ADDR, .rw, none⟩]⟩,
   ⟨0x10078018, [], .device,
    [⟨fun _ _ _ => Reg.SEQ_LOAD_SRC_HI_ADDR, .rw, none⟩]⟩,
   ⟨0x1007801C, [], .device,
    [⟨fun _ _ _ => Reg.SEQ_LOAD_LEN_LEN, .rw, (some (0x40, 0x8020))⟩]⟩,
   ⟨0x10078020, [], .device,
    [⟨fun _ _ _ => Reg.SEQ_LOAD_ERR_CODE, .ro, none⟩,
     ⟨fun _ _ _ => Reg.SEQ_LOAD_ERR_SLOT, .ro, none⟩,
     ⟨fun _ _ _ => Reg.SEQ_LOAD_ERR_OFFSET, .ro, none⟩]⟩,
   ⟨0x10078024, [], .device,
    [⟨fun _ _ _ => Reg.SEQ_SLOT_VALID_LO_SLOTS, .ro, none⟩]⟩,
   ⟨0x10078028, [], .device,
    [⟨fun _ _ _ => Reg.SEQ_SLOT_VALID_HI_SLOTS, .ro, none⟩]⟩,
   ⟨0x1007802C, [], .device,
    [⟨fun _ _ _ => Reg.SEQ_BAR_TO_CNT_CNT, .ro, none⟩]⟩,
   ⟨0x10078100, [(64, 4)], .device,
    [⟨fun n _ _ => Reg.SEQ_SLOT_INFO_NSTEPS n, .ro, none⟩,
     ⟨fun n _ _ => Reg.SEQ_SLOT_INFO_USERS n, .ro, none⟩]⟩,
   ⟨0x10078200, [(64, 4)], .device,
    [⟨fun n _ _ => Reg.SEQ_SLOT_ID_PROG_ID n, .ro, none⟩]⟩,
   ⟨0x10078800, [(16, 4)], .device,
    [⟨fun n _ _ => Reg.SEQ_LBAR_EXPECT n, .rws, (some (0, 0x4000))⟩,
     ⟨fun n _ _ => Reg.SEQ_LBAR_GEN n, .ro, none⟩,
     ⟨fun n _ _ => Reg.SEQ_LBAR_LOCAL n, .ro, none⟩,
     ⟨fun n _ _ => Reg.SEQ_LBAR_REL n, .w1c, none⟩]⟩]

/-- Registers of the NET block. -/
def regRowsNet1 : List RegRow :=
  [⟨0x10090000, [], .device,
    [⟨fun _ _ _ => Reg.NET_CTRL_TRIP_CLR, .wo, none⟩,
     ⟨fun _ _ _ => Reg.NET_CTRL_TEST_NOW, .wo, none⟩,
     ⟨fun _ _ _ => Reg.NET_CTRL_XCH_EN, .rws, none⟩]⟩,
   ⟨0x10090004, [], .device,
    [⟨fun _ _ _ => Reg.NET_STAT_LEVEL, .ro, none⟩,
     ⟨fun _ _ _ => Reg.NET_STAT_CHOP_ON, .ro, none⟩,
     ⟨fun _ _ _ => Reg.NET_STAT_CHOP_FAULT, .ro, none⟩,
     ⟨fun _ _ _ => Reg.NET_STAT_UNTESTED, .ro, none⟩,
     ⟨fun _ _ _ => Reg.NET_STAT_TRIP_SENSE, .ro, none⟩,
     ⟨fun _ _ _ => Reg.NET_STAT_WARN_EV, .w1c, none⟩,
     ⟨fun _ _ _ => Reg.NET_STAT_CURB_EV, .w1c, none⟩,
     ⟨fun _ _ _ => Reg.NET_STAT_TRIP_EV, .w1c, none⟩,
     ⟨fun _ _ _ => Reg.NET_STAT_TEST_FAIL, .w1c, none⟩,
     ⟨fun _ _ _ => Reg.NET_STAT_TEST_PASS, .w1c, none⟩,
     ⟨fun _ _ _ => Reg.NET_STAT_SENSE_EV, .w1c, none⟩,
     ⟨fun _ _ _ => Reg.NET_STAT_LOW_EV, .w1c, none⟩,
     ⟨fun _ _ _ => Reg.NET_STAT_XCH_MISS, .w1c, none⟩]⟩,
   ⟨0x10090008, [], .device,
    [⟨fun _ _ _ => Reg.NET_BUS_MV_SAMPLE, .ro, none⟩]⟩,
   ⟨0x1009000C, [], .device,
    [⟨fun _ _ _ => Reg.NET_BUS_MEAN_MEAN, .ro, none⟩]⟩,
   ⟨0x10090010, [], .device,
    [⟨fun _ _ _ => Reg.NET_SENSE_AIN, .rwl, none⟩,
     ⟨fun _ _ _ => Reg.NET_SENSE_SCALE, .rwl, none⟩]⟩,
   ⟨0x10090014, [], .device,
    [⟨fun _ _ _ => Reg.NET_THR_WARN_MV, .rws, none⟩]⟩,
   ⟨0x10090018, [], .device,
    [⟨fun _ _ _ => Reg.NET_THR_CURB_MV, .rws, none⟩]⟩,
   ⟨0x1009001C, [], .device,
    [⟨fun _ _ _ => Reg.NET_THR_TRIP_MV, .rws, none⟩]⟩,
   ⟨0x10090020, [], .device,
    [⟨fun _ _ _ => Reg.NET_THR_CHOP_ON_MV, .rws, none⟩]⟩,
   ⟨0x10090024, [], .device,
    [⟨fun _ _ _ => Reg.NET_THR_CHOP_OFF_MV, .rws, none⟩]⟩,
   ⟨0x10090028, [], .device,
    [⟨fun _ _ _ => Reg.NET_THR_LOW_MV, .rws, none⟩]⟩,
   ⟨0x1009002C, [], .device,
    [⟨fun _ _ _ => Reg.NET_HYST_MV, .rws, (some (0x64, 0x4E20))⟩]⟩,
   ⟨0x10090030, [], .device,
    [⟨fun _ _ _ => Reg.NET_CURB_MARGIN_MV, .rws, none⟩]⟩,
   ⟨0x10090034, [], .device,
    [⟨fun _ _ _ => Reg.NET_EXPORT_MAX_W, .rws, none⟩]⟩,
   ⟨0x10090038, [], .device,
    [⟨fun _ _ _ => Reg.NET_EFF_ETA_C, .rws, (some (0x8000, 0xFFFF))⟩,
     ⟨fun _ _ _ => Reg.NET_EFF_ETA_D, .rws, (some (0x8000, 0xFFFF))⟩]⟩,
   ⟨0x1009003C, [], .device,
    [⟨fun _ _ _ => Reg.NET_WARN_PCT_PCT, .rws, (some (0, 0x64))⟩]⟩,
   ⟨0x10090040, [], .device,
    [⟨fun _ _ _ => Reg.NET_TEST_TIME_TEST_US, .rws, (some (0x14, 0x1F4))⟩]⟩,
   ⟨0x10090044, [], .device,
    [⟨fun _ _ _ => Reg.NET_TEST_DV_DV_MIN, .rws, none⟩,
     ⟨fun _ _ _ => Reg.NET_TEST_DV_DV_MAX, .rws, none⟩]⟩,
   ⟨0x10090048, [], .device,
    [⟨fun _ _ _ => Reg.NET_TEST_VMIN_MV, .rws, none⟩]⟩,
   ⟨0x1009004C, [], .device,
    [⟨fun _ _ _ => Reg.NET_TEST_RES_DELTA, .ro, none⟩,
     ⟨fun _ _ _ => Reg.NET_TEST_RES_RESULT, .ro, none⟩]⟩]

/-- Registers of the NET block. -/
def regRowsNet2 : List RegRow :=
  [⟨0x10090050, [], .device,
    [⟨fun _ _ _ => Reg.NET_XCFG_DOMAIN, .rws, none⟩,
     ⟨fun _ _ _ => Reg.NET_XCFG_MEMBERS, .rws, (some (1, 0x40))⟩,
     ⟨fun _ _ _ => Reg.NET_XCFG_MARGIN, .rws, (some (0, 0x32))⟩]⟩,
   ⟨0x10090054, [], .device,
    [⟨fun _ _ _ => Reg.NET_P_CHG_W, .ro, none⟩]⟩,
   ⟨0x10090058, [], .device,
    [⟨fun _ _ _ => Reg.NET_P_DIS_W, .ro, none⟩]⟩,
   ⟨0x1009005C, [], .device,
    [⟨fun _ _ _ => Reg.NET_FACTOR_F, .ro, none⟩]⟩,
   ⟨0x10090060, [], .device,
    [⟨fun _ _ _ => Reg.NET_GRANT_W, .ro, none⟩]⟩,
   ⟨0x10090064, [], .device,
    [⟨fun _ _ _ => Reg.NET_PUB_SURP_W, .ro, none⟩]⟩,
   ⟨0x10090068, [], .device,
    [⟨fun _ _ _ => Reg.NET_PUB_DEF_W, .ro, none⟩]⟩,
   ⟨0x1009006C, [], .device,
    [⟨fun _ _ _ => Reg.NET_CNT_TRIPS, .ro, none⟩,
     ⟨fun _ _ _ => Reg.NET_CNT_FAILS, .ro, none⟩]⟩,
   ⟨0x10090070, [], .device,
    [⟨fun _ _ _ => Reg.NET_LOCK_LOCK, .w1s, none⟩]⟩]

/-- Registers of the SERAC block. -/
def regRowsSerac : List RegRow :=
  [⟨0x10080000, [], .device,
    [⟨fun _ _ _ => Reg.SERAC_CTRL_FIRE_CLR, .wo, none⟩,
     ⟨fun _ _ _ => Reg.SERAC_CTRL_INJ_GO, .wo, none⟩]⟩,
   ⟨0x10080004, [], .device,
    [⟨fun _ _ _ => Reg.SERAC_STAT_TRIP_EV, .w1c, none⟩,
     ⟨fun _ _ _ => Reg.SERAC_STAT_DIS_EV, .w1c, none⟩,
     ⟨fun _ _ _ => Reg.SERAC_STAT_ESC_EV, .w1c, none⟩,
     ⟨fun _ _ _ => Reg.SERAC_STAT_FIRE, .ro, none⟩,
     ⟨fun _ _ _ => Reg.SERAC_STAT_FIRE_EV, .w1c, none⟩,
     ⟨fun _ _ _ => Reg.SERAC_STAT_LATE_EV, .w1c, none⟩,
     ⟨fun _ _ _ => Reg.SERAC_STAT_CMD_PEND, .ro, none⟩,
     ⟨fun _ _ _ => Reg.SERAC_STAT_CMD_SKIP, .w1c, none⟩,
     ⟨fun _ _ _ => Reg.SERAC_STAT_INJ_PASS, .w1c, none⟩,
     ⟨fun _ _ _ => Reg.SERAC_STAT_INJ_FAIL, .w1c, none⟩]⟩,
   ⟨0x10080008, [], .device,
    [⟨fun _ _ _ => Reg.SERAC_CMD_CMD, .wo, none⟩,
     ⟨fun _ _ _ => Reg.SERAC_CMD_SEL, .rw, none⟩]⟩,
   ⟨0x1008000C, [], .device,
    [⟨fun _ _ _ => Reg.SERAC_CMD_SET_FIRST, .rw, none⟩,
     ⟨fun _ _ _ => Reg.SERAC_CMD_SET_NUM, .rw, (some (1, 0x1000))⟩]⟩,
   ⟨0x10080010, [], .device,
    [⟨fun _ _ _ => Reg.SERAC_CMD_ERR_CH, .ro, none⟩,
     ⟨fun _ _ _ => Reg.SERAC_CMD_ERR_REASON, .ro, none⟩]⟩,
   ⟨0x10080014, [], .device,
    [⟨fun _ _ _ => Reg.SERAC_SKIP_CNT, .ro, none⟩]⟩,
   ⟨0x10080018, [], .device,
    [⟨fun _ _ _ => Reg.SERAC_DIS_CFG_DIS_N, .rwl, (some (1, 0xFF))⟩,
     ⟨fun _ _ _ => Reg.SERAC_DIS_CFG_DIS_W, .rwl, (some (0x14, 0x13FD30))⟩]⟩,
   ⟨0x1008001C, [], .device,
    [⟨fun _ _ _ => Reg.SERAC_QUENCH_ZQ, .ro, none⟩,
     ⟨fun _ _ _ => Reg.SERAC_QUENCH_BQ, .ro, none⟩]⟩,
   ⟨0x10080020, [], .device,
    [⟨fun _ _ _ => Reg.SERAC_FIRE_ZONES_ZONES, .ro, none⟩]⟩,
   ⟨0x10080024, [], .device,
    [⟨fun _ _ _ => Reg.SERAC_TRIP_CNT_CNT, .ro, none⟩]⟩,
   ⟨0x10080028, [], .device,
    [⟨fun _ _ _ => Reg.SERAC_DIS_CNT_TICKS, .ro, none⟩,
     ⟨fun _ _ _ => Reg.SERAC_DIS_CNT_ESC, .ro, none⟩]⟩,
   ⟨0x1008002C, [], .device,
    [⟨fun _ _ _ => Reg.SERAC_DIS_LAST_CH, .ro, none⟩,
     ⟨fun _ _ _ => Reg.SERAC_DIS_LAST_DIFF, .ro, none⟩]⟩,
   ⟨0x10080030, [], .device,
    [⟨fun _ _ _ => Reg.SERAC_INJ_CH, .rw, none⟩,
     ⟨fun _ _ _ => Reg.SERAC_INJ_PLANE, .rw, none⟩]⟩,
   ⟨0x10080034, [], .device,
    [⟨fun _ _ _ => Reg.SERAC_LOCK_LOCK, .w1s, none⟩]⟩,
   ⟨0x10080100, [(128, 4)], .device,
    [⟨fun n _ _ => Reg.SERAC_TRIP_SUM_CH n, .ro, none⟩]⟩,
   ⟨0x10080300, [(16, 4)], .device,
    [⟨fun n _ _ => Reg.SERAC_ZONE_DIS_CNT n, .ro, none⟩]⟩]

/-- Registers of the TRI block. -/
def regRowsTri1 : List RegRow :=
  [⟨0x10030000, [], .device,
    [⟨fun _ _ _ => Reg.TRI_CTRL_REINT_EN, .rwl, none⟩,
     ⟨fun _ _ _ => Reg.TRI_CTRL_MISM_CLR, .wo, none⟩]⟩,
   ⟨0x10030004, [], .device,
    [⟨fun _ _ _ => Reg.TRI_STAT_CONFIG, .ro, none⟩,
     ⟨fun _ _ _ => Reg.TRI_STAT_FENCED, .ro, none⟩,
     ⟨fun _ _ _ => Reg.TRI_STAT_CALVE_DENIED, .ro, none⟩,
     ⟨fun _ _ _ => Reg.TRI_STAT_STRAP, .ro, none⟩,
     ⟨fun _ _ _ => Reg.TRI_STAT_PERMIT, .ro, none⟩,
     ⟨fun _ _ _ => Reg.TRI_STAT_REINT_BUSY, .ro, none⟩,
     ⟨fun _ _ _ => Reg.TRI_STAT_MISM_EV, .w1c, none⟩,
     ⟨fun _ _ _ => Reg.TRI_STAT_REINT_EV, .w1c, none⟩,
     ⟨fun _ _ _ => Reg.TRI_STAT_REINT_FAIL, .w1c, none⟩,
     ⟨fun _ _ _ => Reg.TRI_STAT_MPU_EV, .w1c, none⟩,
     ⟨fun _ _ _ => Reg.TRI_STAT_WDOG_EV, .w1c, none⟩,
     ⟨fun _ _ _ => Reg.TRI_STAT_TCM_UE_EV, .w1c, none⟩]⟩,
   ⟨0x10030104, [(16, 8)], .device,
    [⟨fun n _ _ => Reg.TRI_MPU_ATTR_SIZE n, .rwl, (some (0xC, 0x20))⟩,
     ⟨fun n _ _ => Reg.TRI_MPU_ATTR_SR n, .rwl, none⟩,
     ⟨fun n _ _ => Reg.TRI_MPU_ATTR_SW n, .rwl, none⟩,
     ⟨fun n _ _ => Reg.TRI_MPU_ATTR_SX n, .rwl, none⟩,
     ⟨fun n _ _ => Reg.TRI_MPU_ATTR_UR n, .rwl, none⟩,
     ⟨fun n _ _ => Reg.TRI_MPU_ATTR_UW n, .rwl, none⟩,
     ⟨fun n _ _ => Reg.TRI_MPU_ATTR_UX n, .rwl, none⟩,
     ⟨fun n _ _ => Reg.TRI_MPU_ATTR_HOSTW n, .rwl, none⟩]⟩,
   ⟨0x10030008, [], .device,
    [⟨fun _ _ _ => Reg.TRI_MISM_LAST_CORE, .ro, none⟩,
     ⟨fun _ _ _ => Reg.TRI_MISM_LAST_KIND, .ro, none⟩]⟩,
   ⟨0x1003000C, [], .device,
    [⟨fun _ _ _ => Reg.TRI_MISM_ADDR_ADDR, .ro, none⟩]⟩,
   ⟨0x10030010, [], .device,
    [⟨fun _ _ _ => Reg.TRI_MISM_CNT_CNT, .ro, none⟩]⟩,
   ⟨0x10030014, [], .device,
    [⟨fun _ _ _ => Reg.TRI_REINT_CNT_CNT, .ro, none⟩]⟩,
   ⟨0x10030018, [], .device,
    [⟨fun _ _ _ => Reg.TRI_REINT_CFG_DELAY, .rwl, (some (1, 0xFF))⟩]⟩,
   ⟨0x1003001C, [], .device,
    [⟨fun _ _ _ => Reg.TRI_WDOG_CFG_PERIOD, .rwl, none⟩]⟩,
   ⟨0x10030020, [], .device,
    [⟨fun _ _ _ => Reg.TRI_WDOG_KICK_KEY, .wo, none⟩]⟩,
   ⟨0x10030024, [], .device,
    [⟨fun _ _ _ => Reg.TRI_TCM_ECC_CNT, .ro, none⟩]⟩,
   ⟨0x10030028, [], .device,
    [⟨fun _ _ _ => Reg.TRI_TCM_UE_ADDR_ADDR, .ro, none⟩]⟩,
   ⟨0x1003002C, [], .device,
    [⟨fun _ _ _ => Reg.TRI_SCRUB_EN, .rwl, none⟩,
     ⟨fun _ _ _ => Reg.TRI_SCRUB_PASS, .ro, none⟩]⟩,
   ⟨0x10030030, [], .device,
    [⟨fun _ _ _ => Reg.TRI_MPU_VADDR_ADDR, .ro, none⟩]⟩,
   ⟨0x10030034, [], .device,
    [⟨fun _ _ _ => Reg.TRI_MPU_VINFO_CORE, .ro, none⟩,
     ⟨fun _ _ _ => Reg.TRI_MPU_VINFO_TYPE, .ro, none⟩]⟩,
   ⟨0x10030044, [(2, 4)], .device,
    [⟨fun n _ _ => Reg.TRI_CALVE_ENTRY_ADDR n, .rw, none⟩]⟩,
   ⟨0x1003004C, [], .device,
    [⟨fun _ _ _ => Reg.TRI_CALVE_START_CORES, .wo, none⟩]⟩,
   ⟨0x10030050, [], .device,
    [⟨fun _ _ _ => Reg.TRI_DBG_CTRL_HALT, .wo, none⟩,
     ⟨fun _ _ _ => Reg.TRI_DBG_CTRL_RESUME, .wo, none⟩,
     ⟨fun _ _ _ => Reg.TRI_DBG_CTRL_STEP, .wo, none⟩]⟩,
   ⟨0x10030054, [], .device,
    [⟨fun _ _ _ => Reg.TRI_DBG_STAT_HALTED, .ro, none⟩,
     ⟨fun _ _ _ => Reg.TRI_DBG_STAT_REFUSED, .w1c, none⟩,
     ⟨fun _ _ _ => Reg.TRI_DBG_STAT_NO_CORE0, .ro, none⟩,
     ⟨fun _ _ _ => Reg.TRI_DBG_STAT_REPLAY_ERR, .w1c, none⟩]⟩,
   ⟨0x10030058, [], .device,
    [⟨fun _ _ _ => Reg.TRI_DBG_REG_SEL_REG, .rw, none⟩]⟩]

/-- Registers of the TRI block. -/
def regRowsTri2 : List RegRow :=
  [⟨0x1003005C, [], .device,
    [⟨fun _ _ _ => Reg.TRI_DBG_REG_DATA_DATA, .rw, none⟩]⟩,
   ⟨0x10030060, [], .device,
    [⟨fun _ _ _ => Reg.TRI_LOCK_LOCK, .w1s, none⟩]⟩,
   ⟨0x10030100, [(16, 8)], .device,
    [⟨fun n _ _ => Reg.TRI_MPU_BASE_EN n, .rwl, none⟩,
     ⟨fun n _ _ => Reg.TRI_MPU_BASE_BASE n, .rwl, none⟩]⟩]

/-- Registers of the MOR block. -/
def regRowsMor1 : List RegRow :=
  [⟨0x10020000, [], .device,
    [⟨fun _ _ _ => Reg.MOR_CTRL_FAULT_REL, .wo, none⟩,
     ⟨fun _ _ _ => Reg.MOR_CTRL_FAULT_HOLD, .wo, none⟩,
     ⟨fun _ _ _ => Reg.MOR_CTRL_FAULT_CLASS, .rws, (some (1, 3))⟩]⟩,
   ⟨0x10020004, [], .device,
    [⟨fun _ _ _ => Reg.MOR_STAT_FAULT, .ro, none⟩,
     ⟨fun _ _ _ => Reg.MOR_STAT_PULSE, .ro, none⟩,
     ⟨fun _ _ _ => Reg.MOR_STAT_SAFE, .ro, none⟩,
     ⟨fun _ _ _ => Reg.MOR_STAT_ICE_BUSY, .ro, none⟩,
     ⟨fun _ _ _ => Reg.MOR_STAT_ICE_STEP, .ro, none⟩,
     ⟨fun _ _ _ => Reg.MOR_STAT_CFG_PARITY, .ro, none⟩,
     ⟨fun _ _ _ => Reg.MOR_STAT_IRQ_EV, .w1c, none⟩,
     ⟨fun _ _ _ => Reg.MOR_STAT_LOG_DROP, .w1c, none⟩,
     ⟨fun _ _ _ => Reg.MOR_STAT_UNFENCE_REF, .w1c, none⟩]⟩,
   ⟨0x10021000, [(384, 8)], .device,
    [⟨fun n _ _ => Reg.MOR_SRC_CFG_CLASS n, .rws, none⟩,
     ⟨fun n _ _ => Reg.MOR_SRC_CFG_REACT n, .rws, none⟩,
     ⟨fun n _ _ => Reg.MOR_SRC_CFG_REACT_ESC n, .rws, none⟩,
     ⟨fun n _ _ => Reg.MOR_SRC_CFG_N n, .rws, (some (1, 0xFF))⟩,
     ⟨fun n _ _ => Reg.MOR_SRC_CFG_SHADOW n, .rws, none⟩,
     ⟨fun n _ _ => Reg.MOR_SRC_CFG_UTYPE n, .ro, none⟩,
     ⟨fun n _ _ => Reg.MOR_SRC_CFG_FIXED n, .ro, none⟩]⟩,
   ⟨0x10020008, [], .device,
    [⟨fun _ _ _ => Reg.MOR_LAST_SRC, .ro, none⟩,
     ⟨fun _ _ _ => Reg.MOR_LAST_CLASS, .ro, none⟩,
     ⟨fun _ _ _ => Reg.MOR_LAST_REACT, .ro, none⟩,
     ⟨fun _ _ _ => Reg.MOR_LAST_UTYPE, .ro, none⟩,
     ⟨fun _ _ _ => Reg.MOR_LAST_UINDEX, .ro, none⟩]⟩,
   ⟨0x1002000C, [], .device,
    [⟨fun _ _ _ => Reg.MOR_EVT_CNT_CNT, .ro, none⟩]⟩,
   ⟨0x10020010, [], .device,
    [⟨fun _ _ _ => Reg.MOR_CONSEQ_CNT_CNT, .ro, none⟩]⟩,
   ⟨0x10020014, [], .device,
    [⟨fun _ _ _ => Reg.MOR_SAFE_SRC_SRC, .ro, none⟩]⟩,
   ⟨0x10020018, [], .device,
    [⟨fun _ _ _ => Reg.MOR_ICE_CFG_BRAKE_MS, .rws, (some (0xA, 0x7D0))⟩]⟩,
   ⟨0x10020020, [], .device,
    [⟨fun _ _ _ => Reg.MOR_INJ_SRC, .rws, none⟩,
     ⟨fun _ _ _ => Reg.MOR_INJ_UTYPE, .rws, none⟩,
     ⟨fun _ _ _ => Reg.MOR_INJ_UINDEX, .rws, none⟩,
     ⟨fun _ _ _ => Reg.MOR_INJ_GO, .wo, none⟩]⟩,
   ⟨0x10020024, [], .device,
    [⟨fun _ _ _ => Reg.MOR_RAISE_SW, .rw, none⟩,
     ⟨fun _ _ _ => Reg.MOR_RAISE_UTYPE, .rw, none⟩,
     ⟨fun _ _ _ => Reg.MOR_RAISE_UINDEX, .rw, none⟩,
     ⟨fun _ _ _ => Reg.MOR_RAISE_GO, .wo, none⟩]⟩,
   ⟨0x10020028, [], .device,
    [⟨fun _ _ _ => Reg.MOR_RAISE_DATA_DATA, .rw, none⟩]⟩,
   ⟨0x1002002C, [], .device,
    [⟨fun _ _ _ => Reg.MOR_UNFENCE_UTYPE, .rw, none⟩,
     ⟨fun _ _ _ => Reg.MOR_UNFENCE_UINDEX, .rw, none⟩,
     ⟨fun _ _ _ => Reg.MOR_UNFENCE_GO, .wo, none⟩]⟩,
   ⟨0x10020030, [], .device,
    [⟨fun _ _ _ => Reg.MOR_LOG_RD_RD, .rw, none⟩]⟩,
   ⟨0x10020034, [], .device,
    [⟨fun _ _ _ => Reg.MOR_LOG_WRITTEN_CNT, .ro, none⟩]⟩,
   ⟨0x10020038, [], .device,
    [⟨fun _ _ _ => Reg.MOR_LOG_LOST_CNT, .ro, none⟩]⟩,
   ⟨0x1002003C, [], .device,
    [⟨fun _ _ _ => Reg.MOR_LOG_DROPPED_CNT, .ro, none⟩]⟩,
   ⟨0x10020080, [(12, 4)], .device,
    [⟨fun n _ _ => Reg.MOR_PEND_SRC n, .w1c, none⟩]⟩,
   ⟨0x100200C0, [(12, 4)], .device,
    [⟨fun n _ _ => Reg.MOR_ESC_SRC n, .ro, none⟩]⟩,
   ⟨0x10020100, [(8, 4)], .device,
    [⟨fun n _ _ => Reg.MOR_FENCED_GRP_UNITS n, .ro, none⟩]⟩,
   ⟨0x10020120, [(4, 4)], .device,
    [⟨fun n _ _ => Reg.MOR_FENCED_PORT_UNITS n, .ro, none⟩]⟩]

/-- Registers of the MOR block. -/
def regRowsMor2 : List RegRow :=
  [⟨0x10020130, [(4, 4)], .device,
    [⟨fun n _ _ => Reg.MOR_FENCED_BRICK_UNITS n, .ro, none⟩]⟩,
   ⟨0x10020140, [], .device,
    [⟨fun _ _ _ => Reg.MOR_FENCED_ENG_UNITS, .ro, none⟩]⟩,
   ⟨0x10020144, [], .device,
    [⟨fun _ _ _ => Reg.MOR_FENCED_MISC_ZONES, .ro, none⟩,
     ⟨fun _ _ _ => Reg.MOR_FENCED_MISC_RIME, .ro, none⟩,
     ⟨fun _ _ _ => Reg.MOR_FENCED_MISC_CORES, .ro, none⟩]⟩,
   ⟨0x10020200, [(128, 4)], .device,
    [⟨fun n _ _ => Reg.MOR_FENCED_CH_UNITS n, .ro, none⟩]⟩,
   ⟨0x10021004, [(384, 8)], .device,
    [⟨fun n _ _ => Reg.MOR_SRC_WIN_W_MS n, .rws, (some (1, 0xFFFF))⟩]⟩]

/-- Registers of the RIMEL block. -/
def regRowsRimel1 : List RegRow :=
  [⟨0x100A0000, [], .device,
    [⟨fun _ _ _ => Reg.RIMEL_CTRL_EN, .rw, none⟩,
     ⟨fun _ _ _ => Reg.RIMEL_CTRL_RESTART, .wo, none⟩,
     ⟨fun _ _ _ => Reg.RIMEL_CTRL_AUTH_REQ, .rwl, none⟩,
     ⟨fun _ _ _ => Reg.RIMEL_CTRL_VER, .rwl, (some (1, 2))⟩]⟩,
   ⟨0x100A0004, [], .device,
    [⟨fun _ _ _ => Reg.RIMEL_STAT_CSTATE, .ro, none⟩,
     ⟨fun _ _ _ => Reg.RIMEL_STAT_RSTATE, .ro, none⟩,
     ⟨fun _ _ _ => Reg.RIMEL_STAT_GRD_BLOCKED, .ro, none⟩,
     ⟨fun _ _ _ => Reg.RIMEL_STAT_GCLK_FAIL, .ro, none⟩,
     ⟨fun _ _ _ => Reg.RIMEL_STAT_CS_EXHAUST, .ro, none⟩,
     ⟨fun _ _ _ => Reg.RIMEL_STAT_SYNC_LOSS_EV, .w1c, none⟩,
     ⟨fun _ _ _ => Reg.RIMEL_STAT_CS_ABORT_EV, .w1c, none⟩,
     ⟨fun _ _ _ => Reg.RIMEL_STAT_COLLISION_EV, .w1c, none⟩,
     ⟨fun _ _ _ => Reg.RIMEL_STAT_CH_A_FAIL, .w1c, none⟩,
     ⟨fun _ _ _ => Reg.RIMEL_STAT_CH_B_FAIL, .w1c, none⟩,
     ⟨fun _ _ _ => Reg.RIMEL_STAT_TRUNC_EV, .w1c, none⟩]⟩,
   ⟨0x100A0008, [], .device,
    [⟨fun _ _ _ => Reg.RIMEL_NODE_NODE, .rwl, none⟩,
     ⟨fun _ _ _ => Reg.RIMEL_NODE_SEG, .rwl, none⟩,
     ⟨fun _ _ _ => Reg.RIMEL_NODE_RANK, .rwl, none⟩,
     ⟨fun _ _ _ => Reg.RIMEL_NODE_COLD, .rwl, none⟩]⟩,
   ⟨0x100A000C, [], .device,
    [⟨fun _ _ _ => Reg.RIMEL_CS_CS_MAX, .rwl, (some (1, 0xF))⟩,
     ⟨fun _ _ _ => Reg.RIMEL_CS_ATTEMPTS, .ro, none⟩]⟩,
   ⟨0x100A0010, [], .device,
    [⟨fun _ _ _ => Reg.RIMEL_RXDLY_A_NS, .rwl, (some (0, 0x7D0))⟩,
     ⟨fun _ _ _ => Reg.RIMEL_RXDLY_B_NS, .rwl, (some (0, 0x7D0))⟩]⟩,
   ⟨0x100A0014, [], .device,
    [⟨fun _ _ _ => Reg.RIMEL_LINE_ID_ID, .rwl, none⟩]⟩,
   ⟨0x100A0018, [(4, 4)], .device,
    [⟨fun n _ _ => Reg.RIMEL_KEY_KEY n, .wo, none⟩]⟩,
   ⟨0x100A0028, [], .device,
    [⟨fun _ _ _ => Reg.RIMEL_KEY_STAT_VALID, .ro, none⟩]⟩,
   ⟨0x100A002C, [], .device,
    [⟨fun _ _ _ => Reg.RIMEL_CYCLE_CYC, .ro, none⟩,
     ⟨fun _ _ _ => Reg.RIMEL_CYCLE_MODE, .ro, none⟩]⟩,
   ⟨0x100A0030, [], .device,
    [⟨fun _ _ _ => Reg.RIMEL_SEEN_LO_NODES, .ro, none⟩]⟩,
   ⟨0x100A0034, [], .device,
    [⟨fun _ _ _ => Reg.RIMEL_SEEN_HI_NODES, .ro, none⟩]⟩,
   ⟨0x100A0040, [(2, 4)], .device,
    [⟨fun n _ _ => Reg.RIMEL_CNT_OK_CNT n, .ro, none⟩]⟩,
   ⟨0x100A0048, [(2, 4)], .device,
    [⟨fun n _ _ => Reg.RIMEL_CNT_CRC_CNT n, .ro, none⟩]⟩,
   ⟨0x100A0050, [(2, 4)], .device,
    [⟨fun n _ _ => Reg.RIMEL_CNT_TIME_CNT n, .ro, none⟩]⟩,
   ⟨0x100A0058, [], .device,
    [⟨fun _ _ _ => Reg.RIMEL_CNT_AUTH_CNT, .ro, none⟩]⟩,
   ⟨0x100A005C, [], .device,
    [⟨fun _ _ _ => Reg.RIMEL_CNT_DIFF_CNT, .ro, none⟩]⟩,
   ⟨0x100A0060, [], .device,
    [⟨fun _ _ _ => Reg.RIMEL_GRD_CORR, .ro, none⟩,
     ⟨fun _ _ _ => Reg.RIMEL_GRD_TRUNC, .ro, none⟩]⟩,
   ⟨0x100A0064, [], .device,
    [⟨fun _ _ _ => Reg.RIMEL_LOSS_CNT, .ro, none⟩,
     ⟨fun _ _ _ => Reg.RIMEL_LOSS_CAUSE, .ro, none⟩]⟩,
   ⟨0x100A0068, [], .device,
    [⟨fun _ _ _ => Reg.RIMEL_LOCK_LOCK, .w1s, none⟩]⟩,
   ⟨0x100A0080, [(12, 4)], .device,
    [⟨fun n _ _ => Reg.RIMEL_TXDATA_DATA n, .rw, none⟩]⟩]

/-- Registers of the RIMEL block. -/
def regRowsRimel2 : List RegRow :=
  [⟨0x100A0100, [(64, 4)], .device,
    [⟨fun n _ _ => Reg.RIMEL_TXLEN_LEN n, .rw, (some (0, 0x70))⟩]⟩,
   ⟨0x100A1000, [(64, 0x80), (28, 4)], .device,
    [⟨fun n m _ => Reg.RIMEL_TXBUF_DATA n m, .rw, none⟩]⟩,
   ⟨0x100A4000, [(64, 0x80), (32, 4)], .device,
    [⟨fun n m _ => Reg.RIMEL_RXBUF_DATA n m, .ro, none⟩]⟩]

/-- Registers of the RIMET block. -/
def regRowsRimet : List RegRow :=
  [⟨0x100B0030, [], .device,
    [⟨fun _ _ _ => Reg.RIMET_MC_MODE, .rw, none⟩,
     ⟨fun _ _ _ => Reg.RIMET_MC_GO, .wo, none⟩,
     ⟨fun _ _ _ => Reg.RIMET_MC_PEND, .ro, none⟩,
     ⟨fun _ _ _ => Reg.RIMET_MC_LAPSE, .w1c, none⟩,
     ⟨fun _ _ _ => Reg.RIMET_MC_AGREED, .w1c, none⟩,
     ⟨fun _ _ _ => Reg.RIMET_MC_PEND_MODE, .ro, none⟩]⟩,
   ⟨0x100B0000, [], .device,
    [⟨fun _ _ _ => Reg.RIMET_CTRL_EN, .rw, none⟩,
     ⟨fun _ _ _ => Reg.RIMET_CTRL_RESTART, .wo, none⟩,
     ⟨fun _ _ _ => Reg.RIMET_CTRL_VER, .rwl, (some (1, 2))⟩]⟩,
   ⟨0x100B0004, [], .device,
    [⟨fun _ _ _ => Reg.RIMET_STAT_CSTATE, .ro, none⟩,
     ⟨fun _ _ _ => Reg.RIMET_STAT_SYNC_LOSS_EV, .w1c, none⟩,
     ⟨fun _ _ _ => Reg.RIMET_STAT_CS_ABORT_EV, .w1c, none⟩]⟩,
   ⟨0x100B0008, [], .device,
    [⟨fun _ _ _ => Reg.RIMET_RXDLY_A_NS, .rwl, (some (0, 0x7D0))⟩,
     ⟨fun _ _ _ => Reg.RIMET_RXDLY_B_NS, .rwl, (some (0, 0x7D0))⟩]⟩,
   ⟨0x100B000C, [], .device,
    [⟨fun _ _ _ => Reg.RIMET_CYCLE_TCYC, .ro, none⟩]⟩,
   ⟨0x100B0010, [(8, 4)], .device,
    [⟨fun n _ _ => Reg.RIMET_SEEN_GW n, .ro, none⟩]⟩,
   ⟨0x100B0034, [], .device,
    [⟨fun _ _ _ => Reg.RIMET_MC_AT_BOUND, .ro, none⟩]⟩,
   ⟨0x100B0038, [], .device,
    [⟨fun _ _ _ => Reg.RIMET_CNT_CNT, .ro, none⟩]⟩,
   ⟨0x100B003C, [], .device,
    [⟨fun _ _ _ => Reg.RIMET_LOCK_LOCK, .w1s, none⟩]⟩]

/-- Registers of the TIME block. -/
def regRowsTime : List RegRow :=
  [⟨0x10150004, [], .device,
    [⟨fun _ _ _ => Reg.TIME_STAT_METHOD, .ro, none⟩,
     ⟨fun _ _ _ => Reg.TIME_STAT_MASTER, .ro, none⟩,
     ⟨fun _ _ _ => Reg.TIME_STAT_REF_RANK, .ro, none⟩,
     ⟨fun _ _ _ => Reg.TIME_STAT_ALIGNED, .ro, none⟩,
     ⟨fun _ _ _ => Reg.TIME_STAT_SLEWING, .ro, none⟩,
     ⟨fun _ _ _ => Reg.TIME_STAT_LINE, .ro, none⟩,
     ⟨fun _ _ _ => Reg.TIME_STAT_STEP_EV, .w1c, none⟩,
     ⟨fun _ _ _ => Reg.TIME_STAT_BEHIND_EV, .w1c, none⟩,
     ⟨fun _ _ _ => Reg.TIME_STAT_CLOCK_EV, .w1c, none⟩,
     ⟨fun _ _ _ => Reg.TIME_STAT_EXT_CAP, .w1c, none⟩,
     ⟨fun _ _ _ => Reg.TIME_STAT_SPLIT, .w1c, none⟩]⟩,
   ⟨0x10150000, [], .device,
    [⟨fun _ _ _ => Reg.TIME_CTRL_SLEW_NS, .rwl, (some (0xA, 0x64))⟩,
     ⟨fun _ _ _ => Reg.TIME_CTRL_SLEW_WIN, .rwl, (some (0x64, 0x61A8))⟩]⟩,
   ⟨0x10150008, [], .device,
    [⟨fun _ _ _ => Reg.TIME_SYNC_METHOD, .rwl, (some (0, 2))⟩,
     ⟨fun _ _ _ => Reg.TIME_SYNC_MASTER_EN, .rwl, none⟩,
     ⟨fun _ _ _ => Reg.TIME_SYNC_MRANK, .rwl, none⟩]⟩,
   ⟨0x1015000C, [], .device,
    [⟨fun _ _ _ => Reg.TIME_LIM_OFS_LIM, .rwl, (some (0x64, 0x7D0))⟩,
     ⟨fun _ _ _ => Reg.TIME_LIM_EXT_LIM, .rwl, (some (0, 0x3E8))⟩,
     ⟨fun _ _ _ => Reg.TIME_LIM_RATE_LIM, .rwl, (some (0xA, 0x3E8))⟩]⟩,
   ⟨0x10150010, [], .device,
    [⟨fun _ _ _ => Reg.TIME_NOW_LO_NS, .ro, none⟩]⟩,
   ⟨0x10150014, [], .device,
    [⟨fun _ _ _ => Reg.TIME_NOW_HI_NS, .ro, none⟩]⟩,
   ⟨0x10150018, [], .device,
    [⟨fun _ _ _ => Reg.TIME_TICK_LO_K, .ro, none⟩]⟩,
   ⟨0x1015001C, [], .device,
    [⟨fun _ _ _ => Reg.TIME_TICK_HI_K, .ro, none⟩]⟩,
   ⟨0x10150020, [], .device,
    [⟨fun _ _ _ => Reg.TIME_OFS_C, .ro, none⟩,
     ⟨fun _ _ _ => Reg.TIME_OFS_EXT, .ro, none⟩]⟩,
   ⟨0x10150024, [], .device,
    [⟨fun _ _ _ => Reg.TIME_RATE_PPB, .ro, none⟩]⟩,
   ⟨0x10150028, [], .device,
    [⟨fun _ _ _ => Reg.TIME_PREC_NS, .ro, none⟩,
     ⟨fun _ _ _ => Reg.TIME_PREC_NSYNC, .ro, none⟩]⟩,
   ⟨0x1015002C, [], .device,
    [⟨fun _ _ _ => Reg.TIME_ISO_CYC, .ro, none⟩]⟩,
   ⟨0x10150030, [], .device,
    [⟨fun _ _ _ => Reg.TIME_STEP_CNT_CNT, .ro, none⟩]⟩,
   ⟨0x10150034, [], .device,
    [⟨fun _ _ _ => Reg.TIME_LOCK_LOCK, .w1s, none⟩]⟩]

/-- Registers of the SCH block. -/
def regRowsSch : List RegRow :=
  [⟨0x100C0000, [], .device,
    [⟨fun _ _ _ => Reg.SCH_CTRL_JOIN_EN, .rw, none⟩,
     ⟨fun _ _ _ => Reg.SCH_CTRL_DETACH, .wo, none⟩,
     ⟨fun _ _ _ => Reg.SCH_CTRL_CNT_CLR, .wo, none⟩]⟩,
   ⟨0x100C0004, [], .device,
    [⟨fun _ _ _ => Reg.SCH_STAT_ROLE, .ro, none⟩,
     ⟨fun _ _ _ => Reg.SCH_STAT_PSTATE, .ro, none⟩,
     ⟨fun _ _ _ => Reg.SCH_STAT_RANK, .ro, none⟩,
     ⟨fun _ _ _ => Reg.SCH_STAT_OWN, .ro, none⟩,
     ⟨fun _ _ _ => Reg.SCH_STAT_PEER, .ro, none⟩,
     ⟨fun _ _ _ => Reg.SCH_STAT_HB_OK, .ro, none⟩,
     ⟨fun _ _ _ => Reg.SCH_STAT_LANES, .ro, none⟩,
     ⟨fun _ _ _ => Reg.SCH_STAT_SPLIT_EV, .w1c, none⟩,
     ⟨fun _ _ _ => Reg.SCH_STAT_TKO_EV, .w1c, none⟩,
     ⟨fun _ _ _ => Reg.SCH_STAT_HB_LOSS_EV, .w1c, none⟩,
     ⟨fun _ _ _ => Reg.SCH_STAT_RESYNC_EV, .w1c, none⟩,
     ⟨fun _ _ _ => Reg.SCH_STAT_DETACH_EV, .w1c, none⟩,
     ⟨fun _ _ _ => Reg.SCH_STAT_JOIN_EV, .w1c, none⟩,
     ⟨fun _ _ _ => Reg.SCH_STAT_JOIN_FAIL, .w1c, none⟩,
     ⟨fun _ _ _ => Reg.SCH_STAT_INPUT_GAP, .w1c, none⟩,
     ⟨fun _ _ _ => Reg.SCH_STAT_JOIN_CAUSE, .ro, none⟩]⟩,
   ⟨0x100C0008, [], .device,
    [⟨fun _ _ _ => Reg.SCH_CFG_PAIR_EN, .rwl, none⟩,
     ⟨fun _ _ _ => Reg.SCH_CFG_PNODE, .rwl, none⟩,
     ⟨fun _ _ _ => Reg.SCH_CFG_WAIT_MS, .rwl, (some (0xA, 0x2710))⟩,
     ⟨fun _ _ _ => Reg.SCH_CFG_HOLD_MS, .rwl, (some (1, 0xFF))⟩]⟩,
   ⟨0x100C000C, [], .device,
    [⟨fun _ _ _ => Reg.SCH_LINK_DLY_NS, .ro, none⟩]⟩,
   ⟨0x100C0010, [], .device,
    [⟨fun _ _ _ => Reg.SCH_HB_MISS, .ro, none⟩,
     ⟨fun _ _ _ => Reg.SCH_HB_LOSS, .ro, none⟩]⟩,
   ⟨0x100C0014, [], .device,
    [⟨fun _ _ _ => Reg.SCH_RS_CNT_GROUPS, .ro, none⟩,
     ⟨fun _ _ _ => Reg.SCH_RS_CNT_CLASSES, .ro, none⟩]⟩,
   ⟨0x100C0018, [], .device,
    [⟨fun _ _ _ => Reg.SCH_RS_LAST_GROUP, .ro, none⟩,
     ⟨fun _ _ _ => Reg.SCH_RS_LAST_CLASS, .ro, none⟩]⟩,
   ⟨0x100C001C, [], .device,
    [⟨fun _ _ _ => Reg.SCH_IN_LAST_CYC_CYC, .ro, none⟩]⟩,
   ⟨0x100C0020, [], .device,
    [⟨fun _ _ _ => Reg.SCH_SAVED_CYC_CYC, .ro, none⟩]⟩,
   ⟨0x100C0024, [], .device,
    [⟨fun _ _ _ => Reg.SCH_TKO_TICK_LO_K, .ro, none⟩]⟩,
   ⟨0x100C0028, [], .device,
    [⟨fun _ _ _ => Reg.SCH_TKO_TICK_HI_K, .ro, none⟩]⟩,
   ⟨0x100C002C, [], .device,
    [⟨fun _ _ _ => Reg.SCH_LANE_ERR_CNT, .ro, none⟩]⟩,
   ⟨0x100C0030, [], .device,
    [⟨fun _ _ _ => Reg.SCH_LOCK_LOCK, .w1s, none⟩]⟩,
   ⟨0x100C0040, [(8, 4)], .device,
    [⟨fun n _ _ => Reg.SCH_RS_ACTIVE_GROUPS n, .ro, none⟩]⟩]

/-- Registers of the SAFE block. -/
def regRowsSafe : List RegRow :=
  [⟨0x100D0004, [], .device,
    [⟨fun _ _ _ => Reg.SAFE_STAT_CONF, .ro, none⟩,
     ⟨fun _ _ _ => Reg.SAFE_STAT_EVAL, .ro, none⟩,
     ⟨fun _ _ _ => Reg.SAFE_STAT_REC_OK, .ro, none⟩,
     ⟨fun _ _ _ => Reg.SAFE_STAT_DEMAND_EV, .w1c, none⟩,
     ⟨fun _ _ _ => Reg.SAFE_STAT_FAULT_EV, .w1c, none⟩,
     ⟨fun _ _ _ => Reg.SAFE_STAT_RESET_REJ, .w1c, none⟩,
     ⟨fun _ _ _ => Reg.SAFE_STAT_OUT_FAULT_EV, .w1c, none⟩,
     ⟨fun _ _ _ => Reg.SAFE_STAT_BRAKE_FAIL_EV, .w1c, none⟩,
     ⟨fun _ _ _ => Reg.SAFE_STAT_LATE_EV, .w1c, none⟩]⟩,
   ⟨0x100D0008, [], .device,
    [⟨fun _ _ _ => Reg.SAFE_CTRL_BRAKE_GO, .wo, none⟩,
     ⟨fun _ _ _ => Reg.SAFE_CTRL_AXIS, .rw, none⟩,
     ⟨fun _ _ _ => Reg.SAFE_CTRL_UNLOCK_GO, .wo, none⟩,
     ⟨fun _ _ _ => Reg.SAFE_CTRL_RELOCK, .wo, none⟩,
     ⟨fun _ _ _ => Reg.SAFE_CTRL_FUNC, .rw, none⟩]⟩,
   ⟨0x100D0100, [(32, 4)], .device,
    [⟨fun n _ _ => Reg.SAFE_FUNC_STATE n, .ro, none⟩,
     ⟨fun n _ _ => Reg.SAFE_FUNC_KIND n, .ro, none⟩,
     ⟨fun n _ _ => Reg.SAFE_FUNC_CAUSE n, .ro, none⟩]⟩,
   ⟨0x100D0000, [], .device,
    [⟨fun _ _ _ => Reg.SAFE_CONFIRM_CHECK, .rws, none⟩]⟩,
   ⟨0x100D000C, [], .device,
    [⟨fun _ _ _ => Reg.SAFE_IN_STATE, .ro, none⟩]⟩,
   ⟨0x100D0010, [], .device,
    [⟨fun _ _ _ => Reg.SAFE_OUT_DEMAND, .ro, none⟩,
     ⟨fun _ _ _ => Reg.SAFE_OUT_READBACK, .ro, none⟩,
     ⟨fun _ _ _ => Reg.SAFE_OUT_LOCKOUT, .ro, none⟩]⟩,
   ⟨0x100D0014, [], .device,
    [⟨fun _ _ _ => Reg.SAFE_TP_CFG_TP_US, .rwl, (some (0x64, 0x3E8))⟩,
     ⟨fun _ _ _ => Reg.SAFE_TP_CFG_TP_MS, .rwl, (some (2, 0x64))⟩]⟩,
   ⟨0x100D0018, [], .device,
    [⟨fun _ _ _ => Reg.SAFE_CNT_DEMANDS, .ro, none⟩,
     ⟨fun _ _ _ => Reg.SAFE_CNT_RESET_REJ, .ro, none⟩]⟩,
   ⟨0x100D001C, [], .device,
    [⟨fun _ _ _ => Reg.SAFE_TEST_CNT_DISCARDED, .ro, none⟩,
     ⟨fun _ _ _ => Reg.SAFE_TEST_CNT_FAILED, .ro, none⟩]⟩,
   ⟨0x100D0020, [], .device,
    [⟨fun _ _ _ => Reg.SAFE_CONF_TIME_LO_NS, .ro, none⟩]⟩,
   ⟨0x100D0024, [], .device,
    [⟨fun _ _ _ => Reg.SAFE_CONF_TIME_HI_NS, .ro, none⟩]⟩,
   ⟨0x100D0028, [], .device,
    [⟨fun _ _ _ => Reg.SAFE_LOCK_LOCK, .w1s, none⟩]⟩,
   ⟨0x100D0200, [(8, 4)], .device,
    [⟨fun n _ _ => Reg.SAFE_BRAKE_STATE n, .ro, none⟩,
     ⟨fun n _ _ => Reg.SAFE_BRAKE_RESULT n, .ro, none⟩,
     ⟨fun n _ _ => Reg.SAFE_BRAKE_LOCKOUT n, .ro, none⟩,
     ⟨fun n _ _ => Reg.SAFE_BRAKE_CAUSE n, .ro, none⟩,
     ⟨fun n _ _ => Reg.SAFE_BRAKE_HOURS n, .ro, none⟩]⟩]

/-- Registers of the AXIS block. -/
def regRowsAxis : List RegRow :=
  [⟨0x100E0000, [(8, 0x100)], .device,
    [⟨fun n _ _ => Reg.AXIS_CMD_CMD n, .wo, none⟩,
     ⟨fun n _ _ => Reg.AXIS_CMD_MODE n, .rw, none⟩,
     ⟨fun n _ _ => Reg.AXIS_CMD_DIR n, .rw, none⟩]⟩,
   ⟨0x100E0004, [(8, 0x100)], .device,
    [⟨fun n _ _ => Reg.AXIS_STAT_STATE n, .ro, none⟩,
     ⟨fun n _ _ => Reg.AXIS_STAT_HOLDING n, .ro, none⟩,
     ⟨fun n _ _ => Reg.AXIS_STAT_AT_VLIM n, .ro, none⟩,
     ⟨fun n _ _ => Reg.AXIS_STAT_ABNORMAL_KE n, .ro, none⟩,
     ⟨fun n _ _ => Reg.AXIS_STAT_FAULT n, .ro, none⟩,
     ⟨fun n _ _ => Reg.AXIS_STAT_CAUSE n, .ro, none⟩,
     ⟨fun n _ _ => Reg.AXIS_STAT_START_EV n, .w1c, none⟩,
     ⟨fun n _ _ => Reg.AXIS_STAT_STOP_EV n, .w1c, none⟩,
     ⟨fun n _ _ => Reg.AXIS_STAT_KE_EV n, .w1c, none⟩,
     ⟨fun n _ _ => Reg.AXIS_STAT_OC_EV n, .w1c, none⟩,
     ⟨fun n _ _ => Reg.AXIS_STAT_FORCE_EV n, .w1c, none⟩,
     ⟨fun n _ _ => Reg.AXIS_STAT_ENC_EV n, .w1c, none⟩,
     ⟨fun n _ _ => Reg.AXIS_STAT_SLOW_EV n, .w1c, none⟩,
     ⟨fun n _ _ => Reg.AXIS_STAT_REFUSED n, .w1c, none⟩]⟩,
   ⟨0x100E0008, [(8, 0x100)], .device,
    [⟨fun n _ _ => Reg.AXIS_SPEED_SET_SPEED n, .rw, none⟩,
     ⟨fun n _ _ => Reg.AXIS_SPEED_SET_ACCEL n, .rw, (some (1, 0xFFFF))⟩]⟩,
   ⟨0x100E000C, [(8, 0x100)], .device,
    [⟨fun n _ _ => Reg.AXIS_POS_SET_POS n, .rw, none⟩]⟩,
   ⟨0x100E0010, [(8, 0x100)], .device,
    [⟨fun n _ _ => Reg.AXIS_FORCE_SET_F_SET n, .rw, none⟩]⟩,
   ⟨0x100E0014, [(8, 0x100)], .device,
    [⟨fun n _ _ => Reg.AXIS_FORCE_CONTACT_F_CONTACT n, .rw, none⟩]⟩,
   ⟨0x100E0018, [(8, 0x100)], .axis,
    [⟨fun n _ _ => Reg.AXIS_GAIN_I_KP n, .rws, none⟩,
     ⟨fun n _ _ => Reg.AXIS_GAIN_I_KI n, .rws, none⟩]⟩,
   ⟨0x100E001C, [(8, 0x100)], .axis,
    [⟨fun n _ _ => Reg.AXIS_GAIN_S_KP n, .rws, none⟩,
     ⟨fun n _ _ => Reg.AXIS_GAIN_S_KI n, .rws, none⟩]⟩,
   ⟨0x100E0020, [(8, 0x100)], .axis,
    [⟨fun n _ _ => Reg.AXIS_POS_CFG_KP_P n, .rws, none⟩,
     ⟨fun n _ _ => Reg.AXIS_POS_CFG_POS_WIN n, .rws, none⟩]⟩,
   ⟨0x100E0024, [(8, 0x100)], .axis,
    [⟨fun n _ _ => Reg.AXIS_GAIN_F_KP_F n, .rws, none⟩,
     ⟨fun n _ _ => Reg.AXIS_GAIN_F_KI_F n, .rws, none⟩]⟩,
   ⟨0x100E0028, [(8, 0x100)], .device,
    [⟨fun n _ _ => Reg.AXIS_POS_POS n, .ro, none⟩]⟩,
   ⟨0x100E002C, [(8, 0x100)], .device,
    [⟨fun n _ _ => Reg.AXIS_SPEED_SPEED n, .ro, none⟩]⟩,
   ⟨0x100E0030, [(8, 0x100)], .device,
    [⟨fun n _ _ => Reg.AXIS_CUR_IQ n, .ro, none⟩,
     ⟨fun n _ _ => Reg.AXIS_CUR_ID n, .ro, none⟩]⟩,
   ⟨0x100E0034, [(8, 0x100)], .device,
    [⟨fun n _ _ => Reg.AXIS_FORCE_F n, .ro, none⟩]⟩,
   ⟨0x100E0038, [(8, 0x100)], .device,
    [⟨fun n _ _ => Reg.AXIS_KE_KE n, .ro, none⟩]⟩,
   ⟨0x100E003C, [(8, 0x100)], .device,
    [⟨fun n _ _ => Reg.AXIS_SKIP_SKIPS n, .ro, none⟩,
     ⟨fun n _ _ => Reg.AXIS_SKIP_PATTERN n, .ro, none⟩]⟩,
   ⟨0x100E1000, [], .device,
    [⟨fun _ _ _ => Reg.AXIS_MOD_MOD_MAX, .rwl, (some (0x32, 0x64))⟩]⟩,
   ⟨0x100E1004, [], .device,
    [⟨fun _ _ _ => Reg.AXIS_LOCK_LOCK, .w1s, none⟩]⟩]

/-- Registers of the AUX block. -/
def regRowsAux : List RegRow :=
  [⟨0x100F0100, [(8, 0x20)], .device,
    [⟨fun n _ _ => Reg.AUX_CONV_CTRL_TRIG n, .rws, none⟩,
     ⟨fun n _ _ => Reg.AUX_CONV_CTRL_PWM_AXIS n, .rws, none⟩,
     ⟨fun n _ _ => Reg.AUX_CONV_CTRL_TICK_OFS n, .rws, (some (0, 0x2C))⟩,
     ⟨fun n _ _ => Reg.AUX_CONV_CTRL_NENT n, .rws, (some (0, 0x10))⟩,
     ⟨fun n _ _ => Reg.AUX_CONV_CTRL_APPLY n, .wo, none⟩,
     ⟨fun n _ _ => Reg.AUX_CONV_CTRL_SW_GO n, .wo, none⟩]⟩,
   ⟨0x100F0104, [(8, 0x20)], .device,
    [⟨fun n _ _ => Reg.AUX_CONV_STAT_BUSY n, .ro, none⟩,
     ⟨fun n _ _ => Reg.AUX_CONV_STAT_PEND n, .ro, none⟩,
     ⟨fun n _ _ => Reg.AUX_CONV_STAT_APPLY_PEND n, .ro, none⟩,
     ⟨fun n _ _ => Reg.AUX_CONV_STAT_ENTRY n, .ro, none⟩,
     ⟨fun n _ _ => Reg.AUX_CONV_STAT_OVR_EV n, .w1c, none⟩,
     ⟨fun n _ _ => Reg.AUX_CONV_STAT_LATE_EV n, .w1c, none⟩,
     ⟨fun n _ _ => Reg.AUX_CONV_STAT_OPEN_EV n, .w1c, none⟩,
     ⟨fun n _ _ => Reg.AUX_CONV_STAT_CLIP_EV n, .w1c, none⟩]⟩,
   ⟨0x100F0000, [], .device,
    [⟨fun _ _ _ => Reg.AUX_CAL_CTRL_CMD, .wo, none⟩,
     ⟨fun _ _ _ => Reg.AUX_CAL_CTRL_TRIM, .rw, none⟩,
     ⟨fun _ _ _ => Reg.AUX_CAL_CTRL_INPUT, .rw, none⟩,
     ⟨fun _ _ _ => Reg.AUX_CAL_CTRL_GAIN, .rw, (some (0, 6))⟩,
     ⟨fun _ _ _ => Reg.AUX_CAL_CTRL_LOG2N, .rw, (some (4, 0xC))⟩]⟩,
   ⟨0x100F0004, [], .device,
    [⟨fun _ _ _ => Reg.AUX_CAL_REF_REFZ, .rw, none⟩,
     ⟨fun _ _ _ => Reg.AUX_CAL_REF_REFF, .rw, none⟩]⟩,
   ⟨0x100F0008, [], .device,
    [⟨fun _ _ _ => Reg.AUX_CAL_STAT_BUSY, .ro, none⟩,
     ⟨fun _ _ _ => Reg.AUX_CAL_STAT_DONE, .w1c, none⟩,
     ⟨fun _ _ _ => Reg.AUX_CAL_STAT_ERR, .w1c, none⟩,
     ⟨fun _ _ _ => Reg.AUX_CAL_STAT_ZERO_HELD, .ro, none⟩,
     ⟨fun _ _ _ => Reg.AUX_CAL_STAT_FULL_HELD, .ro, none⟩,
     ⟨fun _ _ _ => Reg.AUX_CAL_STAT_CODE, .ro, none⟩]⟩,
   ⟨0x100F000C, [], .device,
    [⟨fun _ _ _ => Reg.AUX_OPEN_LO_INPUTS, .ro, none⟩]⟩,
   ⟨0x100F0010, [], .device,
    [⟨fun _ _ _ => Reg.AUX_OPEN_HI_INPUTS, .ro, none⟩]⟩,
   ⟨0x100F0014, [], .device,
    [⟨fun _ _ _ => Reg.AUX_LOCK_LOCK, .w1s, none⟩]⟩,
   ⟨0x100F0108, [(8, 0x20)], .device,
    [⟨fun n _ _ => Reg.AUX_CONV_CNT_LATE n, .ro, none⟩,
     ⟨fun n _ _ => Reg.AUX_CONV_CNT_OVR n, .ro, none⟩]⟩,
   ⟨0x100F010C, [(8, 0x20)], .device,
    [⟨fun n _ _ => Reg.AUX_OW_LIM_OW_LIM n, .rwl, (some (0x3E8, 0x7FFF))⟩]⟩,
   ⟨0x100F0400, [(8, 0x40), (16, 4)], .device,
    [⟨fun n m _ => Reg.AUX_SEQ_ENTRY n m, .rws, none⟩]⟩,
   ⟨0x100F1000, [(8, 0x100), (16, 0x10), (4, 4)], .device,
    [⟨fun n m k => Reg.AUX_RES_DATA n m k, .ro, none⟩]⟩,
   ⟨0x100F2000, [(64, 0x20), (7, 4)], .device,
    [⟨fun n m _ => Reg.AUX_CAL_GAIN n m, .rws, (some (0x2000, 0x6000))⟩,
     ⟨fun n m _ => Reg.AUX_CAL_OFFSET n m, .rws, none⟩]⟩,
   ⟨0x100F3000, [(4, 4)], .device,
    [⟨fun n _ _ => Reg.AUX_TRIM_T_GAIN n, .rwl, (some (0x2000, 0x6000))⟩,
     ⟨fun n _ _ => Reg.AUX_TRIM_T_OFS n, .rwl, none⟩]⟩]

/-- Registers of the PWR block. -/
def regRowsPwr : List RegRow :=
  [⟨0x10010000, [], .device,
    [⟨fun _ _ _ => Reg.PWR_STAT_STATE, .ro, none⟩,
     ⟨fun _ _ _ => Reg.PWR_STAT_WAKE_DEGRADED, .ro, none⟩,
     ⟨fun _ _ _ => Reg.PWR_STAT_CLK_RC, .ro, none⟩,
     ⟨fun _ _ _ => Reg.PWR_STAT_REFCLK_OK, .ro, none⟩,
     ⟨fun _ _ _ => Reg.PWR_STAT_REFCLK_LOST, .w1c, none⟩,
     ⟨fun _ _ _ => Reg.PWR_STAT_ENTRY_ABORT, .w1c, none⟩,
     ⟨fun _ _ _ => Reg.PWR_STAT_SLEEP_CODE, .ro, none⟩,
     ⟨fun _ _ _ => Reg.PWR_STAT_DOM_ON, .ro, none⟩]⟩,
   ⟨0x10010004, [], .device,
    [⟨fun _ _ _ => Reg.PWR_WAKE_CAUSE_THAW, .w1c, none⟩,
     ⟨fun _ _ _ => Reg.PWR_WAKE_CAUSE_WAKE_N, .w1c, none⟩,
     ⟨fun _ _ _ => Reg.PWR_WAKE_CAUSE_TIMER, .w1c, none⟩,
     ⟨fun _ _ _ => Reg.PWR_WAKE_CAUSE_WAKE_IN_ENTRY, .w1c, none⟩,
     ⟨fun _ _ _ => Reg.PWR_WAKE_CAUSE_POR, .w1c, none⟩]⟩,
   ⟨0x10010008, [], .device,
    [⟨fun _ _ _ => Reg.PWR_RETAIN_BANKS, .rw, none⟩]⟩,
   ⟨0x1001000C, [], .device,
    [⟨fun _ _ _ => Reg.PWR_WAKE_EN_THAW, .rwl, none⟩,
     ⟨fun _ _ _ => Reg.PWR_WAKE_EN_WAKE_N, .rwl, none⟩,
     ⟨fun _ _ _ => Reg.PWR_WAKE_EN_TIMER, .rwl, none⟩]⟩,
   ⟨0x10010010, [], .device,
    [⟨fun _ _ _ => Reg.PWR_TIMER_MS, .rw, none⟩]⟩,
   ⟨0x10010014, [], .device,
    [⟨fun _ _ _ => Reg.PWR_DOM_FAIL_DOMAIN, .ro, none⟩,
     ⟨fun _ _ _ => Reg.PWR_DOM_FAIL_ATTEMPTS, .ro, none⟩,
     ⟨fun _ _ _ => Reg.PWR_DOM_FAIL_FAILED, .ro, none⟩]⟩,
   ⟨0x10010018, [], .device,
    [⟨fun _ _ _ => Reg.PWR_POLICY_OFF, .ro, none⟩]⟩,
   ⟨0x1001001C, [], .device,
    [⟨fun _ _ _ => Reg.PWR_CNT_SLEEPS, .ro, none⟩,
     ⟨fun _ _ _ => Reg.PWR_CNT_FAILS, .ro, none⟩]⟩,
   ⟨0x10010020, [], .device,
    [⟨fun _ _ _ => Reg.PWR_LOCK_LOCK, .w1s, none⟩]⟩]

/-- Registers of the THAW block. -/
def regRowsThaw : List RegRow :=
  [⟨0x10140000, [], .device,
    [⟨fun _ _ _ => Reg.THAW_CFG_ADDR, .rwl, (some (8, 0x77))⟩,
     ⟨fun _ _ _ => Reg.THAW_CFG_SLEEP_EN, .rwl, none⟩]⟩,
   ⟨0x10140004, [], .device,
    [⟨fun _ _ _ => Reg.THAW_STAT_MATCH_EV, .w1c, none⟩,
     ⟨fun _ _ _ => Reg.THAW_STAT_NACK_EV, .w1c, none⟩,
     ⟨fun _ _ _ => Reg.THAW_STAT_SLEEP_EV, .w1c, none⟩]⟩,
   ⟨0x10140008, [], .device,
    [⟨fun _ _ _ => Reg.THAW_CNT_ACK, .ro, none⟩,
     ⟨fun _ _ _ => Reg.THAW_CNT_NACK, .ro, none⟩]⟩,
   ⟨0x1014000C, [], .device,
    [⟨fun _ _ _ => Reg.THAW_LOCK_LOCK, .w1s, none⟩]⟩]

/-- Registers of the BIST block. -/
def regRowsBist : List RegRow :=
  [⟨0x10100000, [], .device,
    [⟨fun _ _ _ => Reg.BIST_STAT_STARTUP_PASS, .ro, none⟩,
     ⟨fun _ _ _ => Reg.BIST_STAT_ONLINE_ACTIVE, .ro, none⟩,
     ⟨fun _ _ _ => Reg.BIST_STAT_HOST_BUSY, .ro, none⟩,
     ⟨fun _ _ _ => Reg.BIST_STAT_ONLINE_FAIL, .w1c, none⟩,
     ⟨fun _ _ _ => Reg.BIST_STAT_HOST_DONE, .w1c, none⟩,
     ⟨fun _ _ _ => Reg.BIST_STAT_HOST_FAIL, .w1c, none⟩,
     ⟨fun _ _ _ => Reg.BIST_STAT_INTEST_EV, .w1c, none⟩,
     ⟨fun _ _ _ => Reg.BIST_STAT_COPY_B, .ro, none⟩,
     ⟨fun _ _ _ => Reg.BIST_STAT_BOOT_CODE, .ro, none⟩]⟩,
   ⟨0x10100004, [], .device,
    [⟨fun _ _ _ => Reg.BIST_CTRL_ONLINE_EN, .rwl, none⟩,
     ⟨fun _ _ _ => Reg.BIST_CTRL_SLICES, .rwl, none⟩,
     ⟨fun _ _ _ => Reg.BIST_CTRL_HOST_GO, .wo, none⟩,
     ⟨fun _ _ _ => Reg.BIST_CTRL_HOST_MEM, .rw, none⟩]⟩,
   ⟨0x10100008, [], .device,
    [⟨fun _ _ _ => Reg.BIST_RESET_CAUSE_CAUSE, .ro, none⟩]⟩,
   ⟨0x1010000C, [], .device,
    [⟨fun _ _ _ => Reg.BIST_ONLINE_PASS_CNT, .ro, none⟩]⟩,
   ⟨0x10100010, [], .device,
    [⟨fun _ _ _ => Reg.BIST_ONLINE_POS_MEM, .ro, none⟩,
     ⟨fun _ _ _ => Reg.BIST_ONLINE_POS_SLICE, .ro, none⟩]⟩,
   ⟨0x10100014, [], .device,
    [⟨fun _ _ _ => Reg.BIST_INTEST_ADDR_ADDR, .ro, none⟩]⟩,
   ⟨0x10100018, [], .device,
    [⟨fun _ _ _ => Reg.BIST_INTEST_REQ_REQ, .ro, none⟩]⟩,
   ⟨0x1010001C, [], .device,
    [⟨fun _ _ _ => Reg.BIST_STARTUP_US_US, .ro, none⟩]⟩,
   ⟨0x10100020, [], .device,
    [⟨fun _ _ _ => Reg.BIST_FAIL_CNT_ONLINE, .ro, none⟩,
     ⟨fun _ _ _ => Reg.BIST_FAIL_CNT_HOST, .ro, none⟩]⟩,
   ⟨0x10100040, [(16, 4)], .device,
    [⟨fun n _ _ => Reg.BIST_REC_BYTES n, .ro, none⟩]⟩,
   ⟨0x10100080, [], .device,
    [⟨fun _ _ _ => Reg.BIST_LOCK_LOCK, .w1s, none⟩]⟩]

/-- Registers of the LCY block. -/
def regRowsLcy : List RegRow :=
  [⟨0x10108004, [], .device,
    [⟨fun _ _ _ => Reg.LCY_CMD_CMD, .wo, none⟩,
     ⟨fun _ _ _ => Reg.LCY_CMD_TARGET, .rw, none⟩,
     ⟨fun _ _ _ => Reg.LCY_CMD_ARG, .rw, none⟩,
     ⟨fun _ _ _ => Reg.LCY_CMD_KEY, .wo, none⟩]⟩,
   ⟨0x10108000, [], .device,
    [⟨fun _ _ _ => Reg.LCY_STATE_STATE, .ro, none⟩,
     ⟨fun _ _ _ => Reg.LCY_STATE_CALVE, .ro, none⟩,
     ⟨fun _ _ _ => Reg.LCY_STATE_DBG, .ro, none⟩,
     ⟨fun _ _ _ => Reg.LCY_STATE_ROLLBACK, .ro, none⟩,
     ⟨fun _ _ _ => Reg.LCY_STATE_TRANS, .ro, none⟩,
     ⟨fun _ _ _ => Reg.LCY_STATE_BOOT_KEYS, .ro, none⟩,
     ⟨fun _ _ _ => Reg.LCY_STATE_FIRN_KEYS, .ro, none⟩]⟩,
   ⟨0x10108008, [], .device,
    [⟨fun _ _ _ => Reg.LCY_STAT_CODE, .ro, none⟩,
     ⟨fun _ _ _ => Reg.LCY_STAT_DONE, .w1c, none⟩,
     ⟨fun _ _ _ => Reg.LCY_STAT_ERR, .w1c, none⟩]⟩,
   ⟨0x1010800C, [], .device,
    [⟨fun _ _ _ => Reg.LCY_NONCE_LO_NONCE, .ro, none⟩]⟩,
   ⟨0x10108010, [], .device,
    [⟨fun _ _ _ => Reg.LCY_NONCE_HI_NONCE, .ro, none⟩]⟩,
   ⟨0x10108014, [], .device,
    [⟨fun _ _ _ => Reg.LCY_AUTH_ADDR, .rw, none⟩]⟩,
   ⟨0x10108018, [], .device,
    [⟨fun _ _ _ => Reg.LCY_SERIAL_SERIAL, .ro, none⟩]⟩,
   ⟨0x1010801C, [], .device,
    [⟨fun _ _ _ => Reg.LCY_RESET_KEY, .wo, none⟩]⟩,
   ⟨0x10108020, [], .device,
    [⟨fun _ _ _ => Reg.LCY_LOCK_LOCK, .w1s, none⟩]⟩]

/-- Registers of the HOST block. -/
def regRowsHost : List RegRow :=
  [⟨0x10110000, [], .device,
    [⟨fun _ _ _ => Reg.HOST_IRQ_STAT_CAUSE, .w1c, none⟩]⟩,
   ⟨0x10110004, [], .device,
    [⟨fun _ _ _ => Reg.HOST_IRQ_EN_EN, .rw, none⟩]⟩,
   ⟨0x10110008, [], .device,
    [⟨fun _ _ _ => Reg.HOST_STAT_LINK_UP, .ro, none⟩,
     ⟨fun _ _ _ => Reg.HOST_STAT_SPEED, .ro, none⟩,
     ⟨fun _ _ _ => Reg.HOST_STAT_WIDTH, .ro, none⟩,
     ⟨fun _ _ _ => Reg.HOST_STAT_LINK_DOWN_EV, .w1c, none⟩,
     ⟨fun _ _ _ => Reg.HOST_STAT_MBX_VER, .ro, none⟩]⟩,
   ⟨0x1011000C, [], .device,
    [⟨fun _ _ _ => Reg.HOST_DWIN_PAGE, .rw, none⟩]⟩,
   ⟨0x10110010, [], .device,
    [⟨fun _ _ _ => Reg.HOST_MBX_DB_TAG, .wo, none⟩]⟩,
   ⟨0x10110014, [], .device,
    [⟨fun _ _ _ => Reg.HOST_MBX_STAT_BUSY, .ro, none⟩,
     ⟨fun _ _ _ => Reg.HOST_MBX_STAT_DONE, .w1c, none⟩,
     ⟨fun _ _ _ => Reg.HOST_MBX_STAT_OVR, .w1c, none⟩]⟩,
   ⟨0x10110018, [], .device,
    [⟨fun _ _ _ => Reg.HOST_LOCK_LOCK, .w1s, none⟩,
     ⟨fun _ _ _ => Reg.HOST_LOCK_BOOTW, .rwl, none⟩]⟩,
   ⟨0x10110100, [(16, 4)], .device,
    [⟨fun n _ _ => Reg.HOST_MBX_REQ_DATA n, .rw, none⟩]⟩,
   ⟨0x10110140, [(16, 4)], .device,
    [⟨fun n _ _ => Reg.HOST_MBX_RSP_DATA n, .ro, none⟩]⟩,
   ⟨0x10110200, [(10, 0x10)], .device,
    [⟨fun n _ _ => Reg.HOST_RING_HEAD_HEAD n, .ro, none⟩]⟩,
   ⟨0x10110204, [(10, 0x10)], .device,
    [⟨fun n _ _ => Reg.HOST_RING_TAIL_TAIL n, .rw, none⟩]⟩,
   ⟨0x10110208, [(10, 0x10)], .device,
    [⟨fun n _ _ => Reg.HOST_RING_DROP_CNT n, .ro, none⟩]⟩,
   ⟨0x1011020C, [(10, 0x10)], .device,
    [⟨fun n _ _ => Reg.HOST_RING_MOD_THRESH n, .rw, (some (1, 0xFFFF))⟩,
     ⟨fun n _ _ => Reg.HOST_RING_MOD_HOLDOFF n, .rw, (some (1, 0xFFFF))⟩]⟩,
   ⟨0x10110400, [], .device,
    [⟨fun _ _ _ => Reg.HOST_QSPI_CMD_CMD, .wo, none⟩,
     ⟨fun _ _ _ => Reg.HOST_QSPI_CMD_QBUSY, .ro, none⟩,
     ⟨fun _ _ _ => Reg.HOST_QSPI_CMD_QDONE, .w1c, none⟩]⟩,
   ⟨0x10110404, [], .device,
    [⟨fun _ _ _ => Reg.HOST_QSPI_ADDR_ADDR, .rw, none⟩]⟩,
   ⟨0x10110408, [], .device,
    [⟨fun _ _ _ => Reg.HOST_QSPI_LEN_LEN, .rw, (some (1, 0x100))⟩]⟩,
   ⟨0x10110500, [(64, 4)], .device,
    [⟨fun n _ _ => Reg.HOST_QSPI_BUF_DATA n, .rw, none⟩]⟩]

/-- Registers of the DRC block. -/
def regRowsDrc : List RegRow :=
  [⟨0x10120000, [], .device,
    [⟨fun _ _ _ => Reg.DRC_STAT_SIZE, .ro, none⟩,
     ⟨fun _ _ _ => Reg.DRC_STAT_TRAINED, .ro, none⟩,
     ⟨fun _ _ _ => Reg.DRC_STAT_SCRUB_LATE, .w1c, none⟩,
     ⟨fun _ _ _ => Reg.DRC_STAT_RANK_FAIL, .ro, none⟩]⟩,
   ⟨0x10120004, [], .device,
    [⟨fun _ _ _ => Reg.DRC_TWIN_PAGE, .rw, none⟩]⟩,
   ⟨0x10120008, [], .device,
    [⟨fun _ _ _ => Reg.DRC_ECC_CNT_CNT, .ro, none⟩]⟩,
   ⟨0x1012000C, [], .device,
    [⟨fun _ _ _ => Reg.DRC_UE_ADDR_LO_ADDR, .ro, none⟩]⟩,
   ⟨0x10120010, [], .device,
    [⟨fun _ _ _ => Reg.DRC_UE_ADDR_HI_ADDR, .ro, none⟩]⟩,
   ⟨0x10120014, [], .device,
    [⟨fun _ _ _ => Reg.DRC_SCRUB_HOURS, .rwl, (some (1, 0xA8))⟩,
     ⟨fun _ _ _ => Reg.DRC_SCRUB_PASS, .ro, none⟩]⟩,
   ⟨0x10120018, [], .device,
    [⟨fun _ _ _ => Reg.DRC_ECC_CFG_UE_LIM, .rwl, (some (1, 0xFF))⟩]⟩,
   ⟨0x1012001C, [], .device,
    [⟨fun _ _ _ => Reg.DRC_LOCK_LOCK, .w1s, none⟩]⟩]

/-- Registers of the FWL block. -/
def regRowsFwl : List RegRow :=
  [⟨0x10130000, [], .device,
    [⟨fun _ _ _ => Reg.FWL_VADDR_ADDR, .ro, none⟩]⟩,
   ⟨0x10130004, [], .device,
    [⟨fun _ _ _ => Reg.FWL_VREQ_REQ, .ro, none⟩,
     ⟨fun _ _ _ => Reg.FWL_VREQ_CODE, .ro, none⟩,
     ⟨fun _ _ _ => Reg.FWL_VREQ_WRITE, .ro, none⟩]⟩,
   ⟨0x10130008, [], .device,
    [⟨fun _ _ _ => Reg.FWL_VPAGE_PAGE, .ro, none⟩,
     ⟨fun _ _ _ => Reg.FWL_VPAGE_WIN, .ro, none⟩]⟩,
   ⟨0x1013000C, [], .device,
    [⟨fun _ _ _ => Reg.FWL_VCNT_CNT, .ro, none⟩]⟩,
   ⟨0x10130110, [(7, 0x10)], .device,
    [⟨fun n _ _ => Reg.FWL_REG_BASE_BASE (n + 1), .rwl, none⟩]⟩,
   ⟨0x10130114, [(7, 0x10)], .device,
    [⟨fun n _ _ => Reg.FWL_REG_BASE_HI_BASE (n + 1), .rwl, none⟩]⟩,
   ⟨0x10130118, [(7, 0x10)], .device,
    [⟨fun n _ _ => Reg.FWL_REG_ATTR_SIZE (n + 1), .rwl, (some (0xC, 0x23))⟩,
     ⟨fun n _ _ => Reg.FWL_REG_ATTR_EN (n + 1), .rwl, none⟩,
     ⟨fun n _ _ => Reg.FWL_REG_ATTR_PERM (n + 1), .rwl, none⟩]⟩,
   ⟨0x10130200, [], .device,
    [⟨fun _ _ _ => Reg.FWL_LOCK_LOCK, .w1s, none⟩]⟩]

/-- Registers of the SYS block. -/
def regRowsSys : List RegRow :=
  [⟨0x10000000, [], .device,
    [⟨fun _ _ _ => Reg.SYS_ID_DEVICE, .ro, none⟩,
     ⟨fun _ _ _ => Reg.SYS_ID_STEPPING, .ro, none⟩]⟩,
   ⟨0x10000004, [], .device,
    [⟨fun _ _ _ => Reg.SYS_VENDOR_VENDOR, .ro, none⟩]⟩,
   ⟨0x10000008, [], .device,
    [⟨fun _ _ _ => Reg.SYS_PROPS_ROLE, .ro, none⟩,
     ⟨fun _ _ _ => Reg.SYS_PROPS_TRIAD, .ro, none⟩,
     ⟨fun _ _ _ => Reg.SYS_PROPS_RIME, .ro, none⟩,
     ⟨fun _ _ _ => Reg.SYS_PROPS_SAFE, .ro, none⟩,
     ⟨fun _ _ _ => Reg.SYS_PROPS_BOOT, .ro, none⟩]⟩,
   ⟨0x10000014, [], .device,
    [⟨fun _ _ _ => Reg.SYS_ZONE_REQ_ZONE, .rw, none⟩,
     ⟨fun _ _ _ => Reg.SYS_ZONE_REQ_MODE, .rw, none⟩,
     ⟨fun _ _ _ => Reg.SYS_ZONE_REQ_GO, .wo, none⟩,
     ⟨fun _ _ _ => Reg.SYS_ZONE_REQ_PEND, .ro, none⟩,
     ⟨fun _ _ _ => Reg.SYS_ZONE_REQ_DONE, .w1c, none⟩,
     ⟨fun _ _ _ => Reg.SYS_ZONE_REQ_REFUSED, .w1c, none⟩]⟩,
   ⟨0x10000018, [], .device,
    [⟨fun _ _ _ => Reg.SYS_ZHOLD_ZONES, .ro, none⟩]⟩,
   ⟨0x1000000C, [], .device,
    [⟨fun _ _ _ => Reg.SYS_ZMODE 0, .ro, none⟩,
     ⟨fun _ _ _ => Reg.SYS_ZMODE 1, .ro, none⟩,
     ⟨fun _ _ _ => Reg.SYS_ZMODE 2, .ro, none⟩,
     ⟨fun _ _ _ => Reg.SYS_ZMODE 3, .ro, none⟩,
     ⟨fun _ _ _ => Reg.SYS_ZMODE 4, .ro, none⟩,
     ⟨fun _ _ _ => Reg.SYS_ZMODE 5, .ro, none⟩,
     ⟨fun _ _ _ => Reg.SYS_ZMODE 6, .ro, none⟩,
     ⟨fun _ _ _ => Reg.SYS_ZMODE 7, .ro, none⟩,
     ⟨fun _ _ _ => Reg.SYS_ZMODE 8, .ro, none⟩,
     ⟨fun _ _ _ => Reg.SYS_ZMODE 9, .ro, none⟩]⟩,
   ⟨0x10000010, [], .device,
    [⟨fun _ _ _ => Reg.SYS_ZMODE 10, .ro, none⟩,
     ⟨fun _ _ _ => Reg.SYS_ZMODE 11, .ro, none⟩,
     ⟨fun _ _ _ => Reg.SYS_ZMODE 12, .ro, none⟩,
     ⟨fun _ _ _ => Reg.SYS_ZMODE 13, .ro, none⟩,
     ⟨fun _ _ _ => Reg.SYS_ZMODE 14, .ro, none⟩,
     ⟨fun _ _ _ => Reg.SYS_ZMODE 15, .ro, none⟩]⟩]

/-- Every register of the device space. -/
def regTable : List RegRow :=
  regRowsFirn ++
  regRowsFloe ++
  regRowsMeas ++
  regRowsLedger ++
  regRowsChan1 ++
  regRowsChan2 ++
  regRowsChan3 ++
  regRowsSeq ++
  regRowsNet1 ++
  regRowsNet2 ++
  regRowsSerac ++
  regRowsTri1 ++
  regRowsTri2 ++
  regRowsMor1 ++
  regRowsMor2 ++
  regRowsRimel1 ++
  regRowsRimel2 ++
  regRowsRimet ++
  regRowsTime ++
  regRowsSch ++
  regRowsSafe ++
  regRowsAxis ++
  regRowsAux ++
  regRowsPwr ++
  regRowsThaw ++
  regRowsBist ++
  regRowsLcy ++
  regRowsHost ++
  regRowsDrc ++
  regRowsFwl ++
  regRowsSys

end Sys2Proof.Machine
end

