-- ==== Sys2Proof/Machine/StateTypes.lean ====
section
/-!
DEFINITION. The pieces of the block's internal state that are no registers, family by family, as plain data with the
values they hold at reset as defaults.
-/
namespace Sys2Proof.Machine

/-- The outcome of the last access to the device space: 0 for a served access, else a code of R502; and the data a read
returned. -/
structure Resp where
  err : Nat := 0
  data : Nat := 0
deriving DecidableEq, Repr, Inhabited

/-! ### Moraine (chapter 13) -/

/-- A raised event of R302: source, unit type and index, data words, tick and ns after the tick edge, injected or not. -/
structure MorEv where
  src : Nat
  ut : Nat
  ui : Nat
  d0 : Nat
  d1 : Nat
  k : Nat
  subt : Nat
  inj : Bool
deriving DecidableEq, Repr, Inhabited

/-- An event as a pass has judged it, waiting for the ring (R323). -/
structure MorEntry where
  ev : MorEv
  cls : Nat
  esc : Bool
  conseq : Bool
  react : Nat
deriving DecidableEq, Repr, Inhabited

/-- An open shadow of R316; `close` is the tick at whose edge it closes, none until reset. -/
structure Shadow where
  ut : Nat
  ui : Nat
  react : Nat
  close : Option Nat
deriving DecidableEq, Repr, Inhabited

/-- Moraine's state. -/
structure MorSt where
  raised : List MorEv := []            -- events waiting for the next pass, in the order raised
  times : SMap (List Nat) := []        -- per source, times of its last counted events in ns, newest first (R308)
  fencers : SMap (List Nat) := []      -- per fenced unit (type * 4096 + index), the sources that fenced it (R311)
  fenceHeld : List Nat := []           -- fenced units whose commit-point effects have taken hold (R310)
  shadows : List Shadow := []
  relPend : Bool := false              -- FAULT_REL written during the pulse (R319)
  pulseK : Nat := 0                    -- tick of the last qualifying reaction: the pulse lasts 20 ticks from it (R319)
  queue : List MorEntry := []          -- entries waiting to be written to the ring (R323)
  iceFrame : Bool := false             -- steps 4 to 7 of the icefall are still to be issued
  brakeDue : Bool := false             -- BRAKE_MS of R313 has not elapsed yet
  noTriad : Bool := false              -- no triad transaction until reset (R283, R314)
  pfence : List Nat := []              -- fences marked PARTNER (R384), as type * 4096 + index
  orders : List (Nat × Nat × Nat) := []  -- orders for the partner of the next TICK frame (R384): kind, unit
  unfence : List Nat := []             -- accepted unfences waiting for the commit point (R311)
deriving DecidableEq, Repr, Inhabited

/-! ### Firn (chapter 02) -/

/-- A verification in progress: 1 LOAD_ACTIVE, 2 PRELOAD, 3 the start-up image, 4 an active image and 5 a preloaded one
received in BULK pieces. -/
structure Verif where
  kind : Nat
  bytes : List Byte
  bufLen : Nat
deriving DecidableEq, Repr, Inhabited

/-- The image slots and what is under way with them. -/
structure FirnSt where
  act : Option Image := none           -- the active image
  slots : SMap Image := []             -- the image held in each slot of a variant
  verif : Option Verif := none
  commit : Option Image := none        -- accepted LOAD_ACTIVE waiting for its commit point
  commitCyc : Nat := 0                 -- the cycle at whose first tick it commits
  await : Bool := false                -- STANDBY: it waits for the partner's input (R57)
  pre : List Image := []               -- pair: accepted preloads waiting for their boundary (R57)
  bank : Option Image := none          -- the image that the engines' inactive banks hold (R233)
  pairCode : Nat := 0                  -- the partner's code of the last image it rejected (R57)
  prevProfs : Option Image := none     -- image whose profiles accumulators already in progress use (R60, R102)
  pendMode : Nat := 0                  -- Rime mode of the agreed switch (R60)
  pendCyc : Nat := 0                   -- its boundary
deriving DecidableEq, Repr, Inhabited

/-! ### Floe (chapter 03) -/

/-- A port's state beyond its registers. -/
structure FloePort where
  lanesOn : Bool := false
  selV : Nat := 0                      -- version named in the last SELECT
  acked : Bool := false                -- SELECT_ACK carrying it has arrived
  echoSent : Nat := 0
  echoSeen : Nat := 0
  echoOpen : List Nat := []            -- echo numbers sent and not answered
  rttSum : Nat := 0                    -- sum of the link-up round trips, ns
  adv : Int := 0                       -- marker advance in use, ns
  good : Nat := 0                      -- consecutive valid superframes
  miss : Nat := 0                      -- consecutive missing superframes
  syncTicks : Nat := 0
  staleWin : Nat := 0                  -- delivered windows still STALE after the port entered ACTIVE (R101)
  dTgt : Int := 0                      -- measured delay the advance moves towards, at most 250 ns (R70)
  sfOk : Bool := false                 -- this tick's superframe was accepted
  blk : Nat := 0                       -- number 16w + b of the next sample block
  came : Nat := 0                      -- the number after that of the last block that came and was fed
  expId : Nat := 0                     -- EXP_ID of the last express frame sent
  expOpen : Option (List Byte) := none -- unacknowledged express frame (version 3)
  expTries : Nat := 0
  expLatched : Nat := 0                -- mask of latched channels of the last acknowledgement (R91)
  chStat : List Nat := []              -- last CH_STAT words
  temps : List Nat := []               -- last TEMP words
  aux : List Byte := []                -- last auxiliary area
  slots : List (List Byte) := []       -- channel slots last sent
  prevSlots : List (List Byte) := []   -- those sent one tick before them
  nextSlots : List (List Byte) := []   -- channel slots assembled for this tick
  txTick : List Byte := []             -- last TICK marker sent
  txCmd : List Byte := []              -- last command frame sent
  txExp : List Byte := []              -- last express frame sent
  txLink : List Byte := []             -- last link frame sent
deriving DecidableEq, Repr, Inhabited

/-! ### Measurement (chapter 04) -/

/-- A 320 kHz sample with its marks. -/
structure Smp where
  v : Int
  sub : Bool
  ovl : Bool
deriving DecidableEq, Repr, Inhabited

/-- A stream's decimator state and its samples, newest first (R99, R101, R102). -/
structure Strm where
  p1 : Nat := 0                        -- bits of the block before
  p2 : Nat := 0                        -- bits of the block before that
  subst : Nat := 2                     -- arriving blocks still to be substituted
  last : Int := 0                      -- last valid sample
  n : Nat := 0                         -- number 16w + b after that of the newest sample
  smp : List Smp := []
deriving DecidableEq, Repr, Inhabited

/-- The partial span of a long average (R108). -/
structure AvgPart where
  sum : Int := 0
  cnt : Nat := 0
  flags : Nat := 0
  rng : Nat := 0
  n : Nat := 0
deriving DecidableEq, Repr, Inhabited

/-- A channel's ranging state (R109 to R112). -/
structure RngSt where
  cur : Nat := 0                       -- range the frames carry
  old : Nat := 0                       -- range before the last switch
  swTick : Nat := 0                    -- tick in which the new range was sent
  sw : Bool := false                   -- a switch has happened since the port entered ACTIVE
  hold : Nat := 0                      -- frames in which the range may not change
  below : Nat := 0                     -- consecutive delivered readings below the threshold
  cond : Nat := 0                      -- consecutive ticks in which the down condition held
  fresh : Bool := true                 -- the next frame is the first after ACTIVE
  locks : List Nat := []               -- continuity windows open: 1 lock-in, 2 DC step, 3 holdover, 4 contact, 5 calibration
  cmdI : Int := 0                      -- commanded setpoint of the window of the switch, new range
  prevI : Int := 0                     -- setpoint before it
  pert : Bool := false                 -- the command's PERT bit
deriving DecidableEq, Repr, Inhabited

/-- A contact check in progress (R119). -/
structure Contact where
  phase : Nat := 0                     -- 0 none, 1 PRE, 2 TEST, 3 POST
  base : Nat := 0                      -- BASE, SETTLE and MEAS taken at the start of the check
  settle : Nat := 0
  meas : Nat := 0
  skip : Nat := 0
  cnt : Nat := 0
  need : Nat := 0
  sum : Int := 0
  pre : Int := 0                       -- sum of the PRE readings
  test : Int := 0                      -- sum of the TEST readings
  clipped : Bool := false
  active : Bool := false               -- a TEST window's superframe showed TEST_ACTIVE
  done : Bool := false                 -- the phase's readings are complete
  abort : Bool := false
deriving DecidableEq, Repr, Inhabited

/-- A held calibration capture (R114). -/
structure CapHeld where
  first : Nat := 0
  num : Nat := 0
  stream : Nat := 0
  mean : SMap Int := []                -- per channel, with 8 fraction bits
  fails : SMap Nat := []               -- per channel, its calibration code
  time : Nat := 0
  temp : SMap Int := []                -- per channel, sum of BRICK_TEMP[0]
  n : Nat := 1                         -- readings summed
deriving DecidableEq, Repr, Inhabited

/-- A capture in progress. -/
structure CapRun where
  zero : Bool := true
  first : Nat := 0
  num : Nat := 0
  stream : Nat := 0
  settle : Nat := 0
  n : Nat := 0
  skipped : SMap Nat := []             -- per channel, settling readings seen
  cnt : SMap Nat := []                 -- per channel, readings summed
  sum : SMap Int := []
  temp : SMap Int := []
  fails : SMap Nat := []
deriving DecidableEq, Repr, Inhabited

/-- Measurement state. -/
structure MeasSt where
  strm : SMap Strm := []               -- key 2 * channel + (0 voltage, 1 current)
  avg : SMap AvgPart := []             -- key as for streams
  rng : SMap RngSt := []
  raw : SMap Int := []                 -- last raw reading of each stream
  delivered : SMap Nat := []           -- per channel, tick + 1 of the last delivered reading
  contact : SMap Contact := []
  run : Option CapRun := none
  zero : Option CapHeld := none
  full : Option CapHeld := none
deriving DecidableEq, Repr, Inhabited

/-! ### Ledger (chapter 05) -/

/-- A queued LOG event (R130). -/
structure LedEv where
  ch : Nat
  k : Nat
  typ : Nat
  prog : Nat
  step : Nat
  data : List Byte
deriving DecidableEq, Repr, Inhabited

/-- A read shadow of R134, or a write staging of R135 with the words written so far. -/
structure MwHold where
  addr : Nat
  words : List (Option Nat)
deriving DecidableEq, Repr, Inhabited

/-- Ledger state beyond its registers. Addresses are offsets in the 32 MiB entry view (R125). -/
structure LedSt where
  mem : Memory := []                   -- the coherent contents; see `ledDefault` for what an unlisted byte reads as
  home : Memory := []                  -- the DRAM copy (R131)
  cache : SMap (List (Nat × Bool)) := []  -- per set, its lines (entry-view offset / 256) and whether each is dirty (R131)
  miss : Nat := 0                      -- lines that have been brought into the cache
  evq : List LedEv := []
  shadow : SMap MwHold := []           -- per requester
  stage : SMap (List MwHold) := []     -- per requester, its open stagings, the oldest first
  ue : List Nat := []                  -- poisoned lines, as entry-view offsets / 256
  hotCap : Bool := false               -- a stream has captured HOT in this tick (R136)
  capK : SMap Nat := []                -- per stream, 1 + the tick (HOT) or cycle of its last capture due
  foldN : Nat := 0                     -- the next cycle to fold
  owed : List Nat := []                -- channels whose fold of that cycle has been held (R390)
deriving DecidableEq, Repr, Inhabited

/-! ### Host (chapter 22) -/

/-- A host ring (R509 to R512). -/
structure HostRing where
  en : Bool := false
  base : Nat := 0
  size : Nat := 0
  wb : Nat := 0                        -- head write-back address
  queue : List (List Byte) := []       -- records waiting
  unsig : Nat := 0                     -- records written since the last signal
deriving DecidableEq, Repr, Inhabited

/-- What PCI configuration space reports of the device (R6): vendor, device and revision identity. -/
structure PciCfg where
  vendor : Nat := 0x1F4A
  device : Nat := 0x4096
  revision : Nat := 0x01
  msixEn : Bool := false               -- MSI-X enabled by the host; INTx otherwise (R511)
  msix : List (Nat × Nat × Nat) := List.replicate 16 (0, 0, 1)  -- the table of BAR4: address, data, vector control
  pba : Nat := 0                       -- and its pending-bit array (R500)
deriving DecidableEq, Repr, Inhabited

/-- The host side beyond registers. `mem` is what the device has written to host memory. -/
structure HostSt where
  rings : SMap HostRing := []
  mem : Memory := []
  pci : PciCfg := {}                   -- configuration space of the endpoint's one function (R6)
  zTag : Nat := 0                      -- TAG and outcome of the last ZONE_MODE decided at its boundary (R506)
  zOut : Nat := 0xFF
  zRefused : Nat := 0                  -- zones whose START_MODE of PRODUCTION was refused, as a mask (R45)
  qspi : Option (Nat × Nat × Nat × List Byte) := none  -- flash command running: command, address, length, data
  bad : List Nat := []                 -- DRAM words with a poison mark, as DRAM addresses (R513)
  scrubLate : Bool := false            -- the scrubber's pass has taken more than twice its time and is not complete (R514)
deriving DecidableEq, Repr, Inhabited

/-! ### Serac (chapter 11) -/

/-- The sums of a slope window and the slope in force (R255). -/
structure SlopeWin where
  sum : Int := 0
  cnt : Nat := 0                       -- ticks counted in the window so far
  ok : Bool := false                   -- begun at the window's first tick, with every tick evaluable
  prev : Option Int := none            -- mean of the window before, where complete
  slope : Option Int := none
deriving DecidableEq, Repr, Inhabited

/-- One plane's working state for a channel (R250, R253 to R256). -/
structure PlaneCh where
  conf : List Nat := [0, 0, 0, 0, 0]   -- confirmation counts of checks 0 to 3 and 9
  stale : Nat := 0
  dv : SlopeWin := {}
  dt : SlopeWin := {}
  sq : Int := 0
  rc : Option Nat := none
deriving DecidableEq, Repr, Inhabited

/-- Serac's working state for a channel, in its own SRAM; the HOT report is a copy of it (R250, R273). -/
structure SerCh where
  st : Nat := 0                        -- 0 UNCHECKED, 1 ARMED, 2 TRIPPED (R264)
  cause : Nat := 0
  first : Nat := 0
  tripK : Nat := 0                     -- tick of the last trip
  relK : Nat := 0                      -- tick of the last release
  latch : Option (Nat × Nat) := none   -- port and `CH_STAT` of an external latch that waits for Tk + 8 µs (R265)
  a : PlaneCh := {}
  b : PlaneCh := {}
  sent : Bool := false                 -- an express frame named the channel since its last release (R265)
deriving DecidableEq, Repr, Inhabited

/-- A committed SERAC command that waits for Tk + 8 µs: 1 RELEASE, 2 TRIP (R271). -/
structure SerCmd where
  cmd : Nat
  sel : Nat
  first : Nat
  num : Nat
deriving DecidableEq, Repr, Inhabited

/-- Serac state beyond its registers and the HOT report. -/
structure SerSt where
  ch : SMap SerCh := []
  tmplA : List SeracRec := []          -- each plane's own copy of the templates in force (R250)
  tmplB : List SeracRec := []
  cmds : List SerCmd := []
  zoneOrd : List (Nat × Nat) := []     -- zone quenches ordered since the last verdict, with the cause bit (R261)
  bayOrd : Option Nat := none
  disHist : SMap (List Nat) := []      -- per zone, its disagreement ticks in the span, newest first (R267)
  inj : Option (Nat × Nat) := none     -- channel and plane of a pending injection (R269)
  fireLast : Bool := false             -- a check with a fire bit fired in the last verdict (R270)
deriving DecidableEq, Repr, Inhabited

/-! ### Graupel engines (chapter 09) -/

/-- The channel run an engine's window task is in, or was last in (R216, R220, R222, R225). -/
structure GRun where
  live : Bool := false
  sched : Nat := 0                     -- index of the schedule entry
  kernel : Nat := 0
  cls : Nat := 2                       -- 0 REG, 1 OTHER, 2 a ROM kernel
  cycCh : Nat := 0
  base : Nat := 0                      -- byte offset of the kernel's code in its program memory bank
  ninstr : Nat := 0
  cbase : Nat := 0                     -- word index of its constants in the bank
  nconst : Nat := 0
  pc : Nat := 0
  cyc : Nat := 0
  ready : SMap Nat := []               -- per register code, the cycle from which its result may be used
  reps : List (Nat × Nat × Nat) := []  -- repeat stack, innermost first: first, last, iterations left
deriving DecidableEq, Repr, Inhabited

/-- An engine's memories, register banks and sequencer. -/
structure Eng where
  x : Memory := []
  y : Memory := []
  p : Memory := []                     -- both program memory banks
  sreg : SMap Nat := []                -- the sample task's registers, by code
  wreg : SMap Nat := []                -- the window task's registers
  run : GRun := {}
  starts : List Nat := []              -- sample starts pending, as block numbers 16w + b
  nextStart : Nat := 0                 -- block number of the next start to queue
  entry : Nat := 0                     -- window task: entry and channel of the next run
  chan : Nat := 0
  stop : Bool := false                 -- no further runs in this tick (R227)
  jn : Nat := 0                        -- journal entries of this tick
  cycF : Nat := 0                      -- cycles of this tick: FINISH, CONTROL, sample task
  cycC : Nat := 0
  cycS : Nat := 0
deriving DecidableEq, Repr, Inhabited

/-! ### Regulation (chapter 06) -/

/-- What the regulator keeps of a channel beyond its HOT state. -/
structure RegCh where
  mode : Nat := 0                      -- the mode last regulated
  rest : Bool := false                 -- the demand is invalid or unavailable: REST until a new one
  fresh : Bool := false                -- a demand has taken effect since the last run
  resume : Bool := false               -- the mode starts or resumes with the next tick that runs it (R147, R157)
  low : Bool := false                  -- PULSE is at `I_ALT`
  u : Int := 0                         -- the output of this tick's loop within limits 1 to 3, Q20 (R146)
  loop : Nat := 0                      -- the loop that ran in this tick: 0 none, 1 voltage, 2 power
  ho : Nat := 0                        -- HOLDOVER: 1 capture, 2 range, 3 float
  edge : Bool := false                 -- PULSE has just changed level
  started : Bool := false              -- CONTACT mode has started its check
  ctReq : Bool := false                -- a REST step asks for a contact check
  lastV : Option Int := none           -- latest VALID voltage reading, LSB
  held : Nat := 0                      -- ticks held in STALE_HOLD
  p : Int := 0                         -- last proportional term of the power loop
  toned : Bool := false                -- the last frame carried tones
  tone : Bool := false                 -- an impedance lock-in window is open (R154)
deriving DecidableEq, Repr, Inhabited

/-! ### Grading (chapter 08) -/

/-- A fit point of R202: its number, the sum of its readings and their count, the sum of its temperatures, whether one reading
had none, and its charge in nA·tick. -/
structure GPoint where
  j : Nat
  sum : Int
  n : Nat
  temp : Int
  noTemp : Bool
  q : Int
deriving DecidableEq, Repr, Inhabited

/-- A measurement area (R192): the window it holds; kind 0 where it is free. -/
structure GWin where
  kind : Nat := 0
  pset : Nat := 0
  words : List Nat := []               -- the parameter set it latched (R191)
  start : Nat := 0                     -- tick of its first reading, or of its step's start
  closed : Option Nat := none          -- its status once it has closed or ended
  tEnd : Nat := 0
  closeK : Nat := 0                    -- tick in which it closed or ended
  range : Nat := 0
  vs : List Int := [0, 0, 0]           -- DCIR: sums of voltage readings, before, A and B
  is_ : List Int := [0, 0, 0]
  tones : List (List Int) := []        -- IMPEDANCE: per tone, SV_c, SV_s, SI_c, SI_s
  clip : Bool := false
  origin : Nat := 0                    -- RELAX, HOLDOVER: the origin's cycle
  cur : GPoint := ⟨0, 0, 0, 0, false, 0⟩
  bad : Bool := false                  -- the point being formed is excluded
  hold : Int := 0                      -- HOLDOVER: `V_HOLD` of the float, µV
  pts : List GPoint := []              -- included points, oldest first
  nexcl : Nat := 0
deriving DecidableEq, Repr, Inhabited

/-- A result of a request that opened no window (R191). -/
structure GNoWin where
  kind : Nat
  status : Nat
  pset : Nat
  tick : Nat
deriving DecidableEq, Repr, Inhabited

/-- What grading keeps of a channel beyond the ledger. -/
structure GradeCh where
  a : GWin := {}
  b : GWin := {}
  noWin : List GNoWin := []
  markK : Nat := 0
  evalK : Nat := 0
  ho : Option (Nat × Nat) := none      -- a HOLDOVER request waiting for the float phase: its set and its tick
  hsat : List Nat := []                -- bins that have logged event 0x52 (R201)
  winK : Option Nat := none            -- tick in which its windows were last advanced
deriving DecidableEq, Repr, Inhabited

/-! ### Step programs (chapter 07) -/

/-- A program slot: its identity and its step words. -/
structure Prog where
  id : Nat := 0
  steps : List (List Byte) := []
deriving DecidableEq, Repr, Inhabited

/-- A barrier (R176): key scope * 2^24 + unit * 2^8 + id. -/
structure Barrier where
  gen : Nat := 0
  arrived : List Nat := []             -- channels that have arrived in the current generation
  released : List Nat := []            -- channels whose release is decided and not applied yet
deriving DecidableEq, Repr, Inhabited

/-- What the SEQ block keeps of a channel beyond its working set. -/
structure SeqCh where
  bar : Option Nat := none             -- key of the barrier the channel waits at
  noSensor : Bool := false             -- event 0x09 has been logged for this step
  toDone : Bool := false               -- a STAY timeout has been reported
  prev : Nat := 1                      -- the state before PAUSED
  vLast : Option Int := none           -- latest VALID voltage reading since the port became ACTIVE, LSB
  walk : Bool := false                 -- the SEQ block has still to execute the step at STEP (R170)
  startK : Option Nat := none          -- tick in which its step started
  ranK : Option Nat := none            -- tick in which the step kernel last treated it
  keep : List Nat := []                -- the demand of the last RUN step, which a KEEP barrier leaves in force
  endWas : Option (Nat × Nat) := none  -- tick in which CTRL's end tick was last written, and what stood there before
deriving DecidableEq, Repr, Inhabited

/-- A program load in progress, or one accepted and waiting for its commit. -/
structure SeqLoad where
  slot : Nat
  bytes : List Byte
  len : Nat
deriving DecidableEq, Repr, Inhabited

/-- The SEQ block. -/
structure SeqSt where
  progs : SMap Prog := []
  ch : SMap SeqCh := []
  bars : SMap Barrier := []
  load : Option SeqLoad := none
deriving DecidableEq, Repr, Inhabited

/-! ### DC bus (chapter 10) -/

/-- A bus sample of R237: global time in ns and mV. -/
structure BusSmp where
  t : Nat
  mv : Int
deriving DecidableEq, Repr, Inhabited

/-- The bus and chopper state beyond its registers. -/
structure NetSt where
  smp : List BusSmp := []              -- the samples of the last 700 µs, newest first
  gap : Bool := false                  -- a sense gap is present (R237)
  below : Nat := 0                     -- consecutive tick means below the level's entry threshold minus hysteresis (R238)
  ports : List Nat := []               -- ports whose channels TRIP holds (R239)
  hold : Bool := false                 -- R239 holds CHOP_EN
  chop : Bool := false                 -- the comparator path demands CHOP_EN, which only an owner drives (R244)
  mean : Int := 0                      -- last tick mean, signed mV; NET_BUS_MEAN shows its low 20 bits
  clrPend : Bool := false              -- an accepted TRIP_CLR waits for its cycle boundary
  due : Bool := false                  -- a chopper test waits for a permitted cycle boundary (R246)
  owed : Option Nat := none            -- tick in which a test fell due since which none has passed (R247)
  lastPass : Nat := 0                  -- tick of the last passed test
  run : Option (Nat × Int × Int) := none  -- running test: start in ns, V_e and V_0 in mV
  x : Int := 0                         -- X of R240 in the last tick, mW
  recs : List (Nat × Nat × Nat × Nat) := []  -- valid netting records of this cycle: node, level, surplus, deficit
deriving DecidableEq, Repr, Inhabited

/-! ### Triad (chapter 12) -/

/-- The triad beyond its registers. -/
structure TriSt where
  tcm : Memory := []
  bad : List Nat := []                 -- poisoned words of the TCM, as word addresses (R290)
  fenceK : SMap Nat := []              -- per fenced core, 1 + the tick of its fence (R286)
  reintBad : List Nat := []            -- cores whose re-integration has failed since their fence
  cores : SMap Nat := []               -- core registers a debugger has written since the cores last ran, key 256 * core + number (R296)
  replay : Bool := false               -- a debugger's action has been replayed since the last transaction (R298)
  step : Bool := false                 -- the last debugger's action was a step: its transactions are performed while halted (R296)
  runs : Nat := 0                      -- the place of the core registers' free values: the counter where the cores ran last (R296)
  judged : Bool := false               -- a TRIAD_TRANSACTION is being performed: the MPU has judged it with its own privilege (R292)
  running : List Nat := []             -- cores that run: none before the boot verdict
  pc : SMap Nat := []                  -- start address of each running core (R295, R485)
  kickK : Nat := 0                     -- tick of the last kick (R299)
  scrub : Nat := 0                     -- next word of the TCM scrubber (R290)
  commitEv : Option Nat := none        -- tick whose commit-point event the distributor has captured last (R278)
  doneEv : Option Nat := none          -- and whose tick-done event (R15)
deriving DecidableEq, Repr, Inhabited

/-! ### Safety (chapter 17) -/

/-- A confirmation record of R417 and the key it is authenticated with, as seed and transition count (log entry 30). -/
structure ConfRec where
  check : Nat
  digest : List Byte
  time : Nat
  count : Nat
  key : Nat × Nat
deriving DecidableEq, Repr, Inhabited

/-- What the evaluator keeps of a safety function. -/
structure SafeFn where
  openK : Option Nat := none           -- LOCKED: tick since which all its channels have read open without a fault
  handK : List (Option Nat) := [none, none]  -- TWOHAND: tick in which each hand was actuated
deriving DecidableEq, Repr, Inhabited

/-- A safe output's switches and tests (R413, R414). -/
structure SafeOut where
  want : Bool := false                 -- demanded on at the last verdict
  on : Bool := false                   -- both switches are on but for a test
  test : Nat := 0                      -- running test: 1 S1 off, 2 S2 off, 4 abandoned by a demand
  next : Nat := 1                      -- switch of the next test
  onK : Nat := 0                       -- tick in which it was last turned on, or tested
deriving DecidableEq, Repr, Inhabited

/-- The SAFE block beyond its registers. -/
structure SafeSt where
  filt : Nat := 0                      -- filtered input states
  low : SMap Nat := []                 -- per input, consecutive on-phases it has been low through (R404)
  xshort : List Nat := []              -- inputs found shorted at their source's last off-pulse
  stuck : List Nat := []               -- inputs found stuck low
  fn : SMap SafeFn := []
  out : SMap SafeOut := []
  unlocked : List Nat := []            -- guard functions whose lock output is on
  unlockReq : Option (Nat × Requester) := none  -- function and requester of a requested unlock (R412)
  quiet : SMap Nat := []               -- per guard function with a lock, ticks its zones have been quiet (R412)
  overs : SMap Nat := []                -- per channel, consecutive ticks with a reading above I_ALLOW (R410)
  brakeDue : SMap Nat := []            -- per axis, 1 + the tick in which its unpassed brake test fell due
  brakePos : SMap Int := []            -- per axis under test, position at the test's start
  brakeT : SMap Nat := []              -- per axis under test, the tick of its start
  brakePass : SMap Nat := []           -- per axis, tick of its last passed test
  evalK : Option Nat := none           -- tick of the last verdict
  resets : List (Nat × Nat) := []      -- accepted presses since the last verdict: reset input, length in µs
  barred : Nat := 0                    -- outputs held off after a takeover until a deliberate reset (R394)
  step1 : Option Nat := none           -- ARMED: release time of the first step, ns
  armT : Nat := 0                      -- ARMED: time of the matching write, ns
  recDue : Bool := false               -- a confirmation record is to be written
  recWait : Bool := false              -- it fell due while a host flash command ran, and waits for that command's end (R518)
  conf : Option (Nat × List Byte) := none  -- the recorded pair: check value and digest
  count : Nat := 0                     -- confirmations recorded
  brake : Nat := 0                     -- BRAKE[7:0] as driven
  tp : Nat × Nat := (0, 0)             -- a tick, and the phase of the test-pulse schedule in it (R404, R394)
deriving DecidableEq, Repr, Inhabited

/-! ### Axes (chapter 18) -/

/-- An axis controller beyond its registers. -/
structure AxisSt where
  raw : Nat := 0                       -- last encoder position, 24 bits
  pos : Int := 0                       -- multi-turn position, 1/2^24 revolution
  encOk : Bool := false                -- a position has been read
  encBad : Nat := 0                    -- consecutive failed encoder reads
  spd : Int := 0                       -- encoder speed, 0.1 rpm
  skips : Nat := 0                     -- consecutive skipped periods
  intD : Int := 0                      -- current integrators, nV
  intQ : Int := 0
  vD : Int := 0                        -- voltages applied, nV
  vQ : Int := 0
  heldD : Int := 0                     -- withheld volt-seconds for the next period, nV
  heldQ : Int := 0
  iD : Int := 0                        -- currents, µA
  iQ : Int := 0
  iRef : Int := 0                      -- q-current reference, µA
  ramp : Int := 0                      -- ramped speed target, 1/20,000 rpm
  intS : Int := 0                      -- speed integrator, 1/20 µA
  intF : Int := 0                      -- force integrator, 10^-5 rpm
  mode : Nat := 0                      -- mode and direction in force
  dir : Nat := 0
  set : List Nat := [0, 0, 0, 0, 0]    -- set values in force: SPEED, ACCEL, POS, F_SET, F_CONTACT
  touch : Bool := false                -- FORCE: contact has been reached
  holdN : Nat := 0                     -- consecutive ticks within the holding condition
  hold : Int := 0                      -- encoder position held in ARMING
  keBad : Nat := 0                     -- consecutive cycles with a deviating Ke_est
  keN : Nat := 0                       -- ticks of the cycle so far in RUN, for R433
  keMin : Nat := 0                     -- least and greatest |speed| in them
  keMax : Nat := 0
  keV : Int := 0                       -- sum of v_q - RS × i_q in them, pV
  keW : Int := 0                       -- sum of the speeds in them
  short : Bool := false                -- RUN: this tick is spent in winding short (R428)
  force : Int := 0                     -- latest force, mN
  ice : Bool := false                  -- icefall step 3 has stopped it and its brake is still to be applied
  fbWait : Bool := false               -- STOPPING: at standstill, waiting for BRAKE_FB
  stopK : Nat := 0                     -- tick in which STOPPING began
  slow : Bool := false                 -- AXIS_STOP_SLOW has been raised for this stop
deriving DecidableEq, Repr, Inhabited

/-! ### Auxiliary converters (chapter 19) -/

/-- A converter's live sequence and its pass. -/
structure AuxConv where
  trig : Nat := 0
  axis : Nat := 0
  ofs : Nat := 0
  words : List Nat := []               -- entry words
  cal : List Nat := []                 -- per entry, the AUX_CAL word in force in this pass
  cnt : Nat := 0                       -- conversions of the entry so far
  sum : Int := 0
  clip : Bool := false
  open_ : Bool := false
  inj : Bool := false
  late : Bool := false                 -- R443: results of this pass carry LATE
  capBad : Bool := false               -- a conversion of this entry has been summed by a capture
deriving DecidableEq, Repr, Inhabited

/-- A calibration capture of R450, in progress or held: its sums and counts per converter of the pair. -/
structure AuxCap where
  zero : Bool
  input : Nat
  gain : Nat
  trim : Bool
  n : Nat
  startK : Nat
  s0 : Int := 0
  s1 : Int := 0
  n0 : Nat := 0
  n1 : Nat := 0
  bad : Bool := false
deriving DecidableEq, Repr, Inhabited

/-- The AUX block beyond its registers. -/
structure AuxSt where
  conv : SMap AuxConv := []
  latest : SMap (Int × Nat) := []      -- per input, its latest result and the time of it in ns
  run : Option AuxCap := none
  zero : Option AuxCap := none
  full : Option AuxCap := none
deriving DecidableEq, Repr, Inhabited

/-! ### Start-up, power and thaw (chapters 20, 21) -/

/-- The start-up sequence and what it found. -/
structure BootSt where
  step : Nat := 0                      -- step of R475 in progress; 0 in power-on reset, 8 the boot firmware, 9 done
  held : Bool := false                 -- held in reset by a start-up failure (R477)
  halted : Bool := false               -- BOOT halted (R486)
  cause : Nat := 0                     -- reset source of this start-up
  strapCalve : Bool := false           -- TRIAD_CALVE and PAIR_RANK as sampled at the release of the last reset
  strapRank : Bool := false
  calved : Bool := false               -- the triad is CALVED since that reset (R294)
  dom : Nat := 0                       -- domain being switched on, 0 none
  tries : Nat := 0                     -- its attempts
  offWait : Bool := false              -- it is off for 1 ms before a retry
  retried : List (Nat × Nat) := []     -- domains retried in this sequence, with their attempts
  failed : Option (Nat × Nat) := none  -- domain and attempts of a failed wake not yet reported
  faultLow : Bool := false             -- a failed wake keeps FAULT_N low (R464)
  tjHold : Bool := false               -- held in power-on reset above 135 °C (R538)
  version : Nat := 0                   -- rollback version of the running boot image
  memTest : Nat := 0                   -- memory under a host test
  scan : Bool := false                 -- internal scan is enabled (R497)
  slices : List Nat := []              -- memories that a slice has run on in this tick (R487)
deriving DecidableEq, Repr, Inhabited

/-- The boundary-scan port: the instruction in force and what its data register captured. -/
structure TapSt where
  ir : Nat := 0                        -- 0 BYPASS, 1 IDCODE, 2 SAMPLE/PRELOAD, 3 EXTEST, 4 HIGHZ, 5 internal scan
  dr : Nat := 0
deriving DecidableEq, Repr, Inhabited

/-- The power sequencer and the thaw port beyond their registers; all of it lies in PD_AON. -/
structure PwrSt where
  req : Option Nat := none             -- an accepted sleep request: the cycle at whose first tick it is checked
  entryK : Option Nat := none          -- tick at which the entry began (B of R460)
  wake : Bool := false                 -- a wake event latched during entry (R461)
  timer : Nat := 0                     -- ms the AON timer was started from, 0 not running
  refPend : Bool := false              -- the move to REFCLK waits for the next tick edge (R465)
  offPend : Nat := 0                   -- domains to be switched off after Tk + 50 µs (R456)
  onPend : Nat := 0                    -- domains switched on by a policy, serving from the next cycle
  onCyc : Nat := 0                     -- that cycle
  faultKeep : Option Bool := none      -- the level FAULT_N keeps from the entry into dormancy to the next boot verdict
  thawOut : List Byte := []            -- bytes the thaw port returned
  thawAck : Bool := true               -- whether the last transfer was acknowledged
  zOut : Nat := 0xFF                   -- outcome of the last thaw ZONE command
  tap : TapSt := {}
deriving DecidableEq, Repr, Inhabited

/-! ### Rime (chapters 14, 15) -/

/-- A frame as a receive buffer holds it (R335): header and payload, arrival, and whether the copy is channel B's. -/
structure RxFrame where
  bytes : List Byte
  sof : Nat
  chB : Bool
deriving DecidableEq, Repr, Inhabited

/-- A Rime controller beyond its registers: the segment's, or the trunk's with trunk cycles, gateways and segments in the
place of cycles, status frames and nodes (R339, R340, R369). -/
structure RimeCtl where
  next : Option Nat := none            -- the state that takes effect at the next cycle boundary
  been : Bool := false                 -- it has been INTEGRATED since reset
  quietK : Nat := 0                    -- tick since which the medium has been silent
  attempts : Nat := 0                  -- the trunk's attempts; the segment's are in RIMEL_CS
  att : Nat := 0                       -- CS_LEAD: attempt cycle
  conf : List Nat := []                -- CS_LEAD: confirming nodes
  adopted : Nat := 0                   -- CHECK: node of the adopted frame
  adCyc : Nat := 0                     -- and the cycle counter it carried
  checked : Bool := false              -- CHECK: its frame of the next cycle has passed
  since : Nat := 0                     -- cycle boundaries passed since the adoption
  joinN : Nat := 0                     -- JOIN: consecutive good cycles
  sent : List Nat := []                -- slots in which it has sent in this cycle
  own : Bool := false                  -- its status frame of this cycle was read back valid
  ownFail : List Nat := []             -- channels on which it failed
  ownBad : Nat := 0                    -- consecutive cycles without a valid own status frame
  alone : Nat := 0                     -- consecutive cycles without a valid frame of another node
  seen : List Nat := []                -- owners of the valid frames of this cycle
  chOk : List Nat := []                -- channels that have carried a valid frame in this cycle
  chSilent : List Nat := [0, 0]        -- per channel, consecutive cycles silent while the other was not
  chDown : List Nat := []              -- channels that have failed and not carried a valid frame since (R334)
  rx : SMap RxFrame := []              -- valid frames of this cycle, by slot
  prev : SMap RxFrame := []            -- those of the cycle before, which the receive buffers hold
  truncs : List Nat := []              -- cycle counters of the last cycles with a truncation, newest first
  truncSlot : Nat := 0                 -- slot of the last truncation
  blocked : Bool := false              -- the guardian waits to be armed: after a block of the trunk's, and after GCLK has failed
deriving DecidableEq, Repr, Inhabited

/-- A mode change request under way in a segment (R363, R364). -/
structure McReq where
  mode : Nat
  cyc : Nat                            -- cycle c
  mine : Bool                          -- this device requests it
  echo : Bool                          -- this device echoes it
  nodes : List Nat                     -- nodes that carried request or echo in c + 1 or c + 2
  agreed : Option Nat := none          -- on a line with a trunk: the trunk cycle in which the segment agreed
deriving DecidableEq, Repr, Inhabited

/-- A line mode change as a gateway follows it (R365). -/
structure LineReq where
  mode : Nat
  t : Nat                              -- trunk cycle T
  mine : Bool                          -- this gateway carries the originating request
  echo : Bool                          -- its segment has agreed
  gws : List Nat                       -- segments whose gateways carried request or echo in T + 1 or T + 2
  out : Option (Bool × Nat)            -- the outcome found, with the boundary
deriving DecidableEq, Repr, Inhabited

/-- The Rime blocks and the time base beyond their registers. -/
structure RimeSt where
  seg : RimeCtl := {}
  trunk : RimeCtl := {}
  modeOn : Bool := false               -- a Rime mode has come into force since reset (R338)
  joinMode : Option Nat := none        -- mode to switch to once CHECK has passed (R342)
  move : Option Int := none            -- adopted time minus own time in ns, not yet taken by the tick generator (R360)
  slew : Int := 0                      -- phase still to be slewed, ns
  devs : List (Nat × Nat × Int) := []  -- deviations of this cycle's valid SYNC frames: slot, node, d
  refs : List (Nat × Nat × Int × Bool) := []  -- its reference frames: rank, node, d, `LINE`
  lastRanks : List Nat := []           -- ranks of the reference frames of the cycle before
  hist : List (Nat × List (Nat × Int)) := []  -- per cycle, newest first, the senders its method used with their d
  gdevs : List Int := []               -- deviations of SYNC frames on the guardian's own count
  noRef : Nat := 0                     -- consecutive cycles without a reference frame
  cNext : Int := 0                     -- C formed for the next cycle
  cCur : Int := 0                      -- C and line correction spread over this cycle
  adj : Int := 0                       -- their share in this tick, ns
  ext : Option Int := none             -- line correction received, to be added in the next trunk cycle's first cycle
  authTag : Nat := 0                   -- failures of step 4 in this cycle: tags and epochs
  authEpoch : Nat := 0
  keys : Nat := 0                      -- line key words written since reset
  status : SMap (Nat × List Byte) := []  -- per node, cycle number and payload of its last valid status frame
  gws : SMap (Nat × List Byte) := []   -- per segment, trunk cycle and block of its gateway's last valid frame
  trefs : List (Nat × Int) := []       -- trunk reference frames of this trunk cycle: rank, d
  down : Option (Nat × List Byte) := none  -- the last valid downlink payload and its cycle number
  arr : List (Nat × Nat) := []         -- barriers arrived locally at the last cycle boundary, with their generations
  arrWas : List (Nat × Nat) := []      -- and at the one before
  isoTicks : Nat := 0                  -- ticks of the isolation (R362, R551)
  isoDone : Bool := false              -- TIME_ISO_LIMIT has been raised since the loss
  mcWait : Option Nat := none          -- an accepted request that has not started
  mc : Option McReq := none
  line : Option LineReq := none
  txSlot : List Byte := []             -- last frames sent, each with the channels it went out on in front
  txRef : List Byte := []
  txDown : List Byte := []
  txTrunk : List Byte := []
  txTref : List Byte := []
deriving DecidableEq, Repr, Inhabited

/-! ### Schrund (chapter 16) -/

/-- What the partner's last valid TICK frame says (R379). -/
structure SchPeer where
  safe : Bool := false
  role : Nat := 0
  rank : Nat := 0
  own : Bool := false
  level : Nat := 0
  ports : List Nat := []               -- ports ACTIVE at the partner
  k : Nat := 0
deriving DecidableEq, Repr, Inhabited

/-- The pair logic beyond its registers. -/
structure SchSt where
  start : Bool := false                -- the role machine is in START (R396)
  startK : Nat := 0                    -- tick in which it entered START
  waitOver : Bool := false             -- WAIT_MS has passed without a link
  lanes : Nat := 0                     -- lanes that hold block lock
  up : Bool := false                   -- the link is up
  seen : Bool := false                 -- a valid TICK frame has arrived since the link came up
  got : Bool := false                  -- this tick's TICK frame was valid
  miss : Nat := 0                      -- consecutive misses
  peer : SchPeer := {}
  level : Nat := 2                     -- the partner's level of this tick; CURB until it has arrived (R244)
  tickD : Option Int := none           -- d of the last TICK frame against this device's time (R381)
  orders : List (Nat × Nat × Nat) := []  -- orders that take effect at Tk + 40 µs
  claim : Bool := false                -- a claim has been made and not been sampled
  inputs : List (Nat × Staged) := []   -- inputs received, with their cycle numbers
  payload : List Byte := []            -- payload bytes of the inputs of the cycle that is open
  closed : Option Nat := none          -- the last cycle whose CLOSE matched
  gap : Nat := 0                       -- why the last CLOSE did not: 1 count, 2 CRC
  txIn : List Staged := []             -- inputs sent of the cycle that has closed
  tko : Option Nat := none             -- a takeover waiting for its commit point: 0 heartbeat, 1 SAFE
  det : Option Nat := none             -- a detach waiting for its commit point, with its cause
  lossCyc : Nat := 0                   -- the cycle in which the heartbeat was lost
  saved : Option SavedState := none
  txSaved : Option SavedState := none
  resume : Option SavedState := none   -- saved state a new owner's safe outputs may still be restored from (R394)
  cach : List (Nat × SMap Nat) := []   -- the cached digests of the last two folds, newest first (R388)
  digests : Option (Nat × List (Nat × Nat) × List Nat) := none  -- digests of the last cycle: groups (HOT, cached), classes
  changed : Bool := false              -- a variant switch or LOAD_ACTIVE committed within this cycle (R389)
  wasChanged : Bool := false           -- and within the cycle before
  lateCyc : List Nat := []             -- cycles whose fold was late, newest first
  equal : Nat := 0                     -- consecutive cycles with every digest equal, while joining
  rsCls : List Nat := []               -- classes under resynchronisation
  rsNext : Nat := 0                    -- channels of the group at the front already treated
  engCyc : Nat := 0                    -- the cycle in which the device became ENGAGED
  txRs : List Resync := []             -- what was captured in this tick
  rsK : Nat := 0                       -- first tick of the captures asked for
  rsGrp : List Nat := []               -- groups under resynchronisation, 256 the idle channels
  txReq : List Nat := []               -- last RS_REQ sent: groups, and 0x200 + class
  install : List Resync := []          -- batches received for the next commit point
  rsHold : List Nat := []              -- channels whose fold is held from capture to install
  rsHist : SMap (List Nat) := []       -- per group, and 0x200 + class, the ticks of its last starts
  bulk : SMap (List Byte) := []        -- bytes received in BULK pieces, by kind * 256 + number
  txBulk : List (Nat × Nat × List Byte) := []  -- data last sent in BULK frames: kind, slot, bytes (R57, R163, R396)
  joinSent : Bool := false             -- the data of the partner's join has been sent
  loaded : Bool := false               -- joining: image and programs have been accepted
  modes : Bool := false                -- joining: the Zones class has been installed
  bulkEnd : Bool := false              -- joining: the last BULK frame of the join has arrived
  toEng : Bool := false                -- joining: the join is complete; ENGAGED from the next cycle boundary
  toActive : Bool := false             -- SOLO: the partner has completed its join
  toSolo : Bool := false               -- ACTIVE: SOLO from the next cycle boundary
  joinK : Nat := 0                     -- tick in which the join started
  failK : Option Nat := none           -- tick in which the last join failed
  quiet : Bool := false                -- safe state, and the partner runs alone: no command frames or markers (R399)
  txTick : List Byte := []             -- last TICK frame sent
deriving DecidableEq, Repr, Inhabited

/-! ### Zone requests (R31, R526) -/

/-- A zone mode request waiting for its boundary: from 0 the mailbox, 1 the triad, 2 the thaw port, 3 the ACTIVE partner; the
mailbox tag. -/
structure ZReq where
  zone : Nat
  mode : Nat
  src : Nat
  tag : Nat
  cyc : Nat                            -- cycle (of ⌊k / 20⌋) at whose first tick it commits
deriving DecidableEq, Repr, Inhabited

end Sys2Proof.Machine
end

