-- ==== Sys2Proof/Machine/State.lean ====
section
/-!
DEFINITION. The state of the block: everything the spec gives it, as plain data, and the state right after reset.
-/
namespace Sys2Proof.Machine

/-- No command of this block stops the machine with a fault: every error the spec names is an error response, a code in
a register or a Moraine event, all of which are states. The type has no constructor. -/
inductive Fault where
deriving DecidableEq, Repr

/-- Why a command has no meaning in this model. -/
inductive Refusal where
  /-- Raised by an arm of `exec` whose meaning is not written; safe. -/
  | notModelled (mnemonic : String)
deriving DecidableEq, Repr

/-- The life-cycle fuses of R491. -/
structure Fuses where
  state : Nat := 0                     -- 0 BLANK, 1 PROVISIONED, 2 DEPLOYED, 3 RETURNED
  target : Nat := 0                    -- target of a transition whose completion bit is not blown, 0 none
  trans : Nat := 0                     -- bits blown of the transition count
  bootKeys : List (Option (Nat × Nat)) := [none, none, none, none]
  bootRev : Nat := 0                   -- revocation bits of the boot key slots
  firnKeys : List (Option (Nat × Nat)) := [none, none, none, none]
  firnRev : Nat := 0
  rollback : Nat := 0                  -- bits blown of the rollback counter
  calve : Bool := false
  calveRev : Bool := false
  dbg : Bool := false
  dbgRev : Bool := false
  seed : Nat := 0                      -- device seed, 256 bits
  serial : Nat := 0
  newBoot : List (Option (Nat × Nat)) := []  -- keys of the provisioning image, while a move to PROVISIONED is under way
  newFirn : List (Option (Nat × Nat)) := []
deriving DecidableEq, Repr, Inhabited

/-- What survives every reset: fuses, flash and the confirmation records in it (R417, R484, R491, R517). -/
structure Nv where
  fuse : Fuses := {}
  flash : Memory := []                 -- flash bytes, each stored as the complement of its value
  conf : List (Option ConfRec) := [none, none]  -- the two copies of the confirmation record
deriving DecidableEq, Repr, Inhabited

/-- The device: its registers and every memory and engine behind them. -/
structure Dev where
  regs : SMap Nat := []                -- register fields that differ from their reset values, key addr * 32 + lowest bit
  k : Nat := 0                         -- the tick count of R24
  winTick : Option Nat := none         -- after a step, the tick whose marker opened the window that has just closed (R361)
  phase : Nat := 0                     -- how far tick k has come: 0 edge, 1 deadline, 2 commit, 3 verdict, 4 assembly, 5 sent
  free : Nat := 0                      -- the model's own counter of free values used
  resp : Resp := {}
  bootOk : Bool := false               -- the boot verdict has passed (R504)
  staged : List Staged := []           -- writes staged for the next commit point (R17)
  hostCyc : List Staged := []          -- host writes of the cycle on an ACTIVE device (R18)
  apply : Bool := false                -- a committed write or a forwarded input is being applied
  zreq : List ZReq := []
  neve : Memory := []                  -- Névé banks, offsets from 0x0100_0000
  dram : Memory := []                  -- DRAM outside the ledger home, DRAM addresses
  mor : MorSt := {}
  firn : FirnSt := {}
  floe : SMap FloePort := []
  meas : MeasSt := {}
  led : LedSt := {}
  ser : SerSt := {}
  net : NetSt := {}
  tri : TriSt := {}
  rime : RimeSt := {}
  sch : SchSt := {}
  safe : SafeSt := {}
  axis : SMap AxisSt := []
  aux : AuxSt := {}
  boot : BootSt := {}
  pwr : PwrSt := {}
  eng : SMap Eng := []
  chan : SMap RegCh := []
  grade : SMap GradeCh := []
  seq : SeqSt := {}
  host : HostSt := {}
  recq : List (List Byte) := []        -- result records waiting for the host (R207)
  -- regulation, grading and program state as the CONTROL window found it (R227)
  chanWas : SMap RegCh := []
  gradeWas : SMap GradeCh := []
  seqWas : SMap SeqCh := []
  barsWas : SMap Barrier := []
  evqWas : List LedEv := []
  inc : List (Nat × Nat × Nat) := []   -- groups incomplete in this tick: group, engine, why (R306)
deriving DecidableEq, Repr, Inhabited

/-- The block: the commands that wait, first in first out, what survives every reset, and the device. -/
structure State where
  pending : List Instr := []
  nv : Nv := {}
  d : Dev := {}
deriving DecidableEq, Repr

/-- The block right after a power-on reset has been released and before any start-up command has come. -/
def State.reset : State := {}

end Sys2Proof.Machine
end

