-- ==== Sys2Proof/Machine/Ops.lean ====
section
/-!
DEFINITION. The named operations over the device: register fields, free values, raising a Moraine event, signalling a
host vector, the error response of R502, and the lookups of zones, channels and groups that every family uses.
-/
namespace Sys2Proof.Machine

/-- The key of a register field in `Dev.regs`. -/
def Fld.key (f : Fld) : Nat := f.addr * 32 + f.lo

/-- Read a register field. -/
def rd (d : Dev) (f : Fld) : Nat := SMap.get f.rst d.regs f.key

/-- Read a one-bit register field. -/
def rdB (d : Dev) (f : Fld) : Bool := rd d f % 2 == 1

/-- Write a register field; the value is cut to the field's width (R10). -/
def wr (d : Dev) (f : Fld) (v : Nat) : Dev := { d with regs := SMap.set f.rst d.regs f.key (v % 2 ^ f.wd) }

/-- Write a one-bit register field. -/
def wrB (d : Dev) (f : Fld) (b : Bool) : Dev := wr d f (b2n b)

/-- Add to a counter field that saturates. -/
def incSat (d : Dev) (f : Fld) (n : Nat) : Dev := wr d f (satAdd f.wd (rd d f) n)

/-- Add to a counter field that wraps. -/
def incWrap (d : Dev) (f : Fld) (n : Nat) : Dev := wr d f (rd d f + n)

/-- A whole-number quantity a / b (b ≠ 0) of no stated rounding: exact, or one of its two neighbours (log entry 22). -/
def qdiv (a b : Int) : Int := if a % b = 0 then a / b else a.fdiv b + (Config.openRound a b % 2 : Nat)

/-- Add to a saturating counter of `n` bits that starts at bit `lo` of a field. -/
def incSatPart (d : Dev) (f : Fld) (lo n a : Nat) : Dev :=
  let v := rd d f
  wr d f (v - bits v lo n * 2 ^ lo + satAdd n (bits v lo n) a * 2 ^ lo)

/-- Replace `n` bits at bit `lo` of a field. -/
def wrPart (d : Dev) (f : Fld) (lo n v : Nat) : Dev :=
  let o := rd d f
  wr d f (o - bits o lo n * 2 ^ lo + (v % 2 ^ n) * 2 ^ lo)

/-- Bit `i` of a register array whose 32-bit elements are `f 0`, `f 1`, …. -/
def rdBit (d : Dev) (f : Nat → Fld) (i : Nat) : Bool := bit (rd d (f (i / 32))) (i % 32)

/-- Set bit `i` of such an array. -/
def wrBit (d : Dev) (f : Nat → Fld) (i : Nat) (b : Bool) : Dev :=
  wr d (f (i / 32)) (setBit (rd d (f (i / 32))) (i % 32) b)

/-- Bit `i` of one field. -/
def rdFBit (d : Dev) (f : Fld) (i : Nat) : Bool := bit (rd d f) i

/-- Set bit `i` of one field. -/
def wrFBit (d : Dev) (f : Fld) (i : Nat) (b : Bool) : Dev := wr d f (setBit (rd d f) i b)

/-- A free value, fresh at each use (log entry 7). -/
def freeVal (d : Dev) : Nat := Config.freeNat d.free

/-- The device after a free value has been used. -/
def useFree (d : Dev) : Dev := { d with free := d.free + 1 }

/-- Global time at the current tick edge, ns from the line epoch (R24). -/
def tickNs (d : Dev) : Nat := d.k * 50000

/-- A time within the current tick, in ns: the tick edge plus an offset below 50 µs that the spec leaves open. -/
def nowNs (d : Dev) : Nat := tickNs d + freeVal d % 50000

/-- The Rime cycle counter of R24. -/
def cycNo (d : Dev) : Nat := d.k / 20

/-- The 24-bit Rime cycle counter of R24. -/
def cyc24 (d : Dev) : Nat := d.k / 20 % 2 ^ 24

/-- Raise a Moraine event (R302): it waits for the next pass. Its time within the tick is left open (log entry 9). -/
def raise (d : Dev) (src ut ui d0 d1 : Nat) : Dev :=
  let e : MorEv := { src := src, ut := ut, ui := ui, d0 := d0 % 2 ^ 32, d1 := d1 % 2 ^ 32, k := d.k,
                     subt := freeVal d % 50000, inj := false }
  useFree { d with mor := { d.mor with raised := d.mor.raised ++ [e] } }

/-- Set the cause bit of a host vector (R511). -/
def irq (d : Dev) (v : Nat) : Dev := wrFBit d Reg.HOST_IRQ_STAT_CAUSE v true

/-- Requester codes of `BIST_INTEST_REQ`. -/
def reqCode : Requester → Nat
  | .host => 0
  | .triad => 1
  | .core1 => 1
  | .core2 => 1
  | .debugger => 2
  | .dma => 3

/-- Whether a requester is the triad or one of its cores. -/
def isTriad : Requester → Bool
  | .triad => true
  | .core1 => true
  | .core2 => true
  | _ => false

/-- Error response codes of R502. -/
def errFirewall : Nat := 1
def errAlign : Nat := 2
def errUnmapped : Nat := 3
def errRefused : Nat := 4
def errPoison : Nat := 5
def errInTest : Nat := 6
def errDomainOff : Nat := 7
def errBoot : Nat := 8

/-- Whether an address lies in the paged DRAM window (R522). -/
def inWindow (addr : Nat) : Bool := decide (0x80000000 ≤ addr ∧ addr < 0x100000000)

/-- The page a requester has in use (R501). -/
def pageOf (d : Dev) (req : Requester) : Nat :=
  if isTriad req then rd d Reg.DRC_TWIN_PAGE else rd d Reg.HOST_DWIN_PAGE

/-- Log an access as a firewall violation is logged (R9, R12, R502): the violation registers, the count, the event and
vector 13. -/
def fwlLog (d : Dev) (req : Requester) (addr code : Nat) (write : Bool) : Dev :=
  let d := wr d Reg.FWL_VADDR_ADDR addr
  let d := wr d Reg.FWL_VREQ_REQ (reqCode req)
  let d := wr d Reg.FWL_VREQ_CODE code
  let d := wrB d Reg.FWL_VREQ_WRITE write
  let d := wr d Reg.FWL_VPAGE_PAGE (if inWindow addr then pageOf d req else 0)
  let d := wrB d Reg.FWL_VPAGE_WIN (inWindow addr)
  let d := incSat d Reg.FWL_VCNT_CNT 1
  let d := raise d Src.FWL_VIOL 0 0 addr (reqCode req + 16 * code + 256 * b2n write)
  irq d 13

/-- The error response of R502 to an access. -/
def errResp (d : Dev) (req : Requester) (addr code : Nat) (write : Bool) : Dev :=
  { fwlLog d req addr code write with resp := { err := code, data := 0 } }

/-- A write that a rule refuses (R12): an error response with code REFUSED. -/
def refuseW (d : Dev) (req : Requester) (addr : Nat) : Dev := errResp d req addr errRefused true

/-- A served access. -/
def okResp (d : Dev) (data : Nat := 0) : Dev := { d with resp := { err := 0, data := data } }

/-! ### The bay -/

/-- The active image; an empty one in BOOT. -/
def img (d : Dev) : Image := d.firn.act.getD {}

/-- Zones with a record in the active image (log entry 10). -/
def zones (d : Dev) : List Nat := (img d).zones.map (·.zone)

/-- The mode of a zone, coded as in R45. -/
def zmode (d : Dev) (z : Nat) : Nat := rd d (Reg.SYS_ZMODE z)

def modeBoot : Nat := 0
def modeCommission : Nat := 1
def modeProduction : Nat := 2
def modeService : Nat := 3
def modeSelftest : Nat := 4
def modeDormant : Nat := 5

/-- SERVICE or COMMISSION. -/
def isMaint (m : Nat) : Bool := m == modeCommission || m == modeService

/-- The governing mode of a device-wide RWS field permits a write (R13). -/
def allMaint (d : Dev) : Bool := d.firn.act.isSome && (zones d).all (fun z => isMaint (zmode d z))

/-- Whether the device owns the gated outputs (R376, R377): the owner of a pair, or a device without one. A claim that has
not been sampled yet owns nothing. -/
def ownsGate (d : Dev) : Bool := !rdB d Reg.SCH_CFG_PAIR_EN || (rdB d Reg.SCH_STAT_OWN && !d.sch.claim)

/-- Whether the device is in BOOT. -/
def inBoot (d : Dev) : Bool := rdB (d) Reg.SYS_PROPS_BOOT || d.firn.act.isNone

/-- Pair role of SYS_PROPS: 0 SOLO, 1 ACTIVE, 2 STANDBY. -/
def role (d : Dev) : Nat := rd d Reg.SYS_PROPS_ROLE
def isActive (d : Dev) : Bool := role d == 1
def isStandby (d : Dev) : Bool := role d == 2

/-- Triad configuration of SYS_PROPS: 0 VOTED, 1 DUPLEX, 2 CALVED. -/
def triCfg (d : Dev) : Nat := rd d Reg.SYS_PROPS_TRIAD
def isCalved (d : Dev) : Bool := triCfg d == 2

/-! ### What a transaction of the triad meets (R283, R292, R295, R296) -/

/-- The core a requester is in CALVED. -/
def coreOf : Requester → Nat
  | .core1 => 1
  | .core2 => 2
  | _ => 0

/-- A register field of the MPU bank of a core: cores 1 and 2 have banks of their own in CALVED (R295). -/
def mpuFld (core : Nat) (f : Fld) : Fld := { f with addr := f.addr + core * 2 ^ 40 }

/-- Whether an enabled MPU region of a core's bank covers an address. -/
def mpuCovers (d : Dev) (core r addr : Nat) : Bool :=
  let n := 2 ^ rd d (mpuFld core (Reg.TRI_MPU_ATTR_SIZE r))
  let base := rd d (mpuFld core (Reg.TRI_MPU_BASE_BASE r)) * 4096
  rdB d (mpuFld core (Reg.TRI_MPU_BASE_EN r)) && addr / n == base / n

/-- The region that decides an address: the highest-numbered one that covers it. -/
def mpuRegion (d : Dev) (core addr : Nat) : Option Nat := ((List.range 16).reverse).find? (fun r => mpuCovers d core r addr)

/-- Whether the MPU permits a transaction (R292). -/
def mpuAllows (d : Dev) (core : Nat) (x : BusOp) : Bool :=
  match mpuRegion d core x.addr with
  | none => !x.user
  | some r =>
    let f := if x.user then (if x.fetch then Reg.TRI_MPU_ATTR_UX else if x.write then Reg.TRI_MPU_ATTR_UW else Reg.TRI_MPU_ATTR_UR)
      else (if x.fetch then Reg.TRI_MPU_ATTR_SX else if x.write then Reg.TRI_MPU_ATTR_SW else Reg.TRI_MPU_ATTR_SR)
    rdB d (mpuFld core (f r))

/-- The access fault that the triad takes in place of an answer: the model's own code beside those of R502 (log entry 237). -/
def errMpu : Nat := 10

/-- A transaction that the MPU denies: it is suppressed, and the triad takes the access fault. -/
def mpuDeny (d : Dev) (core : Nat) (x : BusOp) : Dev :=
  let who := if isCalved d then core else 3
  let typ := b2n x.write + 2 * b2n x.fetch + 4 * b2n x.user
  let d := wr d Reg.TRI_MPU_VADDR_ADDR x.addr
  let d := wr (wr d Reg.TRI_MPU_VINFO_CORE who) Reg.TRI_MPU_VINFO_TYPE typ
  let d := raise (wrB d Reg.TRI_STAT_MPU_EV true) Src.TRI_MPU 0 0 x.addr (who + 4 * typ)
  { d with resp := { err := errMpu, data := 0 } }

/-- The transaction that a register command of the triad stands for: a supervisor's (log entry 237). -/
def supOp (addr : Nat) (write : Bool) : BusOp := { addr := addr, data := 0, be := 15, write := write, fetch := false, user := false, size := 4 }

/-- Whether the life-cycle state permits triad debug (R296, R496). -/
def debugPermitted (d : Dev) : Bool := rd d Reg.LCY_STATE_STATE != 2 || rdB d Reg.LCY_STATE_DBG

/-- An access that is not made at all and gets no answer: the triad's after an event of R283, a stopped core's in CALVED, and
the debugger's where the life-cycle state closes its port, whose instruction is then BYPASS (R496). -/
def errNone : Nat := 9

/-- Whether an access is not made at all. -/
def silenced (d : Dev) (req : Requester) : Bool :=
  (isTriad req && (d.mor.noTriad || (isCalved d && rdFBit d Reg.TRI_STAT_FENCED (coreOf req)))) ||
  (req == .debugger && !debugPermitted d)

/-- Whether the MPU denies a register command of the triad; a TRIAD_TRANSACTION is judged by itself. -/
def mpuBars (d : Dev) (req : Requester) (addr : Nat) (write : Bool) : Bool :=
  isTriad req && !d.tri.judged && !mpuAllows d (coreOf req) (supOp addr write)

/-- Whether the debugger's write is refused because core 0 is fenced: only reads of memory and registers are served (R297).
The debug registers answer for themselves. -/
def debugBars (d : Dev) (req : Requester) (addr : Nat) (write : Bool) : Bool :=
  req == .debugger && write && rdFBit d Reg.TRI_STAT_FENCED 0 && addr / 0x10 != 0x1003005

/-- How an access that is not served is answered: `e` is its code, not 0. -/
def notServed (d : Dev) (req : Requester) (addr e : Nat) (write : Bool) : Dev :=
  if e = errNone then d
  else if e = errMpu then mpuDeny d (coreOf req) (supOp addr write)
  else errResp (if e = errRefused then wrB d Reg.TRI_DBG_STAT_REFUSED true else d) req addr e write

/-- Rime state of SYS_PROPS: 0 LISTENING, 1 INTEGRATED, 2 ISOLATED. -/
def rimeState (d : Dev) : Nat := rd d Reg.SYS_PROPS_RIME

/-- Safe state (R314). -/
def inSafe (d : Dev) : Bool := rdB d Reg.MOR_STAT_SAFE

/-- Whether a channel is populated (R27). -/
def populated (d : Dev) (c : Nat) : Bool := (img d).populated c

/-- The port of a populated channel. -/
def portOf (d : Dev) (c : Nat) : Nat := (((img d).brickOf c).map (·.port)).getD 0

/-- The channel's index within its brick. -/
def idxOf (d : Dev) (c : Nat) : Nat := (((img d).brickOf c).map (fun b => c - b.base)).getD 0

/-- The zone of a populated channel. -/
def zoneOf (d : Dev) (c : Nat) : Option Nat := (img d).zoneOfCh c

/-- The zone of a port with a brick map record. -/
def portZone (d : Dev) (p : Nat) : Option Nat := ((img d).brickAt p).map (·.zone)

/-- Whether a channel's zone exists and satisfies a predicate on its mode. -/
def chanMode (d : Dev) (c : Nat) (ok : Nat → Bool) : Bool :=
  match zoneOf d c with
  | some z => ok (zmode d z)
  | none => false

/-- The group record of a channel. -/
def groupOf (d : Dev) (c : Nat) : Option GroupRec := (img d).groupOf c

/-- The record of a group. -/
def groupRec (d : Dev) (g : Nat) : Option GroupRec := (img d).groups.find? (fun r => r.group == g)

/-- The zone of a group. -/
def groupZone (d : Dev) (g : Nat) : Option Nat := (groupRec d g).map (·.zone)

/-- The channels of a port's brick map record. -/
def portChans (d : Dev) (p : Nat) : List Nat :=
  match (img d).brickAt p with
  | some b => (List.range b.count).map (b.base + ·)
  | none => []

/-- The populated channels of a zone. -/
def zoneChans (d : Dev) (z : Nat) : List Nat :=
  ((img d).bricks.filter (fun b => b.zone == z)).flatMap (fun b => (List.range b.count).map (b.base + ·))

/-- Every populated channel. -/
def allChans (d : Dev) : List Nat := (img d).bricks.flatMap (fun b => (List.range b.count).map (b.base + ·))

/-- The ports of the brick map. -/
def mappedPorts (d : Dev) : List Nat := (img d).bricks.map (·.port)

/-- The global channel address of R30. -/
def globalAddr (d : Dev) (c : Nat) : Nat :=
  (rd d Reg.RIMEL_NODE_SEG * 64 + rd d Reg.RIMEL_NODE_NODE) * 4096 + c

/-- Whether a Moraine fence of this device covers a unit in its own map (R310). -/
def ownFence (d : Dev) (ut ui : Nat) : Bool :=
  match ut with
  | 1 => rdBit d Reg.MOR_FENCED_CH_UNITS ui
  | 2 => rdBit d Reg.MOR_FENCED_BRICK_UNITS ui
  | 3 => rdBit d Reg.MOR_FENCED_PORT_UNITS ui
  | 4 => rdBit d Reg.MOR_FENCED_GRP_UNITS ui
  | 5 => rdFBit d Reg.MOR_FENCED_ENG_UNITS ui
  | 6 => rdFBit d Reg.MOR_FENCED_MISC_ZONES ui
  | 7 => rdFBit d Reg.MOR_FENCED_MISC_CORES ui
  | 8 => rdFBit d Reg.MOR_FENCED_MISC_RIME ui
  | _ => false

/-- Whether a fence of this device's Moraine or one marked PARTNER covers a unit (R310, R384). -/
def fenced (d : Dev) (ut ui : Nat) : Bool := ownFence d ut ui || d.mor.pfence.contains (ut * 4096 + ui)

/-- Whether the commit-point effects of a unit's fence have taken hold (R310). -/
def fenceHolds (d : Dev) (ut ui : Nat) : Bool := d.mor.fenceHeld.contains (ut * 4096 + ui)

/-- Write a unit's bit of the fence maps. -/
def setFence (d : Dev) (ut ui : Nat) (b : Bool) : Dev :=
  match ut with
  | 1 => wrBit d Reg.MOR_FENCED_CH_UNITS ui b
  | 2 => wrBit d Reg.MOR_FENCED_BRICK_UNITS ui b
  | 3 => wrBit d Reg.MOR_FENCED_PORT_UNITS ui b
  | 4 => wrBit d Reg.MOR_FENCED_GRP_UNITS ui b
  | 5 => wrFBit d Reg.MOR_FENCED_ENG_UNITS ui b
  | 6 => wrFBit d Reg.MOR_FENCED_MISC_ZONES ui b
  | 7 => wrFBit d Reg.MOR_FENCED_MISC_CORES ui b
  | 8 => wrFBit d Reg.MOR_FENCED_MISC_RIME ui b
  | _ => d

/-- The schedule entries that bind a channel on an engine. -/
def boundOn (d : Dev) (e c : Nat) : Bool :=
  (img d).sched.any (fun r => r.engine == e && decide (r.first ≤ c ∧ c < r.first + r.num))

/-- Whether a group is fenced, by its own fence, its zone's, or an engine's that a channel of it is bound on (R310). -/
def groupFenced (d : Dev) (g : Nat) : Bool :=
  fenced d 4 g ||
  (match groupRec d g with
   | some r => fenced d 6 r.zone ||
       (sel 24 (fenced d 5)).any (fun e => r.channels.any (boundOn d e))
   | none => false)

/-- Whether a channel's slot is held by a fence of the channel, its brick, its group or its zone (R310). -/
def chanFenced (d : Dev) (c : Nat) : Bool :=
  fenced d 1 c || fenced d 2 (portOf d c) ||
  (match groupOf d c with
   | some g => groupFenced d g.group
   | none => (match zoneOf d c with | some z => fenced d 6 z | none => false))

/-- Whether TRIP holds a channel of its port (R239). -/
def busHeld (d : Dev) (c : Nat) : Bool := d.net.ports.contains (portOf d c)

end Sys2Proof.Machine
end

