-- ==== Sys2Proof/Machine/LedgerOps.lean ====
section
/-!
DEFINITION. Reading and writing the channel ledger (R124 to R127, R130): the HOT segment's fields, the cached segments,
the queue of LOG events, and poison. Ledger addresses here are byte offsets in the entry view of R125: channel c's
entry starts at c * 0x2000.
-/
namespace Sys2Proof.Machine

/-- What an unlisted byte of the ledger reads as: zero, but for the `GAIN` 0x4000_0000 of each of the six calibration
entries (R133). -/
def ledDefault (a : Nat) : BitVec 8 :=
  let o := a % 0x2000
  if 0x1E00 ≤ o ∧ o < 0x1EC0 ∧ o % 0x20 = 3 then 0x40 else 0

/-- Read one byte of the ledger. -/
def ledByte (d : Dev) (a : Nat) : BitVec 8 := Memory.readByte d.led.mem a ^^^ ledDefault a

/-! ### The cache (R131) -/

/-- A dirty line reaches DRAM. -/
def lineOut (l : LedSt) (line : Nat) : LedSt :=
  { l with home := (List.range 256).foldl (fun m i =>
      Memory.writeByte m (256 * line + i) (Memory.readByte l.mem (256 * line + i))) l.home }

/-- An access of the cache to a line; one that is not held takes a free way of its set, or that of a line which a dirty one
leaves for DRAM. -/
def cacheTouch (l : LedSt) (line : Nat) (dirty : Bool) : LedSt :=
  let s := Config.cacheSet line % 3584
  let ws := SMap.get [] l.cache s
  if ws.any (fun w => w.1 == line) then
    { l with cache := SMap.set [] l.cache s (ws.map (fun w => if w.1 = line then (line, w.2 || dirty) else w)) }
  else if ws.length < 16 then { l with cache := SMap.set [] l.cache s (ws ++ [(line, dirty)]), miss := l.miss + 1 }
  else
    let v := Config.cacheVictim s ws % 16
    let old := ws.getD v (0, false)
    let l := if old.2 then lineOut l old.1 else l
    { l with cache := SMap.set [] l.cache s (ws.set v (line, dirty)), miss := l.miss + 1 }

/-- The ledger as an access to an entry-view offset leaves the cache: HOT is not cached (R124). -/
def ledTouch (l : LedSt) (a : Nat) (dirty : Bool) : LedSt := if a % 0x2000 < 0x200 then l else cacheTouch l (a / 256) dirty

/-- Write one byte of the ledger. -/
def ledPut (d : Dev) (a : Nat) (b : BitVec 8) : Dev :=
  { d with led := { ledTouch d.led a true with mem := Memory.writeByte d.led.mem a (b ^^^ ledDefault a) } }

/-- Read `n` little-endian bytes of the ledger. -/
def ledRd (d : Dev) (a : Nat) : Nat → Nat
  | 0 => 0
  | n + 1 => (ledByte d a).toNat + 256 * ledRd d (a + 1) n

/-- Write `n` little-endian bytes of the ledger. -/
def ledWr (d : Dev) (a : Nat) : Nat → Nat → Dev
  | 0, _ => d
  | n + 1, v => ledWr (ledPut d a (BitVec.ofNat 8 v)) (a + 1) n (v / 256)

/-- Zero `n` bytes of the ledger. -/
def ledZero (d : Dev) (a n : Nat) : Dev := ledWr d a n 0

/-- The bytes of a range. -/
def ledBytes (d : Dev) (a n : Nat) : List Byte := (List.range n).map (fun i => ledByte d (a + i))

/-- Write a list of bytes. -/
def ledPutList (d : Dev) (a : Nat) : List Byte → Dev
  | [] => d
  | b :: bs => ledPutList (ledPut d a b) (a + 1) bs

/-- Start of a channel's entry. -/
def entryOf (c : Nat) : Nat := c * 0x2000

/-- Segment offsets and sizes of R124, by segment code. -/
def segOff (s : Nat) : Nat := [0x0000, 0x0200, 0x0600, 0x0E00, 0x1600, 0x1E00].getD s 0

/-- Read a field of a channel's HOT segment, unsigned. -/
def hot (d : Dev) (c off n : Nat) : Nat := ledRd d (entryOf c + off) n

/-- Read a field of a channel's HOT segment, signed. -/
def hotS (d : Dev) (c off n : Nat) : Int := toS (8 * n) (hot d c off n)

/-- Write a field of a channel's HOT segment. -/
def hotW (d : Dev) (c off n v : Nat) : Dev := ledWr d (entryOf c + off) n v

/-- Write a signed field of a channel's HOT segment. -/
def hotWS (d : Dev) (c off n : Nat) (x : Int) : Dev := hotW d c off n (ofS (8 * n) x)

/-- A channel's voltage and current reading words (R105, R126). -/
def vWord (d : Dev) (c : Nat) : Nat := hot d c 0 4
def iWord (d : Dev) (c : Nat) : Nat := hot d c 4 4

/-- Fields of a reading word (R105). -/
def rwValue (w : Nat) : Int := toS 24 (bits w 0 24)
def rwValid (w : Nat) : Bool := bit w 24
def rwRanging (w : Nat) : Bool := bit w 25
def rwClipped (w : Nat) : Bool := bit w 26
def rwStale (w : Nat) : Bool := bit w 27
def rwLost (w : Nat) : Bool := bit w 28
def rwRange (w : Nat) : Nat := bits w 29 3

/-- A reading word of its parts; `VALID` is set exactly when no other flag is (R105). -/
def mkWord (range : Nat) (lost stale clipped ranging : Bool) (v : Int) : Nat :=
  range % 8 * 2 ^ 29 + b2n lost * 2 ^ 28 + b2n stale * 2 ^ 27 + b2n clipped * 2 ^ 26 + b2n ranging * 2 ^ 25 +
    b2n (!(lost || stale || clipped || ranging)) * 2 ^ 24 + ofS 24 v

/-- A reading word marked LOST, its value kept (R106, R310). -/
def lostWord (w : Nat) : Nat := setBit (setBit w 28 true) 24 false

/-- Last received `CH_STAT` in the channel word (R126). -/
def hotChStat (d : Dev) (c : Nat) : Nat := hot d c 0x00C 2

/-- Measured temperature (R107). -/
def hotTemp (d : Dev) (c : Nat) : Int := hotS d c 0x008 2

/-- No sensor (R107). -/
def noTemp : Int := -0x8000

/-- The poison bits of R126. -/
def poison (d : Dev) (c : Nat) : Nat := bits (hot d c 0x1F0 1) 0 6

/-- Set or clear a poison bit. -/
def setPoison (d : Dev) (c seg : Nat) (b : Bool) : Dev := hotW d c 0x1F0 1 (setBit (hot d c 0x1F0 1) seg b)

/-- What the device does with a channel's HOT segment when a fence of the channel is lifted (R132). -/
def hotUnpoison (d : Dev) (c : Nat) : Dev :=
  if bit (poison d c) 0 then setPoison (ledZero d (entryOf c + 0x040) 0x1B0) c 0 false else d

/-- Offset of the LOG header's fields. -/
def logOff (c : Nat) : Nat := entryOf c + 0x1600

/-- Count an event that could not be queued (R130). -/
def logDrop (d : Dev) (c : Nat) : Dev := ledWr d (logOff c + 0x00C) 4 (satAdd 32 (ledRd d (logOff c + 0x00C) 4) 1)

/-- Queue an event for a channel's LOG segment: up to 4 per channel per cycle and 8,192 in all, else dropped (R130). -/
def logEvent (d : Dev) (c typ prog step : Nat) (data : List Byte) : Dev :=
  let mine := d.led.evq.filter (fun e => e.ch == c && e.k / 20 == d.k / 20)
  if 4 ≤ mine.length ∨ 8192 ≤ d.led.evq.length then logDrop d c
  else { d with led := { d.led with evq := d.led.evq ++ [⟨c, d.k, typ, prog, step, (data ++ List.replicate 16 0).take 16⟩] } }

/-- Append an event to a channel's LOG ring (R130). -/
def logAppend (d : Dev) (e : LedEv) : Dev :=
  let b := logOff e.ch
  let nxt := ledRd d b 1
  let wrn := ledRd d (b + 4) 4
  let a := b + 0x20 + 0x20 * nxt
  let d := if ledRd d (a + 8) 1 ≠ 0 then ledWr d (b + 8) 4 (satAdd 32 (ledRd d (b + 8) 4) 1) else d
  let d := ledWr d a 8 (e.k % 2 ^ 64)
  let d := ledWr d (a + 8) 1 e.typ
  let d := ledWr d (a + 9) 1 e.prog
  let d := ledWr d (a + 10) 2 e.step
  let d := ledWr d (a + 12) 4 wrn
  let d := ledPutList d (a + 16) e.data
  let d := ledWr d b 4 (if nxt + 1 < 63 then nxt + 1 else 0)
  ledWr d (b + 4) 4 (wrn + 1)

end Sys2Proof.Machine
end

