-- ==== Sys2Proof/Machine/FloeOps.lean ====
section
/-!
DEFINITION. Operations of the Floe ports (chapter 03): the port's state machine R75, link frames, express frames, and
what a port entering ACTIVE, LOST, PARKED or ALIGN does.
-/
namespace Sys2Proof.Machine

/-- A port's state beyond its registers. -/
def port (d : Dev) (p : Nat) : FloePort := SMap.get {} d.floe p

/-- Change it. -/
def setPort (d : Dev) (p : Nat) (f : FloePort → FloePort) : Dev := { d with floe := SMap.mod {} d.floe p f }

/-- Port states of `FLOE_STAT.STATE`. -/
def psDisabled : Nat := 0
def psAlign : Nat := 1
def psCaps : Nat := 2
def psDelay : Nat := 3
def psSync : Nat := 4
def psActive : Nat := 5
def psLost : Nat := 6
def psParked : Nat := 7

/-- A port's state. -/
def pst (d : Dev) (p : Nat) : Nat := rd d (Reg.FLOE_STAT_STATE p)

/-- The channels of a port's brick that the image uses (`COUNT` of R43). -/
def portCount (d : Dev) (p : Nat) : Nat := (((img d).brickAt p).map (·.count)).getD 0

/-- `FLOE_CHSTAT.USABLE`: c < COUNT, port ACTIVE, `CH_STAT` without `STAGE_FAULT` and `LATCH` (R98). -/
def refreshUsable (d : Dev) (p : Nat) : Dev :=
  let st := (port d p).chStat
  let mask := (List.range (portCount d p)).foldl (fun m c =>
    if pst d p = psActive ∧ bit (st.getD c 0) 9 = false ∧ bit (st.getD c 0) 8 = false ∧ c < st.length
    then m + 2 ^ c else m) 0
  wr d (Reg.FLOE_CHSTAT_USABLE p) mask

/-- Write the whole `FLOE_STAT` word of a port as one number, as event data words carry it (R306). -/
def floeStat (d : Dev) (p : Nat) : Nat :=
  rd d (Reg.FLOE_STAT_STATE p) + rd d (Reg.FLOE_STAT_VER p) * 2 ^ 4 + rd d (Reg.FLOE_STAT_PARK_REASON p) * 2 ^ 8 +
  rd d (Reg.FLOE_STAT_NO_SIGNAL p) * 2 ^ 11 + rd d (Reg.FLOE_STAT_LOST_EV p) * 2 ^ 16 +
  rd d (Reg.FLOE_STAT_DISAGREE p) * 2 ^ 17 + rd d (Reg.FLOE_STAT_EXP_NOACK p) * 2 ^ 18 +
  rd d (Reg.FLOE_STAT_SKEW p) * 2 ^ 19 + rd d (Reg.FLOE_STAT_BAD_SLOT p) * 2 ^ 20 +
  rd d (Reg.FLOE_STAT_PARK_EV p) * 2 ^ 21 + rd d (Reg.FLOE_STAT_RENEG p) * 2 ^ 22

/-- Move a port to a state, with its summary bits. -/
def setPst (d : Dev) (p s : Nat) : Dev :=
  let d := wr d (Reg.FLOE_STAT_STATE p) s
  let d := wrBit d Reg.FLOE_LOST_SUM_PORTS p (s == psLost)
  let d := wrBit d Reg.FLOE_PARK_SUM_PORTS p (s == psParked)
  refreshUsable d p

/-- Full scale of the voltage stream in µV and of a current range in µA (R252). -/
def vFs (d : Dev) (c : Nat) : Nat := rd d (Reg.FLOE_VFS_VFS (portOf d c)) % 2 ^ 16 * 1000
def iFs (d : Dev) (c r : Nat) : Nat := rd d (Reg.FLOE_RANGE_FS_FS_UA (portOf d c) r)

/-- Whether a port's superframes are expected: SYNC, ACTIVE or LOST, and no port fence whose commit point has passed
(unit type 3 in R303; R310). -/
def inService (d : Dev) (p : Nat) : Bool :=
  (pst d p == psSync || pst d p == psActive || pst d p == psLost) && !d.mor.fenceHeld.contains (3 * 4096 + p)

/-- Restart link-up: ALIGN, with nothing negotiated. -/
def enterAlign (d : Dev) (p : Nat) : Dev :=
  let d := wr d (Reg.FLOE_STAT_VER p) 0
  let d := wr d (Reg.FLOE_STAT_PARK_REASON p) 0
  let d := setPort d p (fun q => { q with
      lanesOn := true, selV := 0, acked := false, echoSent := 0, echoSeen := 0,
      echoOpen := [], rttSum := 0, good := 0, miss := 0, syncTicks := 0, sfOk := false,
      expOpen := none, slots := [], prevSlots := [] })
  setPst d p psAlign

/-- The number of the tick that the next tick edge begins: one more, or after an adoption the first adopted edge at least a
tick away (R360). -/
def tickAfter (d : Dev) : Nat :=
  match d.rime.move with
  | some ofs =>
    let a : Int := ((d.k + 1) * 50000 : Nat) + ofs
    (-((-a).fdiv 50000)).toNat
  | none => d.k + 1

/-- Close a link frame with its CRC-32C, most significant byte first (R67). -/
def withCrc (bs : List Byte) : List Byte := bs ++ natBE 4 (crc32c bs)

/-- Send a link frame on a port. -/
def sendLink (d : Dev) (p : Nat) (bs : List Byte) : Dev := setPort d p (fun q => { q with txLink := withCrc bs })

/-- The `RANK` and `PAIRED` bits of the device's frames (R73, R83, R87). -/
def rankBits (d : Dev) : Nat := rd d Reg.SCH_STAT_RANK + 2 * rd d Reg.SCH_CFG_PAIR_EN

/-- SELECT (R73); a fenced port sends no frames (R310). -/
def sendSelect (d : Dev) (p ver reason : Nat) : Dev :=
  if fenced d 3 p then d
  else sendLink d p [0x42, BitVec.ofNat 8 ver, BitVec.ofNat 8 (portCount d p), BitVec.ofNat 8 reason, 0, 0, 0, 0]

/-- DEV_CAPS (R73). -/
def sendDevCaps (d : Dev) (p : Nat) : Dev :=
  let flags := rd d Reg.SCH_CFG_PAIR_EN + 2 * rd d Reg.SCH_STAT_RANK
  sendLink d p [0x41, 0x31, BitVec.ofNat 8 p, BitVec.ofNat 8 flags, 0, 0, 0, 0]

/-- Park a port with a reason: SELECT with `VER` 0, the status bits and the event (R74, R75). -/
def park (d : Dev) (p reason : Nat) : Dev :=
  let d := sendSelect d p 0 reason
  let d := wr d (Reg.FLOE_STAT_PARK_REASON p) reason
  let d := wr d (Reg.FLOE_STAT_VER p) 0
  let d := wrB d (Reg.FLOE_STAT_PARK_EV p) true
  let d := setPst d p psParked
  raise d Src.FLOE_PARK 3 p (floeStat d p) reason

/-- Whether a port may send anything at all: its lanes are on and it is not fenced (R310). -/
def mayTalk (d : Dev) (p : Nat) : Bool := (port d p).lanesOn && !fenced d 3 p

/-- A slot made IDLE with `RELAY` OPEN, its range kept. -/
def idleSlot (b : List Byte) : List Byte := [0, 0, 0, 0, b.getD 4 0]

/-- The express frame of R87, its CRC included. -/
def expressBytes (d : Dev) (quench : Bool) (expId mask : Nat) : List Byte :=
  withCrc ([if quench then 0x11 else 0x10, BitVec.ofNat 8 (rankBits d)] ++ natBE 2 expId ++ natBE 4 mask)

/-- Send one express frame on a port with the next `EXP_ID`; in version 3 it awaits its acknowledgement (R87, R90, R91).
The first frame after a reset carries `EXP_ID` 1 (log entry 12). -/
def sendExpress (d : Dev) (p : Nat) (quench : Bool) (mask : Nat) : Dev :=
  if !(port d p).lanesOn then d
  else
    let eid := ((port d p).expId + 1) % 2 ^ 16
    let fr := expressBytes d quench eid mask
    let v3 := rd d (Reg.FLOE_STAT_VER p) == 3
    let d := setPort d p (fun q => { q with expId := eid, txExp := fr, expOpen := if v3 then some fr else none, expTries := 1 })
    wrPart d (Reg.FLOE_EXP_ID p) 0 16 eid

/-- Send the express demands that fall due together, one frame a port: a port in `quench` gets a QUENCH, any other port
with trips a TRIP with their mask (R90). None follows step 1 of the icefall (R314) or leaves a fenced port (R310). -/
def sendExpressAll (d : Dev) (quench : List Nat) (trips : List (Nat × Nat)) : Dev :=
  if inSafe d then d
  else (List.range 128).foldl (fun d p =>
    let mask := (trips.filter (fun t => t.1 == p)).foldl (fun m t => m ||| t.2) 0
    if fenced d 3 p then d
    else if quench.contains p then sendExpress d p true mask
    else if mask ≠ 0 then sendExpress d p false mask
    else d) d

/-- A port enters ACTIVE: readings are delivered, the first four windows STALE (R101), and every channel's range is taken
to be the largest below 4 (R109). -/
def enterActive (d : Dev) (p : Nat) : Dev :=
  let d := setPort d p (fun q => { q with staleWin := 4 })
  let d := (portChans d p).foldl (fun d c =>
    let rng := SMap.mod {} d.meas.rng c (fun r => { r with fresh := true, sw := false, hold := 0, below := 0, cond := 0 })
    let ch := SMap.mod {} d.seq.ch c (fun r => { r with vLast := none })
    { d with meas := { d.meas with rng := rng }, seq := { d.seq with ch := ch } }) d
  setPst d p psActive

/-- Whether a received item with code errors, a wrong length or a failing CRC is to be discarded, and the counters it
moves (R65, R67, R73). `len` is the frame's data length without its CRC. -/
def frameGate (d : Dev) (p : Nat) (frame : List Byte) (len codeErrs : Nat) : Bool × Dev :=
  let d := if codeErrs = 0 then d else incSatPart d (Reg.FLOE_ERR_CODE_CNT p) 0 16 codeErrs
  if codeErrs ≠ 0 then (false, d)
  else if frame.length ≠ len + 4 then (false, incSatPart d (Reg.FLOE_ERR_FRAME_CNT p) 16 16 1)
  else (crc32c (frame.take len) == beAt frame len 4, d)

/-- A byte of a frame. -/
def byteAt (f : List Byte) (i : Nat) : Nat := (f.getD i 0).toNat

/-- The data length of a link frame's type, none for a type that R73 does not define. -/
def linkLen (type : Nat) : Option Nat :=
  if type = 0x40 then some 48
  else if type = 0x41 ∨ type = 0x42 ∨ type = 0x43 then some 8
  else if type = 0x44 ∨ type = 0x45 then some 4
  else none

/-- A received link frame: whether it passes, and the counters it moves. One of the wrong length or of an undefined type
counts as a length error (R65, R73). -/
def linkGate (d : Dev) (p : Nat) (frame : List Byte) (codeErrs : Nat) : Bool × Dev :=
  match linkLen (byteAt frame 0) with
  | some len => frameGate d p frame len codeErrs
  | none =>
    if codeErrs ≠ 0 then (false, incSatPart d (Reg.FLOE_ERR_CODE_CNT p) 0 16 codeErrs)
    else (false, incSatPart d (Reg.FLOE_ERR_FRAME_CNT p) 16 16 1)

end Sys2Proof.Machine
end

