-- ==== Sys2Proof/Machine/Trig.lean ====
section
/-!
DEFINITION. Sine and cosine of a phase of 2^32 counts per turn, by integer arithmetic with 96 fraction bits, from which
every rounded value the spec asks for is taken (R154, R199, R220).
-/
namespace Sys2Proof.Machine

/-- One, with 96 fraction bits. -/
def trigOne : Int := 2 ^ (96 : Nat)

/-- 2π with 96 fraction bits. -/
def twoPi : Int := 497805226624462170461043889244

/-- A Taylor sum of x^n / n! with alternating signs: `t` is the current term, `n` its exponent, `x2` is x². -/
def taylor (x2 : Int) : Nat → Int → Nat → Int
  | 0, t, _ => t
  | f + 1, t, n => t + taylor x2 f (-((t * x2).tdiv (trigOne * ((n + 1) * (n + 2) : Nat)))) (n + 2)

/-- cos and sin of an angle of at most an eighth of a turn, in counts of 2^-32 turn. -/
def trigOct (a : Nat) : Int × Int :=
  let x := twoPi * a / 4294967296
  let x2 := x * x / trigOne
  (taylor x2 16 trigOne 0, taylor x2 16 x 1)

/-- cos and sin of a phase (counts of 2^-32 turn), with 96 fraction bits. -/
def trig (ph : Nat) : Int × Int :=
  let a : Nat := ph % 2 ^ 32
  let n : Nat := (a + 2 ^ 29) / 2 ^ 30
  let q : Nat := n % 4
  let r : Int := (a : Int) - ((n * 2 ^ 30 : Nat) : Int)
  let cs := trigOct r.natAbs
  let c := cs.1
  let s := if r < 0 then -cs.2 else cs.2
  match q with
  | 0 => (c, s)
  | 1 => (-s, c)
  | 2 => (-c, -s)
  | _ => (s, -c)

/-- round(m × cos) and round(m × sin) of a phase, halves away from zero (R556). -/
def trigRound (m : Int) (ph : Nat) : Int × Int :=
  let cs := trig ph
  (roundDiv (m * cs.1) trigOne, roundDiv (m * cs.2) trigOne)

end Sys2Proof.Machine
end

