-- ==== Sys2Proof/Machine/GraupelOps.lean ====
section
/-!
DEFINITION. The Graupel engines' registers, memories and addressing (R212 to R219, R225 to R227): everything an
instruction of R220 is made of.
-/
namespace Sys2Proof.Machine

/-- An engine. -/
def eng (d : Dev) (e : Nat) : Eng := SMap.get {} d.eng e

/-- Change it. -/
def setEng (d : Dev) (e : Nat) (f : Eng → Eng) : Dev := { d with eng := SMap.mod {} d.eng e f }

/-- Engine registers that are not in the general table of codes. -/
def gSR : Nat := 0x36
def gBI : Nat := 0x37
def gAH : Nat := 0x30
def gCH : Nat := 0x31
def gCX : Nat := 0x32
def gAP : Nat := 0x38

/-- A register of the bank `smp` chooses (sample task or window task), as its unsigned bits; `TK`, `TKH` and `PH` are the
tick count (R215). -/
def gr (d : Dev) (e : Nat) (smp : Bool) (c : Nat) : Nat :=
  if c = 0x33 then d.k % 2 ^ 32
  else if c = 0x34 then d.k / 2 ^ 32 % 2 ^ 32
  else if c = 0x35 then d.k % 20
  else SMap.get 0 (if smp then (eng d e).sreg else (eng d e).wreg) c

/-- Set a register of a bank, whatever its access: the sequencer's own writes. -/
def gwSeq (d : Dev) (e : Nat) (smp : Bool) (c v : Nat) : Dev :=
  let v := v % 2 ^ gRegWidth c
  setEng d e (fun g => if smp then { g with sreg := SMap.set 0 g.sreg c v } else { g with wreg := SMap.set 0 g.wreg c v })

/-- An instruction's write of a register: read-only and reserved codes are left as they are (R215). -/
def gw (d : Dev) (e : Nat) (smp : Bool) (c v : Nat) : Dev :=
  if gRegOk c && !gRegReadOnly c then gwSeq d e smp c v else d

/-- A register as a signed operand: data registers and modifiers are signed, pointers and counters are not, and of an
accumulator the low 32 bits are taken (log entry 15). -/
def grS (d : Dev) (e : Nat) (smp : Bool) (c : Nat) : Int :=
  let v := gr d e smp c
  if c ≤ 0x13 then toS 32 v
  else if 0x20 ≤ c ∧ c ≤ 0x27 then toS 16 v
  else if c = 0x33 ∨ c = 0x34 ∨ c = 0x36 then toS 32 v
  else (v : Int)

/-- Write a signed 32-bit result. -/
def gwS (d : Dev) (e : Nat) (smp : Bool) (c : Nat) (x : Int) : Dev := gw d e smp c (ofS (gRegWidth c) x)

/-- A result that the spec states only where it lies in the 32-bit format; outside it is a free value (log entry 16). -/
def gwFit (d : Dev) (e : Nat) (smp : Bool) (c : Nat) (x : Int) : Dev :=
  if -(2 : Int) ^ 31 ≤ x ∧ x < (2 : Int) ^ 31 then gwS d e smp c x
  else gw (useFree d) e smp c (freeVal d % 2 ^ 32)

/-- Set a bit of `SR`. -/
def gSetSr (d : Dev) (e : Nat) (smp : Bool) (b : Nat) (v : Bool) : Dev :=
  gwSeq d e smp gSR (setBit (gr d e smp gSR) b v)

/-- The channel and kernel of a task, as the event data word carries them (R306). -/
def gKernel (d : Dev) (e : Nat) (smp : Bool) : Nat := if smp then 0 else (eng d e).run.kernel
def gData0 (d : Dev) (e : Nat) (smp : Bool) : Nat := gr d e smp gCH + 2 ^ 16 * gKernel d e smp

/-- Recompute an engine's bit of `CHAN_ENG_SUM` (R235). -/
def engSum (d : Dev) (e : Nat) : Dev :=
  wrFBit d Reg.CHAN_ENG_SUM_ENG e
    (rdB d (Reg.CHAN_ENG_STAT_ACC_OV e) || rdB d (Reg.CHAN_ENG_STAT_RUNAWAY e) || rdB d (Reg.CHAN_ENG_STAT_MEM_VIOL e) ||
     rdB d (Reg.CHAN_ENG_STAT_JRNL_FULL e) || rdB d (Reg.CHAN_ENG_STAT_SMP_OVR e) ||
     rdB d (Reg.CHAN_ENG_STAT_ROLLBACK e) || rdB d (Reg.CHAN_ENG_STAT_FINISH_LATE e) ||
     rdB d (Reg.CHAN_ENG_STAT_CONTROL_LATE e))

/-- Set an event bit of `CHAN_ENG_STAT[e]`. -/
def engEv (d : Dev) (e : Nat) (f : Nat → Fld) : Dev := engSum (wrB d (f e) true) e

/-- Mark a group as incomplete for the tick: its engine, and why (0 reading late, 1 work incomplete, 2 a run stopped). -/
def markInc (d : Dev) (g e why : Nat) : Dev :=
  if d.inc.contains (g, e, why) then d else { d with inc := d.inc ++ [(g, e, why)] }

/-- Mark the group of a channel. -/
def markIncCh (d : Dev) (c e why : Nat) : Dev :=
  match groupOf d c with
  | some g => markInc d g.group e why
  | none => d

/-- Stop the window task's channel run (R225, R226). -/
def gStop (d : Dev) (e : Nat) : Dev := setEng d e (fun g => { g with run := { g.run with live := false, reps := [] } })

/-- A suppressed access (R226): 0 X, 1 Y, 2 HOT, 3 constants. -/
def gViol (d : Dev) (e addr space : Nat) : Dev :=
  let ch := gr d e false gCH
  let d := engEv d e Reg.CHAN_ENG_STAT_MEM_VIOL
  let d := wr d (Reg.CHAN_ENG_VIOL_ADDR e) addr
  let d := wr d (Reg.CHAN_ENG_VIOL_SPACE e) space
  let d := wr d (Reg.CHAN_ENG_VIOL_CH e) ch
  let d := raise d Src.ENG_MEM_VIOL 5 e (gData0 d e false) (addr % 2 ^ 16 + 2 ^ 16 * space + 2 ^ 20 * ch)
  markIncCh (gStop d e) ch e 2

/-- Whether a task runs a user kernel. -/
def gUser (d : Dev) (e : Nat) (smp : Bool) : Bool := !smp && (eng d e).run.cls != 2

/-- Whether a user kernel may touch `n` bytes at an address of X or Y. -/
def gXOk (d : Dev) (e : Nat) (smp : Bool) (a n : Nat) : Bool := !gUser d e smp || decide (0xC000 ≤ a ∧ a + n ≤ 0x10000)
def gYOk (d : Dev) (e : Nat) (smp : Bool) (a n : Nat) : Bool := !gUser d e smp || decide (0xE000 ≤ a ∧ a + n ≤ 0x10000)

/-- Read `n` bytes of a 64 KiB memory, wrapping at its end. -/
def rdWrap (m : Memory) (a : Nat) : Nat → Nat
  | 0 => 0
  | n + 1 => (Memory.readByte m (a % 65536)).toNat + 256 * rdWrap m (a + 1) n

/-- Write `n` bytes likewise. -/
def wrWrap (m : Memory) (a : Nat) : Nat → Nat → Memory
  | 0, _ => m
  | n + 1, v => wrWrap (Memory.writeByte m (a % 65536) (BitVec.ofNat 8 v)) (a + 1) n (v / 256)

/-- The channels that an engine's FIR entries bind, in schedule record order (R213). -/
def firChans (d : Dev) (e : Nat) : List Nat :=
  ((img d).sched.filter (fun r => r.engine == e && r.window == 0)).flatMap (fun r => (List.range r.num).map (r.first + ·))

/-- A byte of X: outside BOOT the descriptors of the bound channels, 16 bytes each from 0x2000, hold what the loader has
written there (R213, log entry 145). -/
def xByte (d : Dev) (e a : Nat) : Nat :=
  let held := (Memory.readByte (eng d e).x (a % 65536)).toNat
  if 0x2000 ≤ a % 65536 ∧ a % 65536 < 0x4000 ∧ inBoot d = false then
    match (firChans d e)[(a % 65536 - 0x2000) / 16]? with
    | some c => Config.descriptorByte (img d).bytes e c (a % 16) % 256
    | none => held
  else held

/-- A byte of Y: outside BOOT the ROM kernels' working area holds what they have left there (R213, log entry 145). -/
def yByte (d : Dev) (e a : Nat) : Nat :=
  if 0xC000 ≤ a % 65536 ∧ a % 65536 < 0xE000 ∧ inBoot d = false then Config.romWorkByte d.free d.k e (a % 65536) % 256
  else (Memory.readByte (eng d e).y (a % 65536)).toNat

/-- Words of X and Y and accumulator slots of Y. -/
def gX32 (d : Dev) (e a : Nat) : Nat :=
  xByte d e a + 256 * (xByte d e (a + 1) + 256 * (xByte d e (a + 2) + 256 * xByte d e (a + 3)))
def gY32 (d : Dev) (e a : Nat) : Nat :=
  yByte d e a + 256 * (yByte d e (a + 1) + 256 * (yByte d e (a + 2) + 256 * yByte d e (a + 3)))
def gXw (d : Dev) (e a v : Nat) : Dev := setEng d e (fun g => { g with x := wrWrap g.x a 4 v })
def gYw (d : Dev) (e a v : Nat) : Dev := setEng d e (fun g => { g with y := wrWrap g.y a 4 v })
def gSlot (d : Dev) (e a : Nat) : Int := toS 80 (rdWrap (eng d e).y a 10)
def gSlotW (d : Dev) (e a : Nat) (v : Int) : Dev := setEng d e (fun g => { g with y := wrWrap g.y a 10 (ofS 80 v) })

/-- Reverse the low `n` bits of a number. -/
def bitRev (n v : Nat) : Nat := (List.range n).foldl (fun r i => r + b2n (bit v i) * 2 ^ (n - 1 - i)) 0

/-- The pointer after adding `m`, under its addressing mode (R217). A mode that the table does not list leaves the
pointer to a free value (log entry 17). -/
def gPtrAdd (mode p : Nat) (m : Int) (free : Nat) : Nat :=
  if mode = 0 then ofS 16 ((p : Int) + m)
  else if mode < 0x8000 ∧ mode % 4 = 0 then
    let b := p / (2 ^ (Nat.log2 (mode - 1) + 1)) * (2 ^ (Nat.log2 (mode - 1) + 1))
    b + (((p : Int) - b + m) % mode).toNat
  else
    match (List.range 14).find? (fun i => mode == 0x8000 + 2 ^ (i + 2)) with
    | some i =>
      let n := i + 2
      p / 2 ^ n * 2 ^ n + bitRev n ((bitRev n p + bitRev n (ofS n m)) % 2 ^ n)
    | none => free % 2 ^ 16

/-- Post-modification of pointer `n` of X (`y` false) or Y: 0 none, 1 +4, 2 −4, 3 the modifier (R219). -/
def gPost (d : Dev) (e : Nat) (smp y : Bool) (n how : Nat) : Dev :=
  if how = 0 then d
  else
    let pc := (if y then 0x1C else 0x18) + n
    let m : Int := match how with
      | 1 => 4
      | 2 => -4
      | _ => grS d e smp ((if y then 0x24 else 0x20) + n)
    let d' := gw d e smp pc (gPtrAdd (gr d e smp ((if y then 0x2C else 0x28) + n)) (gr d e smp pc) m (freeVal d))
    useFree d'

/-- Add to a pointer under its mode. -/
def gPtrStep (d : Dev) (e : Nat) (smp : Bool) (pc : Nat) (m : Int) : Dev :=
  useFree (gw d e smp pc (gPtrAdd (gr d e smp (pc + 0x10)) (gr d e smp pc) m (freeVal d)))

/-- The register that a move slot's field names (R219). -/
def gMoveReg (r : Nat) : Nat := if r ≤ 0xF then r else if r ≤ 0x13 then r + 8 else r + 8

/-- An accumulator result: exact within 80 bits, else a guard overflow that saturates, or wraps with `WRAP` set (R218). -/
def gAcc (d : Dev) (e : Nat) (smp : Bool) (x : Int) : Int × Dev :=
  if -(2 : Int) ^ 79 ≤ x ∧ x < (2 : Int) ^ 79 then (x, d)
  else
    let v := if rdB d (Reg.CHAN_ENG_CTRL_WRAP e) then toS 80 (ofS 80 x) else satS 80 x
    let d := gSetSr d e smp 2 true
    let d := engEv d e Reg.CHAN_ENG_STAT_ACC_OV
    let d := wr d (Reg.CHAN_ENG_OV_CH e) (gr d e smp gCH)
    let d := wr d (Reg.CHAN_ENG_OV_KERNEL e) (gKernel d e smp)
    (v, raise d Src.ENG_ACC_OV 5 e (gData0 d e smp) 0)

/-- An accumulator's value. -/
def grA (d : Dev) (e : Nat) (smp : Bool) (c : Nat) : Int := toS 80 (gr d e smp c)

/-- Write an accumulator with an exact result. -/
def gwA (d : Dev) (e : Nat) (smp : Bool) (c : Nat) (x : Int) : Dev :=
  let (v, d) := gAcc d e smp x
  gw d e smp c (ofS 80 v)

/-- Write a Y slot with an exact result. -/
def gwSlot (d : Dev) (e : Nat) (smp : Bool) (a : Nat) (x : Int) : Dev :=
  let (v, d) := gAcc d e smp x
  gSlotW d e a v

/-- Extraction to `n` bits: it saturates and sets `SR.EXT_SAT` (R218). -/
def gExt (d : Dev) (e : Nat) (smp : Bool) (n : Nat) (x : Int) : Int × Dev :=
  if satS n x = x then (x, d) else (satS n x, gSetSr d e smp 1 true)

/-- Whether the CONTROL window is open: from Tk + 6 µs to Tk + 40 µs. -/
def inControl (d : Dev) : Bool := d.phase == 2 || d.phase == 3

/-- Record a HOT word's old value in the undo journal (R227): whether there was room, and the device. -/
def gJournal (d : Dev) (e c off old : Nat) : Dev :=
  let n := (eng d e).jn
  setEng d e (fun g => { g with
      x := wrWrap g.x (0x4000 + 8 * n) 8 (old % 2 ^ 32 + 2 ^ 32 * ((off - 0x40) / 4) + 2 ^ 39 * c),
      jn := n + 1 })

/-- The journal is full (R227): no write, and no further runs of the engine in the tick. -/
def gJournalFull (d : Dev) (e : Nat) : Dev :=
  let d := engEv d e Reg.CHAN_ENG_STAT_JRNL_FULL
  let d := raise d Src.ENG_JRNL_FULL 5 e (gData0 d e false) (eng d e).jn
  setEng d e (fun g => { g with stop := true })

/-- An engine's write of `n` words of a channel's HOT segment, journaled where R227 says so. -/
def gHotWrite (d : Dev) (e c off n v : Nat) : Dev :=
  if inControl d ∧ 0x40 ≤ off ∧ off < 0x1F0 then
    if 4096 < (eng d e).jn + n then gJournalFull d e
    else
      let d := gJournal d e c off (hot d c off 4)
      let d := if n = 2 then gJournal d e c (off + 4) (hot d c (off + 4) 4) else d
      hotW d c off (4 * n) v
  else hotW d c off (4 * n) v

/-- Journal what a ROM kernel's work changed in a channel's HOT segment: one entry for each word of 0x040 to 0x1EF whose
value differs; with the journal full, the words that find no room keep their old value (R227). -/
def romJournal (d0 d1 : Dev) (e c : Nat) : Dev :=
  ((List.range 108).map (fun i => 0x40 + 4 * i)).foldl (fun d off =>
    let old := hot d0 c off 4
    if hot d1 c off 4 = old then d
    else if 4096 ≤ (eng d e).jn then gJournalFull (hotW d c off 4 old) e
    else gJournal d e c off old) d1

/-- The byte offset a HOT instruction addresses (R226): within the segment, aligned to the access size. -/
def gHotOff (d : Dev) (e : Nat) (smp : Bool) (imm sz : Nat) : Nat :=
  (gr d e smp gAH + imm % 512) % 512 / sz * sz

/-- Whether a HOT write of a run is permitted (R226). -/
def gHotOk (d : Dev) (e : Nat) (smp : Bool) (off n : Nat) : Bool :=
  if gUser d e smp then
    decide ((if (eng d e).run.cls = 0 then 0x60 else 0xC0) ≤ off ∧ off + n ≤ 0x100)
  else true

/-- The engine and place of a channel's FIR streams. -/
def firPlace (d : Dev) (c : Nat) : Option (Nat × Nat) :=
  match (img d).sched.find? (fun r => r.window == 0 && decide (r.first ≤ c ∧ c < r.first + r.num)) with
  | some r => some (r.engine, ((firChans d r.engine).findIdx (· == c)))
  | none => none

/-- The active coefficient and program memory bank. -/
def gBank (d : Dev) (e : Nat) : Nat := rd d (Reg.CHAN_ENG_STAT_BANK e)

end Sys2Proof.Machine
end

