-- ==== Sys2Proof/Machine/Decim.lean ====
section
/-!
DEFINITION. The decimator array and the sample task of the compensation FIR (R99 to R103, R110, R213, R221, R223, R228).
-/
namespace Sys2Proof.Machine

/-- (n + 1)(n + 2) / 2, 0 for a negative n: the response of three integrators. -/
def triTap (n : Int) : Int := if n < 0 then 0 else (n + 1) * (n + 2) / 2

/-- Tap i of three cascaded moving sums of length 32 (R99). -/
def sincTap (i : Nat) : Int := triTap i - 3 * triTap (i - 32) + 3 * triTap (i - 64) - triTap (i - 96)

/-- The sample of a block: `cur` holds its 32 bits, bit i that of x[32n + 31 − i], `p1` and `p2` those of the two blocks
before (R99). -/
def sinc (cur p1 p2 : Nat) : Int :=
  (List.range 94).foldl (fun a i =>
    let b := if i < 32 then bit cur i else if i < 64 then bit p1 (i - 32) else bit p2 (i - 64)
    if b then a + sincTap i else a - sincTap i) 0

/-- The key of a channel's stream: voltage or current. -/
def strmKey (c : Nat) (cur : Bool) : Nat := 2 * c + b2n cur

/-- A stream's state, and a change of it. -/
def strm (d : Dev) (c : Nat) (cur : Bool) : Strm := SMap.get {} d.meas.strm (strmKey c cur)
def setStrm (d : Dev) (c : Nat) (cur : Bool) (s : Strm) : Dev :=
  { d with meas := { d.meas with strm := SMap.set {} d.meas.strm (strmKey c cur) s } }

/-- A channel's ranging state, and a change of it. -/
def rng (d : Dev) (c : Nat) : RngSt := SMap.get {} d.meas.rng c
def setRng (d : Dev) (c : Nat) (f : RngSt → RngSt) : Dev :=
  { d with meas := { d.meas with rng := SMap.mod {} d.meas.rng c f } }

/-- `GAIN` and `OFFSET` of a calibration entry: 0 for the voltage stream, 1 + r for current range r (R118). -/
def calGain (d : Dev) (c s : Nat) : Nat := ledRd d (entryOf c + 0x1E00 + 0x20 * s) 4
def calOffset (d : Dev) (c s : Nat) : Int := toS 24 (ledRd d (entryOf c + 0x1E00 + 0x20 * s + 4) 4)

/-- The profile record of a channel in an image; an idle channel uses profile 0 (R48). -/
def chProfile (i : Image) (c : Nat) : Option ProfRec :=
  let n := ((i.groupOf c).map (·.profile)).getD 0
  i.profs.find? (fun r => r.profile == n)

/-- The profile of a channel's accumulators that started on coefficient bank `b` (R60, R102). -/
def profOn (d : Dev) (c e b : Nat) : Option ProfRec :=
  if b = gBank d e then chProfile (img d) c else chProfile (d.firn.prevProfs.getD (img d)) c

/-- The sum of a profile's taps. -/
def tapSum (p : Option ProfRec) : Int := (p.map (fun r => r.coef.foldl (· + ·) 0)).getD 0

/-- The commanded current in block `b` of the window of a range change, as a fraction in the new range: the setpoint, or with
`PERT` the value interpolated from the setpoint before it, at an instant of the block that the spec leaves open (R110). -/
def rangingCmd (d : Dev) (c b : Nat) : Int × Int :=
  let r := rng d c
  let fs : Int := iFs d c r.cur
  if r.pert then
    let t : Int := (b * 65536 + Config.blockInstant b r.cmdI r.prevI % 65537 : Nat)
    (r.prevI * 1048576 + (r.cmdI * fs - r.prevI) * t, 1048576 * fs)
  else (r.cmdI, 1)

/-- The commanded current of a window of a range change as a sample of block `b`: that whose calibrated value it is (R110).
Where no whole sample has that value it is a neighbour; where the gain, the taps' sum or the full scale is 0 it is free
(log entry 8). -/
def rangingSample (d : Dev) (c b : Nat) : Int :=
  let r := rng d c
  let g : Int := calGain d c (1 + r.cur)
  let o := calOffset d c (1 + r.cur)
  let ts := tapSum (chProfile (img d) c)
  let (n, m) := rangingCmd d c b
  if ts * m * g = 0 then Config.commandSample [(b : Nat), g, o, r.cmdI, r.prevI, ts]
  else qdiv ((2 : Int) ^ 23 * (o * m * g + n * (2 : Int) ^ 30)) (ts * m * g)

/-- The first block whose start an engine's sample task has not run. -/
def startDue (d : Dev) (e : Nat) : Nat := (eng d e).starts.headD (eng d e).nextStart

/-- Write a sample to the ring of the engine that binds the channel (R213); a sample that the sample task has not
consumed yet is lost, whether or not its start waits in the queue (R223, R228). The blocks of one gap, from `lo` on, become
known in one command though the array wrote each at its own time, so no block of it overwrites another (log entry 253). -/
def ringWrite (d : Dev) (c : Nat) (cur : Bool) (lo n : Nat) (v : Int) : Dev :=
  match firPlace d c with
  | none => d
  | some (e, j) =>
    let t := 2 * j + b2n cur
    let lost := decide (4 ≤ n) && decide (startDue d e ≤ n - 4) && decide (n < lo + 4) && decide (4 < (strm d c cur).smp.length)
    let d := if lost then
        let d := engEv d e Reg.CHAN_ENG_STAT_SMP_OVR
        let d := incSat d (Reg.CHAN_ENG_SMP_OVR_CNT_CNT e) 1
        let d := raise d Src.ENG_SMP_OVR 5 e (c + 2 ^ 16 * 0) t
        let s := strm d c cur
        setStrm d c cur { s with
          smp := s.smp.mapIdx (fun i x => if s.n = n - 4 + 1 + i then { x with sub := true } else x) }
      else d
    gXw d e (16 * t + 4 * (n % 4)) (ofS 32 v)

/-- Feed block `n` of a stream: its 32 bits, or none for a block of a gap that begins at `lo` (R101). -/
def feedStrm (d : Dev) (c : Nat) (cur : Bool) (lo n : Nat) (word : Option Nat) : Dev :=
  let s := strm d c cur
  let s := if s.n = n then s else { s with smp := [] }
  let r := rng d c
  let swap := cur && r.sw && n / 16 == r.swTick + 1
  let (s, x, clip) : Strm × Smp × Bool :=
    match word with
    | none => ({ s with p1 := 0, p2 := 0, subst := 2 }, ⟨s.last, true, false⟩, false)
    | some w =>
      let v := sinc w s.p1 s.p2
      let s1 := { s with p1 := w, p2 := s.p1 }
      if s.subst ≠ 0 then ({ s1 with subst := s.subst - 1 }, ⟨s.last, true, false⟩, false)
      else
        let o := decide (rd d Reg.MEAS_CTRL_OVL_LIM ≤ v.natAbs)
        ({ s1 with last := v }, ⟨v, false, o⟩, o)
  let d := if clip then incSat d Reg.MEAS_CLIP_CNT_CNT 1 else d
  let x := if swap then ⟨rangingSample d c (n % 16), x.sub, false⟩ else x
  let d := setStrm d c cur { s with n := n + 1, smp := (x :: s.smp).take 96 }
  ringWrite d c cur lo n x.v

/-- Feed one block of a port: the data of R79, or none for a block of a gap that begins at `lo`, which is counted once
(R101). -/
def feedPort (d : Dev) (p lo n : Nat) (data : Option (List Byte)) : Dev :=
  let d := setPort d p (fun q => { q with blk := n + 1 })
  let d := if data.isSome then d else incSat d Reg.MEAS_SUBST_CNT_CNT 1
  (portChans d p).foldl (fun d c =>
    let o := 8 * idxOf d c
    let d := feedStrm d c false lo n (data.map (fun bs => beAt bs o 4))
    feedStrm d c true lo n (data.map (fun bs => beAt bs (o + 4) 4))) d

/-- Feed gaps to a port up to, not including, block `n`. -/
def gapTo (d : Dev) (p n : Nat) : Dev :=
  if inService d p then
    let lo := (port d p).blk
    (List.range (n - lo)).foldl (fun d _ => feedPort d p lo (port d p).blk none) d
  else d

/-- An edge that counts as a gap for every stream (R361, R465): the decimators restart. -/
def streamsGap (d : Dev) : Dev :=
  { d with meas := { d.meas with strm := d.meas.strm.map (fun e => (e.1, { e.2 with p1 := 0, p2 := 0, subst := 2 })) } }

/-- The tick count moves on by `n` more than one (R360): the window that closes takes the number before the new one. -/
def renumber (d : Dev) (n : Nat) : Dev :=
  let m := { d.meas with
    strm := d.meas.strm.map (fun e => (e.1, { e.2 with n := e.2.n + 16 * n })),
    rng := d.meas.rng.map (fun e => (e.1, { e.2 with swTick := e.2.swTick + n })) }
  { d with
    meas := m,
    floe := d.floe.map (fun e => (e.1, { e.2 with blk := e.2.blk + 16 * n, came := e.2.came + 16 * n })),
    eng := d.eng.map (fun e => (e.1, { e.2 with starts := e.2.starts.map (· + 16 * n), nextStart := e.2.nextStart + 16 * n })) }

/-- The ports that serve an engine's FIR channels. -/
def enginePorts (d : Dev) (e : Nat) : List Nat :=
  (((firChans d e).filter (populated d)).map (portOf d)).eraseDups

/-- Queue the sample starts that are due on an engine: those of blocks that the array has written for every port in service
that serves it (R223, log entry 18). At most 16 wait, and the next ones are queued as places become free; an
engine that is two windows behind, or that starts, goes on with the next block. -/
def queueStarts (d : Dev) (e : Nat) : Dev :=
  match ((enginePorts d e).filter (inService d)).map (fun p => (port d p).blk) with
  | [] => d
  | b :: bs =>
    let m := bs.foldl min b
    setEng d e (fun g =>
      let lo := if g.nextStart + 32 < m then m else g.nextStart
      let n := min (m - lo) (16 - g.starts.length)
      { g with
        starts := g.starts ++ (List.range n).map (lo + ·)
        nextStart := lo + n })

/-- Queue what is due on every engine. -/
def queueAllStarts (d : Dev) : Dev := (List.range 24).foldl queueStarts d

/-- The slot address of output `w` of stream `t` (R213). -/
def slotAddr (t w : Nat) : Nat := 64 * t + 16 * (w % 4)

/-- The coefficient bank on which a slot's accumulator started. -/
def slotBank (d : Dev) (e a : Nat) : Nat := (Memory.readByte (eng d e).y (a + 10)).toNat % 2

/-- One slot's step of the FIR: the sample times the coefficient of tap `i` in the bank and profile that the slot's
accumulator started on; `fresh` starts it (R102, R221). -/
def firSlot (d : Dev) (e c t w : Nat) (x : Int) (row tap : Nat) (fresh : Bool) : Dev :=
  let a := slotAddr t w
  let bank := if fresh then gBank d e else slotBank d e a
  let pn := ((profOn d c e bank).map (·.profile)).getD 0
  let co := toS 32 (gY32 d e ((if bank = 0 then 0x8000 else 0xA000) + 256 * pn + 16 * row + 4 * tap))
  let d := gwSlot d e true a ((if fresh then 0 else gSlot d e a) + x * co)
  if fresh then setEng d e (fun g => { g with y := Memory.writeByte g.y (a + 10) (BitVec.ofNat 8 bank) }) else d

/-- The sample part of kernel 0x00 for one channel and block `n` = 16w + b: four outputs of each stream (R213, R221). -/
def firSample (d : Dev) (e j c n : Nat) : Dev :=
  let w := n / 16
  let b := n % 16
  let d := gwSeq d e true gCH c
  let d := gwSeq d e true gBI b
  [2 * j, 2 * j + 1].foldl (fun d t =>
    let x := toS 32 (gX32 d e (16 * t + 4 * (n % 4)))
    let d := firSlot d e c t w x b 0 false
    let d := firSlot d e c t (w + 1) x b 1 false
    let d := firSlot d e c t (w + 2) x b 2 false
    firSlot d e c t (w + 3) x b 3 (b == 0)) d

/-- Whether the finish part of every FIR entry of an engine is done for this tick. -/
def finishDone (d : Dev) (e : Nat) : Bool :=
  (firChans d e).all (fun c => !populated d c || SMap.get 0 d.meas.delivered c == d.k + 1)

/-- Whether the finish part of a FIR channel waits: the superframe of its window is not judged yet, or the sample task has
not taken every block of the window, without which R102 has no reading (log entry 254). -/
def finishWaits (d : Dev) (e c : Nat) : Bool :=
  decide (d.phase ≤ 1) &&
    ((d.phase == 0 && inService d (portOf d c) && !(port d (portOf d c)).sfOk) ||
      ((enginePorts d e).any (inService d) && decide (startDue d e < 16 * d.k)))

/-- The sample task's next start (R223): that of block 0 of the window under way waits for the finish part of the window
before it or Tk + 6 µs. -/
def sampleTask (d : Dev) (e : Nat) : Dev :=
  match (eng d e).starts with
  | [] => d
  | n :: rest =>
    if n % 16 = 0 ∧ 16 * d.k ≤ n ∧ d.phase ≤ 1 ∧ finishDone d e = false then d
    else
      let d := setEng d e (fun g => { g with starts := rest })
      let cs := ((firChans d e).mapIdx (fun j c => (j, c))).filter (fun jc => populated d jc.2)
      let d := cs.foldl (fun d jc => firSample d e jc.1 jc.2 n) d
      queueStarts (setEng d e (fun g => { g with cycS := g.cycS + 4 * cs.length })) e

/-- ENGINE_SAMPLE_TASK. -/
def execEngineSampleTask (e : Nat) (s : State) : Host.Outcome State Fault Refusal := .next { s with d := sampleTask s.d e }

end Sys2Proof.Machine
end

