-- ==== Sys2Proof/Machine/EngLoad.lean ====
section
/-!
DEFINITION. What an image places in the engines (R213, R233): kernels with their constants, and coefficient banks. The
layout of the channel descriptors is not given and nothing reads them.
-/
namespace Sys2Proof.Machine

/-- The user kernels bound on an engine, with the byte offset of each in its program memory bank. -/
def kernPlaces (i : Image) (e : Nat) : List (Nat × KernRec) :=
  ((i.kernelsOn e).foldl (fun a k => (a.1 + k.size, a.2 ++ [(a.1, k)])) (0, [])).2

/-- The bytes of a program memory bank. -/
def bankBytes (i : Image) (e : Nat) : List Byte :=
  (i.kernelsOn e).flatMap (fun k => k.code.flatMap (natLE 8) ++ k.consts.flatMap (natLE 4))

/-- The bytes of a coefficient bank: row b of profile p holds `COEF`[15 - b], [31 - b], [47 - b], [63 - b]. -/
def coefRow (r : ProfRec) (b : Nat) : List Byte :=
  [15, 31, 47, 63].flatMap (fun t => natLE 4 (ofS 32 (r.coef.getD (t - b) 0)))

/-- Replace a range of memory by bytes, the rest of it zero. -/
def fillRange (m : Memory) (a n : Nat) (b : List Byte) : Memory :=
  Memory.writeList (m.filter (fun c => decide (c.1 < a ∨ a + n ≤ c.1))) a b

/-- Fill one program memory and one coefficient bank of an engine from an image. -/
def engFill (d : Dev) (e bank : Nat) (i : Image) : Dev :=
  setEng d e (fun g =>
    let y := fillRange g.y (0x8000 + 0x2000 * bank) 0x2000 []
    let y := i.profs.foldl (fun y r =>
      (List.range 16).foldl (fun y b => Memory.writeList y (0x8000 + 0x2000 * bank + 256 * r.profile + 16 * b) (coefRow r b)) y) y
    { g with p := fillRange g.p (0x4000 * bank) 0x4000 (bankBytes i e), y := y })

/-- The banks swap and the user areas are zeroed, at a commit point (R233). -/
def engSwap (d : Dev) (e : Nat) : Dev :=
  let d := wr d (Reg.CHAN_ENG_STAT_BANK e) (1 - gBank d e)
  setEng d e (fun g => { g with x := fillRange g.x 0xC000 0x4000 [], y := fillRange g.y 0xE000 0x2000 [] })

/-- The inactive banks of every engine are filled from an image: ahead of its commit, or of the boundary of a pending switch
to it (R233). -/
def banksFill (d : Dev) (i : Image) : Dev :=
  let d := (List.range 24).foldl (fun d e => engFill d e (1 - gBank d e) i) d
  { d with firn := { d.firn with bank := some i } }

/-- An image takes effect in every engine: its banks, filled now unless they already hold it, become the active ones. -/
def enginesTake (d : Dev) (i : Image) : Dev :=
  let d := if d.firn.bank = some i then d else banksFill d i
  let d := (List.range 24).foldl engSwap d
  { d with firn := { d.firn with bank := none } }

/-- An engine's memories after a host test: wiped, then refilled from the active image (R489). -/
def engRefill (d : Dev) (e : Nat) : Dev :=
  let d := setEng d e (fun g => { g with x := [], y := [], p := [] })
  match d.firn.act with
  | some i => engFill d e (gBank d e) i
  | none => d

end Sys2Proof.Machine
end

