-- ==== Sys2Proof/Machine/Graupel.lean ====
section
/-!
DEFINITION. The Graupel instruction set (R219 to R222, R226): one meaning per instruction, the issue of one instruction
with its stalls and move slots, and the commands that issue one.
-/
namespace Sys2Proof.Machine

/-- What an instruction acts on: the engine, the register bank of its task, its fields and its own index in the kernel. -/
structure GCtx where
  e : Nat
  smp : Bool
  f : GFields
  pc : Nat
deriving DecidableEq, Repr

/-- Operand registers as signed values. -/
def GCtx.a (g : GCtx) (d : Dev) : Int := grS d g.e g.smp g.f.a
def GCtx.b (g : GCtx) (d : Dev) : Int := grS d g.e g.smp g.f.b
def GCtx.c (g : GCtx) (d : Dev) : Int := grS d g.e g.smp g.f.c

/-- The immediate, sign-extended. -/
def GCtx.imm (g : GCtx) : Int := toS 16 g.f.x

/-- Write `OPA`. -/
def GCtx.put (g : GCtx) (d : Dev) (x : Int) : Dev := gwS d g.e g.smp g.f.a x

/-- A bitwise operation on the 32-bit patterns of `OPB` and `OPC2`. -/
def GCtx.bitop (g : GCtx) (d : Dev) (op : Nat → Nat → Nat) : Dev :=
  g.put d (toS 32 (op (ofS 32 (g.b d)) (ofS 32 (g.c d))))

/-- `END`: the channel run ends and the repeat stack is cleared (R222). -/
def gEnd (g : GCtx) (d : Dev) : Dev := if g.smp then d else gStop d g.e

/-- `EVT`. -/
def gEvt (g : GCtx) (d : Dev) : Dev := raise d Src.ENG_USER 5 g.e (gData0 d g.e g.smp) (g.f.x % 256)

/-- `LDI`, `LDIH`, `MOV`. -/
def gLdi (g : GCtx) (d : Dev) : Dev := g.put d g.imm
def gLdih (g : GCtx) (d : Dev) : Dev := g.put d (toS 32 (ofS 32 (g.a d) % 2 ^ 16 + 2 ^ 16 * g.f.x))
def gMov (g : GCtx) (d : Dev) : Dev := g.put d (g.b d)

/-- `LDC`: a constant of the running kernel; beyond them the access is suppressed and reads 0 (R226). -/
def gLdc (g : GCtx) (d : Dev) : Dev :=
  let r := (eng d g.e).run
  let inr := decide (g.f.x < r.nconst)
  let v := if inr then Memory.readLE (eng d g.e).p (4 * (r.cbase + g.f.x)) 4 else 0
  let d := g.put d (toS 32 v)
  if inr || !gUser d g.e g.smp then d else gViol d g.e g.f.x 3

/-- `ADD`, `SUB`, `ADDI`: a sum outside the 32-bit format is a free value (log entry 16). -/
def gAdd (g : GCtx) (d : Dev) : Dev := gwFit d g.e g.smp g.f.a (g.b d + g.c d)
def gSub (g : GCtx) (d : Dev) : Dev := gwFit d g.e g.smp g.f.a (g.b d - g.c d)
def gAddi (g : GCtx) (d : Dev) : Dev := gwFit d g.e g.smp g.f.a (g.b d + g.imm)

/-- `AND`, `OR`, `XOR`. -/
def gAnd (g : GCtx) (d : Dev) : Dev := g.bitop d (· &&& ·)
def gOr (g : GCtx) (d : Dev) : Dev := g.bitop d (· ||| ·)
def gXor (g : GCtx) (d : Dev) : Dev := g.bitop d (· ^^^ ·)

/-- `MIN`, `MAX`, on signed values. -/
def gMin (g : GCtx) (d : Dev) : Dev := g.put d (min (g.b d) (g.c d))
def gMax (g : GCtx) (d : Dev) : Dev := g.put d (max (g.b d) (g.c d))

/-- `ABS`; of the most negative number a free value (log entry 16). -/
def gAbs (g : GCtx) (d : Dev) : Dev := gwFit d g.e g.smp g.f.a (g.b d).natAbs

/-- `SHL`, `SHR` by 0 to 31; by another amount a free value (log entry 16). -/
def gShl (g : GCtx) (d : Dev) : Dev :=
  let n := g.c d
  if 0 ≤ n ∧ n ≤ 31 then g.put d (g.b d * (2 : Int) ^ n.toNat)
  else gw (useFree d) g.e g.smp g.f.a (freeVal d % 2 ^ 32)
def gShr (g : GCtx) (d : Dev) : Dev :=
  let n := g.c d
  if 0 ≤ n ∧ n ≤ 31 then g.put d (asr (g.b d) n.toNat)
  else gw (useFree d) g.e g.smp g.f.a (freeVal d % 2 ^ 32)

/-- `MUL`: the low 32 bits of the product. -/
def gMul (g : GCtx) (d : Dev) : Dev := g.put d (toS 32 (ofS 32 (g.b d * g.c d)))

/-- `DIV`: rounded toward zero; by zero the limit by the sign of a; a quotient outside the format is a free value. -/
def gDiv (g : GCtx) (d : Dev) : Dev :=
  let a := g.b d
  let b := g.c d
  if b = 0 then g.put d (if a < 0 then -(2 : Int) ^ 31 else (2 : Int) ^ 31 - 1)
  else gwFit d g.e g.smp g.f.a (a.tdiv b)

/-- `RDV`. -/
def gRdv (g : GCtx) (d : Dev) : Dev :=
  let a := ofS 32 (g.b d)
  gSetSr (g.put d (toS 24 a)) g.e g.smp 0 (!bit a 24)

/-- `MPY`, `MAC`, `MSU`. -/
def gMpy (g : GCtx) (d : Dev) : Dev := gwA d g.e g.smp g.f.a (g.b d * g.c d)
def gMac (g : GCtx) (d : Dev) : Dev := gwA d g.e g.smp g.f.a (grA d g.e g.smp g.f.a + g.b d * g.c d)
def gMsu (g : GCtx) (d : Dev) : Dev := gwA d g.e g.smp g.f.a (grA d g.e g.smp g.f.a - g.b d * g.c d)

/-- `MAC2`. -/
def gMac2 (g : GCtx) (d : Dev) : Dev :=
  let p := grS d g.e g.smp (g.f.b + 1) * grS d g.e g.smp (g.f.c + 1)
  let x := grA d g.e g.smp g.f.a + g.b d * g.c d
  let y := grA d g.e g.smp (g.f.a + 1) + p
  gwA (gwA d g.e g.smp g.f.a x) g.e g.smp (g.f.a + 1) y

/-- What a read gives: 0 where the access is suppressed (R226). -/
def gLook {α : Type} [Inhabited α] (ok : Bool) (zero v : α) : α := if ok then v else zero

/-- Report the accesses of an instruction that were suppressed, each as (permitted, address, memory) (R226). -/
def gViols (d : Dev) (e : Nat) (l : List (Bool × Nat × Nat)) : Dev :=
  l.foldl (fun d x => if x.1 then d else gViol d e x.2.1 x.2.2) d

/-- `TAPM`, slot form (R221): an access that is suppressed reads 0 or writes nothing, the others are made (R226). -/
def gTapmSlot (g : GCtx) (d : Dev) : Dev :=
  let cf := b2n (bit g.f.flg 3)
  let hf := b2n (bit g.f.flg 1)
  let xa := (gr d g.e g.smp g.f.a + 16 * cf) % 65536
  let ya := (gr d g.e g.smp g.f.b + 8 * hf) % 65536
  let sa := (gr d g.e g.smp g.f.c + 64 * cf) % 65536
  let sb := sa / 64 * 64 + (sa + 16) % 64
  let xok := gXOk d g.e g.smp xa 4
  let yok := gYOk d g.e g.smp ya 4
  let yok1 := gYOk d g.e g.smp (ya + 4) 4
  let aok := gYOk d g.e g.smp sa 16
  let bok := gYOk d g.e g.smp sb 16
  let s := gLook xok 0 (toS 32 (gX32 d g.e xa))
  let c0 := gLook yok 0 (toS 32 (gY32 d g.e ya))
  let c1 := gLook yok1 0 (toS 32 (gY32 d g.e (ya + 4)))
  let fresh := bit g.f.flg 2 && gr d g.e g.smp gBI == 0
  let d := if aok then gwSlot d g.e g.smp sa (gSlot d g.e sa + s * c0) else d
  let d := if bok then
      let d := gwSlot d g.e g.smp sb ((if fresh then 0 else gSlot d g.e sb) + s * c1)
      if fresh then setEng d g.e (fun x => { x with y := wrWrap x.y (sb + 10) 1 (gBank d g.e) }) else d
    else d
  gViols d g.e [(xok, xa, 0), (yok, ya, 1), (yok1, (ya + 4) % 65536, 1), (aok, sa, 1), (bok, sb, 1)]

/-- `TAPM`, line form (R221). -/
def gTapmLine (g : GCtx) (d : Dev) : Dev :=
  let xa := gr d g.e g.smp g.f.a
  let xl := ofS 16 ((xa : Int) - 4)
  let xh := (xa + 4) % 65536
  let ya := gr d g.e g.smp g.f.b
  let lok := gXOk d g.e g.smp xl 4
  let xok := gXOk d g.e g.smp xa 4
  let hok := gXOk d g.e g.smp xh 4
  let yok := gYOk d g.e g.smp ya 4
  let yok1 := gYOk d g.e g.smp (ya + 4) 4
  let v := gLook xok 0 (gX32 d g.e xa)
  let w := gLook lok 0 (gX32 d g.e xl)
  let c0 := gLook yok 0 (toS 32 (gY32 d g.e ya))
  let c1 := gLook yok1 0 (toS 32 (gY32 d g.e (ya + 4)))
  let d := gwA d g.e g.smp g.f.c (grA d g.e g.smp g.f.c + toS 32 v * c0 + toS 32 w * c1)
  let d := if hok then gXw d g.e xh v else d
  let d := if xok then gXw d g.e xa w else d
  let d := gPtrStep (gPtrStep d g.e g.smp g.f.a (-8)) g.e g.smp g.f.b 8
  gViols d g.e [(xok, xa, 0), (lok, xl, 0), (hok, xh, 0), (yok, ya, 1), (yok1, (ya + 4) % 65536, 1)]

/-- `CLRA`, `ADDA`, `SHA`. -/
def gClra (g : GCtx) (d : Dev) : Dev := gwA d g.e g.smp g.f.a 0
def gAdda (g : GCtx) (d : Dev) : Dev := gwA d g.e g.smp g.f.a (grA d g.e g.smp g.f.a + grA d g.e g.smp g.f.b)
def gSha (g : GCtx) (d : Dev) : Dev :=
  let x := grA d g.e g.smp g.f.a
  let n := g.b d
  gwA d g.e g.smp g.f.a (if 0 ≤ n then x * (2 : Int) ^ (min n.toNat 200) else asr x (min (-n).toNat 200))

/-- `RND` by 1 to 63; by another amount a free value (log entry 16). -/
def gRnd (g : GCtx) (d : Dev) : Dev :=
  let n := g.c d
  if 1 ≤ n ∧ n ≤ 63 then
    let (v, d) := gExt d g.e g.smp 32 (asr (grA d g.e g.smp g.f.b + (2 : Int) ^ (n.toNat - 1)) n.toNat)
    g.put d v
  else gw (useFree d) g.e g.smp g.f.a (freeVal d % 2 ^ 32)

/-- `LDA`, `STA`: an accumulator and the Y slot at a pointer. -/
def gLda (g : GCtx) (d : Dev) : Dev :=
  let a := gr d g.e g.smp g.f.b
  if gYOk d g.e g.smp a 16 then gwA d g.e g.smp g.f.a (gSlot d g.e a)
  else gViol (gwA d g.e g.smp g.f.a 0) g.e a 1
def gSta (g : GCtx) (d : Dev) : Dev :=
  let a := gr d g.e g.smp g.f.a
  if gYOk d g.e g.smp a 16 then gSlotW d g.e a (grA d g.e g.smp g.f.b) else gViol d g.e a 1

/-- The channel that HOT instructions address (R226). -/
def GCtx.ch (g : GCtx) (d : Dev) : Nat := gr d g.e g.smp gCH

/-- `LDH`, `LDHQ`, `LDHA`: reads reach the whole segment. -/
def gLdh (g : GCtx) (d : Dev) : Dev := g.put d (toS 32 (hot d (g.ch d) (gHotOff d g.e g.smp g.f.x 4) 4))
def gLdhq (g : GCtx) (d : Dev) : Dev :=
  let o := gHotOff d g.e g.smp g.f.x 8
  let lo := hot d (g.ch d) o 4
  let hi := hot d (g.ch d) (o + 4) 4
  gw (gw d g.e g.smp g.f.a lo) g.e g.smp (g.f.a + 1) hi
def gLdha (g : GCtx) (d : Dev) : Dev :=
  gwA d g.e g.smp g.f.a (hotS d (g.ch d) (gHotOff d g.e g.smp g.f.x 8) 8)

/-- `STH`, `STHQ`, `STHA`: permission-checked and journaled. -/
def gSth (g : GCtx) (d : Dev) : Dev :=
  let o := gHotOff d g.e g.smp g.f.x 4
  if gHotOk d g.e g.smp o 4 then gHotWrite d g.e (g.ch d) o 1 (ofS 32 (g.a d)) else gViol d g.e o 2
def gSthq (g : GCtx) (d : Dev) : Dev :=
  let o := gHotOff d g.e g.smp g.f.x 8
  if gHotOk d g.e g.smp o 8 then
    gHotWrite d g.e (g.ch d) o 2 (ofS 32 (g.a d) + 2 ^ 32 * ofS 32 (grS d g.e g.smp (g.f.a + 1)))
  else gViol d g.e o 2
def gStha (g : GCtx) (d : Dev) : Dev :=
  let o := gHotOff d g.e g.smp g.f.x 8
  if gHotOk d g.e g.smp o 8 then
    let (v, d) := gExt d g.e g.smp 64 (grA d g.e g.smp g.f.a)
    gHotWrite d g.e (g.ch d) o 2 (ofS 64 v)
  else gViol d g.e o 2

/-- `SINCOS`. -/
def gSincos (g : GCtx) (d : Dev) : Dev :=
  let cs := trigRound 32767 (ofS 32 (g.b d))
  gwS (gwS d g.e g.smp g.f.a cs.1) g.e g.smp (g.f.a + 1) cs.2

/-- Take a branch: the next instruction is `IMM`. -/
def gBranch (g : GCtx) (d : Dev) (taken : Bool) : Dev :=
  if taken && !g.smp then setEng d g.e (fun x => { x with run := { x.run with pc := g.f.x } }) else d

/-- Whether a branch opcode is taken. -/
def gTaken (g : GCtx) (d : Dev) (opc : Nat) : Bool :=
  match opc with
  | 0x40 => true
  | 0x41 => decide (g.a d = 0)
  | 0x42 => decide (g.a d ≠ 0)
  | 0x43 => decide (g.a d < 0)
  | 0x44 => decide (0 ≤ g.a d)
  | 0x45 => bit (gr d g.e g.smp gSR) 0
  | _ => false

/-- The next instruction after the one at `p`, under the repeat stack (R222). -/
def gLoop : List (Nat × Nat × Nat) → Nat → Nat × List (Nat × Nat × Nat)
  | [], p => (p + 1, [])
  | (f, l, n) :: rs, p =>
    if p = l then (if 1 < n then (f, (f, l, n - 1) :: rs) else gLoop rs p) else (p + 1, (f, l, n) :: rs)

/-- `REP`, `REPR`: the next `FLG` + 1 instructions, `n` times. -/
def gRep (g : GCtx) (d : Dev) (n : Nat) : Dev :=
  if g.smp then d
  else
    let last := g.pc + g.f.flg + 1
    setEng d g.e (fun x =>
      if n = 0 then
        let r := gLoop x.run.reps last
        { x with run := { x.run with pc := r.1, reps := r.2 } }
      else { x with run := { x.run with pc := g.pc + 1, reps := (g.pc + 1, last, n) :: x.run.reps } })

/-- `REP` and `REPR`. -/
def gRepI (g : GCtx) (d : Dev) : Dev := gRep g d g.f.x
def gRepR (g : GCtx) (d : Dev) : Dev := gRep g d (ofS 32 (g.a d))

/-- The effect of an instruction's compute operation. A reserved opcode, which no accepted kernel holds (R232), has
none. -/
def gEff (opc : Nat) (g : GCtx) (d : Dev) : Dev :=
  match opc with
  | 0x01 => gEnd g d
  | 0x02 => gEvt g d
  | 0x08 => gLdi g d
  | 0x09 => gLdih g d
  | 0x0A => gMov g d
  | 0x0B => gLdc g d
  | 0x10 => gAdd g d
  | 0x11 => gSub g d
  | 0x12 => gAnd g d
  | 0x13 => gOr g d
  | 0x14 => gXor g d
  | 0x15 => gMin g d
  | 0x16 => gMax g d
  | 0x17 => gAbs g d
  | 0x18 => gShl g d
  | 0x19 => gShr g d
  | 0x1A => gAddi g d
  | 0x1B => gMul g d
  | 0x1C => gDiv g d
  | 0x1D => gRdv g d
  | 0x20 => gMpy g d
  | 0x21 => gMac g d
  | 0x22 => gMsu g d
  | 0x23 => gMac2 g d
  | 0x24 => if bit g.f.flg 0 then gTapmLine g d else gTapmSlot g d
  | 0x28 => gClra g d
  | 0x29 => gAdda g d
  | 0x2A => gSha g d
  | 0x2B => gRnd g d
  | 0x2C => gLda g d
  | 0x2D => gSta g d
  | 0x30 => gLdh g d
  | 0x31 => gLdhq g d
  | 0x32 => gSth g d
  | 0x33 => gSthq g d
  | 0x34 => gLdha g d
  | 0x35 => gStha g d
  | 0x38 => gSincos g d
  | 0x48 => gRepI g d
  | 0x49 => gRepR g d
  | _ => d

/-! ### Issue (R219, R220) -/

/-- The registers an instruction's compute operation uses. -/
def gUses (opc : Nat) (f : GFields) : List Nat :=
  if opc = 0x09 ∨ opc = 0x49 ∨ (0x41 ≤ opc ∧ opc ≤ 0x44) then [f.a]
  else if opc = 0x35 ∨ opc = 0x32 then [f.a, gAH]
  else if opc = 0x33 then [f.a, f.a + 1, gAH]
  else if opc = 0x24 then [f.a, f.b, f.c] ++ (if bit f.flg 0 then [f.a + 0x10, f.b + 0x10] else [gBI])
  else if opc = 0x0A ∨ opc = 0x17 ∨ opc = 0x1D ∨ opc = 0x1A ∨ opc = 0x2C ∨ opc = 0x38 then [f.b]
  else if opc = 0x29 ∨ opc = 0x2A ∨ opc = 0x2D then [f.a, f.b]
  else if opc = 0x23 then [f.a, f.a + 1, f.b, f.b + 1, f.c, f.c + 1]
  else if opc = 0x21 ∨ opc = 0x22 then [f.a, f.b, f.c]
  else if (0x10 ≤ opc ∧ opc ≤ 0x1C) ∨ opc = 0x20 ∨ opc = 0x2B then [f.b, f.c]
  else if opc = 0x45 then [gSR]
  else if 0x30 ≤ opc ∧ opc ≤ 0x35 then [gAH]
  else []

/-- The registers it defines. -/
def gDefs (opc : Nat) (f : GFields) : List Nat :=
  if opc = 0x23 ∨ opc = 0x31 ∨ opc = 0x38 then [f.a, f.a + 1]
  else if opc = 0x24 then (if bit f.flg 0 then [f.a, f.b, f.c] else [])
  else match gRow opc with
    | some r => if r.a == .dst || r.a == .acc || r.a == .accPair then (if opc = 0x35 then [] else [f.a]) else []
    | none => []

/-- The registers a move slot uses and defines; `y` for a Y move. A post-modification uses the pointer's mode (R217). -/
def gMoveUses (m : Nat) (y : Bool) : List Nat :=
  if bit m 15 then
    let n := bits m 7 2
    let how := bits m 5 2
    ((if y then 0x1C else 0x18) + n) :: (if how = 0 then [] else [(if y then 0x2C else 0x28) + n]) ++
      (if how = 3 then [(if y then 0x24 else 0x20) + n] else []) ++ (if bit m 14 then [gMoveReg (bits m 9 5)] else [])
  else []
def gMoveDefs (m : Nat) : List Nat := if bit m 15 && !bit m 14 then [gMoveReg (bits m 9 5)] else []

/-- A move slot's transfer, with addresses and stored values as they were before the instruction (`d0`). -/
def gMove (d0 d : Dev) (e : Nat) (smp y : Bool) (m : Nat) : Dev :=
  if !bit m 15 then d
  else
    let n := bits m 7 2
    let a := gr d0 e smp ((if y then 0x1C else 0x18) + n)
    let r := gMoveReg (bits m 9 5)
    let ok := if y then gYOk d0 e smp a 4 else gXOk d0 e smp a 4
    let d := if ok then
        if bit m 14 then (if y then gYw d e a (gr d0 e smp r) else gXw d e a (gr d0 e smp r))
        else gw d e smp r (if y then gY32 d0 e a else gX32 d0 e a)
      else
        gViol (if bit m 14 then d else gw d e smp r 0) e a (b2n y)
    gPost d e smp y n (bits m 5 2)

/-- Count issue cycles of a task in the running tick. -/
def gCount (d : Dev) (e : Nat) (smp : Bool) (n : Nat) : Dev :=
  setEng d e (fun g =>
    if smp then { g with cycS := g.cycS + n }
    else if d.phase ≤ 1 then { g with cycF := g.cycF + n }
    else { g with cycC := g.cycC + n })

/-- Issue one instruction word on an engine's task: stalls, compute operation, move slots, next instruction. -/
def gExec (d : Dev) (e : Nat) (smp : Bool) (w : Nat) : Dev :=
  let opc := gOpc w
  let f := gFields w
  let imm := ((gRow opc).map (·.imm)).getD false
  let xm := if imm then 0 else f.x
  let r := (eng d e).run
  let g : GCtx := { e := e, smp := smp, f := f, pc := r.pc }
  let uses := gUses opc f ++ gMoveUses xm false ++ gMoveUses f.y true
  let at_ := if smp then 0 else uses.foldl (fun t c => max t (SMap.get 0 r.ready c)) r.cyc
  let taken := gTaken g d opc
  let cost := if taken then 3 else ((gRow opc).map (·.cyc)).getD 1
  let lat := ((gRow opc).map (·.lat)).getD 0
  let total := if smp then cost else at_ - r.cyc + cost
  let d0 := d
  let d := gCount d e smp total
  -- next instruction
  let d := if smp then d else
    let nx := gLoop r.reps r.pc
    setEng d e (fun x => { x with run := { x.run with
      pc := nx.1, reps := nx.2, cyc := r.cyc + total,
      ready := (gMoveDefs xm ++ gMoveDefs f.y).foldl (fun m c => SMap.set 0 m c (at_ + 1))
        ((gDefs opc f).foldl (fun m c => SMap.set 0 m c (at_ + lat)) x.run.ready) } })
  let d := if opc = 0x48 ∨ opc = 0x49 then
      setEng d e (fun x => { x with run := { x.run with reps := r.reps } })
    else d
  let d := gBranch g (gEff opc g d) taken
  gMove d0 (gMove d0 d e smp false xm) e smp true f.y

/-- The word with a given opcode. -/
def gWith (opc w : Nat) : Nat := w % 2 ^ 56 + opc * 2 ^ 56

/-! ### The commands: one instruction issued on engine `e`, in its sample task (`smp`) or its window task -/

/-- NOP. -/
def execEngNop (e : Nat) (smp : Bool) (w : Nat) (s : State) : Host.Outcome State Fault Refusal :=
  .next { s with d := gExec s.d e smp (gWith 0x00 w) }

/-- END. -/
def execEngEnd (e : Nat) (smp : Bool) (w : Nat) (s : State) : Host.Outcome State Fault Refusal :=
  .next { s with d := gExec s.d e smp (gWith 0x01 w) }

/-- EVT. -/
def execEngEvt (e : Nat) (smp : Bool) (w : Nat) (s : State) : Host.Outcome State Fault Refusal :=
  .next { s with d := gExec s.d e smp (gWith 0x02 w) }

/-- LDI. -/
def execEngLdi (e : Nat) (smp : Bool) (w : Nat) (s : State) : Host.Outcome State Fault Refusal :=
  .next { s with d := gExec s.d e smp (gWith 0x08 w) }

/-- LDIH. -/
def execEngLdih (e : Nat) (smp : Bool) (w : Nat) (s : State) : Host.Outcome State Fault Refusal :=
  .next { s with d := gExec s.d e smp (gWith 0x09 w) }

/-- MOV. -/
def execEngMov (e : Nat) (smp : Bool) (w : Nat) (s : State) : Host.Outcome State Fault Refusal :=
  .next { s with d := gExec s.d e smp (gWith 0x0A w) }

/-- LDC. -/
def execEngLdc (e : Nat) (smp : Bool) (w : Nat) (s : State) : Host.Outcome State Fault Refusal :=
  .next { s with d := gExec s.d e smp (gWith 0x0B w) }

/-- ADD. -/
def execEngAdd (e : Nat) (smp : Bool) (w : Nat) (s : State) : Host.Outcome State Fault Refusal :=
  .next { s with d := gExec s.d e smp (gWith 0x10 w) }

/-- SUB. -/
def execEngSub (e : Nat) (smp : Bool) (w : Nat) (s : State) : Host.Outcome State Fault Refusal :=
  .next { s with d := gExec s.d e smp (gWith 0x11 w) }

/-- AND. -/
def execEngAnd (e : Nat) (smp : Bool) (w : Nat) (s : State) : Host.Outcome State Fault Refusal :=
  .next { s with d := gExec s.d e smp (gWith 0x12 w) }

/-- OR. -/
def execEngOr (e : Nat) (smp : Bool) (w : Nat) (s : State) : Host.Outcome State Fault Refusal :=
  .next { s with d := gExec s.d e smp (gWith 0x13 w) }

/-- XOR. -/
def execEngXor (e : Nat) (smp : Bool) (w : Nat) (s : State) : Host.Outcome State Fault Refusal :=
  .next { s with d := gExec s.d e smp (gWith 0x14 w) }

/-- MIN. -/
def execEngMin (e : Nat) (smp : Bool) (w : Nat) (s : State) : Host.Outcome State Fault Refusal :=
  .next { s with d := gExec s.d e smp (gWith 0x15 w) }

/-- MAX. -/
def execEngMax (e : Nat) (smp : Bool) (w : Nat) (s : State) : Host.Outcome State Fault Refusal :=
  .next { s with d := gExec s.d e smp (gWith 0x16 w) }

/-- ABS. -/
def execEngAbs (e : Nat) (smp : Bool) (w : Nat) (s : State) : Host.Outcome State Fault Refusal :=
  .next { s with d := gExec s.d e smp (gWith 0x17 w) }

/-- SHL. -/
def execEngShl (e : Nat) (smp : Bool) (w : Nat) (s : State) : Host.Outcome State Fault Refusal :=
  .next { s with d := gExec s.d e smp (gWith 0x18 w) }

/-- SHR. -/
def execEngShr (e : Nat) (smp : Bool) (w : Nat) (s : State) : Host.Outcome State Fault Refusal :=
  .next { s with d := gExec s.d e smp (gWith 0x19 w) }

/-- ADDI. -/
def execEngAddi (e : Nat) (smp : Bool) (w : Nat) (s : State) : Host.Outcome State Fault Refusal :=
  .next { s with d := gExec s.d e smp (gWith 0x1A w) }

/-- MUL. -/
def execEngMul (e : Nat) (smp : Bool) (w : Nat) (s : State) : Host.Outcome State Fault Refusal :=
  .next { s with d := gExec s.d e smp (gWith 0x1B w) }

/-- DIV. -/
def execEngDiv (e : Nat) (smp : Bool) (w : Nat) (s : State) : Host.Outcome State Fault Refusal :=
  .next { s with d := gExec s.d e smp (gWith 0x1C w) }

/-- RDV. -/
def execEngRdv (e : Nat) (smp : Bool) (w : Nat) (s : State) : Host.Outcome State Fault Refusal :=
  .next { s with d := gExec s.d e smp (gWith 0x1D w) }

/-- MPY. -/
def execEngMpy (e : Nat) (smp : Bool) (w : Nat) (s : State) : Host.Outcome State Fault Refusal :=
  .next { s with d := gExec s.d e smp (gWith 0x20 w) }

/-- MAC. -/
def execEngMac (e : Nat) (smp : Bool) (w : Nat) (s : State) : Host.Outcome State Fault Refusal :=
  .next { s with d := gExec s.d e smp (gWith 0x21 w) }

/-- MSU. -/
def execEngMsu (e : Nat) (smp : Bool) (w : Nat) (s : State) : Host.Outcome State Fault Refusal :=
  .next { s with d := gExec s.d e smp (gWith 0x22 w) }

/-- MAC2. -/
def execEngMac2 (e : Nat) (smp : Bool) (w : Nat) (s : State) : Host.Outcome State Fault Refusal :=
  .next { s with d := gExec s.d e smp (gWith 0x23 w) }

/-- CLRA. -/
def execEngClra (e : Nat) (smp : Bool) (w : Nat) (s : State) : Host.Outcome State Fault Refusal :=
  .next { s with d := gExec s.d e smp (gWith 0x28 w) }

/-- ADDA. -/
def execEngAdda (e : Nat) (smp : Bool) (w : Nat) (s : State) : Host.Outcome State Fault Refusal :=
  .next { s with d := gExec s.d e smp (gWith 0x29 w) }

/-- SHA. -/
def execEngSha (e : Nat) (smp : Bool) (w : Nat) (s : State) : Host.Outcome State Fault Refusal :=
  .next { s with d := gExec s.d e smp (gWith 0x2A w) }

/-- RND. -/
def execEngRnd (e : Nat) (smp : Bool) (w : Nat) (s : State) : Host.Outcome State Fault Refusal :=
  .next { s with d := gExec s.d e smp (gWith 0x2B w) }

/-- LDA. -/
def execEngLda (e : Nat) (smp : Bool) (w : Nat) (s : State) : Host.Outcome State Fault Refusal :=
  .next { s with d := gExec s.d e smp (gWith 0x2C w) }

/-- STA. -/
def execEngSta (e : Nat) (smp : Bool) (w : Nat) (s : State) : Host.Outcome State Fault Refusal :=
  .next { s with d := gExec s.d e smp (gWith 0x2D w) }

/-- LDH. -/
def execEngLdh (e : Nat) (smp : Bool) (w : Nat) (s : State) : Host.Outcome State Fault Refusal :=
  .next { s with d := gExec s.d e smp (gWith 0x30 w) }

/-- LDHQ. -/
def execEngLdhq (e : Nat) (smp : Bool) (w : Nat) (s : State) : Host.Outcome State Fault Refusal :=
  .next { s with d := gExec s.d e smp (gWith 0x31 w) }

/-- STH. -/
def execEngSth (e : Nat) (smp : Bool) (w : Nat) (s : State) : Host.Outcome State Fault Refusal :=
  .next { s with d := gExec s.d e smp (gWith 0x32 w) }

/-- STHQ. -/
def execEngSthq (e : Nat) (smp : Bool) (w : Nat) (s : State) : Host.Outcome State Fault Refusal :=
  .next { s with d := gExec s.d e smp (gWith 0x33 w) }

/-- LDHA. -/
def execEngLdha (e : Nat) (smp : Bool) (w : Nat) (s : State) : Host.Outcome State Fault Refusal :=
  .next { s with d := gExec s.d e smp (gWith 0x34 w) }

/-- STHA. -/
def execEngStha (e : Nat) (smp : Bool) (w : Nat) (s : State) : Host.Outcome State Fault Refusal :=
  .next { s with d := gExec s.d e smp (gWith 0x35 w) }

/-- SINCOS. -/
def execEngSincos (e : Nat) (smp : Bool) (w : Nat) (s : State) : Host.Outcome State Fault Refusal :=
  .next { s with d := gExec s.d e smp (gWith 0x38 w) }

/-- BR. -/
def execEngBr (e : Nat) (smp : Bool) (w : Nat) (s : State) : Host.Outcome State Fault Refusal :=
  .next { s with d := gExec s.d e smp (gWith 0x40 w) }

/-- BZ. -/
def execEngBz (e : Nat) (smp : Bool) (w : Nat) (s : State) : Host.Outcome State Fault Refusal :=
  .next { s with d := gExec s.d e smp (gWith 0x41 w) }

/-- BNZ. -/
def execEngBnz (e : Nat) (smp : Bool) (w : Nat) (s : State) : Host.Outcome State Fault Refusal :=
  .next { s with d := gExec s.d e smp (gWith 0x42 w) }

/-- BLT. -/
def execEngBlt (e : Nat) (smp : Bool) (w : Nat) (s : State) : Host.Outcome State Fault Refusal :=
  .next { s with d := gExec s.d e smp (gWith 0x43 w) }

/-- BGE. -/
def execEngBge (e : Nat) (smp : Bool) (w : Nat) (s : State) : Host.Outcome State Fault Refusal :=
  .next { s with d := gExec s.d e smp (gWith 0x44 w) }

/-- BNV. -/
def execEngBnv (e : Nat) (smp : Bool) (w : Nat) (s : State) : Host.Outcome State Fault Refusal :=
  .next { s with d := gExec s.d e smp (gWith 0x45 w) }

/-- REP. -/
def execEngRep (e : Nat) (smp : Bool) (w : Nat) (s : State) : Host.Outcome State Fault Refusal :=
  .next { s with d := gExec s.d e smp (gWith 0x48 w) }

/-- REPR. -/
def execEngRepr (e : Nat) (smp : Bool) (w : Nat) (s : State) : Host.Outcome State Fault Refusal :=
  .next { s with d := gExec s.d e smp (gWith 0x49 w) }

/-- TAPM_SLOT: `TAPM` with `L` clear. -/
def execEngTapmSlot (e : Nat) (smp : Bool) (w : Nat) (s : State) : Host.Outcome State Fault Refusal :=
  .next { s with d := gExec s.d e smp (gWith 0x24 (setBit w 32 false)) }

/-- TAPM_LINE: `TAPM` with `L` set. -/
def execEngTapmLine (e : Nat) (smp : Bool) (w : Nat) (s : State) : Host.Outcome State Fault Refusal :=
  .next { s with d := gExec s.d e smp (gWith 0x24 (setBit w 32 true)) }

end Sys2Proof.Machine
end

