-- ==== Sys2Proof/Machine/Access.lean ====
section
/-!
DEFINITION. Writing the register space (R9 to R14, R123 and its like, R456, R504, R523, R524): which register an address
is, which of its fields a write may set, which writes are refused, and how a refused write is answered and logged.
-/
namespace Sys2Proof.Machine

/-- The indices that an offset from a register's element 0 spells in its ranges, outermost first. -/
def findIdx : List (Nat × Nat) → Nat → Option (List Nat)
  | [], o => if o = 0 then some [] else none
  | (n, st) :: ds, o => if o / st < n then (findIdx ds (o % st)).map (o / st :: ·) else none

/-- The register that occupies an address, with its indices. -/
def regFind (addr : Nat) : Option (RegRow × List Nat) :=
  regTable.findSome? (fun r => if addr < r.addr then none else (findIdx r.dims (addr - r.addr)).map (fun l => (r, l)))

/-- A field of a register row at its indices. -/
def FldRow.at (f : FldRow) (l : List Nat) : Fld := f.f (l.getD 0 0) (l.getD 1 0) (l.getD 2 0)

/-- The lock bit that governs the RWL fields at an address, by block. -/
def lockOf (addr : Nat) : Fld :=
  if addr < 0x04000000 then Reg.CHAN_ENG_LOCK_LOCK
  else if addr < 0x10000000 then Reg.LEDGER_LOCK_LOCK
  else match addr / 0x10000 with
    | 0x1001 => Reg.PWR_LOCK_LOCK
    | 0x1003 => Reg.TRI_LOCK_LOCK
    | 0x1004 => Reg.FIRN_LOCK_LOCK
    | 0x1005 => Reg.FLOE_GLOCK_LOCK
    | 0x1006 => Reg.MEAS_LOCK_LOCK
    | 0x1007 => Reg.CHAN_LOCK_LOCK
    | 0x1008 => Reg.SERAC_LOCK_LOCK
    | 0x1009 => Reg.NET_LOCK_LOCK
    | 0x100A => Reg.RIMEL_LOCK_LOCK
    | 0x100B => Reg.RIMET_LOCK_LOCK
    | 0x100C => Reg.SCH_LOCK_LOCK
    | 0x100D => Reg.SAFE_LOCK_LOCK
    | 0x100E => Reg.AXIS_LOCK_LOCK
    | 0x100F => Reg.AUX_LOCK_LOCK
    | 0x1010 => if addr % 0x10000 < 0x8000 then Reg.BIST_LOCK_LOCK else Reg.LCY_LOCK_LOCK
    | 0x1011 => Reg.HOST_LOCK_LOCK
    | 0x1012 => Reg.DRC_LOCK_LOCK
    | 0x1013 => Reg.FWL_LOCK_LOCK
    | 0x1014 => Reg.THAW_LOCK_LOCK
    | _ => Reg.TIME_LOCK_LOCK

/-- The power domain that serves an address, where it may be off (R523): the bit of `PWR_STAT.DOM_ON`. -/
def domainOf (addr : Nat) : Option Nat :=
  if 0x02000000 ≤ addr ∧ addr < 0x02600000 then some (if addr < 0x02300000 then 6 else 7)
  else match addr / 0x10000 with
    | 0x1005 => if addr % 0x10000 < 0x4000 then some 9 else if addr % 0x10000 < 0x8000 then some 10 else none
    | 0x100A => some 11
    | 0x100B => some 11
    | 0x100C => some 11
    | 0x100D => some 15
    | _ => none

/-- The zone whose mode governs the RWS fields of a register; none for the device-wide rule (R13). -/
def scopeZone (d : Dev) (s : RegScope) (l : List Nat) : Option Nat :=
  match s with
  | .device => none
  | .group => groupZone d (l.getD 0 0)
  | .port => portZone d (l.getD 0 0)
  | .axis => ((img d).axes.find? (fun a => a.axis == l.getD 0 0)).map (·.zone)

/-- Whether the governing mode of a register's RWS fields permits a write (R13). A group, port or axis that the image
does not have follows the device-wide rule (log entry 11). -/
def rwsOpen (d : Dev) (r : RegRow) (l : List Nat) : Bool :=
  match scopeZone d r.scope l with
  | some z => isMaint (zmode d z)
  | none => allMaint d

/-- The value a write gives a field. -/
def fldVal (f : Fld) (w : Nat) : Nat := bits w f.lo f.wd

/-- Whether a field takes the value a write gives it. A write that commits has been judged when it was made (R17). -/
def fldOpen (d : Dev) (r : RegRow) (l : List Nat) (addr : Nat) (f : FldRow) : Bool :=
  match f.acc with
  | .rw => true
  | .rwl => !rdB d (lockOf addr) && (!(addr == 0x0420000C || addr == 0x04200010) || inBoot d)
  | .rws => d.apply || rwsOpen d r l
  | _ => false

/-- A written field that the write may not change, while the written value differs from the held one (R12). -/
def fldRefused (d : Dev) (r : RegRow) (l : List Nat) (addr w : Nat) (f : FldRow) : Bool :=
  (f.acc == .rwl || f.acc == .rws) && !fldOpen d r l addr f && fldVal (f.at l) w != rd d (f.at l)

/-- A written field outside its stated limits. -/
def fldOutside (w : Nat) (l : List Nat) (f : FldRow) : Bool :=
  match f.acc, f.lim with
  | .ro, _ => false
  | .wo, _ => false
  | _, some (lo, hi) => let v := fldVal (f.at l) w; decide (v < lo ∨ hi < v)
  | _, none => false

/-- The effect of a write on one field, by its access code (R11). -/
def fldWrite (d : Dev) (r : RegRow) (l : List Nat) (addr w : Nat) (f : FldRow) : Dev :=
  let g := f.at l
  match f.acc with
  | .w1c => wr d g (rd d g - (rd d g &&& fldVal g w))
  | .w1s => wr d g (rd d g ||| fldVal g w)
  | _ => if fldOpen d r l addr f then wr d g (fldVal g w) else d

/-- The pages that R314 closes to writes in safe state: CHAN and SEQ, SERAC, NET, SAFE, AXIS. -/
def safeClosed (addr : Nat) : Bool := [0x1007, 0x1008, 0x1009, 0x100D, 0x100E].contains (addr / 0x10000)

/-- Whether a write only clears W1C bits of a register (served in safe state, R314). -/
def onlyW1c (r : RegRow) (l : List Nat) (w : Nat) : Bool :=
  r.flds.all (fun f => f.acc == .w1c || f.acc == .ro || fldVal (f.at l) w == 0) && r.flds.any (fun f => f.acc == .w1c)

/-- A write as the fields it may set leave it: each field that is closed to it keeps the value held, and whether it asked
another (R12). -/
def openPart (d : Dev) (addr w : Nat) : Nat × Bool :=
  match regFind addr with
  | none => (w, false)
  | some (r, l) =>
    (r.flds.foldl (fun v f =>
      if fldRefused d r l addr w f then
        let g := f.at l
        v - bits v g.lo g.wd * 2 ^ g.lo + rd d g * 2 ^ g.lo
      else v) w, r.flds.any (fldRefused d r l addr w))

/-- Why an access to an address is not served at all: a code of R502 or one of the model's own, 0 where it is (R283, R292,
R297, R456, R504). What commits has been judged when it was made. -/
def accessErr (d : Dev) (req : Requester) (addr : Nat) (write : Bool) : Nat :=
  if !d.apply && silenced d req then errNone
  else if !d.apply && mpuBars d req addr write then errMpu
  else if !d.apply && debugBars d req addr write then errRefused
  else if req = .host ∧ d.bootOk = false ∧
      ¬(addr / 0x10000 = 0x1010 ∧ (write = false ∨ addr = 0x10108004)) then errBoot
  else if addr % 4 ≠ 0 then errAlign
  else match domainOf addr with
    | some b => if rdFBit d Reg.PWR_STAT_DOM_ON b && !bit d.pwr.onPend b then 0 else errDomainOff
    | none => 0

/-- Why an access of a size in bytes is not served: every access to the device space is 32 bits wide (R9, R500). -/
def sizeErr (d : Dev) (req : Requester) (addr size : Nat) (write : Bool) : Nat :=
  let e := accessErr d req addr write
  if size = 4 then 0 else if e = errBoot ∨ e = errNone ∨ e = errMpu then e else errAlign

/-- Whether a condition's `PA` and `PB` break the limits that its quantity gives them (R211). -/
def condBad (qty pa pb : Nat) : Bool :=
  if 6 ≤ qty ∧ qty ≤ 8 then decide (7 < pa ∨ pb ≠ 0)
  else if qty = 14 ∨ qty = 15 then decide (pb < pa)
  else decide (pa ≠ 0 ∨ pb ≠ 0)

/-- A register write whose values break a rule between fields, by register (each rule with its chapter): the write is
refused as one that leaves the stated limits. -/
def crossFault (d : Dev) (addr w : Nat) : Bool :=
  if 0x10060400 ≤ addr ∧ addr < 0x10060800 then decide (bits w 0 8 ≤ bits w 8 8)                    -- R123
  else if 0x10060800 ≤ addr ∧ addr < 0x10061000 ∧ addr % 8 = 0 then decide (bits w 16 16 ≤ bits w 0 16)  -- R123
  else if 0x10076000 ≤ addr ∧ addr < 0x10077000 ∧ addr % 8 = 0 then condBad (bits w 0 5) (bits w 8 8) (bits w 16 8)  -- R211
  else if addr = 0x10090044 then decide (bits w 16 16 ≤ bits w 0 16)                                -- R249
  else if addr = 0x0420000C ∨ addr = 0x04200010 then                                               -- R516
    let lo := if addr = 0x0420000C then bits w 25 7 else rd d Reg.LEDGER_BASE_LO_ADDR
    let hi := if addr = 0x04200010 then bits w 0 3 else rd d Reg.LEDGER_BASE_HI_ADDR
    decide (rd d Reg.DRC_STAT_SIZE * 2 ^ 30 < hi * 2 ^ 32 + lo * 2 ^ 25 + 0x03600000)
  else false

/-- Whether a write puts a field outside its stated limits or breaks a rule between fields, so that it is refused whole: no
command in it acts either (R12). -/
def limitsBad (d : Dev) (addr w : Nat) : Bool :=
  match regFind addr with
  | none => false
  | some (r, l) => r.flds.any (fldOutside w l) || crossFault d addr w

/-- Which of a register's fields a write sets, its refusals and their log (R11, R12). -/
def writeFields (d : Dev) (req : Requester) (addr w : Nat) : Dev :=
  match regFind addr with
  | none =>
    if addr = 0x1000000C ∨ addr = 0x10000010 then okResp d else errResp d req addr errUnmapped true
  | some (r, l) =>
    if r.flds.any (fldOutside w l) || crossFault d addr w then refuseW d req addr
    else
      let bad := r.flds.any (fldRefused d r l addr w)
      let d := r.flds.foldl (fun d f => fldWrite d r l addr w f) d
      if bad then refuseW d req addr else okResp d

/-- A register write as it reaches its block: not served, closed by safe state, staged for the commit point where it sets
group state (R17), or taking effect at once. -/
def regAccess (d : Dev) (req : Requester) (addr w : Nat) (act : Dev → Dev) : Dev :=
  let e := accessErr d req addr true
  if e ≠ 0 then notServed d req addr e true
  else match regFind addr with
    | none => act d
    | some (r, l) => if inSafe d && safeClosed addr && !onlyW1c r l w then refuseW d req addr else act d

/-- Whether a requester's writes travel to the partner and commit at the cycle boundary: those of the host and the triad of
an ACTIVE device (R18, R383). -/
def forwards (d : Dev) (req : Requester) : Bool := isActive d && (req == .host || isTriad req)

/-- Stage a write for its commit point: at once, or with the cycle's inputs on an ACTIVE device (R17, R18, R383). -/
def stage (d : Dev) (req : Requester) (x : Staged) : Dev :=
  if forwards d req then { d with hostCyc := d.hostCyc ++ [x] } else { d with staged := d.staged ++ [x] }

end Sys2Proof.Machine
end

