-- ==== Sys2Proof/Machine/SeracOps.lean ====
section
/-!
DEFINITION. Tripping channels and ordering quenches (R260 to R265, R273 to R275).
-/
namespace Sys2Proof.Machine

/-- Cause bits of R273 above the checks. -/
def cLost : Nat := 16
def cGroup : Nat := 17
def cZone : Nat := 18
def cBay : Nat := 19
def cDisagree : Nat := 20
def cExtLatch : Nat := 21
def cHost : Nat := 22
def cMor : Nat := 23
def cSafe : Nat := 24
def cPlaneLate : Nat := 25

/-- Serac channel states of R273. -/
def ssUnchecked : Nat := 0
def ssArmed : Nat := 1
def ssTripped : Nat := 2

/-- A channel's working state in the planes. -/
def serCh (d : Dev) (c : Nat) : SerCh := SMap.get {} d.ser.ch c
def setSerCh (d : Dev) (c : Nat) (f : SerCh → SerCh) : Dev := { d with ser := { d.ser with ch := SMap.mod {} d.ser.ch c f } }

/-- A channel's Serac state, its recorded causes, and whether it is TRIPPED and tripped in tick `k`. -/
def serState (d : Dev) (c : Nat) : Nat := (serCh d c).st
def serCause (d : Dev) (c : Nat) : Nat := (serCh d c).cause
def isTripped (d : Dev) (c : Nat) : Bool := serState d c == ssTripped
def trippedAt (d : Dev) (c k : Nat) : Bool := isTripped d c && (serCh d c).tripK == k

/-- Whether a channel's CONTROL run waits for its verdict of this tick (R251): the model's verdicts are complete at once, at
Tk + 8 µs. -/
def verdictHeld (d : Dev) (c : Nat) : Bool := d.phase == 2 && serState d c != ssUnchecked

/-- The template number of a channel: its group's, or 0 for an idle channel (R259). -/
def templateNo (d : Dev) (c : Nat) : Nat := ((groupOf d c).map (·.template)).getD 0

/-- The template in force for a channel, in plane A's copy or plane B's. -/
def templateIn (d : Dev) (planeB : Bool) (c : Nat) : SeracRec :=
  ((if planeB then d.ser.tmplB else d.ser.tmplA).find? (fun r => r.template == templateNo d c)).getD default
def template (d : Dev) (c : Nat) : SeracRec := templateIn d false c

/-- Both planes take the templates of the variant that becomes active (R60, R250). -/
def seracTake (d : Dev) : Dev := { d with ser := { d.ser with tmplA := (img d).serac, tmplB := (img d).serac } }

/-- The truncated physical quantities of R252. -/
def qV (d : Dev) (c : Nat) : Int := (rwValue (vWord d c) * (vFs d c : Int)).fdiv ((2 : Int) ^ 23)
def qI (d : Dev) (c : Nat) : Int := (rwValue (iWord d c) * (iFs d c (rwRange (iWord d c)) : Int)).fdiv ((2 : Int) ^ 23)

/-- Data of log code 0x80 (R274). -/
def tripData (d : Dev) (c cause : Nat) : List Byte :=
  natLE 4 cause ++ natLE 4 (ofS 32 (qV d c)) ++ natLE 4 (ofS 32 (qI d c)) ++ natLE 2 (hot d c 0x008 2)

/-- Trip an ARMED channel with the given cause bits, the first of which tripped it (R264, R273 to R275). Where another
channel's verdict caused it, `by_` is that channel's `CAUSE` and the channel, which the event carries (R306). -/
def tripChannel (d : Dev) (c causes first : Nat) (by_ : Option (Nat × Nat) := none) : Dev :=
  let d := setSerCh d c (fun s => { s with st := ssTripped, cause := causes, first := first, tripK := d.k })
  let d := wrBit d Reg.SERAC_TRIP_SUM_CH c true
  let d := incSat d Reg.SERAC_TRIP_CNT_CNT 1
  let d := wrB d Reg.SERAC_STAT_TRIP_EV true
  let d := logEvent d c 0x80 0xFF 0xFFFF (tripData d c causes)
  let e := by_.getD (causes, c)
  raise d Src.SERAC_TRIP 1 c e.1 e.2

/-- The lowest set bit of a cause word. -/
def lowBit (w : Nat) : Nat := ((sel 32 (bit w)).head?).getD 0

/-- Trip a channel if it is ARMED; a tripped or unchecked one is left as it is. -/
def tripIfArmed (d : Dev) (c cause : Nat) (by_ : Option (Nat × Nat) := none) : Dev :=
  if serState d c = ssArmed then tripChannel d c (2 ^ cause) cause by_ else d

/-- Ports in ACTIVE of a list. -/
def activePorts (d : Dev) (ps : List Nat) : List Nat := ps.filter (fun p => pst d p == psActive)

/-- The ports of a zone. -/
def zonePorts (d : Dev) (z : Nat) : List Nat := ((img d).bricks.filter (fun b => b.zone == z)).map (·.port)

/-- Mark every channel of a list as named by an express frame since its last release (R265). -/
def markSent (d : Dev) (cs : List Nat) : Dev := cs.foldl (fun d c => setSerCh d c (fun s => { s with sent := true })) d

/-- Order a zone quench that Serac did not order itself: the zone's bit, the express frames at once, and the channels at
the next Tk + 8 µs (R261). `cause` is cMor or cSafe. -/
def orderZoneQuench (d : Dev) (z cause : Nat) : Dev :=
  let d := wrFBit d Reg.SERAC_QUENCH_ZQ z true
  let d := { d with ser := { d.ser with zoneOrd := d.ser.zoneOrd ++ [(z, cause)] } }
  let d := sendExpressAll d (activePorts d (zonePorts d z)) []
  markSent d (zoneChans d z)

/-- Order a bay quench likewise (R261). -/
def orderBayQuench (d : Dev) (cause : Nat) : Dev :=
  let d := wrB d Reg.SERAC_QUENCH_BQ true
  let d := { d with ser := { d.ser with bayOrd := some (d.ser.bayOrd.getD cause) } }
  let d := sendExpressAll d (activePorts d (mappedPorts d)) []
  markSent d (allChans d)

/-- Whether a quench ordered since the last verdict covers a channel (R262). -/
def quenchOrdered (d : Dev) (c : Nat) : Bool :=
  d.ser.bayOrd.isSome || d.ser.zoneOrd.any (fun o => zoneOf d c == some o.1)

/-- A `CH_STAT` with `LATCH` for an ARMED channel that no express frame of this device has named since its release: the
channel trips at the next Tk + 8 µs, when Serac writes its states (R264, R265). -/
def extLatch (d : Dev) (p c : Nat) (stat : Nat) : Dev :=
  if bit stat 8 ∧ serState d c = ssArmed ∧ (serCh d c).sent = false then
    setSerCh d c (fun s => { s with latch := some (p, stat) })
  else d

/-- The trip of an external latch that waits (R265). -/
def latchTrip (d : Dev) (c : Nat) : Dev :=
  match (serCh d c).latch with
  | none => d
  | some (p, stat) =>
    let d := setSerCh d c (fun s => { s with latch := none })
    if serState d c = ssArmed then raise (tripChannel d c (2 ^ cExtLatch) cExtLatch) Src.SERAC_EXT_LATCH 1 c p stat
    else d

/-- An image commit makes a channel checked: TRIPPED with cause LOST (R264). The state machine's row names neither a log
entry nor an event, and none is made (log entry 14). -/
def makeChecked (d : Dev) (c : Nat) : Dev :=
  let d := setSerCh d c (fun s => { s with st := ssTripped, cause := 2 ^ cLost, first := cLost, tripK := d.k })
  wrBit d Reg.SERAC_TRIP_SUM_CH c true

/-- A LOAD_ACTIVE removes a channel: UNCHECKED (R264). -/
def makeUnchecked (d : Dev) (c : Nat) : Dev :=
  let d := ledZero d (entryOf c + 0x100) 0x40
  let d := wrBit d Reg.SERAC_TRIP_SUM_CH c false
  { d with ser := { d.ser with ch := SMap.del d.ser.ch c } }

/-- Both planes capture R_c when a contact record with result OK or HIGH is written (R253). -/
def captureRc (d : Dev) (c : Nat) : Dev :=
  let b := entryOf c + 0x1EC0
  let r := ledRd d (b + 15) 1
  if r ≤ 1 then
    let v := some (ledRd d (b + 8) 4)
    setSerCh d c (fun s => { s with a := { s.a with rc := v }, b := { s.b with rc := v } })
  else d

end Sys2Proof.Machine
end

