-- ==== Sys2Proof/Machine/MeasOps.lean ====
section
/-!
DEFINITION. The finish part of the compensation FIR (R102 to R108, R110), calibration captures (R113 to R115) and contact
checks (R119 to R121) as they follow the delivered readings.
-/
namespace Sys2Proof.Machine

/-! ### Ranges -/

/-- The ranges below 4 that a version offers, and whether it offers a range (R104, R109). -/
def rangesBelow4 (ver : Nat) : List Nat := if ver ≤ 1 then [0, 1] else [0, 1, 2, 3]
def rangeOffered (ver r : Nat) : Bool := (rangesBelow4 ver).contains r || (ver == 3 && r == 4)

/-- A channel's port's version in force. -/
def verOf (d : Dev) (c : Nat) : Nat := rd d (Reg.FLOE_STAT_VER (portOf d c))

/-- The offered ranges below 4, from the largest full scale to the smallest. -/
def rangesDown (d : Dev) (c : Nat) : List Nat :=
  (rangesBelow4 (verOf d c)).mergeSort (fun a b => decide (iFs d c b ≤ iFs d c a))

/-- The largest range below 4. -/
def largestRange (d : Dev) (c : Nat) : Nat := (rangesDown d c).headD 0

/-- The next smaller and next larger range below 4 than `r`. -/
def nextSmaller (d : Dev) (c r : Nat) : Option Nat := (rangesDown d c).find? (fun x => decide (iFs d c x < iFs d c r))
def nextLarger (d : Dev) (c r : Nat) : Option Nat :=
  (rangesDown d c).reverse.find? (fun x => decide (iFs d c r < iFs d c x))

/-! ### Forming a reading (R102 to R104) -/

/-- The samples of the FIR span of output `w` that have come, newest first. -/
def firSpan (s : Strm) (w : Nat) : List Smp := (s.smp.drop (s.n - 16 * (w + 1))).take (64 - (16 * (w + 1) - s.n))

/-- The raw reading of an accumulator, and whether the limit acted. -/
def rawOf (acc : Int) : Int × Bool :=
  let x := asr (acc + (2 : Int) ^ 22) 23
  (satS 24 x, decide (satS 24 x ≠ x))

/-- The calibrated reading, and whether the limit acted (R104). -/
def calibrate (raw : Int) (gain : Nat) (ofs : Int) : Int × Bool :=
  let x := asr ((raw - ofs) * gain + (2 : Int) ^ 29) 30
  (satS 24 x, decide (satS 24 x ≠ x))

/-- The command a channel's slot carried: setpoint, mode, relay, PERT and range (R83). -/
def slotSet (b : List Byte) : Int := toS 24 (beAt b 0 3)
def slotMode (b : List Byte) : Nat := byteAt b 3 / 16
def slotRelay (b : List Byte) : Nat := byteAt b 3 / 4 % 4
def slotPert (b : List Byte) : Bool := bit (byteAt b 3) 1
def slotRange (b : List Byte) : Nat := byteAt b 4 / 32

/-- The slot in force in the window that has just closed: the one sent one tick before the last. -/
def slotInForce (d : Dev) (c : Nat) : List Byte := (port d (portOf d c)).prevSlots.getD (idxOf d c) []

/-- Whether window `w` of a channel is one of the two RANGING windows (R110). -/
def isRanging (r : RngSt) (w : Nat) : Bool := r.sw && (w == r.swTick + 1 || w == r.swTick + 2)

/-- The raw reading of window `w` of a channel's stream, and whether the limit acted; none where no engine forms it. -/
def rawReading (d : Dev) (c : Nat) (cur : Bool) (w : Nat) : Option (Int × Bool) :=
  (firPlace d c).map (fun ej => rawOf (gSlot d ej.1 (slotAddr (2 * ej.2 + b2n cur) w)))

/-- The reading word of a channel's stream for window `w`, with the raw reading, none where none was formed (R106); `late`
says that the engines did not write it by Tk + 6 µs (R21). Each flag follows its own row, and `VALUE` and `RANGE` the first
row of LOST, RANGING and the STALE row of a held value; else they are computed. -/
def readingWord (d : Dev) (c : Nat) (cur : Bool) (w : Nat) (late : Bool) : Nat × Option Int :=
  let p := portOf d c
  let q := port d p
  let old := if cur then iWord d c else vWord d c
  let r := rng d c
  let chr := q.chStat.getD (idxOf d c) 0 / 2 ^ 13
  let raw := if late then none else rawReading d c cur w
  let lost := decide (pst d p ≠ psActive)
  let rg := cur && isRanging r w
  let miss := !q.sfOk || (cur && !rangeOffered (verOf d c) chr) || raw.isNone
  let span := firSpan (strm d c cur) w
  let s := if cur then 1 + chr else 0
  let (v, lim) := calibrate ((raw.map (·.1)).getD 0) (calGain d c s) (calOffset d c s)
  let stale := miss || span.any (·.sub) || decide (q.staleWin ≠ 0)
  let clip := span.any (·.ovl) || (raw.map (·.2)).getD false || (lim && !lost && !miss)
  let value := if lost then rwValue old else if rg then slotSet (slotInForce d c) else if miss then rwValue old else v
  let range := if lost then rwRange old else if rg then r.cur else if miss then rwRange old else if cur then chr else 0
  (mkWord range lost stale clip rg value, if lost || miss then none else raw.map (·.1))

/-! ### Long averages (R108, R127) -/

/-- The span exponent in force for a channel's stream: `LEDGER_AVG` of its group, 0 where idle. -/
def avgLog (d : Dev) (c : Nat) (cur : Bool) : Nat :=
  match groupOf d c with
  | some g => rd d (if cur then Reg.LEDGER_AVG_LOG2N_I g.group else Reg.LEDGER_AVG_LOG2N_V g.group)
  | none => 0

/-- One reading of a long average. A change of the span exponent starts a new span (R127). A span of readings of two
ranges has no range the spec states: that field of its record is a free value (log entry 94). -/
def avgTick (d : Dev) (c : Nat) (cur : Bool) (w : Nat) : Dev :=
  let k := strmKey c cur
  let n := avgLog d c cur
  let a0 := SMap.get {} d.meas.avg k
  let a := if a0.cnt ≠ 0 ∧ a0.n ≠ n then {} else a0
  let mixed := decide (a.cnt ≠ 0) && rwRange w != a.rng
  let fl := a.flags ||| (w / 2 ^ 24 % 32) ||| (if mixed then 32 else 0)
  let a : AvgPart := { sum := a.sum + rwValue w, cnt := a.cnt + 1, flags := fl,
                       rng := if a.cnt = 0 then rwRange w else a.rng, n := n }
  if a.cnt < 2 ^ n then { d with meas := { d.meas with avg := SMap.set {} d.meas.avg k a } }
  else
    let b := entryOf c + (if cur then 0x20 else 0x10)
    let f := bits a.flags 1 4
    let valid := decide (f = 0) && !bit a.flags 5
    let d := ledWr d b 8 (ofS 64 a.sum)
    let rngs := if bit a.flags 5 then Config.freeNat d.free % 8 else a.rng
    let d := if bit a.flags 5 then useFree d else d
    let d := ledWr d (b + 8) 4 ((rngs * 32 + f * 2 + b2n valid) * 2 ^ 24 + n)
    let d := ledWr d (b + 12) 4 (ledRd d (b + 12) 4 + 1)
    { d with meas := { d.meas with avg := SMap.del d.meas.avg k } }

/-! ### Calibration captures (R113, R114) -/

/-- One reading of a capture for a channel of its set. Of a current stream the wait starts over with a RANGING reading; among
those summed such a reading fails the channel as any non-VALID one does. -/
def captureTick (d : Dev) (c : Nat) (w : Nat) (raw : Option Int) : Dev :=
  match d.meas.run with
  | none => d
  | some r =>
    if c < r.first ∨ r.first + r.num ≤ c ∨ 2 ^ r.n ≤ SMap.get 0 r.cnt c then d
    else
      let sk := SMap.get 0 r.skipped c
      let atRange := r.stream == 0 || rwRange w == r.stream - 1
      let r :=
        if SMap.get 0 r.cnt c = 0 ∧ r.stream ≠ 0 ∧ (rwRanging w ∨ atRange = false) then { r with skipped := SMap.set 0 r.skipped c 0 }
        else if sk < r.settle then { r with skipped := SMap.set 0 r.skipped c (sk + 1) }
        else
          let q := port d (portOf d c)
          let bt := toS 16 (beAt q.aux 112 2)
          { r with
            cnt := SMap.set 0 r.cnt c (SMap.get 0 r.cnt c + 1),
            sum := SMap.set 0 r.sum c (SMap.get 0 r.sum c + raw.getD 0),
            temp := SMap.set 0 r.temp c (SMap.get 0 r.temp c + bt),
            fails := if rwValid w && atRange then r.fails else SMap.set 0 r.fails c 6 }
      { d with meas := { d.meas with run := some r } }

/-- A capture abandons (R114): all captures are discarded. -/
def calAbandon (d : Dev) : Dev :=
  match d.meas.run with
  | none => d
  | some r =>
    let d := { d with meas := { d.meas with run := none, zero := none, full := none } }
    let d := (List.range r.num).foldl (fun d i => setRng d (r.first + i) (fun x => { x with locks := x.locks.erase 5 })) d
    let d := wr d Reg.MEAS_STAT_CAL_CODE 7
    let d := wrB d Reg.MEAS_STAT_CAL_BUSY false
    wrB (wrB d Reg.MEAS_STAT_ZERO_HELD false) Reg.MEAS_STAT_FULL_HELD false

/-! ### Contact checks (R119 to R121) -/

/-- A channel's contact check, and a change of it. -/
def contact (d : Dev) (c : Nat) : Contact := SMap.get {} d.meas.contact c
def setContact (d : Dev) (c : Nat) (x : Contact) : Dev :=
  { d with meas := { d.meas with contact := SMap.set {} d.meas.contact c x } }

/-- The `BASE`, `SETTLE` and `MEAS` of a channel's group; the reset values where it has none. -/
def contactTim (d : Dev) (c : Nat) : Nat × Nat × Nat :=
  match groupOf d c with
  | some g => (rd d (Reg.MEAS_CONTACT_TIM_BASE g.group), rd d (Reg.MEAS_CONTACT_TIM_SETTLE g.group),
      rd d (Reg.MEAS_CONTACT_TIM_MEAS g.group))
  | none => (4, 5, 4)

/-- Start a contact check with its PRE phase. It takes the group's parameters for all its phases (R119). -/
def contactStart (d : Dev) (c : Nat) : Dev :=
  let (base, settle, meas) := contactTim d c
  setContact d c { phase := 1, base := base, settle := settle, meas := meas, need := base }

/-- One delivered voltage reading of a contact check. In TEST a CLIPPED reading counts, and makes the result OPEN; any
other non-VALID reading ends the check, while of the skipped ones only a STALE or LOST reading does (log entry 20). -/
def contactTick (d : Dev) (c : Nat) (w : Nat) : Dev :=
  let x := contact d c
  if x.phase = 0 ∨ x.done ∨ x.abort then d
  else if x.skip ≠ 0 then
    setContact d c (if rwStale w || rwLost w then { x with abort := true } else { x with skip := x.skip - 1 })
  else
    let clip := rwClipped w && !rwStale w && !rwLost w
    let ta := x.phase == 2 && bit (hotChStat d c) 7
    let d := if x.phase = 1 ∧ x.cnt = 0 then setRng d c (fun r => { r with locks := 4 :: r.locks.erase 4 }) else d
    setContact d c
      (if rwValid w || (clip && x.phase == 2) then
        { x with cnt := x.cnt + 1, sum := x.sum + rwValue w, clipped := x.clipped || clip, active := x.active || ta,
                 done := decide (x.need ≤ x.cnt + 1) }
      else { x with abort := true })

/-- Write a contact record (R121) and let both planes capture R_c (R253). -/
def contactRecord (d : Dev) (c : Nat) (r vBase result : Nat) : Dev :=
  let b := entryOf c + 0x1EC0
  let d := ledWr d b 8 (tickNs d)
  let d := ledWr d (b + 8) 4 r
  let d := ledWr d (b + 12) 3 vBase
  let d := ledWr d (b + 15) 1 result
  let d := ledWr d (b + 16) 2 (rd d (Reg.FLOE_RAMP_RAMP (portOf d c)) / 2 ^ 16)
  let d := setRng d c (fun r => { r with locks := r.locks.erase 4 })
  captureRc d c

/-- The result of a completed check (R120, R121). R120 gives R_µΩ no form where it is negative or 2^32 and more: `R_UOHM` is
then a free value, DESIGN CHOICE (log entry 225). -/
def contactResult (d : Dev) (c : Nat) (x : Contact) : Dev :=
  let base := x.base
  let meas := x.meas
  let ua : Nat := rd d (Reg.FLOE_RAMP_RAMP (portOf d c)) / 2 ^ 16
  let vfs : Nat := rd d (Reg.FLOE_VFS_VFS (portOf d c)) % 2 ^ 16
  let post := x.sum
  let num := (2 * base * x.test - meas * (x.pre + post) : Int) * vfs * 1000000000
  let den : Int := 2 * base * meas * 2 ^ 23 * ua
  let rI := roundDiv num den
  let fits := decide (0 ≤ rI ∧ rI < 2 ^ 32)
  let rv := if fits then rI.toNat else freeVal d % 2 ^ 32
  let d := if fits then d else useFree d
  -- mean of the two base voltages; where it is no integer, one of its neighbours (log entry 20)
  let bs := x.pre + post
  let vb := ofS 24 (bs.fdiv (2 * base) + (if bs % (2 * base) = 0 then 0 else (freeVal d % 2 : Nat)))
  let d := if bs % (2 * base) = 0 then d else useFree d
  let g := ((groupOf d c).map (·.group)).getD 0
  if ua = 0 ∨ x.active = false then contactRecord d c 0xFFFFFFFF vb 3
  else if x.clipped then contactRecord d c 0xFFFFFFFF vb 2
  else if rI > 1000 * rd d (Reg.MEAS_CONTACT_LIM_OPEN_MOHM g) then contactRecord d c rv vb 2
  else if rI > 1000 * rd d (Reg.MEAS_CONTACT_LIM_HIGH_MOHM g) then contactRecord d c rv vb 1
  else contactRecord d c rv vb 0

/-- End a check without a resistance: ABORTED (R121). The record then has no last POST reading and no V_pre or V_post: `TIME`
is that of the tick and `V_BASE` is 0, DESIGN CHOICE (log entry 226). -/
def contactAbort (d : Dev) (c : Nat) : Dev :=
  let x := contact d c
  if x.phase = 0 then d else contactRecord (setContact d c {}) c 0xFFFFFFFF 0 4

/-- A phase of a check ends: the next phase, or the result. -/
def contactPhase (d : Dev) (c : Nat) : Dev :=
  let x := contact d c
  if x.phase = 0 then d
  else if x.abort ∨ isTripped d c then contactAbort d c
  else if !x.done then d
  else match x.phase with
    | 1 => setContact d c { x with phase := 2, skip := x.settle, cnt := 0, need := x.meas, pre := x.sum, sum := 0, done := false }
    | 2 => setContact d c { x with phase := 3, skip := x.settle, cnt := 0, need := x.base, test := x.sum, sum := 0, done := false }
    | _ => contactResult (setContact d c {}) c x

/-! ### Delivery -/

/-- Below-threshold bookkeeping of a delivered current reading for R109: |reading| against `DN_PCT` of the next smaller
range. -/
def belowTick (d : Dev) (c : Nat) (w : Nat) : Dev :=
  match groupOf d c, nextSmaller d c (rng d c).cur with
  | some g, some r =>
    let ok := decide ((rwValue w).natAbs * iFs d c (rwRange w) * 100 < rd d (Reg.MEAS_RNG_DN_PCT g.group) * iFs d c r * 2 ^ 23)
    setRng d c (fun x => { x with below := if ok then x.below + 1 else 0 })
  | _, _ => setRng d c (fun x => { x with below := 0 })

/-- A sample of the old range carried to the new one, equal to it in calibrated terms (R110). Where no whole sample is, it is
a neighbour of the exact quotient; where the new gain, the taps' sum or the new full scale is 0 it is free (log entry 8). -/
def rescaleSample (d : Dev) (c : Nat) (x : Int) : Int :=
  let r := rng d c
  let ts := tapSum (chProfile (img d) c)
  let g1 : Int := calGain d c (1 + r.old)
  let g2 : Int := calGain d c (1 + r.cur)
  let o1 := calOffset d c (1 + r.old)
  let o2 := calOffset d c (1 + r.cur)
  let f1 : Int := iFs d c r.old
  let f2 : Int := iFs d c r.cur
  let den := ts * g2 * f2
  if den = 0 then Config.rescaleSample [x, g1, o1, g2, o2, f1, f2, ts]
  else qdiv (o2 * (2 : Int) ^ 23 * g2 * f2 + (x * ts - o1 * (2 : Int) ^ 23) * g1 * f1) den

/-- At the tick after a range change was sent, carry the current stream's stored samples and the accumulators in flight
to the new range (R110). -/
def rescale (d : Dev) (c : Nat) : Dev :=
  let r := rng d c
  if !(r.sw && d.k == r.swTick + 1) then d
  else match firPlace d c with
  | none => d
  | some (e, j) =>
    let f := rescaleSample d c
    let s := strm d c true
    let newer := s.n - 16 * d.k
    let smp := s.smp.mapIdx (fun i x => if i < newer then x else { x with v := f x.v })
    let d := setStrm d c true { s with smp := smp, last := f s.last }
    [d.k, d.k + 1, d.k + 2].foldl (fun d w =>
      let a := slotAddr (2 * j + 1) w
      let co := ((profOn d c e (slotBank d e a)).map (·.coef)).getD []
      -- sample i of the list has number s.n − 1 − i; it meets tap 16w + 15 − number
      let acc := (smp.mapIdx (fun i x => (s.n - 1 - i, x))).foldl (fun a nx =>
        if nx.1 < 16 * d.k ∧ 16 * w + 15 < nx.1 + 64 then a + co.getD (16 * w + 15 - nx.1) 0 * nx.2.v else a) (0 : Int)
      gwSlot d e true a acc) d

/-- Deliver a channel's readings of the window that closed at Tk (R104 to R108), with everything that counts delivered
readings. -/
def deliverCh (d : Dev) (c : Nat) : Dev :=
  let p := portOf d c
  let q := port d p
  let w := d.k - 1
  let (vw, rawV) := readingWord d c false w false
  let (iw, rawI) := readingWord d c true w false
  let fresh := decide (pst d p = psActive) && q.sfOk
  let d := hotW d c 0 4 vw
  let d := hotW d c 4 4 iw
  let d := if fresh then hotW d c 8 2 (q.temps.getD (idxOf d c) 0) else d
  let st := if q.sfOk then q.chStat.getD (idxOf d c) 0 else hotChStat d c
  let g := groupOf d c
  let cw := st + 2 ^ 16 * ((g.map (·.group)).getD 0) + 2 ^ 24 * (zoneOf d c).getD 0 + 2 ^ 28 + 2 ^ 29 * b2n g.isSome
  let d := hotW d c 0x00C 4 cw
  let d := hotW d c 0x030 8 (d.k % 2 ^ 64)
  let d := avgTick (avgTick d c false vw) c true iw
  let d := { d with meas := { d.meas with delivered := SMap.set 0 d.meas.delivered c (d.k + 1) } }
  let d := captureTick d c (match d.meas.run with | some r => if r.stream = 0 then vw else iw | none => 0)
    (match d.meas.run with | some r => if r.stream = 0 then rawV else rawI | none => none)
  let d := contactTick d c vw
  let d := if rwValid vw then { d with
        chan := SMap.mod {} d.chan c (fun r => { r with lastV := some (rwValue vw) }),
        seq := { d.seq with ch := SMap.mod {} d.seq.ch c (fun r => { r with vLast := some (rwValue vw) }) } } else d
  rescale (belowTick d c iw) c

/-- A reading that was not written by Tk + 6 µs is STALE, and its group is reported overrun (R21). -/
def lateReading (d : Dev) (c : Nat) : Dev :=
  if SMap.get 0 d.meas.delivered c = d.k + 1 then d
  else
    let vw := (readingWord d c false (d.k - 1) true).1
    let iw := (readingWord d c true (d.k - 1) true).1
    let d := hotW (hotW d c 0 4 vw) c 4 4 iw
    let d := avgTick (avgTick d c false vw) c true iw
    let d := captureTick d c (match d.meas.run with | some r => if r.stream = 0 then vw else iw | none => 0) none
    let d := contactTick d c vw
    let d := rescale (belowTick d c iw) c
    match firPlace d c with
    | some (e, _) => engEv (markIncCh d c e 0) e Reg.CHAN_ENG_STAT_FINISH_LATE
    | none => d

end Sys2Proof.Machine
end

