-- ==== Sys2Proof/Machine/AxisOps.lean ====
section
/-!
DEFINITION. Operations of the safe outputs, the brakes and the fixture axes that other blocks use (R376, R413 to R416,
R429): outputs off, a brake driven or dropped, and a stop cause.
-/
namespace Sys2Proof.Machine

/-! ### Safe outputs (R413, R414) -/

/-- A safe output's switches, and a change of them. -/
def sout (d : Dev) (n : Nat) : SafeOut := SMap.get {} d.safe.out n
def setSout (d : Dev) (n : Nat) (f : SafeOut → SafeOut) : Dev :=
  { d with safe := { d.safe with out := SMap.mod {} d.safe.out n f } }

/-- Turn a safe output off. A test that runs counts as neither pass nor fail, and its pulse is still to end (R414). -/
def outOff (d : Dev) (n : Nat) : Dev :=
  let t := (sout d n).test
  let d := if t = 1 ∨ t = 2 then incSat d Reg.SAFE_TEST_CNT_DISCARDED 1 else d
  let d := setSout d n (fun o => { o with want := false, on := false, test := if t = 0 then 0 else 4 })
  let d := wrFBit d Reg.SAFE_OUT_DEMAND n false
  wrFBit d Reg.SAFE_OUT_READBACK n false

/-- Turn a safe output on; its next test falls due `TEST_S` after this. A test pulse that has not ended delays it
(R414). -/
def outOn (d : Dev) (n : Nat) : Dev :=
  let d := wrFBit (setSout d n (fun o => { o with want := true })) Reg.SAFE_OUT_DEMAND n true
  if (sout d n).test ≠ 0 then d
  else wrFBit (setSout d n (fun o => { o with on := true, onK := d.k })) Reg.SAFE_OUT_READBACK n true

/-- Every safe output off. -/
def allOutsOff (d : Dev) : Dev := (List.range 8).foldl outOff d

/-- Lock a safe output out until reset (R413). -/
def outLock (d : Dev) (n why : Nat) : Dev :=
  let d := outOff d n
  let d := wrFBit d Reg.SAFE_OUT_LOCKOUT n true
  let d := wrB d Reg.SAFE_STAT_OUT_FAULT_EV true
  raise d Src.SAFE_OUT_FAULT 0 0 n why

/-! ### Axes and brakes (R415, R429) -/

/-- An axis controller's working state, and a change of it. -/
def axis (d : Dev) (n : Nat) : AxisSt := SMap.get {} d.axis n
def setAxis (d : Dev) (n : Nat) (f : AxisSt → AxisSt) : Dev := { d with axis := SMap.mod {} d.axis n f }

/-- The descriptor of an axis. -/
def axisRec (d : Dev) (n : Nat) : Option AxisRec := (img d).axes.find? (fun r => r.axis == n)

/-- The axes with a descriptor. -/
def axesOf (d : Dev) : List Nat := (img d).axes.map (·.axis)

/-- The axes bound to a zone. -/
def zoneAxes (d : Dev) (z : Nat) : List Nat := ((img d).axes.filter (fun r => r.zone == z)).map (·.axis)

/-- States of R429. -/
def axOFF : Nat := 0
def axMEASURE : Nat := 1
def axSHORT : Nat := 2
def axARMING : Nat := 3
def axRUN : Nat := 4
def axSTOPPING : Nat := 5
def axTEST : Nat := 6
def axLOCKED : Nat := 7

def axState (d : Dev) (n : Nat) : Nat := rd d (Reg.AXIS_STAT_STATE n)
def setAxState (d : Dev) (n s : Nat) : Dev := wr d (Reg.AXIS_STAT_STATE n) s

/-- Whether an axis has a brake record, so a brake to apply and a feedback to wait for (R402). -/
def hasBrake (d : Dev) (n : Nat) : Bool := (img d).brakes.any (fun b => b.axis == n)

/-- `BRAKE[n]` as driven. -/
def brakeOn (d : Dev) (n : Nat) : Bool := bit d.safe.brake n

/-- Drive or drop `BRAKE[n]`. It is driven on only on a device that owns the gated outputs, for an axis that is not
locked out (R376, R415). -/
def driveBrake (d : Dev) (n : Nat) (on : Bool) : Dev :=
  let on := on && ownsGate d && !rdB d (Reg.SAFE_BRAKE_LOCKOUT n)
  let d := { d with safe := { d.safe with brake := setBit d.safe.brake n on } }
  let d := setAxis d n (fun a => { a with ice := a.ice && on })
  if rd d (Reg.SAFE_BRAKE_STATE n) = 2 then d else wr d (Reg.SAFE_BRAKE_STATE n) (b2n on)

/-- End a brake test as discarded: neither pass nor fail, due again (R416). -/
def discardBrakeTest (d : Dev) (n : Nat) : Dev :=
  let d := wr d (Reg.SAFE_BRAKE_RESULT n) 3
  let d := wr d (Reg.SAFE_BRAKE_STATE n) (b2n (brakeOn d n))
  let d := incSat d Reg.SAFE_TEST_CNT_DISCARDED 1
  setAxState d n axOFF

/-- Clear what a run leaves in a controller: integrators, references and voltages. -/
def axisClear (a : AxisSt) : AxisSt :=
  { a with
      skips := 0, intD := 0, intQ := 0, vD := 0, vQ := 0, heldD := 0, heldQ := 0, iRef := 0, ramp := 0, intS := 0,
      intF := 0, touch := false, holdN := 0, short := false, fbWait := false, slow := false, keN := 0, keBad := 0 }

/-- A stop cause of R429: winding short with the cause recorded. A running brake test is ended by the icefall and by a
covering function (R416, R429). -/
def axisStop (d : Dev) (n cause : Nat) : Dev :=
  let s := axState d n
  if s = axTEST then (if cause = 3 ∨ cause = 4 then discardBrakeTest d n else d)
  else if s = axMEASURE ∨ s = axSHORT ∨ s = axARMING ∨ s = axRUN then
    let d := wr d (Reg.AXIS_STAT_CAUSE n) cause
    let d := wrB d (Reg.AXIS_STAT_HOLDING n) false
    let d := wrB d (Reg.AXIS_STAT_AT_VLIM n) false
    let d := setAxis d n (fun a => { axisClear a with stopK := d.k })
    setAxState d n axSTOPPING
  else d

/-- Whether an axis is in a state that a stop cause ends. -/
def axStoppable (d : Dev) (n : Nat) : Bool := decide (1 ≤ axState d n ∧ axState d n ≤ 4)

/-- A stop cause that is a fault: OVERCURRENT, ENCODER or force, with its event bit and Moraine event (R425, R426, R434,
R435). It is one only in the states a stop cause ends. -/
def axisFault (d : Dev) (n cause : Nat) (ev : Nat → Fld) (src : Nat) : Dev :=
  if axStoppable d n then
    let d := wrB d (ev n) true
    let d := wrB d (Reg.AXIS_STAT_FAULT n) true
    let d := axisStop d n cause
    raise d src 0 0 n 0
  else d

/-- `ABNORMAL_KE`: set, and a stop cause (R431, R433). -/
def axisKe (d : Dev) (n : Nat) : Dev :=
  let d := wrB d (Reg.AXIS_STAT_ABNORMAL_KE n) true
  let d := wrB d (Reg.AXIS_STAT_KE_EV n) true
  let d := axisStop d n 5
  raise d Src.AXIS_KE 0 0 n 0

/-- Lock an axis out until reset (R415, R416): brake off, winding short until standstill, LOCKED. -/
def axisLock (d : Dev) (n cause : Nat) : Dev :=
  let d := wrB d (Reg.SAFE_BRAKE_LOCKOUT n) true
  let d := wr d (Reg.SAFE_BRAKE_CAUSE n) cause
  let d := wr d (Reg.SAFE_BRAKE_STATE n) 0
  let d := wrB d Reg.SAFE_STAT_BRAKE_FAIL_EV true
  let d := driveBrake d n false
  let d := setAxis d n axisClear
  let d := { d with safe := { d.safe with brakeDue := SMap.del d.safe.brakeDue n } }
  let d := setAxState d n axLOCKED
  raise d Src.SAFE_BRAKE_FAIL 0 0 n cause

/-- Step 3 of the icefall (R313): every axis to winding short, each energised brake to be dropped at its standstill or at
`BRAKE_MS`. -/
def axesIcefall (d : Dev) : Dev :=
  let d := (axesOf d).foldl (fun d n => axisStop d n 4) d
  let d := (axesOf d).foldl (fun d n => if brakeOn d n then setAxis d n (fun a => { a with ice := true }) else d) d
  { d with mor := { d.mor with brakeDue := (axesOf d).any (brakeOn d) } }

/-- Whether an axis has completed step 3 of the icefall: its brake is de-energised (R395). -/
def iceDone (d : Dev) : Bool := (axesOf d).all (fun n => !brakeOn d n)

end Sys2Proof.Machine
end

