-- ==== Sys2Proof/Machine/HostRings.lean ====
section
/-!
DEFINITION. The host rings (R509 to R512): placing a record, the head write-back, and the vectors.
-/
namespace Sys2Proof.Machine

/-- A ring, and a change of it. -/
def hring (d : Dev) (r : Nat) : HostRing := SMap.get {} d.host.rings r
def setHring (d : Dev) (r : Nat) (f : HostRing → HostRing) : Dev :=
  { d with host := { d.host with rings := SMap.mod {} d.host.rings r f } }

/-- A record padded to a multiple of 8 bytes. -/
def padded (b : List Byte) : List Byte := b ++ List.replicate ((8 - b.length % 8) % 8) 0

/-- The fill before a record of `n` bytes that would cross the ring's end. -/
def ringFill (d : Dev) (r n : Nat) : Nat :=
  let s := (hring d r).size
  let o := rd d (Reg.HOST_RING_HEAD_HEAD r) % s
  if s < o + n then s - o else 0

/-- Whether a record of `n` bytes, with its fill, fits. -/
def ringFits (d : Dev) (r n : Nat) : Bool :=
  let used := (rd d (Reg.HOST_RING_HEAD_HEAD r) + 2 ^ 32 - rd d (Reg.HOST_RING_TAIL_TAIL r)) % 2 ^ 32
  decide (n + ringFill d r n + used ≤ (hring d r).size)

/-- The level of INTx: with MSI-X disabled, the OR of the causes that `HOST_IRQ_EN` enables (R511). -/
def intx (d : Dev) : Bool := !d.host.pci.msixEn && (rd d Reg.HOST_IRQ_STAT_CAUSE &&& rd d Reg.HOST_IRQ_EN_EN) != 0

/-- Signal a ring's vector. -/
def ringSignal (d : Dev) (r : Nat) : Dev := irq (setHring d r (fun x => { x with unsig := 0 })) (2 + r)

/-- Write a record that fits: its fill, its data, then the head count, and the vector where the threshold is reached. -/
def ringPut (d : Dev) (r : Nat) (rec : List Byte) : Dev :=
  let b := padded rec
  let x := hring d r
  let head := rd d (Reg.HOST_RING_HEAD_HEAD r)
  let fill := ringFill d r b.length
  let m := Memory.writeList d.host.mem (x.base + head % x.size) (List.replicate fill 0xFF)
  let at_ := (head + fill) % 2 ^ 32 % x.size
  let m := Memory.writeList m (x.base + at_) b
  let head := (head + fill + b.length) % 2 ^ 32
  let m := Memory.writeLE m x.wb 8 head
  let d := { d with host := { d.host with mem := m } }
  let d := wr d (Reg.HOST_RING_HEAD_HEAD r) head
  let d := setHring d r (fun x => { x with unsig := x.unsig + 1 })
  if rd d (Reg.HOST_RING_MOD_THRESH r) ≤ (hring d r).unsig then ringSignal d r else d

end Sys2Proof.Machine
end

