-- ==== Sys2Proof/Machine/Moraine.lean ====
section
/-!
DEFINITION. Moraine (chapter 13): the pass R302 with classes, escalation, consequences, shadows and reactions (R307 to
R318), fences and their lifting (R310, R311), the icefall (R313), `FAULT_N` (R319), software events (R322) and the event
ring (R323, R324).
-/
namespace Sys2Proof.Machine

/-! ### Fencing a core (R285) -/

/-- Fence or stop a core: the triad's own registers and state (R285, R295). -/
def coreFence (d : Dev) (c kind addr : Nat) : Dev :=
  let d := wrFBit d Reg.TRI_STAT_FENCED c true
  let d := if isCalved d then d else wr (wr d Reg.TRI_STAT_CONFIG 1) Reg.SYS_PROPS_TRIAD 1
  let d := wr d Reg.TRI_MISM_LAST_CORE c
  let d := wr d Reg.TRI_MISM_LAST_KIND kind
  let d := wr d Reg.TRI_MISM_ADDR_ADDR addr
  let d := incSatPart d Reg.TRI_MISM_CNT_CNT (8 * c) 8 1
  let d := wrB d Reg.TRI_STAT_MISM_EV true
  let d := if c = 0 then wrB d Reg.TRI_DBG_STAT_NO_CORE0 true else d
  { d with tri := { d.tri with
      fenceK := SMap.set 0 d.tri.fenceK c (d.k + 1), reintBad := d.tri.reintBad.filter (· != c),
      running := d.tri.running.filter (· != c) } }

/-! ### `FAULT_N` (R319) -/

/-- `FAULT_N` goes low for at least 1 ms; a release not yet in effect is cancelled. -/
def faultPulse (d : Dev) : Dev :=
  let d := wrB d Reg.MOR_STAT_FAULT true
  let d := wrB d Reg.MOR_STAT_PULSE true
  { d with mor := { d.mor with relPend := false, pulseK := d.k } }

/-- The level of the `FAULT_N` ball: low from the start of a reset to the passing boot verdict (R474), after a failed
wake (R464), in safe state (R314) and where Moraine drives it (R319); through dormancy and the wake after it keeps the
level it had (R460). -/
def faultNLow (d : Dev) : Bool :=
  rdB d Reg.MOR_STAT_FAULT || d.boot.faultLow || d.boot.held || d.boot.halted ||
  (match d.pwr.faultKeep with
   | some low => low
   | none => !d.bootOk)

/-- The pulse, at least 1 ms long, ends and a pending release takes effect; within the 20 ticks that a later qualifying
reaction restarted it does not. -/
def faultPulseEnd (d : Dev) : Dev :=
  if rdB d Reg.MOR_STAT_PULSE && decide (d.mor.pulseK + 20 ≤ d.k) then
    let d := wrB d Reg.MOR_STAT_PULSE false
    if d.mor.relPend ∧ inSafe d = false then
      wrB { d with mor := { d.mor with relPend := false } } Reg.MOR_STAT_FAULT false
    else d
  else d

/-- FAULT_PULSE_END. -/
def execFaultPulseEnd (s : State) : Host.Outcome State Fault Refusal := .next { s with d := faultPulseEnd s.d }

/-! ### The icefall (R313) -/

/-- Steps 4 to 7, which follow the command frames of the next Tk + 44 µs. -/
def icefallEnd (d : Dev) : Dev :=
  if d.mor.iceFrame then
    let d := wrB d Reg.MOR_STAT_FAULT true
    let d := wr d Reg.MOR_STAT_ICE_STEP 7
    let d := wrB d Reg.MOR_STAT_ICE_BUSY false
    irq { d with mor := { d.mor with iceFrame := false } } 12
  else d

/-- Steps 1 to 3 of the icefall, at t0: safe state, the express QUENCH, the safe outputs and the axes. Steps 4 to 7 are
issued with the next command frames, and at once in BOOT, where no command frame is due and step 4 has nothing to act on. A pair member whose `PAIR_PEER_N` is low sends none (R399). -/
def icefall (d : Dev) (src : Nat) : Dev :=
  if inSafe d then d
  else
    let ps := (mappedPorts d).filter (fun p => pst d p == psActive || pst d p == psLost || pst d p == psSync)
    let d := sendExpressAll d ps []
    let d := markSent d (allChans d)
    let d := wrB d Reg.SERAC_QUENCH_BQ true
    let d := { d with ser := { d.ser with bayOrd := some (d.ser.bayOrd.getD cMor) } }
    let d := wrB d Reg.MOR_STAT_SAFE true
    let d := wrB d Reg.SYS_PROPS_SAFE true
    let d := wr d Reg.MOR_SAFE_SRC_SRC src
    let d := axesIcefall (allOutsOff d)
    let d := wrB d Reg.MOR_STAT_ICE_BUSY true
    let d := wr d Reg.MOR_STAT_ICE_STEP 3
    let d := { d with mor := { d.mor with iceFrame := true } }
    let d := if rdB d Reg.SCH_CFG_PAIR_EN && rdB d Reg.SCH_STAT_PEER then { d with sch := { d.sch with quiet := true } } else d
    if inBoot d then icefallEnd d else d

/-- ICEFALL_BRAKE_MS: every brake still energised is de-energised. -/
def icefallBrakes (d : Dev) : Dev :=
  if d.mor.brakeDue then
    let d := (axesOf d).foldl (fun d n => if (axis d n).ice then driveBrake d n false else d) d
    { d with mor := { d.mor with brakeDue := false } }
  else d

/-- ICEFALL_BRAKE_MS. -/
def execIcefallBrakeMs (s : State) : Host.Outcome State Fault Refusal := .next { s with d := icefallBrakes s.d }

/-! ### Units (R303, R317) -/

/-- How many units a type has; 0 for a type that does not exist. -/
def unitCount (ut : Nat) : Nat := [1, 4096, 128, 128, 256, 24, 16, 3, 4].getD ut 0

/-- The zone of a unit, where it lies in one. -/
def unitZone (d : Dev) (ut ui : Nat) : Option Nat :=
  match ut with
  | 1 => zoneOf d ui
  | 2 => portZone d ui
  | 3 => portZone d ui
  | 4 => groupZone d ui
  | 6 => some ui
  | _ => none

/-- The port of a channel, brick or port unit. -/
def unitPort (d : Dev) (ut ui : Nat) : Option Nat :=
  match ut with
  | 1 => if populated d ui then some (portOf d ui) else none
  | 2 => some ui
  | 3 => some ui
  | _ => none

/-- The group of a channel or group unit. -/
def unitGroup (d : Dev) (ut ui : Nat) : Option Nat :=
  match ut with
  | 1 => (groupOf d ui).map (·.group)
  | 4 => some ui
  | _ => none

/-- The groups that an engine's fence fences: those with a channel bound on it (R310). -/
def engGroups (d : Dev) (e : Nat) : List Nat :=
  ((img d).groups.filter (fun g => g.channels.any (boundOn d e))).map (·.group)

/-- Whether a shadow over one unit covers another (R317). -/
def covers (d : Dev) (st si ut ui : Nat) : Bool :=
  if st = ut ∧ si = ui then true
  else match st with
    | 0 => true
    | 2 => ut == 1 && unitPort d ut ui == some si
    | 3 => (ut == 1 || ut == 2) && unitPort d ut ui == some si
    | 4 => ut == 1 && unitGroup d ut ui == some si
    | 5 => (ut == 4 || ut == 1) && (match unitGroup d ut ui with | some g => (engGroups d si).contains g | none => false)
    | 6 => decide (ut ∈ [1, 2, 3, 4]) && unitZone d ut ui == some si
    | _ => false

/-- The greatest reaction among the open shadows over a unit, none where no shadow covers it. -/
def shadowOver (d : Dev) (ut ui : Nat) : Option Nat :=
  (d.mor.shadows.filter (fun s => covers d s.ut s.ui ut ui &&
    (match s.close with | some c => decide (d.k < c) | none => true))).foldl (fun m s => some (max (m.getD 0) s.react)) none

/-- Open a shadow (R316): it closes at the edge of the tick after its `SHADOW` ticks; one that closes later than another
over the same unit extends that one, with the greater reaction. -/
def openShadow (d : Dev) (ut ui react n : Nat) : Dev :=
  if n = 0 then d
  else
    let c := d.k + n
    let earlier := fun (s : Shadow) => s.ut == ut && s.ui == ui && (match s.close with | some x => decide (x < c) | none => false)
    let r := (d.mor.shadows.filter earlier).foldl (fun r s => max r s.react) react
    let keep := d.mor.shadows.filter (fun s => !earlier s)
    { d with mor := { d.mor with shadows := keep ++ [⟨ut, ui, r, some c⟩] } }

/-- The shadow of a SAFE reaction: over the device until reset. -/
def openSafeShadow (d : Dev) : Dev :=
  { d with mor := { d.mor with shadows := d.mor.shadows ++ [⟨0, 0, 5, none⟩] } }

/-- SHADOW_CLOSE: shadows whose ticks are over close. -/
def closeShadows (d : Dev) : Dev :=
  { d with mor := { d.mor with
      shadows := d.mor.shadows.filter (fun s => match s.close with | some c => decide (d.k < c) | none => true) } }

/-- SHADOW_CLOSE. -/
def execShadowClose (s : State) : Host.Outcome State Fault Refusal := .next { s with d := closeShadows s.d }

/-! ### Fences (R310, R384) -/

/-- What a port fence does at once: express QUENCH, then nothing more on the port. -/
def fencePort (d : Dev) (p : Nat) : Dev :=
  let d := if inSafe d then d else sendExpress d p true 0
  markSent d (portChans d p)

/-- What a port fence does at the commit point: the port's readings are `LOST`, those of this tick among them; R105 defines
`LOST` as the port not being ACTIVE, so its state becomes LOST. -/
def loseFenced (d : Dev) (p : Nat) : Dev :=
  if (img d).brickAt p = none then d
  else
    let d := setPst (setPort d p (fun q => { q with good := 0 })) p psLost
    (portChans d p).foldl (fun d c => hotW (hotW d c 0 4 (lostWord (vWord d c))) c 4 4 (lostWord (iWord d c))) d

/-- An order for the partner's next TICK frame (R384): 1 FENCE, 2 UNFENCE, 3 ZONE, 4 BAY, with the unit. -/
def orderPartner (d : Dev) (kind ut ui : Nat) : Dev :=
  if role d = 0 then d else { d with mor := { d.mor with orders := d.mor.orders ++ [(kind, ut, ui)] } }

/-- Fence a unit for a source (R310). -/
def fenceUnit (d : Dev) (src ut ui : Nat) : Dev :=
  let was := fenced d ut ui
  let d := setFence d ut ui true
  let key := ut * 4096 + ui
  let fs := SMap.mod [] d.mor.fencers key (fun l => if l.contains src then l else l ++ [src])
  let d := { d with mor := { d.mor with fencers := fs } }
  let d := if ut = 1 ∨ ut = 2 ∨ ut = 4 ∨ ut = 6 then orderPartner d 1 ut ui
    else if ut = 5 then (engGroups d ui).foldl (fun d g => orderPartner d 1 4 g) d
    else d
  if was then d
  else match ut with
    | 3 => fencePort d ui
    | 7 => if rdFBit d Reg.TRI_STAT_FENCED ui then d else coreFence d ui 6 0
    | _ => d

/-- Lift this device's own fence of a unit, at a commit point (R311): a port restarts link-up at ALIGN, and a
poisoned HOT segment of a channel is zeroed (R132). -/
def liftFence (d : Dev) (ut ui : Nat) : Dev :=
  let key := ut * 4096 + ui
  let d := setFence d ut ui false
  let held := d.mor.fenceHeld.filter (· != key)
  let d := { d with mor := { d.mor with fencers := SMap.del d.mor.fencers key, fenceHeld := held } }
  let d := if ut = 1 ∨ ut = 2 ∨ ut = 4 ∨ ut = 6 then orderPartner d 2 ut ui
    else if ut = 5 then (engGroups d ui).foldl (fun d g => orderPartner d 2 4 g) d
    else d
  if ut = 3 ∧ (img d).brickAt ui ≠ none then enterAlign d ui else if ut = 1 then hotUnpoison d ui else d

/-- The fences whose commit-point effects take hold now (R310): every unit fenced at a commit point. -/
def holdFences (d : Dev) : Dev :=
  let new := (d.mor.fencers.map (·.1)).filter (fun key => decide (key / 4096 = 3) && !d.mor.fenceHeld.contains key)
  let d := { d with mor := { d.mor with fenceHeld := (d.mor.fencers.map (·.1)) ++ d.mor.pfence } }
  new.foldl (fun d key => loseFenced d (key % 4096)) d

/-! ### A pass (R302, R307 to R318) -/

/-- A reaction that the unit does not allow, or that finds no zone, is IRQ (R303, R309). -/
def admitReact (d : Dev) (r ut ui : Nat) : Nat :=
  if r = 2 ∧ ut = 0 then 1
  else if r = 3 ∧ unitZone d ut ui = none then 1
  else r

/-- Perform a reaction on a unit (R309). -/
def react (d : Dev) (src ut ui r : Nat) : Dev :=
  let d := if r = 0 then d else irq (wrB d Reg.MOR_STAT_IRQ_EV true) 0
  let sh := rd d (Reg.MOR_SRC_CFG_SHADOW src)
  match r with
  | 2 => openShadow (fenceUnit d src ut ui) ut ui 2 sh
  | 3 => match unitZone d ut ui with
    | some z => openShadow (orderPartner (orderZoneQuench d z cMor) 3 6 z) 6 z 3 sh
    | none => d
  | 4 => openShadow (orderPartner (orderBayQuench d cMor) 4 0 0) 0 0 4 sh
  | 5 => openSafeShadow (icefall d src)
  | _ => d

/-- Count an event of a MINOR source that has not escalated; whether it escalates now (R308). -/
def countEvent (d : Dev) (src now : Nat) : Bool × Dev :=
  let n := rd d (Reg.MOR_SRC_CFG_N src)
  let w := rd d (Reg.MOR_SRC_WIN_W_MS src) * 1000000
  let ts := (now :: SMap.get [] d.mor.times src).take n
  let d := { d with mor := { d.mor with times := SMap.set [] d.mor.times src ts } }
  let hit := decide (ts.length = n) && (match ts.getLast? with | some t => decide (now ≤ t + w) | none => false)
  (hit, if hit then wrBit d Reg.MOR_ESC_SRC src true else d)

/-- Offset of the ring's header and entries in Névé. -/
def ringHdr : Nat := 0x77FC0
def ringBase : Nat := 0x78000

/-- Write a field of the ring's header. -/
def hdrPut (d : Dev) (off v : Nat) : Dev := { d with neve := Memory.writeLE d.neve (ringHdr + off) 4 v }

/-- Put an entry into the queue of the event ring (R323). -/
def enqueue (d : Dev) (x : MorEntry) : Dev :=
  if d.mor.queue.length < 512 then { d with mor := { d.mor with queue := d.mor.queue ++ [x] } }
  else
    let d := incSat d Reg.MOR_LOG_DROPPED_CNT 1
    let d := hdrPut d 12 (rd d Reg.MOR_LOG_DROPPED_CNT)
    let d := wrB d Reg.MOR_STAT_LOG_DROP true
    raise d Src.MOR_LOG_DROP 0 0 (rd d Reg.MOR_LOG_DROPPED_CNT) 0

/-- Record the last non-consequential event. -/
def noteLast (d : Dev) (e : MorEv) (cls r : Nat) : Dev :=
  let d := wr d Reg.MOR_LAST_SRC e.src
  let d := wr d Reg.MOR_LAST_CLASS cls
  let d := wr d Reg.MOR_LAST_REACT r
  let d := wr d Reg.MOR_LAST_UTYPE e.ut
  wr d Reg.MOR_LAST_UINDEX e.ui

/-- Judge one event of a pass. -/
def judge (d : Dev) (e : MorEv) : Dev :=
  let d := incWrap d Reg.MOR_EVT_CNT_CNT 1
  let d := wrBit d Reg.MOR_PEND_SRC e.src true
  let c0 := rd d (Reg.MOR_SRC_CFG_CLASS e.src)
  let was := c0 == 1 && rdBit d Reg.MOR_ESC_SRC e.src
  let cls := if was then 2 else c0
  let rc := fun (esc : Bool) => admitReact d (if esc then rd d (Reg.MOR_SRC_CFG_REACT_ESC e.src) else rd d (Reg.MOR_SRC_CFG_REACT e.src)) e.ut e.ui
  let under := match shadowOver d e.ut e.ui with | some s => decide (rc was ≤ s) | none => false
  if under && (cls != 3 || inSafe d) then
    enqueue (incSat d Reg.MOR_CONSEQ_CNT_CNT 1) ⟨e, cls, false, true, 0⟩
  else
    let (hit, d) := if c0 = 1 ∧ was = false then countEvent d e.src (e.k * 50000 + e.subt) else (false, d)
    let cls := if hit then 2 else cls
    let r := rc (was || hit)
    let d := noteLast d e cls r
    let d := react d e.src e.ut e.ui r
    let d := if r ≠ 5 ∧ rd d Reg.MOR_CTRL_FAULT_CLASS ≤ cls then faultPulse d else d
    enqueue d ⟨e, cls, hit, false, r⟩

/-- Insert an event after those of its own and lower sources. -/
def insEv (e : MorEv) : List MorEv → List MorEv
  | [] => [e]
  | x :: l => if e.src < x.src then e :: x :: l else x :: insEv e l

/-- A pass: the events raised since the last one, in ascending source number and in the order raised. `cfgDiff` names
the first configuration word whose copies differ or fail parity, where the comparison of R321 finds one: the icefall then
starts without the reaction tables. -/
def morainePass (d : Dev) (cfgDiff : Option Nat) : Dev :=
  let d := match cfgDiff with
    | some w => raise (wrB (icefall d Src.MOR_CFG_PARITY) Reg.MOR_STAT_CFG_PARITY true) Src.MOR_CFG_PARITY 0 0 w 0
    | none => d
  let es := d.mor.raised.foldl (fun l e => insEv e l) []
  es.foldl judge { d with mor := { d.mor with raised := [] } }

/-- MORAINE_PASS. -/
def execMorainePass (cfgDiff : Option Nat) (s : State) : Host.Outcome State Fault Refusal :=
  .next { s with d := morainePass s.d cfgDiff }

/-! ### The event ring (R323, R324) -/

/-- The 32 bytes of an entry. -/
def entryBytes (x : MorEntry) (seq : Nat) : List Byte :=
  let w := x.cls + 4 * b2n x.esc + 8 * b2n x.conseq + 16 * b2n x.ev.inj + 256 * x.react + 4096 * x.ev.ut
  let b := natLE 8 x.ev.k ++ natLE 2 x.ev.subt ++ natLE 2 x.ev.src ++ natLE 2 w ++ natLE 2 x.ev.ui ++ natLE 4 seq ++
    natLE 4 x.ev.d0 ++ natLE 4 x.ev.d1
  b ++ natLE 4 (crc32c b)

/-- Give host ring 0 an event entry: it waits in a queue of 1,024; a disabled ring discards it (R509, R510). -/
def ring0Put (d : Dev) (b : List Byte) : Dev :=
  if !(hring d 0).en then d
  else if (hring d 0).queue.length < 1024 then setHring d 0 (fun x => { x with queue := x.queue ++ [b] })
  else
    let d := incSat d (Reg.HOST_RING_DROP_CNT 0) 1
    raise d Src.HOST_RING_DROP 0 0 0 (rd d (Reg.HOST_RING_DROP_CNT 0))

/-- Write the oldest queued entry to the ring. -/
def eventRingWrite (d : Dev) : Dev :=
  match d.mor.queue with
  | [] => d
  | x :: q =>
    let d := { d with mor := { d.mor with queue := q } }
    let wn := rd d Reg.MOR_LOG_WRITTEN_CNT
    let full := decide ((wn + 2 ^ 32 - rd d Reg.MOR_LOG_RD_RD) % 2 ^ 32 = 1024)
    let d := if full then incWrap (incSat d Reg.MOR_LOG_LOST_CNT 1) Reg.MOR_LOG_RD_RD 1 else d
    let b := entryBytes x wn
    let d := { d with neve := Memory.writeList d.neve (ringBase + 32 * (wn % 1024)) b }
    let d := incWrap d Reg.MOR_LOG_WRITTEN_CNT 1
    let d := hdrPut d 0 ((wn + 1) % 1024)
    let d := hdrPut d 4 (rd d Reg.MOR_LOG_WRITTEN_CNT)
    let d := hdrPut d 8 (rd d Reg.MOR_LOG_LOST_CNT)
    let d := hdrPut d 16 (rd d Reg.MOR_LOG_RD_RD)
    ring0Put d b

/-- EVENT_RING_WRITE. -/
def execEventRingWrite (s : State) : Host.Outcome State Fault Refusal := .next { s with d := eventRingWrite s.d }

/-! ### Register writes of the MOR page -/

/-- Whether a write of Moraine's configuration is refused as a whole: a STANDBY device takes none from its own host or
triad (R312). -/
def morCfgRefused (d : Dev) (req : Requester) : Bool := !d.apply && isStandby d && (req == .host || isTriad req)

/-- A write of Moraine's configuration: on an ACTIVE device it takes effect at R18's point (R312). -/
def morCfgStage (d : Dev) (req : Requester) (addr w : Nat) (act : Dev → Dev) : Dev :=
  if morCfgRefused d req then refuseW d req addr
  else if d.apply = false ∧ isActive d ∧ (req = .host ∨ isTriad req = true) then
    okResp { d with hostCyc := d.hostCyc ++ [.regWrite req addr w] }
  else act d

/-- Whether `FAULT_REL`, `FAULT_HOLD` act in a write of `MOR_CTRL` (R314, R319). -/
def morCtrlAct (d : Dev) (req : Requester) (w : Nat) : Dev :=
  let d := if bit w 0 then
      if inSafe d then refuseW d req 0x10020000
      else if rdB d Reg.MOR_STAT_PULSE then { d with mor := { d.mor with relPend := true } }
      else wrB d Reg.MOR_STAT_FAULT false
    else d
  if bit w 1 then
    wrB { d with mor := { d.mor with relPend := false } } Reg.MOR_STAT_FAULT true
  else d

/-- A write of `MOR_CTRL`. Its `FAULT_CLASS` is configuration under R312; its commands are not. -/
def morCtrlWrite (d : Dev) (req : Requester) (w : Nat) : Dev :=
  regAccess d req 0x10020000 w (fun d =>
    if limitsBad d 0x10020000 w then refuseW d req 0x10020000
    else
      let d := if bits w 4 2 = rd d Reg.MOR_CTRL_FAULT_CLASS then okResp d
        else morCfgStage d req 0x10020000 (setBit (setBit w 0 false) 1 false) (fun d => writeFields d req 0x10020000 w)
      morCtrlAct d req w)

/-- FAULT_REL. -/
def execFaultRel (req : Requester) (w : Nat) (s : State) : Host.Outcome State Fault Refusal :=
  .next { s with d := morCtrlWrite s.d req (setBit w 0 true) }

/-- FAULT_HOLD. -/
def execFaultHold (req : Requester) (w : Nat) (s : State) : Host.Outcome State Fault Refusal :=
  .next { s with d := morCtrlWrite s.d req (setBit w 1 true) }

/-- Why an unfence is refused (R311, R384). -/
def unfenceRefused (d : Dev) (ut ui : Nat) : Bool :=
  ut == 7 || !ownFence d ut ui || inSafe d ||
  (SMap.get [] d.mor.fencers (ut * 4096 + ui)).any (fun s => rdBit d Reg.MOR_PEND_SRC s)

/-- A write of `MOR_UNFENCE` with `GO` (R311). -/
def morUnfence (d : Dev) (req : Requester) (w : Nat) : Dev :=
  let addr := 0x1002002C
  regAccess d req addr w (fun d =>
    let d := writeFields d req addr w
    let ut := bits w 0 4
    let ui := bits w 4 12
    if unfenceRefused d ut ui then refuseW (wrB d Reg.MOR_STAT_UNFENCE_REF true) req addr
    else { d with mor := { d.mor with unfence := d.mor.unfence ++ [ut * 4096 + ui] } })

/-- MOR_UNFENCE. -/
def execMorUnfence (req : Requester) (w : Nat) (s : State) : Host.Outcome State Fault Refusal :=
  .next { s with d := morUnfence s.d req (setBit w 31 true) }

/-- Whether a software event may name a unit: a type 0 to 8 with an index in its range (R303). -/
def unitOk (ut ui : Nat) : Bool := decide (ui < unitCount ut)

/-- Raise an event as `raise` does, marked injected. -/
def inject (d : Dev) (src ut ui : Nat) : Dev :=
  let e : MorEv := { src := src, ut := ut, ui := ui, d0 := 0, d1 := 0, k := d.k, subt := freeVal d % 50000, inj := true }
  useFree { d with mor := { d.mor with raised := d.mor.raised ++ [e] } }

/-- A write of `MOR_INJ` with `GO` (R322): refused whole outside SERVICE and COMMISSION, for a source that is not
assigned, and for a unit that does not fit the source. An injection is local, in each pair role (R312). -/
def morInj (d : Dev) (req : Requester) (w : Nat) : Dev :=
  let addr := 0x10020020
  regAccess d req addr w (fun d =>
    let src := bits w 0 9
    let ut := bits w 12 4
    let ui := bits w 16 12
    if !allMaint d || !morAssigned src || (morUnit src != 0xF && morUnit src != ut) || !unitOk ut ui then
      refuseW d req addr
    else inject (writeFields d req addr w) src ut ui)

/-- MOR_INJ. -/
def execMorInj (req : Requester) (w : Nat) (s : State) : Host.Outcome State Fault Refusal :=
  .next { s with d := morInj s.d req (setBit w 31 true) }

/-- A write of `MOR_RAISE` with `GO` (R322). -/
def morRaise (d : Dev) (req : Requester) (w : Nat) : Dev :=
  let addr := 0x10020024
  regAccess d req addr w (fun d =>
    let ut := bits w 12 4
    let ui := bits w 16 12
    if !unitOk ut ui then refuseW d req addr
    else raise (writeFields d req addr w) (8 + bits w 0 3) ut ui (rd d Reg.MOR_RAISE_DATA_DATA) 0)

/-- MOR_RAISE. -/
def execMorRaise (req : Requester) (w : Nat) (s : State) : Host.Outcome State Fault Refusal :=
  .next { s with d := morRaise s.d req (setBit w 31 true) }

/-- A write of `MOR_LOG_RD`, which Moraine copies to the header (R324). -/
def morLogRd (d : Dev) (req : Requester) (w : Nat) : Dev :=
  regAccess d req 0x10020030 w (fun d =>
    let d := writeFields d req 0x10020030 w
    hdrPut d 16 (rd d Reg.MOR_LOG_RD_RD))

/-- MOR_LOG_RD. -/
def execMorLogRd (req : Requester) (w : Nat) (s : State) : Host.Outcome State Fault Refusal :=
  .next { s with d := morLogRd s.d req w }

/-! ### Configuration of a source (R305, R309) -/

/-- Whether a reaction stands in a class's column of R309. -/
def reactFits (cls r : Nat) : Bool :=
  match cls with
  | 0 => decide (r ≤ 1)
  | 1 => decide (r ≤ 4)
  | 2 => decide (1 ≤ r ∧ r ≤ 5)
  | _ => r == 5

/-- Whether the word a write of `MOR_SRC_CFG[s]` would leave breaks R309, which does not restrict the reactions of the software
sources (R303): of theirs only the codes have to exist. -/
def srcCfgBad (s w : Nat) : Bool :=
  let cls := bits w 0 2
  let r := bits w 2 3
  let x := bits w 5 3
  let u := morUnit s
  if u == 0xF then decide (5 < r ∨ 5 < x ∨ bits w 8 8 = 0)
  else !reactFits cls r || decide (5 < x) || decide (bits w 8 8 = 0) ||
  (u == 0 && (r == 2 || x == 2)) || ((u == 0 || u == 5 || u == 7 || u == 8) && (r == 3 || x == 3)) ||
  decide (x < r) || (cls == 1 && !reactFits 2 x)

end Sys2Proof.Machine
end

