-- ==== Sys2Proof/Machine/SafeOps.lean ====
section
/-!
DEFINITION. What the safety functions of chapter 17 give other blocks: a function's state and zones, the guard mapping,
the reduced allowance, and confirmation falling away (R58, R403, R409, R410).
-/
namespace Sys2Proof.Machine

/-- States of R409. -/
def fnRUN : Nat := 1
def fnDEMAND : Nat := 2
def fnWAIT : Nat := 3
def fnLOCKED : Nat := 4

def fnState (d : Dev) (f : Nat) : Nat := rd d (Reg.SAFE_FUNC_STATE f)

/-- Whether the safety section is CONFIRMED (R58). -/
def confirmed (d : Dev) : Bool := rd d Reg.SAFE_STAT_CONF == 2

/-- Whether the evaluator runs: not in BOOT, in CALVED or without the triad (R407, R283). -/
def evalRuns (d : Dev) : Bool := !inBoot d && !isCalved d && !d.mor.noTriad

/-- The zones a function acts on. -/
def fnZones (r : SafeFuncRec) : List Nat := sel 16 (bit r.zones)

/-- The lowest of them, the unit of its events (R418). -/
def fnUnit (r : SafeFuncRec) : Nat := (fnZones r).headD 0

/-- The inputs of a function, its reset input apart. -/
def fnIns (r : SafeFuncRec) : List Nat := r.ins.filter (· != 0xFF)

/-- The allowance of a zone whose guard mapping is REDUCED (R402, R403). -/
def guardAllow (d : Dev) (z : Nat) : Option Nat :=
  match (img d).guards.find? (fun g => g.zone == z) with
  | some g => if g.action = 1 then some g.iAllow else none
  | none => none

/-- The allowance in force on a zone: a GUARD function covers it, has left RUN and has not returned (R410). -/
def zoneAllow (d : Dev) (z : Nat) : Option Nat :=
  if confirmed d ∧ (img d).safeFuncs.any (fun r => r.kind == 2 && bit r.zones z && decide (1 < fnState d r.func)) then
    guardAllow d z
  else none

/-- The allowance in force on a channel, limit 3 of R148 in both directions. -/
def chanAllow (d : Dev) (c : Nat) : Option Nat :=
  match zoneOf d c with
  | some z => zoneAllow d z
  | none => none

/-- Whether a function in DEMAND or LOCKED covers a zone (R410). -/
def zoneDemanded (d : Dev) (z : Nat) : Bool :=
  (img d).safeFuncs.any (fun r => bit r.zones z && (fnState d r.func == fnDEMAND || fnState d r.func == fnLOCKED))

/-- The phase of the test-pulse schedule in this tick, in ticks from the off-pulse of source 0 (R404). -/
def tpPhase (d : Dev) : Nat := (d.safe.tp.2 + (d.k - d.safe.tp.1)) % (20 * rd d Reg.SAFE_TP_CFG_TP_MS)

/-- The whole value of `SAFE_FUNC[f]`. -/
def fnWord (d : Dev) (f : Nat) : Nat :=
  fnState d f + 16 * rd d (Reg.SAFE_FUNC_KIND f) + 256 * rd d (Reg.SAFE_FUNC_CAUSE f)

/-- The Moraine NOTE of R58; no rule gives its data word (log entry 31). -/
def confirmNote (d : Dev) : Dev := raise (useFree d) Src.SAFE_UNCONFIRMED 0 0 (freeVal d) 0

/-- Confirmation falls back to UNCONFIRMED: no function is evaluated and every safe output is off (R58, R413). -/
def unconfirm (d : Dev) : Dev :=
  let d := wr d Reg.SAFE_STAT_CONF 0
  let d := wrB d Reg.SAFE_STAT_EVAL false
  let d := (List.range 32).foldl (fun d f => wr d (Reg.SAFE_FUNC_STATE f) 0) d
  let d := allOutsOff d
  { d with safe := { d.safe with unlocked := [], unlockReq := none, fn := [], step1 := none, overs := [], quiet := [] } }

/-- ARMED ends without a confirmation. -/
def disarm (d : Dev) : Dev :=
  if rd d Reg.SAFE_STAT_CONF = 1 then wr { d with safe := { d.safe with step1 := none } } Reg.SAFE_STAT_CONF 0 else d

end Sys2Proof.Machine
end

