-- ==== Sys2Proof/Machine/Regulate.lean ====
section
/-!
DEFINITION. Channel regulation (chapter 06): demands, the regulation kernel 0x02, overrides, and the commands of manual
control. Currents are µA with 20 fraction bits (Q20) inside the regulator.
-/
namespace Sys2Proof.Machine

/-- One ampere-millionth in Q20. -/
def q20 : Int := 2 ^ (20 : Nat)

/-- A channel's regulator state beyond HOT. -/
def regCh (d : Dev) (c : Nat) : RegCh := SMap.get {} d.chan c
def setRegCh (d : Dev) (c : Nat) (f : RegCh → RegCh) : Dev := { d with chan := SMap.mod {} d.chan c f }

/-- Readings in µV and nA as R187 converts them, and in µA; the regulator takes the same values (log entry 23). -/
def uVof (d : Dev) (c : Nat) (v : Int) : Int := roundDiv (v * vFs d c) ((2 : Int) ^ 23)
def nAof (d : Dev) (c : Nat) (w : Nat) : Int := roundDiv (rwValue w * iFs d c (rwRange w) * 1000) ((2 : Int) ^ 23)
def uAof (d : Dev) (c : Nat) (w : Nat) : Int := roundDiv (rwValue w * iFs d c (rwRange w)) ((2 : Int) ^ 23)

/-! ### The demand record (R143) -/

def demMode (d : Dev) (c : Nat) : Nat := hot d c 0x40 1
def demUseV (d : Dev) (c : Nat) : Bool := bit (hot d c 0x41 1) 0
def demI (d : Dev) (c : Nat) : Int := hotS d c 0x44 4
def demV (d : Dev) (c : Nat) : Int := hotS d c 0x48 4
def demP (d : Dev) (c : Nat) : Int := hotS d c 0x4C 4
def demR (d : Dev) (c : Nat) : Nat := hot d c 0x50 4
def demLim (d : Dev) (c : Nat) : Nat := hot d c 0x54 4
def demAlt (d : Dev) (c : Nat) : Int := hotS d c 0x58 4
def demHi (d : Dev) (c : Nat) : Nat := hot d c 0x5C 2
def demLo (d : Dev) (c : Nat) : Nat := hot d c 0x5E 2

/-- Why a demand of eight words is invalid, as the cause of log code 0x42: 0 where it is valid (R144, R160). -/
def demandFault (d : Dev) (c : Nat) (ws : List Nat) : Nat :=
  let m := ws.getD 0 0 % 256
  let v := toS 32 (ws.getD 2 0)
  if 0x0A < m then 1
  else if (m = 2 ∨ m = 3 ∨ (m = 8 ∧ bit (ws.getD 0 0) 8)) ∧ (v < 1 ∨ (vFs d c : Int) < v) then 2
  else if m = 5 ∧ ws.getD 4 0 = 0 then 3
  else if m = 7 ∧ (ws.getD 7 0 % 2 ^ 16 = 0 ∨ ws.getD 7 0 / 2 ^ 16 = 0) then 4
  else 0

/-- Status word flags and limb (R159). -/
def regLimb (d : Dev) (c : Nat) : Nat := hot d c 0x78 1
def setLimb (d : Dev) (c l : Nat) : Dev := hotW d c 0x78 1 l
def regFlag (d : Dev) (c b : Nat) : Bool := bit (hot d c 0x78 4) b
def setRegFlag (d : Dev) (c b : Nat) (v : Bool) : Dev := hotW d c 0x78 4 (setBit (hot d c 0x78 4) b v)
def staleCnt (d : Dev) (c : Nat) : Nat := hot d c 0x7B 1

/-- The program slot and step a channel's log entries name: those of its step program, or 0xFF and 0xFFFF. -/
def logProg (d : Dev) (c : Nat) : Nat := if hot d c 0x140 1 % 16 = 0 then 0xFF else hot d c 0x141 1 % 64
def logStep (d : Dev) (c : Nat) : Nat := if hot d c 0x140 1 % 16 = 0 then 0xFFFF else hot d c 0x142 2 % 1024

/-- Log an event of a channel with its program position. -/
def logReg (d : Dev) (c typ : Nat) (data : List Byte) : Dev := logEvent d c typ (logProg d c) (logStep d c) data

/-- A demand takes effect (R143, R144, R153). -/
def takeDemand (d : Dev) (c : Nat) (ws : List Nat) (manual : Bool) : Dev :=
  let ws := ws.set 0 (ws.getD 0 0 % 2 ^ 9)
  let d := (ws.mapIdx (fun i w => (i, w))).foldl (fun d iw => hotW d c (0x40 + 4 * iw.1) 4 iw.2) d
  let d := setRegFlag (setRegFlag (setRegFlag d c 14 false) c 16 false) c 17 manual
  let d := setRegCh d c (fun r => { r with rest := false, fresh := true, ctReq := false })
  let f := demandFault d c ws
  let m := ws.getD 0 0 % 256
  if f ≠ 0 then
    let d := setRegFlag (setRegCh d c (fun r => { r with rest := true })) c 14 true
    let d := wrB d Reg.CHAN_STAT_DEMAND_EV true
    logReg d c 0x42 [BitVec.ofNat 8 m, BitVec.ofNat 8 f]
  else if m = 8 ∧ verOf d c ≠ 3 then
    let d := setRegFlag (setRegCh d c (fun r => { r with rest := true })) c 16 true
    let d := wrB d Reg.CHAN_STAT_HO_EV true
    logReg d c 0x43 [BitVec.ofNat 8 (verOf d c)]
  else d

/-- A demand of MODE OFF. -/
def takeOff (d : Dev) (c : Nat) : Dev := takeDemand d c [0, 0, 0, 0, 0, 0, 0, 0] false

/-- The mode that regulates a channel: its demand's, or REST for a demand that is not run. -/
def effMode (d : Dev) (c : Nat) : Nat := if (regCh d c).rest then 6 else demMode d c

/-- Whether a mode uses the voltage reading (R145, R156); of HOLDOVER only its float does. -/
def usesV (d : Dev) (c : Nat) : Bool :=
  let m := effMode d c
  m == 2 || m == 3 || m == 4 || m == 5 || (m == 8 && (regCh d c).ho == 3)

/-! ### Overrides (R157, R239, R310) -/

/-- A channel's zone holds (R35). -/
def zoneHeld (d : Dev) (c : Nat) : Bool :=
  match zoneOf d c with
  | some z => rdFBit d Reg.SYS_ZHOLD_ZONES z
  | none => false

/-- The override that acts on a channel: the limb it reports and the slot `MODE` and `RELAY` it sends. -/
def override (d : Dev) (c : Nat) : Option (Nat × Nat × Nat) :=
  if isTripped d c then some (15, 0, 0)
  else if pst d (portOf d c) ≠ psActive then some (15, 0, 0)
  else if fenced d 1 c || fenced d 2 (portOf d c) || busHeld d c then some (16, 0, 0)
  else match groupOf d c with
    | none => some (0, 0, 0)
    | some g =>
      if groupFenced d g.group then some (16, 1, 1)
      else if zoneHeld d c then some (16, 1, 1)
      else if chanMode d c (fun m => m == modeSelftest || m == modeDormant) then some (0, 0, 0)
      else none

/-- Apply an override: base current and integrators zeroed, with no slew (R157). -/
def applyOverride (d : Dev) (c : Nat) (o : Nat × Nat × Nat) : Dev :=
  let d := hotW d c 0xA0 8 (hot d c 0x60 8)
  let d := hotW (hotW d c 0x60 8 0) c 0x68 8 0
  let d := hotW (hotW d c 0x80 8 0) c 0x88 8 0
  let d := hotW d c 0x70 1 (o.2.1 + 16 * o.2.2)
  let d := hotW d c 0x71 1 0
  let d := hotW d c 0x74 4 0
  let d := setLimb d c o.1
  let d := [8, 9, 10, 11, 12, 13].foldl (fun d b => setRegFlag d c b false) d
  setRegCh d c (fun r => { r with resume := true, tone := false })

/-! ### STALE_HOLD, HOLDOVER and PULSE events -/

/-- A channel enters STALE_HOLD (R156). -/
def enterStaleHold (d : Dev) (c : Nat) : Dev :=
  let d := hotW (hotW (hotW d c 0x80 8 0) c 0x88 8 0) c 0x60 8 0
  let d := setLimb d c 14
  let lv := uVof d c ((regCh d c).lastV.getD 0)
  let d := setRegCh d c (fun r => { r with held := 0 })
  let d := logReg d c 0x40 (natLE 4 (ofS 32 lv))
  let d := wrB d Reg.CHAN_STAT_STALE_EV true
  let d := incSat d Reg.CHAN_STALE_CNT_CNT 1
  raise d Src.CHAN_STALE_HOLD 1 c (ofS 32 lv) (staleCnt d c)

/-- Whether a channel is at the point of R156 at which the hold begins: its voltage reading is not VALID in more than
`STALE_MAX` consecutive ticks. -/
def staleDue (d : Dev) (c cnt : Nat) : Bool :=
  match groupOf d c with
  | some g => usesV d c && !rwValid (vWord d c) && decide (rd d (Reg.CHAN_REGCFG_STALE_MAX g.group) < cnt) && regLimb d c != 14
  | none => false

/-- STALE_HOLD_ENTER: the tick's reading, not yet counted by the kernel, is the one that exceeds `STALE_MAX`. -/
def execStaleHoldEnter (ch : Nat) (s : State) : Host.Outcome State Fault Refusal :=
  .next { s with d := if staleDue s.d ch (staleCnt s.d ch + 1) then enterStaleHold s.d ch else s.d }

/-- The holdover capture ends (R152): `V_HOLD` is the mean, and the range phase begins. -/
def captureHold (d : Dev) (c : Nat) : Dev :=
  let n := hot d c 0x94 4
  let v := qdiv (hotS d c 0x98 8) n
  let d := hotWS d c 0x90 4 v
  let d := logReg d c 0x45 (natLE 4 (ofS 32 v) ++ natLE 4 n)
  setRegCh d c (fun r => { r with ho := 2 })

/-- Whether a channel's capture has its readings. -/
def captureFull (d : Dev) (c : Nat) : Bool :=
  match groupOf d c with
  | some g => effMode d c == 8 && (regCh d c).ho == 1 &&
      decide (0 < hot d c 0x94 4 ∧ rd d (Reg.CHAN_REGCFG_CAP_TICKS g.group) ≤ hot d c 0x94 4)
  | none => false

/-- HOLDOVER_CAPTURE_END. -/
def execHoldoverCaptureEnd (ch : Nat) (s : State) : Host.Outcome State Fault Refusal :=
  .next { s with d := if captureFull s.d ch then captureHold s.d ch else s.d }

/-- A float at a bound for `HO_SAT` ticks (R152). -/
def floatSat (d : Dev) (c : Nat) : Dev :=
  let d := setRegFlag d c 15 true
  let d := wrB d Reg.CHAN_STAT_HO_EV true
  logReg d c 0x44 (natLE 4 (ofS 32 (qdiv (hotS d c 0x60 8) q20)))

/-- Whether a float has been at a bound for `HO_SAT` ticks and has not reported it. -/
def floatSatDue (d : Dev) (c : Nat) : Bool :=
  match groupOf d c with
  | some g => effMode d c == 8 && (regCh d c).ho == 3 && !regFlag d c 15 &&
      decide (rd d (Reg.CHAN_REGCFG_HO_SAT g.group) ≤ hot d c 0x7C 1)
  | none => false

/-- FLOAT_SATURATED. -/
def execFloatSaturated (ch : Nat) (s : State) : Host.Outcome State Fault Refusal :=
  .next { s with d := if floatSatDue s.d ch then floatSat s.d ch else s.d }

/-- A PULSE channel changes level (R151). -/
def pulseSwitch (d : Dev) (c : Nat) : Dev :=
  let up := regLimb d c == 7
  let d := setLimb d c (if up then 6 else 7)
  let d := hotW d c 0x7E 2 (if up then demHi d c else demLo d c)
  setRegCh d c (fun r => { r with edge := true, low := !up })

/-- Whether a PULSE level's tick count has run out. -/
def pulseDue (d : Dev) (c : Nat) : Bool :=
  effMode d c == 7 && (regLimb d c == 6 || regLimb d c == 7) && hot d c 0x7E 2 == 0

/-- PULSE_LEVEL_CHANGE. -/
def execPulseLevelChange (ch : Nat) (s : State) : Host.Outcome State Fault Refusal :=
  .next { s with d := if pulseDue s.d ch then pulseSwitch s.d ch else s.d }

/-! ### The loops (R146, R148) -/

/-- A bound that may be absent. -/
abbrev Bnd := Option Int
def minB : Bnd → Bnd → Bnd
  | some a, some b => some (min a b)
  | none, b => b
  | a, none => a
def maxB : Bnd → Bnd → Bnd
  | some a, some b => some (max a b)
  | none, b => b
  | a, none => a
def cutHi (b : Bnd) (x : Int) : Int := match b with | some h => min h x | none => x
def cutLo (b : Bnd) (x : Int) : Int := match b with | some l => max l x | none => x

/-- A mode's own bounds (R145), in Q20. -/
def modeBounds (d : Dev) (c m : Nat) : Bnd × Bnd :=
  let i := demI d c * q20
  let l := (demLim d c : Int) * q20
  let lb : Bnd := if demLim d c = 0 then none else some l
  match m with
  | 2 => (lb.map (fun x => -x), lb)
  | 3 => (some (min 0 i), some (max 0 i))
  | 4 => (lb.map (fun x => -x), lb)
  | 5 => (lb.map (fun x => -x), some 0)
  | 8 =>
    let f := qdiv (95 * (iFs d c 4 : Int) * q20) 100
    (some (-f), some f)
  | _ => (none, none)

/-- Limit 2 of R148: the demand's `I_LIM`. -/
def demandBound (d : Dev) (c m : Nat) : Bnd :=
  if (m = 2 ∨ m = 4 ∨ m = 5 ∨ m = 8) ∧ demLim d c ≠ 0 then some ((demLim d c : Int) * q20) else none

/-- Limits 2 and 3 of R148 as bounds; R410 puts its allowance in the place of limit 3. -/
def valueBounds (d : Dev) (c m g : Nat) : Bnd × Bnd :=
  let l := demandBound d c m
  let a := chanAllow d c
  let hi : Bnd := minB l (some ((a.getD (rd d (Reg.CHAN_ICHG_ILIM g)) : Int) * q20))
  let lo : Bnd := maxB (l.map (fun x => -x)) (some (-((a.getD (rd d (Reg.CHAN_IDIS_ILIM g)) : Int) * q20)))
  (lo, hi)

/-- Whether a bound that has clamped an output is limit 2 or 3, not the mode's own (R148); `I_LIM` counts as limit 2 also where
it is the mode's bound. -/
def isLimit (mode acting lim2 : Bnd) : Bool := acting != mode || (lim2.isSome && acting == lim2)

/-- One PI tick of R146: `base` is ff + p, `ki` the integral increment; the integrator after it, the output, and whether
each bound clamped. -/
def piTick (lo hi : Bnd) (integ inc base : Int) : Int × Int × Bool × Bool :=
  let i := integ + inc
  let u := base + i
  let u1 := cutHi hi u
  let i1 := if u1 < u then u1 - base else i
  let u2 := cutLo lo u1
  let i2 := if u1 < u2 then u2 - base else i1
  (i2, u2, decide (u1 < u), decide (u1 < u2))

/-- What a mode asks for in a tick. -/
structure RegOut where
  d : Dev
  target : Int
  limb : Nat
  idle : Bool := false                 -- the mode's slot is IDLE
  relay : Nat := 1
  test : Bool := false
  edge : Bool := false
  limited : Bool := false
deriving DecidableEq, Repr

/-- The voltage loop with gains `kp` and `ki` towards `vset`: CV, CC-CV and the holdover float. `start` gives the
integrator's value for the tick in which the mode starts or resumes (R147). -/
def voltLoop (d : Dev) (c g m : Nat) (kp ki : Nat) (vset : Int) (start : Option (Int → Int)) : RegOut :=
  let (mlo, mhi) := modeBounds d c m
  let (vlo, vhi) := valueBounds d c m g
  let lo := maxB mlo vlo
  let hi := minB mhi vhi
  let e := vset - uVof d c (rwValue (vWord d c))
  let p := (kp : Int) * e
  let integ := match start with
    | some f => f p
    | none => hotS d c 0x80 8
  let (i, u, chi, clo) := piTick lo hi integ ((ki : Int) * e) p
  let d := hotWS d c 0x80 8 i
  let l := demandBound d c m
  let lim := (chi && isLimit mhi hi l) || (clo && isLimit mlo lo (l.map (fun x => -x)))
  let d := setRegCh d c (fun r => { r with u := u, loop := 1 })
  let onI := if 0 ≤ demI d c then chi else clo
  { d := d, target := u, limb := if m = 3 then (if onI then 1 else 2) else if m = 8 then 10 else 2, limited := lim }

/-- The power loop of CP (R146, R150). -/
def powerLoop (d : Dev) (c g : Nat) (start : Bool) (prev : Int) : RegOut :=
  let (mlo, mhi) := modeBounds d c 4
  let (vlo, vhi) := valueBounds d c 4 g
  let lo := maxB mlo vlo
  let hi := minB mhi vhi
  let v := uVof d c (rwValue (vWord d c))
  let vd := max v (rd d (Reg.CHAN_CPVMIN_VMIN g) : Int)
  let ff := qdiv (demP d c * 1000000000 * q20) vd
  let iOk := rwValid (iWord d c)
  let e := qdiv (demP d c * 1000000000 - v * uAof d c (iWord d c)) 1000000000
  let p := if iOk then (rd d (Reg.CHAN_KPP_KP g) : Int) * e else (regCh d c).p
  let integ := if start then prev - ff - p else hotS d c 0x88 8
  let inc := if iOk then (rd d (Reg.CHAN_KIP_KI g) : Int) * e else 0
  let (i, u, chi, clo) := piTick lo hi integ inc (ff + p)
  let d := if iOk ∨ start then hotWS d c 0x88 8 i else d
  let d := setRegCh d c (fun r => { r with p := p })
  let l := demandBound d c 4
  let lim := (chi && isLimit mhi hi l) || (clo && isLimit mlo lo (l.map (fun x => -x)))
  let d := setRegCh d c (fun r => { r with u := u, loop := if iOk ∨ start then 2 else 0 })
  { d := d, target := u, limb := 3, limited := lim }

/-- A target cut by limits 2 and 3. -/
def plain (d : Dev) (c g m : Nat) (t : Int) (limb : Nat) : RegOut :=
  let (lo, hi) := valueBounds d c m g
  let (mlo, mhi) := modeBounds d c m
  let t1 := cutLo mlo (cutHi mhi t)
  let u := cutLo lo (cutHi hi t1)
  let l := demandBound d c m
  { d := d, target := u, limb := limb, limited := decide (u ≠ t1) || (decide (u ≠ t) && l.isSome && l == some (u.natAbs : Int)) }

/-- Whether tones run on a channel in a mode (R154). -/
def tonesRun (d : Dev) (c m : Nat) : Bool :=
  match groupOf d c with
  | some g => (regCh d c).tone && rdB d (Reg.CHAN_REGCFG_TONE_EN g.group) && decide (1 ≤ m ∧ m ≤ 6)
  | none => false

/-- HOLDOVER by its phase (R152). -/
def holdoverOut (d : Dev) (c g : Nat) (start : Bool) (prev : Int) : RegOut :=
  match (regCh d c).ho with
  | 1 => { d := d, target := 0, limb := 8, idle := true }
  | 2 => { d := d, target := 0, limb := 9 }
  | _ =>
    voltLoop d c g 8 (rd d (Reg.CHAN_KPH_KP g)) (rd d (Reg.CHAN_KIH_KI g)) (hotS d c 0x90 4)
      (if start then some (fun p => prev - p) else none)

/-- What the channel's mode asks for; `start` where the mode starts or resumes this tick, `prev` the base current before. -/
def modeOut (d : Dev) (c g m : Nat) (start : Bool) (prev : Int) : RegOut :=
  match m with
  | 0 => { d := d, target := 0, limb := 0, idle := true, relay := 0 }
  | 1 => plain d c g 1 (demI d c * q20) 1
  | 2 => voltLoop d c g 2 (rd d (Reg.CHAN_KPV_KP g)) (rd d (Reg.CHAN_KIV_KI g)) (demV d c)
      (if start then some (fun p => prev - p) else none)
  | 3 => voltLoop d c g 3 (rd d (Reg.CHAN_KPV_KP g)) (rd d (Reg.CHAN_KIV_KI g)) (demV d c)
      (if start then some (fun p => demI d c * q20 - p) else none)
  | 4 => powerLoop d c g start prev
  | 5 =>
    let v := uVof d c (rwValue (vWord d c))
    plain d c g 5 (if v ≤ 0 then 0 else qdiv (-(v * 1000000 * q20)) (demR d c : Int)) 4
  | 7 =>
    let hi := !(regCh d c).low
    let r := plain d c g 7 ((if hi then demI d c else demAlt d c) * q20) (if hi then 6 else 7)
    { r with edge := (regCh d c).edge }
  | 8 => holdoverOut d c g start prev
  | 9 => { d := d, target := 0, limb := 11, idle := true, relay := 2 }
  | _ =>
    let ct := contact d c
    if ct.phase ≠ 0 then { d := d, target := 0, limb := 12, idle := true, test := ct.phase == 2 }
    else { d := d, target := 0, limb := 5, idle := !tonesRun d c m }

/-- Slew (R149). -/
def slew (d : Dev) (g : Nat) (prev target : Int) : Int :=
  let s := (rd d (Reg.CHAN_SLEW_SLEW g) : Int) * q20
  if s = 0 then target else clampI (prev - s) (prev + s) target

/-- A mode that starts: its counters and phases (R147, R151, R152). -/
def modeStart (d : Dev) (c m : Nat) : Dev :=
  let d := if m = 3 ∨ m = 2 ∨ m = 4 then d else hotW (hotW d c 0x80 8 0) c 0x88 8 0
  let d := if m = 2 ∨ m = 3 ∨ m = 8 then hotW d c 0x88 8 0 else if m = 4 then hotW d c 0x80 8 0 else d
  let d := setRegFlag (hotW d c 0x7C 1 0) c 15 false
  let d := hotW d c 0x7E 2 0
  let d := setRegCh d c (fun r => { r with started := false, edge := false, p := 0, ho := 0 })
  if m = 8 then
    let d := hotW (hotW d c 0x94 4 0) c 0x98 8 0
    if demUseV d c then hotWS (setRegCh d c (fun r => { r with ho := 2 })) c 0x90 4 (demV d c)
    else setRegCh d c (fun r => { r with ho := 1 })
  else d

/-- The forced range of a channel's frame (R155): range 4 in the holdover's range and float phases `ho`, the range in force
during a contact check. A check that a REST step requests (R119) forces its range as one of CONTACT mode does, DESIGN CHOICE
(log entry 229): R155 names the mode, R112 lets a larger demand break the lock. -/
def forcedRange (d : Dev) (c m ho : Nat) : Option Nat :=
  if m = 8 ∧ 2 ≤ ho then some 4
  else if (contact d c).phase ≠ 0 then some (rng d c).cur
  else none

/-- Full scale sum of a channel's tones, µA (R154, R155). -/
def toneSum (d : Dev) (g : Nat) : Nat :=
  let s := rd d (Reg.CHAN_REGCFG_TONE_SET g)
  (List.range 8).foldl (fun a t => if rd d (Reg.CHAN_TONE_INC_INC s t) = 0 then a else a + rd d (Reg.CHAN_TONE_AMP_AMP s t)) 0

/-- The ranging demand of R155, µA. -/
def rangingDemand (d : Dev) (c g m : Nat) (base target : Int) : Nat :=
  let i : Int := if m = 7 then max (demI d c).natAbs (demAlt d c).natAbs
    else qdiv (max base.natAbs target.natAbs : Nat) q20
  let t : Int := if tonesRun d c m then qdiv ((toneSum d g * iFs d c (rng d c).cur : Nat) : Int) 10000 else 0
  (min (i + t) (2 ^ 32 - 1)).toNat

/-- The limb that a mode with a voltage reading reports until a reading lets it start. -/
def startLimb (m : Nat) : Nat := match m with | 3 => 1 | 4 => 3 | 5 => 4 | 8 => 10 | _ => 2

/-- What a demand that has taken effect sets at once: PULSE starts anew (R151), and a HOLDOVER with `USE_VSET` holds `V_SET`,
its capture skipped (R152). -/
def demandStart (d : Dev) (c m : Nat) : Dev :=
  if m = 7 then setRegCh (hotW (setLimb d c 6) c 0x7E 2 (demHi d c)) c (fun r => { r with low := false })
  else if m = 8 ∧ demUseV d c then
    hotWS (setRegCh d c (fun r => if r.ho = 1 then { r with ho := 2 } else r)) c 0x90 4 (demV d c)
  else d

/-- The regulation kernel for a channel that no override holds (R145 to R156). A mode that starts or resumes in a tick whose
voltage reading it cannot use starts with the first reading that it can (R147, R156). -/
def regulateRun (d : Dev) (c g : Nat) : Dev :=
  let m := effMode d c
  let r := regCh d c
  let prev := hotS d c 0x60 8
  let d := hotWS d c 0xA0 8 prev
  let changed := decide (m ≠ r.mode)
  let wasHold := regLimb d c == 14
  let d := if changed then modeStart d c m else d
  let d := if changed ∨ r.fresh then demandStart d c m else if m = 7 then setLimb d c (if r.low then 7 else 6) else d
  let start := changed || r.resume
  let d := setRegCh d c (fun r => { r with mode := m, fresh := false, loop := 0 })
  let d := contactPhase d c
  -- PULSE level
  let d := if pulseDue d c then pulseSwitch d c else d
  let ho := (regCh d c).ho
  -- voltage readings
  let stale := usesV d c && !rwValid (vWord d c)
  let d := setRegCh d c (fun r => { r with resume := start && stale })
  let cnt := if stale then min 255 (staleCnt d c + 1) else 0
  let due := staleDue d c cnt
  let d := hotW d c 0x7B 1 cnt
  let d := if due ∧ !wasHold then enterStaleHold d c else d
  let holding := stale && (wasHold || due)
  let d := if holding then setRegCh d c (fun r => { r with held := r.held + 1 }) else d
  let d := if wasHold ∧ rwValid (vWord d c) then logReg d c 0x41 (natLE 4 (regCh d c).held) else d
  let start := start || (wasHold && !stale)
  let o : RegOut :=
    if holding then { d := d, target := 0, limb := 14, edge := true }
    else if stale then { d := d, target := prev, limb := if start then startLimb m else regLimb d c, edge := true }
    else modeOut d c g m start prev
  let d := o.d
  let base := if o.edge then o.target else slew d g prev o.target
  let ramp := (o.idle || o.limb == 9) && decide (base ≠ 0)
  -- HOLDOVER capture and CONTACT act once the ramp is done; the range phase waits for it too (log entry 231)
  let d := if o.idle ∧ !ramp then
      if m = 8 ∧ (regCh d c).ho = 1 then
        let d := if rwValid (vWord d c) then
            hotW (hotWS d c 0x98 8 (hotS d c 0x98 8 + uVof d c (rwValue (vWord d c)))) c 0x94 4 (hot d c 0x94 4 + 1)
          else d
        if captureFull d c then captureHold d c else d
      else if (m = 10 ∧ (regCh d c).started = false) ∨ (m = 6 ∧ (regCh d c).ctReq) then
        contactStart (setRegCh d c (fun r => { r with started := true, ctReq := false })) c
      else d
    else if m = 8 ∧ o.limb = 9 ∧ !ramp then setRegCh d c (fun r => { r with ho := 3 })
    else d
  -- HOLDOVER float at a bound
  let d := if o.limb = 10 then
      let (lo, hi) := modeBounds d c 8
      let (vlo, vhi) := valueBounds d c 8 g
      let at_ := decide (some base = minB hi vhi ∨ some base = maxB lo vlo)
      hotW d c 0x7C 1 (if at_ then min 255 (hot d c 0x7C 1 + 1) else 0)
    else d
  let d := hotWS d c 0x60 8 base
  let d := if floatSatDue d c then floatSat d c else d
  let d := if m = 7 ∧ !holding then
      setRegCh (hotW d c 0x7E 2 (hot d c 0x7E 2 - 1)) c (fun r => { r with edge := false })
    else d
  let d := setLimb d c (if ramp then 13 else if m = 10 ∧ (contact d c).phase ≠ 0 then 12 else o.limb)
  let d := setRegFlag (setRegFlag d c 8 o.limited) c 9 (decide (base ≠ o.target))
  let d := setRegFlag (setRegFlag d c 10 false) c 11 false
  let d := setRegFlag d c 12 (tonesRun d c m && !ramp)
  let sm := if o.idle && !ramp then (if o.test then 2 else 0) else 1
  let sr := if o.idle && !ramp then o.relay else 1
  let pert := tonesRun d c m || (regCh d c).toned
  let d := hotW d c 0x70 1 (sm + 16 * sr + 64 * b2n pert)
  let fr := forcedRange d c m (if ramp then 1 else ho)
  let d := hotW d c 0x71 1 (match fr with | some x => x + 128 | none => 0)
  hotW d c 0x74 4 (rangingDemand d c g m base o.target)

/-- The standard regulation kernel 0x02 for one channel. -/
def regulate (d : Dev) (c : Nat) : Dev :=
  match override d c with
  | some o => applyOverride (contactPhase d c) c o
  | none =>
    match groupOf d c with
    | some g => regulateRun d c g.group
    | none => d

/-! ### Manual control (R158) -/

/-- The manual demand registers. -/
def manWords (d : Dev) : List Nat := (List.range 8).map (fun i => rd d (Reg.CHAN_MAN_DEM_WORD i))

/-- Whether a channel's step program is running: RUN, WAITING or PAUSED (R164). -/
def seqActive (d : Dev) (c : Nat) : Bool := decide (1 ≤ hot d c 0x140 1 % 16 ∧ hot d c 0x140 1 % 16 ≤ 3)

/-- A write of `CHAN_MAN_CTRL` with `GO` set. -/
def manGo (d : Dev) (req : Requester) (w : Nat) : Dev :=
  let addr := 0x10070014
  regAccess d req addr w (fun d =>
    let c := rd d Reg.CHAN_MAN_CH_CH
    if chanMode d c isMaint = false ∨ (groupOf d c).isNone ∨ populated d c = false ∨ seqActive d c ∨ isStandby d ∨
        demandFault d c (manWords d) ≠ 0 then
      refuseW (wrB d Reg.CHAN_STAT_MAN_REF true) req addr
    else stage (okResp (wrB d Reg.CHAN_STAT_MAN_PEND true)) req (.manual c (manWords d)))

/-- GO. -/
def execGo (req : Requester) (w : Nat) (s : State) : Host.Outcome State Fault Refusal := .next { s with d := manGo s.d req w }

/-- A write of `CHAN_MAN_CTRL` with `RELEASE` set: no effect on a channel that follows no manual demand. -/
def manRelease (d : Dev) (req : Requester) (w : Nat) : Dev :=
  regAccess d req 0x10070014 w (fun d =>
    if isStandby d then refuseW d req 0x10070014
    else stage (okResp d) req (.manRelease (rd d Reg.CHAN_MAN_CH_CH)))

/-- RELEASE. -/
def execRelease (req : Requester) (w : Nat) (s : State) : Host.Outcome State Fault Refusal :=
  .next { s with d := manRelease s.d req w }

/-- A manual demand commits. -/
def commitManual (d : Dev) (c : Nat) (ws : List Nat) : Dev := takeDemand (wrB d Reg.CHAN_STAT_MAN_PEND false) c ws true

/-- A manual channel goes OFF: at a RELEASE, at its program's start, or as its zone leaves COMMISSION and SERVICE. -/
def endManual (d : Dev) (c : Nat) : Dev := if regFlag d c 17 then takeOff d c else d

end Sys2Proof.Machine
end

