-- ==== Sys2Proof/Machine/GradeOps.lean ====
section
/-!
DEFINITION. Grading in the tick (chapter 08): the increments, the measurement windows and the histogram partials of the
analytics kernel 0x03.
-/
namespace Sys2Proof.Machine

/-- A channel's grading state beyond the ledger. -/
def gradeCh (d : Dev) (c : Nat) : GradeCh := SMap.get {} d.grade c
def setGradeCh (d : Dev) (c : Nat) (f : GradeCh → GradeCh) : Dev := { d with grade := SMap.mod {} d.grade c f }

/-- Result status codes (R194). -/
def gOK : Nat := 0
def gSHORT : Nat := 1
def gRANGE : Nat := 2
def gBAD : Nat := 3
def gABORTED : Nat := 4
def gBUSY : Nat := 5
def gUNAVAIL : Nat := 6
def gPARAM : Nat := 7
def gSMALL : Nat := 8
def gSATUR : Nat := 9
def gTONECLIP : Nat := 10
def gNOFIT : Nat := 11
def gNOBASE : Nat := 12
def gNOTEMP : Nat := 13
def gDRIFT : Nat := 14

/-- The increments of a tick (R187, R188): current in nA, voltage in µV, power in nW, and whether both streams are
VALID. -/
def gradeInc (d : Dev) (c : Nat) : Int × Int × Int × Bool :=
  let vw := vWord d c
  let iw := iWord d c
  let i := if rwLost vw || rwLost iw then 0 else nAof d c iw
  let v := uVof d c (rwValue vw)
  (i, v, roundDiv (v * i) 1000000, rwValid vw && rwValid iw)

/-- The step counters' increments (R189): µA and µW. -/
def stepInc (d : Dev) (c : Nat) : Int × Int :=
  let (i, _, p, _) := gradeInc d c
  (roundDiv i 1000, roundDiv p 1000)

/-- The range lock a window kind holds (R111): 1 lock-in, 2 DC step, 3 holdover. -/
def winLock (kind : Nat) : Nat := match kind with | 3 => 1 | 2 => 2 | 5 => 3 | _ => 0

/-- Whether a window is open. -/
def GWin.live (w : GWin) : Bool := w.kind != 0 && w.closed.isNone

/-- Precedence of the statuses of R193 when several occur in one tick: the lower acts. -/
def endRank (s : Nat) : Nat := match s with | 4 => 0 | 2 => 1 | 3 => 2 | 1 => 3 | _ => 9

/-- End a window before its last reading (R193); one that has closed normally keeps its status. -/
def endWin (k s : Nat) (w : GWin) : GWin :=
  if w.kind = 0 then w
  else match w.closed with
    | none => { w with closed := some s, tEnd := if w.tEnd = 0 then k else w.tEnd, closeK := k }
    | some o => if w.closeK = k ∧ endRank s < endRank o ∧ endRank o < 9 then { w with closed := some s } else w

/-- Release the locks and tones of windows that are no longer open. -/
def winSync (d : Dev) (c : Nat) : Dev :=
  let g := gradeCh d c
  let kinds := ([g.a, g.b].filter (·.live)).map (·.kind)
  let d := setRng d c (fun r => { r with
      locks := r.locks.filter (fun l => !(l == 1 || l == 2 || l == 3) || kinds.any (fun k => winLock k == l)) })
  setRegCh d c (fun r => { r with tone := kinds.contains 3 })

/-- End every open window of a channel with a status. -/
def gradeEnd (d : Dev) (c s : Nat) : Dev :=
  let d := setGradeCh d c (fun g => { g with a := endWin d.k s g.a, b := endWin d.k s g.b, ho := none })
  winSync d c

/-- End the windows that hold a range lock: RANGE_BREAK (R112). -/
def gradeRangeBreak (d : Dev) (c : Nat) : Dev :=
  let f := fun (w : GWin) => if winLock w.kind = 0 then w else endWin d.k gRANGE w
  winSync (setGradeCh d c (fun g => { g with a := f g.a, b := f g.b })) c

/-! ### Requests (R190, R191) -/

/-- Whether a parameter set breaks the limits for a kind (R211). -/
def psetBad (kind : Nat) (ws : List Nat) : Bool :=
  let w := fun i => ws.getD i 0
  match kind with
  | 2 =>
    let ta := w 0 % 2 ^ 16
    let tb := w 0 / 2 ^ 16
    let n := w 1 % 2 ^ 8
    decide (ta < 5 ∨ n < 1 ∨ 64 < n ∨ (tb ≠ 0 ∧ tb < ta + n) ∨ w 2 < 1)
  | 3 => decide (w 0 % 2 ^ 16 < 5 ∨ w 1 < 20 ∨ 16777216 < w 1)
  | 4 => decide (12 < w 0 % 16 ∨ w 1 < 1 ∨ w 2 < w 1 + 2)
  | 5 =>
    let td := w 3 / 2 ^ 16
    decide (14 < w 0 % 16 ∨ w 1 < 1 ∨ w 2 < w 1 + 2 ∨ (td ≠ 0 ∧ (td < 100 ∨ 10000 < td)))
  | _ => false

/-- Hold the result of a request of tick `k` that opens no window: one for each kind and fold span (R191). -/
def noWindow (d : Dev) (c kind status pset k : Nat) : Dev :=
  let d := if status = gBUSY then
      incSat (wrB d Reg.CHAN_GRD_STAT_BUSY_EV true) Reg.CHAN_GRD_BUSY_CNT_CNT 1 else d
  let same := fun (n : GNoWin) => n.kind == kind && n.tick / 20 == k / 20
  setGradeCh d c (fun g => { g with noWin := g.noWin.filter (fun n => !same n) ++ [⟨kind, status, pset, k⟩] })

/-- Whether the tones of a channel's group have anything to run (R198). -/
def tonesAvail (d : Dev) (c : Nat) : Bool :=
  match groupOf d c with
  | some g => rdB d (Reg.CHAN_REGCFG_TONE_EN g.group) &&
      (List.range 8).any (fun t => rd d (Reg.CHAN_TONE_INC_INC (rd d (Reg.CHAN_REGCFG_TONE_SET g.group)) t) != 0)
  | none => false

/-- The words of a parameter set, and whether a channel has a free measurement area (R192). -/
def psetWords (d : Dev) (pset : Nat) : List Nat := (List.range 8).map (fun i => rd d (Reg.CHAN_GRD_PSET_WORD pset i))
def areaFree (d : Dev) (c : Nat) : Bool := (gradeCh d c).a.kind == 0 || (gradeCh d c).b.kind == 0

/-- Open a window of a kind in the lower-numbered free area, or hold a result where none opens (R191, R192); `k` is the tick
of its request. -/
def openWin (d : Dev) (c kind pset k : Nat) : Dev :=
  let ws := psetWords d pset
  if psetBad kind ws then noWindow d c kind gPARAM pset k
  else if kind = 3 ∧ tonesAvail d c = false then noWindow d c kind gUNAVAIL pset k
  else
    let g := gradeCh d c
    let w : GWin := { kind := kind, pset := pset, words := ws, start := d.k, origin := (d.k + 19) / 20,
                      range := if kind = 5 then 4 else (rng d c).cur,
                      tones := if kind = 3 then List.replicate 8 [0, 0, 0, 0] else [],
                      hold := if kind = 5 then hotS d c 0x90 4 else 0
                      cur := ⟨1, 0, 0, 0, false, 0⟩ }
    let opened := fun (d : Dev) =>
      let d := if winLock kind = 0 then d else
        setRng d c (fun r => { r with locks := winLock kind :: r.locks.erase (winLock kind) })
      if kind = 3 then setRegCh d c (fun r => { r with tone := true }) else d
    if g.a.kind = 0 then opened (setGradeCh d c (fun g => { g with a := w }))
    else if g.b.kind = 0 then opened (setGradeCh d c (fun g => { g with b := w }))
    else noWindow d c kind gBUSY pset k

/-- A HOLDOVER request: what it finds is settled in its own tick, and the window opens at the float phase (R191, R192,
R204). -/
def holdRequest (d : Dev) (c pset : Nat) : Dev :=
  if (regCh d c).rest then noWindow d c 5 gUNAVAIL pset d.k
  else if psetBad 5 (psetWords d pset) then noWindow d c 5 gPARAM pset d.k
  else if areaFree d c then setGradeCh d c (fun g => { g with ho := some (pset, d.k) })
  else noWindow d c 5 gBUSY pset d.k

/-- The grading request of a RUN step, in its start tick (R190). -/
def gradeRequest (d : Dev) (c req : Nat) : Dev :=
  let kind := req / 32
  let pset := req % 32
  match kind with
  | 1 => setGradeCh (hotW d c 0x1ED 1 (setBit (hot d c 0x1ED 1) 2 true)) c (fun g => { g with markK := d.k })
  | 2 => openWin d c 2 pset d.k
  | 3 => openWin d c 3 pset d.k
  | 4 => openWin d c 4 pset d.k
  | 5 => holdRequest d c pset
  | 6 =>
    let f := setBit (setBit (hot d c 0x1ED 1) 3 true) 4 (pset == 1)
    setGradeCh (hotW d c 0x1ED 1 f) c (fun g => { g with evalK := d.k })
  | _ => d

/-! ### One tick of a window -/

/-- Add to element `i` of a list. -/
def addAt (l : List Int) (i : Nat) (x : Int) : List Int := l.mapIdx (fun j y => if j = i then y + x else y)

/-- What a window reads in a tick. -/
structure GIn where
  k : Nat
  vw : Nat
  iw : Nat
  temp : Int
  i : Int
  ran : Bool                           -- the analytics kernel runs for the channel in this tick
  tones : List (Nat × Nat)             -- the tone set's INC and PHASE0
deriving DecidableEq, Repr

/-- A window closes normally. -/
def closeWin (k s : Nat) (w : GWin) : GWin := { w with closed := some s, tEnd := k, closeK := k }

/-- A DCIR window's tick (R197). -/
def dcirTick (x : GIn) (w : GWin) : GWin :=
  let o := x.k - w.start
  let ta := w.words.getD 0 0 % 2 ^ 16
  let tb := w.words.getD 0 0 / 2 ^ 16
  let n := w.words.getD 1 0 % 2 ^ 8
  let slot : Option Nat := if o ≤ 1 then some 0 else if ta ≤ o ∧ o < ta + n then some 1
    else if tb ≠ 0 ∧ tb ≤ o ∧ o < tb + n then some 2 else none
  match slot with
  | none => w
  | some i =>
    if !x.ran || !rwValid x.vw || !rwValid x.iw then endWin x.k gBAD w
    else
      let w := { w with
          vs := addAt w.vs i (rwValue x.vw), is_ := addAt w.is_ i (rwValue x.iw), tEnd := x.k,
                        range := rwRange x.iw }
      if o + 1 = (if tb = 0 then ta + n else tb + n) then closeWin x.k gOK w else w

/-- An impedance window's tick (R198, R199). -/
def impTick (x : GIn) (w : GWin) : GWin :=
  let o := x.k - w.start
  let st := w.words.getD 0 0 % 2 ^ 16
  let n := w.words.getD 1 0
  if !x.ran then endWin x.k gBAD w
  else if o < st then w
  else if !rwValid x.vw || !rwValid x.iw then endWin x.k gBAD w
  else
    let v := rwValue x.vw
    let i := rwValue x.iw
    let sums := (List.zip w.tones x.tones).map (fun (s : List Int × Nat × Nat) =>
      if s.2.1 = 0 then s.1
      else
        let cs := trigRound 32767 (s.2.1 * x.k + s.2.2 * 2 ^ 16)
        [s.1.getD 0 0 + v * cs.1, s.1.getD 1 0 + v * cs.2, s.1.getD 2 0 + i * cs.1, s.1.getD 3 0 + i * cs.2])
    let w := { w with tones := sums, tEnd := x.k, range := rwRange x.iw }
    if o + 1 = st + n then closeWin x.k gOK w else w

/-- A relaxation or holdover window's tick (R202). -/
def fitTick (x : GIn) (w : GWin) : GWin :=
  let cyc := x.k / 20
  if cyc < w.origin then w
  else
    let p := 20 * 2 ^ (w.words.getD 0 0 % 16)
    let j0 := w.words.getD 1 0
    let j1 := w.words.getD 2 0
    let o := x.k - 20 * w.origin
    let j := o / p + 1
    let word := if w.kind = 4 then x.vw else x.iw
    let bad := (if o % p = 0 then false else w.bad) || !x.ran || !rwValid word
    let c := if o % p = 0 then ⟨j, 0, 0, 0, false, 0⟩ else w.cur
    let c : GPoint := { c with
        sum := c.sum + rwValue word, n := c.n + 1, temp := c.temp + x.temp,
                               noTemp := c.noTemp || decide (x.temp = noTemp), q := c.q + x.i }
    let w := { w with cur := c, bad := bad }
    if o % p ≠ p - 1 then w
    else
      let w := if j < j0 then w
        else if bad then { w with nexcl := w.nexcl + 1, tEnd := x.k }
        else { w with pts := w.pts ++ [c], tEnd := x.k }
      if j = j1 then closeWin x.k gOK w else w

/-- One tick of an area's window. -/
def winTick (x : GIn) (w : GWin) : GWin :=
  if w.live then
    match w.kind with
    | 2 => dcirTick x w
    | 3 => impTick x w
    | _ => fitTick x w
  else if w.closed = some gSHORT ∧ w.closeK = x.k then
    -- a forbidden reading of the tick in which the step ended precedes SHORT (R193)
    match w.kind with
    | 2 => { dcirTick x { w with closed := none } with closed := some (if (dcirTick x { w with closed := none }).closed = some gBAD then gBAD else gSHORT), closeK := x.k }
    | 3 => if (impTick x { w with closed := none }).closed = some gBAD then endWin x.k gBAD w else w
    | _ => w
  else w

/-- What a channel's windows read. -/
def gIn (d : Dev) (c : Nat) (ran : Bool) : GIn :=
  let ts := match groupOf d c with
    | some g =>
      let s := rd d (Reg.CHAN_REGCFG_TONE_SET g.group)
      (List.range 8).map (fun t => (rd d (Reg.CHAN_TONE_INC_INC s t), rd d (Reg.CHAN_TONE_AMP_PHASE0 s t)))
    | none => []
  { k := d.k, vw := vWord d c, iw := iWord d c, temp := hotTemp d c, i := (gradeInc d c).1, ran := ran, tones := ts }

/-- A tick of both areas; a HOLDOVER request opens its window at the float phase (R204), and a saturated float ends it. -/
def windowsTick (d : Dev) (c : Nat) (ran : Bool) : Dev :=
  if (gradeCh d c).winK = some d.k then d else
  let d := setGradeCh d c (fun g => { g with winK := some d.k })
  let d := match (gradeCh d c).ho with
    | some (p, k) =>
      if effMode d c = 8 ∧ (regCh d c).ho = 3 ∧ regLimb d c = 10 then
        openWin (setGradeCh d c (fun g => { g with ho := none })) c 5 p k
      else d
    | none => d
  let x := gIn d c ran
  let d := setGradeCh d c (fun g => { g with a := winTick x g.a, b := winTick x g.b })
  let sat := fun (w : GWin) => if w.live && w.kind == 5 && regFlag d c 15 then
      { w with closed := some gSATUR, tEnd := d.k, closeK := d.k } else w
  winSync (setGradeCh d c (fun g => { g with a := sat g.a, b := sat g.b })) c

/-- Whether one of a channel's windows closes or ends with this tick's readings. -/
def winDue (d : Dev) (c : Nat) : Bool :=
  let g := gradeCh d c
  let x := gIn d c true
  g.winK != some d.k && (g.a.live && !(winTick x g.a).live || g.b.live && !(winTick x g.b).live)

/-- GRADE_WINDOW_CLOSE: a measurement window takes its last reading or point, or ends early with a status (R193). -/
def execGradeWindowClose (ch : Nat) (s : State) : Host.Outcome State Fault Refusal :=
  .next { s with d := if winDue s.d ch then windowsTick s.d ch true else s.d }

/-- A histogram partial's tick (R200). -/
def histTick (d : Dev) (c g : Nat) (i : Int) (ok : Bool) : Dev :=
  let l := regLimb d c
  if rdB d (Reg.CHAN_GRD_ICA_CFG_EN g) && decide (1 ≤ l ∧ l ≤ 4) && ok &&
      (!regFlag d c 12 || rdB d (Reg.CHAN_GRD_ICA_CFG_TONES g)) then
    let n := hot d c 0x1EA 1
    let hv := hotS d c 0x1E0 4 + rwValue (vWord d c)
    let hq := hot d c 0x1E4 6 + (roundDiv i 1000).natAbs
    let fl := hot d c 0x1ED 1
    let fl := if n = 0 then setBit fl 0 (decide (i < 0)) else fl
    let flip := n != 0 && ((decide (i < 0) && !bit fl 0) || (decide (0 < i) && bit fl 0))
    let ovf := decide (satS 32 hv ≠ hv) || decide (2 ^ 48 ≤ hq) || decide (255 ≤ n)
    let fl := if flip || ovf then setBit fl 1 true else fl
    let d := hotWS d c 0x1E0 4 (satS 32 hv)
    let d := hotW d c 0x1E4 6 (min hq (2 ^ 48 - 1))
    let d := hotW d c 0x1EA 1 (min 255 (n + 1))
    hotW d c 0x1ED 1 fl
  else d

/-- The analytics kernel 0x03 for one channel (R187, R188). -/
def analytics (d : Dev) (c : Nat) : Dev :=
  match groupOf d c with
  | none => d
  | some g =>
    let (i, _, p, ok) := gradeInc d c
    let add := fun (d : Dev) (o : Nat) (x : Int) => hotW d c o 8 (hot d c o 8 + x.toNat)
    let d := if 0 < i then add d 0x1C0 i else if i < 0 then add d 0x1C8 (-i) else d
    let d := if 0 < p then add d 0x1D0 p else if p < 0 then add d 0x1D8 (-p) else d
    let d := if ok then d else hotW d c 0x1EB 1 (min 255 (hot d c 0x1EB 1 + 1))
    let d := histTick d c g.group i ok
    windowsTick d c true

/-- A tick in which kernel 0x03 is not bound for the channel (R229). -/
def analyticsSkipped (d : Dev) (c : Nat) : Dev :=
  let d := hotW d c 0x1EB 1 (min 255 (hot d c 0x1EB 1 + 1))
  let f := fun (w : GWin) => if w.live ∧ (w.kind = 2 ∨ w.kind = 3) then endWin d.k gBAD w else w
  windowsTick (setGradeCh d c (fun g => { g with a := f g.a, b := f g.b })) c false

end Sys2Proof.Machine
end

