-- ==== Sys2Proof/Machine/Meas.lean ====
section
/-!
DEFINITION. The calibration and contact check commands (R113 to R121).
-/
namespace Sys2Proof.Machine

/-- The channels of a set, cut at the device's last channel. -/
def setChans (first num : Nat) : List Nat := (List.range (min num (4096 - first))).map (first + ·)

/-- Whether `STREAM`, `LOG2N` or `SETTLE` lies outside the limits of R123. -/
def calOutside (stream log2n settle : Nat) : Bool := decide (5 < stream ∨ log2n < 4 ∨ 14 < log2n ∨ settle < 4)

/-- Why a calibration command is refused: the first case of R113 that holds, as its code; 0 where it is performed. A `STREAM`
above 5 names no range of any version. -/
def calRefusal (d : Dev) (cmd stream log2n settle : Nat) : Nat :=
  let first := rd d Reg.MEAS_CAL_CH_FIRST
  let num := rd d Reg.MEAS_CAL_CH_NUM
  let cs := setChans first num
  if cs.any (fun c => (zoneOf d c).isSome && !chanMode d c isMaint) then 1
  else if 5 < stream ∨ cs.any (fun c => !populated d c || (stream != 0 && !rangeOffered (verOf d c) (stream - 1))) then 2
  else if log2n < 4 ∨ 14 < log2n ∨ settle < 4 ∨ 4096 < first + num then 3
  else if cmd ≠ 4 ∧ rdB d Reg.MEAS_STAT_CAL_BUSY then 4
  else if isStandby d then 5
  else 0

/-- A refused command: its code, `CAL_ERR`, and the error response of R12. -/
def calRefuse (d : Dev) (req : Requester) (code : Nat) : Dev :=
  let d := wr d Reg.MEAS_STAT_CAL_CODE code
  refuseW (wrB d Reg.MEAS_STAT_CAL_ERR true) req 0x10060008

/-- The parameters of a write of `MEAS_CAL_CTRL`. -/
def calParams (d : Dev) (stream log2n settle : Nat) : Dev :=
  wr (wr (wr d Reg.MEAS_CAL_CTRL_STREAM stream) Reg.MEAS_CAL_CTRL_LOG2N log2n) Reg.MEAS_CAL_CTRL_SETTLE settle

/-- A write of `MEAS_CAL_CTRL` with a command: its checks, its parameters, and its act. A refused command takes no part of
R113's effects; the write's other fields take their values (R12), but where one lies outside its limits none does (R123).
That such a write of `STREAM` abandons no capture is read from R113's last sentence, DEDUCED (log entry 224). -/
def calCtrl (d : Dev) (req : Requester) (w cmd : Nat) (act : Dev → Dev) : Dev :=
  regAccess d req 0x10060008 w (fun d =>
    let stream := bits w 4 3
    let log2n := bits w 8 4
    let settle := bits w 12 8
    let code := calRefusal d cmd stream log2n settle
    let d := if calOutside stream log2n settle then d else calParams d stream log2n settle
    if code ≠ 0 then calRefuse d req code else act (okResp d))

/-- Start a capture (R114): a current stream locks the set's channels to the captured range. -/
def startCapture (d : Dev) (zero : Bool) : Dev :=
  let first := rd d Reg.MEAS_CAL_CH_FIRST
  let num := rd d Reg.MEAS_CAL_CH_NUM
  let stream := rd d Reg.MEAS_CAL_CTRL_STREAM
  let r : CapRun := { zero := zero, first := first, num := num, stream := stream,
                      settle := rd d Reg.MEAS_CAL_CTRL_SETTLE, n := rd d Reg.MEAS_CAL_CTRL_LOG2N }
  let d := { d with meas := { d.meas with run := some r } }
  let d := wr d Reg.MEAS_STAT_CAL_CODE 0
  let d := wrB d Reg.MEAS_STAT_CAL_BUSY true
  if stream = 0 then d else (setChans first num).foldl (fun d c => setRng d c (fun x => { x with locks := 5 :: x.locks.erase 5 })) d

/-- CAPTURE_ZERO. -/
def execCaptureZero (req : Requester) (w : Nat) (s : State) : Host.Outcome State Fault Refusal :=
  .next { s with d := calCtrl s.d req w 1 (fun d => startCapture d true) }

/-- CAPTURE_FULL. -/
def execCaptureFull (req : Requester) (w : Nat) (s : State) : Host.Outcome State Fault Refusal :=
  .next { s with d := calCtrl s.d req w 2 (fun d => startCapture d false) }

/-- A quotient whose rounding the spec leaves open: exact, or one of its two neighbours (log entry 21). -/
def openDiv (d : Dev) (a b : Int) : Int × Dev :=
  if a % b = 0 then (a / b, d) else (a.fdiv b + (freeVal d % 2 : Nat), useFree d)

/-- A capture completes once every channel of its set has its readings (R114): the means with 8 fraction bits are held. -/
def captureDone (d : Dev) : Dev :=
  match d.meas.run with
  | none => d
  | some r =>
    let cs := setChans r.first r.num
    if cs.any (fun c => decide (SMap.get 0 r.cnt c < 2 ^ r.n)) then d
    else
      let (mean, d) := cs.foldl (fun (a : SMap Int × Dev) c =>
        let (m, d) := openDiv a.2 (SMap.get 0 r.sum c * 256) (2 ^ r.n)
        (SMap.set 0 a.1 c m, d)) (([] : SMap Int), d)
      let h : CapHeld := { first := r.first, num := r.num, stream := r.stream, mean := mean, fails := r.fails,
                           time := tickNs d, temp := r.temp, n := 2 ^ r.n }
      let d := cs.foldl (fun d c => setRng d c (fun x => { x with locks := x.locks.erase 5 })) d
      let d := wrB d Reg.MEAS_STAT_CAL_BUSY false
      let bad := cs.any (fun c => decide (SMap.get 0 r.fails c ≠ 0))
      let d := if bad then wr (wrB d Reg.MEAS_STAT_CAL_ERR true) Reg.MEAS_STAT_CAL_CODE 6 else d
      if r.zero then wrB { d with meas := { d.meas with run := none, zero := some h } } Reg.MEAS_STAT_ZERO_HELD true
      else wrB { d with meas := { d.meas with run := none, full := some h } } Reg.MEAS_STAT_FULL_HELD true

/-- CAL_CAPTURE_DONE. -/
def execCalCaptureDone (s : State) : Host.Outcome State Fault Refusal := .next { s with d := captureDone s.d }

/-- Stage a calibration entry; on an ACTIVE device with the cycle's inputs (R115, R117). -/
def stageEntry (d : Dev) (c stream : Nat) (words : List Nat) : Dev :=
  let x := Staged.calEntry (entryOf c + 0x1E00 + 0x20 * stream) words
  if isActive d then { d with hostCyc := d.hostCyc ++ [x] } else { d with staged := d.staged ++ [x] }

/-- Round a quotient to the nearest integer, halves away from zero, whatever the divisor's sign. -/
def roundQ (a b : Int) : Int := if b < 0 then roundDiv (-a) (-b) else roundDiv a b

/-- COMPUTE for one channel: its new entry's gain and offset, or its code (R115). -/
def computeCh (d : Dev) (z f : CapHeld) (c : Nat) : Nat × Int × Int :=
  let zf := SMap.get 0 z.fails c
  let ff := SMap.get 0 f.fails c
  let mz := SMap.get 0 z.mean c
  let mf := SMap.get 0 f.mean c
  let rz := toS 24 (rd d Reg.MEAS_CAL_REFZ_REFZ)
  let rf := toS 24 (rd d Reg.MEAS_CAL_REFF_REFF)
  if zf ≠ 0 then (zf, 0, 0)
  else if ff ≠ 0 then (ff, 0, 0)
  else if (mf - mz).natAbs < 2 ^ 29 then (9, 0, 0)
  else
    let g := roundQ ((2 : Int) ^ 30 * (rf - rz) * 256) (mf - mz)
    if g < 0x20000000 ∨ 0x60000000 < g then (10, 0, 0)
    else (0, g, roundQ (mz * g - 256 * rz * (2 : Int) ^ 30) (256 * g))

/-- COMPUTE (R115). An offset outside 24 bits is a free value (log entry 21). -/
def calCompute (d : Dev) (req : Requester) : Dev :=
  match d.meas.zero, d.meas.full with
  | some z, some f =>
    if z.first ≠ f.first ∨ z.num ≠ f.num ∨ z.stream ≠ f.stream then calRefuse d req 8
    else
      let cs := setChans z.first z.num
      let (d, fails) := cs.foldl (fun (a : Dev × List (Nat × Nat)) c =>
        let (code, g, o) := computeCh a.1 z f c
        if code ≠ 0 then (a.1, a.2 ++ [(c, code)])
        else
          let fits := decide (-(2 : Int) ^ 23 ≤ o ∧ o < (2 : Int) ^ 23)
          let ow := if fits then ofS 24 o else freeVal a.1 % 2 ^ 24
          let d := if fits then a.1 else useFree a.1
          let (t, d) := openDiv d (SMap.get 0 z.temp c + SMap.get 0 f.temp c) (z.n + f.n : Nat)
          let time := max z.time f.time
          (stageEntry d c z.stream [g.toNat, ow, time % 2 ^ 32, time / 2 ^ 32 % 2 ^ 32, rd d Reg.MEAS_CAL_REFID_LO_ID,
            rd d Reg.MEAS_CAL_REFID_HI_ID, 1 + 2 ^ 16 * ofS 16 t, 0], a.2)) (d, ([] : List (Nat × Nat)))
      let d := wr d Reg.MEAS_STAT_CAL_FAILS fails.length
      let d := wrB d Reg.MEAS_STAT_CAL_DONE true
      match fails with
      | [] => wr d Reg.MEAS_STAT_CAL_CODE 0
      | (c, code) :: _ =>
        let d := wr (wr d Reg.MEAS_CAL_FAIL_CH_CH c) Reg.MEAS_CAL_FAIL_CH_CODE code
        wrB (wr d Reg.MEAS_STAT_CAL_CODE code) Reg.MEAS_STAT_CAL_ERR true
  | _, _ => calRefuse d req 8

/-- COMPUTE. -/
def execCompute (req : Requester) (w : Nat) (s : State) : Host.Outcome State Fault Refusal :=
  .next { s with d := calCtrl s.d req w 3 (fun d => calCompute d req) }

/-- ABORT: a running capture is abandoned. -/
def execAbort (req : Requester) (w : Nat) (s : State) : Host.Outcome State Fault Refusal :=
  .next { s with d := calCtrl s.d req w 4 calAbandon }

/-- SET_NOMINAL (R115). -/
def calNominal (d : Dev) : Dev :=
  let d := (setChans (rd d Reg.MEAS_CAL_CH_FIRST) (rd d Reg.MEAS_CAL_CH_NUM)).foldl
    (fun d c => stageEntry d c (rd d Reg.MEAS_CAL_CTRL_STREAM) [0x40000000, 0, 0, 0, 0, 0, 0, 0]) d
  wr (wrB d Reg.MEAS_STAT_CAL_DONE true) Reg.MEAS_STAT_CAL_CODE 0

/-- SET_NOMINAL. -/
def execSetNominal (req : Requester) (w : Nat) (s : State) : Host.Outcome State Fault Refusal :=
  .next { s with d := calCtrl s.d req w 5 calNominal }

/-- Commit a written word of a CAL segment (R116): the written entry becomes IMPORTED, reserved bits stay 0. -/
def commitCalWord (d : Dev) (off w : Nat) : Dev :=
  let o := off % 0x2000 - 0x1E00
  if o < 0xC0 then
    let b := off / 0x20 * 0x20
    let w := match off % 0x20 with
      | 4 => w % 2 ^ 24
      | 24 => w / 2 ^ 16 * 2 ^ 16
      | 28 => 0
      | _ => w
    ledWr (ledWr d off 4 w) (b + 24) 1 2
  else if o < 0xD0 then ledWr d off 4 w
  else if o = 0xD0 then ledWr d off 2 w
  else d

/-- Commit a calibration entry. -/
def commitCalEntry (d : Dev) (off : Nat) : List Nat → Dev
  | [] => d
  | w :: ws => commitCalEntry (ledWr d off 4 w) (off + 4) ws

/-- A write of a word of a CAL segment at an address of the entry view (R116). -/
def calSegWrite (d : Dev) (req : Requester) (addr w : Nat) : Dev :=
  let off := addr - 0x05000000
  let c := off / 0x2000
  let e := accessErr d req addr true
  if e ≠ 0 then notServed d req addr e true
  else if chanMode d c isMaint = false ∨ isStandby d then refuseW d req addr
  else
    let x := Staged.calWord off w
    okResp (if isActive d then { d with hostCyc := d.hostCyc ++ [x] } else { d with staged := d.staged ++ [x] })

/-- CAL_SEGMENT_WRITE. -/
def execCalSegmentWrite (req : Requester) (addr w : Nat) (s : State) : Host.Outcome State Fault Refusal :=
  .next { s with d := calSegWrite s.d req addr w }

/-- CONTACT_CHECK_PHASE. -/
def execContactCheckPhase (ch : Nat) (s : State) : Host.Outcome State Fault Refusal :=
  .next { s with d := contactPhase s.d ch }

end Sys2Proof.Machine
end

