-- ==== Sys2Proof/Machine/SeqLoad.lean ====
section
/-!
DEFINITION. Step program images (R162, R163, R165 to R167, R171 to R175, R190): the loader's checks, each with its code
and the byte offset it reports.
-/
namespace Sys2Proof.Machine

/-- A step word's fields. -/
def swByte (w : List Byte) (i : Nat) : Nat := (w.getD i 0).toNat
def swType (w : List Byte) : Nat := swByte w 0 / 16
def swMode (w : List Byte) : Nat := swByte w 0 % 16
def swGrade (w : List Byte) : Nat := swByte w 1
def swUseV (w : List Byte) : Bool := bit (swByte w 2) 0
def swContact (w : List Byte) : Bool := bit (swByte w 2) 1
def swA (w : List Byte) : Nat := leAt w 4 4
def swB (w : List Byte) : Nat := leAt w 8 4
def swTMax (w : List Byte) : Nat := leAt w 12 4
def swLim (w : List Byte) (i : Nat) : Nat := leAt w (16 + 4 * i) 4
def swKind (w : List Byte) (i : Nat) : Nat := swByte w (24 + i) % 16
def swOp (w : List Byte) (i : Nat) : Bool := bit (swByte w (24 + i)) 4
def swTMin (w : List Byte) : Nat := leAt w 26 2
def swAuxHi (w : List Byte) : Nat := leAt w 28 2
def swAuxLo (w : List Byte) : Nat := leAt w 30 2

/-- `NEXT_IDX` of a LOOP, `LOOP_IDX` of a NEXT, `TARGET` of a BRANCH. -/
def swNext (w : List Byte) : Nat := leAt w 8 2
def swLoop (w : List Byte) : Nat := leAt w 4 2
def swTarget (w : List Byte) : Nat := leAt w 2 2
def swBreak (w : List Byte) : Bool := bit (swByte w 1) 1

/-- The first offset from `a` to 31 at which a byte is not zero. -/
def firstNonZero (w : List Byte) (a : Nat) : Option Nat := (sel 32 (fun i => decide (a ≤ i) && swByte w i != 0)).head?

/-- A failed check: code and offset, where `p` does not hold. -/
def chk (p : Bool) (code off : Nat) : Option (Nat × Nat) := if p then none else some (code, off)

/-- The grading request of a RUN step (R190). -/
def gradeChk (w : List Byte) : Option (Nat × Nat) :=
  let k := swGrade w / 32
  let p := swGrade w % 32
  let m := swMode w
  let okMode := match k with
    | 2 => m == 1
    | 3 => decide (1 ≤ m ∧ m ≤ 6)
    | 4 => m == 6 || m == 9
    | 5 => m == 8
    | _ => true
  let okP := match k with
    | 0 => p == 0
    | 1 => p == 0
    | 6 => decide (p ≤ 1)
    | _ => true
  chk (k != 7) 5 1 <|> chk (okMode && okP && !((k == 3 || k == 4) && swContact w)) 6 1

/-- One termination of a RUN step (R167): limit at 16 + 4i, kind at 24 + i. -/
def termChk (w : List Byte) (i : Nat) : Option (Nat × Nat) :=
  let k := swKind w i
  let l := swLim w i
  chk (k != 0 || l == 0) 6 (16 + 4 * i) <|> chk (k != 4 || decide (l ≤ 128000000)) 6 (16 + 4 * i) <|>
  chk (k != 6 || decide (-32767 ≤ toS 32 l ∧ toS 32 l ≤ 32767)) 6 (16 + 4 * i)

/-- The kind byte of a termination. -/
def kindChk (w : List Byte) (i : Nat) : Option (Nat × Nat) :=
  chk (decide (swKind w i ≤ 7)) 5 (24 + i) <|> chk (decide (swByte w (24 + i) < 32)) 6 (24 + i) <|>
  chk (swKind w i != 0 || !swOp w i) 6 (24 + i)

/-- A RUN step (R166, R190). -/
def runChk (w : List Byte) : Option (Nat × Nat) :=
  let m := swMode w
  let noA := m == 0 || m == 6 || m == 9 || m == 10
  chk (decide (m ≤ 10)) 5 0 <|> gradeChk w <|>
  chk (decide (swByte w 2 < 4) && (!swContact w || m == 6) && (!swUseV w || m == 8)) 6 2 <|>
  chk (swByte w 3 == 0) 6 3 <|> chk (!noA || swA w == 0) 6 4 <|> chk (!(noA || m == 1) || swB w == 0) 6 8 <|>
  termChk w 0 <|> termChk w 1 <|> kindChk w 0 <|> kindChk w 1 <|>
  chk (if m == 7 then swAuxHi w != 0 else swAuxHi w == 0) 6 28 <|>
  chk (if m == 7 then swAuxLo w != 0 else swAuxLo w == 0) 6 30

/-- Bytes `a` to `b − 1` zero, reported at the first that is not. -/
def zeroChk (w : List Byte) (a b : Nat) : Option (Nat × Nat) :=
  match (sel 32 (fun i => decide (a ≤ i ∧ i < b) && swByte w i != 0)).head? with
  | some i => some (6, i)
  | none => none

/-- One step word against the field tables: code and offset within the word. -/
def stepChk (w : List Byte) : Option (Nat × Nat) :=
  let lo := swByte w 0 % 16
  match swType w with
  | 1 => runChk w
  | 2 => chk (lo == 0) 6 0 <|> zeroChk w 1 4 <|> chk (swB w % 2 ^ 16 < 1024) 6 8 <|> chk (leAt w 4 4 != 0) 6 4 <|> zeroChk w 10 32
  | 3 => chk (lo == 0) 6 0 <|> zeroChk w 1 4 <|> chk (decide (leAt w 4 2 < 1024)) 6 4 <|> zeroChk w 6 32
  | 4 =>
    chk (decide (lo ≤ 7)) 5 0 <|> chk (decide (swByte w 1 < 4) && (decide (2 ≤ lo) || !bit (swByte w 1) 0)) 6 1 <|>
    chk (decide (swTarget w < 1024) && (!swBreak w || swTarget w == 0)) 6 2 <|>
    chk ((lo != 0 || leAt w 4 4 == 0) && (lo != 1 || decide (leAt w 4 4 < 256))) 6 4 <|> zeroChk w 8 32
  | 5 =>
    chk (decide (lo ≤ 4)) 5 0 <|> chk (decide (lo ≤ 2) || decide (swByte w 1 ≤ 15)) 6 1 <|>
    chk (decide (swByte w 2 < 16) && swByte w 2 % 4 != 3) 6 2 <|> zeroChk w 3 4 <|> zeroChk w 8 32
  | 6 => chk (lo == 0) 6 0 <|> zeroChk w 2 32
  | _ => some (5, 0)

/-! ### Structure (R174) -/

/-- The LOOP–NEXT pairs that name each other. -/
def seqPairs (ss : List (List Byte)) : List (Nat × Nat) :=
  (sel ss.length (fun i => swType (ss.getD i []) == 2)).filterMap (fun i =>
    let n := swNext (ss.getD i [])
    if i < n ∧ n < ss.length ∧ swType (ss.getD n []) = 3 ∧ swLoop (ss.getD n []) = i then some (i, n) else none)

/-- The loops that enclose a step, outermost first; a NEXT lies in its loop's body, a LOOP does not (log entry 24). -/
def enclosing (ss : List (List Byte)) (i : Nat) : List (Nat × Nat) :=
  (seqPairs ss).filter (fun p => decide (p.1 < i ∧ i ≤ p.2))

/-- A step's loop body: the LOOP of the innermost pair that encloses it. -/
def bodyOf (ss : List (List Byte)) (i : Nat) : Option Nat := (enclosing ss i).getLast?.map (·.1)

/-- Where a control step can lead: its successors on some path. -/
def succs (ss : List (List Byte)) (i : Nat) : List Nat :=
  let w := ss.getD i []
  match swType w with
  | 2 => [i + 1]
  | 3 => [swLoop w + 1, i + 1]
  | 4 =>
    let t := if swBreak w then ((enclosing ss i).getLast?.map (fun p => p.2 + 1)).getD (i + 1) else swTarget w
    if swByte w 0 % 16 = 0 then [t] else [t, i + 1]
  | _ => []

/-- Whether some path from step `i` passes more than `n` control steps before a RUN, a BARRIER, an END or the end of the
program. -/
def chainOver (ss : List (List Byte)) : Nat → Nat → Bool
  | 0, i => [2, 3, 4].contains (swType (ss.getD i []))
  | n + 1, i => if [2, 3, 4].contains (swType (ss.getD i [])) then (succs ss i).any (chainOver ss n) else false

/-- The structural checks of one step: its code, none where it passes. -/
def structChk (ss : List (List Byte)) (i : Nat) : Option Nat :=
  let w := ss.getD i []
  let t := swType w
  let ps := seqPairs ss
  let paired := if t = 2 then ps.any (fun p => p.1 == i) else if t = 3 then ps.any (fun p => p.2 == i) else true
  let overlap := (t == 2) && ps.any (fun p => p.1 == i &&
    ps.any (fun q => decide (p.1 < q.1 ∧ q.1 < p.2 ∧ p.2 < q.2)))
  if !paired || overlap || decide (4 < (enclosing ss i).length) then some 8
  else if t = 4 ∧ !swBreak w ∧ (ss.length ≤ swTarget w ∨ bodyOf ss (swTarget w) ≠ bodyOf ss i) then some 7
  else if t = 4 ∧ swBreak w ∧ (bodyOf ss i).isNone then some 8
  else if (t = 1 ∨ t = 5) ∧ chainOver ss 12 (i + 1) then some 9
  else if [2, 3, 4].contains t ∧ (bodyOf ss i).isNone ∧ chainOver ss 12 i then some 9
  else none

/-- The step words of an image of `n` steps. -/
def stepWords (bs : List Byte) (n : Nat) : List (List Byte) := (List.range n).map (fun i => sub bs (32 + 32 * i) 32)

/-- The loader's checks of R163 in their order: code and byte offset of the first failure. -/
def progChk (bs : List Byte) (len : Nat) : Option (Nat × Nat) :=
  let n := leAt bs 6 2
  let ss := stepWords bs n
  chk (leAt bs 0 4 == 0x50455453) 1 0 <|> chk (leAt bs 4 2 == 1) 2 4 <|> chk (decide (1 ≤ n ∧ n ≤ 1024)) 3 6 <|>
  chk (len == 32 + 32 * n) 3 6 <|> chk (leAt bs 12 4 == crc32c (bs.drop 32)) 4 12 <|>
  (List.range n).findSome? (fun i => (stepChk (ss.getD i [])).map (fun e => (e.1, 32 + 32 * i + e.2))) <|>
  (List.range n).findSome? (fun i => (structChk ss i).map (fun e => (e, 32 + 32 * i)))

end Sys2Proof.Machine
end

