-- ==== Sys2Proof/Machine/Serac.lean ====
section
/-!
DEFINITION. Serac's verdict and the SERAC commands (chapter 11).
-/
namespace Sys2Proof.Machine

/-! ### The two planes' arithmetic (R252) -/

/-- ⌈a / b⌉ for b > 0. -/
def ceilDiv (a b : Int) : Int := -((-a).fdiv b)

/-- Plane A's "q > L" of a reading value at full scale `fs`. -/
def overA (value fs l : Int) : Bool := decide (l < (value * fs).fdiv ((2 : Int) ^ 23))

/-- Plane A's "q < L". -/
def underA (value fs l : Int) : Bool := decide ((value * fs).fdiv ((2 : Int) ^ 23) < l)

/-- Plane B's "q > L": the reading against the threshold ⌈(L + 1) × 2^23 / FS⌉ (R252). -/
def overB (value fs l : Int) : Bool := decide (ceilDiv ((l + 1) * (2 : Int) ^ 23) fs ≤ value)

/-- Plane B's "q < L": the reading against ⌈L × 2^23 / FS⌉. -/
def underB (value fs l : Int) : Bool := decide (value < ceilDiv (l * (2 : Int) ^ 23) fs)

/-! ### Slopes (R255) -/

/-- One tick of a slope window of `w` ticks: `x` is the evaluable quantity of the tick, `log` the window's exponent. -/
def slopeTick (s : SlopeWin) (k log : Nat) (x : Option Int) : SlopeWin :=
  let w := 20 * 2 ^ log
  let s := if k % w = 0 then { s with sum := 0, cnt := 0, ok := true } else s
  let s := match x with
    | some v => { s with sum := s.sum + v, cnt := s.cnt + 1 }
    | none => { s with ok := false }
  if k % w = w - 1 then
    if s.ok ∧ s.cnt = w then
      let m := s.sum.fdiv w
      { s with prev := some m, slope := s.prev.map (fun p => ((m - p) * 1000).tdiv (2 ^ log)), ok := false }
    else { s with prev := none, slope := none, ok := false }
  else s

/-! ### One plane's verdict on a channel (R253, R254) -/

/-- What a plane reads of a channel in a tick. -/
structure SerIn where
  k : Nat
  vw : Nat
  iw : Nat
  temp : Int
  stat : Nat
  disch : Bool
  vfs : Int
  ifs : Int
  t : SeracRec
deriving DecidableEq, Repr

/-- What a plane reads of a channel, with the template of its own copy. -/
def serIn (d : Dev) (planeB : Bool) (c : Nat) : SerIn :=
  let slot := ledBytes d (entryOf c + 0x038) 5
  { k := d.k, vw := vWord d c, iw := iWord d c, temp := hotTemp d c, stat := hotChStat d c,
    disch := byteAt slot 3 / 16 == 1 && decide (toS 24 (beAt slot 0 3) < 0),
    vfs := (vFs d c : Int), ifs := (iFs d c (rwRange (iWord d c)) : Int), t := templateIn d planeB c }

/-- A confirmed check (0 to 3 and 9): its count after the tick, given whether it was evaluated and held. -/
def confNext (n : Nat) (eval cond : Bool) : Nat := if !eval then n else if cond then min 15 (n + 1) else 0

/-- The evaluation of one plane: its working state after the tick and its fired-check bits. `planeB` chooses plane B's
thresholds for the limit checks. -/
def evalPlane (planeB : Bool) (i : SerIn) (p : PlaneCh) : PlaneCh × Nat :=
  let t := i.t
  let beyond := fun v fs l => if planeB then overB v fs l else overA v fs l
  let under := fun v fs l => if planeB then underB v fs l else underA v fs l
  let vv := rwValue i.vw
  let iv := rwValue i.iw
  let qv := (vv * i.vfs).fdiv ((2 : Int) ^ 23)
  let qi := (iv * i.ifs).fdiv ((2 : Int) ^ 23)
  let lost := rwLost i.vw || rwLost i.iw
  let vEval := rwValid i.vw
  let iEval := rwValid i.iw
  let vClip := rwClipped i.vw && !rwLost i.vw
  let iClip := rwClipped i.iw && !rwLost i.iw && !rwRanging i.iw
  let tOk := decide (i.temp ≠ noTemp) && !rwStale i.vw && !rwLost i.vw
  let ocOn := t.iChgMax != 0xFFFFFFFF
  let odOn := t.iDisMax != 0xFFFFFFFF
  -- net charge, stale count, slopes
  let sq := if lost then p.sq else satS 64 (p.sq + qi)
  let stale := if lost then p.stale else if rwStale i.vw || rwStale i.iw then min 255 (p.stale + 1)
    else if vEval && iEval then 0 else p.stale
  let dv := slopeTick p.dv i.k t.dvLog2 (if vEval then some qv else none)
  let dt := slopeTick p.dt i.k t.dtLog2 (if tOk then some i.temp else none)
  -- confirmed checks
  let c9on := p.rc.isSome && t.cdropMax != 0
  let n0 := confNext (p.conf.getD 0 0) vEval (beyond vv i.vfs t.vMax)
  let n1 := confNext (p.conf.getD 1 0) (vEval && t.uvMode != 0) (under vv i.vfs t.vMin && (t.uvMode == 1 || i.disch))
  let n2 := confNext (p.conf.getD 2 0) (iEval && ocOn) (beyond iv i.ifs t.iChgMax)
  let n3 := confNext (p.conf.getD 3 0) (iEval && odOn) (under iv i.ifs (-(t.iDisMax : Int)))
  let n9 := confNext (p.conf.getD 4 0) (iEval && c9on)
    (decide ((t.cdropMax : Int) < (qi.natAbs * p.rc.getD 0 / 1000000 : Nat)))
  let f0 := (vEval && decide (t.conf ≤ n0)) || (vClip && !vEval && decide (0 < vv))
  let f1 := vEval && t.uvMode != 0 && decide (t.conf ≤ n1)
  let f2 := (iEval && ocOn && decide (t.conf ≤ n2)) || (iClip && ocOn && decide (0 < iv))
  let f3 := (iEval && odOn && decide (t.conf ≤ n3)) || (iClip && odOn && decide (iv < 0))
  let f4 := tOk && t.tMax != 0x7FFF && decide (t.tMax < i.temp)
  let f5 := t.dvdtRise != 0 && (match dv.slope with | some x => decide ((t.dvdtRise : Int) < x) | none => false)
  let f6 := t.dvdtFall != 0 && (match dv.slope with | some x => decide (x < -(t.dvdtFall : Int)) | none => false)
  let f7 := tOk && t.dtdtMax != 0 && (match dt.slope with | some x => decide ((t.dtdtMax : Int) < x) | none => false)
  let f8 := (vEval && under vv i.vfs t.vRev) || (vClip && decide (vv < 0)) || ((vEval || vClip) && bit i.stat 5)
  let f9 := iEval && c9on && decide (t.conf ≤ n9)
  let f10 := t.qExp != 0 && decide ((t.qExp * t.qPct * 720000 : Nat) < sq)
  let f11 := decide (t.staleMax < stale)
  let f12 := t.tempReq && decide (i.temp = noTemp) && !rwStale i.vw && !rwLost i.vw
  let f13 := tOk && t.tFire != 0x7FFF && decide (t.tFire ≤ i.temp)
  let fired := [f0, f1, f2, f3, f4, f5, f6, f7, f8, f9, f10, f11, f12, f13].foldr (fun b w => b2n b + 2 * w) 0
  ({ p with conf := [n0, n1, n2, n3, n9], stale := stale, dv := dv, dt := dt, sq := sq }, fired)

/-- The most severe action among fired checks (R260): 0 TRIP to 3 BAY. -/
def worstAct (act fired : Nat) : Nat :=
  (List.range 14).foldl (fun m c => if bit fired c then max m (bits act (2 * c) 2) else m) 0

/-! ### The verdict (R264) -/

/-- What a verdict has gathered: channels to name in TRIP frames, quenched zones and the bay. -/
structure SerAcc where
  d : Dev
  newly : List Nat := []
  zq : List Nat := []
  bq : Bool := false
  zoneDis : List (Nat × Nat) := []     -- a zone with a disagreement in this tick, and the first channel that had one
  fire : Bool := false
deriving DecidableEq, Repr

/-- A channel trips, and is named in the port's express frame. -/
def accTrip (a : SerAcc) (c causes first : Nat) (by_ : Option (Nat × Nat) := none) : SerAcc :=
  if serState a.d c = ssArmed then { a with d := tripChannel a.d c causes first by_, newly := c :: a.newly } else a

/-- Serac's zone quench with a cause (R261). -/
def accZone (a : SerAcc) (z cause : Nat) (by_ : Option (Nat × Nat) := none) : SerAcc :=
  let a := { a with d := wrFBit a.d Reg.SERAC_QUENCH_ZQ z true, zq := z :: a.zq }
  (zoneChans a.d z).foldl (fun a c => { a with d := tripIfArmed a.d c cause by_ }) a

/-- Serac's bay quench. -/
def accBay (a : SerAcc) (cause : Nat) (by_ : Option (Nat × Nat) := none) : SerAcc :=
  let a := { a with d := wrB a.d Reg.SERAC_QUENCH_BQ true, bq := true }
  (allChans a.d).foldl (fun a c => { a with d := tripIfArmed a.d c cause by_ }) a

/-- Carry out the action of fired checks for a channel (R260). -/
def accAct (a : SerAcc) (c fired : Nat) : SerAcc :=
  let causes := serCause a.d c
  match worstAct (template a.d c).act fired with
  | 1 =>
    match groupOf a.d c with
    | some g =>
      let a := { a with d := raise a.d Src.SERAC_GROUP_TRIP 4 g.group causes c }
      (g.channels.filter (populated a.d)).foldl (fun a x => accTrip a x (2 ^ cGroup) cGroup (some (causes, c))) a
    | none => a
  | 2 =>
    match zoneOf a.d c with
    | some z => accZone { a with d := raise a.d Src.SERAC_ZONE_QUENCH 6 z causes c } z cZone (some (causes, c))
    | none => a
  | 3 => accBay { a with d := raise a.d Src.SERAC_BAY_QUENCH 0 0 causes c } cBay (some (causes, c))
  | _ => a

/-- The fire output of R270 for a channel whose fired checks have a fire bit. -/
def accFire (a : SerAcc) (c fired : Nat) : SerAcc :=
  if fired &&& (template a.d c).fireBits = 0 then a
  else
    let was := rdB a.d Reg.SERAC_STAT_FIRE
    let z := (zoneOf a.d c).getD 0
    let d := wrB a.d Reg.SERAC_STAT_FIRE true
    let d := wrB d Reg.SERAC_STAT_FIRE_EV true
    let d := wrFBit d Reg.SERAC_FIRE_ZONES_ZONES z true
    let d := if was then d else raise d Src.SERAC_FIRE 6 z (fired &&& (template a.d c).fireBits) c
    { a with d := d, fire := true }

/-- Record causes for a channel: an ARMED one trips, a TRIPPED one gains those not recorded (R264). -/
def accCause (a : SerAcc) (c causes first : Nat) : SerAcc :=
  if serState a.d c = ssTripped then
    let old := serCause a.d c
    let new := causes - (causes &&& old)
    if new = 0 then a
    else { a with d := logEvent (setSerCh a.d c (fun s => { s with cause := old ||| new })) c 0x82 0xFF 0xFFFF (natLE 4 new) }
  else accTrip a c causes first

/-- One channel's verdict. `flip` are the check bits in which hardware made the planes differ, `late` a plane whose
verdict was late (R266, R268), `inj` the plane of an injection on this channel (R269): check 0 fires in that plane, with what
R266 makes of it, but for the event and the escalation. -/
def verdictOf (a : SerAcc) (c flipA flipB : Nat) (lateA lateB : Bool) (inj : Option Nat) : SerAcc :=
  if serState a.d c = ssUnchecked then a
  else
    let i := serIn a.d false c
    let w := serCh a.d c
    let (pa, fa0) := evalPlane false i w.a
    let (pb, fb0) := evalPlane true (serIn a.d true c) w.b
    let fa1 := fa0 ^^^ flipA
    let fb1 := fb0 ^^^ flipB
    let fa := if inj = some 0 then fa1 ||| 1 else fa1
    let fb := if inj = some 1 then fb1 ||| 1 else fb1
    let a := { a with d := setSerCh a.d c (fun s => { s with a := pa, b := pb }) }
    let diff := fa ^^^ fb
    let fired := fa ||| fb
    let old := if serState a.d c = ssTripped then serCause a.d c else 0
    let newChecks := fired - (fired &&& old)
    -- injection: the comparator's finding
    let a := match inj with
      | some _ =>
        let d := if diff ≠ 0 then wrB a.d Reg.SERAC_STAT_INJ_PASS true else wrB a.d Reg.SERAC_STAT_INJ_FAIL true
        { a with d := d }
      | none => a
    let dis := decide (diff ≠ 0)
    let lost := rwLost i.vw || rwLost i.iw || pst a.d (portOf a.d c) != psActive
    let causes := fired + (if dis then 2 ^ cDisagree else 0) + (if lateA || lateB then 2 ^ cPlaneLate else 0) +
      (if lost then 2 ^ cLost else 0)
    -- a disagreement; an injected one raises no event and counts toward no escalation (R266, R269)
    let a := if dis then
        let d := wr a.d Reg.SERAC_DIS_LAST_CH c
        let d := wr d Reg.SERAC_DIS_LAST_DIFF diff
        let d := wrB d Reg.SERAC_STAT_DIS_EV true
        let d := logEvent d c 0x83 0xFF 0xFFFF (natLE 2 diff)
        if inj.isSome then { a with d := d }
        else
          let d := raise d Src.SERAC_DISAGREE 1 c diff 0
          { a with d := d, zoneDis := a.zoneDis ++ (zoneOf d c).toList.filterMap (fun z =>
              if a.zoneDis.any (fun x => x.1 == z) then none else some (z, c)) }
      else a
    let a := if lateA || lateB then
        { a with d := raise (wrB a.d Reg.SERAC_STAT_LATE_EV true) Src.SERAC_PLANE_LATE 0 0 (if lateA then 0 else 1) c }
      else a
    let armed := serState a.d c == ssArmed
    let a := if causes = 0 then a
      else if armed && decide (causes = 2 ^ cLost) then { a with d := tripChannel a.d c causes cLost }
      else if armed then accCause a c causes (lowBit causes)
      else accCause a c (causes - (if lost then 2 ^ cLost else 0)) 0
    let a := accFire a c fired
    accAct a c newChecks

/-- One channel's verdict; that of an injected tick raises no Moraine event (R269). -/
def verdictCh (a : SerAcc) (c flipA flipB : Nat) (lateA lateB : Bool) (inj : Option Nat) : SerAcc :=
  let b := verdictOf a c flipA flipB lateA lateB inj
  if inj.isSome then { b with d := { b.d with mor := { b.d.mor with raised := a.d.mor.raised } } } else b

/-- The HOT report of Tk + 8 µs, with plane A's values (R273). -/
def serReport (d : Dev) (c : Nat) : Dev :=
  let s := serCh d c
  if s.st = ssUnchecked then d
  else
    let p := s.a
    let void := 0x80000000
    let d := hotW (hotW d c 0x100 1 s.st) c 0x101 1 (templateNo d c)
    let d := hotW (hotW d c 0x104 4 s.cause) c 0x108 1 s.first
    let d := hotW (hotW d c 0x110 8 (s.tripK % 2 ^ 64)) c 0x128 8 (s.relK % 2 ^ 64)
    let d := hotWS d c 0x118 8 p.sq
    let d := hotW d c 0x120 4 (match p.dv.slope with | some x => ofS 32 (satS 32 x) | none => void)
    hotW d c 0x124 4 (match p.dt.slope with | some x => ofS 32 (satS 32 x) | none => void)

/-- The channels a command's set names (R271): a range, a group, a zone or the bay. -/
def cmdSet (d : Dev) (sel first num : Nat) : List Nat :=
  match sel with
  | 0 => (List.range num).map (first + ·)
  | 1 => ((groupRec d first).map (·.channels)).getD []
  | 2 => zoneChans d first
  | _ => allChans d

/-- The skip reason of RELEASE for a channel, 0 where it is released (R272). In a pair its port is ACTIVE at both devices, the
partner's as the last valid TICK frame says (R385). -/
def releaseReason (d : Dev) (c fired : Nat) : Nat :=
  let p := portOf d c
  if serState d c ≠ ssTripped then 0x30
  else if pst d p ≠ psActive ∨ ((isActive d ∨ isStandby d) ∧ ¬d.sch.peer.ports.contains p) ∨ bit (hotChStat d c) 8 then 0x31
  else if rdB d Reg.SERAC_QUENCH_BQ ||
      (match zoneOf d c with | some z => rdFBit d Reg.SERAC_QUENCH_ZQ z || zoneDemanded d z | none => false) then 0x32
  else if rwValid (vWord d c) = false then 0x33
  else if fired ≠ 0 then 0x34
  else 0

/-- Release a channel (R264, R272). -/
def releaseCh (d : Dev) (c : Nat) : Dev :=
  let d := logEvent d c 0x81 0xFF 0xFFFF (natLE 4 (serCause d c))
  let d := wrBit d Reg.SERAC_TRIP_SUM_CH c false
  setSerCh d c (fun s => { s with
    st := ssArmed, cause := 0, relK := d.k, a := { s.a with conf := [0, 0, 0, 0, 0] }, b := { s.b with conf := [0, 0, 0, 0, 0] }, sent := false })

/-- Count a skipped channel of a command and keep the first (R271). -/
def seracSkip (d : Dev) (c reason : Nat) : Dev :=
  let d := if rd d Reg.SERAC_SKIP_CNT = 0 then wr (wr d Reg.SERAC_CMD_ERR_CH c) Reg.SERAC_CMD_ERR_REASON reason else d
  let d := wr d Reg.SERAC_SKIP_CNT (rd d Reg.SERAC_SKIP_CNT + 1)
  wrB d Reg.SERAC_STAT_CMD_SKIP true

/-- A RELEASE at Tk + 8 µs (R271, R272); `fired` gives a channel's fired checks of this tick. -/
def seracRelease (d : Dev) (m : SerCmd) (fired : Nat → Nat) : Dev :=
  let d := wr d Reg.SERAC_SKIP_CNT 0
  let d := if m.sel = 2 then wrFBit d Reg.SERAC_QUENCH_ZQ m.first false
    else if m.sel = 3 then wrB (wr d Reg.SERAC_QUENCH_ZQ 0) Reg.SERAC_QUENCH_BQ false else d
  (cmdSet d m.sel m.first m.num).foldl (fun d c =>
    let r := releaseReason d c (fired c)
    if r = 0 then releaseCh d c else seracSkip d c r) d

/-- Disagreement ticks of the zones and their escalation (R267): the zone quench is Serac's, and raises its event (R275). -/
def disEscalate (a : SerAcc) : SerAcc :=
  let d := if a.zoneDis = [] then a.d else incSat a.d Reg.SERAC_DIS_CNT_TICKS 1
  let w := rd d Reg.SERAC_DIS_CFG_DIS_W
  let n := rd d Reg.SERAC_DIS_CFG_DIS_N
  (List.range 16).foldl (fun a z =>
    let old := (SMap.get [] a.d.ser.disHist z).filter (fun t => decide (a.d.k < t + w))
    let by_ := (a.zoneDis.find? (fun x => x.1 == z)).map (fun x => (serCause a.d x.2, x.2))
    let h := if by_.isSome then a.d.k :: old else old
    if by_.isSome ∧ n ≤ h.length then
      let d := { a.d with ser := { a.d.ser with disHist := SMap.set [] a.d.ser.disHist z [] } }
      let d := wr d (Reg.SERAC_ZONE_DIS_CNT z) 0
      let d := incSat d Reg.SERAC_DIS_CNT_ESC 1
      let d := wrB d Reg.SERAC_STAT_ESC_EV true
      let d := raise d Src.SERAC_DIS_ESC 6 z h.length w
      let (w, x) := by_.getD (0, 0)
      accZone { a with d := raise d Src.SERAC_ZONE_QUENCH 6 z w x } z cDisagree by_
    else
      let d := { a.d with ser := { a.d.ser with disHist := SMap.set [] a.d.ser.disHist z h } }
      { a with d := wr d (Reg.SERAC_ZONE_DIS_CNT z) (min 255 h.length) }) { a with d := d }

/-- The fired checks of both planes for a channel, as its planes see it now. -/
def firedNow (d : Dev) (c : Nat) : Nat :=
  (evalPlane false (serIn d false c) (serCh d c).a).2 ||| (evalPlane true (serIn d true c) (serCh d c).b).2

/-- The verdict of Tk + 8 µs (R264). `flips` are (channel, plane, check bits) in which hardware made a plane differ,
`late` the (plane, channel) verdicts not complete in time, `parity` the (plane, template) copies with a parity error. -/
def seracVerdict (d : Dev) (flips : List (Nat × Nat × Nat)) (late parity : List (Nat × Nat)) : Dev :=
  if d.phase ≠ 2 then d
  else
    let d := parity.foldl (fun d x => raise d Src.SERAC_CFG_PARITY 0 0 x.1 x.2) d
    let chans := allChans d
    let fired := chans.map (fun c =>
      let m := fun pl => (flips.filter (fun f => f.1 == c && f.2.1 == pl)).foldl (fun m f => m ^^^ f.2.2) 0
      (c, ((evalPlane false (serIn d false c) (serCh d c).a).2 ^^^ m 0) |||
        ((evalPlane true (serIn d true c) (serCh d c).b).2 ^^^ m 1)))
    let cmds := d.ser.cmds
    let zo := d.ser.zoneOrd
    let bo := d.ser.bayOrd
    let inj := d.ser.inj
    let d := { d with ser := { d.ser with cmds := [], zoneOrd := [], bayOrd := none, inj := none } }
    -- quenches ordered since the last verdict
    let d := zo.foldl (fun d o => (zoneChans d o.1).foldl (fun d c => tripIfArmed d c o.2) d) d
    let d := match bo with
      | some cause => (allChans d).foldl (fun d c => tripIfArmed d c cause) d
      | none => d
    let d := chans.foldl latchTrip d
    -- the checks
    let a : SerAcc := chans.foldl (fun a c =>
      let m := fun pl => (flips.filter (fun f => f.1 == c && f.2.1 == pl)).foldl (fun m f => m ^^^ f.2.2) 0
      verdictCh a c (m 0) (m 1) (late.contains (0, c)) (late.contains (1, c))
        (match inj with | some (ic, pl) => if ic = c then some pl else none | none => none)) { d := d }
    let a := disEscalate a
    -- commands
    let a := cmds.foldl (fun a m =>
      if m.cmd = 2 then
        (cmdSet a.d m.sel m.first m.num).foldl (fun a c => accTrip a c (2 ^ cHost) cHost)
          { a with d := wr a.d Reg.SERAC_SKIP_CNT 0 }
      else { a with d := seracRelease a.d m (fun c => ((fired.find? (fun x => x.1 == c)).map (·.2)).getD 0) }) a
    let d := chans.foldl serReport a.d
    let d := { d with ser := { d.ser with fireLast := a.fire } }
    -- express frames (R260, R261, R90)
    let qz := a.zq.flatMap (fun z => zonePorts d z)
    let q := activePorts d (if a.bq then mappedPorts d else qz)
    let trips := a.newly.map (fun c => (portOf d c, 2 ^ idxOf d c))
    let d := sendExpressAll d q (trips.filter (fun t => pst d t.1 == psActive))
    let d := markSent d a.newly
    let d := markSent d (if a.bq then allChans d else a.zq.flatMap (fun z => zoneChans d z))
    { d with phase := 3 }

/-- SERAC_VERDICT. -/
def execSeracVerdict (flips : List (Nat × Nat × Nat)) (late parity : List (Nat × Nat)) (s : State) :
    Host.Outcome State Fault Refusal :=
  .next { s with d := seracVerdict s.d flips late parity }

/-! ### Commands (R269 to R272) -/

/-- Whether a command's set is refused as a whole (R271). -/
def seracSetBad (d : Dev) (sel : Nat) : Bool :=
  let f := rd d Reg.SERAC_CMD_SET_FIRST
  let n := rd d Reg.SERAC_CMD_SET_NUM
  (sel == 0 && decide (4096 < f + n)) || (sel == 1 && decide (255 < f)) || (sel == 2 && decide (15 < f))

/-- A write of `SERAC_CMD` (R271). -/
def seracCmdWrite (d : Dev) (req : Requester) (w cmd : Nat) : Dev :=
  let addr := 0x10080008
  regAccess d req addr w (fun d =>
    let sel := bits w 4 2
    if isStandby d || seracSetBad d sel then refuseW d req addr
    else
      let d := writeFields d req addr w
      let d := wrB d Reg.SERAC_STAT_CMD_PEND true
      stage d req (.serac cmd sel (rd d Reg.SERAC_CMD_SET_FIRST) (rd d Reg.SERAC_CMD_SET_NUM)))

/-- SERAC_RELEASE. -/
def execSeracRelease (req : Requester) (w : Nat) (s : State) : Host.Outcome State Fault Refusal :=
  .next { s with d := seracCmdWrite s.d req w 1 }

/-- SERAC_TRIP_CMD. -/
def execSeracTripCmd (req : Requester) (w : Nat) (s : State) : Host.Outcome State Fault Refusal :=
  .next { s with d := seracCmdWrite s.d req w 2 }

/-- QCLR. -/
def execQclr (req : Requester) (w : Nat) (s : State) : Host.Outcome State Fault Refusal :=
  .next { s with d := seracCmdWrite s.d req w 3 }

/-- Set a channel's net charge count to zero, at its START and by QCLR (R256); an unchecked channel has none. -/
def seracStart (d : Dev) (c : Nat) : Dev :=
  if serState d c = ssUnchecked then d
  else setSerCh d c (fun s => { s with a := { s.a with sq := 0 }, b := { s.b with sq := 0 } })

/-- A committed SERAC command (R256, R271): QCLR acts at the commit point, the others at Tk + 8 µs. -/
def seracCommit (d : Dev) (cmd sel first num : Nat) : Dev :=
  let d := wrB d Reg.SERAC_STAT_CMD_PEND false
  if cmd = 3 then
    (cmdSet d sel first num).foldl seracStart (wr d Reg.SERAC_SKIP_CNT 0)
  else { d with ser := { d.ser with cmds := d.ser.cmds ++ [⟨cmd, sel, first, num⟩] } }

/-- FIRE_CLR of R270 and R271; on an ACTIVE device it travels to STANDBY as an input (R276). -/
def fireClr (d : Dev) (req : Requester) (w : Nat) : Dev :=
  let addr := 0x10080000
  regAccess d req addr w (fun d =>
    let ok := (sel 16 (rdFBit d Reg.SERAC_FIRE_ZONES_ZONES)).all (fun z => isMaint (zmode d z)) && !d.ser.fireLast &&
      (!isStandby d || d.apply)
    if ok && forwards d req && !d.apply then okResp (stage d req (.regWrite req addr 1))
    else if ok then
      let d := wrB d Reg.SERAC_STAT_FIRE false
      okResp (wr d Reg.SERAC_FIRE_ZONES_ZONES 0)
    else refuseW d req addr)

/-- FIRE_CLR. -/
def execFireClr (req : Requester) (w : Nat) (s : State) : Host.Outcome State Fault Refusal :=
  .next { s with d := fireClr s.d req w }

/-- INJ_GO of R269: refused unless the channel's zone is in SELFTEST. -/
def injGo (d : Dev) (req : Requester) (w : Nat) : Dev :=
  let addr := 0x10080000
  regAccess d req addr w (fun d =>
    let c := rd d Reg.SERAC_INJ_CH
    if chanMode d c (· == modeSelftest) then
      okResp { d with ser := { d.ser with inj := some (c, rd d Reg.SERAC_INJ_PLANE) } }
    else refuseW d req addr)

/-- INJ_GO. -/
def execInjGo (req : Requester) (w : Nat) (s : State) : Host.Outcome State Fault Refusal :=
  .next { s with d := injGo s.d req w }

end Sys2Proof.Machine
end

