-- ==== Sys2Proof/Machine/Seq.lean ====
section
/-!
DEFINITION. Step programs (chapter 07): the step working set, the steps, the step kernel 0x01, barriers, and the commands
of the SEQ block.
-/
namespace Sys2Proof.Machine

/-! ### The working set (R183) -/

def sqState (d : Dev) (c : Nat) : Nat := hot d c 0x140 1 % 16
def sqPause (d : Dev) (c : Nat) : Nat := hot d c 0x140 1 / 16
def sqSlot (d : Dev) (c : Nat) : Nat := hot d c 0x141 1 % 64
def sqStep (d : Dev) (c : Nat) : Nat := hot d c 0x142 2 % 1024
def sqDepth (d : Dev) (c : Nat) : Nat := bits (hot d c 0x142 2) 10 3

def sqIDLE : Nat := 0
def sqRUNNING : Nat := 1
def sqWAITING : Nat := 2
def sqPAUSED : Nat := 3
def sqENDED : Nat := 4
def sqABORTED : Nat := 5

/-- What the SEQ block keeps of a channel. -/
def seqCh (d : Dev) (c : Nat) : SeqCh := SMap.get {} d.seq.ch c
def setSeqCh (d : Dev) (c : Nat) (f : SeqCh → SeqCh) : Dev := { d with seq := { d.seq with ch := SMap.mod {} d.seq.ch c f } }

/-- Count a channel in or out of its slot's `USERS` (R186). -/
def countUser (d : Dev) (c : Nat) (up : Bool) : Dev :=
  if seqActive d c then
    let f := Reg.SEQ_SLOT_INFO_USERS (sqSlot d c)
    wr d f (if up then rd d f + 1 else rd d f - 1)
  else d

/-- Set a channel's program state and pause causes. -/
def setSq (d : Dev) (c st pause : Nat) : Dev :=
  let d := countUser d c false
  countUser (hotW d c 0x140 1 (st % 16 + 16 * (pause % 16))) c true

/-- Set a channel's step and loop depth. -/
def setStep (d : Dev) (c step : Nat) : Dev := hotW d c 0x142 2 (step % 1024 + 1024 * (hot d c 0x142 2 / 1024))
def setDepth (d : Dev) (c n : Nat) : Dev :=
  let v := hot d c 0x142 2
  hotW d c 0x142 2 (v % 1024 + 1024 * (n % 8) + 8192 * (v / 8192))

/-- A program, a channel's program, and the step word a channel stands at. -/
def progAt (d : Dev) (slot : Nat) : Prog := SMap.get {} d.seq.progs slot
def progOf (d : Dev) (c : Nat) : Prog := progAt d (sqSlot d c)
def stepOf (d : Dev) (c : Nat) : List Byte := (progOf d c).steps.getD (sqStep d c) []

/-- Loop stack entry `i`: passes left and the LOOP's index. -/
def loopRem (d : Dev) (c i : Nat) : Nat := hot d c (0x178 + 8 * i) 4
def loopIdx (d : Dev) (c i : Nat) : Nat := hot d c (0x17C + 8 * i) 2 % 1024
def setLoop (d : Dev) (c i rem idx : Nat) : Dev := hotW d c (0x178 + 8 * i) 8 (rem % 2 ^ 32 + 2 ^ 32 * (idx % 1024))

/-- The CTRL segment of a channel (R184). -/
def ctrlOff (c : Nat) : Nat := entryOf c + segOff 1

/-- A step program event, with the position in force (R185). -/
def logSeq (d : Dev) (c typ : Nat) (data : List Byte) : Dev := logEvent d c typ (sqSlot d c) (sqStep d c) data

/-- The latest VALID voltage reading in µV, since the channel's port became ACTIVE. -/
def vLastU (d : Dev) (c : Nat) : Option Int := (seqCh d c).vLast.map (uVof d c)

/-- A quantity as its 32-bit field holds it; one that does not fit is a value the spec does not state. -/
def fit32 (d : Dev) (x : Nat) : Nat × Dev := if x < 2 ^ 32 then (x, d) else (freeVal d % 2 ^ 32, useFree d)

/-! ### Barriers (R175, R176) -/

def barrier (d : Dev) (key : Nat) : Barrier := SMap.get {} d.seq.bars key
def setBarrier (d : Dev) (key : Nat) (f : Barrier → Barrier) : Dev :=
  { d with seq := { d.seq with bars := SMap.mod {} d.seq.bars key f } }

/-- The scope unit of a channel: its group, its zone, or the device. -/
def scopeUnit (d : Dev) (c scope : Nat) : Nat :=
  match scope with
  | 0 => ((groupOf d c).map (·.group)).getD 0
  | 1 => (zoneOf d c).getD 0
  | _ => 0

def barKey (scope unit id : Nat) : Nat := scope * 2 ^ 24 + unit * 2 ^ 8 + id

/-- The barrier a BARRIER step of a channel names. -/
def barKeyOf (d : Dev) (c : Nat) (w : List Byte) : Nat := barKey (swByte w 0 % 16) (scopeUnit d c (swByte w 0 % 16)) (swByte w 1)

/-- Whether a channel is a member of a barrier. -/
def barMember (d : Dev) (key c : Nat) : Bool :=
  let scope := key / 2 ^ 24
  seqActive d c && scopeUnit d c scope == key / 2 ^ 8 % 2 ^ 16 &&
  (progOf d c).steps.any (fun w => swType w == 5 && swByte w 0 % 16 == scope && swByte w 1 == key % 2 ^ 8)

/-- The members of a barrier. -/
def barMembers (d : Dev) (key : Nat) : List Nat := (allChans d).filter (barMember d key)

/-- A channel no longer waits at its barrier. It has reached the barrier in the current generation, and stays among the
arrivals until a release, the end of its program or the withdrawal of R178 takes it out (R176). -/
def passBarrier (d : Dev) (c : Nat) : Dev :=
  match (seqCh d c).bar with
  | none => d
  | some key =>
    let d := setBarrier d key (fun b => { b with released := b.released.erase c })
    setSeqCh d c (fun s => { s with bar := none })

/-- A channel's program has ended, aborted or starts anew: it is no arrival of any barrier. -/
def unarrive (d : Dev) (c : Nat) : Dev :=
  let d := passBarrier d c
  ((d.seq.bars.filter (fun e => e.2.arrived.contains c)).map (·.1)).foldl (fun d key =>
    setBarrier d key (fun b => { b with arrived := b.arrived.erase c })) d

/-! ### Ending and aborting (R173, R179) -/

/-- Write the program end tick of CTRL, and keep the one it replaces for the rollback of R168. -/
def setEnd (d : Dev) (c : Nat) : Dev :=
  let a := ctrlOff c + 0x88
  let old := ledRd d a 8
  setSeqCh (ledWr d a 8 (d.k % 2 ^ 64)) c (fun s => { s with endWas := some (d.k, old) })

/-- The program ends with a result code (R173). -/
def endProgram (d : Dev) (c result : Nat) : Dev :=
  let d := unarrive (setDepth d c 0) c
  let d := setSq d c sqENDED 0
  let d := setEnd (hotW d c 0x176 1 result) c
  let d := logSeq d c 0x03 [BitVec.ofNat 8 result]
  setSeqCh (takeOff d c) c (fun s => { s with walk := false })

/-- The program aborts: 1 HOST, 2 TRIP, 3 BARRIER (R179, R193, R121). -/
def abortProgram (d : Dev) (c cause : Nat) : Dev :=
  let d := hotW (unarrive d c) c 0x174 1 cause
  let d := logSeq d c 0x04 [BitVec.ofNat 8 cause]
  let d := setEnd (setSq d c sqABORTED 0) c
  let d := contactAbort (gradeEnd d c gABORTED) c
  setSeqCh (takeOff d c) c (fun s => { s with walk := false })

/-- Continue at a step; past the last step the program ends with `RESULT` 0 (R170). -/
def goStep (d : Dev) (c i : Nat) : Dev :=
  if i < (progOf d c).steps.length then setSeqCh (setStep d c i) c (fun s => { s with walk := true })
  else endProgram d c 0

/-! ### The steps -/

/-- The demand of a RUN step (R166), as the eight words of R143. -/
def runDemand (w : List Byte) : List Nat :=
  let m := swMode w
  let a := swA w
  let b := swB w
  let z : List Nat := [m, 0, 0, 0, 0, 0, 0, 0]
  match m with
  | 1 => z.set 1 a
  | 2 => (z.set 2 a).set 5 b
  | 3 => (z.set 1 a).set 2 b
  | 4 => (z.set 3 a).set 5 b
  | 5 => (z.set 4 a).set 5 b
  | 7 => ((z.set 1 a).set 6 b).set 7 (swAuxHi w + 2 ^ 16 * swAuxLo w)
  | 8 => ((z.set 0 (8 + 256 * b2n (swUseV w))).set 2 a).set 5 b
  | _ => z

/-- Write a RUN step's demand. -/
def writeDemand (d : Dev) (c : Nat) (w : List Byte) : Dev :=
  setSeqCh (takeDemand d c (runDemand w) false) c (fun s => { s with keep := runDemand w })

/-- Zero the termination counts, and empty the store of cycle means. -/
def clearTerms (d : Dev) (c : Nat) : Dev :=
  let d := hotW d c 0x145 1 0
  let d := hotW (hotW d c 0x1B8 4 0) c 0x1BC 1 (hot d c 0x1BC 1 / 32 * 32)
  hotW d c 0x1BD 1 0

/-- A RUN step starts (R166, R167, R190). -/
def stepRun (d : Dev) (c : Nat) : Dev :=
  let w := stepOf d c
  let d := setSq d c sqRUNNING 0
  let d := hotW (clearTerms d c) c 0x146 2 0
  let d := hotW (hotW d c 0x148 4 0) c 0x150 16 0
  let d := hotW d c 0x160 4 (match vLastU d c with | some v => ofS 32 v | none => 0x80000000)
  let d := setSeqCh d c (fun s => { s with walk := false, startK := some d.k, noSensor := false, bar := none })
  let d := writeDemand d c w
  let d := setRegCh d c (fun r => { r with ctReq := swContact w })
  gradeRequest d c (swGrade w)

/-- A LOOP step pushes an entry (R171). -/
def stepLoop (d : Dev) (c : Nat) : Dev :=
  let n := sqDepth d c
  goStep (setDepth (setLoop d c n (swA (stepOf d c)) (sqStep d c)) c (n + 1)) c (sqStep d c + 1)

/-- A NEXT step repeats or pops the innermost loop (R171). -/
def stepNext (d : Dev) (c : Nat) : Dev :=
  let n := sqDepth d c - 1
  if 1 < loopRem d c n then goStep (setLoop d c n (loopRem d c n - 1) (loopIdx d c n)) c (loopIdx d c n + 1)
  else goStep (setDepth d c n) c (sqStep d c + 1)

/-- Whether a BRANCH's test is true (R172). -/
def branchTest (d : Dev) (c : Nat) (w : List Byte) : Bool :=
  let v := swA w
  let le := bit (swByte w 1) 0
  let cmp := fun (x : Nat) => if le then decide (x ≤ v) else decide (v ≤ x)
  match swMode w with
  | 0 => true
  | 1 => hot d c 0x144 1 &&& v % 256 != 0
  | 2 => cmp (hot d c 0x168 4)
  | 3 => cmp (hot d c 0x16C 4)
  | 4 => if le then decide (hotS d c 0x164 4 ≤ toS 32 v) else decide (toS 32 v ≤ hotS d c 0x164 4)
  | 5 => cmp (hot d c 0x170 4)
  | 6 => cmp (ledRd d (entryOf c + 0x1EC0 + 15) 1)
  | _ => cmp (hot d c 0x1EC 1)

/-- A BRANCH step (R172). -/
def stepBranch (d : Dev) (c : Nat) : Dev :=
  let w := stepOf d c
  if !branchTest d c w then goStep d c (sqStep d c + 1)
  else if swBreak w then
    let n := sqDepth d c - 1
    let next := swNext ((progOf d c).steps.getD (loopIdx d c n) [])
    goStep (setDepth d c n) c (next + 1)
  else goStep d c (swTarget w)

/-- A waiting channel leaves its barrier and continues after it. -/
def leaveBarrier (d : Dev) (c hit : Nat) : Dev :=
  let d := hotW (passBarrier d c) c 0x144 1 hit
  goStep (setSeqCh d c (fun s => { s with startK := some d.k })) c (sqStep d c + 1)

/-- The timeout action of a waiting channel's BARRIER step (R178). RELEASE at a SEGMENT or LINE barrier withdraws the device's
arrival: those of the members that leave. -/
def barrierAct (d : Dev) (c : Nat) (w : List Byte) : Dev :=
  match swByte w 2 / 4 % 4 with
  | 0 => leaveBarrier d c 0x20
  | 1 =>
    let key := (seqCh d c).bar.getD 0
    let out := fun (d : Dev) (x : Nat) => if 3 ≤ key / 2 ^ 24 then
      setBarrier d key (fun b => { b with arrived := b.arrived.erase x }) else d
    (barMembers d key).foldl (fun d x =>
      if sqState d x = sqWAITING ∧ (seqCh d x).bar = some key then leaveBarrier (out d x) x 0x20 else d) d
  | 2 => abortProgram d c 3
  | _ => d

/-- A BARRIER step (R175): the channel arrives and waits; a SEGMENT or LINE barrier that expects nobody takes its timeout
action at once (R177). -/
def stepBarrier (d : Dev) (c : Nat) : Dev :=
  let w := stepOf d c
  let key := barKeyOf d c w
  let d := setSq d c sqWAITING 0
  let d := hotW (hotW d c 0x14C 4 0) c 0x175 1 ((barrier d key).gen % 256)
  let d := setBarrier d key (fun b => { b with arrived := c :: b.arrived.erase c })
  let d := setSeqCh d c (fun s => { s with walk := false, bar := some key, startK := some d.k, toDone := false })
  let d := match swByte w 2 % 4 with
    | 0 => takeDemand d c [6, 0, 0, 0, 0, 0, 0, 0] false
    | 2 => takeDemand d c [9, 0, 0, 0, 0, 0, 0, 0] false
    | _ => d
  if 3 ≤ swByte w 0 % 16 ∧ rd d (Reg.SEQ_LBAR_EXPECT (swByte w 1 % 16)) = 0 then barrierAct d c w else d

/-- Execute the step a channel stands at. -/
def doStep (d : Dev) (c : Nat) : Dev :=
  match swType (stepOf d c) with
  | 1 => stepRun d c
  | 2 => stepLoop d c
  | 3 => stepNext d c
  | 4 => stepBranch d c
  | 5 => stepBarrier d c
  | 6 => endProgram d c (swByte (stepOf d c) 1)
  | _ => setSeqCh d c (fun s => { s with walk := false })

/-- Execute control steps until a RUN, a BARRIER or an END (R170); R174 bounds a chain by 12. -/
def seqSettle (d : Dev) (c : Nat) : Dev :=
  (List.range 64).foldl (fun d _ => if (seqCh d c).walk then doStep d c else d) d

/-- A row of one step type: it executes the step a channel has still to execute, where it is of that type. -/
def stepRow (d : Dev) (c t : Nat) (f : Dev → Nat → Dev) : Dev :=
  if (seqCh d c).walk && swType (stepOf d c) == t then f d c else d

/-- STEP_RUN. -/
def execStepRun (ch : Nat) (s : State) : Host.Outcome State Fault Refusal := .next { s with d := stepRow s.d ch 1 stepRun }

/-- STEP_LOOP. -/
def execStepLoop (ch : Nat) (s : State) : Host.Outcome State Fault Refusal := .next { s with d := stepRow s.d ch 2 stepLoop }

/-- STEP_NEXT. -/
def execStepNext (ch : Nat) (s : State) : Host.Outcome State Fault Refusal := .next { s with d := stepRow s.d ch 3 stepNext }

/-- STEP_BRANCH. -/
def execStepBranch (ch : Nat) (s : State) : Host.Outcome State Fault Refusal :=
  .next { s with d := stepRow s.d ch 4 stepBranch }

/-- STEP_BARRIER. -/
def execStepBarrier (ch : Nat) (s : State) : Host.Outcome State Fault Refusal :=
  .next { s with d := stepRow s.d ch 5 stepBarrier }

/-- STEP_END. -/
def execStepEnd (ch : Nat) (s : State) : Host.Outcome State Fault Refusal :=
  .next { s with d := stepRow s.d ch 6 (fun d c => endProgram d c (swByte (stepOf d c) 1)) }

/-! ### The step kernel (R167 to R170) -/

/-- A RUN step ends with the given `LAST_HIT`; the walk to the next step begins (R170). -/
def endStep (d : Dev) (c hit : Nat) : Dev :=
  let t := hot d c 0x148 4
  let d := hotW (hotW d c 0x144 1 hit) c 0x170 4 t
  let (q, d) := fit32 d ((hotS d c 0x150 8).natAbs / 72000000)
  let (e, d) := fit32 d ((hotS d c 0x158 8).natAbs / 72000000000)
  let d := hotW (hotW d c 0x168 4 q) c 0x16C 4 e
  let lv := (regCh d c).lastV.map (uVof d c)
  let d := match lv with
    | some v => hotWS d c 0x164 4 v
    | none => useFree (hotW d c 0x164 4 (freeVal d % 2 ^ 32))
  let d := logSeq d c 0x02 (natLE 4 hit ++ natLE 4 t ++ natLE 4 q ++ natLE 4 (hot d c 0x164 4))
  let d := contactAbort (gradeEnd d c gSHORT) c
  goStep (setSeqCh d c (fun s => { s with startK := some d.k })) c (sqStep d c + 1)

/-- Close a cycle's mean (R167). -/
def closeMean (d : Dev) (c : Nat) : Dev :=
  let n := hot d c 0x1BC 1 % 32
  let fill := hot d c 0x1BD 1 % 16
  let idx := hot d c 0x1BC 1 / 32
  if n = 0 then hotW d c 0x1BD 1 0
  else
    let i := if fill = 0 then idx else (idx + 1) % 8
    let d := hotWS d c (0x198 + 4 * i) 4 (qdiv (hotS d c 0x1B8 4) n)
    let d := hotW (hotW d c 0x1B8 4 0) c 0x1BC 1 (32 * i)
    hotW d c 0x1BD 1 (min 8 (fill + 1))

/-- Step 4 of R168: the step's time, charge, energy and cycle mean. -/
def stepCount (d : Dev) (c : Nat) : Dev :=
  let (iu, pu) := stepInc d c
  let d := hotW d c 0x148 4 (satAdd 32 (hot d c 0x148 4) 1)
  let d := hotWS d c 0x150 8 (satS 64 (hotS d c 0x150 8 + iu))
  let d := hotWS d c 0x158 8 (satS 64 (hotS d c 0x158 8 + pu))
  let d := hotW d c 0x146 2 (hot d c 0x146 2 - 1)
  let d := if d.k % 20 = 0 then closeMean d c else d
  if rwValid (vWord d c) then
    let d := hotWS d c 0x1B8 4 (hotS d c 0x1B8 4 + uVof d c (rwValue (vWord d c)))
    hotW d c 0x1BC 1 (hot d c 0x1BC 1 + 1)
  else d

/-- A termination's quantity and limit in common units, in a tick in which it is evaluated. -/
def termQty (d : Dev) (c g kind lim : Nat) : Option (Int × Int) :=
  let vw := vWord d c
  let v := uVof d c (rwValue vw)
  match kind with
  | 1 => if rwValid vw then some (v, toS 32 lim) else none
  | 2 => if rwValid (iWord d c) then some (((uAof d c (iWord d c)).natAbs : Int), (lim : Int)) else none
  | 3 => some (((hotS d c 0x150 8).natAbs : Int), (lim : Int) * 72000000)
  | 4 => some (((hotS d c 0x158 8).natAbs : Int), (lim : Int) * 72000000000)
  | 5 =>
    let wd := rd d (Reg.SEQ_CFG_DVDT_W g)
    let idx := hot d c 0x1BC 1 / 32
    if d.k % 20 = 0 ∧ wd < hot d c 0x1BD 1 % 16 then
      some ((hotS d c (0x198 + 4 * idx) 4 - hotS d c (0x198 + 4 * ((idx + 8 - wd) % 8)) 4) * 1000, toS 32 lim * wd)
    else none
  | 6 => if rwStale vw || rwLost vw || decide (hotTemp d c = noTemp) then none else some (hotTemp d c, toS 32 lim)
  | 7 => if rwValid vw && hot d c 0x160 4 != 0x80000000 then some (v - hotS d c 0x160 4, toS 32 lim) else none
  | _ => none

/-- Evaluate termination `i` (0 or 1) of a channel's RUN step (R169): whether it fires. -/
def evalTerm (d : Dev) (c g : Nat) (w : List Byte) (i : Nat) : Bool × Dev :=
  let kind := swKind w i
  let d := if kind = 6 ∧ hotTemp d c = noTemp ∧ (seqCh d c).noSensor = false then
      logSeq (setSeqCh d c (fun s => { s with noSensor := true })) c 0x09 [BitVec.ofNat 8 (i + 1)] else d
  match termQty d c g kind (swLim w i) with
  | none => (false, d)
  | some (x, l) =>
    let cnts := hot d c 0x145 1
    let holds := if swOp w i then decide (x ≤ l) else decide (l ≤ x)
    let n := if holds then min 15 (bits cnts (4 * i) 4 + 1) else 0
    let d := hotW d c 0x145 1 (cnts - bits cnts (4 * i) 4 * 2 ^ (4 * i) + n * 2 ^ (4 * i))
    (decide (rd d (Reg.SEQ_CFG_CONFIRM g) ≤ n), d)

/-- Steps 4 to 6 of R168 for a RUNNING channel: the bits of the terminations that fired. -/
def runTick (d : Dev) (c g : Nat) : Nat × Dev :=
  let w := stepOf d c
  let d := stepCount d c
  let byTime := decide (swTMax w ≠ 0 ∧ swTMax w ≤ hot d c 0x148 4)
  if swTMin w ≤ hot d c 0x148 4 ∧ hot d c 0x146 2 = 0 then
    let (f1, d) := evalTerm d c g w 0
    let (f2, d) := evalTerm d c g w 1
    (b2n byTime + 2 * b2n f1 + 4 * b2n f2, d)
  else (b2n byTime, d)

/-- A barrier timeout: its report and its action (R178). -/
def barrierTimeout (d : Dev) (c : Nat) : Dev :=
  let w := stepOf d c
  let scope := swByte w 0 % 16
  let act := swByte w 2 / 4 % 4
  let d := raise d Src.SEQ_BAR_TIMEOUT 1 c (scope + 256 * swByte w 1 + 2 ^ 16 * act) (sqStep d c)
  let d := incSat (wrB d Reg.SEQ_STAT_BAR_TO true) Reg.SEQ_BAR_TO_CNT_CNT 1
  let d := logSeq d c 0x07 [BitVec.ofNat 8 scope, BitVec.ofNat 8 (swByte w 1), BitVec.ofNat 8 act]
  barrierAct (setSeqCh d c (fun s => { s with toDone := true })) c w

/-- Whether a waiting channel's timeout is due at a count of ticks. -/
def timeoutDue (d : Dev) (c n : Nat) : Bool :=
  let t := leAt (stepOf d c) 4 4
  decide (sqState d c = sqWAITING ∧ t ≠ 0 ∧ t ≤ n) && !(seqCh d c).toDone

/-- Whether a channel's release has been decided (R176). -/
def releasedNow (d : Dev) (c : Nat) : Bool :=
  match (seqCh d c).bar with
  | some key => (barrier d key).released.contains c
  | none => false

/-- Steps 2 to 7 of R168 in a tick in which the kernel has not treated the channel yet. -/
def seqTick (d : Dev) (c g : Nat) : Dev :=
  let s := seqCh d c
  let d := setSeqCh d c (fun s => { s with ranK := some d.k })
  if sqState d c = sqWAITING then
    let d := if s.startK = some d.k then d else hotW d c 0x14C 4 (satAdd 32 (hot d c 0x14C 4) 1)
    if releasedNow d c then leaveBarrier d c 0x10
    else if timeoutDue d c (hot d c 0x14C 4) then barrierTimeout d c
    else d
  else if sqState d c = sqRUNNING ∧ s.startK ≠ some d.k then
    let (hit, d) := runTick d c g
    if hit = 0 then d else endStep d c hit
  else d

/-- Whether Serac has tripped a channel in this tick, or its port is not ACTIVE (step 1 of R168). -/
def tripsNow (d : Dev) (c : Nat) : Bool := trippedAt d c d.k || pst d (portOf d c) != psActive

/-- The step kernel 0x01 for one channel (R168). -/
def seqKernel (d : Dev) (c : Nat) : Dev :=
  let d := seqSettle d c
  if (seqCh d c).ranK = some d.k then d
  else if tripsNow d c then
    if seqActive d c then abortProgram (setSeqCh d c (fun s => { s with ranK := some d.k })) c 2 else d
  else match groupOf d c with
    | some g => seqTick d c g.group
    | none => d

/-- Whether the step kernel has still to treat a channel in this tick's CONTROL window, not tripped in this tick and on an
ACTIVE port. -/
def kernelDue (d : Dev) (c : Nat) : Bool :=
  (d.phase == 2 || d.phase == 3) && (seqCh d c).ranK != some d.k && !(seqCh d c).walk && !tripsNow d c &&
    !verdictHeld d c

/-- The terminations that fire for a channel when the kernel treats it now. -/
def firesNow (d : Dev) (c : Nat) : Nat :=
  match groupOf d c with
  | some g =>
    if kernelDue d c && decide (sqState d c = sqRUNNING ∧ (seqCh d c).startK ≠ some d.k) then (runTick d c g.group).1 else 0
  | none => 0

/-- TERMINATION_FIRE: the step ends as a termination of kind 1 to 7 fires (R169). -/
def execTerminationFire (ch : Nat) (s : State) : Host.Outcome State Fault Refusal :=
  .next { s with d := if 2 ≤ firesNow s.d ch then seqKernel s.d ch else s.d }

/-- STEP_TIME_TERMINATION: the step ends by time (R168). -/
def execStepTimeTermination (ch : Nat) (s : State) : Host.Outcome State Fault Refusal :=
  .next { s with d := if firesNow s.d ch % 2 = 1 then seqKernel s.d ch else s.d }

/-- Whether the kernel's next count of a waiting channel reaches its barrier's `TIMEOUT`. -/
def barrierDue (d : Dev) (c : Nat) : Bool :=
  kernelDue d c && !releasedNow d c && (seqCh d c).startK != some d.k && timeoutDue d c (satAdd 32 (hot d c 0x14C 4) 1)

/-- BARRIER_TIMEOUT: the tick's count reaches the barrier's `TIMEOUT` (R178). -/
def execBarrierTimeout (ch : Nat) (s : State) : Host.Outcome State Fault Refusal :=
  .next { s with d := if barrierDue s.d ch then seqKernel s.d ch else s.d }

/-! ### The barrier check of Tk + 40 µs (R176, R177) -/

/-- Keys of the barriers at which some channel waits. -/
def waitKeys (d : Dev) : List Nat :=
  (d.seq.ch.foldl (fun l e => match e.2.bar with
    | some key => if sqState d e.1 = sqWAITING ∧ !l.contains key then key :: l else l
    | none => l) []).reverse

/-- Whether every member of a barrier has arrived. -/
def allArrived (d : Dev) (key : Nat) : Bool := (barMembers d key).all (fun c => (barrier d key).arrived.contains c)

/-- Release a barrier: its arrivals that still wait there move on in the next tick, and a new generation starts. -/
def releaseBarrier (d : Dev) (key : Nat) : Dev :=
  let d := setBarrier d key (fun b => {
    gen := b.gen + 1
    arrived := []
    released := b.released ++ b.arrived.filter (fun c => (seqCh d c).bar == some key) })
  if 3 ≤ key / 2 ^ 24 then
    let n := key % 16
    let d := wr d (Reg.SEQ_LBAR_GEN n) ((barrier d key).gen)
    wrB (wrB d (Reg.SEQ_LBAR_REL n) true) (Reg.SEQ_LBAR_LOCAL n) false
  else d

/-- Whether a SEGMENT or LINE barrier is arrived locally: it has members within the device, and all have arrived. -/
def arrivedLocally (d : Dev) (key : Nat) : Bool :=
  let b := barrier d key
  !b.arrived.isEmpty && allArrived d key

/-- The barrier check of a tick, and the local arrival of each SEGMENT and LINE barrier. -/
def barrierCheck (d : Dev) : Dev :=
  let d := ((waitKeys d).filter (fun key => decide (key / 2 ^ 24 ≤ 2))).foldl (fun d key =>
    if allArrived d key then releaseBarrier d key else d) d
  (List.range 16).foldl (fun d b =>
    wrB d (Reg.SEQ_LBAR_LOCAL b) (arrivedLocally d (barKey 3 0 b) || arrivedLocally d (barKey 4 0 b))) d

/-! ### Pausing and resuming (R179, R180) -/

/-- Pause a running or waiting program with a cause bit: 0 HOLD, 1 FENCE, 2 MODE, 3 HOST. -/
def pauseProgram (d : Dev) (c causes : Nat) : Dev :=
  let d := setSeqCh d c (fun s => { s with prev := sqState d c })
  let d := setSq d c sqPAUSED causes
  let d := logSeq d c 0x05 [BitVec.ofNat 8 (16 * causes)]
  let d := gradeEnd d c gABORTED
  if bit causes 2 then takeOff d c
  else if bit causes 3 then takeDemand d c [6, 0, 0, 0, 0, 0, 0, 0] false
  else d

/-- Resume a program whose last cause has cleared (R180). -/
def resumeProgram (d : Dev) (c : Nat) : Dev :=
  let s := seqCh d c
  let d := setSq d c s.prev 0
  let d := logSeq d c 0x06 (natLE 4 (hot d c 0x148 4))
  let d := clearTerms d c
  let w := stepOf d c
  match swType w with
  | 1 => writeDemand (hotW d c 0x146 2 (swTMin w)) c w
  | 5 =>
    match swByte w 2 % 4 with
    | 0 => takeDemand d c [6, 0, 0, 0, 0, 0, 0, 0] false
    | 2 => takeDemand d c [9, 0, 0, 0, 0, 0, 0, 0] false
    | _ => if s.keep.isEmpty then d else takeDemand d c s.keep false
  | _ => setSeqCh d c (fun s => { s with walk := true })

/-- Clear causes of a paused program, and resume it when none remains. -/
def clearCauses (d : Dev) (c causes : Nat) : Dev :=
  let left := sqPause d c - (sqPause d c &&& causes)
  if left = sqPause d c then d
  else if left = 0 then resumeProgram d c
  else setSq d c sqPAUSED left

/-- The scan of a commit point: holds, fences and zone modes pause programs, and their end resumes them (R179, R310). A step
that a command of this commit point has reached is executed before. -/
def pauseScan (d : Dev) (c : Nat) : Dev :=
  let d := seqSettle d c
  if !seqActive d c then d
  else
    let hold := zoneHeld d c || busHeld d c
    let fence := chanFenced d c
    let noProd := !chanMode d c (fun m => m == modeProduction)
    let d := if sqState d c ≠ sqPAUSED then d else
        let d := if noProd && !bit (sqPause d c) 2 then takeOff (setSq d c sqPAUSED (setBit (sqPause d c) 2 true)) c else d
        clearCauses d c (b2n (!hold) + 2 * b2n (!fence))
    let causes := b2n hold + 2 * b2n fence + 4 * b2n noProd
    if causes ≠ 0 ∧ (sqState d c = sqRUNNING ∨ sqState d c = sqWAITING) then pauseProgram d c causes else d

/-! ### The commands of `SEQ_CMD` (R179 to R181) -/

/-- Start a channel's program (R179). -/
def startProgram (d : Dev) (c slot step : Nat) : Dev :=
  let d := setSq (unarrive (endManual d c) c) c sqIDLE 0
  let d := ledZero d (entryOf c + 0x140) 128
  let d := hotW d c 0x160 4 0x80000000
  let d := hotW d c 0x141 1 (slot % 64)
  let d := setSq (setStep d c step) c sqRUNNING 0
  let d := ledWr d (ctrlOff c + 0x80) 8 (d.k % 2 ^ 64)
  let d := logSeq d c 0x01 (natLE 4 (progAt d slot).id)
  setSeqCh d c (fun s => { s with walk := true, startK := some d.k, keep := [] })

/-- Why a channel is skipped by a command, 0 where it qualifies (R181). -/
def cmdSkip (d : Dev) (cmd start c : Nat) : Nat :=
  let st := sqState d c
  let prod := chanMode d c (fun m => m == modeProduction)
  if !populated d c || (groupOf d c).isNone then 0x23
  else if (cmd = 1 ∨ cmd = 3) ∧ !prod then 0x20
  else if (match cmd with
      | 1 => seqActive d c
      | 2 => st != sqRUNNING && st != sqWAITING
      | 3 => st != sqPAUSED
      | 4 => !seqActive d c
      | _ => st != sqRUNNING && st != sqWAITING) then 0x22
  else if cmd = 1 then
    let slot := ((groupOf d c).map (·.program)).getD 0xFF
    let ss := (progAt d slot).steps
    if slot = 0xFF ∨ ss.isEmpty then 0x21
    else if ss.length ≤ start ∨ (bodyOf ss start).isSome then 0x24
    else 0
  else if cmd = 3 then
    let ss := (progOf d c).steps
    let loops := (enclosing ss (sqStep d c)).map (·.1)
    if sqStep d c < ss.length ∧ (List.range (sqDepth d c)).map (loopIdx d c) = loops ∧
        (List.range (sqDepth d c)).all (fun i => decide (1 ≤ loopRem d c i)) then 0 else 0x24
  else 0

/-- A command acts on one channel. -/
def cmdAct (d : Dev) (cmd start c : Nat) : Dev :=
  match cmd with
  | 1 => seracStart (startProgram d c (((groupOf d c).map (·.program)).getD 0) start) c
  | 2 => pauseProgram d c 8
  | 3 => clearCauses d c 12
  | 4 => abortProgram d c 1
  | _ => if sqState d c = sqRUNNING then endStep d c 8 else leaveBarrier d c 8

/-- A committed command (R181). A channel first executes the steps that an earlier command of this commit point brought it to
(R170). -/
def seqCommit (d : Dev) (cmd sel start first num : Nat) : Dev :=
  let chans := if sel = 0 then setChans first num
    else if sel = 1 then ((groupRec d first).map (·.channels)).getD []
    else zoneChans d first
  let d := chans.foldl seqSettle d
  let skips := chans.filterMap (fun c => if cmdSkip d cmd start c = 0 then none else some (c, cmdSkip d cmd start c))
  let go := chans.filter (fun c => cmdSkip d cmd start c == 0)
  let d := go.foldl (fun d c => cmdAct d cmd start c) d
  let d := wrB (wrB d Reg.SEQ_STAT_CMD_PEND false) Reg.SEQ_STAT_CMD_DONE true
  let d := wr d Reg.SEQ_STAT_SKIP_CNT skips.length
  match skips.head? with
  | some (c, r) => wrB (wr (wr d Reg.SEQ_CMD_ERR_CH c) Reg.SEQ_CMD_ERR_REASON r) Reg.SEQ_STAT_CMD_SKIP true
  | none => d

/-- Whether a command's set is refused as a whole. -/
def seqSetBad (d : Dev) (sel : Nat) : Bool :=
  let f := rd d Reg.SEQ_CMD_SET_FIRST
  (sel == 0 && decide (4096 < f + rd d Reg.SEQ_CMD_SET_NUM)) || (sel == 1 && decide (255 < f)) ||
    (sel == 2 && decide (15 < f)) || sel == 3

/-- A write of `SEQ_CMD`. -/
def seqCmdWrite (d : Dev) (req : Requester) (w cmd : Nat) : Dev :=
  let addr := 0x10078000
  regAccess d req addr w (fun d =>
    let sel := bits w 4 2
    if isStandby d || seqSetBad d sel then refuseW d req addr
    else
      let d := writeFields d req addr w
      let d := wrB d Reg.SEQ_STAT_CMD_PEND true
      stage d req (.seqCmd cmd sel (bits w 16 10) (rd d Reg.SEQ_CMD_SET_FIRST) (rd d Reg.SEQ_CMD_SET_NUM)))

/-- SEQ_START. -/
def execSeqStart (req : Requester) (w : Nat) (s : State) : Host.Outcome State Fault Refusal :=
  .next { s with d := seqCmdWrite s.d req w 1 }

/-- PAUSE. -/
def execPause (req : Requester) (w : Nat) (s : State) : Host.Outcome State Fault Refusal :=
  .next { s with d := seqCmdWrite s.d req w 2 }

/-- SEQ_RESUME. -/
def execSeqResume (req : Requester) (w : Nat) (s : State) : Host.Outcome State Fault Refusal :=
  .next { s with d := seqCmdWrite s.d req w 3 }

/-- SEQ_ABORT. -/
def execSeqAbort (req : Requester) (w : Nat) (s : State) : Host.Outcome State Fault Refusal :=
  .next { s with d := seqCmdWrite s.d req w 4 }

/-- SKIP. -/
def execSkip (req : Requester) (w : Nat) (s : State) : Host.Outcome State Fault Refusal :=
  .next { s with d := seqCmdWrite s.d req w 5 }

/-! ### Loading (R163, R164) -/

/-- A rejected or refused load. -/
def loadErr (d : Dev) (slot code off : Nat) : Dev :=
  let d := wr (wr (wr d Reg.SEQ_LOAD_ERR_CODE code) Reg.SEQ_LOAD_ERR_SLOT slot) Reg.SEQ_LOAD_ERR_OFFSET off
  wrB d Reg.SEQ_STAT_LOAD_ERR true

/-- A write of `SEQ_LOAD_CTRL` with LOAD or UNLOAD: refused with its code, or carried out. -/
def seqLoadCtrl (d : Dev) (req : Requester) (w : Nat) (act : Dev → Nat → Dev) : Dev :=
  let addr := 0x10078010
  regAccess d req addr w (fun d =>
    let slot := bits w 8 6
    if isStandby d then refuseW (loadErr d slot 0x0B 0) req addr
    else if d.seq.load.isSome ∨ rd d (Reg.SEQ_SLOT_INFO_USERS slot) ≠ 0 then refuseW (loadErr d slot 0x0A 0) req addr
    else act (writeFields d req addr w) slot)

/-- The image that the load registers name is taken from DRAM and its verification starts. -/
def seqLoadStart (d : Dev) (slot : Nat) : Dev :=
  let a := rd d Reg.SEQ_LOAD_SRC_HI_ADDR * 2 ^ 32 + rd d Reg.SEQ_LOAD_SRC_LO_ADDR / 8 * 8
  let len := rd d Reg.SEQ_LOAD_LEN_LEN
  let l : SeqLoad := { slot := slot, bytes := Memory.readList d.dram a (max 32 len), len := len }
  wrB { d with seq := { d.seq with load := some l } } Reg.SEQ_STAT_LOAD_BUSY true

/-- LOAD. -/
def execLoad (req : Requester) (w : Nat) (s : State) : Host.Outcome State Fault Refusal :=
  .next { s with d := seqLoadCtrl s.d req w seqLoadStart }

/-- UNLOAD: the slot is emptied at the next commit point. -/
def execUnload (req : Requester) (w : Nat) (s : State) : Host.Outcome State Fault Refusal :=
  .next { s with d := seqLoadCtrl s.d req w (fun d slot => stage d req (.seqUnload slot)) }

/-- A program verification completes; on a pair the partner's verdict counts too (R163). -/
def progVerified (d : Dev) (partnerOk : Bool) : Dev :=
  match d.seq.load with
  | none => d
  | some l =>
    let d := wrB { d with seq := { d.seq with load := none } } Reg.SEQ_STAT_LOAD_BUSY false
    match progChk l.bytes l.len with
    | some (code, off) => loadErr d l.slot code off
    | none =>
      let d := if isActive d then { d with sch := { d.sch with txBulk := [(3, l.slot, l.bytes.take l.len)] } } else d
      if (isActive d || isStandby d) && !partnerOk then loadErr d l.slot 0x0B 0
      else
        let d := wrB d Reg.SEQ_STAT_LOAD_DONE true
        stage (wr d Reg.SEQ_LOAD_ERR_CODE 0) .host (.seqProg l.slot (l.bytes.take l.len))

/-- PROGRAM_VERIFY_DONE. -/
def execProgramVerifyDone (partnerOk : Bool) (s : State) : Host.Outcome State Fault Refusal :=
  .next { s with d := progVerified s.d partnerOk }

/-- The registers that describe a slot. -/
def slotRegs (d : Dev) (slot : Nat) : Dev :=
  let p := progAt d slot
  let d := wr (wr d (Reg.SEQ_SLOT_INFO_NSTEPS slot) p.steps.length) (Reg.SEQ_SLOT_ID_PROG_ID slot) p.id
  if slot < 32 then wrFBit d Reg.SEQ_SLOT_VALID_LO_SLOTS slot (!p.steps.isEmpty)
  else wrFBit d Reg.SEQ_SLOT_VALID_HI_SLOTS (slot - 32) (!p.steps.isEmpty)

/-- An accepted program replaces its slot's contents in the program store (R163, R164). -/
def commitProg (d : Dev) (slot : Nat) (bytes : List Byte) : Dev :=
  let n := leAt bytes 6 2
  let p : Prog := { id := leAt bytes 8 4, steps := stepWords bytes n }
  let base := (rd d Reg.LEDGER_BASE_HI_ADDR * 2 ^ 32 + rd d Reg.LEDGER_BASE_LO_ADDR * 2 ^ 25) + 0x02000000 + slot * 0x10000
  let d := { d with seq := { d.seq with progs := SMap.set {} d.seq.progs slot p },
                    dram := Memory.writeList d.dram base bytes }
  slotRegs d slot

/-- A program of the partner's input commits on a STANDBY device only where it passes this device's own verification; where it
does not, it is rejected with `SEQ_E_PAIR` (R163). -/
def commitPartnerProg (d : Dev) (slot : Nat) (bytes : List Byte) : Dev :=
  if isStandby d && (progChk bytes bytes.length).isSome then loadErr d slot 0x0B 0 else commitProg d slot bytes

/-- UNLOAD commits. -/
def commitUnload (d : Dev) (slot : Nat) : Dev :=
  slotRegs { d with seq := { d.seq with progs := SMap.del d.seq.progs slot } } slot

/-- A channel's program restarts at step 0 of a new slot at a variant switch (R182). -/
def restartProgram (d : Dev) (c slot : Nat) : Dev :=
  let old := natLE 2 (sqStep d c) ++ natLE 1 (sqSlot d c)
  let d := logSeq d c 0x08 old
  if (progAt d slot).steps.isEmpty then
    setSeqCh (takeOff (setSq (unarrive d c) c sqIDLE 0) c) c (fun s => { s with walk := false })
  else startProgram d c slot 0

/-- Recount the users of every slot. -/
def recountUsers (d : Dev) : Dev :=
  let act := (allChans d).filter (seqActive d)
  (List.range 64).foldl (fun d s => wr d (Reg.SEQ_SLOT_INFO_USERS s) (act.filter (fun c => sqSlot d c == s)).length) d

end Sys2Proof.Machine
end

