-- ==== Sys2Proof/Machine/Engines.lean ====
section
/-!
DEFINITION. The engines' sequencer (R216, R222 to R229, R235): which channel run comes next, what the ROM kernels do in
theirs, the start of a user kernel's, a run stopped at its cycle limit, and the rollback of the undo journal.
-/
namespace Sys2Proof.Machine

/-! ### The schedule (R223) -/

/-- The entries of an engine that its window task runs now: FIR entries up to Tk + 6 µs, then the CONTROL entries of this
phase of the cycle, in record order. -/
def taskEntries (d : Dev) (e : Nat) : List SchedRec :=
  (img d).sched.filter (fun r => r.engine == e &&
    (if d.phase ≤ 1 then r.window == 0 else r.window != 0 && bit r.phases (d.k % 20)))

/-- The next channel run: the entry, its record and the channel's place in it. Unpopulated channels are skipped. -/
def nextRun (d : Dev) (e : Nat) : Option (Nat × SchedRec × Nat) :=
  let g := eng d e
  ((taskEntries d e).zipIdx.findSome? (fun (r, i) =>
    if i < g.entry then none
    else
      let from_ := if i = g.entry then g.chan else 0
      ((List.range r.num).find? (fun j => decide (from_ ≤ j) && populated d (r.first + j))).map (fun j => (i, r, j))))

/-- Whether an engine's power domain is on (R456). -/
def engOn (d : Dev) (e : Nat) : Bool := rdFBit d Reg.PWR_STAT_DOM_ON (if e < 12 then 6 else 7)

/-- Whether the window task may run: from Tk to Tk + 40 µs, not stopped for the tick, and not under a fence of its engine
that has taken hold (R225, R227, R310). -/
def taskRuns (d : Dev) (e : Nat) : Bool :=
  decide (d.phase ≤ 3) && !(eng d e).stop && !fenceHolds d 5 e && !inBoot d && engOn d e

/-! ### Channel runs -/

/-- The bank registers a run starts with (R216): an entry run zeroes the window bank; a channel run sets `CH`, `CX` and
`AP` and zeroes `AH`. -/
def runRegs (d : Dev) (e c cx ap : Nat) (fresh : Bool) : Dev :=
  let d := if fresh then setEng d e (fun g => { g with wreg := [] }) else d
  gwSeq (gwSeq (gwSeq (gwSeq d e false gCH c) e false gCX cx) e false gAP ap) e false gAH 0

/-- The cycles of a ROM kernel's run: at most its declared cost, which includes dispatch; how many a path takes is open. -/
def romCycles (d : Dev) (e cost : Nat) : Dev := gCount (useFree d) e false (2 + freeVal d % (cost - 1))

/-- The work of a ROM kernel for a channel (R229), its HOT writes journaled in the CONTROL window. -/
def romKernel (d : Dev) (e k c : Nat) : Dev :=
  match k with
  | 0 => romCycles (deliverCh d c) e 12
  | 1 => romCycles (romJournal d (seqKernel d c) e c) e 8
  | 2 => romCycles (romJournal d (regulate (seqSettle d c) c) e c) e 24
  | 3 => romCycles (romJournal d (analytics (seqSettle d c) c) e c) e 60
  | _ => d

/-- Start a user kernel's run. -/
def userRun (d : Dev) (e i c cx : Nat) (r : SchedRec) (fresh : Bool) : Dev :=
  match (kernPlaces (img d) e).find? (fun p => p.2.kernel == r.kernel) with
  | none => d
  | some (ofs, k) =>
    let base := 0x4000 * gBank d e + ofs
    let cb := (base + 8 * k.code.length) / 4
    let d := gCount (runRegs d e c cx cb fresh) e false 2
    setEng (seqSettle d c) e (fun g => { g with run := {
      live := true, sched := i, kernel := r.kernel, cls := k.cls, cycCh := r.cycCh, base := base, ninstr := k.code.length,
      cbase := cb, nconst := k.consts.length, pc := k.entry, cyc := 2, ready := [], reps := [] } })

/-- A run waits for its channel's verdict, and the wait counts as cycles of the engine; how many is open (R251). -/
def verdictWait (d : Dev) (e : Nat) : Dev := gCount (useFree d) e false (freeVal d % 1601)

/-- The sequencer dispatches the next channel run of an engine's window task. A user kernel's run is then carried out by
the instructions issued in it, and the next run waits for its end. -/
def channelRun (d : Dev) (e : Nat) : Dev :=
  if !taskRuns d e || (eng d e).run.live then d
  else match nextRun d e with
    | none => d
    | some (i, r, j) =>
      let c := r.first + j
      if verdictHeld d c then verdictWait d e else
      if r.kernel == 0 && finishWaits d e c then d else
      let fresh := (eng d e).entry != i || (eng d e).chan == 0
      let d := setEng d e (fun g => { g with entry := i, chan := j + 1 })
      if 0x40 ≤ r.kernel then userRun d e i c j r fresh
      else
        let d := setEng (runRegs d e c j 0 fresh) e (fun g => { g with run := {
          live := false, sched := i, kernel := r.kernel, cls := 2, cycCh := r.cycCh, cyc := 2 } })
        romKernel d e r.kernel c

/-- ENGINE_CHANNEL_RUN. -/
def execEngineChannelRun (e : Nat) (s : State) : Host.Outcome State Fault Refusal := .next { s with d := channelRun s.d e }

/-- A run that has reached max(256, 4 × `CYC_CH`) cycles, or runs past its kernel's last instruction, is stopped (R225). -/
def runaway (d : Dev) (e : Nat) : Dev :=
  let r := (eng d e).run
  if r.live = false ∨ ¬(max 256 (4 * r.cycCh) ≤ r.cyc ∨ r.ninstr ≤ r.pc) then d
  else
    let d := engEv d e Reg.CHAN_ENG_STAT_RUNAWAY
    let d := incSat d (Reg.CHAN_ENG_RUNAWAY_CNT_CNT e) 1
    let d := raise d Src.ENG_RUNAWAY 5 e (gData0 d e false) r.cyc
    markIncCh (gStop d e) (gr d e false gCH) e 2

/-- ENGINE_RUNAWAY. -/
def execEngineRunaway (e : Nat) (s : State) : Host.Outcome State Fault Refusal := .next { s with d := runaway s.d e }

/-! ### Tk + 6 µs and Tk + 40 µs (R223, R227) -/

/-- The window task of every engine turns to its CONTROL entries. -/
def startControl (d : Dev) : Dev :=
  (List.range 24).foldl (fun d e => setEng d e (fun g => { g with
    entry := 0, chan := 0, jn := 0, run := { g.run with live := false, reps := [] } })) d

/-- The channels whose CONTROL work an engine has left: those of its runs still to come, and of a run that has not ended. -/
def workLeft (d : Dev) (e : Nat) : List Nat :=
  let g := eng d e
  let rest := (taskEntries d e).zipIdx.flatMap (fun (r, i) =>
    if i < g.entry then []
    else (List.range r.num).filterMap (fun j =>
      if (i = g.entry ∧ j < g.chan) ∨ populated d (r.first + j) = false then none else some (r.first + j)))
  let open_ := if g.run.live then [gr d e false gCH] else []
  open_ ++ rest

/-- The CONTROL window closes: work left is reported, that of idle channels too, and makes its groups incomplete. -/
def closeControl (d : Dev) : Dev :=
  (List.range 24).foldl (fun d e =>
    let cs := workLeft d e
    let gs := (cs.filterMap (groupOf d)).map (·.group)
    let d := if cs.isEmpty then d else engEv d e Reg.CHAN_ENG_STAT_CONTROL_LATE
    gStop (gs.foldl (fun d g => markInc d g e 1) d) e) d

/-- The groups whose work of this tick is incomplete. -/
def incGroups (d : Dev) : List Nat := (d.inc.map (·.1)).eraseDups

/-- An undo entry: the channel, HOT offset and old value. -/
def undoEntry (d : Dev) (e n : Nat) : Nat × Nat × Nat :=
  let w := rdWrap (eng d e).x (0x4000 + 8 * n) 8
  (bits w 39 12, 0x40 + 4 * bits w 32 7, bits w 0 32)

/-- Restore an engine's entries of the incomplete groups, newest first. -/
def rollback (d : Dev) (e : Nat) : Dev :=
  let gs := incGroups d
  let d0 := d
  (List.range (eng d e).jn).reverse.foldl (fun d n =>
    let (c, off, old) := undoEntry d0 e n
    match groupOf d c with
    | some g => if gs.contains g.group then hotW (engEv d e Reg.CHAN_ENG_STAT_ROLLBACK) c off 4 old else d
    | none => d) d

/-- The arrivals and releases of channels at every barrier, as the CONTROL window found them. -/
def barsBack (d : Dev) (cs : List Nat) : Dev :=
  let put := fun (now was : List Nat) => now.filter (fun c => !cs.contains c) ++ was.filter cs.contains
  ((d.barsWas ++ d.seq.bars).map (·.1)).eraseDups.foldl (fun d key =>
    let w := SMap.get {} d.barsWas key
    setBarrier d key (fun b => { b with arrived := put b.arrived w.arrived, released := put b.released w.released })) d

/-- The end tick of CTRL and the queued events of channels, as the CONTROL window found them (R168). The events of codes 0x80
and above are Serac's and no kernel's. -/
def logBack (d : Dev) (cs : List Nat) : Dev :=
  let d := cs.foldl (fun d c => match (seqCh d c).endWas with
    | some (_, v) => if (seqCh d c).endWas = (SMap.get {} d.seqWas c).endWas then d else ledWr d (ctrlOff c + 0x88) 8 v
    | none => d) d
  { d with led := { d.led with evq := d.led.evq.filter (fun e =>
    !cs.contains e.ch || decide (0x80 ≤ e.typ) || d.evqWas.contains e) } }

/-- Every engine's rollback, and what the kernels keep of the incomplete groups' channels beside HOT. A grading window that
the tick leaves incomplete ends as aborted (R189). -/
def rollbackAll (d : Dev) : Dev :=
  if d.inc.isEmpty then d
  else
    let d := (List.range 24).foldl rollback d
    let cs := (incGroups d).flatMap (fun g => ((groupRec d g).map (·.channels)).getD [])
    let d := logBack (barsBack d cs) cs
    let back := fun {α : Type} (now was : SMap α) => cs.foldl (fun m c => match SMap.find was c with
      | some x => SMap.put m c x
      | none => SMap.del m c) now
    let d := { d with
      chan := back d.chan d.chanWas, grade := back d.grade d.gradeWas, seq := { d.seq with ch := back d.seq.ch d.seqWas } }
    recountUsers (cs.foldl (fun d c => gradeEnd d c gABORTED) d)

/-! ### Registers (R235) -/

/-- The address of `CHAN_ENG_CTRL[e]`. -/
def engCtrlAddr (e : Nat) : Nat := 0x02030000 + e * 0x40000

/-- A write of `CHAN_ENG_CTRL[e]`: `PEAK_CLR` acts at once; `WRAP` travels with the inputs of an ACTIVE device's cycle, and a
STANDBY device refuses it in a write of its own (R12). -/
def engCtrl (d : Dev) (req : Requester) (e w : Nat) : Dev :=
  let addr := engCtrlAddr e
  regAccess d req addr w (fun d =>
    let d := if bit w 1 then
        let d := wr (wr d (Reg.CHAN_ENG_PEAK_FINISH e) 0) (Reg.CHAN_ENG_PEAK_CONTROL e) 0
        wr (wr d (Reg.CHAN_ENG_SMP_PEAK e) 0) (Reg.CHAN_ENG_JRNL_PEAK e) 0
      else d
    if isStandby d && !d.apply then refuseW d req addr
    else if forwards d req && !d.apply && !rdB d Reg.CHAN_ENG_LOCK_LOCK then
      okResp (stage d req (.regWrite req addr (setBit w 1 false)))
    else writeFields d req addr w)

/-- PEAK_CLR. -/
def execPeakClr (req : Requester) (e w : Nat) (s : State) : Host.Outcome State Fault Refusal :=
  .next { s with d := engCtrl s.d req e (setBit w 1 true) }

/-- At a tick edge the counts of the tick that ends go to `LOAD`, `SMP` and `JRNL` with their peaks, and the window task
turns to its FIR entries. An engine clock of 800 MHz runs 40,000 cycles in a tick. -/
def engTick (d : Dev) : Dev :=
  (List.range 24).foldl (fun d e =>
    let g := eng d e
    let put := fun (d : Dev) (last peak : Fld) (n : Nat) =>
      let v := min n (2 ^ last.wd - 1)
      wr (wr d last v) peak (max v (rd d peak))
    let d := put d (Reg.CHAN_ENG_LOAD_FINISH e) (Reg.CHAN_ENG_PEAK_FINISH e) g.cycF
    let d := put d (Reg.CHAN_ENG_LOAD_CONTROL e) (Reg.CHAN_ENG_PEAK_CONTROL e) g.cycC
    let d := put d (Reg.CHAN_ENG_SMP_LAST e) (Reg.CHAN_ENG_SMP_PEAK e) g.cycS
    let d := put d (Reg.CHAN_ENG_JRNL_LAST e) (Reg.CHAN_ENG_JRNL_PEAK e) g.jn
    let d := if engOn d e then incWrap d (Reg.CHAN_ENG_CYC_CNT e) 40000 else d
    setEng d e (fun g => { g with
      entry := 0, chan := 0, stop := false, jn := 0, cycF := 0, cycC := 0, cycS := 0,
      run := { g.run with live := false, reps := [] } })) d

end Sys2Proof.Machine
end

