-- ==== Sys2Proof/Machine/Net.lean ====
section
/-!
DEFINITION. The DC bus (chapter 10): samples and comparators (R237, R245), levels (R238, R239), grants (R243), the
chopper and its test (R245 to R247), and the bus record's registers (R236).
-/
namespace Sys2Proof.Machine

/-! ### Thresholds -/

/-- `CURB_EFF` (R238). -/
def curbEff (d : Dev) : Nat :=
  rd d Reg.NET_THR_CURB_MV - (if rdB d Reg.NET_STAT_CHOP_FAULT then rd d Reg.NET_CURB_MARGIN_MV else 0)

/-- The entry threshold of a level. -/
def levelEntry (d : Dev) (l : Nat) : Nat := if l = 1 then rd d Reg.NET_THR_WARN_MV else curbEff d

/-- This device's bus level. -/
def netLevel (d : Dev) : Nat := rd d Reg.NET_STAT_LEVEL

/-- Demand or drop `CHOP_EN`; a device that does not own the gated outputs holds it low (R244, R376). -/
def setChop (d : Dev) (on : Bool) : Dev :=
  wrB { d with net := { d.net with chop := on } } Reg.NET_STAT_CHOP_ON (on && ownsGate d)

/-- Raise a bus event with the data words of R306. -/
def busEvent (d : Dev) (src : Nat) : Dev := raise d src 0 0 (rd d Reg.NET_BUS_MEAN_MEAN) (netLevel d)

/-! ### TRIP (R237, R239) -/

/-- Ports whose last sent slots hold a discharging channel. -/
def dischargingPorts (d : Dev) : List Nat :=
  (mappedPorts d).filter (fun p => pst d p == psActive &&
    (port d p).slots.any (fun b => slotMode b == 1 && decide (slotSet b < 0)))

/-- From the next command frame on the channels of a quenched port are IDLE with `RELAY` OPEN (R239): where the frame of this
tick is assembled and not sent yet, its slots are. -/
def idleNext (d : Dev) (p : Nat) : Dev :=
  if d.phase = 4 then setPort d p (fun q => { q with nextSlots := q.nextSlots.map idleSlot }) else d

/-- Entry to TRIP, by a sample or by a sense gap. -/
def busTrip (d : Dev) (sense : Bool) : Dev :=
  let d := wr d Reg.NET_STAT_LEVEL 3
  let d := wrB d Reg.NET_STAT_TRIP_EV true
  let d := wrB d Reg.NET_STAT_TRIP_SENSE sense
  let d := incSat d Reg.NET_CNT_TRIPS 1
  let ps := dischargingPorts d
  let d := { d with net := { d.net with hold := true, below := 0, ports := d.net.ports.filter (fun p => !ps.contains p) ++ ps } }
  let d := setChop d true
  let d := ps.foldl idleNext (sendExpressAll d ps [])
  let d := ps.foldl (fun d p => markSent d (portChans d p)) d
  busEvent d Src.NET_BUS_TRIP

/-- Whether any channel is commanded: a slot last sent on an ACTIVE port is not IDLE. -/
def anyCommanded (d : Dev) : Bool :=
  (mappedPorts d).any (fun p => pst d p == psActive && (port d p).slots.any (fun b => slotMode b != 0))

/-- A standing sense gap enters TRIP while a channel is commanded. -/
def gapTrip (d : Dev) : Dev :=
  if d.net.gap ∧ netLevel d ≠ 3 ∧ d.firn.act.isSome ∧ anyCommanded d then busTrip d true else d

/-- BUS_SENSE_GAP: `us` µs, more than 20, have passed without a bus sample. -/
def senseGap (d : Dev) (us : Nat) : Dev :=
  if us ≤ 20 ∨ d.firn.act.isNone then d
  else
    let d := wrB { d with net := { d.net with gap := true } } Reg.NET_STAT_SENSE_EV true
    let d := raise d Src.NET_SENSE 0 0 (rd d Reg.NET_BUS_MV_SAMPLE) us
    gapTrip d

/-- BUS_SENSE_GAP. -/
def execBusSenseGap (us : Nat) (s : State) : Host.Outcome State Fault Refusal := .next { s with d := senseGap s.d us }

/-! ### Samples (R237, R245) -/

/-- A calibrated result of the bus input at global time `t` ns: the sample and the comparators' actions. A test that a
sample above CHOP_ON abandons is skipped, and is due again at each cycle boundary (R246). -/
def busSample (d : Dev) (x : Int) (t : Nat) : Dev :=
  let b := roundDiv (x * rd d Reg.NET_SENSE_SCALE) 4096
  let d := wr d Reg.NET_BUS_MV_SAMPLE (ofS 20 b)
  let keep := d.net.smp.filter (fun s => decide (t ≤ s.t + 700000))
  let d := { d with net := { d.net with gap := false, smp := ⟨t, b⟩ :: keep } }
  let d := if (rd d Reg.NET_THR_CHOP_ON_MV : Int) ≤ b then
      let d := if d.net.run.isSome then
          wr { d with net := { d.net with run := none, due := true } } Reg.NET_TEST_RES_RESULT 3
        else d
      setChop d true
    else if b < (rd d Reg.NET_THR_CHOP_OFF_MV : Int) ∧ d.net.hold = false ∧ d.net.run = none then setChop d false
    else d
  if (rd d Reg.NET_THR_TRIP_MV : Int) ≤ b ∧ netLevel d ≠ 3 then busTrip d false else d

/-- The samples of a span of global time, its end excluded. -/
def smpIn (d : Dev) (t0 t1 : Nat) : List Int :=
  (d.net.smp.filter (fun s => decide (t0 ≤ s.t ∧ s.t < t1))).map (·.mv)

/-- The mean of samples in mV, its rounding open; none of no sample. -/
def meanOf (l : List Int) : Option Int := if l.isEmpty then none else some (qdiv (l.foldl (· + ·) 0) l.length)

/-! ### Levels (R238) -/

/-- The tick mean of the samples from Tk - 50 µs to Tk; a tick without samples leaves the last one. -/
def tickMean (d : Dev) : Dev :=
  match meanOf (smpIn d (tickNs d - 50000) (tickNs d)) with
  | some m => wr { d with net := { d.net with mean := m } } Reg.NET_BUS_MEAN_MEAN (ofS 20 m)
  | none => d

/-- The level's entries at Tk + 6 µs, the count of means towards its step down, and the low bus. -/
def levelTick (d : Dev) : Dev :=
  let d := tickMean d
  let m := d.net.mean
  let d := if d.net.hold ∧ m < (rd d Reg.NET_THR_CHOP_OFF_MV : Int) then
      setChop { d with net := { d.net with hold := false } } false
    else d
  let l := netLevel d
  let d := if l < 2 ∧ (curbEff d : Int) ≤ m then
      busEvent (wrB (wr d Reg.NET_STAT_LEVEL 2) Reg.NET_STAT_CURB_EV true) Src.NET_BUS_CURB
    else if l < 1 ∧ (rd d Reg.NET_THR_WARN_MV : Int) ≤ m then
      busEvent (wrB (wr d Reg.NET_STAT_LEVEL 1) Reg.NET_STAT_WARN_EV true) Src.NET_BUS_WARN
    else d
  let n := netLevel d
  let under := (n == 1 || n == 2) && decide (m + rd d Reg.NET_HYST_MV < (levelEntry d n : Int))
  let d := { d with net := { d.net with below := if under then d.net.below + 1 else 0 } }
  if m < (rd d Reg.NET_THR_LOW_MV : Int) then busEvent (wrB d Reg.NET_STAT_LOW_EV true) Src.NET_BUS_LOW else d

/-- BUS_LEVEL_STEP_DOWN: after 20 consecutive such means. -/
def levelDown (d : Dev) : Dev :=
  let l := netLevel d
  if (l = 1 ∨ l = 2) ∧ 20 ≤ d.net.below then
    wr { d with net := { d.net with below := 0 } } Reg.NET_STAT_LEVEL (l - 1)
  else d

/-- BUS_LEVEL_STEP_DOWN. -/
def execBusLevelStepDown (s : State) : Host.Outcome State Fault Refusal := .next { s with d := levelDown s.d }

/-- An accepted TRIP_CLR at a cycle boundary (R239). -/
def tripClear (d : Dev) : Dev :=
  if d.net.clrPend then
    let d := { d with net := { d.net with clrPend := false, ports := [], below := 0 } }
    if netLevel d = 3 then wrB (wr d Reg.NET_STAT_LEVEL 0) Reg.NET_STAT_TRIP_SENSE false else d
  else d

/-! ### The allowance and the grant (R238, R243) -/

/-- The allowance A of R240 in mW at a level. -/
def netAllowance (d : Dev) (level : Nat) : Nat :=
  if rdB d Reg.NET_STAT_CHOP_FAULT then 0
  else
    let w := rd d Reg.NET_EXPORT_MAX_W + rd d Reg.NET_GRANT_W
    if level = 0 then w * 1000
    else if level = 1 then rd d Reg.NET_WARN_PCT_PCT * w / 100 * 1000
    else 0

/-- The grant formed from the records of the cycle that ends (R243), and `XCH_MISS`. A device that takes no part forms
none. -/
def netGrant (d : Dev) : Dev :=
  let on := rdB d Reg.NET_CTRL_XCH_EN && rd d Reg.NET_XCFG_DOMAIN != 0 && rimeState d == 1 && !isStandby d
  let all := d.net.recs
  let d := { d with net := { d.net with recs := [] } }
  if !on then (if isStandby d then d else wr d Reg.NET_GRANT_W 0)
  else if all.length ≠ rd d Reg.NET_XCFG_MEMBERS then
    let d := wr (wrB d Reg.NET_STAT_XCH_MISS true) Reg.NET_GRANT_W 0
    raise d Src.NET_XCH_MISS 0 0 (rd d Reg.NET_XCFG_MEMBERS) all.length
  else
    let rs := all.filter (fun r => r.2.1 != 3)
    let own := rd d Reg.RIMEL_NODE_NODE
    let st := (rs.map (fun r => r.2.2.1)).foldl (· + ·) 0
    let dt := (rs.map (fun r => r.2.2.2)).foldl (· + ·) 0
    let s := ((rs.filter (fun r => r.1 == own)).map (fun r => r.2.2.1)).foldl (· + ·) 0
    if s = 0 ∨ 2 ≤ netLevel d ∨ rdB d Reg.NET_STAT_CHOP_FAULT then wr d Reg.NET_GRANT_W 0
    else wr d Reg.NET_GRANT_W (s * min st dt / st)

/-! ### The chopper test (R246, R247) -/

/-- Stage a change of `CHOP_FAULT` for its commit point; on an ACTIVE device it is an input of the cycle (R244). -/
def stageChop (d : Dev) (v : Nat) : Dev := stage d .host (.chop v)

/-- A change of `CHOP_FAULT` takes effect (R247). -/
def commitChop (d : Dev) (v : Nat) : Dev :=
  if v = 0 then wrB (wrB d Reg.NET_STAT_CHOP_FAULT false) Reg.NET_STAT_UNTESTED false
  else
    let was := rdB d Reg.NET_STAT_CHOP_FAULT
    let d := wrB d Reg.NET_STAT_CHOP_FAULT true
    let d := if v = 2 then wrB d Reg.NET_STAT_UNTESTED true else d
    if was then d
    else raise d Src.NET_CHOP_FAIL 0 0 (rd d Reg.NET_BUS_MEAN_MEAN)
      (rd d Reg.NET_TEST_RES_DELTA + 2 ^ 16 * rd d Reg.NET_TEST_RES_RESULT)

/-- A mean for the test; a span without samples has no mean, and its value is free. -/
def testMean (d : Dev) (t0 t1 : Nat) : Int × Dev :=
  match meanOf (smpIn d t0 t1) with
  | some m => (m, d)
  | none => ((freeVal d % 2 ^ 20 : Nat), useFree d)

/-- At a cycle boundary, a test that is due runs, or is skipped and tried again. -/
def chopTry (d : Dev) : Dev :=
  if d.net.due = false ∨ d.net.run.isSome ∨ ownsGate d = false ∨ d.firn.act.isNone then d
  else if rdB d Reg.NET_STAT_CHOP_ON ∨ 2 ≤ netLevel d ∨ d.net.mean < (rd d Reg.NET_TEST_VMIN_MV : Int) then
    wr d Reg.NET_TEST_RES_RESULT 3
  else
    let t := tickNs d
    let (ve, d) := testMean d (t - 100000) (t - 80000)
    let (v0, d) := testMean d (t - 20000) t
    setChop { d with net := { d.net with due := false, run := some (t, ve, v0) } } true

/-- A test falls due. -/
def chopDue (d : Dev) : Dev :=
  { d with net := { d.net with due := true, owed := match d.net.owed with | some t => some t | none => some d.k } }

/-- CHOP_TEST_DUE: every 200,000 ticks, at a cycle boundary. -/
def execChopTestDue (s : State) : Host.Outcome State Fault Refusal :=
  .next { s with d := if s.d.k % 200000 = 0 ∧ ownsGate s.d then chopTry (chopDue s.d) else s.d }

/-- CHOP_TEST_END: the pulse has lasted `TEST_US`. -/
def chopEnd (d : Dev) : Dev :=
  match d.net.run with
  | none => d
  | some (t, ve, v0) =>
    let us := rd d Reg.NET_TEST_TIME_TEST_US
    let e := t + us * 1000
    let (v1, d) := testMean d (e - 20000) e
    let delta := v0 - v1 + qdiv ((v0 - ve) * us) 80
    let d := { d with net := { d.net with run := none } }
    let d := if d.net.hold then d else setChop d false
    let d := wr d Reg.NET_TEST_RES_DELTA (ofS 16 delta)
    if (rd d Reg.NET_TEST_DV_DV_MIN : Int) ≤ delta ∧ delta ≤ (rd d Reg.NET_TEST_DV_DV_MAX : Int) then
      let d := wrB (wr d Reg.NET_TEST_RES_RESULT 1) Reg.NET_STAT_TEST_PASS true
      stageChop { d with net := { d.net with owed := none, lastPass := d.k } } 0
    else
      let d := wrB (wr d Reg.NET_TEST_RES_RESULT 2) Reg.NET_STAT_TEST_FAIL true
      stageChop (incSat d Reg.NET_CNT_FAILS 1) 1

/-- CHOP_TEST_END. -/
def execChopTestEnd (s : State) : Host.Outcome State Fault Refusal := .next { s with d := chopEnd s.d }

/-- CHOP_UNTESTED: 30 s since a test fell due and none has passed. -/
def execChopUntested (s : State) : Host.Outcome State Fault Refusal :=
  .next { s with d := match s.d.net.owed with
    | some t => if t + 600000 ≤ s.d.k ∧ rdB s.d Reg.NET_STAT_UNTESTED = false then stageChop s.d 2 else s.d
    | none => s.d }

/-! ### The control register and the bus record -/

/-- Whether a TRIP_CLR is accepted now (R239). -/
def tripClrOk (d : Dev) : Bool := decide (d.net.mean < (rd d Reg.NET_THR_WARN_MV : Int)) && !d.net.gap

/-- The commands of an accepted write of `NET_CTRL`. A TRIP_CLR that a pair commits with the inputs of its cycle takes effect
there, at the boundary (R18, R239). -/
def netCommands (d : Dev) (w : Nat) : Dev :=
  let d := if bit w 0 then
      let e := { d with net := { d.net with clrPend := true } }
      if d.apply then tripClear e else e
    else d
  if bit w 1 ∧ ownsGate d then chopDue d else d

/-- A write of `NET_CTRL` and its commands; on an ACTIVE device an accepted write is an input of the cycle (R249). A refused
TRIP_CLR, or a closed `XCH_EN`, leaves the rest of the write its effect (R12). -/
def netCtrl (d : Dev) (req : Requester) (w : Nat) : Dev :=
  let addr := 0x10090000
  regAccess d req addr w (fun d =>
    let no := bit w 0 && !d.apply && !tripClrOk d
    let v := openPart d addr (setBit w 0 (bit w 0 && !no))
    let bad := no || v.2
    let e := if d.apply = false ∧ forwards d req = true then okResp { d with hostCyc := d.hostCyc ++ [.regWrite req addr v.1] }
      else netCommands (writeFields d req addr v.1) v.1
    if bad then refuseW e req addr else e)

/-- TRIP_CLR. -/
def execTripClr (req : Requester) (w : Nat) (s : State) : Host.Outcome State Fault Refusal :=
  .next { s with d := netCtrl s.d req (setBit w 0 true) }

/-- TEST_NOW. -/
def execTestNow (req : Requester) (w : Nat) (s : State) : Host.Outcome State Fault Refusal :=
  .next { s with d := netCtrl s.d req (setBit w 1 true) }

/-- The registers a bus record loads at an image commit; a locked `NET_SENSE` never changes until reset (R236). -/
def loadBus (d : Dev) : Dev :=
  match (img d).bus with
  | none => d
  | some r =>
    let d := if rdB d Reg.NET_LOCK_LOCK then d else wr (wr d Reg.NET_SENSE_AIN r.ain) Reg.NET_SENSE_SCALE r.scale
    let d := wr (wr d Reg.NET_THR_WARN_MV r.warn) Reg.NET_THR_CHOP_OFF_MV r.chopOff
    let d := wr (wr d Reg.NET_THR_CHOP_ON_MV r.chopOn) Reg.NET_THR_CURB_MV r.curb
    let d := wr (wr d Reg.NET_THR_TRIP_MV r.trip) Reg.NET_THR_LOW_MV r.low
    let d := wr (wr d Reg.NET_CURB_MARGIN_MV r.margin) Reg.NET_HYST_MV r.hyst
    wr d Reg.NET_EXPORT_MAX_W r.exportMax

/-- Whether a value of a bus register set breaks the orders of R236, with one register replaced. -/
def netOrderBad (d : Dev) (addr w : Nat) : Bool :=
  let g := fun (f : Fld) => if f.addr = addr then bits w f.lo f.wd else rd d f
  let warn := g Reg.NET_THR_WARN_MV
  let off := g Reg.NET_THR_CHOP_OFF_MV
  let on := g Reg.NET_THR_CHOP_ON_MV
  let curb := g Reg.NET_THR_CURB_MV
  let trip := g Reg.NET_THR_TRIP_MV
  let nom := ((img d).bus.map (·.vNom)).getD (g Reg.NET_THR_LOW_MV + 1)
  decide (nom ≤ g Reg.NET_THR_LOW_MV ∨ warn ≤ nom ∨ off ≤ warn ∨ on ≤ off ∨ curb ≤ on ∨ trip ≤ curb ∨
    1000000 < trip ∨ curb ≤ g Reg.NET_CURB_MARGIN_MV + warn)

end Sys2Proof.Machine
end

