-- ==== Sys2Proof/Machine/AuxAdc.lean ====
section
/-!
DEFINITION. Auxiliary converters (chapter 19): triggers and passes (R441 to R443), conversions, calibration, results and
open-wire detection (R445 to R449), staged sequences (R440), and calibration captures (R450).
-/
namespace Sys2Proof.Machine

/-- A converter's live sequence and pass, and a change of it. -/
def conv (d : Dev) (c : Nat) : AuxConv := SMap.get {} d.aux.conv c
def setConv (d : Dev) (c : Nat) (f : AuxConv → AuxConv) : Dev := { d with aux := { d.aux with conv := SMap.mod {} d.aux.conv c f } }

/-- Whether a pass runs, and the entry in progress. -/
def convBusy (d : Dev) (c : Nat) : Bool := rdB d (Reg.AUX_CONV_STAT_BUSY c)
def convEntry (d : Dev) (c : Nat) : Nat := rd d (Reg.AUX_CONV_STAT_ENTRY c)

/-- The `AUX_CAL` word of an input and gain. -/
def auxCalWord (d : Dev) (input gain : Nat) : Nat :=
  rd d (Reg.AUX_CAL_GAIN input gain) + 2 ^ 16 * rd d (Reg.AUX_CAL_OFFSET input gain)

/-! ### Sequences (R440) -/

/-- The staged copy as a record; `PWM_AXIS` and `TICK_OFS` count only in their own mode. -/
def stagedRec (d : Dev) (c : Nat) : AuxRec :=
  let trig := rd d (Reg.AUX_CONV_CTRL_TRIG c)
  let n := rd d (Reg.AUX_CONV_CTRL_NENT c)
  { off := 0, conv := c, trig := trig, nent := n, axis := if trig = 3 then rd d (Reg.AUX_CONV_CTRL_PWM_AXIS c) else 0xFF,
    tickOfs := if trig = 2 then rd d (Reg.AUX_CONV_CTRL_TICK_OFS c) else 0,
    words := (List.range (min n 16)).map (fun e => rd d (Reg.AUX_SEQ_ENTRY c e)) }

/-- Whether the staged copy breaks R439. A converter OFF without entries breaks nothing. -/
def stagedBad (d : Dev) (c : Nat) : Bool :=
  let r := stagedRec d c
  if r.trig = 0 ∧ r.nent = 0 then false
  else (auxSeqFault (img d) r (fun x => if x = c then r.trig else (conv d x).trig)).isSome ||
    ((conv d (c - c % 2)).words.any (fun w => (auxEnt w).ilv) && c % 2 == 1 && r.trig != 4)

/-- Install a record as the live copy. -/
def installRec (d : Dev) (r : AuxRec) : Dev :=
  let d := setConv d r.conv (fun v => { v with trig := r.trig, axis := r.axis, ofs := r.tickOfs, words := r.words })
  wrB d (Reg.AUX_CONV_STAT_APPLY_PEND r.conv) false

/-! ### Passes (R441) -/

/-- A pass starts: a staged copy that waits is installed first, and the calibration in force is taken. -/
def startPass (d : Dev) (c : Nat) : Dev :=
  let d := if rdB d (Reg.AUX_CONV_STAT_APPLY_PEND c) then installRec d (stagedRec d c) else d
  let ws := (conv d c).words
  if ws.isEmpty then wrB d (Reg.AUX_CONV_STAT_BUSY c) false
  else
    let cal := ws.map (fun w => auxCalWord d (auxEnt w).input (auxEnt w).gain)
    let d := setConv d c (fun v => { v with
      cal := cal, cnt := 0, sum := 0, clip := false, open_ := false, inj := false, late := false, capBad := false })
    wr (wrB d (Reg.AUX_CONV_STAT_BUSY c) true) (Reg.AUX_CONV_STAT_ENTRY c) 0

/-- A PWM trigger or a `SW_GO` (R442): it starts a pass, waits one deep, or is dropped. -/
def trigger (d : Dev) (c : Nat) : Dev :=
  if !convBusy d c then startPass d c
  else if !rdB d (Reg.AUX_CONV_STAT_PEND c) then wrB d (Reg.AUX_CONV_STAT_PEND c) true
  else
    let d := wrB d (Reg.AUX_CONV_STAT_OVR_EV c) true
    let d := incSat d (Reg.AUX_CONV_CNT_OVR c) 1
    raise d Src.AUX_TRIG_OVR 0 0 c (convEntry d c)

/-- A pass ends: a continuous sequence or a pending trigger starts the next one. -/
def endPass (d : Dev) (c : Nat) : Dev :=
  let d := wrB d (Reg.AUX_CONV_STAT_BUSY c) false
  if (conv d c).trig = 1 then startPass d c
  else if rdB d (Reg.AUX_CONV_STAT_PEND c) then startPass (wrB d (Reg.AUX_CONV_STAT_PEND c) false) c
  else d

/-- AUX_TICK_TRIGGER at Tk + `TICK_OFS` (R443). -/
def tickTrigger (d : Dev) (c : Nat) : Dev :=
  if (conv d c).trig ≠ 2 then d
  else if !convBusy d c then startPass d c
  else if (conv d c).late then d
  else
    let d := setConv d c (fun v => { v with late := true })
    let d := wrB d (Reg.AUX_CONV_STAT_LATE_EV c) true
    let d := incSat d (Reg.AUX_CONV_CNT_LATE c) 1
    raise d Src.AUX_LATE 0 0 c (convEntry d c)

/-- AUX_TICK_TRIGGER. -/
def execAuxTickTrigger (conv : Nat) (s : State) : Host.Outcome State Fault Refusal :=
  .next { s with d := tickTrigger s.d conv }

/-- The axes' carrier centre on the converters of its pair: conversions under way restart after the injection, and PWM
passes are triggered (R441, R444). -/
def pwmCentre (d : Dev) (n : Nat) : Dev :=
  let p := n / 2
  let inj := fun (d : Dev) (c : Nat) => if convBusy d c then setConv d c (fun v => { v with inj := true }) else d
  let d := inj (inj d (2 * p)) (2 * p + 1)
  (List.range 8).foldl (fun d c => if (conv d c).trig = 3 ∧ (conv d c).axis = n then trigger d c else d) d

/-! ### Conversions (R445 to R449) -/

/-- Limit to 16 bits, and whether it limited. -/
def sat16 (x : Int) : Int := satS 16 x

/-- The calibrated result of a raw code under an `AUX_CAL` word, before its limit (R446). -/
def auxCalibrate (raw : Int) (w : Nat) : Int := asr ((raw - toS 16 (w / 2 ^ 16)) * (w % 2 ^ 16 : Nat) + 2 ^ 13) 14

/-- A raw code of the odd converter mapped onto the even one (R445). -/
def auxTrim (d : Dev) (p : Nat) (raw : Int) : Int :=
  sat16 (asr ((raw - toS 16 (rd d (Reg.AUX_TRIM_T_OFS p))) * rd d (Reg.AUX_TRIM_T_GAIN p) + 2 ^ 13) 14)

/-- The force of R434: the axes that take an input as their force, and `F_MAX`. -/
def forceInput (d : Dev) (input : Nat) (x : Int) : Dev :=
  ((img d).axes.filter (fun r => r.ainF == input)).foldl (fun d r =>
    let f := x * r.fScale
    let d := setAxis d r.axis (fun a => { a with force := f })
    let d := wr d (Reg.AXIS_FORCE_F r.axis) (ofS 32 f)
    if (r.fMax : Int) < f then axisFault d r.axis 8 Reg.AXIS_STAT_FORCE_EV Src.AXIS_FORCE else d) d

/-- Deliver a conversion's result as the latest of its input (R448). -/
def deliverAux (d : Dev) (input : Nat) (x : Int) (t : Nat) : Dev :=
  let d := { d with aux := { d.aux with latest := SMap.put d.aux.latest input (x, t) } }
  let d := forceInput d input x
  if (img d).bus.isSome ∧ rd d Reg.NET_SENSE_AIN = input then busSample d x t else d

/-- One conversion of a capture (R450): the raw code after the trim, or with `TRIM` before it, per converter. -/
def captureConv (d : Dev) (c : Nat) (e : AuxEnt) (odd : Bool) (raw mapped : Int) (clip : Bool) : Dev :=
  match d.aux.run with
  | none => d
  | some r =>
    if r.input ≠ e.input ∨ r.gain ≠ e.gain ∨ (r.trim ∧ e.ilv = false) ∨ 2 ^ r.n ≤ r.n0 + r.n1 then d
    else
      let bad := r.bad || clip || (conv d c).late
      let r := if r.trim && odd then { r with s1 := r.s1 + raw, n1 := r.n1 + 1, bad := bad }
        else { r with s0 := r.s0 + mapped, n0 := r.n0 + 1, bad := bad }
      let d := { d with aux := { d.aux with run := some r } }
      setConv d c (fun v => { v with capBad := true })

/-- The end of a capture that has all its conversions: the captured sums are held, or it fails (R450). -/
def captureEnd (d : Dev) : Dev :=
  match d.aux.run with
  | none => d
  | some r =>
    if r.n0 + r.n1 < 2 ^ r.n then d
    else
      let d := wrB { d with aux := { d.aux with run := none } } Reg.AUX_CAL_STAT_BUSY false
      if r.bad then wrB (wr d Reg.AUX_CAL_STAT_CODE 5) Reg.AUX_CAL_STAT_ERR true
      else if r.zero then wrB { d with aux := { d.aux with zero := some r } } Reg.AUX_CAL_STAT_ZERO_HELD true
      else wrB { d with aux := { d.aux with full := some r } } Reg.AUX_CAL_STAT_FULL_HELD true

/-- The bit of an input in the open-wire registers. -/
def setOpen (d : Dev) (input : Nat) (b : Bool) : Dev :=
  if input < 32 then wrFBit d Reg.AUX_OPEN_LO_INPUTS input b else wrFBit d Reg.AUX_OPEN_HI_INPUTS (input - 32) b

/-- An entry's last conversion has ended with result `x`: its record, its events, and the next entry (R447, R449). -/
def entryEnd (d : Dev) (c : Nat) (e : AuxEnt) (x : Int) : Dev :=
  let v := conv d c
  let i := convEntry d c
  let clip := v.clip && e.pull == 0
  let word := ofS 16 x + 2 ^ 16 * b2n (!v.late && !clip && !v.open_) + 2 ^ 17 * b2n v.late + 2 ^ 18 * b2n clip +
    2 ^ 19 * b2n v.open_ + 2 ^ 20 * b2n v.inj
  let d := wr (wr d (Reg.AUX_RES_DATA c i 0) word) (Reg.AUX_RES_DATA c i 1) (ofS 32 v.sum)
  let d := wr (wr d (Reg.AUX_RES_DATA c i 2) d.k) (Reg.AUX_RES_DATA c i 3) (d.k / 2 ^ 32)
  let d := if clip then
      raise (wrB d (Reg.AUX_CONV_STAT_CLIP_EV c) true) Src.AUX_CLIP 0 0 c i
    else d
  let d := if e.pull = 0 then d
    else if v.open_ then
      raise (setOpen (wrB d (Reg.AUX_CONV_STAT_OPEN_EV c) true) e.input true) Src.AUX_OPEN 0 0 c e.input
    else setOpen d e.input false
  let d := match d.aux.run with
    | some r => if v.capBad && v.open_ then { d with aux := { d.aux with run := some { r with bad := true } } } else d
    | none => d
  let d := captureEnd d
  let d := setConv d c (fun v => { v with cnt := 0, sum := 0, clip := false, open_ := false, inj := false, capBad := false })
  if i + 1 < v.words.length then wr d (Reg.AUX_CONV_STAT_ENTRY c) (i + 1) else endPass d c

/-- A conversion of a converter's sequence ends with a raw code, `subt` ns into the tick (R445 to R449). The conversions of an
interleaved entry alternate, the even converter first. -/
def convDone (d : Dev) (c : Nat) (raw : Int) (subt : Nat) : Dev :=
  if !convBusy d c then d
  else
    let v := conv d c
    let i := convEntry d c
    let e := auxEnt (v.words.getD i 0)
    let odd := e.ilv && v.cnt % 2 == 1
    let raw := sat16 raw
    let mapped := if odd then auxTrim d (c / 2) raw else raw
    let y := auxCalibrate mapped (v.cal.getD i 0x4000)
    let x := sat16 y
    let clip := raw == 32767 || raw == -32768 || y != x
    let lim : Int := rd d (Reg.AUX_OW_LIM_OW_LIM c)
    let isOpen := (e.pull == 1 && decide (lim ≤ x)) || (e.pull == 2 && decide (x ≤ -lim))
    let d := captureConv d c e odd raw mapped clip
    let d := setConv d c (fun v => { v with
      cnt := v.cnt + 1, sum := v.sum + x, clip := v.clip || clip, open_ := v.open_ || isOpen })
    let d := deliverAux d e.input x (tickNs d + subt)
    if (conv d c).cnt = e.count then entryEnd d c e x else d

/-- AUX_CONVERSION_DONE. -/
def execAuxConversionDone (conv : Nat) (raw : Int) (subt : Nat) (s : State) : Host.Outcome State Fault Refusal :=
  .next { s with d := convDone s.d conv raw subt }

/-! ### The control registers (R440, R441) -/

/-- `APPLY`: the staged copy is installed at the next pass start, or at once (R440). -/
def auxApply (d : Dev) (req : Requester) (c : Nat) : Dev :=
  if stagedBad d c then refuseW d req (0x100F0100 + 0x20 * c)
  else if convBusy d c ∨ rdB d (Reg.AUX_CONV_STAT_PEND c) then wrB d (Reg.AUX_CONV_STAT_APPLY_PEND c) true
  else
    let d := installRec d (stagedRec d c)
    if (conv d c).trig = 1 then startPass d c else d

/-- A write of `AUX_CONV_CTRL[c]` and its commands. -/
def auxConvCtrl (d : Dev) (req : Requester) (c w : Nat) : Dev :=
  let addr := 0x100F0100 + 0x20 * c
  regAccess d req addr w (fun d =>
    if limitsBad d addr w then refuseW d req addr
    else
      let d := writeFields d req addr w
      let d := if bit w 30 then auxApply d req c else d
      if bit w 31 ∧ (conv d c).trig = 0 then trigger d c else d)

/-- SW_GO. -/
def execSwGo (req : Requester) (conv : Nat) (w : Nat) (s : State) : Host.Outcome State Fault Refusal :=
  .next { s with d := auxConvCtrl s.d req conv (setBit w 31 true) }

/-- APPLY. -/
def execApply (req : Requester) (conv : Nat) (w : Nat) (s : State) : Host.Outcome State Fault Refusal :=
  .next { s with d := auxConvCtrl s.d req conv (setBit w 30 true) }

/-- An image commit replaces both copies of every converter by its record (R438, R440). -/
def auxCommit (d : Dev) : Dev :=
  (List.range 8).foldl (fun d c =>
    let r := ((img d).aux.find? (fun r => r.conv == c)).getD { (default : AuxRec) with conv := c, axis := 0xFF }
    let d := wr (wr d (Reg.AUX_CONV_CTRL_TRIG c) r.trig) (Reg.AUX_CONV_CTRL_NENT c) r.nent
    let d := wr (wr d (Reg.AUX_CONV_CTRL_PWM_AXIS c) r.axis) (Reg.AUX_CONV_CTRL_TICK_OFS c) r.tickOfs
    let d := (List.range 16).foldl (fun d e => wr d (Reg.AUX_SEQ_ENTRY c e) (r.words.getD e 0)) d
    let d := wrB (wrB d (Reg.AUX_CONV_STAT_BUSY c) false) (Reg.AUX_CONV_STAT_PEND c) false
    let d := installRec d r
    if r.trig = 1 then startPass d c else d) d

/-- Whether the live sequences sample the bus input (R237). -/
def busSampled (d : Dev) : Bool :=
  (List.range 8).any (fun c => (conv d c).words.any (fun w => (auxEnt w).input == rd d Reg.NET_SENSE_AIN))

/-! ### Calibration (R450) -/

/-- Why a command is refused, as its code; 0 where it is performed. -/
def auxCalRefusal (d : Dev) (cmd w : Nat) : Nat :=
  let input := bits w 8 6
  let ilv := (List.range 8).any (fun c => (conv d c).words.any (fun x => (auxEnt x).ilv && (auxEnt x).input == input))
  if !allMaint d then 1
  else if 6 < bits w 16 3 ∨ bits w 20 4 < 4 ∨ 12 < bits w 20 4 ∨ (bit w 4 ∧ !ilv) then 2
  else if cmd ≠ 4 ∧ rdB d Reg.AUX_CAL_STAT_BUSY then 3
  else 0

/-- A refused or failed command. -/
def auxCalErr (d : Dev) (code : Nat) : Dev := wrB (wr d Reg.AUX_CAL_STAT_CODE code) Reg.AUX_CAL_STAT_ERR true

/-- A capture is abandoned; all captures are discarded (R114, R450). -/
def auxAbandon (d : Dev) : Dev :=
  if d.aux.run.isNone then d
  else
    let d := { d with aux := { d.aux with run := none, zero := none, full := none } }
    let d := wrB (wrB d Reg.AUX_CAL_STAT_ZERO_HELD false) Reg.AUX_CAL_STAT_FULL_HELD false
    wrB (wr d Reg.AUX_CAL_STAT_CODE 9) Reg.AUX_CAL_STAT_BUSY false

/-- The fields of a write of `AUX_CAL_CTRL` beside its command. A write that leaves their limits changes none (R451). -/
def auxCalFields (d : Dev) (w : Nat) : Dev :=
  if limitsBad d 0x100F0000 w then d
  else
    let d := wr (wr d Reg.AUX_CAL_CTRL_TRIM (bits w 4 1)) Reg.AUX_CAL_CTRL_INPUT (bits w 8 6)
    wr (wr d Reg.AUX_CAL_CTRL_GAIN (bits w 16 3)) Reg.AUX_CAL_CTRL_LOG2N (bits w 20 4)

/-- A write of `AUX_CAL_CTRL` with a command. A refused command leaves the other fields of its write their values (R12). -/
def auxCalCtrl (d : Dev) (req : Requester) (w cmd : Nat) (act : Dev → Dev) : Dev :=
  let addr := 0x100F0000
  regAccess d req addr w (fun d =>
    let code := auxCalRefusal d cmd w
    let e := auxCalFields d w
    if code ≠ 0 then refuseW (auxCalErr e code) req addr else act (okResp e))

/-- Start a capture. -/
def auxCapture (d : Dev) (zero : Bool) : Dev :=
  let r : AuxCap := { zero := zero, input := rd d Reg.AUX_CAL_CTRL_INPUT, gain := rd d Reg.AUX_CAL_CTRL_GAIN,
                      trim := rdB d Reg.AUX_CAL_CTRL_TRIM, n := rd d Reg.AUX_CAL_CTRL_LOG2N, startK := d.k }
  let d := { d with aux := { d.aux with run := some r } }
  wrB (wr d Reg.AUX_CAL_STAT_CODE 0) Reg.AUX_CAL_STAT_BUSY true

/-- AUX_CAPTURE_ZERO. -/
def execAuxCaptureZero (req : Requester) (w : Nat) (s : State) : Host.Outcome State Fault Refusal :=
  .next { s with d := auxCalCtrl s.d req w 1 (fun d => auxCapture d true) }

/-- AUX_CAPTURE_FULL. -/
def execAuxCaptureFull (req : Requester) (w : Nat) (s : State) : Host.Outcome State Fault Refusal :=
  .next { s with d := auxCalCtrl s.d req w 2 (fun d => auxCapture d false) }

/-- round(a / b) for b ≠ 0, halves away from zero. -/
def auxRound (a b : Int) : Int := if b < 0 then roundDiv (-a) (-b) else roundDiv a b

/-- The new calibration entry from means z / n and f / m: its gain and offset, or its code (R115, R450). -/
def auxEntry (d : Dev) (z f : Int) (n m : Nat) : Nat × Int × Int :=
  let rz := toS 16 (rd d Reg.AUX_CAL_REF_REFZ)
  let rf := toS 16 (rd d Reg.AUX_CAL_REF_REFF)
  let diff := f * n - z * m
  if diff.natAbs < 2 ^ 12 * (n * m) then (7, 0, 0)
  else
    let g := auxRound ((2 : Int) ^ 14 * (rf - rz) * (n * m : Nat)) diff
    if g < 0x2000 ∨ 0x6000 < g then (8, 0, 0) else (0, g, auxRound (z * g - rz * (2 : Int) ^ 14 * n) (g * n))

/-- The trim from the means of both converters: its gain and offset, or its code. -/
def auxTrimEntry (z f : AuxCap) : Nat × Int × Int :=
  let d0 := f.s0 * z.n0 - z.s0 * f.n0
  let d1 := f.s1 * z.n1 - z.s1 * f.n1
  if d1.natAbs < 2 ^ 12 * (z.n1 * f.n1) then (7, 0, 0)
  else
    let g := auxRound ((2 : Int) ^ 14 * d0 * (z.n1 * f.n1 : Nat)) (d1 * (z.n0 * f.n0 : Nat))
    if g < 0x2000 ∨ 0x6000 < g then (8, 0, 0)
    else (0, g, auxRound (z.s1 * g * z.n0 - z.s0 * (2 : Int) ^ 14 * z.n1) (g * (z.n0 * z.n1 : Nat)))

/-- A 16-bit offset; one outside 16 bits is a free value (log entry 21). -/
def auxOfs (d : Dev) (o : Int) : Nat × Dev :=
  if -(2 : Int) ^ 15 ≤ o ∧ o < (2 : Int) ^ 15 then (ofS 16 o, d) else (freeVal d % 2 ^ 16, useFree d)

/-- COMPUTE (R450). -/
def auxCompute (d : Dev) (req : Requester) : Dev :=
  match d.aux.zero, d.aux.full with
  | some z, some f =>
    if z.input ≠ f.input ∨ z.gain ≠ f.gain ∨ z.trim ≠ f.trim then refuseW (auxCalErr d 6) req 0x100F0000
    else
      let (code, g, o) := auxEntry d z.s0 f.s0 z.n0 f.n0
      let (tc, tg, tofs) := if z.trim then auxTrimEntry z f else (0, 0, 0)
      let d := wrB d Reg.AUX_CAL_STAT_DONE true
      if code ≠ 0 then auxCalErr d code
      else if tc ≠ 0 then auxCalErr d tc
      else
        let (ow, d) := auxOfs d o
        let d := wr (wr d (Reg.AUX_CAL_GAIN z.input z.gain) g.toNat) (Reg.AUX_CAL_OFFSET z.input z.gain) ow
        let d := wr d Reg.AUX_CAL_STAT_CODE 0
        if z.trim then
          let p := z.input / 16
          let (tw, d) := auxOfs d tofs
          wr (wr d (Reg.AUX_TRIM_T_GAIN p) tg.toNat) (Reg.AUX_TRIM_T_OFS p) tw
        else d
  | _, _ => refuseW (auxCalErr d 6) req 0x100F0000

/-- AUX_COMPUTE. -/
def execAuxCompute (req : Requester) (w : Nat) (s : State) : Host.Outcome State Fault Refusal :=
  .next { s with d := auxCalCtrl s.d req w 3 (fun d => auxCompute d req) }

/-- AUX_CAL_ABORT. -/
def execAuxCalAbort (req : Requester) (w : Nat) (s : State) : Host.Outcome State Fault Refusal :=
  .next { s with d := auxCalCtrl s.d req w 4 auxAbandon }

/-- SET_NOMINAL: the nominal entry for the input and gain of the command. -/
def auxNominal (d : Dev) : Dev :=
  let i := rd d Reg.AUX_CAL_CTRL_INPUT
  let g := rd d Reg.AUX_CAL_CTRL_GAIN
  let d := wr (wr d (Reg.AUX_CAL_GAIN i g) 0x4000) (Reg.AUX_CAL_OFFSET i g) 0
  wr (wrB d Reg.AUX_CAL_STAT_DONE true) Reg.AUX_CAL_STAT_CODE 0

/-- AUX_SET_NOMINAL. -/
def execAuxSetNominal (req : Requester) (w : Nat) (s : State) : Host.Outcome State Fault Refusal :=
  .next { s with d := auxCalCtrl s.d req w 5 auxNominal }

/-- AUX_CAPTURE_TIMEOUT: 100 ms without the capture's conversions. -/
def auxTimeout (d : Dev) : Dev :=
  match d.aux.run with
  | some r =>
    if r.startK + 2000 ≤ d.k then
      auxCalErr (wrB { d with aux := { d.aux with run := none } } Reg.AUX_CAL_STAT_BUSY false) 4
    else d
  | none => d

/-- AUX_CAPTURE_TIMEOUT. -/
def execAuxCaptureTimeout (s : State) : Host.Outcome State Fault Refusal := .next { s with d := auxTimeout s.d }

end Sys2Proof.Machine
end

