-- ==== Sys2Proof/Machine/Axes.lean ====
section
/-!
DEFINITION. Fixture axes (chapter 18): the encoder, current sampling and the modulator's window (R424 to R426), the current
loops and the voltage limit (R426, R427), the speed, position and force loops (R426, R428, R434), the back-EMF estimate
(R431 to R433), and the state machine with its commands (R429, R430).
-/
namespace Sys2Proof.Machine

/-! ### The encoder (R426) -/

/-- CRC-8 with polynomial 0x07, most significant bit first from 0. -/
def encCrc (b : List Byte) : Nat := b.foldl (crcByteM 8 0x07) 0

/-- A read of the encoder: three bytes of position and their CRC; `spd` is the speed it shows, in 0.1 rpm (log entry 40). -/
def encRead (d : Dev) (r : AxisRec) (enc : List Byte) (spd : Int) : Dev :=
  let n := r.axis
  if enc.length = 4 ∧ encCrc (enc.take 3) = beAt enc 3 1 then
    let raw := beAt enc 0 3
    let a := axis d n
    let raw0 := if a.encOk then a.raw else 0
    let step : Int := if a.encOk then toS 24 (raw + 2 ^ 24 - raw0) else raw
    let pos := a.pos + (if r.encInv then -step else step)
    let d := setAxis d n (fun a => { a with raw := raw, pos := pos, encOk := true, encBad := 0, spd := spd })
    let d := wr d (Reg.AXIS_POS_POS n) (ofS 32 (pos.fdiv 256))
    wr d (Reg.AXIS_SPEED_SPEED n) (ofS 32 spd)
  else
    let d := setAxis d n (fun a => { a with encBad := a.encBad + 1 })
    if 3 ≤ (axis d n).encBad then axisFault d n 7 Reg.AXIS_STAT_ENC_EV Src.AXIS_ENC else d

/-- The electrical angle in counts of 2^-32 turn (R426). -/
def elecAngle (r : AxisRec) (a : AxisSt) : Nat :=
  (((a.pos * (r.poles : Int) * 256) % (2 : Int) ^ 32).toNat + r.angOfs * 2 ^ 16) % 2 ^ 32

/-! ### Vectors -/

/-- √3 with 96 fraction bits. -/
def sqrt3 : Int := (isqrt 98 (3 * 2 ^ 192) : Nat)

/-- The three phase values of a dq vector at an angle, in units of 2^-193 of the vector's. -/
def phases (x y : Int) (ang : Nat) : List Int :=
  let cs := trig ang
  let al := x * cs.1 - y * cs.2
  let be := x * cs.2 + y * cs.1
  [2 * al * trigOne, -al * trigOne + sqrt3 * be, -al * trigOne - sqrt3 * be]

/-- The dq currents of three phase currents of zero sum, amplitude-invariant (log entry 41). -/
def parkCur (i : List Int) (ang : Nat) : Int × Int :=
  let cs := trig ang
  let ia := i.getD 0 0
  let df := i.getD 1 0 - i.getD 2 0
  (qdiv (ia * sqrt3 * cs.1 + df * trigOne * cs.2) (sqrt3 * trigOne),
   qdiv (-(ia * sqrt3 * cs.2) + df * trigOne * cs.1) (sqrt3 * trigOne))

/-- The phase left out of the sampling: the one with the highest voltage, so the shortest low-side on-time (R424). -/
def skipPhase (v : List Int) : Nat :=
  let m := v.foldl max (v.getD 0 0)
  ((List.range 3).find? (fun i => v.getD i 0 == m)).getD 0

/-- The highest, middle and lowest of three values. -/
def order3 (v : List Int) : Int × Int × Int :=
  let a := v.getD 0 0
  let b := v.getD 1 0
  let c := v.getD 2 0
  let hi := max a (max b c)
  let lo := min a (min b c)
  (hi, a + b + c - hi - lo, lo)

/-- The carrier period and the window with both dead times, ns (R423, R424). -/
def carrierNs (r : AxisRec) : Int := roundDiv 100000000 r.fPwm * 10
def needNs (r : AxisRec) : Int := (if r.minWin = 0 then 1200 else r.minWin : Nat) + 2 * (r.deadtime : Int)

/-- The bus voltage in the units of `phases` over nV. -/
def busUnits (d : Dev) : Int := max 0 d.net.mean * 1000000 * (2 : Int) ^ (193 : Nat)

/-- Whether the window of symmetric zero vectors reaches `MIN_WIN`, and whether the zero-vector share can make it (R424). -/
def windowOk (d : Dev) (r : AxisRec) (v : List Int) : Bool × Bool :=
  let (hi, mid, lo) := order3 v
  let vb := busUnits d
  (decide (2 * needNs r * vb ≤ carrierNs r * (vb - 2 * mid + hi + lo)),
   decide (needNs r * vb ≤ carrierNs r * (vb - (mid - lo))))

/-! ### Current sampling (R424, R425) -/

/-- Put the currents of a period into the state and the registers. -/
def putCur (d : Dev) (n : Nat) (iD iQ : Int) : Dev :=
  let d := setAxis d n (fun a => { a with iD := iD, iQ := iQ })
  wr (wr d (Reg.AXIS_CUR_IQ n) (ofS 16 (satS 16 (qdiv iQ 10000)))) (Reg.AXIS_CUR_ID n) (ofS 16 (satS 16 (qdiv iD 10000)))

/-- A current above 1.25 × `I_MAX` (R425). -/
def overCur (r : AxisRec) (i : List Int) (unit : Int) : Bool := i.any (fun x => decide (5000 * (r.iMax : Int) * unit < 4 * (x.natAbs : Int)))

/-- The currents from the raw codes of the sampled phases. -/
def sampledCur (d : Dev) (r : AxisRec) (v : List Int) (raw : List Int) : List Int :=
  let out := skipPhase v
  let ph := (List.range 3).filter (· != out)
  let x := fun (j : Nat) => sat16 (auxCalibrate (raw.getD j 0) (auxCalWord d (r.ainI.getD (ph.getD j 0) 0) 0)) * r.iScale
  (List.range 3).map (fun i => if i = out then -(x 0 + x 1) else if i = ph.getD 0 0 then x 0 else x 1)

/-- The sampling of a period that drives the motor: the window test, the skip with its predicted current, the pattern change,
and the overcurrent. A predicted current is a free value: the rule names the model and not its discrete form (log entry
42). -/
def sample (d : Dev) (r : AxisRec) (raw : List Int) : Dev :=
  let n := r.axis
  let a := axis d n
  let ang := elecAngle r a
  let v := phases a.vD a.vQ ang
  let (ok, shift) := windowOk d r v
  if !ok && decide (a.skips < 3) then
    let d := incSat (setAxis d n (fun a => { a with skips := a.skips + 1 })) (Reg.AXIS_SKIP_SKIPS n) 1
    let iD := toS 32 (freeVal d)
    let d := useFree d
    let iQ := toS 32 (freeVal d)
    let d := putCur (useFree d) n iD iQ
    if overCur r (phases iD iQ ang) ((2 : Int) ^ (193 : Nat)) then axisFault d n 6 Reg.AXIS_STAT_OC_EV Src.AXIS_OC else d
  else
    let d := setAxis d n (fun a => { a with skips := 0 })
    let d := if ok then d else raise (incSat d (Reg.AXIS_SKIP_PATTERN n) 1) Src.AXIS_PATTERN 0 0 n 0
    let d := if ok || shift then d
      else
        let (_, mid, lo) := order3 v
        let num := (carrierNs r - needNs r) * busUnits d
        let den := carrierNs r * (mid - lo)
        let sD := qdiv (a.vD * num) den
        let sQ := qdiv (a.vQ * num) den
        setAxis d n (fun b => { b with vD := sD, vQ := sQ, heldD := a.vD - sD, heldQ := a.vQ - sQ })
    let i := sampledCur d r v raw
    let (iD, iQ) := parkCur i ang
    let d := putCur d n iD iQ
    if overCur r i 1 then axisFault d n 6 Reg.AXIS_STAT_OC_EV Src.AXIS_OC else d

/-! ### The current loops (R426, R427) -/

/-- Whether a voltage vector reaches V_LIM = `MOD_MAX` % × V_bus / √3 (nV). -/
def atVlim (d : Dev) (vD vQ : Int) : Bool :=
  let l : Int := (rd d Reg.AXIS_MOD_MOD_MAX : Int) * max 0 d.net.mean * 10000
  decide (l * l ≤ 3 * (vD * vD + vQ * vQ))

/-- The q component that fits V_LIM beside a d component. -/
def fitQ (d : Dev) (vD vQ : Int) : Int :=
  let l : Int := (rd d Reg.AXIS_MOD_MOD_MAX : Int) * max 0 d.net.mean * 10000
  let q : Int := (isqrt 64 ((l * l).fdiv 3 - vD * vD).toNat : Nat)
  if vQ < 0 then -q else q

/-- One period of the current loops: the voltages of the next period. -/
def currentLoops (d : Dev) (n : Nat) : Dev :=
  let a := axis d n
  let kp : Int := rd d (Reg.AXIS_GAIN_I_KP n)
  let ki : Int := rd d (Reg.AXIS_GAIN_I_KI n)
  let eD := -a.iD
  let eQ := a.iRef - a.iQ
  let iD := a.intD + ki * eD
  let iQ := a.intQ + ki * eQ
  let vD := kp * eD + iD + a.heldD
  let vQ := kp * eQ + iQ + a.heldQ
  let lim := atVlim d vD vQ
  let d := wrB d (Reg.AXIS_STAT_AT_VLIM n) lim
  if lim then
    let q := fitQ d vD vQ
    setAxis d n (fun a => { a with vD := vD, vQ := q, heldD := 0, heldQ := 0 })
  else setAxis d n (fun a => { a with vD := vD, vQ := vQ, intD := iD, intQ := iQ, heldD := 0, heldQ := 0 })

/-! ### The catch (R432) -/

/-- Whether an axis turns in its commanded direction. -/
def turnsRight (a : AxisSt) : Bool := if a.dir = 0 then decide (0 < a.spd) else decide (a.spd < 0)

/-- The catch: integrator and ramp preset, the brake driven on, RUN. -/
def catchAxis (d : Dev) (r : AxisRec) : Dev :=
  let n := r.axis
  let a := axis d n
  let vq := qdiv ((r.ke : Int) * 1000 * twoPi * r.poles * a.spd) (600 * trigOne)
  let d := setAxis d n (fun a => { axisClear a with intQ := vq, ramp := a.spd * 2000 })
  let d := driveBrake d n true
  setAxState (wrB d (Reg.AXIS_STAT_START_EV n) true) n axRUN

/-- Whether the catch condition is met. -/
def catchOk (r : AxisRec) (a : AxisSt) : Bool := decide (a.spd.natAbs ≤ 10 * r.catchRpm) && turnsRight a

/-- A carrier centre of an axis: `raw` are the raw codes of its two injected current conversions, in phase order. -/
def pwmPeriod (d : Dev) (n : Nat) (raw : List Int) (enc : List Byte) (spd : Int) : Dev :=
  match axisRec d n with
  | none => d
  | some r =>
    let d := pwmCentre d n
    let d := encRead d r enc spd
    let st := axState d n
    if st = axARMING ∨ st = axTEST ∨ (st = axRUN ∧ (axis d n).short = false) then
      let d := sample d r raw
      if axState d n = st then currentLoops d n else d
    else if st = axSHORT ∨ st = axSTOPPING ∨ st = axRUN ∨ st = axLOCKED then
      let d := sample (setAxis d n (fun a => { a with vD := 0, vQ := 0, skips := 0 })) r raw
      if axState d n = axSHORT && catchOk r (axis d n) then catchAxis d r else d
    else d

/-- AXIS_PWM_PERIOD. -/
def execAxisPwmPeriod (axis : Nat) (raw : List Int) (enc : List Byte) (spd : Int) (s : State) :
    Host.Outcome State Fault Refusal :=
  .next { s with d := pwmPeriod s.d axis raw enc spd }

/-! ### The loops of a tick (R426, R428, R434) -/

/-- A set value in force: SPEED, ACCEL, POS, F_SET, F_CONTACT. -/
def axSet (a : AxisSt) (i : Nat) : Nat := a.set.getD i 0

/-- The set values as the registers hold them. -/
def setValues (d : Dev) (n : Nat) : List Nat :=
  [rd d (Reg.AXIS_SPEED_SET_SPEED n), rd d (Reg.AXIS_SPEED_SET_ACCEL n), rd d (Reg.AXIS_POS_SET_POS n),
   rd d (Reg.AXIS_FORCE_SET_F_SET n), rd d (Reg.AXIS_FORCE_CONTACT_F_CONTACT n)]

/-- The speed target of the position loop towards `goal` (1/2^24 revolution), in 1/20,000 rpm: `KP_P` × error, within a
trapezoidal profile of speed `vmax` rpm and deceleration `acc` rpm/s (log entry 43). -/
def posTarget (d : Dev) (n : Nat) (goal pos : Int) (vmax acc : Nat) : Int :=
  let e := goal - pos
  let t := qdiv ((rd d (Reg.AXIS_POS_CFG_KP_P n) : Int) * e * 20000) (2 ^ (24 : Nat))
  let stop : Int := (isqrt 64 (120 * acc * e.natAbs * 400000000 / 2 ^ 24) : Nat)
  let b := min ((vmax : Int) * 20000) stop
  clampI (-b) b t

/-- The speed target of the mode in force, in 1/20,000 rpm, with the force loop's state. -/
def modeTarget (d : Dev) (n : Nat) : Int × AxisSt :=
  let a := axis d n
  let v : Int := (axSet a 0 : Int) * 20000
  let sg : Int := if a.dir = 0 then 1 else -1
  if a.mode = 2 then (posTarget d n (toS 32 (axSet a 2) * 256) a.pos (axSet a 0) (axSet a 1), a)
  else if a.mode = 3 then
    let touch := a.touch || decide ((axSet a 4 : Int) ≤ a.force)
    if !touch then (sg * v, a)
    else
      let e := (axSet a 3 : Int) - a.force
      let i := a.intF + (rd d (Reg.AXIS_GAIN_F_KI_F n) : Int) * e
      let t := qdiv ((rd d (Reg.AXIS_GAIN_F_KP_F n) : Int) * e + i) 5
      (sg * clampI (-v) v t, { a with touch := true, intF := i })
  else (sg * v, a)

/-- `HOLDING` (R434). -/
def holdingTick (d : Dev) (n : Nat) : Dev :=
  let a := axis d n
  let near :=
    if a.mode = 2 then decide ((toS 32 (axSet a 2) * 256 - a.pos).natAbs ≤ 256 * rd d (Reg.AXIS_POS_CFG_POS_WIN n))
    else if a.mode = 3 then decide (50 * ((axSet a 3 : Int) - a.force).natAbs ≤ axSet a 3)
    else false
  let k := if near then min 20 (a.holdN + 1) else 0
  wrB (setAxis d n (fun a => { a with holdN := k })) (Reg.AXIS_STAT_HOLDING n) (k == 20)

/-- The speed loop: `target` in 1/20,000 rpm, ramped by `acc` a tick where it is given (R426 to R428). -/
def speedLoop (d : Dev) (r : AxisRec) (target : Int) (acc : Option Nat) : Dev :=
  let n := r.axis
  let a := axis d n
  let top : Int := (r.speedMax : Int) * 20000
  let target := clampI (-top) top target
  let lim := rdB d (Reg.AXIS_STAT_AT_VLIM n)
  let ramp := match acc with
    | none => target
    | some c => if lim then a.spd * 2000 else a.ramp + clampI (-(c : Int)) c (target - a.ramp)
  let e := ramp - a.spd * 2000
  let i := if lim then a.intS else a.intS + (rd d (Reg.AXIS_GAIN_S_KI n) : Int) * e
  let m : Int := (r.iMax : Int) * 1000
  let ref := clampI (-m) m (qdiv ((rd d (Reg.AXIS_GAIN_S_KP n) : Int) * e + i) 20)
  let short := acc.isSome && rdB d Reg.NET_STAT_CHOP_FAULT && decide (ref * a.spd < 0)
  setAxis d n (fun a => { a with
    ramp := ramp, intS := if short then a.intS else i, iRef := ref, short := short })

/-- `Ke_est` of the cycle that has ended (R433). -/
def keCycle (d : Dev) (r : AxisRec) : Dev :=
  let n := r.axis
  let a := axis d n
  let d := setAxis d n (fun a => { a with keN := 0, keMin := 0, keMax := 0, keV := 0, keW := 0 })
  if a.keN < 20 ∨ 5 * a.keMin < 10 * r.speedMax ∨ a.keMax ≤ 50 * (a.keMax - a.keMin) ∨ a.keW = 0 then d
  else
    let sg : Int := if a.keW < 0 then -1 else 1
    let num := a.keV * 600 * trigOne * sg
    let den := 1000000 * twoPi * r.poles * (a.keW.natAbs : Int)
    let d := wr d (Reg.AXIS_KE_KE n) (ofS 32 (qdiv num den))
    let bad := decide (15 * (r.ke : Int) * den < 100 * (num - r.ke * den).natAbs)
    let d := setAxis d n (fun a => { a with keBad := if bad then a.keBad + 1 else 0 })
    if 3 ≤ (axis d n).keBad then axisKe d n else d

/-- The tick's share of the sums of R433. -/
def keTick (d : Dev) (r : AxisRec) : Dev :=
  let s := (axis d r.axis).spd
  setAxis d r.axis (fun a => { a with
    keN := a.keN + 1, keMin := if a.keN = 0 then s.natAbs else min a.keMin s.natAbs, keMax := max a.keMax s.natAbs,
    keV := a.keV + a.vQ * 1000 - (r.rs : Int) * a.iQ, keW := a.keW + s })

/-- An axis at a tick edge. -/
def axisTick (d : Dev) (r : AxisRec) : Dev :=
  let n := r.axis
  let d := if d.k % 20 = 0 then keCycle d r else d
  let st := axState d n
  if st = axRUN then
    let (t, a) := modeTarget d n
    let d := setAxis d n (fun _ => a)
    let d := speedLoop d r t (some (axSet a 1))
    keTick (holdingTick d n) r
  else if st = axARMING then
    let a := axis d n
    speedLoop d r (posTarget d n a.hold a.pos r.speedMax 65535) none
  else if st = axTEST then
    let i := qdiv (13 * (r.tHold : Int) * 1000000000) (15 * (r.poles : Int) * r.ke)
    setAxis d n (fun a => { a with iRef := i })
  else d

/-- Every axis at a tick edge. -/
def axesTick (d : Dev) : Dev := (img d).axes.foldl axisTick d

/-! ### The state machine (R429, R431) -/

/-- AXIS_MEASURE_END: the phase peak back-EMF in µV, whether a line voltage reached 95 % of the bus, and whether the phase
sequence agrees with the encoder's direction (R431). -/
def measureEnd (d : Dev) (n emf : Nat) (clamp seqOk : Bool) : Dev :=
  match axisRec d n with
  | none => d
  | some r =>
    if axState d n ≠ axMEASURE then d
    else if clamp then setAxState d n axSHORT
    else if !seqOk then axisFault d n 7 Reg.AXIS_STAT_ENC_EV Src.AXIS_ENC
    else
      let a := axis d n
      let num := (emf : Int) * 600 * trigOne
      let den := twoPi * r.poles * (a.spd.natAbs : Int)
      let (ke, d) : Int × Dev := if den = 0 then ((freeVal d % 2 ^ 32 : Nat), useFree d) else (qdiv num den, d)
      let d := wr d (Reg.AXIS_KE_KE n) (ofS 32 ke)
      let bad := if den = 0 then decide (15 * (r.ke : Int) < 100 * (ke - r.ke).natAbs)
        else decide (15 * (r.ke : Int) * den < 100 * (num - r.ke * den).natAbs)
      if bad then axisKe d n
      else if catchOk r a then catchAxis d r
      else setAxState d n axSHORT

/-- AXIS_MEASURE_END. -/
def execAxisMeasureEnd (axis emf : Nat) (clamp seqOk : Bool) (s : State) : Host.Outcome State Fault Refusal :=
  .next { s with d := measureEnd s.d axis emf clamp seqOk }

/-- Field-oriented hold of the position read last, with the brake driven on: ARMING. An axis without a brake record has no
feedback to wait for and enters RUN (log entry 44). -/
def armAxis (d : Dev) (n : Nat) : Dev :=
  let d := setAxis d n (fun a => { axisClear a with hold := a.pos })
  let d := driveBrake d n true
  if hasBrake d n then setAxState d n axARMING
  else setAxState (wrB d (Reg.AXIS_STAT_START_EV n) true) n axRUN

/-- All switches off: OFF, reached from STOPPING. -/
def axisOff (d : Dev) (n : Nat) : Dev :=
  let d := setAxis d n axisClear
  setAxState (wrB d (Reg.AXIS_STAT_STOP_EV n) true) n axOFF

/-- Standstill (R429). -/
def standstill (d : Dev) (n : Nat) : Dev :=
  match axisRec d n with
  | none => d
  | some r =>
    let st := axState d n
    if 10 * r.stillRpm ≤ (axis d n).spd.natAbs then d
    else if st = axSHORT then armAxis d n
    else if st = axSTOPPING then
      let d := driveBrake d n false
      if hasBrake d n then setAxis d n (fun a => { a with fbWait := true }) else axisOff d n
    else d

/-- AXIS_STANDSTILL: the speed has been below `STILL_RPM` for `STILL_MS`. -/
def execAxisStandstill (axis : Nat) (s : State) : Host.Outcome State Fault Refusal :=
  .next { s with d := standstill s.d axis }

/-- `STOP_MS` has elapsed in STOPPING. -/
def stopSlow (d : Dev) (n : Nat) : Dev :=
  let a := axis d n
  let ms := ((axisRec d n).map (·.stopMs)).getD 0
  if axState d n = axSTOPPING ∧ a.slow = false ∧ a.fbWait = false ∧ a.stopK + 20 * ms ≤ d.k then
    let d := driveBrake (setAxis d n (fun a => { a with slow := true })) n false
    raise (wrB d (Reg.AXIS_STAT_SLOW_EV n) true) Src.AXIS_STOP_SLOW 0 0 n 0
  else d

/-- AXIS_STOP_SLOW. -/
def execAxisStopSlow (axis : Nat) (s : State) : Host.Outcome State Fault Refusal := .next { s with d := stopSlow s.d axis }

/-- A force input without a result for 1 ms counts as a force above `F_MAX` (R448). -/
def forceTimeout (d : Dev) (n : Nat) : Dev :=
  match axisRec d n with
  | none => d
  | some r =>
    let t := ((SMap.find d.aux.latest r.ainF).map (·.2)).getD 0
    if r.ainF ≠ 0xFF ∧ t + 1000000 ≤ tickNs d + 49999 then axisFault d n 8 Reg.AXIS_STAT_FORCE_EV Src.AXIS_FORCE else d

/-- AXIS_FORCE_TIMEOUT. -/
def execAxisForceTimeout (axis : Nat) (s : State) : Host.Outcome State Fault Refusal :=
  .next { s with d := forceTimeout s.d axis }

/-- `BRAKE_FB[n]` follows `BRAKE[n]` (R429). -/
def brakeFollows (d : Dev) (n : Nat) : Dev :=
  if axState d n = axARMING ∧ brakeOn d n then setAxState (wrB d (Reg.AXIS_STAT_START_EV n) true) n axRUN
  else if axState d n = axSTOPPING ∧ (axis d n).fbWait ∧ brakeOn d n = false then axisOff d n
  else d

/-- BRAKE_FB_FOLLOWS. -/
def execBrakeFbFollows (axis : Nat) (s : State) : Host.Outcome State Fault Refusal :=
  .next { s with d := brakeFollows s.d axis }

/-- The axes of a zone that enters SELFTEST or DORMANT stop (R429). -/
def zoneAxesStop (d : Dev) (z : Nat) : Dev := (zoneAxes d z).foldl (fun d n => axisStop d n 2) d

/-! ### Commands (R430) -/

/-- Whether a START is refused. -/
def startRefused (d : Dev) (n w : Nat) : Bool :=
  match axisRec d n with
  | none => true
  | some r =>
    let m := zmode d r.zone
    let st := axState d n
    !(m == modeCommission || m == modeProduction || m == modeService) || zoneDemanded d r.zone ||
    st == axTEST || st == axSTOPPING || st == axLOCKED ||
    rdB d (Reg.AXIS_STAT_ABNORMAL_KE n) || rdB d (Reg.AXIS_STAT_FAULT n) ||
    rd d (Reg.AXIS_GAIN_I_KP n) == 0 || rd d (Reg.AXIS_GAIN_S_KP n) == 0 ||
    bits w 4 2 == 0 || (bits w 4 2 == 3 && r.ainF == 0xFF)

/-- Whether a command word of `AXIS_CMD[n]` is refused. -/
def axisRefused (d : Dev) (n w : Nat) : Bool :=
  match bits w 0 4 with
  | 1 => startRefused d n w
  | 2 => (axisRec d n).isNone
  | 3 => (match axisRec d n with | some r => !isMaint (zmode d r.zone) || axState d n != axOFF | none => true)
  | _ => false

/-- START commits. On a device that does not own the gated outputs it updates the set values only. -/
def startCommit (d : Dev) (n w : Nat) : Dev :=
  let sv := setValues d n
  let st := axState d n
  let turned := bits w 6 1 != (axis d n).dir
  let d := setAxis d n (fun a => { a with
    set := sv, mode := bits w 4 2, dir := bits w 6 1, touch := false, holdN := 0, intF := 0 })
  if !ownsGate d then d
  else if st = axOFF then
    let still := ((axisRec d n).map (·.stillRpm)).getD 0
    if (axis d n).spd.natAbs < 10 * still then armAxis d n else setAxState d n axMEASURE
  else if st = axRUN then
    let d := wrB d (Reg.AXIS_STAT_HOLDING n) false
    let d := if turned then wrB d (Reg.AXIS_STAT_AT_VLIM n) false else d
    if turned then setAxState (setAxis d n axisClear) n axSHORT else d
  else d

/-- A command of `AXIS_CMD[n]` at its commit point. One refused by then sets `REFUSED` alone. -/
def axisCommit (d : Dev) (n w : Nat) : Dev :=
  let d := wr (wr d (Reg.AXIS_CMD_MODE n) (bits w 4 2)) (Reg.AXIS_CMD_DIR n) (bits w 6 1)
  if axisRefused d n w then wrB d (Reg.AXIS_STAT_REFUSED n) true
  else match bits w 0 4 with
    | 1 => startCommit d n w
    | 2 => axisStop d n 1
    | 3 => wrB (wrB d (Reg.AXIS_STAT_ABNORMAL_KE n) false) (Reg.AXIS_STAT_FAULT n) false
    | _ => d

/-- A write of `AXIS_CMD[n]` (R430). -/
def axisCmd (d : Dev) (req : Requester) (n w : Nat) : Dev :=
  let addr := 0x100E0000 + 0x100 * n
  regAccess d req addr w (fun d =>
    if axisRefused d n w then refuseW (wrB d (Reg.AXIS_STAT_REFUSED n) true) req addr
    else okResp (stage d req (.axis n (w % 2 ^ 32))))

/-- A write's word with its `CMD` field replaced. -/
def withCmd (w cmd : Nat) : Nat := w / 16 * 16 + cmd

/-- AXIS_START. -/
def execAxisStart (req : Requester) (axis : Nat) (w : Nat) (s : State) : Host.Outcome State Fault Refusal :=
  .next { s with d := axisCmd s.d req axis (withCmd w 1) }

/-- AXIS_STOP. -/
def execAxisStop (req : Requester) (axis : Nat) (w : Nat) (s : State) : Host.Outcome State Fault Refusal :=
  .next { s with d := axisCmd s.d req axis (withCmd w 2) }

/-- AXIS_CLEAR. -/
def execAxisClear (req : Requester) (axis : Nat) (w : Nat) (s : State) : Host.Outcome State Fault Refusal :=
  .next { s with d := axisCmd s.d req axis (withCmd w 3) }

end Sys2Proof.Machine
end

