-- ==== Sys2Proof/Machine/Zones.lean ====
section
/-!
DEFINITION. Zone modes (R31 to R34, R45, R458, R465, R492, R507, R526): which requests are accepted, where they wait, and
how a mode change is committed at a cycle boundary.
-/
namespace Sys2Proof.Machine

/-- Whether a zone may enter PRODUCTION (R32, R465, R492, R550). -/
def mayProduce (d : Dev) : Bool :=
  decide (triCfg d < 2) && confirmed d && rimeState d == 1 && !rdB d Reg.PWR_STAT_WAKE_DEGRADED &&
  (rd d Reg.LCY_STATE_STATE == 1 || rd d Reg.LCY_STATE_STATE == 2)

/-- Whether a zone may enter a mode by a request: the device runs, is not in safe state (R314), and the zone has a record. -/
def zoneMay (d : Dev) (z m : Nat) : Bool :=
  !inBoot d && !inSafe d && (zones d).contains z && decide (1 ≤ m ∧ m ≤ 5) && (m != modeProduction || mayProduce d)

/-- A zone enters a mode: what ends where it leaves COMMISSION and SERVICE (R58, R114, R158, R450), its hold where it leaves
PRODUCTION (R35), and its axes where it enters SELFTEST or DORMANT (R430). -/
def setZone (d : Dev) (z m : Nat) : Dev :=
  let old := zmode d z
  let d := wr d (Reg.SYS_ZMODE z) m
  let d := if m = modeProduction then d else wrFBit d Reg.SYS_ZHOLD_ZONES z false
  let d := if isMaint old && !isMaint m then
      let inRun := match d.meas.run with
        | some r => (zoneChans d z).any (fun c => decide (r.first ≤ c ∧ c < r.first + r.num))
        | none => false
      let d := if inRun then calAbandon d else d
      (zoneChans d z).foldl endManual (disarm (auxAbandon d))
    else d
  if (m = modeSelftest ∨ m = modeDormant) ∧ old ≠ m then zoneAxesStop d z else d

/-- The outcome of a zone request, reported to its sender: 0 the mailbox (R507), 1 the triad (R526), 2 the thaw port
(R469). A mode forwarded by the ACTIVE device (3) was answered there. -/
def zoneOutcome (d : Dev) (r : ZReq) (ok : Bool) : Dev :=
  let code := if ok then 0 else 4
  match r.src with
  | 0 => irq { d with host := { d.host with zTag := r.tag, zOut := code } } 1
  | 1 =>
    let d := wrB d Reg.SYS_ZONE_REQ_PEND false
    if ok then wrB d Reg.SYS_ZONE_REQ_DONE true else wrB d Reg.SYS_ZONE_REQ_REFUSED true
  | 2 => { d with pwr := { d.pwr with zOut := code } }
  | _ => d

/-- An accepted request waits for its boundary; a waiting request of the same kind of sender for the zone, or the triad's
waiting request, is replaced and answered with `MODE_REFUSED` (R507, R526). -/
def zoneQueue (d : Dev) (r : ZReq) : Dev :=
  let gone := fun (x : ZReq) => if r.src = 1 then x.src == 1 else x.src != 1 && x.zone == r.zone
  let d := (d.zreq.filter gone).foldl (fun d x => zoneOutcome d x false) d
  { d with zreq := d.zreq.filter (fun x => !gone x) ++ [r] }

/-- Whether a waiting request takes effect: this device decides it, or its ACTIVE partner has (R383), which leaves only the
zone's record to be looked for. -/
def zoneTakes (d : Dev) (r : ZReq) : Bool :=
  if r.src = 3 then (zones d).contains r.zone else zoneMay d r.zone r.mode && !isStandby d

/-- The requests whose boundary this is are decided, in order of acceptance; of two for one zone the later takes effect
(R526). -/
def commitZones (d : Dev) : Dev :=
  let due := d.zreq.filter (fun r => decide (r.cyc ≤ cycNo d))
  let d := { d with zreq := d.zreq.filter (fun r => decide (cycNo d < r.cyc)) }
  (due.zipIdx).foldl (fun d (r, i) =>
    let later := (due.drop (i + 1)).any (fun x => x.zone == r.zone)
    if !later && zoneTakes d r then zoneOutcome (setZone d r.zone r.mode) r true
    else zoneOutcome d r false) d

/-- A zone enters its `START_MODE`. A refused PRODUCTION enters COMMISSION, and `MODE_REFUSED` is reported for that zone:
`SYS_ZONE_REQ` shows the zone, the mode refused and `REFUSED`, and the device keeps every zone so reported (R45, log entry
45). -/
def enterStart (d : Dev) (z m : Nat) : Dev :=
  if m = modeProduction ∧ mayProduce d = false then
    let d := wr (wr (setZone d z modeCommission) Reg.SYS_ZONE_REQ_ZONE z) Reg.SYS_ZONE_REQ_MODE m
    wrB { d with host := { d.host with zRefused := setBit d.host.zRefused z true } } Reg.SYS_ZONE_REQ_REFUSED true
  else setZone d z m

/-- The zones enter their `START_MODE` (R45, R396). -/
def startModes (d : Dev) : Dev := (img d).zones.foldl (fun d z => enterStart d z.zone z.start) d

/-- SYS_ZONE_REQ: the triad's path for zone mode requests (R458, R526). A host's `GO` is refused, and the other fields of its
write take their values (R12). -/
def sysZoneReq (d : Dev) (req : Requester) (w : Nat) : Dev :=
  let addr := 0x10000014
  regAccess d req addr w (fun d =>
    if req = .host then refuseW (writeFields d req addr w) req addr
    else
      let z := bits w 0 4
      let m := bits w 4 3
      let d := writeFields d req addr w
      let d := if d.zreq.any (fun x => x.src == 1) then
          let d := wrB d Reg.SYS_ZONE_REQ_REFUSED true
          { wrB d Reg.SYS_ZONE_REQ_PEND false with zreq := d.zreq.filter (fun x => x.src != 1) }
        else d
      if zoneMay d z m && m != modeDormant && !isStandby d then
        okResp (wrB { d with zreq := d.zreq ++ [⟨z, m, 1, 0, cycNo d + 1⟩] } Reg.SYS_ZONE_REQ_PEND true)
      else okResp (wrB d Reg.SYS_ZONE_REQ_REFUSED true))

/-- SYS_ZONE_REQ. -/
def execSysZoneReq (req : Requester) (w : Nat) (s : State) : Host.Outcome State Fault Refusal :=
  .next { s with d := sysZoneReq s.d req (setBit w 8 true) }

end Sys2Proof.Machine
end

