-- ==== Sys2Proof/Machine/RimeOps.lean ====
section
/-!
DEFINITION. What the Rime blocks share (chapter 14): the schedule in force, the controller states and their effect on the
device's Rime state, arming the guardian, and loss of synchronisation.
-/
namespace Sys2Proof.Machine

/-! ### The schedule of a mode (R336, R338, R368) -/

/-- The Rime mode in force. -/
def rMode (d : Dev) : Nat := rd d Reg.RIMEL_CYCLE_MODE

/-- The variant bound to a mode (R53); 0xFF where it is not used. -/
def boundVar (d : Dev) (m : Nat) : Nat := (img d).binding.getD m 0xFF

/-- The accepted image of a variant: the active one or the one in its slot. -/
def varImage (d : Dev) (v : Nat) : Option Image :=
  if v = rd d Reg.FIRN_STAT_ACTIVE_VAR then d.firn.act else SMap.find d.firn.slots v

/-- Whether the variant bound to a mode is active or held in a valid slot (R342, R363). -/
def modeHeld (d : Dev) (m : Nat) : Bool := decide (boundVar d m ≤ 3) && (varImage d (boundVar d m)).isSome

/-- A switch is agreed: it awaits its boundary in cycle `cyc` (R363, R365), and the engines' inactive banks are filled from the
preloaded variant (R233). -/
def pendSwitch (d : Dev) (m cyc : Nat) : Dev :=
  let d := wrB (wr d Reg.RIMET_MC_PEND_MODE m) Reg.RIMET_MC_PEND true
  let d := wr (wrB d Reg.FIRN_STAT_PEND true) Reg.FIRN_STAT_PEND_VAR (boundVar d m)
  let d := { d with rime := { d.rime with mc := none }, firn := { d.firn with pendMode := m, pendCyc := cyc } }
  if boundVar d m = rd d Reg.FIRN_STAT_ACTIVE_VAR then d
  else match varImage d (boundVar d m) with
    | some i => banksFill d i
    | none => d

/-- The segment schedule of a mode, as the image of its variant carries it. -/
def segSched (d : Dev) (m : Nat) : Option SegSched := do
  let i ← varImage d (boundVar d m)
  i.segs.find? (fun r => r.mode == m)

/-- The trunk record of a mode. -/
def trunkRec (d : Dev) (m : Nat) : Option TrunkRec := do
  let i ← varImage d (boundVar d m)
  i.trunks.find? (fun r => r.mode == m)

/-- The node that owns a slot in a mode's schedule, 0xFF for none. -/
def slotOwner (d : Dev) (m s : Nat) : Nat := ((segSched d m).map (fun r => r.owner.getD s 0xFF)).getD 0xFF

/-- Whether a node is a sync node of a mode. -/
def isSync (d : Dev) (m n : Nat) : Bool := ((segSched d m).map (fun r => bit r.sync n)).getD false

/-- This device's node number and segment. -/
def myNode (d : Dev) : Nat := rd d Reg.RIMEL_NODE_NODE
def mySeg (d : Dev) : Nat := rd d Reg.RIMEL_NODE_SEG

/-- Whether this device owns a slot in the mode in force, and its status slot, the lowest of them. -/
def ownsSlot (d : Dev) (s : Nat) : Bool := slotOwner d (rMode d) s == myNode d
def statusSlot (d : Dev) : Option Nat := (sel 64 (ownsSlot d)).head?

/-- The epoch: bits [55:24] of the cycle number. -/
def epochOf (d : Dev) : Nat := cycNo d / 2 ^ 24 % 2 ^ 32

/-- Whether this device is its segment's gateway: its trunk controller is enabled and its segment has a gateway. -/
def isGateway (d : Dev) : Bool := rdB d Reg.RIMET_CTRL_EN && ((trunkRec d (rMode d)).map (fun r => bit r.gw (mySeg d))).getD false

/-- The receive delay of a segment channel, and of a trunk channel. -/
def rxDly (d : Dev) (ch : Nat) : Nat := rd d (if ch = 0 then Reg.RIMEL_RXDLY_A_NS else Reg.RIMEL_RXDLY_B_NS)
def trunkDly (d : Dev) (ch : Nat) : Nat := rd d (if ch = 0 then Reg.RIMET_RXDLY_A_NS else Reg.RIMET_RXDLY_B_NS)

/-! ### Controller states (R339, R340) -/

def csDISABLED : Nat := 0
def csLISTEN : Nat := 1
def csWAIT : Nat := 2
def csLEAD : Nat := 3
def csCHECK : Nat := 4
def csJOIN : Nat := 5
def csINTEGRATED : Nat := 6

def csOf (d : Dev) : Nat := rd d Reg.RIMEL_STAT_CSTATE
def tcsOf (d : Dev) : Nat := rd d Reg.RIMET_STAT_CSTATE

def segM (d : Dev) (f : RimeCtl → RimeCtl) : Dev := { d with rime := { d.rime with seg := f d.rime.seg } }
def trunkM (d : Dev) (f : RimeCtl → RimeCtl) : Dev := { d with rime := { d.rime with trunk := f d.rime.trunk } }

/-- The device's Rime state: 0 LISTENING, 1 INTEGRATED, 2 ISOLATED (R339). -/
def setRimeState (d : Dev) (r : Nat) : Dev := wr (wr d Reg.RIMEL_STAT_RSTATE r) Reg.SYS_PROPS_RIME r

/-- The segment controller enters a state, and the device's Rime state follows. -/
def setCs (d : Dev) (st : Nat) : Dev :=
  let d := wr d Reg.RIMEL_STAT_CSTATE st
  let d := segM d (fun c => { c with next := none, been := c.been || st == csINTEGRATED, ownBad := 0, alone := 0 })
  if st = csINTEGRATED then wr (setRimeState { d with rime := { d.rime with isoTicks := 0 } } 1) Reg.TIME_ISO_CYC 0
  else setRimeState d (if d.rime.seg.been then 2 else 0)

/-- The listening state of R339. -/
def listenState (d : Dev) : Nat :=
  if rdB d Reg.RIMEL_NODE_COLD && decide (rd d Reg.RIMEL_CS_ATTEMPTS < rd d Reg.RIMEL_CS_CS_MAX) then csWAIT else csLISTEN

/-- The controller returns to the listening state; the listen timer starts. -/
def toListen (d : Dev) : Dev :=
  let d := setCs d (listenState d)
  segM { d with rime := { d.rime with joinMode := none } } (fun c => { c with quietK := d.k, sent := [], conf := [] })

/-- A leader that has used `CS_MAX` attempts goes to LISTEN and sets `CS_EXHAUST` (R344). -/
def leaveLead (d : Dev) : Dev :=
  let d := toListen d
  if rd d Reg.RIMEL_CS_ATTEMPTS < rd d Reg.RIMEL_CS_CS_MAX then d
  else raise (wrB d Reg.RIMEL_STAT_CS_EXHAUST true) Src.RIMEL_CS_EXHAUST 0 0 (rd d Reg.RIMEL_CS_CS_MAX) 0

/-- An attempt ends: 0 with fewer than two confirming nodes, 1 by a collision (R340, R344, R351). -/
def csAbort (d : Dev) (why : Nat) : Dev :=
  let d := wrB d (if why = 0 then Reg.RIMEL_STAT_CS_ABORT_EV else Reg.RIMEL_STAT_COLLISION_EV) true
  let d := raise d Src.RIMEL_CS_ABORT 0 0 why (rd d Reg.RIMEL_CS_ATTEMPTS)
  leaveLead d

/-- The controller arms the guardian (R346 to R348): it takes the controller's phase and leaves its block; it cannot be
armed while `GCLK` fails. -/
def armGuard (d : Dev) : Dev :=
  if rdB d Reg.RIMEL_STAT_GCLK_FAIL then d
  else segM (wrB d Reg.RIMEL_STAT_GRD_BLOCKED false) (fun c => { c with truncs := [], blocked := false })

/-- An INTEGRATED controller loses synchronisation (R349): the device becomes ISOLATED. -/
def syncLoss (d : Dev) (cause : Nat) : Dev :=
  if csOf d ≠ csINTEGRATED then d
  else
    let d := wr (incSat d Reg.RIMEL_LOSS_CNT 1) Reg.RIMEL_LOSS_CAUSE cause
    let d := wrB d Reg.RIMEL_STAT_SYNC_LOSS_EV true
    let d := raise d Src.RIMEL_SYNC_LOSS 0 0 cause (cyc24 d)
    let d := { d with rime := { d.rime with cNext := 0, mc := none, mcWait := none } }
    toListen d

end Sys2Proof.Machine
end

