-- ==== Sys2Proof/Machine/SchOps.lean ====
section
/-!
DEFINITION. What the pair logic shares (chapter 16): its role registers, detaching, a failed join, and the digests of the
live mask.
-/
namespace Sys2Proof.Machine

def schM (d : Dev) (f : SchSt → SchSt) : Dev := { d with sch := f d.sch }

/-- Whether the device is a pair member (R376). -/
def paired (d : Dev) : Bool := rdB d Reg.SCH_CFG_PAIR_EN

def roSOLO : Nat := 0
def roACTIVE : Nat := 1
def roSTANDBY : Nat := 2
def pstate (d : Dev) : Nat := rd d Reg.SCH_STAT_PSTATE
def psJOINING : Nat := 1
def psENGAGED : Nat := 2
def psDETACHED : Nat := 3

/-- The device takes a pair role and sub-state (R396). -/
def setRole (d : Dev) (r p : Nat) : Dev := wr (wr (wr d Reg.SYS_PROPS_ROLE r) Reg.SCH_STAT_ROLE r) Reg.SCH_STAT_PSTATE p

/-- The heartbeat is present. -/
def hbOk (d : Dev) : Bool := rdB d Reg.SCH_STAT_HB_OK

/-- Resynchronisations under way are abandoned (R390). -/
def rsAbandon (d : Dev) : Dev :=
  let d := schM d (fun s => { s with
    rsCls := [], rsGrp := [], rsNext := 0, rsHold := [], install := [], txRs := [] })
  (List.range 8).foldl (fun d i => wr d (Reg.SCH_RS_ACTIVE_GROUPS i) 0) d

/-- The device works for a partner that takes part: in a role of a pair, or SOLO while the partner joins. -/
def pairWork (d : Dev) : Bool := paired d && (role d != roSOLO || (d.sch.up && d.sch.peer.role == roSTANDBY))

/-- The claim of ownership is released: every gated output takes its off state (R376). -/
def releaseOwn (d : Dev) : Dev :=
  if !paired d then d
  else
    let d := allOutsOff (schM (wrB d Reg.SCH_STAT_OWN false) (fun s => { s with claim := false, resume := none }))
    let d := (List.range 8).foldl (fun d n => driveBrake d n false) d
    let d := (axesOf d).foldl (fun d n =>
      let st := axState d n
      if st = axTEST then discardBrakeTest d n
      else if st = axOFF ∨ st = axLOCKED then d
      else setAxState (setAxis d n axisClear) n axOFF) d
    let d := { d with net := { d.net with run := none } }
    wrB d Reg.NET_STAT_CHOP_ON false

/-- In safe state the claim is released once every axis has completed step 3 of the icefall (R395). -/
def safeRelease (d : Dev) : Dev := if paired d && inSafe d && rdB d Reg.SCH_STAT_OWN && iceDone d then releaseOwn d else d

/-- What the partner's input was to commit is dropped: accepted images that wait for it (R57). -/
def dropLoads (d : Dev) : Dev :=
  let d := { d with firn := { d.firn with pre := [] } }
  if d.firn.await then
    wrB { d with firn := { d.firn with await := false, commit := none } } Reg.FIRN_STAT_COMMIT_PEND false
  else d

/-- A STANDBY device detaches (R397): 1 heartbeat, 2 `INPUT_GAP`, 3 `DETACH`, 4 a class "Detach and rejoin", 5 a join
abandoned. Its own claim stays released. -/
def schDetach (d : Dev) (why : Nat) : Dev :=
  if !isStandby d || pstate d == psDETACHED then d
  else
    let d := wrB (setRole d roSTANDBY psDETACHED) Reg.SCH_STAT_DETACH_EV true
    let d := dropLoads (rsAbandon (releaseOwn d))
    let d := schM d (fun s => { s with
      det := none, tko := none, inputs := [], payload := [], closed := none, equal := 0, loaded := false, modes := false,
      failK := none, bulk := [], bulkEnd := false, toEng := false })
    raise d Src.SCH_DETACH 0 0 why 0

/-- A join fails: 1 RANK, 2 VERIFY, 3 TIMEOUT (R375, R396). -/
def joinFail (d : Dev) (cause : Nat) : Dev :=
  let d := wr (wrB d Reg.SCH_STAT_JOIN_FAIL true) Reg.SCH_STAT_JOIN_CAUSE cause
  let d := schM (rsAbandon d) (fun s => { s with
    failK := some d.k, loaded := false, modes := false, equal := 0, bulk := [], bulkEnd := false, toEng := false })
  raise d Src.SCH_JOIN_FAIL 0 0 cause 0

/-- A join starts: the device becomes STANDBY and JOINING (R396). -/
def joinStart (d : Dev) : Dev :=
  let d := rsAbandon (setRole d roSTANDBY psJOINING)
  schM d (fun s => { s with
    start := false, joinK := d.k, failK := none, loaded := false, modes := false, equal := 0,
    inputs := [], payload := [], closed := none, bulk := [], bulkEnd := false, toEng := false })

/-! ### Digests (R387, R388) -/

/-- The CRC-64 of R388. -/
def crc64 (bs : List Byte) : Nat :=
  (bs.foldl (crcByteM 64 0x42F0E1EBA9EA3693) (2 ^ 64 - 1)) ^^^ (2 ^ 64 - 1)

/-- The range records of the live mask, HOT or cached. -/
def liveRanges (d : Dev) (hotPart : Bool) : List LiveRec := (img d).live.filter (fun r => (r.seg == 0) == hotPart)

/-- The bytes of a channel's ranges, in record order. -/
def liveBytes (d : Dev) (hotPart : Bool) (c : Nat) : List Byte :=
  (liveRanges d hotPart).flatMap (fun r => ledBytes d (entryOf c + segOff r.seg + r.start) r.len)

/-- A channel's contribution to a part. -/
def liveCrc (d : Dev) (hotPart : Bool) (c : Nat) : Nat := crc64 (natBE 2 c ++ liveBytes d hotPart c)

/-- The channels of a digest group: group 256 holds the idle channels. -/
def digestChans (d : Dev) (g : Nat) : List Nat :=
  if g = 256 then (allChans d).filter (fun c => (groupOf d c).isNone)
  else ((groupRec d g).map (·.channels)).getD []

/-- The groups that have channels. -/
def digestGroups (d : Dev) : List Nat := (List.range 257).filter (fun g => !(digestChans d g).isEmpty)

/-- The digests of one part of every group. -/
def groupDigests (d : Dev) (hotPart : Bool) : SMap Nat :=
  (digestGroups d).map (fun g => (g, ((digestChans d g).map (liveCrc d hotPart)).foldl (· ^^^ ·) 0))

/-- The fold of cycle `n` has been written: its cached digests are kept with those of the fold before (R388). -/
def keepCached (d : Dev) (n : Nat) : Dev :=
  if !pairWork d then d
  else
    let x := groupDigests d false
    schM d (fun s => { s with cach := ((n, x) :: s.cach).take 2 })

end Sys2Proof.Machine
end

