-- ==== Sys2Proof/Machine/RimeTx.lean ====
section
/-!
DEFINITION. Sending on Rime (R327 to R332, R345 to R348, R353, R354, R366, R367, R370, R371): the static frames of a
node's slots, its reference and downlink frames, a gateway's trunk frames, and the guardian that gates them.
-/
namespace Sys2Proof.Machine

/-! ### Frames and tags (R330, R331) -/

/-- The line key, most significant byte first. -/
def lineKey (d : Dev) : List Byte := natBE 16 ((List.range 4).foldl (fun a i => a + rd d (Reg.RIMEL_KEY_KEY i) * 2 ^ (32 * i)) 0)

/-- The 8-byte tag of a header and a payload without its tag. -/
def rimeTag (d : Dev) (epoch : Nat) (hdr payload : List Byte) : List Byte :=
  (aesCmac (lineKey d) (natBE 4 (rd d Reg.RIMEL_LINE_ID_ID) ++ natBE 4 epoch ++ hdr ++ payload)).take 8

/-- Frames carry a tag in version 2 with a valid key. -/
def authOn (d : Dev) (ver : Nat) : Bool := ver == 2 && rdB d Reg.RIMEL_KEY_STAT_VALID

/-- A frame's bytes from header and payload: the payload's last 8 bytes are the tag where `auth`, then the CRC-32C. -/
def closeFrame (d : Dev) (auth : Bool) (hdr payload : List Byte) : List Byte :=
  let body := if auth then
      let p := payload.take (payload.length - 8)
      hdr ++ p ++ rimeTag d (epochOf d) hdr p
    else hdr ++ payload
  body ++ natBE 4 (crc32c body)

/-- A segment frame's header. -/
def segHdr (d : Dev) (slot : Nat) (start sync auth stat : Bool) (len : Nat) : List Byte :=
  [BitVec.ofNat 8 (rd d Reg.RIMEL_CTRL_VER * 64 + slot),
   BitVec.ofNat 8 (rMode d * 32 + b2n start * 16 + b2n sync * 8 + b2n auth * 4 + b2n stat * 2)] ++
  natBE 3 (cyc24 d) ++ [BitVec.ofNat 8 len]

/-- The bytes of an array of register words, low byte first. -/
def wordBytes (d : Dev) (f : Nat → Fld) (n : Nat) : List Byte := (List.range n).flatMap (fun i => natLE 4 (rd d (f i)))

/-! ### The status block (R332, R242, R386) -/

/-- X of R240 in W, rounded down. -/
def netXW (d : Dev) : Int := d.net.x.fdiv 1000

/-- The netting record of R242; zero bytes where none is published. -/
def netRecord (d : Dev) : List Byte :=
  if rdB d Reg.NET_CTRL_XCH_EN ∧ rd d Reg.NET_XCFG_DOMAIN ≠ 0 ∧ rimeState d = 1 ∧ ¬isStandby d then
    [BitVec.ofNat 8 (rd d Reg.NET_XCFG_DOMAIN * 16), BitVec.ofNat 8 (netLevel d)] ++ natBE 2 ((cycNo d - 1) % 2 ^ 16) ++
    natBE 4 (rd d Reg.NET_PUB_SURP_W) ++ natBE 4 (rd d Reg.NET_PUB_DEF_W) ++ natBE 4 0
  else natBE 16 0

/-- Publish the forecast of a cycle that ends: `SURPLUS` and `DEFICIT` (R242). -/
def netPublish (d : Dev) : Dev :=
  let x := netXW d
  let s := max 0 (x - (rd d Reg.NET_EXPORT_MAX_W : Int))
  let f := max 0 ((-x * (100 - (rd d Reg.NET_XCFG_MARGIN : Int))).fdiv 100)
  wr (wr d Reg.NET_PUB_SURP_W s.toNat) Reg.NET_PUB_DEF_W f.toNat

/-- Whether this device carries a mode change request, or its echo, in this cycle (R363). -/
def mcReqNow (d : Dev) : Bool :=
  match d.rime.mc with
  | some r => r.mine && decide (r.cyc ≤ cycNo d ∧ cycNo d ≤ r.cyc + 2)
  | none => false
def mcEchoNow (d : Dev) : Bool :=
  match d.rime.mc with
  | some r => r.echo && decide (r.cyc < cycNo d ∧ cycNo d ≤ r.cyc + 2)
  | none => false

/-- Whether the partner's status frame was valid in the last cycle (R386). -/
def partnerSeen (d : Dev) : Bool :=
  paired d && decide (((SMap.find d.rime.status (rd d Reg.SCH_CFG_PNODE)).map (·.1 + 1)) = some (cycNo d))

/-- The status block. -/
def statusBlock (d : Dev) : List Byte :=
  let mc := ((d.rime.mc).map (·.mode)).getD 0
  let arr := fun b => if isStandby d || rimeState d != 1 then none else (d.rime.arr.find? (fun x => x.1 == b)).map (·.2)
  [BitVec.ofNat 8 (b2n (inSafe d) * 128 + role d * 32 + triCfg d * 8 + rd d Reg.SCH_STAT_RANK * 4),
   BitVec.ofNat 8 (b2n (mcReqNow d) * 128 + b2n (mcEchoNow d) * 64 + (if mcReqNow d || mcEchoNow d then mc else 0))] ++
  natBE 6 ((List.range 16).foldl (fun a z => a + zmode d z * 2 ^ (3 * z)) 0) ++
  natBE 4 (if rd d Reg.RIMEL_CTRL_VER = 2 then epochOf d else 0) ++
  [BitVec.ofNat 8 (b2n (partnerSeen d) * 128 + (if paired d then rd d Reg.SCH_CFG_PNODE else 0))] ++ natBE 3 0 ++
  netRecord d ++
  (List.range 16).flatMap (fun b => natBE 2 ((match arr b with
    | some g => 2 ^ 15 + g % 256
    | none => 0))) ++
  wordBytes d Reg.RIMEL_TXDATA_DATA 12

/-! ### The guardian (R345 to R348) -/

/-- How many slots next to `s` on one side this device owns in a row: guardian windows merge. -/
def ownRun (d : Dev) (up : Bool) (s : Nat) : Nat → Nat
  | 0 => 0
  | n + 1 =>
    if up then (if s < 63 && ownsSlot d (s + 1) then 1 + ownRun d up (s + 1) n else 0)
    else (if 0 < s && ownsSlot d (s - 1) then 1 + ownRun d up (s - 1) n else 0)

/-- Whether the guardian's window covers a frame of `chars` characters sent `lag` ns late on the guardian's own time. -/
def guardCovers (d : Dev) (s chars : Nat) (lag : Int) : Bool :=
  let b : Int := -1000 - 12500 * (ownRun d false s 64 : Nat)
  let e : Int := 13500 + 12500 * (ownRun d true s 64 : Nat)
  let t : Int := 1250 + lag
  decide (b ≤ t ∧ t + 80 * (chars : Nat) ≤ e)

/-- The guardian holds the enables low on a transmission outside its window: it counts the truncation, and blocks after
truncations in two consecutive cycles. -/
def truncation (d : Dev) (s : Nat) : Dev :=
  let d := wrB (incSat d Reg.RIMEL_GRD_TRUNC 1) Reg.RIMEL_STAT_TRUNC_EV true
  let d := raise d Src.RIMEL_TRUNC 0 0 s (cyc24 d)
  let twice := d.rime.seg.truncs.any (fun c => c + 1 == cycNo d)
  let d := segM d (fun c => { c with truncs := (cycNo d :: c.truncs).take 2, truncSlot := s })
  if twice && !rdB d Reg.RIMEL_STAT_GRD_BLOCKED then raise (wrB d Reg.RIMEL_STAT_GRD_BLOCKED true) Src.RIMEL_GRD_BLOCK 0 0 0 s else d

/-- The channels of a pair (0 the segment's, 2 the trunk's) that no fence silences, as a mask; a fence's silence takes hold at
the next commit point (R310). -/
def txMask (d : Dev) (base : Nat) : Nat := b2n (!fenceHolds d 8 base) + 2 * b2n (!fenceHolds d 8 (base + 1))

/-- Whether the segment's enables may rise at all. -/
def guardOpen (d : Dev) : Bool :=
  !rdB d Reg.RIMEL_STAT_GRD_BLOCKED && !rdB d Reg.RIMEL_STAT_GCLK_FAIL && !d.rime.seg.blocked

/-! ### Static slots (R332, R343) -/

/-- Whether the segment controller may send: in CS_LEAD, JOIN and INTEGRATED (R339). -/
def segSends (d : Dev) : Bool := csOf d == csLEAD || csOf d == csJOIN || csOf d == csINTEGRATED

/-- The frame of an owned slot. -/
def slotFrame (d : Dev) (s : Nat) : List Byte :=
  let auth := authOn d (rd d Reg.RIMEL_CTRL_VER)
  let stat := statusSlot d == some s
  let start := stat && csOf d == csLEAD && decide (d.rime.seg.att ≤ 3)
  let len := if stat then 112 else if auth then max 8 (rd d (Reg.RIMEL_TXLEN_LEN s)) else rd d (Reg.RIMEL_TXLEN_LEN s)
  let payload := if stat then statusBlock d else (wordBytes d (Reg.RIMEL_TXBUF_DATA s) 28).take len
  closeFrame d auth (segHdr d s start (isSync d (rMode d) (myNode d)) auth stat len) payload

/-- An owned slot's action point: `lag` is how late the transmission starts on the guardian's own time. -/
def slotTx (d : Dev) (s : Nat) (lag : Int) : Dev :=
  if !segSends d || !ownsSlot d s || decide (64 ≤ s) then d
  else
    let f := slotFrame d s
    let d := segM d (fun c => { c with sent := if c.sent.contains s then c.sent else c.sent ++ [s] })
    let own := (myNode d, netLevel d, rd d Reg.NET_PUB_SURP_W, rd d Reg.NET_PUB_DEF_W)
    let d := if statusSlot d == some s && byteAt (netRecord d) 0 != 0 && !d.net.recs.any (fun r => r.1 == myNode d)
      then { d with net := { d.net with recs := d.net.recs ++ [own] } } else d
    if !guardOpen d then d
    else if guardCovers d s (f.length + 2) lag then
      { d with rime := { d.rime with txSlot := BitVec.ofNat 8 (txMask d 0) :: f } }
    else truncation d s

/-- RIME_SLOT_TX. -/
def execRimeSlotTx (slot : Nat) (lag : Int) (s : State) : Host.Outcome State Fault Refusal := .next { s with d := slotTx s.d slot lag }

/-! ### Reference frames (R353, R354, R356) -/

/-- The synchronisation method in force: 1 reference, 2 midpoint. -/
def timeMethod (d : Dev) : Nat :=
  match rd d Reg.TIME_SYNC_METHOD with
  | 1 => 1
  | 2 => 2
  | _ =>
    let owners := (sel 64 (fun n => (List.range 64).any (fun s => slotOwner d (rMode d) s == n))).length
    if owners ≤ 8 then 1 else 2

/-- Whether this node sends as time master: its rank is lower than every rank received. -/
def isMaster (d : Dev) (ranks : List Nat) : Bool :=
  rdB d Reg.TIME_SYNC_MASTER_EN && timeMethod d == 1 && ranks.all (fun r => decide (rd d Reg.TIME_SYNC_MRANK < r))

/-- The payload of a reference frame whose action point lies `ap` ns after the cycle's start. -/
def refPayload (d : Dev) (rank start ap : Nat) (auth : Bool) : List Byte :=
  [BitVec.ofNat 8 (rank + 128 * rd d Reg.TIME_STAT_LINE), BitVec.ofNat 8 (myNode d)] ++ natBE 6 0 ++
  natBE 8 ((start * 50000 + ap) % 2 ^ 64) ++ (if auth then natBE 8 0 else [])

/-! ### The trunk: gateway frames (R366, R367, R372) -/

/-- The trunk cycle number and its counter. -/
def tcycNo (d : Dev) : Nat := d.k / 80
def tcyc24 (d : Dev) : Nat := d.k / 80 % 2 ^ 24

/-- The generation of LINE barrier `b` here, and the devices of the segment that carry its arrival with it, this one
included (R372). -/
def lineGen (d : Dev) (b : Nat) : Nat := (barrier d (barKey 4 0 b)).gen % 256
def arrCount (d : Dev) (b gen lastCyc : Nat) : Nat :=
  (d.rime.status.filter (fun e => decide (e.2.1 = lastCyc) && beAt e.2.2 (32 + 2 * b) 2 == 2 ^ 15 + gen)).length +
  b2n (!isStandby d && rimeState d == 1 && d.rime.arrWas.any (fun x => x.1 == b && x.2 % 256 == gen))

/-- Whether a gateway carries the line's mode change request, or its echo, in this trunk cycle (R365). -/
def tmcReqNow (d : Dev) : Bool := match d.rime.line with | some r => r.mine && decide (r.t ≤ tcycNo d ∧ tcycNo d ≤ r.t + 2) | none => false
def tmcEchoNow (d : Dev) : Bool := match d.rime.line with | some r => r.echo && decide (r.t < tcycNo d ∧ tcycNo d ≤ r.t + 2) | none => false

/-- The gateway block. -/
def gwBlock (d : Dev) : List Byte :=
  let last := cycNo d - 1
  let ndev := (d.rime.status.filter (fun e => decide (e.2.1 = last))).length
  let m := ((d.rime.line).map (·.mode)).getD 0
  let on := tmcReqNow d || tmcEchoNow d
  [BitVec.ofNat 8 (b2n (csOf d == csINTEGRATED) * 128 + b2n (tmcReqNow d) * 64 + b2n (tmcEchoNow d) * 32 + (if on then m else 0)),
   BitVec.ofNat 8 ndev] ++ natBE 2 0 ++ natBE 4 (if rd d Reg.RIMET_CTRL_VER = 2 then epochOf d else 0) ++
  (List.range 16).flatMap (fun b => [BitVec.ofNat 8 (lineGen d b), BitVec.ofNat 8 (arrCount d b (lineGen d b) last)]) ++
  natBE 8 0

/-- A trunk frame's header. -/
def trunkHdr (d : Dev) (start ref auth : Bool) (seg len : Nat) : List Byte :=
  [BitVec.ofNat 8 (rd d Reg.RIMET_CTRL_VER * 64 + b2n start * 32 + b2n ref * 16 + b2n auth * 8 + rMode d), BitVec.ofNat 8 seg] ++
  natBE 3 (tcyc24 d) ++ [BitVec.ofNat 8 len] ++ natBE 2 0

/-- The rank of this device's segment among the trunk masters. -/
def trunkRank (d : Dev) : Option Nat :=
  (trunkRec d (rMode d)).bind (fun r => (sel 4 (fun i => r.tmaster.getD i 0xFF == mySeg d)).head?)

/-- A gateway's slot: `lag` as for a segment slot. -/
def trunkTx (d : Dev) (lag : Int) : Dev :=
  let st := tcsOf d
  if !isGateway d || !(st == csLEAD || st == csJOIN || st == csINTEGRATED) then d
  else
    let auth := authOn d (rd d Reg.RIMET_CTRL_VER)
    let start := st == csLEAD && decide (d.rime.trunk.att ≤ 3)
    let f := closeFrame d auth (trunkHdr d start false auth (mySeg d) 48) (gwBlock d)
    let d := trunkM d (fun c => { c with sent := [mySeg d] })
    let t : Int := 1500 + lag
    if rdB d Reg.RIMEL_STAT_GCLK_FAIL || d.rime.trunk.blocked then d
    else if decide (-1000 ≤ t ∧ t + 80 * ((f.length + 2 : Nat) : Int) ≤ 16000) then
      { d with rime := { d.rime with txTrunk := BitVec.ofNat 8 (txMask d 2) :: f } }
    else
      let twice := d.rime.trunk.truncs.any (fun c => c + 1 == tcycNo d)
      trunkM d (fun c => { c with truncs := (tcycNo d :: c.truncs).take 2, blocked := c.blocked || twice })

/-- TRUNK_SLOT_TX. -/
def execTrunkSlotTx (lag : Int) (s : State) : Host.Outcome State Fault Refusal := .next { s with d := trunkTx s.d lag }

/-! ### Reference slots (R354, R366, R367, R371) -/

/-- A trunk master's reference slot, in the last segment cycle of its trunk cycle. -/
def trunkRefTx (d : Dev) : Dev :=
  match trunkRank d with
  | some r =>
    if !isGateway d || tcsOf d != csINTEGRATED || rdB d Reg.RIMEL_STAT_GCLK_FAIL || d.rime.trunk.blocked || cycNo d % 4 != 3
    then d
    else
      let auth := authOn d (rd d Reg.RIMET_CTRL_VER)
      let p := refPayload d r (tcycNo d * 80) (3840000 + 15000 * r + 1500) auth
      let f := closeFrame d auth (trunkHdr d false true auth r p.length) p
      { d with rime := { d.rime with txTref := BitVec.ofNat 8 (txMask d 2) :: f } }
  | none => d

/-- A time master's reference slot in its segment. -/
def segRefTx (d : Dev) : Dev :=
  let r := rd d Reg.TIME_SYNC_MRANK
  if csOf d ≠ csINTEGRATED ∨ isMaster d (d.rime.lastRanks ++ d.rime.refs.map (·.1)) = false ∨ guardOpen d = false then d
  else
    let auth := authOn d (rd d Reg.RIMEL_CTRL_VER)
    let p := refPayload d r (cycNo d * 20) (800000 + 12500 * r + 1250) auth
    let f := closeFrame d auth (segHdr d r false true auth false p.length) p
    { d with rime := { d.rime with txRef := BitVec.ofNat 8 (txMask d 0) :: f } }

/-- The reference slots of a time master: on the segment, and on the trunk. -/
def refTx (d : Dev) : Dev := trunkRefTx (segRefTx d)

/-- RIME_REF_TX. -/
def execRimeRefTx (s : State) : Host.Outcome State Fault Refusal := .next { s with d := refTx s.d }

/-! ### The downlink (R370, R371) -/

/-- Apply a downlink payload as a node of the segment: the line's validity and correction, and the outcome of a line mode
change (R365, R371). -/
def takeDown (d : Dev) (p : List Byte) : Dev :=
  let d := { d with rime := { d.rime with down := some (cycNo d, p) } }
  let d := wrB d Reg.TIME_STAT_LINE (bit (byteAt p 0) 7)
  if cycNo d % 4 = 3 ∧ bit (byteAt p 0) 7 then { d with rime := { d.rime with ext := some (toS 32 (beAt p 4 4)) } } else d

/-- The line correction a gateway takes from its trunk reference frames. -/
def extOfs (d : Dev) : Int × Dev :=
  if trunkRank d = some 0 then (0, d)
  else
    let best := d.rime.trefs.foldl (fun (a : Option (Nat × Int)) r => match a with
      | some b => if r.1 < b.1 then some r else a
      | none => some r) none
    let x := (best.map (·.2)).getD 0
    let l : Int := (rd d Reg.TIME_LIM_EXT_LIM : Nat)
    if x < -l ∨ l < x then (clampI (-l) l x, wrB d Reg.TIME_STAT_EXT_CAP true) else (x, d)

/-- The line total of a barrier's arrivals for the gateway's generation. -/
def arrSum (d : Dev) (b : Nat) : Nat :=
  let g := lineGen d b
  let near := d.rime.gws.filter (fun e => decide (e.2.1 = tcycNo d) && byteAt e.2.2 (8 + 2 * b) == g)
  (near.map (fun e => byteAt e.2.2 (9 + 2 * b) % 128)).foldl (· + ·) 0 + arrCount d b g (cycNo d - 1)

/-- The outcome of a line mode change in the last cycle of a trunk cycle, as its segment takes it (R365). -/
def lineOutcome (d : Dev) (p : List Byte) : Dev :=
  let m := byteAt p 0 % 8
  if bit (byteAt p 0) 5 then
    let ahead := (beAt p 8 4 + 2 ^ 24 - cyc24 d) % 2 ^ 24
    wr (wrB (pendSwitch d m (cycNo d + ahead)) Reg.RIMET_MC_AGREED true) Reg.RIMET_MC_AT_BOUND (beAt p 8 4)
  else if bit (byteAt p 0) 4 then
    let d := raise (wrB d Reg.RIMET_MC_LAPSE true) Src.RIMET_MC_LAPSE 0 0 m (cyc24 d)
    { d with rime := { d.rime with mc := none } }
  else d

/-- The gateway's downlink frame: new values in the last cycle of a trunk cycle, but for `LINE_VALID`. -/
def downTx (d : Dev) : Dev :=
  if !isGateway d || csOf d != csINTEGRATED || !guardOpen d then d
  else
    let valid := tcsOf d == csINTEGRATED
    let old := (d.rime.down.map (·.2)).getD (natBE 48 0)
    let auth := authOn d (rd d Reg.RIMEL_CTRL_VER)
    let (x, d) := if cycNo d % 4 = 3 then extOfs d else (0, d)
    let out := d.rime.line.bind (·.out)
    let m := ((d.rime.line).map (·.mode)).getD 0
    let p := if cycNo d % 4 = 3 then
        [BitVec.ofNat 8 (b2n valid * 128 + b2n (d.rime.line.isSome && out.isNone) * 64 + b2n (out.map (·.1) == some true) * 32 +
           b2n (out.map (·.1) == some false) * 16 + m)] ++ natBE 3 0 ++
        natBE 4 (ofS 32 x) ++ natBE 4 (((out.map (·.2)).getD 0) % 2 ^ 24) ++
        (List.range 16).flatMap (fun b => natBE 2 (arrSum d b % 2 ^ 15)) ++ natBE 4 0
      else BitVec.ofNat 8 (b2n valid * 128 + byteAt old 0 % 128) :: old.drop 1
    let f := closeFrame d auth (segHdr d 0 false (isSync d (rMode d) (myNode d)) auth false (if auth then 56 else 48))
      (if auth then p ++ natBE 8 0 else p)
    let d := takeDown { d with rime := { d.rime with txDown := BitVec.ofNat 8 (txMask d 0) :: f } } p
    if cycNo d % 4 = 3 then lineOutcome d p else d

/-- RIME_DOWNLINK_TX. -/
def execRimeDownlinkTx (s : State) : Host.Outcome State Fault Refusal := .next { s with d := downTx s.d }

/-! ### SEGMENT and LINE barriers (R177, R372) -/

/-- Whether the arrivals carried in the last cycle, or the last trunk cycle, reach `EXPECT`. -/
def remoteDue (d : Dev) (line : Bool) (b : Nat) : Bool :=
  let n := rd d (Reg.SEQ_LBAR_EXPECT b)
  if rimeState d ≠ 1 ∨ n = 0 ∨ 16 ≤ b ∨ d.k = 0 then false
  else if line then
    d.k % 80 == 0 && (match d.rime.down with
      | some (c, p) => c + 1 == cycNo d && bit (byteAt p 0) 7 && decide (n ≤ beAt p (12 + 2 * b) 2 % 2 ^ 15)
      | none => false)
  else d.k % 20 == 0 && decide (n ≤ arrCount d b ((barrier d (barKey 3 0 b)).gen % 256) (cycNo d - 1))

/-- REMOTE_BARRIER_RELEASE: `line` chooses the LINE barrier `b`, else the SEGMENT barrier. -/
def execRemoteBarrierRelease (line : Bool) (b : Nat) (s : State) : Host.Outcome State Fault Refusal :=
  if remoteDue s.d line b then .next { s with d := releaseBarrier s.d (barKey (if line then 4 else 3) 0 b) } else .next s

end Sys2Proof.Machine
end

