-- ==== Sys2Proof/Machine/Fixed.lean ====
section
/-!
DEFINITION. Real quantities the spec defines and integers report: square roots, powers of two and least-squares sums in
fixed point, with enough fraction bits that only the rounding of the last digit is in question. Where a rule states that
rounding, it is the rule's; where it states none, `realInt` leaves it open (log entry 22).
-/
namespace Sys2Proof.Machine

/-- The integer that reports num / den (den > 0): the exact one where the quotient is an integer within 2^-20, else one
of its two neighbours. -/
def realInt (num den : Int) : Int :=
  let r := roundDiv num den
  if (num - r * den).natAbs * 2 ^ 20 < den.natAbs then r
  else num.fdiv den + (Config.openRound num den % 2 : Nat)

/-- ⌊2^80 / √j⌋. -/
def invSqrt (j : Nat) : Int := (isqrt 81 (2 ^ 160 / j) : Nat)

/-- 2^96 × 2^f for a fraction f / 2^96, as the product of the roots of two its bits select. -/
def exp2Frac (f : Nat) : Nat :=
  ((List.range 96).foldl (fun (a : Nat × Nat) i =>
    (if bit f (95 - i) then a.1 * a.2 / 2 ^ 96 else a.1, isqrt 98 (a.2 * 2 ^ 96))) (2 ^ 96, isqrt 98 (2 * 2 ^ 192))).1

/-- round(x × 2^(a / b)) for b > 0. -/
def mulExp2 (x a b : Int) : Int :=
  let q := a.fdiv b
  let f := ((a - q * b) * 2 ^ 96).fdiv b
  let p : Int := (exp2Frac f.toNat : Nat)
  if 0 ≤ q then roundDiv (x * p * 2 ^ q.toNat) (2 ^ 96) else roundDiv (x * p) (2 ^ 96 * 2 ^ (-q).toNat)

/-- The sums of a least-squares fit of S over u = 1 / √j, with u scaled by 2^80. -/
structure FitSums where
  n : Int
  u : Int
  uu : Int
  s : Int
  us : Int
  ss : Int
deriving DecidableEq, Repr

/-- The sums over the points (j, S). -/
def fitSums (ps : List (Nat × Int)) : FitSums :=
  ps.foldl (fun a p => let u := invSqrt p.1
    ⟨a.n + 1, a.u + u, a.uu + u * u, a.s + p.2, a.us + u * p.2, a.ss + p.2 * p.2⟩) ⟨0, 0, 0, 0, 0, 0⟩

/-- `C0`, `C1` and `RMS` of R202, of points whose values are S × num / den. -/
def fit (a : FitSums) (num den : Int) : Int × Int × Int :=
  let dd := a.n * a.uu - a.u * a.u
  let n1 := a.n * a.us - a.u * a.s
  let c1 := realInt (n1 * 2 ^ 80 * num) (dd * den)
  let c0 := realInt ((a.s * dd - n1 * a.u) * num) (a.n * dd * den)
  let r2 := (a.ss * a.n * dd - (a.s * dd - n1 * a.u) * a.s - n1 * a.us * a.n) * num * num
  let x := (r2 * 2 ^ 80).fdiv (a.n * a.n * dd * den * den)
  let rms := realInt (isqrt 160 x.toNat : Nat) (2 ^ 40)
  (c0, c1, rms)

end Sys2Proof.Machine
end

