-- ==== Sys2Proof/Machine/Fold.lean ====
section
/-!
DEFINITION. Grading in the fold (R194 to R207): counters, histogram spans, results, marks, evaluations.
-/
namespace Sys2Proof.Machine

/-- Offsets of GRADE and HIST (R124). -/
def gradeOff (c : Nat) : Nat := entryOf c + segOff 2
def histOff (c : Nat) : Nat := entryOf c + segOff 3

/-- Read and write a GRADE field. -/
def gd (d : Dev) (c off n : Nat) : Nat := ledRd d (gradeOff c + off) n
def gdW (d : Dev) (c off n v : Nat) : Dev := ledWr d (gradeOff c + off) n v

/-- The sentinel of an `n`-byte field (R193). -/
def sentinel (n : Nat) : Nat := 2 ^ (8 * n - 1)

/-- A field of a result: its offset, its size, and its value where it is computed. -/
abbrev RField := Nat × Nat × Option Int

/-- Write a result field: the sentinel, the value, or a value the spec does not state where the field cannot hold it. -/
def putField (d : Dev) (c base : Nat) (f : RField) : Dev :=
  match f.2.2 with
  | none => gdW d c (base + f.1) f.2.1 (sentinel f.2.1)
  | some x =>
    if decide (-(2 : Int) ^ (8 * f.2.1 - 1) ≤ x ∧ x < (2 : Int) ^ (8 * f.2.1 - 1)) then gdW d c (base + f.1) f.2.1 (ofS (8 * f.2.1) x)
    else useFree (gdW d c (base + f.1) f.2.1 (freeVal d % 2 ^ (8 * f.2.1)))

/-- Start of a kind's result block (R209). -/
def resBase (kind : Nat) : Nat := match kind with | 1 => 0x090 | 2 => 0x0C0 | 3 => 0x180 | 4 => 0x100 | _ => 0x130

/-- The quantity fields of a kind with nothing computed. -/
def emptyFields (kind : Nat) (incs : List Nat) : List RField :=
  match kind with
  | 1 => [16, 20, 24, 28, 32, 36].map (fun o => (o, 4, none))
  | 2 => [16, 20, 24, 28, 32, 36, 40, 44].map (fun o => (o, 4, none))
  | 3 => (List.range 8).flatMap (fun t =>
      let z : Option Int := if incs.getD t 0 = 0 then some 0 else none
      [(16 + 16 * t, 4, some (toS 32 (incs.getD t 0))), (20 + 16 * t, 4, z), (24 + 16 * t, 4, z), (28 + 16 * t, 4, z)])
  | 4 => [16, 20, 24, 28, 32].map (fun o => (o, 4, none))
  | _ => [(16, 8, none), (24, 8, none), (32, 8, none), (40, 8, none), (48, 4, none), (52, 4, none), (56, 2, none),
          (58, 2, none), (60, 4, none), (64, 4, none)]

/-- Saturate to a signed 32-bit value. -/
def sat32 (x : Int) : Int := satS 32 x

/-- Log data of a result: its header and its two quantities (R210). -/
def resLog (d : Dev) (c kind : Nat) : List Byte :=
  let b := resBase kind
  let w := fun o => natLE 4 (gd d c (b + o) 4)
  let thou := fun o => let x := gd d c (b + o) 8
    natLE 4 (if x = sentinel 8 then sentinel 4 else ofS 32 (sat32 (roundDiv (toS 64 x) 1000)))
  natLE 4 (gd d c (b + 8) 4) ++ natLE 4 (gd d c (b + 12) 4) ++
  (match kind with
   | 1 => w 32 ++ w 36
   | 2 => w 32 ++ w 44
   | 3 => w 20 ++ w 24
   | 4 => w 16 ++ w 20
   | _ => thou 32 ++ thou 16)

/-- Write a result and log event 0x50 (R194, R210). -/
def writeResult (d : Dev) (c kind status pset aux tick : Nat) (fields : List RField) : Dev :=
  let b := resBase kind
  let d := gdW (gdW d c b 8 tick) c (b + 8) 4 (kind + 2 ^ 8 * status + 2 ^ 16 * pset + 2 ^ 24 * aux)
  let d := gdW d c (b + 12) 4 (gd d c (b + 12) 4 + 1)
  let d := fields.foldl (fun d f => putField d c b f) d
  logReg d c 0x50 (resLog d c kind)

/-! ### Results of windows -/

/-- A DCIR result (R197): status and fields. -/
def dcirResult (d : Dev) (c : Nat) (w : GWin) : Nat × List RField :=
  let n : Nat := w.words.getD 1 0 % 2 ^ 8
  let vfs : Int := vFs d c
  let fs : Int := iFs d c w.range
  let v := fun i => w.vs.getD i 0
  let cur := fun i => w.is_.getD i 0
  let den := fun (i : Nat) => if i = 0 then (2 : Int) else n
  let vm := fun i => some (roundDiv (v i * vfs) (2 ^ 23 * den i))
  let im := fun i => some (roundDiv (cur i * fs) (2 ^ 23 * den i))
  let di := fun i => (2 * cur i - n * cur 0) * fs
  let small := fun i => decide ((di i).natAbs < w.words.getD 2 0 * 2 ^ 23 * 2 * n)
  let r := fun (i : Nat) => if small i then none else
    let num := (2 * v i - n * v 0) * vfs * 1000000000
    some (if 0 < di i then roundDiv num (di i) else roundDiv (-num) (-di i))
  let two := decide (w.words.getD 0 0 / 2 ^ 16 ≠ 0)
  let b := fun (x : Option Int) => if two then x else none
  (if small 1 || (two && small 2) then gSMALL else gOK,
    [(16, 4, vm 0), (20, 4, im 0), (24, 4, vm 1), (28, 4, im 1), (32, 4, r 1), (36, 4, b (vm 2)), (40, 4, b (im 2)), (44, 4, b (r 2))])

/-- An impedance result (R199). -/
def impResult (d : Dev) (c : Nat) (incs : List Nat) (w : GWin) : Nat × List RField :=
  let n : Nat := w.words.getD 1 0
  let vfs : Int := (rd d (Reg.FLOE_VFS_VFS (portOf d c)) % 2 ^ 16 : Nat)
  let fs : Int := iFs d c w.range
  let tone := fun (t : Nat) =>
    let s := w.tones.getD t []
    let inc := incs.getD t 0
    let vc := s.getD 0 0
    let vs := s.getD 1 0
    let ic := s.getD 2 0
    let is_ := s.getD 3 0
    let q := ic * ic + is_ * is_
    let z := fun (x : Int) => if q = 0 then none else some (sat32 (roundDiv (1000000000000 * vfs * x) (fs * q)))
    let amp := if q = 0 then none else
      let dn : Nat := n * 32768 * 2 ^ 23
      some (((isqrt 128 (16 * q.toNat * fs.natAbs * fs.natAbs / (dn * dn)) + 1) / 2 : Nat) : Int)
    if inc = 0 then [(16 + 16 * t, 4, some (0 : Int)), (20 + 16 * t, 4, some 0), (24 + 16 * t, 4, some 0), (28 + 16 * t, 4, some 0)]
    else [(16 + 16 * t, 4, some (toS 32 inc)), (20 + 16 * t, 4, z (vc * ic + vs * is_)), (24 + 16 * t, 4, z (vc * is_ - vs * ic)),
          (28 + 16 * t, 4, amp)]
  (if w.clip then gTONECLIP else gOK, (List.range 8).flatMap tone)

/-- Charge, points and exclusions of a fit window. -/
def fitCounts (w : GWin) : Int × Int × Int :=
  (w.pts.foldl (fun a p => a + p.q) 0, (w.pts.length : Nat), (w.nexcl : Nat))

/-- A relaxation result (R202, R203). -/
def relaxResult (d : Dev) (c : Nat) (w : GWin) : Nat × List RField :=
  let (_, np, nx) := fitCounts w
  let p : Int := (20 * 2 ^ (w.words.getD 0 0 % 16) : Nat)
  if np < 3 then (gNOFIT, [(16, 4, none), (20, 4, none), (24, 4, none), (28, 4, some np), (32, 4, some nx)])
  else
    let (c0, c1, rms) := fit (fitSums (w.pts.map (fun x => (x.j, x.sum)))) (vFs d c) (2 ^ 23 * p)
    (gOK, [(16, 4, some c0), (20, 4, some c1), (24, 4, some rms), (28, 4, some np), (32, 4, some nx)])

/-- A holdover result (R202, R204). -/
def holdResult (d : Dev) (c : Nat) (w : GWin) : Nat × List RField :=
  let (q, np, nx) := fitCounts w
  let p : Int := (20 * 2 ^ (w.words.getD 0 0 % 16) : Nat)
  let none4 : List RField := [(16, 8, none), (24, 8, none), (32, 8, none), (48, 4, none), (52, 4, none), (56, 2, none), (58, 2, none)]
  if w.closed = some gSATUR then (gSATUR, none4 ++ [(40, 8, some q), (60, 4, some np), (64, 4, some nx)])
  else if np < 3 then (gNOFIT, none4 ++ [(40, 8, none), (60, 4, some np), (64, 4, some nx)])
  else
    let (c0, c1, rms) := fit (fitSums (w.pts.map (fun x => (x.j, x.sum)))) ((iFs d c 4 : Nat) * 1000000) (2 ^ 23 * p)
    let noT := w.pts.any (·.noTemp)
    let ts := w.pts.map (·.temp)
    let tm := realInt (ts.foldl (· + ·) 0) (np * p)
    let lo := ts.foldl min (ts.headD 0)
    let hi := ts.foldl max (ts.headD 0)
    let tref := toS 16 (w.words.getD 3 0)
    let dbl : Int := (w.words.getD 3 0 / 2 ^ 16 : Nat)
    let lim : Int := (w.words.getD 4 0 % 2 ^ 16 : Nat)
    let iref := if noT then none else some (if dbl = 0 then c0 else mulExp2 c0 (tref - tm) dbl)
    let st := if noT then gNOTEMP else if lim ≠ 0 ∧ lim * p < hi - lo then gDRIFT else gOK
    let span := realInt (hi - lo) p
    let span := if 0 ≤ span ∧ span < 2 ^ 16 then toS 16 span.toNat else span
    (st, [(16, 8, some c0), (24, 8, some c1), (32, 8, iref), (40, 8, some q), (48, 4, some rms), (52, 4, some w.hold),
      (56, 2, if noT then none else some tm), (58, 2, if noT then none else some span), (60, 4, some np), (64, 4, some nx)])

/-- The `INC` of the eight tones of a channel's set. -/
def toneIncs (d : Dev) (c : Nat) : List Nat :=
  match groupOf d c with
  | some g => (List.range 8).map (fun t => rd d (Reg.CHAN_TONE_INC_INC (rd d (Reg.CHAN_REGCFG_TONE_SET g.group)) t))
  | none => []

/-- Write a closed window's result. -/
def foldWin (d : Dev) (c : Nat) (w : GWin) : Dev :=
  let st := w.closed.getD 0
  let aux := if w.kind = 2 ∨ w.kind = 3 then w.range else if w.kind = 5 then 4 else 0
  let (s, fs) :=
    if st = gOK ∨ (w.kind = 5 ∧ st = gSATUR) then
      match w.kind with
      | 2 => dcirResult d c w
      | 3 => impResult d c (toneIncs d c) w
      | 4 => relaxResult d c w
      | _ => holdResult d c w
    else (st, emptyFields w.kind (toneIncs d c))
  writeResult d c w.kind s w.pset aux w.tEnd fs

/-- What the fold of a channel writes in step 3, by close or request tick. -/
inductive FoldRes where
  | win (area : Nat) (w : GWin)
  | req (n : GNoWin)

def FoldRes.tick : FoldRes → Nat
  | .win _ w => w.closeK
  | .req n => n.tick

/-- The pending results, in the order of their ticks. -/
def pendRes (g : GradeCh) : List FoldRes :=
  let l := (if g.a.kind ≠ 0 ∧ g.a.closed.isSome then [FoldRes.win 0 g.a] else []) ++
    (if g.b.kind ≠ 0 ∧ g.b.closed.isSome then [FoldRes.win 1 g.b] else []) ++ g.noWin.map FoldRes.req
  l.mergeSort (fun a b => decide (a.tick ≤ b.tick))

/-- Whether the fold of cycle `n` covers the tick of a request that opened no window (R191). -/
def covered (n : Nat) (r : GNoWin) : Bool := decide (r.tick / 20 ≤ n)

/-- Step 3 of R195, in the fold of cycle `n`. -/
def foldResults (d : Dev) (n c : Nat) : Dev :=
  let g := gradeCh d c
  let d := (pendRes { g with noWin := g.noWin.filter (covered n) }).foldl (fun d r => match r with
    | .win _ w => foldWin d c w
    | .req x => writeResult d c x.kind x.status x.pset 0 x.tick (emptyFields x.kind (toneIncs d c))) d
  let free := fun (w : GWin) => if w.closed.isSome then ({} : GWin) else w
  setGradeCh d c (fun g => { g with a := free g.a, b := free g.b, noWin := g.noWin.filter (fun r => !covered n r) })

/-! ### Counters, histogram and marks -/

/-- Step 1 of R195. -/
def foldCounters (d : Dev) (c : Nat) : Dev :=
  let d := (List.range 4).foldl (fun d i => gdW d c (16 * i) 12 (gd d c (16 * i) 12 + hot d c (0x1C0 + 8 * i) 8)) d
  let d := gdW d c 0x040 4 (satAdd 32 (gd d c 0x040 4) (hot d c 0x1EB 1))
  gdW d c 0x044 4 (gd d c 0x044 4 + 1)

/-- Step 2 of R195 (R201). -/
def foldHist (d : Dev) (c g : Nat) : Dev :=
  let n := hot d c 0x1EA 1
  let fl := hot d c 0x1ED 1
  if n = 0 ∨ bit fl 1 then d
  else
    let vlo := toS 32 (rd d (Reg.CHAN_GRD_ICA_V_V_LO g))
    let bw : Nat := rd d (Reg.CHAN_GRD_ICA_CFG_BIN_UV g)
    let sh := rd d (Reg.CHAN_GRD_ICA_CFG_HSHIFT g)
    let split := rdB d (Reg.CHAN_GRD_ICA_CFG_SPLIT g)
    let d := gdW d c 0x250 4 (ofS 32 vlo)
    let d := gdW d c 0x254 4 (bw + 2 ^ 16 * sh + 2 ^ 24 * b2n split)
    let mu := roundDiv (hotS d c 0x1E0 4 * vFs d c) (2 ^ 23 * n)
    let b := (mu - vlo).fdiv bw
    let ok := decide (0 ≤ b ∧ b < (if split then 256 else 512))
    let i := b.toNat + (if split && bit fl 0 then 256 else 0)
    if !ok then
      let v := gd d c 0x25C 4
      gdW d c 0x25C 4 (v - v % 2 ^ 16 + satAdd 16 (v % 2 ^ 16) 1)
    else
      let q := hot d c 0x1E4 6 + gd d c 0x258 4
      let a := histOff c + 4 * i
      let old := ledRd d a 4
      let new := satAdd 32 old (q / 2 ^ sh)
      let d := gdW (ledWr d a 4 new) c 0x258 4 (q % 2 ^ sh)
      if 2 ^ 32 ≤ old + q / 2 ^ sh then
        let d := gdW d c 0x25C 4 (setBit (gd d c 0x25C 4) 16 true)
        let d := wrB d Reg.CHAN_GRD_STAT_HIST_SAT true
        if (gradeCh d c).hsat.contains i then d
        else logReg (setGradeCh d c (fun g => { g with hsat := i :: g.hsat })) c 0x52 (natLE 2 i)
      else d

/-- Step 4 of R195: a MARK (R196). -/
def foldMark (d : Dev) (c : Nat) : Dev :=
  if bit (hot d c 0x1ED 1) 2 then
    let tick := (gradeCh d c).markK
    let cnt := fun (d : Dev) i => gd d c (16 * i) 12
    let base := fun (d : Dev) i => gd d c (0x050 + 16 * i) 12
    let df : Nat → Nat := fun i => (cnt d i + 2 ^ 96 - base d i) % 2 ^ 96
    let lim := fun (x : Nat) => some ((min x 0x7FFFFFFF : Nat) : Int)
    let ratio := fun (o i : Nat) => if df i = 0 then none else some (roundDiv ((1000000 * df o : Nat) : Int) (df i : Nat))
    let first := gd d c 0x048 4 % 2 = 0
    let d := if first then writeResult d c 1 gNOBASE 0 0 tick (emptyFields 1 [])
      else writeResult d c 1 gOK 0 0 tick
        [(16, 4, lim (df 0 / 72000000000)), (20, 4, lim (df 1 / 72000000000)), (24, 4, lim (df 2 / 72000000000000)),
         (28, 4, lim (df 3 / 72000000000000)), (32, 4, ratio 1 0), (36, 4, ratio 3 2)]
    let d := (List.range 4).foldl (fun d i => gdW d c (0x050 + 16 * i) 12 (cnt d i)) d
    gdW d c 0x048 4 1
  else d

/-! ### Evaluation (R205 to R207) -/

/-- A quantity of a GRADE result, by block, offset and size, as a signed 32-bit value. -/
def resQty (d : Dev) (c start base off n thousand : Nat) (drift : Bool) : Option Int :=
  let st := gd d c (base + 9) 1
  let raw := gd d c (base + off) n
  if raw = sentinel n ∨ gd d c (base + 12) 4 = 0 ∨ gd d c base 8 < start then none
  else if st = gOK ∨ (drift ∧ (st = gNOTEMP ∨ st = gDRIFT)) then
    let x := toS (8 * n) raw
    some (sat32 (if thousand = 1 then x else roundDiv x 1000))
  else none

/-- The largest of a channel's histogram bins `lo` to `hi`, lowest on a tie: index and count. -/
def histMax (d : Dev) (c lo hi : Nat) : Nat × Nat :=
  ((List.range 512).filter (fun b => decide (lo ≤ b ∧ b ≤ hi))).foldl (fun (a : Nat × Nat) b =>
    let n := ledRd d (histOff c + 4 * b) 4
    if a.2 < n then (b, n) else a) (0, 0)

/-- A quantity of R206, where it is available. -/
def quantity (d : Dev) (c q pa pb : Nat) : Option Int :=
  let start := ledRd d (ctrlOff c + 0x80) 8
  let z := fun o => resQty d c start 0x180 (16 + 16 * pa + o) 4 1 false
  match q with
  | 0 => resQty d c start 0x090 32 4 1 false
  | 1 => resQty d c start 0x090 36 4 1 false
  | 2 => resQty d c start 0x090 16 4 1 false
  | 3 => resQty d c start 0x090 20 4 1 false
  | 4 => resQty d c start 0x0C0 32 4 1 false
  | 5 => resQty d c start 0x0C0 44 4 1 false
  | 6 => z 4
  | 7 => z 8
  | 8 => match z 4, z 8 with
    | some a, some b =>
      let x := (a * a + b * b).toNat
      some (sat32 (((isqrt 40 (4 * x) + 1) / 2 : Nat) : Int))
    | _, _ => none
  | 9 => resQty d c start 0x100 16 4 1 false
  | 10 => resQty d c start 0x100 20 4 1 false
  | 11 => resQty d c start 0x130 32 8 1000 false
  | 12 => resQty d c start 0x130 16 8 1000 true
  | 13 =>
    let b := entryOf c + 0x1EC0
    if ledRd d (b + 15) 1 ≤ 1 ∧ start * 50000 ≤ ledRd d b 8 then some (sat32 (ledRd d (b + 8) 4 : Nat)) else none
  | 14 => let m := histMax d c (2 * pa) (2 * pb + 1); if m.2 = 0 then none else some (m.1 : Nat)
  | 15 => let m := histMax d c (2 * pa) (2 * pb + 1); if m.2 = 0 then none else some (sat32 (m.2 : Nat))
  | 16 => if hot d c 0x170 4 = 0 then none else some (hotS d c 0x164 4)
  | _ => none

/-- Whether a condition of a criteria table holds. -/
def condHolds (d : Dev) (c t e i : Nat) : Bool :=
  if !rdB d (Reg.CHAN_GRD_COND_EN t e i) then true
  else match quantity d c (rd d (Reg.CHAN_GRD_COND_QTY t e i)) (rd d (Reg.CHAN_GRD_COND_PA t e i)) (rd d (Reg.CHAN_GRD_COND_PB t e i)) with
    | none => false
    | some x =>
      let l := toS 32 (rd d (Reg.CHAN_GRD_LIM_LIMIT t e i))
      if rdB d (Reg.CHAN_GRD_COND_OP t e i) then decide (x ≤ l) else decide (l ≤ x)

/-- The bin a table gives a channel (R205). -/
def evalBin (d : Dev) (c t : Nat) : Nat :=
  ((List.range (rd d (Reg.CHAN_GRD_TBL_COUNT t))).find? (fun e => (List.range 4).all (condHolds d c t e))).getD 0xFE

/-- Step 5 of R195: an EVALUATE (R205, R207). Bits 14 and 15 of `AVAIL` name no bins and are left open. -/
def foldEval (d : Dev) (c : Nat) : Dev :=
  let fl := hot d c 0x1ED 1
  if bit fl 3 then
    let t := b2n (bit fl 4)
    let b := evalBin d c t
    let eseq := (gd d c 0x248 4 + 1) % 2 ^ 32
    let avail := (List.range 14).foldl (fun a q => a + 2 ^ q * b2n (quantity d c q 0 0).isSome) 0
    let av := avail + 2 ^ 14 * (freeVal d % 4)
    let d := useFree d
    let qs := [0, 1, 2, 3, 4, 5, 8, 9, 11, 13].flatMap (fun q =>
      natLE 4 (match quantity d c q 0 0 with | some x => ofS 32 x | none => sentinel 4))
    let body := natLE 8 (gradeCh d c).evalK ++ natLE 4 (globalAddr d c) ++ natLE 4 (b + 2 ^ 8 * t + 2 ^ 16 * av) ++ qs ++ natLE 4 eseq
    let rec_ := body ++ natLE 4 (crc32c body)
    let d := hotW d c 0x1EC 1 b
    let d := ledPutList d (gradeOff c + 0x210) rec_
    let d := logReg d c 0x51 (natLE 1 b ++ natLE 1 t ++ natLE 2 0 ++ natLE 4 eseq)
    if isStandby d || !rdB d Reg.CHAN_GRD_CTRL_REC_EN then d
    else if 4096 ≤ d.recq.length then incSat (wrB d Reg.CHAN_GRD_STAT_REC_DROP true) Reg.CHAN_GRD_REC_DROP_CNT 1
    else incWrap { d with recq := d.recq ++ [rec_] } Reg.CHAN_GRD_REC_CNT_CNT 1
  else d

/-- The grading part of a channel's fold (R195); a poisoned GRADE or HIST keeps its partials (R132). -/
def foldGrading (d : Dev) (n c : Nat) : Dev :=
  let pg := bit (poison d c) 2
  let ph := bit (poison d c) 3
  let g := groupOf d c
  let hist := !pg && !ph
  let d := if pg then d else foldCounters d c
  let d := match g with
    | some r => if hist then foldHist d c r.group else d
    | none => d
  let d := if pg then d else foldEval (foldMark (foldResults d n c) c) c
  let fl := hot d c 0x1ED 1
  let d := if pg then d else
    hotW (ledZero d (entryOf c + 0x1C0) 32) c 0x1EB 1 0
  let d := if hist then hotW (ledZero d (entryOf c + 0x1E0) 11) c 0x1ED 1 (fl / 4 * 4) else d
  if pg then d else hotW d c 0x1ED 1 (hot d c 0x1ED 1 % 4 + (hot d c 0x1ED 1 / 16) * 16)

/-- The fold of a channel for cycle `n` (R129). -/
def foldCh (d : Dev) (n c : Nat) : Dev :=
  let d := foldGrading d n c
  let d := if bit (poison d c) 1 then d else ledPutList d (ctrlOff c) (ledBytes d (entryOf c + 0x140) 128)
  hotW d c 0x1F4 4 n

/-- Append the events of the folded cycle, and of earlier ones, to their LOG rings (R130); a poisoned LOG keeps them. -/
def foldEvents (d : Dev) (n : Nat) : Dev :=
  let due := fun (e : LedEv) => decide (e.k / 20 ≤ n) && !bit (poison d e.ch) 4
  let now := d.led.evq.filter due
  let d := { d with led := { d.led with evq := d.led.evq.filter (fun e => !due e) } }
  now.foldl logAppend d

/-- LEDGER_FOLD between Tk + 44 and Tk + 50 µs (R227): the last complete cycle folds for every populated channel. A cycle is
complete in the slack of its last tick, and a fold there takes exactly the partials of its 20 ticks (log entry 252). A
resynchronisation holds the fold from its capture to its install (R390). -/
def ledgerFold (d : Dev) : Dev :=
  let n := (d.k + 1) / 20 - 1
  if d.k + 1 < 20 ∨ n < d.led.foldN ∨ d.phase ≠ 5 then d
  else
    let todo := if d.led.foldN = n ∧ ¬d.led.owed.isEmpty then d.led.owed else allChans d
    let held := todo.filter d.sch.rsHold.contains
    let was := d.led.miss
    let d := (todo.filter (fun c => !held.contains c)).foldl (fun d c => foldCh d n c) d
    let d := { d with led := { d.led with foldN := n, owed := held } }
    let d := if held.isEmpty then foldEvents d n else d
    let d := incWrap d Reg.LEDGER_MISS_CNT_CNT (d.led.miss - was)
    if !held.isEmpty then d else
    keepCached (wr { d with led := { d.led with foldN := n + 1 } } Reg.LEDGER_FOLD_CYC_CYC n) n

/-- LEDGER_FOLD. -/
def execLedgerFold (s : State) : Host.Outcome State Fault Refusal := .next { s with d := ledgerFold s.d }

/-- FOLD_LATE: a cycle that has not folded before the first tick of the second cycle after it (R129). Late are the channels
whose fold of it is held, or all where it has not begun. -/
def foldLate (d : Dev) : Dev :=
  if d.led.foldN + 2 ≤ d.k / 20 then
    let n := d.led.foldN
    let cs := if d.led.owed.isEmpty then allChans d else d.led.owed
    let d := cs.foldl (fun d c => hotW d c 0x1F1 1 (setBit (hot d c 0x1F1 1) 0 true)) d
    let d := wrB d Reg.LEDGER_RSTAT_FOLD_LATE true
    let d := raise d Src.LEDGER_FOLD_LATE 0 0 n cs.length
    schM { d with led := { d.led with foldN := n + 1, owed := [] } } (fun s => { s with lateCyc := (n :: s.lateCyc).take 4 })
  else d

/-- FOLD_LATE. -/
def execFoldLate (s : State) : Host.Outcome State Fault Refusal := .next { s with d := foldLate s.d }

end Sys2Proof.Machine
end

