-- ==== Sys2Proof/Machine/Ledger.lean ====
section
/-!
DEFINITION. The commands of the channel ledger (chapter 05): uncorrectable errors, segment writes, multi-word access,
streams, flush and clear.
-/
namespace Sys2Proof.Machine

/-- The entry-view offset of an address of the HOT view or the entry view (R125). -/
def ledOffset (addr : Nat) : Option Nat :=
  if 0x04000000 ≤ addr ∧ addr < 0x04200000 then some (entryOf ((addr - 0x04000000) / 0x200) + addr % 0x200)
  else if 0x05000000 ≤ addr ∧ addr < 0x07000000 then some (addr - 0x05000000)
  else none

/-- The segment code of an entry-view offset (R124). -/
def segOf (off : Nat) : Nat :=
  let o := off % 0x2000
  if o < 0x200 then 0 else if o < 0x600 then 1 else if o < 0xE00 then 2 else if o < 0x1600 then 3 else if o < 0x1E00 then 4 else 5

/-! ### Uncorrectable errors (R132) -/

/-- An uncorrectable error at an entry-view offset. Of the two lines of CAL the first holds all six entries. -/
def ledgerUe (d : Dev) (off : Nat) : Dev :=
  let c := off / 0x2000
  let seg := segOf off
  let addr := 0x05000000 + off
  let d := incSatPart d Reg.LEDGER_ECC_CNT_CNT 16 16 1
  let d := wrB (wr d Reg.LEDGER_UE_ADDR_ADDR addr) Reg.LEDGER_RSTAT_UE true
  if seg = 0 then raise (setPoison d c 0 true) Src.LEDGER_HOT_UE 1 c addr 0
  else if seg = 5 then
    let d := if 0x100 ≤ off % 0x200 then d else (List.range 6).foldl (fun d i => commitCalEntry d (entryOf c + 0x1E00 + 0x20 * i) [0x40000000, 0, 0, 0, 0, 0, 0, 0]) d
    raise d Src.LEDGER_CACHE_UE 1 c addr 5
  else
    let d := setPoison d c seg true
    let d := { d with led := { d.led with ue := off / 256 :: d.led.ue.erase (off / 256) } }
    let d := if bit (poison d c) 4 then d else logReg d c 0xC1 [BitVec.ofNat 8 (2 ^ seg)]
    raise d Src.LEDGER_CACHE_UE 1 c addr seg

/-- LEDGER_UE: the entry-view or HOT-view address of the word. -/
def execLedgerUe (addr : Nat) (s : State) : Host.Outcome State Fault Refusal :=
  .next { s with d := match ledOffset addr with | some o => ledgerUe s.d o | none => s.d }

/-! ### Multi-word values (R134, R135) -/

/-- The multi-word values of HOT: offset and size in words. -/
def mwHot : List (Nat × Nat) :=
  [0x010, 0x020, 0x030, 0x060, 0x068, 0x080, 0x088, 0x098, 0x0A0, 0x110, 0x118, 0x128, 0x150, 0x158, 0x1C0, 0x1C8, 0x1D0,
   0x1D8].map (fun o => (o, 2))

/-- Of CTRL. -/
def mwCtrl : List (Nat × Nat) := [(0x010, 2), (0x018, 2), (0x080, 2), (0x088, 2)]

/-- Of GRADE. -/
def mwGrade : List (Nat × Nat) :=
  [(0x000, 3), (0x010, 3), (0x020, 3), (0x030, 3), (0x050, 3), (0x060, 3), (0x070, 3), (0x080, 3)] ++
  [0x090, 0x0C0, 0x100, 0x130, 0x140, 0x148, 0x150, 0x158, 0x180, 0x210].map (fun o => (o, 2))

/-- Of CAL: `TIME` and `REF_ID` of each entry, and the contact record's `TIME`. -/
def mwCal : List (Nat × Nat) := (List.range 6).flatMap (fun i => [(0x20 * i + 8, 2), (0x20 * i + 16, 2)]) ++ [(0xC0, 2)]

/-- The multi-word value that a word lies in: its entry-view offset and its words. -/
def mwOf (off : Nat) : Option (Nat × Nat) :=
  let c := entryOf (off / 0x2000)
  let seg := segOf off
  let o := off % 0x2000 - segOff seg
  let hit := fun (l : List (Nat × Nat)) => (l.find? (fun e => decide (e.1 ≤ o ∧ o < e.1 + 4 * e.2))).map
    (fun e => (c + segOff seg + e.1, e.2))
  match seg with
  | 0 => hit mwHot
  | 1 => hit mwCtrl
  | 2 => hit mwGrade
  | 4 => if 0x20 ≤ o ∧ (o - 0x20) % 0x20 < 8 then some (c + segOff 4 + o / 8 * 8, 2) else none
  | 5 => hit mwCal
  | _ => none

/-- A requester's shadow and staging. -/
def reqKey : Requester → Nat
  | .host => 0 | .triad => 1 | .core1 => 2 | .core2 => 3 | .debugger => 4 | .dma => 5

/-- Show whether shadows are held. -/
def snapBits (d : Dev) : Dev :=
  let held := fun k => (SMap.find d.led.shadow k).isSome
  wrB (wrB d Reg.LEDGER_RSTAT_SNAP_HOST (held 0 || held 4 || held 5)) Reg.LEDGER_RSTAT_SNAP_TRIAD (held 1 || held 2 || held 3)

def setShadow (d : Dev) (r : Requester) (x : Option MwHold) : Dev :=
  snapBits { d with led := { d.led with shadow := match x with
    | some m => SMap.put d.led.shadow (reqKey r) m
    | none => SMap.del d.led.shadow (reqKey r) } }

/-- A torn read or a discarded write. -/
def torn (d : Dev) (r : Requester) (addr : Nat) (write : Bool) : Dev :=
  let f := if write then (if isTriad r then Reg.LEDGER_RSTAT_WTORN_TRIAD else Reg.LEDGER_RSTAT_WTORN_HOST)
    else (if isTriad r then Reg.LEDGER_RSTAT_TORN_TRIAD else Reg.LEDGER_RSTAT_TORN_HOST)
  wr (wrB d f true) Reg.LEDGER_TORN_ADDR_ADDR addr

/-- A read of a word of the ledger at an entry-view offset; a poisoned line answers with an error (R132, R134). -/
def ledRead (d : Dev) (r : Requester) (addr off : Nat) : Dev :=
  let d := { d with led := ledTouch d.led off false }
  if d.led.ue.contains (off / 256) then errResp d r addr errPoison false
  else match mwOf off with
  | none => okResp d (ledRd d off 4)
  | some (b, n) =>
    if off = b then
      let ws := (List.range n).map (fun i => some (ledRd d (b + 4 * i) 4))
      okResp (setShadow d r (some ⟨b, ws⟩)) (ledRd d b 4)
    else match SMap.find d.led.shadow (reqKey r) with
      | some m =>
        if m.addr = b then
          let v := (m.words.getD ((off - b) / 4) none).getD 0
          let d := if off = b + 4 * (n - 1) then setShadow d r none else d
          okResp d v
        else okResp (torn d r addr false) (ledRd d off 4)
      | none => okResp (torn d r addr false) (ledRd d off 4)

/-- A read of the ledger's address views. -/
def ledAccess (d : Dev) (r : Requester) (addr : Nat) : Dev :=
  let e := accessErr d r addr false
  if e ≠ 0 then notServed d r addr e false
  else match ledOffset addr with
    | some o => ledRead d r addr o
    | none => d

/-- SHADOW_TIMEOUT: 64 µs after the lowest word's read. -/
def execShadowTimeout (req : Requester) (s : State) : Host.Outcome State Fault Refusal :=
  .next { s with d := setShadow s.d req none }

/-- A requester's open stagings, one for each value, the oldest first, and a change of them. -/
def stagings (d : Dev) (r : Requester) : List MwHold := SMap.get [] d.led.stage (reqKey r)
def setStagings (d : Dev) (r : Requester) (xs : List MwHold) : Dev :=
  { d with led := { d.led with stage := SMap.set [] d.led.stage (reqKey r) xs } }

/-- WRITE_STAGING_TIMEOUT: the staging whose 64 µs have passed, the oldest, is discarded (R135). -/
def stagingTimeout (d : Dev) (r : Requester) : Dev :=
  match stagings d r with
  | m :: rest => torn (setStagings d r rest) r (0x05000000 + m.addr) true
  | [] => d

/-- WRITE_STAGING_TIMEOUT. -/
def execWriteStagingTimeout (req : Requester) (s : State) : Host.Outcome State Fault Refusal :=
  .next { s with d := stagingTimeout s.d req }

/-! ### Segment writes (R128, R135) -/

/-- A write of a CTRL word: staged for the commit point, a multi-word value once it is complete. -/
def ctrlWrite (d : Dev) (r : Requester) (addr off w : Nat) : Dev :=
  match mwOf off with
  | none => stage (okResp d) r (.ctrlWords off [w])
  | some (b, n) =>
    let others := (stagings d r).filter (fun m => m.addr != b)
    if off = b then okResp (setStagings d r (others ++ [⟨b, some w :: List.replicate (n - 1) none⟩]))
    else match (stagings d r).find? (fun m => m.addr == b) with
      | some m =>
        let ws := m.words.set ((off - b) / 4) (some w)
        if ws.all (·.isSome) then stage (okResp (setStagings d r others)) r (.ctrlWords b (ws.map (·.getD 0)))
        else okResp (setStagings d r ((stagings d r).map (fun x => if x.addr = b then { x with words := ws } else x)))
      | none => okResp (torn d r addr true)

/-- A write of a ledger segment. -/
def segWrite (d : Dev) (r : Requester) (addr w : Nat) : Dev :=
  let e := accessErr d r addr true
  if e ≠ 0 then notServed d r addr e true
  else match ledOffset addr with
    | none => d
    | some off =>
      match segOf off with
      | 1 => if isStandby d then refuseW d r addr else ctrlWrite d r addr off w
      | 5 => calSegWrite d r addr w
      | _ => refuseW d r addr

/-- LEDGER_SEGMENT_WRITE. -/
def execLedgerSegmentWrite (req : Requester) (addr w : Nat) (s : State) : Host.Outcome State Fault Refusal :=
  .next { s with d := segWrite s.d req addr w }

/-- The writable bits of a word of the step working set (R183). -/
def wsMask (o w : Nat) : Nat :=
  if o = 0x000 then w % 2 ^ 14 + (w / 2 ^ 16 % 2 ^ 13) * 2 ^ 16
  else if o = 0x034 then w % 2 ^ 24
  else if o = 0x03C ∨ o = 0x044 ∨ o = 0x04C ∨ o = 0x054 then w % 2 ^ 10
  else if o = 0x07C then w % 2 ^ 12
  else w

/-- A word of CTRL commits (R184). -/
def commitCtrlWord (d : Dev) (off w : Nat) : Dev :=
  let c := off / 0x2000
  let o := off % 0x2000 - segOff 1
  if o < 0x80 then
    if sqState d c = sqPAUSED ∧ sqPause d c = 8 then
      let v := wsMask o w
      let d := countUser d c false
      let d := hotW (ledWr d off 4 v) c (0x140 + o) 4 v
      countUser d c true
    else wrB d Reg.SEQ_STAT_CTRL_DISC true
  else if o < 0x90 ∨ 0x200 ≤ o then ledWr d off 4 w
  else d

/-- A staged CTRL value commits. -/
def commitCtrl (d : Dev) (off : Nat) : List Nat → Dev
  | [] => d
  | w :: ws => commitCtrl (commitCtrlWord d off w) (off + 4) ws

/-! ### Flush and clear (R131, R140) -/

/-- Why a clear is refused. -/
def clrRefused (d : Dev) : Bool :=
  let first := rd d Reg.LEDGER_CLR_CH_FIRST
  let num := rd d Reg.LEDGER_CLR_CH_NUM
  decide (4096 < first + num ∨ num = 0) || rdB d Reg.LEDGER_RSTAT_CLR_BUSY || isStandby d ||
  (setChans first num).any (fun c => (zoneOf d c).isSome && !chanMode d c (fun m => isMaint m || m == modeDormant))

/-- A write of `LEDGER_CTRL`. -/
def ledCtrlWrite (d : Dev) (r : Requester) (w : Nat) : Dev :=
  let addr := 0x04200000
  regAccess d r addr w (fun d =>
    let d := writeFields d r addr w
    let d := if bit w 0 then wrB d Reg.LEDGER_RSTAT_FLUSH_BUSY true else d
    if !bit w 1 then d
    else if clrRefused d then refuseW d r addr
    else stage (wrB d Reg.LEDGER_RSTAT_CLR_BUSY true) r
      (.ledgerClear (bits w 9 4) (rd d Reg.LEDGER_CLR_CH_FIRST) (rd d Reg.LEDGER_CLR_CH_NUM)))

/-- FLUSH. -/
def execFlush (req : Requester) (w : Nat) (s : State) : Host.Outcome State Fault Refusal :=
  .next { s with d := ledCtrlWrite s.d req (setBit w 0 true) }

/-- CLR_GO. -/
def execClrGo (req : Requester) (w : Nat) (s : State) : Host.Outcome State Fault Refusal :=
  .next { s with d := ledCtrlWrite s.d req (setBit w 1 true) }

/-- FLUSH_DONE: every dirty line and every HOT segment has reached DRAM. -/
def flushDone (d : Dev) : Dev :=
  if rdB d Reg.LEDGER_RSTAT_FLUSH_BUSY then
    wrB { d with led := { d.led with
        home := d.led.mem
        cache := d.led.cache.map (fun e => (e.1, e.2.map (fun w => (w.1, false)))) } } Reg.LEDGER_RSTAT_FLUSH_BUSY false
  else d

/-- FLUSH_DONE. -/
def execFlushDone (s : State) : Host.Outcome State Fault Refusal := .next { s with d := flushDone s.d }

/-- Zero the HOT grading area and set `BIN` to 0xFF (R208). -/
def clearGradeHot (d : Dev) (c : Nat) : Dev := hotW (ledZero d (entryOf c + 0x1C0) 0x30) c 0x1EC 1 0xFF

/-- Clear segments of a channel (R140); the results that wait for a fold go with their partials (R195). The clear of a changed
`LEDGER_VER` (R56) leaves a `CLEARED` entry as a command does, DESIGN CHOICE (log entry 228). -/
def clearCh (d : Dev) (segs c : Nat) : Dev :=
  let d := ((List.range 4).filter (fun i => bit segs i)).foldl (fun d i =>
    let a := entryOf c + segOff (i + 1)
    let n := segOff (i + 2) - segOff (i + 1)
    let d := setPoison (ledZero d a n) c (i + 1) false
    { d with led := { d.led with ue := d.led.ue.filter (fun l => decide (256 * l < a ∨ a + n ≤ 256 * l)) } }) d
  let d := if bit segs 1 || bit segs 2 then
      let free := fun (w : GWin) => if w.closed.isSome then ({} : GWin) else w
      setGradeCh (clearGradeHot d c) c (fun g => { g with a := free g.a, b := free g.b, noWin := [] })
    else d
  let d := if bit segs 2 then setGradeCh d c (fun g => { g with hsat := [] }) else d
  if bit segs 3 then logAppend d ⟨c, d.k, 0xC0, logProg d c, logStep d c, (BitVec.ofNat 8 (2 * segs)) :: List.replicate 15 0⟩ else d

/-- A clear commits. -/
def commitClear (d : Dev) (segs first num : Nat) : Dev :=
  (setChans first num).foldl (fun d c => clearCh d segs c) (wrB d Reg.LEDGER_RSTAT_CLR_BUSY false)

/-- A changed `LEDGER_VER` commits (R138). -/
def layoutChange (d : Dev) : Dev :=
  (List.range 4096).foldl (fun d c =>
    clearGradeHot (ledZero (ledZero d (entryOf c + 0x010) 0x30) (entryOf c + 0x040) 0x1B0) c) d

/-! ### Streams (R136, R137) -/

/-- The size of a segment. -/
def ledSegSize (seg : Nat) : Nat := [0x200, 0x400, 0x800, 0x800, 0x800, 0x200].getD seg 0

/-- Why an enable is refused. -/
def strmRefused (d : Dev) (s seg period : Nat) : Bool :=
  let num := rd d (Reg.LEDGER_STRM_CH_NUM s)
  let len := rd d (Reg.LEDGER_STRM_RANGE_LEN s)
  let load := ((List.range 8).filter (fun t => t != s && rdB d (Reg.LEDGER_STRM_CTRL_EN t) &&
    rd d (Reg.LEDGER_STRM_CTRL_SEG t) == 0)).foldl (fun a t =>
      a + rd d (Reg.LEDGER_STRM_CH_NUM t) * rd d (Reg.LEDGER_STRM_RANGE_LEN t)) (num * len)
  decide (period ≤ rd d (Reg.LEDGER_STRM_PHASE_PHASE s) ∨ period = 0 ∨ 5 < seg ∨ (seg ≠ 0 ∧ period % 20 ≠ 0) ∨
    ledSegSize seg < rd d (Reg.LEDGER_STRM_RANGE_OFFSET s) + len ∨ 4096 < rd d (Reg.LEDGER_STRM_CH_FIRST s) + num ∨
    (seg = 0 ∧ 65536 < load))

/-- A write of `LEDGER_STRM_CTRL` that sets `EN`. -/
def strmEnable (d : Dev) (r : Requester) (s w : Nat) : Dev :=
  let addr := 0x04200800 + 0x20 * s
  if 8 ≤ s then d else
  regAccess d r addr w (fun d =>
    if rdB d (Reg.LEDGER_STRM_CTRL_EN s) then okResp d
    else if strmRefused d s (bits w 1 3) (bits w 16 16) then refuseW (wrB d (Reg.LEDGER_STRM_STAT_REFUSED s) true) r addr
    else wrB (writeFields d r addr w) (Reg.LEDGER_STRM_STAT_ACTIVE s) true)

/-- LEDGER_STREAM_ENABLE. -/
def execLedgerStreamEnable (req : Requester) (strm w : Nat) (s : State) : Host.Outcome State Fault Refusal :=
  .next { s with d := strmEnable s.d req strm (setBit w 0 true) }

/-- A capture record. -/
def captureRec (d : Dev) (s seg tick : Nat) : List Byte :=
  let first := rd d (Reg.LEDGER_STRM_CH_FIRST s)
  let num := rd d (Reg.LEDGER_STRM_CH_NUM s)
  let len := rd d (Reg.LEDGER_STRM_RANGE_LEN s)
  let off := segOff seg + rd d (Reg.LEDGER_STRM_RANGE_OFFSET s)
  let loss := rd d (Reg.LEDGER_STRM_LOSS_CNT s)
  natLE 8 tick ++ natLE 1 s ++ natLE 1 seg ++ natLE 2 len ++ natLE 2 first ++ natLE 2 num ++ natLE 4 (rd d (Reg.LEDGER_STRM_CNT_CNT s)) ++
    natLE 4 (loss % 2 ^ 16 + loss / 2 ^ 16) ++ natLE 8 0 ++
    (List.range num).flatMap (fun i => ledBytes d (entryOf (first + i) + off) len)

/-- The tick a due capture of a stream carries, with the mark that it has been taken (R136). -/
def captureDue (d : Dev) (s : Nat) : Option (Nat × Nat) :=
  let seg := rd d (Reg.LEDGER_STRM_CTRL_SEG s)
  let per := rd d (Reg.LEDGER_STRM_CTRL_PERIOD s)
  let ph := rd d (Reg.LEDGER_STRM_PHASE_PHASE s)
  let (due, t, m) := if seg = 0 then (decide (d.phase = 5) && d.k % per == ph, d.k, d.k + 1)
    else (decide (d.led.foldN ≠ 0) && (d.led.foldN - 1) * 20 % per == ph, (d.led.foldN - 1) * 20, d.led.foldN)
  if rdB d (Reg.LEDGER_STRM_CTRL_EN s) && due && SMap.get 0 d.led.capK s != m then some (t, m) else none

/-- Whether a HOT capture falls in this tick (R136). -/
def hotCapTick (d : Dev) : Bool :=
  d.led.hotCap || (List.range 8).any (fun s => rdB d (Reg.LEDGER_STRM_CTRL_EN s) && rd d (Reg.LEDGER_STRM_CTRL_SEG s) == 0 &&
    d.k % rd d (Reg.LEDGER_STRM_CTRL_PERIOD s) == rd d (Reg.LEDGER_STRM_PHASE_PHASE s))

/-- A capture: skipped while the last is being delivered, dropped where its ring is off or lacks room, else queued. -/
def streamCapture (d : Dev) (s : Nat) : Dev :=
  match captureDue d s with
  | none => d
  | some (t, m) =>
    let d := { d with led := { d.led with
        capK := SMap.set 0 d.led.capK s m
        hotCap := d.led.hotCap || rd d (Reg.LEDGER_STRM_CTRL_SEG s) == 0 } }
    let rec_ := captureRec d s (rd d (Reg.LEDGER_STRM_CTRL_SEG s)) t
    if !(hring d (2 + s)).queue.isEmpty then incSatPart d (Reg.LEDGER_STRM_LOSS_CNT s) 0 16 1
    else if (hring d (2 + s)).en = false ∨ ringFits d (2 + s) (padded rec_).length = false then
      incSatPart d (Reg.LEDGER_STRM_LOSS_CNT s) 16 16 1
    else setHring d (2 + s) (fun r => { r with queue := r.queue ++ [rec_] })

/-- LEDGER_STREAM_CAPTURE. -/
def execLedgerStreamCapture (strm : Nat) (s : State) : Host.Outcome State Fault Refusal :=
  .next { s with d := streamCapture s.d strm }

end Sys2Proof.Machine
end

