-- ==== Sys2Proof/Machine/Power.lean ====
section
/-!
DEFINITION. Power domains, dormancy, wake and the thaw port (chapter 20), and the part of the start-up sequence they
share with every reset: the fresh device with what survives, and the switching on of the domains.
-/
namespace Sys2Proof.Machine

/-! ### What survives a reset or dormancy (R473, R467, R481) -/

/-- Whether an address lies on a page of PD_AON (R472). -/
def inAon (addr : Nat) : Bool := addr / 0x10000 == 0x1001 || addr / 0x10000 == 0x1014

/-- The Névé bytes kept: the banks selected, and the event ring with its header where `ring` says so (R325, R473). -/
def neveKept (m : Memory) (banks : Nat) (ring : Bool) : Memory :=
  m.filter (fun c => bit banks (c.1 / 0x80000) || (ring && decide (0x77FC0 ≤ c.1 ∧ c.1 < 0x80000)))

/-- The life-cycle registers that are read from the fuses (R499). -/
def fuseRegs (d : Dev) (f : Fuses) : Dev :=
  let live := fun (keys : List (Option (Nat × Nat))) (rev : Nat) =>
    (sel 4 (fun i => (keys.getD i none).isSome && !bit rev i)).foldl (fun a i => a + 2 ^ i) 0
  let d := wr (wr d Reg.LCY_STATE_STATE f.state) Reg.LCY_STATE_ROLLBACK f.rollback
  let d := wrB (wrB d Reg.LCY_STATE_CALVE (f.calve && !f.calveRev)) Reg.LCY_STATE_DBG (f.dbg && !f.dbgRev)
  let d := wr (wr d Reg.LCY_STATE_TRANS f.trans) Reg.LCY_SERIAL_SERIAL f.serial
  wr (wr d Reg.LCY_STATE_BOOT_KEYS (live f.bootKeys f.bootRev)) Reg.LCY_STATE_FIRN_KEYS
    (live f.firnKeys f.firnRev)

/-- The device after a reset or a wake has begun: every register outside PD_AON at its reset value, every memory that is
not retained wiped, the registers of PD_AON where they are kept, and what the world outside holds. -/
def freshDev (d : Dev) (aon : Bool) (banks : Nat) (ring : Bool) : Dev :=
  let x : Dev := { free := d.free, host := { mem := d.host.mem }, neve := neveKept d.neve banks ring }
  if aon then { x with
      regs := d.regs.filter (fun e => inAon (e.1 / 32)),
      pwr := { d.pwr with req := none, entryK := none, wake := false, refPend := false, offPend := 0, onPend := 0 } }
  else x

/-- The event ring's counters, which the MOR registers mirror (R324). -/
def ringRegs (d : Dev) : Dev :=
  let h := fun o => Memory.readLE d.neve (ringHdr + o) 4
  let d := wr (wr d Reg.MOR_LOG_WRITTEN_CNT (h 4)) Reg.MOR_LOG_LOST_CNT (h 8)
  wr (wr d Reg.MOR_LOG_DROPPED_CNT (h 12)) Reg.MOR_LOG_RD_RD (h 16)

/-- Draw the nonce afresh (R493): a free value. -/
def drawNonce (d : Dev) : Dev :=
  let d := useFree (wr d Reg.LCY_NONCE_LO_NONCE (freeVal d))
  useFree (wr d Reg.LCY_NONCE_HI_NONCE (freeVal d))

/-! ### Switching on the domains (R454, R463, R475 step 2) -/

/-- The power-up order. -/
def upOrder : List Nat := [1, 2, 3, 4, 12, 13, 5, 8, 6, 7, 9, 10, 11, 14, 15]

/-- Whether a domain is on. -/
def domOn (d : Dev) (x : Nat) : Bool := rdFBit d Reg.PWR_STAT_DOM_ON x

/-- The next domain to switch on: the first that is off and that the policy does not hold off. -/
def nextDom (d : Dev) : Option Nat := upOrder.find? (fun x => !domOn d x && !rdFBit d Reg.PWR_POLICY_OFF x)

/-- The triad's configuration at a reset, from the strap and the permission (R294). -/
def triadConfig (d : Dev) (calve : Bool) : Dev :=
  let ok := rdB d Reg.LCY_STATE_CALVE
  let d := wrB (wrB d Reg.TRI_STAT_STRAP calve) Reg.TRI_STAT_PERMIT ok
  let cfg := if calve && ok then 2 else 0
  let d := wr (wr d Reg.TRI_STAT_CONFIG cfg) Reg.SYS_PROPS_TRIAD cfg
  if calve && !ok then raise (wrB d Reg.TRI_STAT_CALVE_DENIED true) Src.TRI_CALVE_DENIED 0 0 0 0 else d

/-- The triad's configuration at a wake, which is no reset: a CALVED triad stays so, whatever the permission now (R294,
R473, R552); the cores of any other start VOTED. -/
def triadWake (d : Dev) (calve calved : Bool) : Dev :=
  let cfg := if calved then 2 else 0
  let d := wrB (wrB d Reg.TRI_STAT_STRAP calve) Reg.TRI_STAT_PERMIT (rdB d Reg.LCY_STATE_CALVE)
  wr (wr d Reg.TRI_STAT_CONFIG cfg) Reg.SYS_PROPS_TRIAD cfg

/-- The straps are those sampled at the release of reset, and the sequence begins with the domains (R475). -/
def beginUp (d : Dev) (f : Fuses) (cause : Nat) (calve rank : Bool) (old : BootSt) : Dev :=
  let d := ringRegs (fuseRegs d f)
  let d := drawNonce d
  let d := wr d Reg.BIST_RESET_CAUSE_CAUSE cause
  let d := if cause = 4 then triadWake d calve old.calved else triadConfig d calve
  let d := wrB d Reg.SCH_STAT_RANK rank
  let d := { d with boot := { step := 2, cause := cause, strapCalve := calve, strapRank := rank, calved := isCalved d,
                              failed := old.failed, faultLow := old.faultLow } }
  match nextDom d with
  | some x => { d with boot := { d.boot with dom := x, tries := 1 } }
  | none => d

/-- The domains are on: what the sequencer found is logged, and the time base moves to REFCLK if it can (R463 to R467). -/
def domainsOn (d : Dev) (refOk : Bool) : Dev :=
  let d := d.boot.retried.foldl (fun d r => raise d Src.PWR_DOM_RETRY 0 0 r.1 r.2) d
  let d := match d.boot.failed with
    | some (x, n) => raise d Src.PWR_WAKE_FAIL 0 0 x n
    | none => d
  let d := wrB (wrB d Reg.PWR_STAT_CLK_RC (!refOk)) Reg.PWR_STAT_REFCLK_OK refOk
  let d := wrB d Reg.PWR_STAT_WAKE_DEGRADED (!refOk)
  let d := if refOk then d else raise d Src.PWR_WAKE_DEGRADED 0 0 0 0
  let d := wr (wrB d Reg.PWR_DOM_FAIL_FAILED false) Reg.PWR_STAT_STATE 0
  { d with boot := { d.boot with step := 3, dom := 0, retried := [], failed := none, faultLow := false } }

/-- The domain being switched on reports ready; `refOk` says whether REFCLK has met R465 by then. -/
def domainReady (d : Dev) (refOk : Bool) : Dev :=
  let b := d.boot
  if b.step = 2 ∧ b.dom ≠ 0 ∧ b.offWait = false then
    let d := wrFBit d Reg.PWR_STAT_DOM_ON b.dom true
    let d := { d with boot := { b with retried := if b.tries = 1 then b.retried else b.retried ++ [(b.dom, b.tries)] } }
    match nextDom d with
    | some x => { d with boot := { d.boot with dom := x, tries := 1 } }
    | none => domainsOn d refOk
  else d

/-- DOMAIN_READY. -/
def execDomainReady (refOk : Bool) (s : State) : Host.Outcome State Fault Refusal := .next { s with d := domainReady s.d refOk }

/-- A domain has not reported ready within 2 ms: it is switched off, and the fourth failure fails the wake (R463, R464). -/
def domainTimeout (d : Dev) : Dev :=
  let b := d.boot
  if b.step = 2 ∧ b.dom ≠ 0 ∧ b.offWait = false then
    let d := wr (wr d Reg.PWR_DOM_FAIL_DOMAIN b.dom) Reg.PWR_DOM_FAIL_ATTEMPTS b.tries
    if b.tries < 4 then { d with boot := { b with offWait := true } }
    else
      let on := rd d Reg.PWR_STAT_DOM_ON
      let keep := on &&& (1 + 2 * rd d Reg.PWR_RETAIN_BANKS + 0x8000)
      let d := wr (wr d Reg.PWR_STAT_DOM_ON keep) Reg.PWR_STAT_STATE 2
      let d := incSat (wrB d Reg.PWR_DOM_FAIL_FAILED true) Reg.PWR_CNT_FAILS 1
      { d with boot := { b with step := 0, dom := 0, failed := some (b.dom, b.tries), faultLow := true, retried := [] } }
  else d

/-- DOMAIN_READY_TIMEOUT. -/
def execDomainReadyTimeout (s : State) : Host.Outcome State Fault Refusal := .next { s with d := domainTimeout s.d }

/-- The failed domain has been off for 1 ms and is switched on again (R463). -/
def domainRetry (d : Dev) : Dev :=
  if d.boot.offWait then
    let d := wr d Reg.PWR_DOM_FAIL_ATTEMPTS (d.boot.tries + 1)
    { d with boot := { d.boot with offWait := false, tries := d.boot.tries + 1 } }
  else d

/-- DOMAIN_RETRY. -/
def execDomainRetry (s : State) : Host.Outcome State Fault Refusal := .next { s with d := domainRetry s.d }

/-! ### Requests for dormancy (R459) -/

/-- Whether the device is in running operation: its power state is RUN and the boot verdict has passed. -/
def running (d : Dev) : Bool := rd d Reg.PWR_STAT_STATE == 0 && d.bootOk

/-- Whether a dormancy entry or a wake is under way, in which R461 answers a request for dormancy. -/
def sleepMoves (d : Dev) : Bool := rd d Reg.PWR_STAT_STATE == 1 || rd d Reg.PWR_STAT_STATE == 3

/-- The sleep code that R459 gives a request, on a STANDBY device `SLEEP_E_PAIR` (R508); `own` leaves out an accepted entry as a reason of its own. -/
def sleepCode (d : Dev) (own : Bool) : Nat :=
  if rd d Reg.PWR_STAT_STATE ≠ 0 then 4
  else if isStandby d then 2
  else if inBoot d || !(zones d).all (fun z => zmode d z == modeDormant) then 1
  else if role d ≠ 0 then 2
  else if !(rdB d Reg.PWR_WAKE_EN_THAW || rdB d Reg.PWR_WAKE_EN_WAKE_N || rdB d Reg.PWR_WAKE_EN_TIMER) then 3
  else if d.firn.verif.isSome || d.seq.load.isSome || rdB d Reg.MEAS_STAT_CAL_BUSY || rdB d Reg.AUX_CAL_STAT_BUSY ||
      rdB d Reg.LEDGER_RSTAT_FLUSH_BUSY || (!own && d.pwr.req.isSome) then 4
  else if rdB d Reg.SERAC_STAT_FIRE then 6
  else 0

/-- A request for dormancy with its retain mask: the code it is answered with, and the device (R459, R462). -/
def sleepRequest (d : Dev) (mask : Nat) : Nat × Dev :=
  let d := wr d Reg.PWR_RETAIN_BANKS mask
  let code := sleepCode d false
  let d := wr d Reg.PWR_STAT_SLEEP_CODE code
  if code = 0 then
    (0, { d with pwr := { d.pwr with req := some (cycNo d + 1), timer := rd d Reg.PWR_TIMER_MS } })
  else (code, d)

/-- The check of an accepted request at its commit point fails: the entry is abandoned (R459). -/
def sleepAbort (d : Dev) (code : Nat) : Dev :=
  let d := wrB (wr d Reg.PWR_STAT_SLEEP_CODE code) Reg.PWR_STAT_ENTRY_ABORT true
  { d with pwr := { d.pwr with req := none, timer := 0 } }

/-! ### Waking (R461, R462, R467) -/

/-- A wake sequence starts on the internal RC. -/
def startWake (d : Dev) (f : Fuses) : Dev :=
  let calve := d.boot.strapCalve
  let rank := d.boot.strapRank
  let old := d.boot
  let d := freshDev d true (rd d Reg.PWR_RETAIN_BANKS) false
  let d := wr (wrB d Reg.PWR_WAKE_CAUSE_POR false) Reg.PWR_STAT_STATE 3
  beginUp (wrB d Reg.PWR_STAT_CLK_RC true) f 4 calve rank old

/-- A wake event: `bit` is its bit of `PWR_WAKE_CAUSE`, `en` its enable. -/
def wakeEvent (d : Dev) (f : Fuses) (bit : Fld) (en : Bool) : Dev :=
  let st := rd d Reg.PWR_STAT_STATE
  if !en then d
  else if st = 1 then
    let d := wrB (wrB d bit true) Reg.PWR_WAKE_CAUSE_WAKE_IN_ENTRY true
    { d with pwr := { d.pwr with wake := true } }
  else if st = 2 ∨ d.boot.held = true then startWake (wrB d bit true) f
  else if st = 3 then wrB d bit true
  else d

/-- An address match on the wake address (R462, R468, R470). -/
def thawMatch (d : Dev) (f : Fuses) : Dev :=
  wakeEvent (wrB d Reg.THAW_STAT_MATCH_EV true) f Reg.PWR_WAKE_CAUSE_THAW (rdB d Reg.PWR_WAKE_EN_THAW)

/-- THAW_ADDRESS_MATCH. -/
def execThawAddressMatch (s : State) : Host.Outcome State Fault Refusal := .next { s with d := thawMatch s.d s.nv.fuse }

/-- WAKE_N_ASSERT: `WAKE_N` has been low for 10 µs. -/
def execWakeNAssert (s : State) : Host.Outcome State Fault Refusal :=
  .next { s with d := wakeEvent s.d s.nv.fuse Reg.PWR_WAKE_CAUSE_WAKE_N (rdB s.d Reg.PWR_WAKE_EN_WAKE_N) }

/-- The AON timer reaches zero. -/
def timerExpiry (d : Dev) (f : Fuses) : Dev :=
  if d.pwr.timer = 0 then d
  else wakeEvent { d with pwr := { d.pwr with timer := 0 } } f Reg.PWR_WAKE_CAUSE_TIMER (rdB d Reg.PWR_WAKE_EN_TIMER)

/-- AON_TIMER_EXPIRY. -/
def execAonTimerExpiry (s : State) : Host.Outcome State Fault Refusal := .next { s with d := timerExpiry s.d s.nv.fuse }

/-- Entry ends in DORMANT (R460 steps 3 and 4): the domains are off but for PD_AON, the retained banks and PD_SAFE where
R457 keeps it, and a latched wake starts at once (R461). -/
def sleepComplete (d : Dev) (f : Fuses) : Dev :=
  if rd d Reg.PWR_STAT_STATE ≠ 1 then d
  else
    let keep := 1 + 2 * rd d Reg.PWR_RETAIN_BANKS + (if rd d Reg.SAFE_STAT_CONF ≠ 0 then 0x8000 else 0)
    let low := faultNLow d
    let old := d.boot
    let latched := d.pwr.wake
    let on := rd d Reg.PWR_STAT_DOM_ON
    let d := freshDev d true (rd d Reg.PWR_RETAIN_BANKS) false
    let d := incSat (wr (wr d Reg.PWR_STAT_DOM_ON (on &&& keep)) Reg.PWR_STAT_STATE 2) Reg.PWR_CNT_SLEEPS 1
    let d := { d with pwr := { d.pwr with faultKeep := some low } }
    let d := { d with boot := { strapCalve := old.strapCalve, strapRank := old.strapRank, calved := old.calved } }
    if latched then startWake d f else d

/-- SLEEP_ENTRY_COMPLETE. -/
def execSleepEntryComplete (s : State) : Host.Outcome State Fault Refusal := .next { s with d := sleepComplete s.d s.nv.fuse }

/-! ### The reference clock (R465, R466) -/

/-- REFCLK is lost while the device runs. -/
def refclkLoss (d : Dev) : Dev :=
  let d := wrB d Reg.PWR_STAT_REFCLK_OK false
  if rd d Reg.PWR_STAT_STATE = 0 ∧ 3 ≤ d.boot.step ∧ rdB d Reg.PWR_STAT_CLK_RC = false then
    let d := wrB (wrB d Reg.PWR_STAT_CLK_RC true) Reg.PWR_STAT_REFCLK_LOST true
    raise (wrB d Reg.PWR_STAT_WAKE_DEGRADED true) Src.PWR_REFCLK_LOSS 0 0 0 0
  else { d with pwr := { d.pwr with refPend := false } }

/-- REFCLK_LOSS. -/
def execRefclkLoss (s : State) : Host.Outcome State Fault Refusal := .next { s with d := refclkLoss s.d }

/-- REFCLK has been within limits for 1 ms: the device moves to it at the next tick edge. -/
def refclkRestored (d : Dev) : Dev :=
  let d := wrB d Reg.PWR_STAT_REFCLK_OK true
  if rdB d Reg.PWR_STAT_CLK_RC ∧ rd d Reg.PWR_STAT_STATE = 0 then { d with pwr := { d.pwr with refPend := true } } else d

/-- REFCLK_RESTORED. -/
def execRefclkRestored (s : State) : Host.Outcome State Fault Refusal := .next { s with d := refclkRestored s.d }

/-- The move itself, at a tick edge: `WAKE_DEGRADED` clears. The edge is a gap for every Floe stream (R101). -/
def refclkMove (d : Dev) : Dev :=
  wrB (wrB { d with pwr := { d.pwr with refPend := false } } Reg.PWR_STAT_CLK_RC false) Reg.PWR_STAT_WAKE_DEGRADED false

/-! ### Policy (R455, R456) -/

/-- The domains that the image's policy holds off. -/
def policyOff (i : Image) : Nat := ((i.policy.filter (fun p => p.run == 1)).map (fun p => 2 ^ p.domain)).foldl (· ||| ·) 0

/-- The policy takes effect at the commit point of a LOAD_ACTIVE: domains that change to OFF are switched off after
Tk + 50 µs, and domains that change to ON serve from the commit point of the next cycle. -/
def policyCommit (d : Dev) : Dev :=
  let off := policyOff (img d)
  let on := rd d Reg.PWR_STAT_DOM_ON
  let goOn := (sel 16 (fun x => !bit on x && !bit off x && x != 0)).foldl (fun a x => a + 2 ^ x) 0
  let d := wr (wr d Reg.PWR_POLICY_OFF off) Reg.PWR_STAT_DOM_ON (on ||| goOn)
  { d with pwr := { d.pwr with offPend := on &&& off, onPend := goOn, onCyc := cycNo d + 1 } }

/-- A domain is switched off: its registers and memories lose their contents. -/
def dropDom (d : Dev) (x : Nat) : Dev :=
  let d := { d with regs := d.regs.filter (fun e => domainOf (e.1 / 32) != some x) }
  let d := wrFBit d Reg.PWR_STAT_DOM_ON x false
  if x = 6 ∨ x = 7 then { d with eng := d.eng.filter (fun e => if x = 6 then decide (12 ≤ e.1) else decide (e.1 < 12)) }
  else if x = 9 ∨ x = 10 then { d with floe := d.floe.filter (fun e => if x = 9 then decide (64 ≤ e.1) else decide (e.1 < 64)) }
  else if x = 11 then
    let d := { d with rime := {}, sch := {} }
    wr (wr d Reg.SYS_PROPS_ROLE 0) Reg.SYS_PROPS_RIME 0
  else if x = 15 then { d with safe := {} }
  else d

/-- The domains that wait to be switched off are, after Tk + 50 µs; PD_SAFE only while the safety section is neither CONFIRMED
nor ARMED (R457). -/
def policyEdge (d : Dev) : Dev :=
  let keepSafe := rd d Reg.SAFE_STAT_CONF != 0
  let off := d.pwr.offPend
  (sel 16 (fun x => bit off x && !(x == 15 && keepSafe))).foldl dropDom { d with pwr := { d.pwr with offPend := 0 } }

/-- The domains switched on by a policy serve from the commit point of the following cycle. -/
def policyServe (d : Dev) : Dev :=
  if d.pwr.onPend ≠ 0 ∧ d.pwr.onCyc ≤ cycNo d then { d with pwr := { d.pwr with onPend := 0 } } else d

/-! ### The thaw port (R468, R469) -/

/-- A transfer completed, with the bytes it returned. -/
def thawDone (d : Dev) (out : List Byte) : Dev :=
  let d := incSat d Reg.THAW_CNT_ACK 1
  { d with pwr := { d.pwr with thawOut := out, thawAck := true } }

/-- A byte that is not acknowledged: the transfer has no effect. -/
def thawNack (d : Dev) : Dev :=
  let d := incSat (wrB d Reg.THAW_STAT_NACK_EV true) Reg.THAW_CNT_NACK 1
  { d with pwr := { d.pwr with thawOut := [], thawAck := false } }

/-- A write command of `n` data bytes whose last must be `conf`, where there is one, served where `ok` says so. A transfer
that stops short of the command's length has no effect (log entry 46). -/
def thawWrite (d : Dev) (ok : Bool) (n : Nat) (conf : Option Nat) (data : List Byte) (act : Dev → Dev) : Dev :=
  if !ok || decide (n < data.length) then thawNack d
  else if data.length < n then d
  else if conf.all (fun v => byteAt data (n - 1) == v) then act d
  else thawNack d

/-- The eight bytes of STATUS. -/
def thawStatusBytes (d : Dev) : List Byte :=
  let cause := b2n (rdB d Reg.PWR_WAKE_CAUSE_THAW) + 2 * b2n (rdB d Reg.PWR_WAKE_CAUSE_WAKE_N) +
    4 * b2n (rdB d Reg.PWR_WAKE_CAUSE_TIMER) + 8 * b2n (rdB d Reg.PWR_WAKE_CAUSE_WAKE_IN_ENTRY) +
    16 * b2n (rdB d Reg.PWR_WAKE_CAUSE_POR)
  let flags := b2n (rdB d Reg.PWR_STAT_WAKE_DEGRADED) + 2 * b2n (faultNLow d) + 4 * b2n (domOn d 15) + 8 * b2n d.boot.held
  [rd d Reg.PWR_STAT_STATE, cause, rd d Reg.PWR_DOM_FAIL_DOMAIN, rd d Reg.PWR_DOM_FAIL_ATTEMPTS, flags,
    rd d Reg.PWR_STAT_SLEEP_CODE, d.pwr.zOut, 0].map (BitVec.ofNat 8)

/-- THAW_STATUS. -/
def execThawStatus (s : State) : Host.Outcome State Fault Refusal :=
  .next { s with d := thawDone s.d (thawStatusBytes s.d) }

/-- THAW_WAKE: 0xA5 starts a wake from DORMANT. -/
def execThawWake (data : List Byte) (s : State) : Host.Outcome State Fault Refusal :=
  .next { s with d := thawWrite s.d (rd s.d Reg.PWR_STAT_STATE == 2) 1 (some 0xA5) data (fun d =>
    wakeEvent (thawDone d []) s.nv.fuse Reg.PWR_WAKE_CAUSE_THAW true) }

/-- THAW_SLEEP: the retain mask, then 0x5A. -/
def thawSleep (d : Dev) (mask : Nat) : Dev :=
  let d := thawDone d []
  if rdB d Reg.THAW_CFG_SLEEP_EN then
    let (code, d) := sleepRequest d (mask % 16)
    if code = 0 then wrB d Reg.THAW_STAT_SLEEP_EV true else d
  else wr d Reg.PWR_STAT_SLEEP_CODE 5

/-- THAW_SLEEP. -/
def execThawSleep (data : List Byte) (s : State) : Host.Outcome State Fault Refusal :=
  .next { s with d := thawWrite s.d (running s.d || sleepMoves s.d) 2 (some 0x5A) data (fun d => thawSleep d (byteAt data 0)) }

/-- THAW_TIMER: `PWR_TIMER`, most significant byte first; in DORMANT the timer restarts from it. -/
def thawTimer (d : Dev) (ms : Nat) : Dev :=
  let d := wr (thawDone d []) Reg.PWR_TIMER_MS ms
  if rd d Reg.PWR_STAT_STATE = 2 then { d with pwr := { d.pwr with timer := ms } } else d

/-- THAW_TIMER. -/
def execThawTimer (data : List Byte) (s : State) : Host.Outcome State Fault Refusal :=
  .next { s with d := thawWrite s.d true 4 none data (fun d => thawTimer d (beAt data 0 4)) }

/-- THAW_ID. -/
def execThawId (s : State) : Host.Outcome State Fault Refusal :=
  .next { s with d := thawDone s.d ([0x1F, 0x4A, 0x40, 0x96].map (BitVec.ofNat 8)) }

/-- THAW_ZONE: a host request for a zone mode at the next boundary (R469); 0xFE while it waits. -/
def thawZone (d : Dev) (z m : Nat) : Dev :=
  let d := thawDone d []
  if zoneMay d z m && !isStandby d then
    let d := zoneQueue d ⟨z, m, 2, 0, cycNo d + 1⟩
    { d with pwr := { d.pwr with zOut := 0xFE } }
  else { d with pwr := { d.pwr with zOut := 4 } }

/-- THAW_ZONE. -/
def execThawZone (data : List Byte) (s : State) : Host.Outcome State Fault Refusal :=
  let ok := running s.d && rdB s.d Reg.THAW_CFG_SLEEP_EN
  .next { s with d := thawWrite s.d ok 3 (some 0x3C) data (fun d =>
    let z := byteAt data 0
    let m := byteAt data 1
    if 15 < z ∨ m < 1 ∨ 5 < m then thawNack d else thawZone d z m) }

/-- The failure record of R480, from byte 0. -/
def bistRec (d : Dev) : List Byte :=
  (List.range 64).map (fun i => BitVec.ofNat 8 (bits (rd d (Reg.BIST_REC_BYTES (i / 4))) (8 * (3 - i % 4)) 8))

/-- BISTREC: the failure record, while the device is held in reset by a self-test failure. -/
def execBistrec (n : Nat) (s : State) : Host.Outcome State Fault Refusal :=
  .next { s with d := if s.d.boot.held && decide (1 ≤ n ∧ n ≤ 64) then thawDone s.d ((bistRec s.d).take n) else thawNack s.d }

end Sys2Proof.Machine
end

