-- ==== Sys2Proof/Machine/SafeIo.lean ====
section
/-!
DEFINITION. Machine safety (chapter 17): inputs and test pulses (R404 to R406), evaluation (R407 to R412), safe outputs
and their tests (R413, R414), brakes (R415, R416), and confirmation with its record (R58, R417).
-/
namespace Sys2Proof.Machine

/-! ### Functions (R409, R410) -/

/-- The function of a number. -/
def fnRec (d : Dev) (f : Nat) : Option SafeFuncRec := (img d).safeFuncs.find? (fun r => r.func == f)

/-- Whether an input reads closed, as latched at the tick edge (R405). -/
def inClosed (d : Dev) (i : Nat) : Bool := rdFBit d Reg.SAFE_IN_STATE i

/-- Whether a hand of a TWOHAND function is actuated: its NO contact closed and its NC contact open. The contacts of a
hand are a pair of R406, the NO contact first (log entry 32). -/
def handOn (d : Dev) (r : SafeFuncRec) (h : Nat) : Bool :=
  inClosed d (r.ins.getD (2 * h) 0xFF) && !inClosed d (r.ins.getD (2 * h + 1) 0xFF)

/-- Whether a function is satisfied (R409). -/
def fnSatisfied (d : Dev) (r : SafeFuncRec) : Bool :=
  if r.kind = 3 then handOn d r 0 && handOn d r 1 else (fnIns r).all (inClosed d)

/-- Whether an input fault of R404 stands on a function. -/
def fnFaulty (d : Dev) (r : SafeFuncRec) : Bool :=
  (fnIns r).any (fun i => d.safe.xshort.contains i || d.safe.stuck.contains i)

/-- The actions of R410 on the zones of a function that enters DEMAND or LOCKED. A brake test on an axis of a covered zone
ends (R416). -/
def zoneActions (d : Dev) (r : SafeFuncRec) : Dev :=
  (fnZones r).foldl (fun d z =>
    let d := (zoneAxes d z).foldl (fun d n => if axState d n = axTEST then discardBrakeTest d n else d) d
    if r.kind = 3 then d
    else
      let d := (zoneAxes d z).foldl (fun d n => axisStop d n 3) d
      if r.kind = 2 ∧ (guardAllow d z).isSome then d else orderZoneQuench d z cSafe) d

/-- The outputs of a function go off (R413). -/
def fnOutsOff (d : Dev) (f : Nat) : Dev :=
  (img d).safeOuts.foldl (fun d o => if bit o.funcs f ∧ (sout d o.out).want then outOff d o.out else d) d

/-- A function enters DEMAND or LOCKED with a cause. -/
def enterFn (d : Dev) (r : SafeFuncRec) (st cause : Nat) : Dev :=
  let d := wr d (Reg.SAFE_FUNC_STATE r.func) st
  let d := wr d (Reg.SAFE_FUNC_CAUSE r.func) cause
  let d := wrB d (if st = fnLOCKED then Reg.SAFE_STAT_FAULT_EV else Reg.SAFE_STAT_DEMAND_EV) true
  let d := { d with safe := { d.safe with fn := SMap.mod {} d.safe.fn r.func (fun x => { x with openK := none }) } }
  zoneActions (fnOutsOff d r.func) r

/-- A demand in RUN (R409). -/
def fnRunDemand (d : Dev) (r : SafeFuncRec) : Dev :=
  let d := incSat (enterFn d r fnDEMAND 1) Reg.SAFE_CNT_DEMANDS 1
  raise d Src.SAFE_DEMAND 6 (fnUnit r) r.func (fnWord d r.func)

/-- An input fault (R406, R409): the actions of RUN's demand, and LOCKED. A function that is not evaluated has no state to
change. -/
def fnFault (d : Dev) (r : SafeFuncRec) (cause : Nat) : Dev :=
  if fnState d r.func = 0 then d
  else
    let d := enterFn d r fnLOCKED cause
    let d := raise d Src.SAFE_DEMAND 6 (fnUnit r) r.func (fnWord d r.func)
    raise d Src.SAFE_IN_FAULT 6 (fnUnit r) r.func (fnWord d r.func)

/-- The functions that use an input. -/
def fnsOfIn (d : Dev) (i : Nat) : List SafeFuncRec := (img d).safeFuncs.filter (fun r => (fnIns r).contains i)

/-- The reset press that is rejected: its register bit, count and event (R411). The event names the lowest function that
names the input; a commissioning input that no function names raises none. -/
def resetReject (d : Dev) (input us : Nat) : Dev :=
  let d := wrB d Reg.SAFE_STAT_RESET_REJ true
  let d := incSat d Reg.SAFE_CNT_RESET_REJ 1
  match (List.range 32).findSome? (fun f => (fnRec d f).bind (fun r => if r.reset = input then some r else none)) with
  | some r => raise d Src.SAFE_RESET_REJ 6 (fnUnit r) r.func (input + 2 ^ 16 * min (us / 1000) 0xFFFF)
  | none => d

/-! ### Inputs (R404 to R406) -/

/-- SAFE_INPUT_FILTERED: a level that has held for its `FILTER` time (R405). -/
def execSafeInputFiltered (input : Nat) (level : Bool) (s : State) : Host.Outcome State Fault Refusal :=
  .next { s with d := { s.d with safe := { s.d.safe with filt := setBit s.d.safe.filt (input % 24) level } } }

/-- The checks of R404 on one input at its source's off-pulse: it is high in the pulse, or has been low through the
on-phase before it while the function's other channels read closed. -/
def pulseCheck (d : Dev) (i : Nat) (high low : Bool) : Dev :=
  let fs := fnsOfIn d i
  let others := fs.all (fun r => ((fnIns r).filter (· != i)).all (fun j => bit d.safe.filt j))
  let n := if low && others && !fs.isEmpty then SMap.get 0 d.safe.low i + 1 else 0
  let newX := high && !d.safe.xshort.contains i
  let newS := decide (n = 3)
  let x := d.safe.xshort.filter (· != i)
  let st := d.safe.stuck.filter (· != i)
  let d := { d with safe := { d.safe with
      low := SMap.set 0 d.safe.low i (min n 4), xshort := if high then x ++ [i] else x,
      stuck := if 3 ≤ n then st ++ [i] else st } }
  if newX then fs.foldl (fun d r => fnFault d r 3) d
  else if newS then fs.foldl (fun d r => fnFault d r 4) d
  else d

/-- An off-pulse of a test-pulse source: bit i of `high` says that input i is high in it, bit i of `low` that it was low
through the on-phase that ends with it. Source s pulses at the phase s × `TP_MS` / 4 of the schedule. -/
def tpulse (d : Dev) (src high low : Nat) : Dev :=
  let d := { d with safe := { d.safe with tp := (d.k, 5 * rd d Reg.SAFE_TP_CFG_TP_MS * (src % 4)) } }
  ((img d).safeIns.filter (fun r => (r.typ == 0 || r.typ == 2) && r.tp == src)).foldl
    (fun d r => pulseCheck d r.input (bit high r.input) (bit low r.input)) d

/-- TPULSE_OFF_PULSE. -/
def execTpulseOffPulse (src high low : Nat) (s : State) : Host.Outcome State Fault Refusal :=
  .next { s with d := tpulse s.d src high low }

/-- Whether the condition of a fault of R406 stands now: 0 the pair `IN_A`, `IN_B` disagrees, 1 the pair `IN_C`, `IN_D`,
2 and 3 a hand's contacts are both closed or both open, 4 the lock feedback disagrees with the lock output. -/
def discStands (d : Dev) (r : SafeFuncRec) (kind : Nat) : Bool :=
  let i := fun (n : Nat) => r.ins.getD n 0xFF
  let c := fun (n : Nat) => bit d.safe.filt (i n)
  match kind with
  | 0 => r.kind != 3 && c 0 != c 1
  | 1 => r.kind != 3 && i 2 != 0xFF && i 3 != 0xFF && c 2 != c 3
  | 2 => r.kind == 3 && c 0 == c 1
  | 3 => r.kind == 3 && c 2 == c 3
  | 4 => r.kind == 2 && r.lockOut != 0xFF &&
      ((r.ins.drop 2).filter (· != 0xFF)).any (fun x => bit d.safe.filt x == (sout d r.lockOut).on)
  | _ => false

/-- SAFE_DISCREPANCY: the condition has stood for longer than its limit (R406). -/
def execSafeDiscrepancy (func kind : Nat) (s : State) : Host.Outcome State Fault Refusal :=
  match fnRec s.d func with
  | some r => .next { s with d := if discStands s.d r kind then fnFault s.d r (if kind = 4 then 6 else 2) else s.d }
  | none => .next s

/-- A function locked out by its test-pulse source (R418). -/
def tpLock (d : Dev) (r : SafeFuncRec) : Dev := if fnState d r.func = 0 then d else enterFn d r fnLOCKED 7

/-- TPULSE_READBACK_FAULT: every function that uses the source locks out (R418). -/
def tpulseFault (d : Dev) (src : Nat) : Dev :=
  let d := raise d Src.SAFE_TP_FAULT 0 0 src 0
  let ins := ((img d).safeIns.filter (fun r => r.tp == src)).map (·.input)
  ((img d).safeFuncs.filter (fun r => (fnIns r).any ins.contains)).foldl tpLock d

/-- TPULSE_READBACK_FAULT. -/
def execTpulseReadbackFault (src : Nat) (s : State) : Host.Outcome State Fault Refusal :=
  .next { s with d := tpulseFault s.d (src % 4) }

/-! ### Evaluation (R407 to R412) -/

/-- The times at which the hands of a TWOHAND function were actuated, each since both hands were last released. -/
def handTimes (d : Dev) (r : SafeFuncRec) : List (Option Nat) :=
  let x := (SMap.get {} d.safe.fn r.func).handK
  let a := handOn d r 0
  let b := handOn d r 1
  if !a && !b then [none, none]
  else [if a then some ((x.getD 0 none).getD d.k) else x.getD 0 none,
        if b then some ((x.getD 1 none).getD d.k) else x.getD 1 none]

/-- Whether two actuations lie within 500 ms of each other. -/
def handSync (h : List (Option Nat)) : Bool :=
  match h.getD 0 none, h.getD 1 none with
  | some a, some b => decide (a ≤ b + 10000 ∧ b ≤ a + 10000)
  | _, _ => false

/-- A LOCKED function: it leaves for DEMAND when all its channels have read open together, with no fault, for three
`TP_MS` periods. -/
def lockedTick (d : Dev) (r : SafeFuncRec) : Dev :=
  let open_ := (fnIns r).all (fun i => !inClosed d i) && !fnFaulty d r
  let k0 := (SMap.get {} d.safe.fn r.func).openK
  if !open_ then { d with safe := { d.safe with fn := SMap.mod {} d.safe.fn r.func (fun x => { x with openK := none }) } }
  else if k0.getD d.k + 60 * rd d Reg.SAFE_TP_CFG_TP_MS ≤ d.k then
    enterFn d r fnDEMAND (rd d (Reg.SAFE_FUNC_CAUSE r.func))
  else { d with safe := { d.safe with fn := SMap.mod {} d.safe.fn r.func (fun x => { x with openK := some (k0.getD d.k) }) } }

/-- WAIT_RESET of a TWOHAND function, which leaves it by its hands. -/
def handsTick (d : Dev) (r : SafeFuncRec) (h : List (Option Nat)) : Dev :=
  if !fnSatisfied d r then d
  else if handSync h then wr d (Reg.SAFE_FUNC_STATE r.func) fnRUN
  else wr d (Reg.SAFE_FUNC_CAUSE r.func) 5

/-- One function's update at a verdict (R409), and whether it rejects the pending reset press. -/
def fnTick (d : Dev) (r : SafeFuncRec) : Dev × Bool :=
  let f := r.func
  let h := handTimes d r
  let d := { d with safe := { d.safe with fn := SMap.mod {} d.safe.fn f (fun x => { x with handK := h }) } }
  let ok := fnSatisfied d r
  let st := fnState d f
  let press := d.safe.resets.any (fun p => p.1 == r.reset)
  if st = fnRUN then (if ok then d else fnRunDemand d r, false)
  else if st = fnDEMAND then
    let ready := if r.kind = 3 then !handOn d r 0 && !handOn d r 1 else ok
    (if ready then wr d (Reg.SAFE_FUNC_STATE f) fnWAIT else d, false)
  else if st = fnWAIT then
    if press && ok && !fnFaulty d r then (wr d (Reg.SAFE_FUNC_STATE f) fnRUN, false)
    else if r.kind = 3 then (handsTick d r h, press)
    else if !ok then (incSat (enterFn d r fnDEMAND 1) Reg.SAFE_CNT_DEMANDS 1, press)
    else (d, press)
  else if st = fnLOCKED then (lockedTick d r, false)
  else (d, false)

/-- Every function, in rising number, then the rejected presses. -/
def fnsTick (d : Dev) : Dev :=
  let go := fun (a : Dev × List Nat) (f : Nat) => match fnRec a.1 f with
    | some r => let (d, rej) := fnTick a.1 r; (d, if rej then a.2 ++ [r.reset] else a.2)
    | none => a
  let (d, rej) := (List.range 32).foldl go (d, [])
  d.safe.resets.foldl (fun d p => if rej.contains p.1 then resetReject d p.1 p.2 else d) d

/-- The watch on a REDUCED zone: a VALID current reading above the allowance in two consecutive ticks quenches it (R410). -/
def allowWatch (d : Dev) : Dev :=
  let over0 := d.safe.overs
  let d := { d with safe := { d.safe with overs := [] } }
  (List.range 16).foldl (fun d z => match zoneAllow d z with
    | none => d
    | some a =>
      let hit := (zoneChans d z).filter (fun c =>
        let w := iWord d c
        rwValid w && decide (a * 2 ^ 23 < (rwValue w).natAbs * iFs d c (rwRange w)))
      let d := hit.foldl (fun d c =>
        { d with safe := { d.safe with overs := SMap.set 0 d.safe.overs c (min 2 (SMap.get 0 over0 c + 1)) } }) d
      if hit.any (fun c => decide (SMap.get 0 over0 c = 1)) then orderZoneQuench d z cSafe else d) d

/-- Whether a channel is quiet for an unlock: a reading below 1 % of its range, or `LIMB` OFF, TRIPPED or HELD (R412). -/
def chanQuiet (d : Dev) (c : Nat) : Bool :=
  let w := iWord d c
  let l := hot d c 0x78 1
  l == 0 || l == 15 || l == 16 || (rwValid w && decide ((rwValue w).natAbs * 100 < 2 ^ 23))

/-- Whether an axis is at standstill with its brake applied. -/
def axisAtRest (d : Dev) (n : Nat) : Bool :=
  (axState d n == axOFF || axState d n == axLOCKED) && !brakeOn d n &&
  (match axisRec d n with | some r => decide ((axis d n).spd.natAbs ≤ 10 * r.stillRpm) | none => true)

/-- The quiet ticks of every guard function with a lock. -/
def quietTick (d : Dev) : Dev :=
  ((img d).safeFuncs.filter (fun r => r.kind == 2 && r.lockOut != 0xFF)).foldl (fun d r =>
    let q := (fnZones r).all (fun z => (zoneChans d z).all (chanQuiet d))
    let n := if q then min 20 (SMap.get 0 d.safe.quiet r.func + 1) else 0
    { d with safe := { d.safe with quiet := SMap.set 0 d.safe.quiet r.func n } }) d

/-- The unlock request at a verdict (R412). -/
def unlockTick (d : Dev) : Dev :=
  match d.safe.unlockReq with
  | none => d
  | some (f, req) =>
    let d := { d with safe := { d.safe with unlockReq := none } }
    match fnRec d f with
    | none => refuseW d req 0x100D0008
    | some r =>
      let rest := (fnZones r).all (fun z => (zoneAxes d z).all (axisAtRest d))
      if 20 ≤ SMap.get 0 d.safe.quiet f ∧ rest then
        let d := { d with safe := { d.safe with unlocked := d.safe.unlocked.filter (· != f) ++ [f] } }
        enterFn d r fnDEMAND 1
      else refuseW d req 0x100D0008

/-- Whether a safe output is demanded on (R413). -/
def outDemand (d : Dev) (n : Nat) : Bool :=
  confirmed d && ownsGate d && !inSafe d && !rdFBit d Reg.SAFE_OUT_LOCKOUT n && !bit d.safe.barred n &&
  (match (img d).safeOuts.find? (fun o => o.out == n) with
   | some o => (sel 32 (bit o.funcs)).all (fun f => fnState d f == fnRUN)
   | none => (img d).safeFuncs.any (fun r => r.kind == 2 && r.lockOut == n && d.safe.unlocked.contains r.func))

/-- The outputs follow their demands. -/
def outsTick (d : Dev) : Dev :=
  (List.range 8).foldl (fun d n =>
    let w := outDemand d n
    if w ∧ (sout d n).want = false then outOn d n
    else if w = false ∧ (sout d n).want then outOff d n
    else d) d

/-- A deliberate reset of a function allows its outputs again that a takeover left off (R394). -/
def unbar (d : Dev) : Dev :=
  let fs := ((img d).safeFuncs.filter (fun r => d.safe.resets.any (fun p => p.1 == r.reset))).map (·.func)
  let free := ((img d).safeOuts.filter (fun o => fs.any (bit o.funcs))).map (·.out)
  { d with safe := { d.safe with barred := free.foldl (fun m n => setBit m n false) d.safe.barred, resets := [] } }

/-- Start the brake tests that are due and permitted (R416). -/
def brakeTests (d : Dev) : Dev :=
  d.safe.brakeDue.foldl (fun d e =>
    let n := e.1
    match axisRec d n with
    | some r =>
      if axisAtRest d n && ownsGate d && !zoneDemanded d r.zone && !inSafe d && !rdB d (Reg.SAFE_BRAKE_LOCKOUT n) then
        let d := setAxState (setAxis d n axisClear) n axTEST
        let d := wr d (Reg.SAFE_BRAKE_STATE n) 2
        { d with safe := { d.safe with
            brakePos := SMap.put d.safe.brakePos n (axis d n).pos, brakeT := SMap.put d.safe.brakeT n d.k } }
      else d
    | none => d) d

/-- The evaluation at Tk + 1 µs, and its verdict (R407). `cfgDiff` names the first wiring word in which the block's copy
differs from the active image, where one does (R418). -/
def safetyEval (d : Dev) (cfgDiff : Option Nat) : Dev :=
  let d := match cfgDiff with
    | some w => raise d Src.SAFE_CFG_PARITY 0 0 w 0
    | none => d
  if !evalRuns d then
    allOutsOff (wrB { d with safe := { d.safe with resets := [] } } Reg.SAFE_STAT_EVAL false)
  else
    let d := { d with safe := { d.safe with evalK := some d.k } }
    let d := wrB d Reg.SAFE_STAT_EVAL (confirmed d)
    let d := if confirmed d then unlockTick (quietTick (allowWatch (fnsTick d))) else d
    let d := unbar d
    brakeTests (outsTick d)

/-- SAFETY_EVALUATION. -/
def execSafetyEvaluation (cfgDiff : Option Nat) (s : State) : Host.Outcome State Fault Refusal :=
  .next { s with d := safetyEval s.d cfgDiff }

/-- A verdict missing at Tk + 20 µs (R407). -/
def evalLate (d : Dev) : Dev :=
  if inBoot d || isCalved d || d.safe.evalK == some d.k then d
  else
    let d := wrB (allOutsOff d) Reg.SAFE_STAT_LATE_EV true
    raise d Src.SAFE_EVAL_LATE 0 0 d.k 0

/-- SAFE_EVAL_LATE. -/
def execSafeEvalLate (s : State) : Host.Outcome State Fault Refusal := .next { s with d := evalLate s.d }

/-! ### Safe outputs (R413, R414) -/

/-- Start an output's test when it is due, it is on and no other output is tested. -/
def outTest (d : Dev) (n : Nat) : Dev :=
  match (img d).safeOuts.find? (fun o => o.out == n) with
  | some o =>
    if (sout d n).on && (sout d n).test == 0 && (List.range 8).all (fun m => (sout d m).test == 0) &&
        decide ((sout d n).onK + 20000 * o.testS ≤ d.k) then
      wrFBit (setSout d n (fun x => { x with test := x.next })) Reg.SAFE_OUT_READBACK n false
    else d
  | none => d

/-- SAFE_OUTPUT_TEST. -/
def execSafeOutputTest (out : Nat) (s : State) : Host.Outcome State Fault Refusal := .next { s with d := outTest s.d out }

/-- The end of a test pulse: the tested switch's readback showed off, or 400 µs have passed with it still on. -/
def outTestEnd (d : Dev) (n : Nat) (off : Bool) : Dev :=
  let t := (sout d n).test
  if t = 0 then d
  else if t = 4 then
    let d := setSout d n (fun x => { x with test := 0 })
    if (sout d n).want then outOn d n else d
  else if off then
    wrFBit (setSout d n (fun x => { x with test := 0, onK := d.k, next := 3 - t })) Reg.SAFE_OUT_READBACK n true
  else
    let d := setSout d n (fun x => { x with test := 0, next := 3 - t })
    outLock (incSat d Reg.SAFE_TEST_CNT_FAILED 1) n 3

/-- SAFE_OUTPUT_TEST_END. -/
def execSafeOutputTestEnd (out : Nat) (off : Bool) (s : State) : Host.Outcome State Fault Refusal :=
  .next { s with d := outTestEnd s.d out off }

/-- SAFE_READBACK_FAULT: a switch (1 or 2) has disagreed with its command for more than 1 ms. -/
def execSafeReadbackFault (out sw : Nat) (s : State) : Host.Outcome State Fault Refusal :=
  .next { s with d := if rdFBit s.d Reg.SAFE_OUT_LOCKOUT (out % 8) then s.d else outLock s.d (out % 8) (2 - sw % 2) }

/-! ### Confirmation (R58, R417) -/

/-- The SHA-384 of an image's safety section (R559). -/
def sectDigest (i : Image) : List Byte :=
  match i.sect 0x0A with
  | some s => sha384 (sub i.bytes s.off s.len)
  | none => sha384 []

/-- Every function starts in DEMAND, which acts on its zones as an entry does (R409, R410; log entry 33); in CALVED none is
evaluated (R295). -/
def startFns (d : Dev) : Dev :=
  if isCalved d then d
  else (img d).safeFuncs.foldl (fun d r =>
    let d := wr d (Reg.SAFE_FUNC_KIND r.func) r.kind
    zoneActions (wr d (Reg.SAFE_FUNC_STATE r.func) fnDEMAND) r) d

/-- Confirmation completes (R58): the pair is recorded and the functions are enabled. -/
def confirmDone (d : Dev) : Dev :=
  if rd d Reg.SAFE_STAT_CONF ≠ 1 then d
  else
    let now := nowNs d
    let d := wr (useFree d) Reg.SAFE_STAT_CONF 2
    let d := wr d Reg.SAFE_CONF_TIME_LO_NS now
    let d := wr d Reg.SAFE_CONF_TIME_HI_NS (now / 2 ^ 32)
    let pair := (rd d Reg.FIRN_SAFE_CRC_CHECK, sectDigest (img d))
    let d := { d with safe := { d.safe with
        conf := some pair, recDue := true, count := d.safe.count + 1, step1 := none } }
    startFns d

/-- Whether the partner decides the confirmation: its steps and its timer reach a STANDBY device as inputs (R58). -/
def confirmsElsewhere (d : Dev) : Bool := isStandby d && rd d Reg.SCH_STAT_PSTATE != 3

/-- An arming ends with a NOTE: at once, or in a pair as an input of the cycle (R58). -/
def armFail (d : Dev) : Dev := if isActive d then stage d .host .disarm else confirmNote (disarm d)

/-- A press of the commissioning reset input while ARMED, released at `t` ns after `us` µs (R58). -/
def confirmStep (d : Dev) (us t : Nat) (good : Bool) : Dev :=
  if rd d Reg.SAFE_STAT_CONF ≠ 1 ∨ confirmsElsewhere d = true then d
  else
    let t0 := t - us * 1000
    let inTime := decide (d.safe.armT ≤ t0 ∧ t ≤ d.safe.armT + 30000000000)
    if !(good && inTime) then armFail d
    else match d.safe.step1 with
      | none => { d with safe := { d.safe with step1 := some t } }
      | some t1 =>
        if t1 + 1000000000 ≤ t0 ∧ t0 ≤ t1 + 5000000000 then
          if isActive d then stage d .host .confirm else confirmDone d
        else armFail d

/-- A reset press is released: `us` is its length, `gapUs` how long the input was open before it, `subt` the time within
the tick in ns (R411). -/
def resetAction (d : Dev) (input us gapUs subt : Nat) : Dev :=
  if (img d).safeIns.any (fun r => r.input == input && r.typ == 3) = false ∨ gapUs < 100000 then d
  else
    let good := decide (100000 ≤ us ∧ us ≤ 2500000)
    let d := if good then { d with safe := { d.safe with resets := d.safe.resets ++ [(input, us)] } }
      else resetReject d input us
    if (img d).creset = input then confirmStep d us (tickNs d + subt) good else d

/-- SAFE_RESET_ACTION. -/
def execSafeResetAction (input us gapUs subt : Nat) (s : State) : Host.Outcome State Fault Refusal :=
  .next { s with d := resetAction s.d input us gapUs subt }

/-- A write of a SAFE register that travels to STANDBY as an input on an ACTIVE device (R18, R420). -/
def safeStage (d : Dev) (req : Requester) (addr w : Nat) (act : Dev → Dev) : Dev :=
  if d.apply = false ∧ forwards d req = true then okResp { d with hostCyc := d.hostCyc ++ [.regWrite req addr w] }
  else act d

/-- A served write to `SAFE_CONFIRM` (R58, R295). -/
def confirmWrite (d : Dev) (req : Requester) (w : Nat) : Dev :=
  let addr := 0x100D0000
  let st := rd d Reg.SAFE_STAT_CONF
  if st = 2 then confirmNote (refuseW d req addr)
  else
    let d := writeFields d req addr w
    if st = 1 then confirmNote (disarm d)
    else if w % 2 ^ 32 = rd d Reg.FIRN_SAFE_CRC_CHECK then
      let d := { useFree d with safe := { d.safe with armT := nowNs d, step1 := none } }
      wr d Reg.SAFE_STAT_CONF 1
    else confirmNote d

/-- A write of `SAFE_CONFIRM`. Outside SERVICE and COMMISSION R13 refuses it; that such a refusal raises no NOTE, even while
CONFIRMED, is the model's choice, DESIGN CHOICE (log entry 220). A write while CONFIRMED changes nothing and is answered here,
on an ACTIVE device too. -/
def safeConfirm (d : Dev) (req : Requester) (w : Nat) : Dev :=
  regAccess d req 0x100D0000 w (fun d =>
    if isCalved d || !allMaint d then refuseW d req 0x100D0000
    else if confirmed d then confirmWrite d req w
    else safeStage d req 0x100D0000 w (fun d => confirmWrite d req w))

/-- SAFE_CONFIRM. -/
def execSafeConfirm (req : Requester) (w : Nat) (s : State) : Host.Outcome State Fault Refusal :=
  .next { s with d := safeConfirm s.d req w }

/-- CONFIRM_TIMEOUT: 30 s in ARMED have elapsed. -/
def confirmTimeout (d : Dev) : Dev :=
  if rd d Reg.SAFE_STAT_CONF = 1 ∧ confirmsElsewhere d = false ∧ d.safe.armT + 30000000000 ≤ tickNs d + 49999 then armFail d
  else d

/-- CONFIRM_TIMEOUT. -/
def execConfirmTimeout (s : State) : Host.Outcome State Fault Refusal := .next { s with d := confirmTimeout s.d }

/-- The confirmation record is written: both copies, authenticated with the device's key (R417, log entry 30). -/
def recordWrite (s : State) : State :=
  match s.d.safe.recDue, s.d.safe.conf with
  | true, some (c, g) =>
    let t := rd s.d Reg.SAFE_CONF_TIME_LO_NS + 2 ^ 32 * rd s.d Reg.SAFE_CONF_TIME_HI_NS
    let r : ConfRec := ⟨c, g, t, s.d.safe.count, (s.nv.fuse.seed, s.nv.fuse.trans)⟩
    { s with nv := { s.nv with conf := [some r, some r] },
             d := { s.d with safe := { s.d.safe with recDue := false } } }
  | _, _ => s

/-- CONFIRMATION_RECORD_WRITE: while a host flash command runs, the record waits for its end (R518). -/
def execConfirmationRecordWrite (s : State) : Host.Outcome State Fault Refusal :=
  .next (if s.d.host.qspi.isSome && s.d.safe.recDue then { s with d := { s.d with safe := { s.d.safe with recWait := true } } }
    else recordWrite s)

/-- The start-up check of the confirmation record, once the image has loaded (R417); the commit ends an arming (R58). -/
def confirmCheck (d : Dev) (nv : Nv) : Dev :=
  let d := disarm d
  let key := (nv.fuse.seed, nv.fuse.trans)
  let recs := nv.conf.filterMap id
  let good := recs.filter (fun r => r.key == key)
  let pair := (rd d Reg.FIRN_SAFE_CRC_CHECK, sectDigest (img d))
  match good.find? (fun r => (r.check, r.digest) == pair) with
  | some r =>
    let d := wr (wrB d Reg.SAFE_STAT_REC_OK true) Reg.SAFE_STAT_CONF 2
    let d := wr d Reg.SAFE_CONF_TIME_LO_NS r.time
    let d := wr d Reg.SAFE_CONF_TIME_HI_NS (r.time / 2 ^ 32)
    startFns { d with safe := { d.safe with conf := some pair, count := r.count } }
  | none =>
    let why := if recs.isEmpty then 0 else if good.isEmpty then 1 else 2
    let n := (good.map (·.count)).foldl max 0
    raise { d with safe := { d.safe with count := n } } Src.SAFE_UNCONFIRMED 0 0 why 0

/-- A LOAD_ACTIVE commits over a confirmed section: it stays confirmed only if its pair is the recorded one (R58). -/
def confirmReload (d : Dev) : Dev :=
  let d := disarm d
  if confirmed d then
    let same := d.safe.conf == some (rd d Reg.FIRN_SAFE_CRC_CHECK, sectDigest (img d))
    if same then d else unconfirm d
  else d

/-! ### Brakes and the control register (R412, R415, R416) -/

/-- Whether a brake record names an axis, with it. -/
def brakeRec (d : Dev) (n : Nat) : Option BrakeRec := (img d).brakes.find? (fun b => b.axis == n)

/-- A brake test falls due. -/
def brakeTestDue (d : Dev) (n : Nat) : Dev :=
  if (brakeRec d n).isNone || rdB d (Reg.SAFE_BRAKE_LOCKOUT n) || SMap.get 0 d.safe.brakeDue n != 0 then d
  else { d with safe := { d.safe with brakeDue := SMap.set 0 d.safe.brakeDue n (d.k + 1) } }

/-- BRAKE_TEST_DUE: `TEST_H` hours have passed since the last pass, or since the start. -/
def execBrakeTestDue (axis : Nat) (s : State) : Host.Outcome State Fault Refusal :=
  match brakeRec s.d axis with
  | some r =>
    .next { s with d := if SMap.get 0 s.d.safe.brakePass axis + 72000000 * r.testH ≤ s.d.k then brakeTestDue s.d axis else s.d }
  | none => .next s

/-- A running brake test ends (R416): failed as soon as the axis has moved by `MOVE_LIM`, passed after 1 s without. -/
def brakeTestEnd (d : Dev) (n : Nat) : Dev :=
  if axState d n ≠ axTEST then d
  else
    let lim : Nat := ((brakeRec d n).map (·.moveLim)).getD 0 * 256
    let moved := ((axis d n).pos - (SMap.find d.safe.brakePos n).getD 0).natAbs
    if lim ≤ moved then
      let d := wr d (Reg.SAFE_BRAKE_RESULT n) 2
      axisLock (incSat d Reg.SAFE_TEST_CNT_FAILED 1) n 2
    else if SMap.get 0 d.safe.brakeT n + 20000 ≤ d.k then
      let d := wr (wr d (Reg.SAFE_BRAKE_RESULT n) 1) (Reg.SAFE_BRAKE_STATE n) 0
      let d := wr d (Reg.SAFE_BRAKE_HOURS n) 0
      let d := { d with safe := { d.safe with
          brakeDue := SMap.del d.safe.brakeDue n, brakePass := SMap.set 0 d.safe.brakePass n d.k } }
      setAxState d n axOFF
    else d

/-- BRAKE_TEST_END. -/
def execBrakeTestEnd (axis : Nat) (s : State) : Host.Outcome State Fault Refusal :=
  .next { s with d := brakeTestEnd s.d axis }

/-- BRAKE_TEST_OVERDUE: not passed within 1 h of falling due. -/
def execBrakeTestOverdue (axis : Nat) (s : State) : Host.Outcome State Fault Refusal :=
  let due := SMap.get 0 s.d.safe.brakeDue axis
  .next { s with d := if due ≠ 0 ∧ due - 1 + 72000000 ≤ s.d.k then axisLock s.d axis 3 else s.d }

/-- BRAKE_FEEDBACK_FAULT: `BRAKE_FB` has not followed `BRAKE` within `FB_MS` (R415). -/
def execBrakeFeedbackFault (axis : Nat) (s : State) : Host.Outcome State Fault Refusal :=
  .next { s with d := if (brakeRec s.d axis).isNone || rdB s.d (Reg.SAFE_BRAKE_LOCKOUT axis) then s.d else axisLock s.d axis 1 }

/-- An unlock request (R412): for a guard function with a lock, while the functions are evaluated. -/
def unlockReq (d : Dev) (req : Requester) (f : Nat) : Dev :=
  let fit := match fnRec d f with | some r => r.kind == 2 && r.lockOut != 0xFF | none => false
  if fit && confirmed d && evalRuns d then { d with safe := { d.safe with unlockReq := some (f, req) } }
  else refuseW d req 0x100D0008

/-- Relock a door: its lock output goes off (R412). -/
def relock (d : Dev) (f : Nat) : Dev :=
  if d.safe.unlocked.contains f then
    let d := { d with safe := { d.safe with unlocked := d.safe.unlocked.filter (· != f) } }
    match fnRec d f with
    | some r => outOff d r.lockOut
    | none => d
  else d

/-- A write of `SAFE_CTRL` and its commands. -/
def safeCtrl (d : Dev) (req : Requester) (w : Nat) : Dev :=
  regAccess d req 0x100D0008 w (fun d => safeStage d req 0x100D0008 w (fun d =>
    let d := writeFields d req 0x100D0008 w
    let d := if bit w 0 then brakeTestDue d (bits w 1 3) else d
    let d := if bit w 8 then unlockReq d req (bits w 10 5) else d
    if bit w 9 then relock d (bits w 10 5) else d))

/-- BRAKE_GO. -/
def execBrakeGo (req : Requester) (w : Nat) (s : State) : Host.Outcome State Fault Refusal :=
  .next { s with d := safeCtrl s.d req (setBit w 0 true) }

/-- UNLOCK_GO. -/
def execUnlockGo (req : Requester) (w : Nat) (s : State) : Host.Outcome State Fault Refusal :=
  .next { s with d := safeCtrl s.d req (setBit w 8 true) }

/-- RELOCK. -/
def execRelock (req : Requester) (w : Nat) (s : State) : Host.Outcome State Fault Refusal :=
  .next { s with d := safeCtrl s.d req (setBit w 9 true) }

end Sys2Proof.Machine
end

