-- ==== Sys2Proof/Machine/Firn.lean ====
section
/-!
DEFINITION. The life of firn images (R54 to R63, R138, R139, R233, R236, R264, R338): the commands of `FIRN_CTRL`, the
end of a verification, the commit of a LOAD_ACTIVE, and the variant switch.
-/
namespace Sys2Proof.Machine

/-! ### Commands (R55, R57) -/

/-- The loader's report of a rejected image or command (R63). -/
def firnErr (d : Dev) (code off slot sect : Nat) (partner : Bool) : Dev :=
  let d := wr (wr d Reg.FIRN_ERR_CODE code) Reg.FIRN_ERR_SLOT slot
  let d := wrB (wr d Reg.FIRN_ERR_SECTION sect) Reg.FIRN_ERR_PARTNER partner
  wrB (wr d Reg.FIRN_ERROFF_OFFSET off) Reg.FIRN_STAT_ERR true

/-- A refused command: its code, and an error response (R12). -/
def firnRefuse (d : Dev) (req : Requester) (code off : Nat) : Dev :=
  refuseW (firnErr d code off 0 0 false) req 0x10040000

/-- A write of `FIRN_CTRL` with a command; `act` carries it out where no refusal of every command stands. -/
def firnCtrl (d : Dev) (req : Requester) (w : Nat) (act : Dev → Dev) : Dev :=
  regAccess d req 0x10040000 w (fun d =>
    if isStandby d && !d.apply && (req == .host || isTriad req) then firnRefuse d req 0x16 0xFFFFFFFF
    else if d.firn.verif.isSome then firnRefuse d req 0x18 0xFFFFFFFF
    else act d)

/-- A verification starts on a buffer. -/
def startVerif (d : Dev) (kind len : Nat) (bytes : List Byte) : Dev :=
  wrB { d with firn := { d.firn with verif := some ⟨kind, bytes, len⟩ } } Reg.FIRN_STAT_BUSY true

/-- The buffer that `FIRN_SRC` and `FIRN_LEN` name. -/
def firnBuffer (d : Dev) : List Byte :=
  Memory.readList d.dram (rd d Reg.FIRN_SRC_LO_ADDR / 8 * 8 + rd d Reg.FIRN_SRC_HI_ADDR * 2 ^ 32) (rd d Reg.FIRN_LEN_LEN)

/-- LOAD_ACTIVE: in BOOT, or with no zone in PRODUCTION. -/
def loadActive (d : Dev) (req : Requester) (w : Nat) : Dev :=
  firnCtrl d req w (fun d =>
    if !inBoot d && (zones d).any (fun z => zmode d z == modeProduction) then firnRefuse d req 0x15 0xFFFFFFFF
    else okResp (startVerif d 1 (rd d Reg.FIRN_LEN_LEN) (firnBuffer d)))

/-- Whether a slot is the active one or is named by a pending switch: by the binding record in force, which a LOAD_ACTIVE
may have changed since the switch was agreed. -/
def slotBusy (d : Dev) (v : Nat) : Bool :=
  (d.firn.act.isSome && v == rd d Reg.FIRN_STAT_ACTIVE_VAR) || (rdB d Reg.FIRN_STAT_PEND && v == boundVar d d.firn.pendMode)

/-- PRELOAD: over an active image of format 2 or 3, for a slot that is neither active nor pending; the slot is read from the
header's `VARIANT` (log entry 215). -/
def preload (d : Dev) (req : Requester) (w : Nat) : Dev :=
  firnCtrl d req w (fun d =>
    let b := firnBuffer d
    if rd d Reg.FIRN_STAT_FORMAT < 2 then firnRefuse d req 0x02 4
    else if slotBusy d (leAt b 12 1) then firnRefuse d req 0x17 0xFFFFFFFF
    else okResp (startVerif d 2 (rd d Reg.FIRN_LEN_LEN) b))

/-- A slot holds an image, or none. -/
def setSlot (d : Dev) (v : Nat) (i : Option Image) : Dev :=
  let slots := match i with
    | some i => SMap.put d.firn.slots v i
    | none => SMap.del d.firn.slots v
  let d := wrFBit { d with firn := { d.firn with slots := slots } } Reg.FIRN_STAT_SLOT_VALID v i.isSome
  wr d (Reg.FIRN_SLOT_SERIAL_SERIAL v) ((i.map (·.serial)).getD 0)

/-- DISCARD. On an ACTIVE device it travels with the inputs of its cycle (R18). -/
def discard (d : Dev) (req : Requester) (w : Nat) : Dev :=
  firnCtrl d req w (fun d =>
    let v := bits w 4 2
    if slotBusy d v then firnRefuse d req 0x17 0xFFFFFFFF
    else if forwards d req && !d.apply then okResp (stage d req (.regWrite req 0x10040000 w))
    else okResp (setSlot d v none))

/-- A write of `FIRN_CTRL` with a command code. -/
def withFirn (w cmd : Nat) : Nat := w / 16 * 16 + cmd

/-- LOAD_ACTIVE. -/
def execLoadActive (req : Requester) (w : Nat) (s : State) : Host.Outcome State Fault Refusal :=
  .next { s with d := loadActive s.d req (withFirn w 1) }

/-- PRELOAD. -/
def execPreload (req : Requester) (w : Nat) (s : State) : Host.Outcome State Fault Refusal :=
  .next { s with d := preload s.d req (withFirn w 2) }

/-- DISCARD. -/
def execDiscard (req : Requester) (w : Nat) (s : State) : Host.Outcome State Fault Refusal :=
  .next { s with d := discard s.d req (withFirn w 3) }

/-! ### The end of a verification (R54, R57) -/

/-- What a verification is judged by. -/
def loadCtx (d : Dev) (nv : Nv) (bufLen : Nat) : LoadCtx :=
  let f := nv.fuse
  { paired := role d != roSOLO,
    bufLen := bufLen,
    keyMask := rd d Reg.FIRN_KEYMASK_SLOTS,
    keys := f.firnKeys.mapIdx (fun i k => if bit f.firnRev i then none else k),
    keysOn := f.state == 1 || f.state == 2,
    netLocked := if rdB d Reg.NET_LOCK_LOCK then some (rd d Reg.NET_SENSE_AIN, rd d Reg.NET_SENSE_SCALE) else none }

/-- An accepted image waits for its commit point, or fills its slot. In a pair both devices commit at the boundary of the
ACTIVE device's input, which follows its partner's acceptance (R57, R383); a joiner takes what it is sent at once. The
engines' inactive banks are filled before the commit (R233). -/
def firnAccept (d : Dev) (kind : Nat) (i : Image) : Dev :=
  let d := wrB d Reg.FIRN_STAT_DONE true
  let engaged := isStandby d && pstate d == psENGAGED
  if kind = 2 ∨ kind = 5 then
    if isActive d then { d with firn := { d.firn with pre := d.firn.pre ++ [i] }, hostCyc := d.hostCyc ++ [.firnLoad] }
    else if engaged then { d with firn := { d.firn with pre := d.firn.pre ++ [i] } }
    else setSlot d i.variant (some i)
  else
    let d := banksFill d i
    let d := { d with firn := { d.firn with commit := some i, commitCyc := cycNo d + 1, await := engaged } }
    let d := wrB d Reg.FIRN_STAT_COMMIT_PEND true
    if isActive d then { d with hostCyc := d.hostCyc ++ [.firnLoad] } else d

/-- The input of R57 commits: accepted preloads fill their slots, and an accepted image of a STANDBY device commits at this
point. -/
def commitLoad (d : Dev) : Dev :=
  let d := d.firn.pre.foldl (fun d i => setSlot d i.variant (some i)) d
  if d.firn.await then { d with firn := { d.firn with pre := [], await := false, commitCyc := cycNo d } }
  else { d with firn := { d.firn with pre := [] } }

/-- A rejected image. On a joining device it fails the join (R396). -/
def firnReject (d : Dev) (kind code off slot sect : Nat) (partner : Option Nat) : Dev :=
  let d := firnErr d code off slot sect partner.isSome
  let d := match partner with | some o => wr d Reg.FIRN_PAIR_ERR_OFFSET o | none => d
  if 4 ≤ kind ∧ pstate d = psJOINING then joinFail d 2 else d

/-- A verification completes (R54). `partner` is the STANDBY device's rejection, its code and offset, of the image that this
ACTIVE device has accepted and sent it (R57); the device keeps the code, for which no register has a field (log entry
216). -/
def firnVerified (d : Dev) (nv : Nv) (partner : Option (Nat × Nat)) : Dev :=
  match d.firn.verif with
  | none => d
  | some v =>
    let d := wrB { d with firn := { d.firn with verif := none } } Reg.FIRN_STAT_BUSY false
    let pre := v.kind == 2 || v.kind == 5
    let slot := leAt v.bytes 12 1 % 4
    match verifyImage v.bytes (loadCtx d nv v.bufLen) (if pre then d.firn.act else none) with
    | .error (code, off) => firnReject d v.kind code off slot (sectAt v.bytes off) none
    | .ok i =>
      if v.kind = 2 ∧ slotBusy d i.variant = true then firnReject d v.kind 0x17 0xFFFFFFFF slot 0 none
      else
        let d := if isActive d then schM d (fun s => { s with txBulk := [(v.kind, i.variant, i.bytes)] }) else d
        match (if isActive d then partner else none) with
        | some (code, off) =>
          firnReject { d with firn := { d.firn with pairCode := code } } v.kind 0x16 off slot (sectAt v.bytes off) (some off)
        | none => firnAccept d v.kind i

/-- FIRN_VERIFY_DONE. -/
def execFirnVerifyDone (partner : Option (Nat × Nat)) (s : State) : Host.Outcome State Fault Refusal :=
  .next { s with d := firnVerified s.d s.nv partner }

/-! ### Commits (R55, R56, R58, R60, R338) -/

/-- The ports of the new brick map: one that gains a record starts link-up, one that loses it sends an express QUENCH and
goes dark, a parked one tries again (R75). -/
def portsTake (d : Dev) (old : Image) : Dev :=
  (List.range 128).foldl (fun d p =>
    let was := (old.brickAt p).isSome
    let now := ((img d).brickAt p).isSome
    let d := wrB d (Reg.FLOE_CTRL_ENABLE p) now
    if now && (!was || pst d p == psParked) then enterAlign d p
    else if was && !now then
      let d := if fenced d 3 p || inSafe d then d else sendExpress d p true 0
      let d := wr (wr d (Reg.FLOE_STAT_VER p) 0) (Reg.FLOE_STAT_PARK_REASON p) 0
      setPst (setPort d p (fun q => { q with lanesOn := false })) p psDisabled
    else d) d

/-- The channels that become checked or unchecked (R264); the reading words of one that the image no longer has are 0
(R106). -/
def channelsTake (d : Dev) (old : Image) : Dev :=
  (List.range 4096).foldl (fun d c =>
    if populated d c && !old.populated c then makeChecked d c
    else if old.populated c && !populated d c then hotW (makeUnchecked d c) c 0 8 0
    else d) d

/-- `LEDGER_AVG` of every group from the spans of the image (R139). -/
def spansTake (d : Dev) : Dev :=
  (List.range 256).foldl (fun d g =>
    let s := (img d).spans.find? (fun s => decide (s.first ≤ g ∧ g ≤ s.last))
    let d := wr d (Reg.LEDGER_AVG_LOG2N_V g) ((s.map (·.lv)).getD 10)
    wr d (Reg.LEDGER_AVG_LOG2N_I g) ((s.map (·.li)).getD 10)) d

/-- A channel whose group changes starts new long averages (R127). -/
def spansDrop (d : Dev) (old : Image) : Dev :=
  let gone := fun (c : Nat) => (groupOf d c).map (·.group) != (old.groupOf c).map (·.group)
  { d with meas := { d.meas with avg := d.meas.avg.filter (fun e => !gone (e.1 / 2)) } }

/-- The Rime mode that comes into force at a LOAD_ACTIVE (R338). -/
def modeTake (d : Dev) : Dev :=
  let i := img d
  let mine := fun m => i.binding.getD m 0xFF == i.variant
  let m := if d.rime.modeOn && mine (rMode d) then rMode d else ((sel 8 mine).head?).getD (rMode d)
  wr { d with rime := { d.rime with modeOn := true } } Reg.RIMEL_CYCLE_MODE m

/-- The device leaves BOOT: its zones enter their `START_MODE` (R45), and a device without a pair holds `PAIR_OWN_N` low
(R376). -/
def leaveBoot (d : Dev) : Dev :=
  if rdB d Reg.SYS_PROPS_BOOT then
    let d := if paired d then d else wrB d Reg.SCH_STAT_OWN true
    startModes { wrB d Reg.SYS_PROPS_BOOT false with boot := { d.boot with step := 9 } }
  else d

/-- Zones that a later image adds enter their `START_MODE`, and those it removes have no mode. -/
def zonesTake (d : Dev) (old : Image) : Dev :=
  (List.range 16).foldl (fun d z =>
    match (img d).zones.find? (fun r => r.zone == z), old.zones.any (fun r => r.zone == z) with
    | some r, false =>
      enterStart d z r.start
    | none, true => wrFBit (wr d (Reg.SYS_ZMODE z) 0) Reg.SYS_ZHOLD_ZONES z false
    | _, _ => d) d

/-- `PEND_VAR` names the variant that the binding record in force gives the pending mode (R63). -/
def pendVar (d : Dev) : Dev :=
  if rdB d Reg.FIRN_STAT_PEND && decide (boundVar d d.firn.pendMode ≤ 3) then
    wr d Reg.FIRN_STAT_PEND_VAR (boundVar d d.firn.pendMode)
  else d

/-- The registers that describe the active image (R63). -/
def firnRegs (d : Dev) (i : Image) : Dev :=
  let d := wr (wr d Reg.FIRN_STAT_ACTIVE_VAR i.variant) Reg.FIRN_STAT_FORMAT i.format
  wr (wr d Reg.FIRN_SAFE_CRC_CHECK i.safeCheck) Reg.FIRN_LEDGER_VER_VER i.ledgerVer

/-- A LOAD_ACTIVE commits at its point. In a pair member's start-up the device stays in BOOT, in START (R396). -/
def commitFirn (d : Dev) (nv : Nv) : Dev :=
  match d.firn.commit with
  | none => d
  | some i =>
    if d.firn.await || decide (cycNo d < d.firn.commitCyc) then d
    else
      let old := img d
      let first := d.firn.act.isNone
      let d := [0, 1, 2, 3].foldl (fun d v => setSlot d v none) d
      let d := seracTake { d with firn := { d.firn with act := some i, commit := none, prevProfs := some old } }
      let d := pendVar (wrB (firnRegs (setSlot d i.variant (some i)) i) Reg.FIRN_STAT_COMMIT_PEND false)
      let d := if !first && old.ledgerVer != i.ledgerVer then
          layoutChange ((List.range 4096).foldl (fun d c => clearCh d 0x0F c) d)
        else d
      let d := spansTake (enginesTake d i)
      let d := channelsTake (portsTake d old) old
      let d := loadBus d
      let d := policyCommit (auxCommit d)
      let d := if busSampled d then d else busTrip d true
      let d := if first then confirmCheck d nv else confirmReload d
      let d := schM (rsAbandon (modeTake d)) (fun s => { s with changed := true })
      if rdB d Reg.SYS_PROPS_BOOT then
        if paired d then
          if isStandby d then d
          else schM d (fun s => { s with start := true, startK := d.k, waitOver := false })
        else leaveBoot d
      else zonesTake d old

/-- The variant of a mode takes effect (R60, R61): its groups, profiles, schedule, templates, Rime schedule and kernels, at
one commit point. Every open measurement window ends as aborted (R193). A channel keeps its step position only if its group and its group's
program are unchanged. R61 names
no effect on a channel whose new group has no program, or that is in no group after the switch: its program state stays as it
is, DESIGN CHOICE (log entry 219). -/
def takeVariant (d : Dev) (m : Nat) : Dev :=
  let old := img d
  match varImage d (boundVar d m) with
  | none => d
  | some i =>
    let d := wr d Reg.RIMEL_CYCLE_MODE m
    if boundVar d m = rd d Reg.FIRN_STAT_ACTIVE_VAR then d
    else
      let d := seracTake { d with firn := { d.firn with act := some i, prevProfs := some old } }
      let d := spansDrop d old
      let d := enginesTake (firnRegs d i) i
      let d := loadBus d
      let d := schM (rsAbandon d) (fun s => { s with changed := true })
      let d := (allChans d).foldl (fun d c => gradeEnd d c gABORTED) d
      let d := (allChans d).foldl (fun d c =>
        let a := old.groupOf c
        let b := groupOf d c
        let same := a.map (fun g => (g.group, g.program)) == b.map (fun g => (g.group, g.program))
        match b with
        | some g => if same || g.program == 0xFF then d else restartProgram d c g.program
        | none => d) d
      recountUsers d

/-- A switch agreed for this boundary, or needed to join the segment (R342, R36). -/
def switchDue (d : Dev) : Option Nat :=
  if rdB d Reg.FIRN_STAT_PEND && decide (d.firn.pendCyc ≤ cycNo d) then some d.firn.pendMode
  else if csOf d = csJOIN then d.rime.joinMode
  else none

/-- The switch at its boundary (R60, R62). A LOAD_ACTIVE that awaits this commit point is committed first. An empty slot
leaves the variant as it is: `VAR_MISS`, and the device becomes ISOLATED. -/
def variantSwitch (d : Dev) (nv : Nv) : Dev :=
  match switchDue d with
  | none => d
  | some m =>
    let d := commitFirn d nv
    let d := wrB (wrB d Reg.FIRN_STAT_PEND false) Reg.RIMET_MC_PEND false
    let d := { d with rime := { d.rime with joinMode := none } }
    if modeHeld d m then takeVariant d m
    else
      let d := wrB d Reg.FIRN_STAT_VAR_MISS true
      let d := raise d Src.FIRN_VAR_MISS 0 0 (boundVar d m) m
      if rimeState d = 1 then syncLoss d 5 else d

/-- VARIANT_SWITCH, at the commit point of its boundary's first tick. -/
def execVariantSwitch (s : State) : Host.Outcome State Fault Refusal :=
  if s.d.k % 20 = 0 ∧ s.d.phase ≤ 1 then .next { s with d := variantSwitch s.d s.nv } else .next s

end Sys2Proof.Machine
end

