-- ==== Sys2Proof/Machine/SchSync.lean ====
section
/-!
DEFINITION. Keeping a pair equal (R387 to R394): the state of the device classes, digests, the capture and installation of
a resynchronisation, and the saved state of the owner.
-/
namespace Sys2Proof.Machine

/-- A list of numbers in ascending order. -/
def insNat (x : Nat) : List Nat → List Nat
  | [] => [x]
  | y :: l => if x ≤ y then x :: y :: l else y :: insNat x l

def sortNat (l : List Nat) : List Nat := l.foldr insNat []

/-! ### Device classes (R387) -/

/-- The pages of the Configuration class: CHAN and SEQ, MEAS, SERAC, NET, MOR and the ledger. -/
def cfgPage (addr : Nat) : Bool :=
  [0x1002, 0x1006, 0x1007, 0x1008, 0x1009].contains (addr / 0x10000) || decide (0x04200000 ≤ addr ∧ addr < 0x04300000)

/-- Whether a field, by its key, is a writable field of the Configuration class. -/
def cfgField (key : Nat) : Bool :=
  cfgPage (key / 32) &&
  (match regFind (key / 32) with
   | some (r, l) => r.flds.any (fun f => (f.at l).lo == key % 32 && (f.acc == .rw || f.acc == .rwl || f.acc == .rws))
   | none => false)

/-- The fields of the Configuration class that differ from their reset values. -/
def cfgFields (d : Dev) : List (Nat × Nat) := d.regs.filter (fun e => cfgField e.1)

/-- Units of types 1, 2, 4 and 6 under a fence of this device's own. -/
def ownFences (d : Dev) : List Nat :=
  [1, 2, 4, 6].flatMap (fun ut => ((sel ([1, 4096, 128, 128, 256, 24, 16, 3, 4].getD ut 0) (ownFence d ut)).map (ut * 4096 + ·)))

/-- Those under any fence, own or PARTNER: a fence that one device owns is the other's PARTNER fence. -/
def allFences (d : Dev) : List Nat := ownFences d ++ d.mor.pfence.filter (fun u => !(ownFences d).contains u)

/-- A channel's range in force and ranging counts. -/
def rngCounts (d : Dev) (c : Nat) : List Nat := let r := rng d c; [r.cur, r.hold, r.below, r.cond]

/-- The state of a class as numbers. -/
def classState (d : Dev) (c : Nat) : List Nat :=
  match c with
  | 0 => (List.range 16).map (zmode d) ++
      [rd d Reg.SYS_ZHOLD_ZONES, rd d Reg.SERAC_QUENCH_ZQ, rd d Reg.SERAC_QUENCH_BQ]
  | 1 => (allChans d).flatMap (fun c => [serState d c, serCause d c, ofS 64 (serCh d c).a.sq])
  | 2 => [netLevel d, rd d Reg.NET_STAT_CHOP_FAULT, rd d Reg.NET_GRANT_W, rd d Reg.NET_FACTOR_F]
  | 3 => (List.range 64).flatMap (fun s =>
      (progAt d s).id :: (progAt d s).steps.length :: ((progAt d s).steps.flatten).map (·.toNat))
  | 4 => d.seq.bars.flatMap (fun e => e.1 :: e.2.gen :: e.2.arrived.length :: sortNat e.2.arrived)
  | 5 => sortNat (allFences d)
  | 6 => (cfgFields d).flatMap (fun e => [e.1, e.2])
  | 7 => (allChans d).flatMap (rngCounts d)
  | 8 => rd d Reg.FIRN_STAT_ACTIVE_VAR :: rd d Reg.FIRN_STAT_PEND :: d.firn.pendMode :: d.firn.pendCyc ::
      d.firn.slots.flatMap (fun e => e.1 :: e.2.bytes.length :: e.2.bytes.map (·.toNat))
  | _ => []

/-- The classes of the active live mask. -/
def maskClasses (d : Dev) : List Nat := sel 9 (bit (img d).liveClasses)

/-- The classes whose resynchronisation copies state. -/
def copyClasses (d : Dev) : List Nat := (maskClasses d).filter (fun c => c != 3 && c != 8)

/-! ### Digests (R388) -/

/-- The digests of the cycle that ends: per group the HOT part and the cached part of the fold of cycle N - 2, and per
class. -/
def formDigests (d : Dev) : Dev :=
  if !pairWork d then d
  else
    let n := cycNo d
    let h := groupDigests d true
    let c := ((d.sch.cach.find? (fun e => e.1 + 2 == n)).map (·.2)).getD []
    let gs := (List.range 257).map (fun g => (SMap.get 0 h g, SMap.get 0 c g))
    let cs := (List.range 32).map (fun c => if (maskClasses d).contains c then Config.classDigest c (classState d c) else 0)
    schM d (fun s => { s with digests := some (n, gs, cs) })

/-! ### Resynchronisation (R390 to R392) -/

/-- The mask's bytes per channel. -/
def maskBytes (d : Dev) : Nat := ((img d).live.map (·.len)).foldl (· + ·) 0

/-- The next batch: the group at the front, its channels that are due, and whether they are the last. -/
def rsBatch (d : Dev) : Option (Nat × List Nat × Bool) :=
  match d.sch.rsGrp with
  | [] => none
  | g :: _ =>
    let m := maskBytes d
    let n := if m = 0 then 256 else min 256 (12288 / m)
    let cs := (sortNat (digestChans d g)).drop d.sch.rsNext
    some (g, cs.take n, decide (cs.length ≤ n))

/-- A batch has been treated. -/
def rsAdvance (d : Dev) (g n : Nat) (last : Bool) : Dev :=
  if last then
    let d := schM d (fun s => { s with rsGrp := s.rsGrp.filter (· != g), rsNext := 0 })
    if g < 256 then wrBit d Reg.SCH_RS_ACTIVE_GROUPS g false else d
  else schM d (fun s => { s with rsNext := s.rsNext + n })

/-- The capture of a class on the ACTIVE device. -/
def rsClass (d : Dev) (c : Nat) : Option Resync :=
  match c with
  | 0 => some (.zones ((List.range 16).map (zmode d)) (rd d Reg.SYS_ZHOLD_ZONES) (rd d Reg.SERAC_QUENCH_ZQ)
      (rdB d Reg.SERAC_QUENCH_BQ))
  | 1 => some (.serac ((allChans d).map (fun c => (c, serState d c, serCause d c))))
  | 2 => some (.netting (netLevel d) (rd d Reg.NET_STAT_CHOP_FAULT) (rd d Reg.NET_GRANT_W) (rd d Reg.NET_FACTOR_F))
  | 4 => some (.barriers (d.seq.bars.map (fun e => (e.1, e.2.gen, e.2.arrived))))
  | 5 => some (.fences (ownFences d) d.mor.pfence)
  | 6 => some (.config (cfgFields d))
  | 7 => some (.ranging ((allChans d).map (fun c => (c, rngCounts d c))))
  | _ => none

/-- At Tk + 44 µs the device that answers captures the classes and the next batch asked for, and both devices hold the fold
of the batch's channels. -/
def rsCapture (d : Dev) : Dev :=
  let d := schM d (fun s => { s with txRs := [] })
  if d.k < d.sch.rsK ∨ (d.sch.rsGrp.isEmpty ∧ d.sch.rsCls.isEmpty) then d
  else
    let b := rsBatch d
    let d := match b with
      | some (_, cs, _) => schM d (fun s => { s with rsHold := cs })
      | none => d
    if isStandby d then d
    else
      let cls := d.sch.rsCls.filterMap (rsClass d)
      let grp := match b with
        | some (g, cs, last) =>
          [Resync.group g (cs.map (fun c => (c, liveBytes d true c ++ liveBytes d false c, hot d c 0x1F4 4))) last]
        | none => []
      let d := schM d (fun s => { s with txRs := cls ++ grp, rsCls := [] })
      match b with
      | some (g, cs, last) => rsAdvance d g cs.length last
      | none => d

/-- Put the bytes of one part of a channel's ranges, the reading words of HOT 0x000 to 0x03F left out; answers the bytes
left. -/
def putRanges (d : Dev) (hotPart : Bool) (c : Nat) (bs : List Byte) : Dev × List Byte :=
  (liveRanges d hotPart).foldl (fun (d, bs) r =>
    let skip := if r.seg = 0 then min r.len (0x40 - r.start) else 0
    (ledPutList d (entryOf c + segOff r.seg + r.start + skip) ((bs.take r.len).drop skip), bs.drop r.len)) (d, bs)

/-- Install the state of one channel of a batch. -/
def rsChannel (d : Dev) (x : Nat × List Byte × Nat) : Dev :=
  let (d, bs) := putRanges d true x.1 x.2.1
  let (d, _) := putRanges d false x.1 bs
  hotW d x.1 0x1F4 4 x.2.2

/-- Install what a RESYNC frame carries (R387, R390, R391). A class that is no longer under resynchronisation, and a batch
of such a group, are dropped. -/
def rsInstall (d : Dev) (x : Resync) : Dev :=
  let on := fun (c : Nat) => d.sch.rsCls.contains c
  let off := fun (d : Dev) (c : Nat) => schM d (fun s => { s with rsCls := s.rsCls.filter (· != c) })
  match x with
  | .group g items last =>
    if d.sch.rsGrp.contains g then rsAdvance (items.foldl rsChannel d) g items.length last else d
  | .zones modes holds zq bq =>
    if !on 0 then d
    else
      let d := (zones d).foldl (fun d z => if zmode d z = modes.getD z 0 then d else setZone d z (modes.getD z 0)) d
      let d := wr (wr d Reg.SYS_ZHOLD_ZONES holds) Reg.SERAC_QUENCH_ZQ zq
      let d := off (wrB d Reg.SERAC_QUENCH_BQ bq) 0
      if pstate d = psJOINING then
        let d := wrB { d with boot := { d.boot with step := 9 } } Reg.SYS_PROPS_BOOT false
        schM d (fun s => { s with modes := true })
      else d
  | .serac chans =>
    if !on 1 then d
    else off (chans.foldl (fun d x =>
      if x.2.1 ≠ ssTripped then d
      else if serState d x.1 = ssArmed then tripChannel d x.1 x.2.2 (lowBit x.2.2)
      else if isTripped d x.1 then setSerCh d x.1 (fun s => { s with cause := x.2.2 })
      else d) d) 1
  | .netting level fault grant factor =>
    if !on 2 then d
    else off (wr (wr (wr (wr d Reg.NET_STAT_LEVEL level) Reg.NET_STAT_CHOP_FAULT fault) Reg.NET_GRANT_W grant)
      Reg.NET_FACTOR_F factor) 2
  | .barriers bars =>
    if !on 4 then d
    else
      let d := { d with seq := { d.seq with bars := [] } }
      off (bars.foldl (fun d b => setBarrier d b.1 (fun x => { x with gen := b.2.1, arrived := b.2.2 })) d) 4
  | .fences own partner =>
    if !on 5 then d
    else
      let all := own ++ partner
      let d := ((ownFences d).filter (fun u => !all.contains u)).foldl (fun d u =>
        let d := setFence d (u / 4096) (u % 4096) false
        { d with mor := { d.mor with fencers := SMap.del d.mor.fencers u } }) d
      let new := all.filter (fun u => !(ownFences d).contains u)
      off { d with mor := { d.mor with pfence := new } } 5
  | .config regs =>
    if !on 6 then d
    else off { d with regs := regs.foldl (fun m e => SMap.put m e.1 e.2) (d.regs.filter (fun e => !cfgField e.1)) } 6
  | .ranging chans =>
    if !on 7 then d
    else off (chans.foldl (fun d x =>
      setRng d x.1 (fun r => { r with
        cur := x.2.getD 0 0, hold := x.2.getD 1 0, below := x.2.getD 2 0, cond := x.2.getD 3 0 })) d) 7

/-- The batches received are installed at a commit point, before the writes committed there; the folds held go on. -/
def rsInstallAll (d : Dev) : Dev :=
  let xs := d.sch.install
  let d := schM d (fun s => { s with install := [], rsHold := [] })
  if isStandby d then xs.foldl rsInstall d else d

/-- A resynchronisation of a group, or of class `key - 0x200`, starts (R392). -/
def rsCount (d : Dev) (key : Nat) : Dev :=
  let ts := (d.k :: SMap.get [] d.sch.rsHist key).filter (fun t => decide (d.k < t + 200000))
  let d := schM d (fun s => { s with rsHist := SMap.set [] s.rsHist key ts })
  let d := wrB d Reg.SCH_STAT_RESYNC_EV true
  let cls := decide (0x200 ≤ key)
  let d := if cls then wr (incSat d Reg.SCH_RS_CNT_CLASSES 1) Reg.SCH_RS_LAST_CLASS (key - 0x200)
    else wr (incSat d Reg.SCH_RS_CNT_GROUPS 1) Reg.SCH_RS_LAST_GROUP key
  let d0 := if cls then 0x100 + (key - 0x200) else key
  let ui := if cls then 0 else key % 256
  let d := if cls then raise d Src.SCH_CLASS_RESYNC 0 0 d0 ts.length else raise d Src.SCH_RESYNC 4 ui d0 ts.length
  if 3 ≤ ts.length then raise d Src.SCH_RESYNC_REPEAT 4 ui d0 ts.length else d

/-- Groups and classes come under resynchronisation; `from_` is the first tick of a capture. -/
def rsBegin (d : Dev) (groups classes : List Nat) (from_ : Nat) : Dev :=
  let gs := groups.filter (fun g => decide (g < 257) && !d.sch.rsGrp.contains g && !(digestChans d g).isEmpty)
  let cs := classes.filter (fun c => (copyClasses d).contains c && !d.sch.rsCls.contains c)
  let d := (gs.filter (fun g => decide (g < 256))).foldl (fun d g => wrBit d Reg.SCH_RS_ACTIVE_GROUPS g true) d
  schM d (fun s => { s with
    rsK := if s.rsGrp.isEmpty && s.rsCls.isEmpty then from_ else s.rsK,
    rsGrp := s.rsGrp ++ gs, rsCls := s.rsCls ++ cs,
    txReq := gs ++ cs.map (0x200 + ·) })

/-! ### The saved state (R393, R394) -/

/-- What the owner sends of an axis. -/
def savedAxis (d : Dev) (n : Nat) : SavedAxis :=
  let a := axis d n
  { state := axState d n, mode := a.mode, dir := a.dir, set := a.set, speed := a.spd, pos := a.pos,
    angle := ((axisRec d n).map (fun r => elecAngle r a)).getD 0, ke := rdB d (Reg.AXIS_STAT_ABNORMAL_KE n),
    locked := rdB d (Reg.SAFE_BRAKE_LOCKOUT n), brake := brakeOn d n, result := rd d (Reg.SAFE_BRAKE_RESULT n) }

/-- The owner's saved state at the end of a cycle (R393). -/
def formSaved (d : Dev) : Dev :=
  if !paired d || !rdB d Reg.SCH_STAT_OWN then d
  else
    let outs := fun (p : Nat → Bool) => (List.range 8).foldl (fun m n => setBit m n (p n)) 0
    let s : SavedState := {
      cyc := cycNo d, axes := (List.range 8).map (savedAxis d), outOn := outs (fun n => (sout d n).want),
      outLock := rd d Reg.SAFE_OUT_LOCKOUT, outReset := d.safe.barred,
      funcs := (List.range 32).map (fnState d), phase := tpPhase d, chop := d.net.lastPass }
    schM d (fun x => { x with txSaved := some s })

/-- An axis of a device that has gained ownership: what moved or was held is started again, and a locked one stays
locked. -/
def resumeAxis (d : Dev) (n : Nat) (x : SavedAxis) : Dev :=
  match axisRec d n with
  | none => d
  | some r =>
    let d := setAxis d n (fun a => { a with set := x.set, mode := x.mode, dir := x.dir, touch := false, holdN := 0, intF := 0 })
    let d := if x.ke then wrB d (Reg.AXIS_STAT_ABNORMAL_KE n) true else d
    let d := wr d (Reg.SAFE_BRAKE_RESULT n) x.result
    if x.locked then setAxState (wrB d (Reg.SAFE_BRAKE_LOCKOUT n) true) n axLOCKED
    else if 1 ≤ x.state ∧ x.state ≤ 4 ∧ axState d n = axOFF then
      if (axis d n).spd.natAbs < 10 * r.stillRpm then armAxis d n else setAxState d n axMEASURE
    else d

/-- Whether the time in which a saved output may be turned on again has passed. -/
def savedOld (d : Dev) (s : SavedState) : Bool :=
  decide ((s.cyc + 1) * 1000000 + rd d Reg.SCH_CFG_HOLD_MS * 1000000 < tickNs d)

/-- Keep the outputs with an output record in `m` off until a deliberate reset. -/
def barOuts (d : Dev) (m : Nat) : Dev :=
  let os := ((img d).safeOuts.map (·.out)).filter (fun n => bit m n)
  { d with safe := { d.safe with barred := os.foldl (fun b n => setBit b n true) d.safe.barred } }

/-- The device has gained ownership (R394). -/
def gainOwner (d : Dev) : Dev :=
  let d := wrB d Reg.NET_STAT_CHOP_ON d.net.chop
  match d.sch.saved with
  | none => barOuts d 0xFF
  | some s =>
    let ok := if savedOld d s then 0 else s.outOn - (s.outOn &&& s.outLock)
    let d := barOuts d (0xFF - ok % 256)
    let d := schM d (fun x => { x with resume := if savedOld d s then none else some s })
    let d := (s.axes.zipIdx).foldl (fun d (x, n) => resumeAxis d n x) d
    chopDue { d with
      net := { d.net with lastPass := s.chop },
      safe := { d.safe with tp := (d.k, s.phase) } }

/-- Outputs that have not come on while `HOLD_MS` lasted wait for a deliberate reset. -/
def savedExpire (d : Dev) : Dev :=
  match d.sch.resume with
  | some s =>
    if savedOld d s then
      let off := (List.range 8).foldl (fun m n => setBit m n (!(sout d n).want)) 0
      barOuts (schM d (fun x => { x with resume := none })) off
    else d
  | none => d

end Sys2Proof.Machine
end

