-- ==== Sys2Proof/Machine/Schrund.lean ====
section
/-!
DEFINITION. Paired devices over the schrund link (chapter 16): lanes and TICK frames, roles, ownership, forwarded inputs,
digests and resynchronisation, joining, detaching and taking over.
-/
namespace Sys2Proof.Machine

/-! ### Lanes (R378) -/

/-- The number of lanes in a mask. -/
def laneCount (m : Nat) : Nat := (sel 4 (bit m)).length

/-- Lanes gain or lose block lock (R378; in CALVED the link stays down, R295): `mask` holds the lanes that have it now, `dly` is the delay measured at link-up. -/
def laneChange (d : Dev) (mask dly : Nat) : Dev :=
  let old := d.sch.lanes
  let mask := mask % 16
  let d := wr (schM d (fun s => { s with lanes := mask })) Reg.SCH_STAT_LANES (laneCount mask)
  let d := if (sel 4 (fun l => bit old l && !bit mask l)).isEmpty then d
    else raise d Src.SCH_LANE 0 0 mask (rd d Reg.SCH_LANE_ERR_CNT)
  if laneCount mask < 2 then schM d (fun s => { s with up := false, seen := false })
  else if d.sch.up then d
  else
    let d := wr d Reg.SCH_LINK_DLY_NS (min dly 0xFFFF)
    schM d (fun s => { s with up := decide (dly ≤ 1000) && !isCalved d, seen := false })

/-- SCH_LANE_CHANGE. -/
def execSchLaneChange (mask dly : Nat) (s : State) : Host.Outcome State Fault Refusal :=
  .next { s with d := laneChange s.d mask dly }

/-! ### Claiming ownership (R377, R394, R396) -/

/-- Whether the partner is in START: SOLO by its TICK frame, without a claim. -/
def partnerStarts (d : Dev) : Bool := d.sch.up && d.sch.seen && d.sch.peer.role == roSOLO && !d.sch.peer.own

/-- Whether the device may claim now: its role calls for ownership and it is not in safe state (R395, R396). -/
def mayClaim (d : Dev) : Bool :=
  paired d && !rdB d Reg.SCH_STAT_OWN && !inSafe d && d.firn.act.isSome &&
  (if d.sch.start then partnerStarts d || (d.sch.waitOver && !d.sch.up)
   else if isStandby d then pstate d == psDETACHED || d.sch.tko.isSome
   else true)

/-- `PAIR_PEER_N` has been high for 2 µs: the claim is made. -/
def ownershipClaim (d : Dev) : Dev :=
  let d := wrB d Reg.SCH_STAT_PEER false
  if mayClaim d then schM (wrB d Reg.SCH_STAT_OWN true) (fun x => { x with claim := true }) else d

/-- OWNERSHIP_CLAIM. -/
def execOwnershipClaim (s : State) : Host.Outcome State Fault Refusal := .next { s with d := ownershipClaim s.d }

/-- Join, unless the partner reports this device's own rank (R375). A join that the partner's `SAFE` would abandon at once is
not started (log entry 74). -/
def tryJoin (d : Dev) : Dev :=
  if !rdB d Reg.SCH_CTRL_JOIN_EN || !d.sch.up || d.sch.peer.safe || d.sch.failK.isSome then d
  else if d.sch.peer.rank = rd d Reg.SCH_STAT_RANK then joinFail d 1
  else joinStart d

/-- The claim has been won. -/
def claimWon (d : Dev) : Dev :=
  let d := schM d (fun s => { s with claim := false })
  if d.sch.start then
    let d := schM (setRole d roSOLO 0) (fun s => { s with start := false, waitOver := false })
    leaveBoot (gainOwner d)
  else if isStandby d && pstate d == psDETACHED then
    let d := (allChans d).foldl seqSettle (orderBayQuench d cMor)
    let d := ((allChans d).filter (fun c => decide (sqState d c = sqRUNNING ∨ sqState d c = sqWAITING))).foldl
      (fun d c => pauseProgram d c 8) d
    leaveBoot (gainOwner (setRole d roSOLO 0))
  else if d.sch.tko.isSome then d
  else gainOwner d

/-- A claim is sampled: `low` where `PAIR_PEER_N` is low by then. -/
def claimSample (d : Dev) (low : Bool) : Dev :=
  if !d.sch.claim then d
  else
    let d := wrB d Reg.SCH_STAT_PEER low
    if !low then claimWon d
    else
      let d := wrB d Reg.SCH_STAT_SPLIT_EV true
      let d := raise d Src.SCH_SPLIT 0 0 (rd d Reg.SCH_STAT_RANK) 0
      if rd d Reg.SCH_STAT_RANK = 0 then claimWon d
      else
        let d := releaseOwn d
        if d.sch.start && d.sch.up then tryJoin d else d

/-- CLAIM_SAMPLE, 2 µs after the claim. -/
def execClaimSample (low : Bool) (s : State) : Host.Outcome State Fault Refusal := .next { s with d := claimSample s.d low }

/-- `PAIR_PEER_N` goes low: in safe state the device stops its command frames and markers (R399). -/
def peerFall (d : Dev) : Dev :=
  let d := wrB d Reg.SCH_STAT_PEER true
  if paired d && inSafe d then schM d (fun x => { x with quiet := true }) else d

/-- PAIR_PEER_N_FALL. -/
def execPairPeerNFall (s : State) : Host.Outcome State Fault Refusal := .next { s with d := peerFall s.d }

/-! ### TICK frames (R379 to R381, R384) -/

/-- `PORT_OK`. -/
def portOkBytes (d : Dev) : List Byte :=
  (List.range 16).map (fun i =>
    BitVec.ofNat 8 ((List.range 8).foldl (fun a j => if pst d (8 * i + j) = psActive then a + 2 ^ (7 - j) else a) 0))

/-- The TICK frame at Tk + 28 µs, with the oldest 64 orders. -/
def tickTx (d : Dev) : Dev :=
  if !paired d || !d.sch.up then d
  else
    let os := d.mor.orders.take 64
    let flags := b2n (inSafe d) * 128 + role d * 32 + rd d Reg.SCH_STAT_RANK * 16 + rd d Reg.SCH_STAT_OWN * 8 + netLevel d
    let f := [BitVec.ofNat 8 1, BitVec.ofNat 8 flags] ++ natBE 8 d.k ++ natBE 2 os.length ++ portOkBytes d ++
      os.flatMap (fun o => natBE 1 o.1 ++ natBE 1 o.2.1 ++ natBE 2 o.2.2)
    schM { d with mor := { d.mor with orders := d.mor.orders.drop 64 } } (fun s => { s with txTick := withCrc f })

/-- SCH_TICK_TX. -/
def execSchTickTx (s : State) : Host.Outcome State Fault Refusal := .next { s with d := tickTx s.d }

/-- The orders of a TICK frame. -/
def tickOrders (f : List Byte) : List (Nat × Nat × Nat) :=
  (List.range (beAt f 10 2)).map (fun i => (byteAt f (28 + 4 * i), byteAt f (29 + 4 * i), beAt f (30 + 4 * i) 2))

/-- Step 1 of the partner's join (R396): the active image, the preloaded variants and the resident programs. -/
def joinData (d : Dev) : List (Nat × Nat × List Byte) :=
  let act := match d.firn.act with | some i => [(1, i.variant, i.bytes)] | none => []
  let pre := (d.firn.slots.filter (fun e => e.1 != rd d Reg.FIRN_STAT_ACTIVE_VAR)).map (fun e => (2, e.1, e.2.bytes))
  let base := rd d Reg.LEDGER_BASE_HI_ADDR * 2 ^ 32 + rd d Reg.LEDGER_BASE_LO_ADDR * 2 ^ 25 + 0x02000000
  let progs := (sel 64 (fun s => !(progAt d s).steps.isEmpty)).map (fun s =>
    (3, s, Memory.readList d.dram (base + s * 0x10000) (32 + 32 * (progAt d s).steps.length)))
  act ++ pre ++ progs

/-- The data of a join is sent once per join of the partner. -/
def sendJoin (d : Dev) (psub : Nat) : Dev :=
  if d.sch.peer.role ≠ roSTANDBY ∨ psub ≠ psJOINING then schM d (fun s => { s with joinSent := false })
  else if d.sch.joinSent then d
  else schM d (fun s => { s with joinSent := true, txBulk := joinData d })

/-- A device the partner's report makes act (R396, R398). `psub` is the partner's sub-state, which its frame has no field
for: 2 ENGAGED or about to be, 3 DETACHED. -/
def peerReport (d : Dev) (psub : Nat) : Dev :=
  let p := d.sch.peer
  if d.sch.start then
    if p.role = roACTIVE ∨ (p.role = roSOLO ∧ p.own) then tryJoin d else d
  else if isStandby d then
    if pstate d = psDETACHED then (if p.role ≠ roSTANDBY then tryJoin d else d)
    else if pstate d = psJOINING then (if p.safe || p.role == roSTANDBY || psub == psDETACHED then schDetach d 5 else d)
    else d
  else if isActive d then
    (if p.safe || psub == psDETACHED then schM d (fun s => { s with toSolo := true }) else d)
  else
    let d := sendJoin d psub
    if p.role = roSTANDBY ∧ psub = psENGAGED ∧ ¬inSafe d then schM d (fun s => { s with toActive := true }) else d

/-- A frame of the TICK type has arrived, its first byte `ns` after Tk; an error in it is counted on `lane`. -/
def tickRx (d : Dev) (ns psub lane : Nat) (f : List Byte) : Dev :=
  if !paired d || !d.sch.up then d
  else if f.length ≠ 32 + 4 * beAt f 10 2 ∨ 64 < beAt f 10 2 ∨ byteAt f 0 ≠ 1 ∨
      crc32c (f.take (f.length - 4)) ≠ beAt f (f.length - 4) 4 then
    incSatPart d Reg.SCH_LANE_ERR_CNT (8 * (lane % 4)) 8 1
  else if beAt f 2 8 ≠ d.k ∨ 30000 < ns then d
  else
    let b := byteAt f 1
    let p : SchPeer := {
      safe := bit b 7, role := bits b 5 2, rank := bits b 4 1, own := bit b 3, level := bits b 0 2,
      ports := sel 128 (fun q => bit (byteAt f (12 + q / 8)) (7 - q % 8)), k := d.k }
    let d := wrB d Reg.SCH_STAT_HB_OK true
    let d := schM d (fun s => { s with
      got := true, miss := 0, seen := true, peer := p, level := p.level, orders := s.orders ++ tickOrders f,
      tickD := some ((ns : Int) - rd d Reg.SCH_LINK_DLY_NS - 28000) })
    let d := if inSafe d ∧ p.role = roSOLO then schM d (fun s => { s with quiet := true }) else d
    peerReport d psub

/-- SCH_TICK_RX. -/
def execSchTickRx (ns psub lane : Nat) (frame : List Byte) (s : State) : Host.Outcome State Fault Refusal :=
  .next { s with d := tickRx s.d ns psub lane frame }

/-- The heartbeat is lost (R380, R396). -/
def hbLost (d : Dev) : Dev :=
  let d := incSat (wrB (wrB d Reg.SCH_STAT_HB_OK false) Reg.SCH_STAT_HB_LOSS_EV true) Reg.SCH_HB_LOSS 1
  let d := raise d Src.SCH_HB_LOSS 0 0 d.sch.peer.k (rd d Reg.SCH_HB_MISS)
  let d := schM d (fun s => { s with lossCyc := cycNo d })
  if isActive d then schM d (fun s => { s with toSolo := true })
  else if isStandby d && pstate d == psJOINING then schDetach d 5
  else d

/-- Tk + 30 µs without a valid TICK frame: a miss. -/
def tickDeadline (d : Dev) : Dev :=
  if !paired d || d.sch.got then d
  else
    let d := incSat (schM d (fun s => { s with miss := s.miss + 1, tickD := none })) Reg.SCH_HB_MISS 1
    if hbOk d && decide (2 ≤ d.sch.miss) then hbLost d else d

/-- SCH_TICK_DEADLINE. -/
def execSchTickDeadline (s : State) : Host.Outcome State Fault Refusal := .next { s with d := tickDeadline s.d }

/-- The partner's orders at Tk + 40 µs (R384). -/
def peerOrders (d : Dev) : Dev :=
  d.sch.orders.foldl (fun d o =>
    let key := o.2.1 * 4096 + o.2.2
    match o.1 with
    | 1 => if d.mor.pfence.contains key then d else { d with mor := { d.mor with pfence := d.mor.pfence ++ [key] } }
    | 2 => { d with mor := { d.mor with pfence := d.mor.pfence.filter (· != key) } }
    | 3 => orderZoneQuench d o.2.2 cMor
    | 4 => orderBayQuench d cMor
    | _ => d) (schM d (fun s => { s with orders := [] }))

/-! ### Taking over and detaching (R397, R398, R551) -/

/-- Whether the partner's last status frame carries `SAFE`. -/
def statusSafe (d : Dev) : Bool :=
  match SMap.find d.rime.status (rd d Reg.SCH_CFG_PNODE) with
  | some e => bit (byteAt e.2 0) 7 && decide (cycNo d ≤ e.1 + 1)
  | none => false

/-- TAKEOVER of an ENGAGED device: `corr` where Rime corroborates a loss, `peerLow` the level of `PAIR_PEER_N`. -/
def takeover (d : Dev) (corr peerLow : Bool) : Dev :=
  let d := wrB d Reg.SCH_STAT_PEER peerLow
  if !isStandby d || pstate d != psENGAGED || d.sch.tko.isSome || inSafe d then d
  else if d.sch.peer.safe || statusSafe d then schM d (fun s => { s with tko := some 1 })
  else if !hbOk d && corr && !peerLow then schM d (fun s => { s with tko := some 0 })
  else d

/-- TAKEOVER. -/
def execTakeover (corr peerLow : Bool) (s : State) : Host.Outcome State Fault Refusal :=
  .next { s with d := takeover s.d corr peerLow }

/-- A takeover at its commit point. -/
def commitTakeover (d : Dev) (why : Nat) : Dev :=
  let gs := d.sch.rsGrp.filter (fun g => decide (g < 256))
  let last := rd d Reg.SCH_IN_LAST_CYC_CYC
  let d := dropLoads (setRole (rsAbandon d) roSOLO 0)
  let d := wrB d Reg.SCH_STAT_TKO_EV true
  let d := wr (wr d Reg.SCH_TKO_TICK_LO_K d.k) Reg.SCH_TKO_TICK_HI_K (d.k / 2 ^ 32)
  let d := schM d (fun s => { s with tko := none, det := none, inputs := [], payload := [], closed := none })
  let d := raise d Src.SCH_TAKEOVER 4 0 why last
  let d := gs.foldl (fun d g => raise (fenceUnit d Src.SCH_TAKEOVER 4 g) Src.SCH_TAKEOVER 4 g why last) d
  let d := if rimeState d ≠ 1 ∧ (zones d).any (fun z => zmode d z == modeProduction) then
      let d := wr (setRimeState d 2) Reg.TIME_ISO_CYC 0
      segM { d with rime := { d.rime with isoDone := false, isoTicks := 0 } } (fun c => { c with been := true })
    else d
  if ownsGate d then gainOwner d else d

/-- What the pair logic does at a commit point once inputs have been settled: a takeover, or a detach. -/
def pairCommit (d : Dev) : Dev :=
  match d.sch.tko with
  | some why => commitTakeover d why
  | none =>
    match d.sch.det with
    | some why => schDetach d why
    | none =>
      if isStandby d && pstate d == psENGAGED && !hbOk d && decide (d.sch.lossCyc < cycNo d) then schDetach d 1 else d

/-! ### Inputs (R18, R383) -/

/-- An input of cycle `cyc` arrives, with the bytes of its payload. -/
def inputRx (d : Dev) (cyc : Nat) (input : Staged) (payload : List Byte) : Dev :=
  if isStandby d && pstate d == psENGAGED then
    schM d (fun x => { x with inputs := x.inputs ++ [(cyc, input)], payload := x.payload ++ payload })
  else d

/-- INPUT_RX. -/
def execInputRx (cyc : Nat) (input : Staged) (payload : List Byte) (s : State) : Host.Outcome State Fault Refusal :=
  .next { s with d := inputRx s.d cyc input payload }

/-- A CLOSE of cycle `cyc` arrives. -/
def closeRx (d : Dev) (cyc count crc : Nat) : Dev :=
  if !isStandby d || pstate d != psENGAGED then d
  else
    let n := (d.sch.inputs.filter (fun x => x.1 == cyc)).length
    let ok := n == count && crc32c d.sch.payload == crc
    schM d (fun s => { s with
      payload := [], closed := if ok then some cyc else none, gap := if ok then 0 else if n = count then 2 else 1 })

/-- CLOSE_RX. -/
def execCloseRx (cyc count crc : Nat) (s : State) : Host.Outcome State Fault Refusal :=
  .next { s with d := closeRx s.d cyc count crc }

/-- Whether the inputs of the cycle that has ended are owed: at the commit point of a cycle's first tick, on a device that
was ENGAGED in the cycle before. -/
def inputsOwed (d : Dev) : Bool :=
  isStandby d && pstate d == psENGAGED && d.k % 20 == 0 && decide (d.sch.engCyc < cycNo d) && d.sch.tko.isNone

/-- At the deadline the CLOSE is missing, or did not match. -/
def inputGap (d : Dev) : Dev :=
  if !inputsOwed d || d.sch.closed == some (cycNo d - 1) || d.sch.det.isSome then d
  else
    let d := wrB d Reg.SCH_STAT_INPUT_GAP true
    let d := raise d Src.SCH_INPUT_GAP 0 0 (cycNo d - 1) d.sch.gap
    schM d (fun s => { s with det := some 2, inputs := s.inputs.filter (fun x => decide (cycNo d ≤ x.1)) })

/-- INPUT_GAP. -/
def execInputGap (s : State) : Host.Outcome State Fault Refusal := .next { s with d := inputGap s.d }

/-- The inputs that commit now: those of the closed cycle. -/
def takeInputs (d : Dev) : List Staged × Dev :=
  if !inputsOwed d || d.sch.closed != some (cycNo d - 1) then ([], d)
  else
    let c := cycNo d - 1
    let xs := (d.sch.inputs.filter (fun x => x.1 == c)).map (·.2)
    let d := wr d Reg.SCH_IN_LAST_CYC_CYC c
    (xs, schM d (fun s => { s with inputs := s.inputs.filter (fun x => decide (c < x.1)), closed := none, gap := 0 }))

/-! ### Digests (R389) -/

/-- Whether an integer of the digests of a group is compared and differs: the HOT part, then the cached part. -/
def groupDiffers (d : Dev) (cyc : Nat) (own theirs : List (Nat × Nat)) (g : Nat) : Bool :=
  let a := own.getD g (0, 0)
  let b := theirs.getD g (0, 0)
  !d.sch.rsGrp.contains g && (a.1 != b.1 || (!d.sch.lateCyc.any (fun n => n + 2 == cyc) && a.2 != b.2))

/-- DIGEST_RX: the digests of cycle `cyc`. -/
def digestRx (d : Dev) (cyc : Nat) (groups : List (Nat × Nat)) (classes : List Nat) : Dev :=
  if !isStandby d || pstate d == psDETACHED || d.sch.wasChanged then d
  else match d.sch.digests with
    | none => d
    | some (n, gs, cs) =>
      if n ≠ cyc ∨ cyc + 1 ≠ cycNo d then d
      else
        let dg := (digestGroups d).filter (groupDiffers d cyc gs groups)
        let dc := (maskClasses d).filter (fun c => !d.sch.rsCls.contains c && cs.getD c 0 != classes.getD c 0)
        let joining := pstate d == psJOINING
        if joining && !d.sch.loaded then d
        else
          let all := dg.isEmpty && dc.isEmpty && d.sch.rsGrp.isEmpty && d.sch.rsCls.isEmpty && (!joining || d.sch.modes || !(maskClasses d).contains 0)
          let d := schM d (fun s => { s with equal := if all then s.equal + 1 else 0 })
          let d := if joining && decide (2 ≤ d.sch.equal) then schM d (fun s => { s with toEng := true }) else d
          let d := if !joining && dc.any (fun c => c == 3 || c == 8) then schM d (fun s => { s with det := some 4 }) else d
          let copy := dc.filter (fun c => c != 3 && c != 8)
          let d := rsBegin d dg copy (d.k + 1)
          (dg ++ copy.map (0x200 + ·)).foldl rsCount d

/-- DIGEST_RX. -/
def execDigestRx (cyc : Nat) (groups : List (Nat × Nat)) (classes : List Nat) (s : State) : Host.Outcome State Fault Refusal :=
  .next { s with d := digestRx s.d cyc groups classes }

/-- RS_REQ_RX: what a partner under comparison or in its join asks to be sent. Only resynchronisations of an ENGAGED
partner are counted; the copies of a join are not. -/
def rsReqRx (d : Dev) (groups classes : List Nat) : Dev :=
  if !pairWork d || isStandby d then d
  else
    let d := rsBegin d groups classes (if d.k % 20 = 0 then d.k + 1 else d.k)
    if isActive d then (groups ++ classes.map (0x200 + ·)).foldl rsCount d else d

/-- RS_REQ_RX. -/
def execRsReqRx (groups classes : List Nat) (s : State) : Host.Outcome State Fault Refusal :=
  .next { s with d := rsReqRx s.d groups classes }

/-- A batch or class arrives, to be installed at the next commit point. -/
def resyncRx (d : Dev) (batch : Resync) : Dev :=
  if isStandby d && pstate d != psDETACHED then schM d (fun x => { x with install := x.install ++ [batch] }) else d

/-- RESYNC_RX. -/
def execResyncRx (batch : Resync) (s : State) : Host.Outcome State Fault Refusal := .next { s with d := resyncRx s.d batch }

/-- The non-owner keeps the last copy of the saved state (R393). -/
def savedRx (d : Dev) (saved : SavedState) : Dev :=
  if paired d && !rdB d Reg.SCH_STAT_OWN then
    wr (schM d (fun x => { x with saved := some saved })) Reg.SCH_SAVED_CYC_CYC saved.cyc
  else d

/-- SAVED_RX. -/
def execSavedRx (saved : SavedState) (s : State) : Host.Outcome State Fault Refusal := .next { s with d := savedRx s.d saved }

/-! ### BULK frames (R57, R163, R396) -/

/-- The key of data in transfer: its kind (1 active image, 2 preloaded variant, 3 program), slot and length. -/
def bulkKey (kind slot total : Nat) : Nat := (kind * 256 + slot) * 2 ^ 32 + total

/-- A complete image that a verification can start on now. -/
def bulkReady (d : Dev) : Option (Nat × List Byte) :=
  if d.firn.verif.isSome then none
  else d.sch.bulk.find? (fun e =>
    decide (e.2.length = e.1 % 2 ^ 32) &&
    (e.1 / 2 ^ 40 == 1 || (e.1 / 2 ^ 40 == 2 && d.firn.commit.isNone && d.firn.act.isSome)))

/-- Start the verification of a complete image. -/
def bulkServe (d : Dev) : Dev :=
  match bulkReady d with
  | none => d
  | some (key, bs) =>
    startVerif (schM d (fun s => { s with bulk := SMap.del s.bulk key })) (if key / 2 ^ 40 = 1 then 4 else 5) bs.length bs

/-- A complete program is verified (R163): a joiner loads it, or fails its join; an ENGAGED device's commits with the input that
follows it, and a rejected one is reported with `SEQ_E_PAIR`. -/
def bulkProgram (d : Dev) (slot total : Nat) (bs : List Byte) : Dev :=
  let d := schM d (fun s => { s with bulk := SMap.del s.bulk (bulkKey 3 slot total) })
  match progChk bs total, decide (pstate d = psJOINING) with
  | some _, true => joinFail d 2
  | some _, false => loadErr d slot 0x0B 0
  | none, true => commitProg d slot bs
  | none, false => d

/-- BULK_RX: a piece; `last` marks the last frame of a join. -/
def bulkRx (d : Dev) (kind slot total : Nat) (last : Bool) (bytes : List Byte) : Dev :=
  if !isStandby d || pstate d == psDETACHED then d
  else
    let key := bulkKey kind slot total
    let bs := SMap.get [] d.sch.bulk key ++ bytes
    let d := schM d (fun s => { s with bulk := SMap.put s.bulk key bs, bulkEnd := s.bulkEnd || last })
    if kind = 3 ∧ bs.length = total then bulkProgram d slot total bs else bulkServe d

/-- BULK_RX. -/
def execBulkRx (kind slot total : Nat) (last : Bool) (bytes : List Byte) (s : State) : Host.Outcome State Fault Refusal :=
  .next { s with d := bulkRx s.d kind slot total last bytes }

/-- A joiner that has loaded everything asks for every class and every channel's mask state. -/
def joinLoaded (d : Dev) : Dev :=
  let d := bulkServe d
  if isStandby d && pstate d == psJOINING && d.sch.bulkEnd && !d.sch.loaded && d.sch.bulk.isEmpty && d.firn.verif.isNone &&
      d.firn.commit.isNone && d.firn.act.isSome then
    let d := schM d (fun s => { s with loaded := true })
    rsBegin d (digestGroups d) (copyClasses d) (d.k + 1)
  else d

/-! ### Waiting, time limits and the registers' commands (R396, R401) -/

/-- WAIT_MS_TIMEOUT: START has lasted `WAIT_MS` without a link; `peerLow` is the level of `PAIR_PEER_N`. -/
def waitTimeout (d : Dev) (peerLow : Bool) : Dev :=
  if !d.sch.start || d.sch.up || decide (d.k < d.sch.startK + 20 * rd d Reg.SCH_CFG_WAIT_MS) then d
  else
    let d := wrB (schM d (fun s => { s with waitOver := true })) Reg.SCH_STAT_PEER peerLow
    if peerLow && !isCalved d then schM (setRole d roSTANDBY psDETACHED) (fun s => { s with start := false }) else d

/-- WAIT_MS_TIMEOUT. -/
def execWaitMsTimeout (peerLow : Bool) (s : State) : Host.Outcome State Fault Refusal :=
  .next { s with d := waitTimeout s.d peerLow }

/-- A join has lasted 10 s without completion. -/
def joinTimeout (d : Dev) : Dev :=
  let due := isStandby d && pstate d == psJOINING && d.sch.failK.isNone && !d.sch.toEng
  if due && decide (d.sch.joinK + 200000 ≤ d.k) then joinFail d 3 else d

/-- JOIN_TIMEOUT. -/
def execJoinTimeout (s : State) : Host.Outcome State Fault Refusal := .next { s with d := joinTimeout s.d }

/-- JOIN_RETRY: 1 s after a failed join. -/
def joinRetry (d : Dev) : Dev :=
  match d.sch.failK with
  | none => d
  | some f =>
    if d.k < f + 20000 ∨ rdB d Reg.SCH_CTRL_JOIN_EN = false then d
    else
      let d := schM d (fun s => { s with failK := none })
      if isStandby d && pstate d == psJOINING then joinStart d else d

/-- JOIN_RETRY. -/
def execJoinRetry (s : State) : Host.Outcome State Fault Refusal := .next { s with d := joinRetry s.d }

/-- A write of `SCH_CTRL`. -/
def schCtrl (d : Dev) (req : Requester) (w : Nat) : Dev :=
  regAccess d req 0x100C0000 w (fun d =>
    let d := writeFields d req 0x100C0000 w
    let d := if bit w 1 && isStandby d && pstate d == psENGAGED then schM d (fun s => { s with det := some 3 }) else d
    if bit w 2 then
      let d := wr (wr d Reg.SCH_HB_MISS 0) Reg.SCH_HB_LOSS 0
      wr (wr (wr d Reg.SCH_RS_CNT_GROUPS 0) Reg.SCH_RS_CNT_CLASSES 0) Reg.SCH_LANE_ERR_CNT 0
    else d)

/-- DETACH. -/
def execDetach (req : Requester) (w : Nat) (s : State) : Host.Outcome State Fault Refusal :=
  .next { s with d := schCtrl s.d req (setBit w 1 true) }

/-- SCH_CNT_CLR. -/
def execSchCntClr (req : Requester) (w : Nat) (s : State) : Host.Outcome State Fault Refusal :=
  .next { s with d := schCtrl s.d req (setBit w 2 true) }

/-! ### The cycle boundary and the end of a tick (R18, R393, R396) -/

/-- The cycle's inputs close (R18, R383): the writes collected, and on an ACTIVE device the grant of R244 and the zone mode
requests that commit at this boundary. -/
def closeCycle (d : Dev) : Dev :=
  let due := d.zreq.filter (fun r => decide (r.cyc ≤ cycNo d) && zoneMay d r.zone r.mode)
  let more := if isActive d then
      .grant (rd d Reg.NET_GRANT_W) :: due.map (fun r => Staged.zone r.zone r.mode)
    else []
  let xs := d.hostCyc ++ more
  schM { d with hostCyc := [] } (fun s => { s with wasChanged := s.changed, changed := false, txIn := xs })

/-- What the pair logic does at a tick edge, once the tick count has moved. -/
def schTick (d : Dev) : Dev :=
  let d := schM d (fun s => { s with got := false, level := 2 })
  let d := savedExpire (safeRelease d)
  if d.k % 20 ≠ 0 then d
  else
    let d := closeCycle d
    if d.sch.toSolo && isActive d then schM (setRole d roSOLO 0) (fun s => { s with toSolo := false, toActive := false })
    else if d.sch.toActive && decide (role d = roSOLO) && paired d then
      schM (setRole d roACTIVE 0) (fun s => { s with toActive := false, toSolo := false })
    else if d.sch.toEng && isStandby d && pstate d == psJOINING then
      let d := wrB (setRole d roSTANDBY psENGAGED) Reg.SCH_STAT_JOIN_EV true
      schM d (fun s => { s with toEng := false, engCyc := cycNo d, inputs := [], payload := [], closed := none, gap := 0 })
    else d

/-- Tk + 44 µs: the digests and the saved state of a cycle that ends, and the captures of R390. -/
def schSlack (d : Dev) : Dev :=
  let d := if d.k % 20 = 19 then formSaved (formDigests d) else d
  rsCapture d

end Sys2Proof.Machine
end

