-- ==== Sys2Proof/Machine/Assembly.lean ====
section
/-!
DEFINITION. Command assembly and the command frames (R19, R20, R83, R109 to R112, R142, R148, R154, R234, R240, R262): from
Tk + 40 µs the slots of every port are formed from the regulator's output, and at Tk + 44 µs they leave.
-/
namespace Sys2Proof.Machine

/-! ### Overrides at assembly (R157, R262, R310) -/

/-- Whether the slot of a tripped channel has moved to `RELAY` SENSE: from the third tick after the trip, where the template
asks for it and REVERSE did not trip it (R262). -/
def senseSlot (d : Dev) (c : Nat) : Bool :=
  isTripped d c && !quenchOrdered d c && (template d c).tripSense && !bit (serCause d c) 8 &&
  decide ((serCh d c).tripK + 3 ≤ d.k) && decide (pst d (portOf d c) = psActive) &&
  !fenced d 1 c && !fenced d 2 (portOf d c) && !busHeld d c

/-- The override that command assembly applies: a quench ordered before Tk + 40 µs counts as a trip (R262). -/
def asmOverride (d : Dev) (c : Nat) : Option (Nat × Nat × Nat) :=
  if senseSlot d c then some (15, 0, 2)
  else if quenchOrdered d c then some (15, 0, 0)
  else override d c

/-- Apply the overrides to every populated channel. -/
def asmOverrides (d : Dev) : Dev :=
  (allChans d).foldl (fun d c => match asmOverride d c with
    | some o => if (regCh d c).resume ∧ hot d c 0x60 8 = 0 then hotW (applyOverride d c o) c 0xA0 8 (hot d c 0xA0 8) else applyOverride d c o
    | none => d) d

/-- A channel whose slot of the last tick is repeated: its group is incomplete and no override reaches it (R20). -/
def repeats (d : Dev) (c : Nat) : Bool :=
  (asmOverride d c).isNone &&
  (match groupOf d c with
   | some g => (incGroups d).contains g.group
   | none => false)

/-- Whether a group is regulated by a user kernel (R234). -/
def userGroup (d : Dev) (c : Nat) : Bool :=
  match groupOf d c with
  | some g => decide (0x40 ≤ g.kernel)
  | none => false

/-! ### Range selection (R109 to R112, R155) -/

/-- The ranging demand of the frame, µA (R155). -/
def rngDemand (d : Dev) (c : Nat) : Nat := hot d c 0x74 4

/-- Whether `UP_PCT` % of a range covers a demand. -/
def covers109 (d : Dev) (c g i r : Nat) : Bool := decide (i * 100 ≤ rd d (Reg.MEAS_RNG_UP_PCT g) * iFs d c r)

/-- The smallest range whose `UP_PCT` % covers the demand; the largest where none does. -/
def smallestCovering (d : Dev) (c g i : Nat) : Nat :=
  (((rangesDown d c).reverse).find? (covers109 d c g i)).getD (largestRange d c)

/-- The range of the running calibration capture that locks a channel (R114). -/
def capturedRange (d : Dev) (c : Nat) : Option Nat :=
  match d.meas.run with
  | some r => if r.stream ≠ 0 ∧ r.first ≤ c ∧ c < r.first + r.num ∧ (rng d c).locks.contains 5 then some (r.stream - 1) else none
  | none => none

/-- The down condition of R109 in one tick: |I| and the current reading it delivered are below `DN_PCT` % of the next
smaller range. -/
def downCond (d : Dev) (c g : Nat) : Bool :=
  match nextSmaller d c (rng d c).cur with
  | some r => decide (rngDemand d c * 100 < rd d (Reg.MEAS_RNG_DN_PCT g) * iFs d c r) &&
      decide ((rng d c).below ≠ 0)
  | none => false

/-- The range that the three rules of R109, or `FORCE`, ask for; `n` counts the ticks of the down condition. -/
def rangeAsked (d : Dev) (c g n : Nat) : Nat :=
  let cur := (rng d c).cur
  if rdB d (Reg.MEAS_RNG_FORCE g) then
    let f := rd d (Reg.MEAS_RNG_FORCE_RANGE g)
    if (rangesBelow4 (verOf d c)).contains f then f else largestRange d c
  else if cur = 4 then smallestCovering d c g (rngDemand d c)
  else
    let up := if covers109 d c g (rngDemand d c) cur then cur else smallestCovering d c g (rngDemand d c)
    let clip := if rdB d (Reg.MEAS_RNG_CLIP_UP g) && rwClipped (iWord d c) then (nextLarger d c cur).getD cur else cur
    let r := if iFs d c up < iFs d c clip then clip else up
    if r ≠ cur then r
    else if rd d (Reg.MEAS_RNG_HOLD g) ≤ n ∧ downCond d c g then (nextSmaller d c cur).getD cur
    else cur

/-- A switch of the range that the frame carries (R109, R110). -/
def rangeSwitch (d : Dev) (c r : Nat) : Dev :=
  let d := setRng d c (fun x => { x with old := x.cur, cur := r, swTick := d.k, sw := true, hold := 2, below := 0, cond := 0 })
  incWrap d Reg.MEAS_RNG_CNT_CNT 1

/-- A lock of R111 gives way to a larger range: the window ends with RANGE_BREAK (R112). -/
def rangeBreak (d : Dev) (c : Nat) : Dev :=
  let d := contactAbort (gradeRangeBreak d c) c
  setRng d c (fun x => { x with locks := x.locks.filter (· == 5) })

/-- A captured channel whose demand exceeds the captured range fails its capture (R112). -/
def captureFail (d : Dev) (c : Nat) : Dev :=
  match d.meas.run with
  | some r => { d with meas := { d.meas with run := some { r with fails := SMap.set 0 r.fails c 6 } } }
  | none => d

/-- Count the down condition of R109 in this tick, whatever holds the range meanwhile (R110, R112). -/
def countDown (d : Dev) (c g : Nat) : Dev :=
  let n := if downCond d c g then (rng d c).cond + 1 else 0
  setRng d c (fun x => { x with cond := n })

/-- The range the frame carries where nothing forces it, for a channel in a group. -/
def rangeRules (d : Dev) (c g : Nat) : Dev :=
  let d := countDown d c g
  let x := rng d c
  match capturedRange d c with
  | some r =>
    let d := if covers109 d c g (rngDemand d c) r then d else captureFail d c
    if x.cur = r then d else rangeSwitch d c r
  | none =>
    let r := rangeAsked d c g x.cond
    if r = x.cur then d
    else if x.cur = 4 ∨ x.locks.isEmpty then rangeSwitch d c r
    else if iFs d c x.cur < iFs d c r then
      (if x.locks.contains 5 then captureFail d c else rangeSwitch (rangeBreak d c) c r)
    else d

/-- The range that `FRANGE` forces; a user kernel forces none (R155, R234). -/
def frange (d : Dev) (c : Nat) : Option Nat :=
  let b := hot d c 0x71 1
  if bit b 7 ∧ userGroup d c = false ∧ rangeOffered (verOf d c) (bits b 0 3) then some (bits b 0 3) else none

/-- Choose the range of a channel's frame. -/
def rangeSelect (d : Dev) (c : Nat) : Dev :=
  let x := rng d c
  if pst d (portOf d c) ≠ psActive then d
  else if x.fresh then
    setRng d c (fun x => { x with cur := largestRange d c, fresh := false, sw := false, hold := 0, below := 0, cond := 0 })
  else if x.hold ≠ 0 then
    let d := match groupOf d c with
      | some g => countDown d c g.group
      | none => d
    setRng d c (fun x => { x with hold := x.hold - 1 })
  else if repeats d c then d
  else match groupOf d c with
    | none =>
      let r := (capturedRange d c).getD (largestRange d c)
      if x.cur = r then d else rangeSwitch d c r
    | some g =>
      match frange d c with
      | some r => if x.cur = r then d else rangeSwitch d c r
      | none => rangeRules d c g.group

/-! ### Limits 3, 4 and 6 (R148, R234, R240, R241) -/

/-- The base current, Q20. -/
def baseI (d : Dev) (c : Nat) : Int := hotS d c 0x60 8

/-- Cut the base current to bounds, setting the given status flags where they act. -/
def cutBase (d : Dev) (c : Nat) (lo hi : Int) (flags : List Nat) : Dev :=
  let i := baseI d c
  let j := max lo (min hi i)
  if i = j then d else flags.foldl (fun d b => setRegFlag d c b true) (hotWS d c 0x60 8 j)

/-- Limit 3 on a user kernel's current. -/
def userLimit (d : Dev) (c : Nat) : Dev :=
  match groupOf d c with
  | some g =>
    if userGroup d c then
      let a := chanAllow d c
      cutBase d c (-((a.getD (rd d (Reg.CHAN_IDIS_ILIM g.group)) : Int) * q20))
        ((a.getD (rd d (Reg.CHAN_ICHG_ILIM g.group)) : Int) * q20) [8]
    else d
  | none => d

/-- Limit 6: the full scale of the range that the frame carries. -/
def rangeCut (d : Dev) (c : Nat) : Dev :=
  let fs := (iFs d c (rng d c).cur : Int) * q20
  cutBase d c (-fs) fs [11]

/-- The two sums of R240, as Σ V × I′ in µV times µA with 20 fraction bits: charging and discharging channels. -/
def forecast (d : Dev) : Int × Int :=
  (allChans d).foldl (fun a c =>
    if pst d (portOf d c) ≠ psActive then a
    else
      let i := baseI d c
      let v := (regCh d c).lastV.map (uVof d c)
      if 0 < i then (a.1 + v.getD 0 * i, a.2)
      else if i < 0 then (a.1, a.2 + v.getD (vFs d c : Int) * -i)
      else a) (0, 0)

/-- The level that both devices of a pair use (R244). -/
def usedLevel (d : Dev) : Nat := if role d = 0 then netLevel d else max (netLevel d) d.sch.level

/-- mW per µV × µA with 20 fraction bits. -/
def powScale : Int := 1000000000 * q20

/-- The netting factor f of R240 for the sums of `forecast`. -/
def netFactor (d : Dev) (chg dis : Int) : Int :=
  let ec : Int := rd d Reg.NET_EFF_ETA_C
  let ed : Int := rd d Reg.NET_EFF_ETA_D
  let a : Int := netAllowance d (usedLevel d)
  if dis * ed * ec - chg * 65536 * 65536 ≤ a * 65536 * ec * powScale then 65536
  else max 0 ((65536 * (chg * 65536 * 65536 + a * 65536 * ec * powScale)).fdiv (dis * ed * ec))

/-- Back-calculation of the loop that ran in this tick from the bound `b` that limit 4 sets (R146): its output within the
other limits goes up to the bound, and its integrator by as much. -/
def netBack (d : Dev) (c : Nat) (b : Int) : Dev :=
  let r := regCh d c
  let o := if r.loop = 2 then 0x88 else 0x80
  if r.loop = 0 ∨ b ≤ r.u then d else setRegCh (hotWS d c o 8 (hotS d c o 8 + (b - r.u))) c (fun r => { r with u := b })

/-- The bound of limit 4 on one channel. -/
def netBound (d : Dev) (c : Nat) (f : Int) : Dev :=
  let i := baseI d c
  let b := -((f * -i).fdiv (65536 * q20) * q20)
  if i < 0 ∧ f < 65536 ∧ repeats d c = false then netBack (cutBase d c b i.natAbs [8, 10]) c b else d

/-- Netting: both passes of R240, and what its registers report. -/
def netting (d : Dev) : Dev :=
  let (chg, dis) := forecast d
  let ec : Int := rd d Reg.NET_EFF_ETA_C
  let ed : Int := rd d Reg.NET_EFF_ETA_D
  let f := netFactor d chg dis
  let d := wr d Reg.NET_P_CHG_W (ofS 32 (roundDiv (chg * 65536) (ec * powScale * 1000)))
  let d := wr d Reg.NET_P_DIS_W (ofS 32 (roundDiv (dis * ed) (65536 * powScale * 1000)))
  let d := wr d Reg.NET_FACTOR_F f.toNat
  let d := { d with net := { d.net with x := (dis * ed * ec - chg * 65536 * 65536).fdiv (65536 * ec * powScale) } }
  if f = 65536 then d
  else ((allChans d).filter (fun c => decide (pst d (portOf d c) = psActive))).foldl (fun d c => netBound d c f) d

/-! ### Tones (R154) -/

/-- The phase of a tone in the frame of tick k. -/
def tonePhase (d : Dev) (s t : Nat) : Nat :=
  (rd d (Reg.CHAN_TONE_INC_INC s t) * (d.k + 2) + rd d (Reg.CHAN_TONE_AMP_PHASE0 s t) * 65536) % 2 ^ 32

/-- I_TONE of a channel, Q20, at the full scale of the range the frame carries. -/
def toneI (d : Dev) (c : Nat) : Int :=
  match groupOf d c with
  | none => 0
  | some g =>
    if regFlag d c 12 then
      let s := rd d (Reg.CHAN_REGCFG_TONE_SET g.group)
      let fs : Int := iFs d c (rng d c).cur
      let sum := (List.range 8).foldl (fun (a : Int) t =>
        if rd d (Reg.CHAN_TONE_INC_INC s t) = 0 then a
        else a + rd d (Reg.CHAN_TONE_AMP_AMP s t) * (trig (tonePhase d s t)).2) 0
      roundDiv (sum * fs * q20) (10000 * trigOne)
    else 0

/-! ### The slots (R83) -/

/-- The bytes of a channel slot. -/
def slotBytes (sp : Int) (mode relay : Nat) (pert : Bool) (range : Nat) : List Byte :=
  natBE 3 (ofS 24 sp) ++ [BitVec.ofNat 8 (mode * 16 + relay * 4 + 2 * b2n pert), BitVec.ofNat 8 (range * 32)]

/-- The slot `MODE` and `RELAY` a channel's HOT state asks for; a code that R83 leaves undefined is IDLE with `RELAY` OPEN
(R234). -/
def slotCodes (d : Dev) (c : Nat) : Nat × Nat :=
  let b := hot d c 0x70 1
  let m := bits b 0 4
  let r := bits b 4 2
  if 2 < m ∨ r = 3 then (0, 0) else (m, r)

/-- `TONE_CLIP` in a frame of an impedance window, that of its last tick among them (R198). -/
def toneClip (d : Dev) (c : Nat) : Dev :=
  let f := fun (w : GWin) => if w.kind = 3 ∧ (w.live ∨ (w.closed = some gOK ∧ w.closeK = d.k)) then { w with clip := true } else w
  setGradeCh d c (fun g => { g with a := f g.a, b := f g.b })

/-- Form a channel's slot from its base current and tones, and keep what follows of it. -/
def makeSlot (d : Dev) (c : Nat) : List Byte × Dev :=
  let fs : Int := iFs d c (rng d c).cur
  let (m, r) := slotCodes d c
  let t := toneI d c
  let d := hotWS d c 0x68 8 t
  let sum := baseI d c + t
  let cut := max (-(fs * q20)) (min (fs * q20) sum)
  let d := setRegFlag d c 13 (decide (cut ≠ sum))
  let d := if cut = sum then d else toneClip d c
  let sp := if m = 1 ∧ fs ≠ 0 then satS 24 (roundDiv (cut * 2 ^ 23) (fs * q20)) else 0
  let pert := bit (hot d c 0x70 1) 6
  let was := (port d (portOf d c)).slots.getD (idxOf d c) []
  let d := setRegCh d c (fun x => { x with toned := regFlag d c 12 })
  let d := setRng d c (fun x => if x.sw ∧ x.swTick = d.k then
    { x with cmdI := sp, prevI := slotSet was * iFs d c x.old, pert := pert } else x)
  (slotBytes sp m r pert (rng d c).cur, d)

/-- The slot that a repeated entry of the frame carries: that of the last frame since link-up (R20). Where none was sent yet
it is IDLE with `RELAY` OPEN in the range in force (R77, R109). -/
def repeatSlot (d : Dev) (p i c : Nat) : List Byte :=
  ((port d p).slots[i]?).getD (slotBytes 0 0 0 false (rng d c).cur)

/-- The slots of a port's frame: those of its channels, repeated where their group is incomplete, and IDLE with `RELAY` OPEN
beyond them (R77). -/
def portSlots (d : Dev) (p : Nat) : Dev :=
  let n := if rd d (Reg.FLOE_STAT_VER p) = 1 then 16 else 32
  let cs := portChans d p
  let r := (List.range n).foldl (fun (a : List (List Byte) × Dev) i =>
    match cs[i]? with
    | some c =>
      if repeats a.2 c then (a.1 ++ [repeatSlot a.2 p i c], a.2)
      else
        let x := makeSlot a.2 c
        (a.1 ++ [x.1], x.2)
    | none => (a.1 ++ [[0, 0, 0, 0, 0]], a.2)) ([], d)
  setPort r.2 p (fun q => { q with nextSlots := r.1 })

/-- The ports that get a command frame: those in ACTIVE or LOST (R83). -/
def framePorts (d : Dev) : List Nat := (mappedPorts d).filter (fun p => pst d p == psActive || pst d p == psLost)

/-! ### Command assembly -/

/-- Grading where kernel 0x03 is not bound for a channel in this phase (R229). -/
def skipAnalytics (d : Dev) : Dev :=
  let now := (img d).sched.filter (fun r => r.window == 1 && r.kernel == 3 && bit r.phases (d.k % 20))
  ((allChans d).filter (fun c => (match groupOf d c with
    | some g => !(incGroups d).contains g.group
    | none => false) && !now.any (fun r => decide (r.first ≤ c ∧ c < r.first + r.num)))).foldl analyticsSkipped d

/-- From Tk + 40 to Tk + 44 µs. -/
def assemble (d : Dev) : Dev :=
  if inBoot d ∨ ¬(d.phase = 2 ∨ d.phase = 3) then d
  else
    let d := skipAnalytics (rollbackAll (closeControl d))
    let d := asmOverrides (peerOrders d)
    let cs := allChans d
    let live := cs.filter (fun c => decide (pst d (portOf d c) = psActive))
    let d := cs.foldl rangeSelect d
    let d := live.foldl (fun d c => if repeats d c then d else rangeCut (userLimit d c) c) d
    let d := netting d
    let d := (framePorts d).foldl portSlots d
    let d := barrierCheck d
    let d := if d.k % 20 = 19 then netPublish d else d
    { d with phase := 4 }

/-- COMMAND_ASSEMBLY. -/
def execCommandAssembly (s : State) : Host.Outcome State Fault Refusal := .next { s with d := assemble s.d }

/-! ### Tk + 44 µs -/

/-- Whether the device sends command frames in this tick: not once its lanes are off after an entry into dormancy (R460),
not before it is ENGAGED (R396), and not in a safe state beside a partner that runs alone (R399). -/
def sendsFrames (d : Dev) : Bool :=
  (match d.pwr.entryK with | some b => decide (d.k ≤ b) | none => true) &&
  !(isStandby d && (pstate d == psJOINING || pstate d == psDETACHED)) && !d.sch.quiet

/-- The command frame of a port (R83). -/
def cmdFrame (d : Dev) (p : Nat) (slots : List (List Byte)) : List Byte :=
  withCrc ([0x02, BitVec.ofNat 8 (rankBits d)] ++ natBE 2 (d.k % 65536) ++
    [BitVec.ofNat 8 (rd d (Reg.FLOE_STAT_VER p)), BitVec.ofNat 8 slots.length, 0, 0] ++ slots.flatten)

/-- Send one port's frame. A LOST port's slots, and every slot in safe state or at the entry into dormancy, are IDLE with
`RELAY` OPEN (R83, R314, R460). -/
def sendFrame (d : Dev) (p : Nat) : Dev :=
  let q := port d p
  let n := if rd d (Reg.FLOE_STAT_VER p) = 1 then 16 else 32
  let idle := inSafe d || d.pwr.entryK.isSome || pst d p == psLost
  let next := if q.nextSlots.isEmpty then List.replicate n [0, 0, 0, 0, 0] else q.nextSlots
  let slots := if idle then next.map idleSlot else next
  let d := setPort d p (fun q => { q with prevSlots := q.slots, slots := slots, nextSlots := [] })
  setPort d p (fun q => { q with txCmd := cmdFrame d p slots })

/-- The last command of every channel in its HOT segment (R126): the slot's bytes. -/
def noteSlots (d : Dev) (p : Nat) : Dev :=
  ((portChans d p).zipIdx).foldl (fun d (c, i) =>
    let b := (port d p).slots.getD i []
    hotW d c 0x038 8 (leAt b 0 5)) d

/-- The tick-overrun events of the incomplete groups: one a group, with the engines its work was incomplete on and why
(R20, R306). -/
def overruns (d : Dev) : Dev :=
  (incGroups d).foldl (fun d g =>
    let xs := d.inc.filter (fun x => x.1 == g)
    let mask := xs.foldl (fun m x => m ||| 2 ^ x.2.1) 0
    raise d Src.GRP_OVERRUN 4 g mask ((xs.head?.map (fun x => x.2.2)).getD 0)) d

/-- At Tk + 44 µs. -/
def frameSend (d : Dev) : Dev :=
  if inBoot d ∨ d.phase ≠ 4 then d
  else
    let d := if sendsFrames d then
        let ps := (framePorts d).filter (mayTalk d)
        ps.foldl noteSlots (ps.foldl sendFrame d)
      else d
    let d := gapTrip (icefallEnd d)
    let d := schSlack (overruns d)
    { d with phase := 5, tri := { d.tri with doneEv := some d.k } }

/-- COMMAND_FRAME_SEND. -/
def execCommandFrameSend (s : State) : Host.Outcome State Fault Refusal := .next { s with d := frameSend s.d }

end Sys2Proof.Machine
end

