-- ==== Sys2Proof/Machine/Boot.lean ====
section
/-!
DEFINITION. Resets, the start-up sequence, the memory self-test's outcome and secure boot (R473 to R486, R495, R534, R538).
-/
namespace Sys2Proof.Machine

/-! ### Resets -/

/-- The fuse writes of a transition, completed (R494, R495). `seed` is the internal random source. -/
def finishFuses (f : Fuses) (seed : Nat) : Fuses :=
  let g := { f with state := f.target, target := 0, trans := min 16 (f.trans + 1), newBoot := [], newFirn := [] }
  if f.target = 1 then { g with bootKeys := f.newBoot, firnKeys := f.newFirn, seed := seed % 2 ^ 256 } else g

/-- A reset has been released and the sequence begins (R475 step 1): an interrupted life-cycle transition is completed, and
the start-up then has the life-cycle source and what it retains (R473, R495). Internal scan ends through a power-on reset
alone (R497). -/
def startUp (s : State) (cause : Nat) (calve rank : Bool) : State :=
  let d := s.d
  if d.boot.scan ∧ cause ≠ 0 then s
  else if s.nv.fuse.target ≠ 0 then
    let f := finishFuses s.nv.fuse (freeVal d)
    let x := wrB (freshDev (useFree d) false 0 false) Reg.PWR_STAT_CLK_RC true
    { s with nv := { s.nv with fuse := f }, d := beginUp x f 3 calve rank {} }
  else if cause = 0 then
    { s with d := beginUp (wrB (freshDev d false 0 false) Reg.PWR_STAT_CLK_RC true) s.nv.fuse 0 calve rank {} }
  else
    let banks := rd d Reg.PWR_RETAIN_BANKS
    let keep := rd d Reg.PWR_STAT_DOM_ON &&& (1 + 2 * banks)
    let x := freshDev d true banks true
    let x := wrB (wr (wr x Reg.PWR_STAT_DOM_ON keep) Reg.PWR_STAT_STATE 0) Reg.PWR_STAT_CLK_RC true
    let x := { x with pwr := { x.pwr with faultKeep := none, timer := 0 } }
    { s with d := beginUp x s.nv.fuse cause calve rank {} }

/-- Whether the device is held in power-on reset. -/
def inPor (d : Dev) : Bool := d.boot.step == 0 && rd d Reg.PWR_STAT_STATE != 2

/-- POWER_ON_RESET: every rail has been above its threshold for 2 ms (R534); a hold of R538 goes on. -/
def execPowerOnReset (calve rank : Bool) (s : State) : Host.Outcome State Fault Refusal :=
  .next (if s.d.boot.tjHold then s else startUp s 0 calve rank)

/-- The device in power-on reset. -/
def porHold (d : Dev) (tj : Bool) : Dev :=
  let d := freshDev d false 0 false
  { d with boot := { d.boot with tjHold := tj } }

/-- SUPPLY_FALL: a rail has fallen through its threshold (R534). -/
def execSupplyFall (s : State) : Host.Outcome State Fault Refusal := .next { s with d := porHold s.d s.d.boot.tjHold }

/-- TJ_HOLD_RELEASE: Tj has fallen below 120 °C (R538). -/
def execTjHoldRelease (calve rank : Bool) (s : State) : Host.Outcome State Fault Refusal :=
  .next (if s.d.boot.tjHold then startUp s 0 calve rank else s)

/-- RST_N_RESET: `RST_N` has been low for 1 µs; the straps are those at its release. -/
def execRstNReset (calve rank : Bool) (s : State) : Host.Outcome State Fault Refusal :=
  .next (if inPor s.d then s else startUp s 1 calve rank)

/-- LCY_RESET: 0xD1E5 starts a software reset. -/
def execLcyReset (req : Requester) (w : Nat) (calve rank : Bool) (s : State) : Host.Outcome State Fault Refusal :=
  let addr := 0x1010801C
  let e := accessErr s.d req addr true
  .next (if e ≠ 0 then { s with d := notServed s.d req addr e true }
    else if bits w 0 16 = 0xD1E5 then startUp s 2 calve rank
    else { s with d := okResp s.d })

/-! ### Memory tests and wipes (R476 to R481) -/

/-- The failure record's bytes (R480). -/
def failBytes (r : FailRec) (cause : Nat) : List Byte :=
  let head := [1, r.mem, r.phase, r.element].map (BitVec.ofNat 8)
  let body := head ++ natBE 4 r.addr ++ natBE 8 r.failBits ++ [BitVec.ofNat 8 r.eccBits, BitVec.ofNat 8 (min r.nfail 255), 0, 0]
  let body := body ++ natBE 4 r.sigExp ++ natBE 4 r.sigAct ++ [BitVec.ofNat 8 cause] ++ List.replicate 31 0
  body ++ natBE 4 (crc32c body)

/-- Write the failure record. -/
def putFail (d : Dev) (r : FailRec) : Dev :=
  let b := failBytes r d.boot.cause
  (List.range 16).foldl (fun d i => wr d (Reg.BIST_REC_BYTES i) (beAt b (4 * i) 4)) d

/-- The device is held in reset by a start-up failure (R477). -/
def holdReset (d : Dev) (r : FailRec) : Dev :=
  let d := putFail d r
  let keep := 1 + 2 * rd d Reg.PWR_RETAIN_BANKS + 0x8000
  let d := wr d Reg.PWR_STAT_DOM_ON (rd d Reg.PWR_STAT_DOM_ON &&& keep)
  { d with boot := { d.boot with held := true } }

/-- A start-up step ends: the next step begins, or the device is held in reset. -/
def stepEnd (d : Dev) (step : Nat) (fail : Option FailRec) (act : Dev → Dev) : Dev :=
  if d.boot.step = step ∧ d.boot.held = false then
    match fail with
    | some r => holdReset d r
    | none => let d := act d; { d with boot := { d.boot with step := step + 1 } }
  else d

/-- MEMORY_SELF_TEST_DONE: step 3, which has taken `us` µs. -/
def execMemorySelfTestDone (us : Nat) (fail : Option FailRec) (s : State) : Host.Outcome State Fault Refusal :=
  let d := if s.d.boot.step = 3 ∧ s.d.boot.held = false then wr s.d Reg.BIST_STARTUP_US_US us else s.d
  .next { s with d := stepEnd d 3 fail (fun d => wrB d Reg.BIST_STAT_STARTUP_PASS true) }

/-- SRAM_WIPE_DONE: step 4. -/
def execSramWipeDone (s : State) : Host.Outcome State Fault Refusal := .next { s with d := stepEnd s.d 4 none id }

/-- What training outside the supported set finds: no size, or more than 32 GiB, is no supported memory (R7). -/
def dramUnsupported (size : Nat) : Option FailRec := if size = 0 ∨ 32 < size then some ⟨0, 0, 0, 0, 0, 0, 0, 0, 0⟩ else none

/-- DRAM_TRAINING_DONE: step 5, which finds the populated size in GiB; a failure has phase DRAM (R475), and an unsupported
memory fails (R7). -/
def execDramTrainingDone (size : Nat) (fail : Option FailRec) (s : State) : Host.Outcome State Fault Refusal :=
  let f := (fail.or (dramUnsupported size)).map (fun r => { r with mem := 0xF0, phase := 7, element := 0 })
  .next { s with d := stepEnd s.d 5 f (fun d => wrB (wr d Reg.DRC_STAT_SIZE size) Reg.DRC_STAT_TRAINED true) }

/-- DRAM_WIPE_DONE: step 6; a failure has phase WIPE. -/
def execDramWipeDone (fail : Option FailRec) (s : State) : Host.Outcome State Fault Refusal :=
  let f := fail.map (fun r => { r with mem := 0xF0, phase := 8, element := 0 })
  .next { s with d := stepEnd s.d 6 f id }

/-! ### Secure boot (R482 to R486) -/

/-- A flash byte; erased flash reads 0xFF. -/
def flashByte (nv : Nv) (a : Nat) : Byte := ~~~ (Memory.readByte nv.flash a)

/-- Flash bytes from an offset. -/
def flashRead (nv : Nv) (a n : Nat) : List Byte := (List.range n).map (fun i => flashByte nv (a + i))

/-- A copy that has passed: its load address, code, entry, rollback version and start-up image. -/
structure BootImg where
  load : Nat
  code : List Byte
  entry : Nat
  version : Nat
  firnOfs : Nat
  firnLen : Nat

/-- The signing key a boot header names: the fused, unrevoked slot (R483 step 3). -/
def bootKey (f : Fuses) (slot : Nat) : Option (Nat × Nat) :=
  if slot < 4 ∧ bit f.bootRev slot = false then f.bootKeys.getD slot none else none

/-- The checks of R483 on a header and the code that `codeAt` reads, against a key chosen by slot: the code of the first
failure, or the image. -/
def checkBoot (hdr : List Byte) (codeAt : Nat → List Byte) (key : Nat → Option (Nat × Nat)) (rollback limit : Nat) :
    Except Nat BootImg :=
  let len := leAt hdr 8 4
  let load := leAt hdr 12 4
  let entry := leAt hdr 16 4
  if leAt hdr 0 4 ≠ 0x544F4F42 ∨ leAt hdr 4 2 ≠ 1 ∨ leAt hdr 28 4 ≠ 0 ∨ leAt hdr 176 16 ≠ 0 then .error 1
  else if len < 8 ∨ 0x300000 < len ∨ len % 8 ≠ 0 ∨ load % 8 ≠ 0 ∨ limit < load + len ∨ entry < load ∨ load + len ≤ entry then
    .error 2
  else match key (leAt hdr 6 1) with
    | none => .error 3
    | some k =>
      if leAt hdr 7 1 < rollback then .error 4
      else if !ecdsaVerify k (hdr.take 80) (beAt hdr 80 48) (beAt hdr 128 48) then .error 5
      else
        let code := codeAt len
        if sha384 code ≠ sub hdr 32 48 then .error 6
        else .ok ⟨load, code, entry, leAt hdr 7 1, leAt hdr 20 4, leAt hdr 24 4⟩

/-- A copy of the boot flash; `ok` says whether the flash answered. -/
def checkCopy (nv : Nv) (d : Dev) (ofs : Nat) (ok : Bool) : Except Nat BootImg :=
  if nv.fuse.state ≠ 1 ∧ nv.fuse.state ≠ 2 then .error 8
  else if !ok then .error 7
  else checkBoot (flashRead nv ofs 192) (flashRead nv (ofs + 192)) (bootKey nv.fuse) nv.fuse.rollback
    (if isCalved d then 0x100000 else 0x400000)

/-- The verdict passes: the triad starts at the entry, `FAULT_N` is released, and the start-up image, where there is one,
goes to the loader (R474, R475 step 8, R485; log entry 47). -/
def bootPass (d : Dev) (nv : Nv) (b : BootImg) : Dev :=
  let cores := if isCalved d then [0] else [0, 1, 2]
  let tri := { d.tri with
    tcm := Memory.writeList d.tri.tcm b.load b.code,
    running := cores,
    pc := cores.foldl (fun m c => SMap.set 0 m c b.entry) d.tri.pc }
  let d := { d with tri := tri, bootOk := true }
  let d := { d with boot := { d.boot with step := 8, halted := false, version := b.version } }
  let d := { d with pwr := { d.pwr with faultKeep := none } }
  if b.firnLen = 0 then d
  else
    let v : Verif := ⟨3, flashRead nv b.firnOfs (min b.firnLen (2 ^ 23 - 1)), b.firnLen⟩
    wrB { d with firn := { d.firn with verif := some v } } Reg.FIRN_STAT_BUSY true

/-- Secure boot on copy A, then on copy B. -/
def bootVerdict (d : Dev) (nv : Nv) (okA okB : Bool) : Dev :=
  if d.boot.step = 7 ∧ d.boot.held = false ∧ d.boot.halted = false then
    match checkCopy nv d 0 okA with
    | .ok b => bootPass (wr d Reg.BIST_STAT_BOOT_CODE 0) nv b
    | .error a =>
      match checkCopy nv d 0x400000 okB with
      | .ok b =>
        let d := wrB (wr d Reg.BIST_STAT_BOOT_CODE a) Reg.BIST_STAT_COPY_B true
        raise (bootPass d nv b) Src.BOOT_COPY_B 0 0 a 0
      | .error e =>
        let d := wr d Reg.BIST_STAT_BOOT_CODE (a + 16 * e)
        { d with boot := { d.boot with halted := true } }
  else d

/-- BOOT_VERDICT. -/
def execBootVerdict (okA okB : Bool) (s : State) : Host.Outcome State Fault Refusal :=
  .next { s with d := bootVerdict s.d s.nv okA okB }

end Sys2Proof.Machine
end

