-- ==== Sys2Proof/Machine/Triad.lean ====
section
/-!
DEFINITION. The triad (chapter 12) but for the transactions themselves: voting, core faults, re-integration, the TCM and
its scrubber, the MPU, calved start, debug and the watchdog.
-/
namespace Sys2Proof.Machine

/-! ### The voter (R280 to R284) -/

/-- The source of a core's mismatch. -/
def srcMism (c : Nat) : Nat := 0x10 + c

/-- The cores that are not fenced. -/
def freeCores (d : Dev) : List Nat := (List.range 3).filter (fun c => !rdFBit d Reg.TRI_STAT_FENCED c)

/-- The kind of difference between two copies: the first differing field (log entry 48). -/
def copyDiff (a b : BusOp) : Nat := if a.addr ≠ b.addr then 0 else if a.data ≠ b.data then 1 else if a.be ≠ b.be then 2 else 3

/-- A core is fenced by the voter or by its own checks, and the event raised (R280, R284, R306). -/
def mismatch (d : Dev) (c kind addr : Nat) : Dev := raise (coreFence d c kind addr) (srcMism c) 7 c (kind + 16 * c) addr

/-- An event of R283: from it until reset no transaction is performed. -/
def triadFatal (d : Dev) (src kind core addr : Nat) : Dev :=
  let d := { d with mor := { d.mor with noTriad := true } }
  raise d src 0 0 (kind + 16 * core) addr

/-- What the voter decides: the transaction to perform, if any, and the device after its fences and events. The comparison of
the two voters runs in each clock, also where no core presents a transaction (R281). -/
def vote (d : Dev) (copies : List (Option BusOp)) (voterOk : Bool) : Option BusOp × Dev :=
  let addr0 := ((copies.getD 0 none).map (·.addr)).getD 0
  let u := freeCores d
  let cp := fun c => copies.getD c none
  let some_ := u.filter (fun c => (cp c).isSome)
  if d.mor.noTriad then (none, d)
  else if !voterOk then (none, triadFatal (useFree d) Src.TRI_VOTER_CMP (freeVal d % 16) 0 addr0)
  else if some_.isEmpty then (none, d)
  else if u.length < 3 then
    let a := u.getD 0 0
    let b := u.getD 1 0
    match cp a, cp b with
    | some x, some y =>
      if x = y then (some x, d) else (none, triadFatal d Src.TRI_DUPLEX_MISM (copyDiff x y) b addr0)
    | some _, none => (none, triadFatal d Src.TRI_DUPLEX_MISM 4 b addr0)
    | _, _ => (none, triadFatal d Src.TRI_DUPLEX_MISM 4 a addr0)
  else match u.find? (fun c => u.any (fun e => e != c && cp e == cp c)) with
    | none =>
      let d := wr d Reg.TRI_MISM_LAST_KIND 7
      (none, triadFatal (wr d Reg.TRI_MISM_ADDR_ADDR addr0) Src.TRI_THREE_WAY 7 0 addr0)
    | some m =>
      match u.find? (fun c => cp c != cp m) with
      | none => (cp m, d)
      | some c =>
        match cp m, cp c with
        | some x, some y => (some x, mismatch d c (copyDiff x y) x.addr)
        | some x, none => (some x, mismatch d c 4 x.addr)
        | none, y => (none, mismatch d c 5 (if addr0 = 0 then (y.map (·.addr)).getD 0 else addr0))

/-- A parity error in a core (R284, R295). -/
def coreParity (d : Dev) (c : Nat) : Dev :=
  if decide (2 < c) || rdFBit d Reg.TRI_STAT_FENCED c then d
  else if triCfg d = 1 then triadFatal d Src.TRI_DUPLEX_MISM 6 c 0
  else mismatch d c 6 0

/-- CORE_PARITY_ERROR. -/
def execCoreParityError (core : Nat) (s : State) : Host.Outcome State Fault Refusal := .next { s with d := coreParity s.d core }

/-! ### Re-integration (R286 to R288) -/

/-- Whether a fenced core may be re-integrated: at a tick edge (R286), so with the tick's commit point still to come (R289). -/
def mayReintegrate (d : Dev) (c : Nat) : Bool :=
  d.phase == 0 && decide (c < 3) && rdFBit d Reg.TRI_STAT_FENCED c && triCfg d == 1 && rdB d Reg.TRI_CTRL_REINT_EN &&
  decide (SMap.get 0 d.tri.fenceK c + rd d Reg.TRI_REINT_CFG_DELAY ≤ d.k) &&
  rd d (Reg.MOR_SRC_CFG_CLASS (srcMism c)) == 1 && !rdBit d Reg.MOR_ESC_SRC (srcMism c) &&
  !rdB d Reg.TRI_DBG_STAT_HALTED && !d.tri.reintBad.contains c && !d.mor.noTriad

/-- Re-integration of core `c`: `equal` says whether the two source cores agree, `fail` is 0, 1 for a read-back that
differs, 2 for a failed self-check. -/
def reintegrate (d : Dev) (c : Nat) (equal : Bool) (fail : Nat) : Dev :=
  if !mayReintegrate d c then d
  else if !equal then triadFatal d Src.TRI_DUPLEX_MISM 6 ((freeCores d).getD 0 0) 0
  else if fail ≠ 0 then
    let d := incSatPart (wrB d Reg.TRI_STAT_REINT_FAIL true) Reg.TRI_REINT_CNT_CNT 16 16 1
    let d := { d with tri := { d.tri with reintBad := c :: d.tri.reintBad } }
    raise d Src.TRI_REINT_FAIL 7 c fail 0
  else
    let src := (freeCores d).getD 0 0
    let d := wrFBit d Reg.TRI_STAT_FENCED c false
    let d := wr (wr d Reg.TRI_STAT_CONFIG 0) Reg.SYS_PROPS_TRIAD 0
    let d := incSatPart (wrB d Reg.TRI_STAT_REINT_EV true) Reg.TRI_REINT_CNT_CNT 0 16 1
    let d := if c = 0 then wrB d Reg.TRI_DBG_STAT_NO_CORE0 false else d
    let fs := SMap.set [] d.mor.fencers (7 * 4096 + c) []
    let d := { setFence d 7 c false with mor := { d.mor with fencers := fs } }
    let pcs := SMap.set 0 d.tri.pc c (SMap.get 0 d.tri.pc src)
    let regs := (List.range 256).foldl (fun m i => SMap.set 0 m (256 * c + i) (SMap.get 0 m (256 * src + i))) d.tri.cores
    { d with tri := { d.tri with running := c :: d.tri.running, pc := pcs, cores := regs } }

/-- REINTEGRATION. -/
def execReintegration (core : Nat) (equal : Bool) (fail : Nat) (s : State) : Host.Outcome State Fault Refusal :=
  .next { s with d := reintegrate s.d core equal fail }

/-! ### The TCM (R290, R291, R295) -/

/-- Write a word of the TCM. -/
def tcmPut (d : Dev) (addr w : Nat) : Dev := { d with tri := { d.tri with tcm := Memory.writeLE d.tri.tcm addr 4 w } }

/-- An uncorrectable error in the 64-bit word at an address. -/
def tcmUe (d : Dev) (addr : Nat) : Dev :=
  let a := addr / 8 * 8
  let d := incSatPart d Reg.TRI_TCM_ECC_CNT 16 16 1
  let d := wrB (wr d Reg.TRI_TCM_UE_ADDR_ADDR a) Reg.TRI_STAT_TCM_UE_EV true
  let d := { d with tri := { d.tri with bad := a :: d.tri.bad.erase a } }
  raise d Src.TRI_TCM_UE 0 0 a 0

/-- The scrubber reads its next word: `flaw` is 0, 1 for a corrected error, 2 for an uncorrectable one. -/
def tcmScrub (d : Dev) (flaw : Nat) : Dev :=
  if !rdB d Reg.TRI_SCRUB_EN then d
  else
    let a := d.tri.scrub
    let d := if flaw = 0 then d else if flaw = 1 then incSatPart d Reg.TRI_TCM_ECC_CNT 0 16 1 else tcmUe d a
    let n := a + 8
    if n = 0x400000 then
      incWrap { d with tri := { d.tri with scrub := 0 } } Reg.TRI_SCRUB_PASS 1
    else { d with tri := { d.tri with scrub := n } }

/-- TCM_SCRUB. -/
def execTcmScrub (flaw : Nat) (s : State) : Host.Outcome State Fault Refusal := .next { s with d := tcmScrub s.d flaw }

/-- A host write to the TCM (R291); before the boot verdict only where R492 lets the host write a boot image (R504). -/
def tcmHostWrite (d : Dev) (req : Requester) (addr w : Nat) : Dev :=
  let st := rd d Reg.LCY_STATE_STATE
  if !d.bootOk then
    if d.boot.halted ∧ (st = 0 ∨ st = 3) ∧ addr % 4 = 0 ∧ addr < 0x400000 then okResp (tcmPut d addr w)
    else errResp d req addr errBoot true
  else if addr % 4 ≠ 0 then errResp d req addr errAlign true
  else if 0x400000 ≤ addr then errResp d req addr errUnmapped true
  else
    let hostw := match mpuRegion d 0 addr with
      | some r => rdB d (Reg.TRI_MPU_ATTR_HOSTW r)
      | none => false
    if !hostw || (isStandby d && !d.apply) then refuseW d req addr
    else if isActive d && !d.apply then okResp { d with hostCyc := d.hostCyc ++ [.tcm addr w] }
    else okResp (tcmPut d addr w)

/-- TCM_HOST_WRITE. -/
def execTcmHostWrite (addr w : Nat) (s : State) : Host.Outcome State Fault Refusal :=
  .next { s with d := tcmHostWrite s.d .host addr w }

/-! ### Calved start (R295) -/

/-- A write of `TRI_CALVE_START`: core 0 releases cores 1 and 2. -/
def calveStart (d : Dev) (req : Requester) (w : Nat) : Dev :=
  regAccess d req 0x1003004C w (fun d =>
    if isCalved d && req == .triad then
      okResp (([1, 2].filter (fun c => bit w c && !d.tri.running.contains c && !rdFBit d Reg.TRI_STAT_FENCED c)).foldl (fun d c =>
        { d with tri := { d.tri with
            running := d.tri.running ++ [c],
            pc := SMap.set 0 d.tri.pc c (rd d (Reg.TRI_CALVE_ENTRY_ADDR (c - 1))) } }) d)
    else okResp d)

/-- TRI_CALVE_START. -/
def execTriCalveStart (req : Requester) (w : Nat) (s : State) : Host.Outcome State Fault Refusal :=
  .next { s with d := calveStart s.d req w }

/-! ### Debug (R296 to R298, R496) -/

/-- Whether R297 refuses a halt, step or register write. -/
def debugRefused (d : Dev) : Bool :=
  (zones d).any (fun z => zmode d z == modeProduction) || role d != 0 || rdFBit d Reg.TRI_STAT_FENCED 0

/-- A debugger action by a register write. While core 0 is fenced no action is served, a resume neither (R297); a refused one
has no effect but its flag, its error response and the log (R12). -/
def debugAct (d : Dev) (req : Requester) (addr w : Nat) (guarded : Bool) (act : Dev → Dev) : Dev :=
  regAccess d req addr w (fun d =>
    if !debugPermitted d then refuseW d req addr
    else if (guarded && debugRefused d) || rdFBit d Reg.TRI_STAT_FENCED 0 then
      refuseW (wrB d Reg.TRI_DBG_STAT_REFUSED true) req addr
    else
      let d := okResp d
      act { d with tri := { d.tri with replay := true, step := false } })

/-- The cores have run: their registers hold free values, at a new place. -/
def coresRun (d : Dev) : Dev := { useFree d with tri := { d.tri with cores := [], runs := d.free } }

/-- The cores halt at the same instruction. -/
def dbgHalt (d : Dev) : Dev := if rdB d Reg.TRI_DBG_STAT_HALTED then d else coresRun (wrB d Reg.TRI_DBG_STAT_HALTED true)

/-- HALT. -/
def execHalt (req : Requester) (w : Nat) (s : State) : Host.Outcome State Fault Refusal :=
  .next { s with d := debugAct s.d req 0x10030050 w true dbgHalt }

/-- The cores run on. -/
def dbgGo (d : Dev) : Dev := coresRun (wrB d Reg.TRI_DBG_STAT_HALTED false)

/-- DBG_RESUME. -/
def execDbgResume (req : Requester) (w : Nat) (s : State) : Host.Outcome State Fault Refusal :=
  .next { s with d := debugAct s.d req 0x10030050 w false dbgGo }

/-- One instruction of the cores, whose instruction set the spec does not give: its transactions are the sender's, and are
performed until the debugger's next action (log entry 49). -/
def dbgStepOne (d : Dev) : Dev :=
  let d := coresRun d
  { d with tri := { d.tri with step := true } }

/-- DBG_STEP. -/
def execDbgStep (req : Requester) (w : Nat) (s : State) : Host.Outcome State Fault Refusal :=
  .next { s with d := debugAct s.d req 0x10030050 w true dbgStepOne }

/-- A register write replayed to every running core. -/
def dbgRegWrite (d : Dev) (w : Nat) : Dev :=
  let n := rd d Reg.TRI_DBG_REG_SEL_REG
  let m := d.tri.running.foldl (fun m c => SMap.set 0 m (256 * c + n) (w % 2 ^ 32)) d.tri.cores
  wr { d with tri := { d.tri with cores := m } } Reg.TRI_DBG_REG_DATA_DATA w

/-- DBG_REG_WRITE. -/
def execDbgRegWrite (req : Requester) (w : Nat) (s : State) : Host.Outcome State Fault Refusal :=
  .next { s with d := debugAct s.d req 0x1003005C w true (fun d => dbgRegWrite d w) }

/-! ### The watchdog and the mismatch counts (R299, R301) -/

/-- A write of `TRI_WDOG_KICK`. -/
def wdogKick (d : Dev) (req : Requester) (w : Nat) : Dev :=
  regAccess d req 0x10030020 w (fun d =>
    let d := okResp d
    if rd d Reg.TRI_WDOG_CFG_PERIOD = 0 then d
    else if bits w 0 16 = 0xA55A then { d with tri := { d.tri with kickK := d.k } }
    else raise (wrB d Reg.TRI_STAT_WDOG_EV true) Src.TRI_WDOG 0 0 1 (bits w 0 16))

/-- TRI_WDOG_KICK. -/
def execTriWdogKick (req : Requester) (w : Nat) (s : State) : Host.Outcome State Fault Refusal :=
  .next { s with d := wdogKick s.d req w }

/-- A period has passed without a kick. -/
def wdogTimeout (d : Dev) : Dev :=
  let p := rd d Reg.TRI_WDOG_CFG_PERIOD
  if p ≠ 0 ∧ d.tri.kickK + p ≤ d.k then
    let d := { d with tri := { d.tri with kickK := d.k } }
    raise (wrB d Reg.TRI_STAT_WDOG_EV true) Src.TRI_WDOG 0 0 0 0
  else d

/-- WDOG_TIMEOUT. -/
def execWdogTimeout (s : State) : Host.Outcome State Fault Refusal := .next { s with d := wdogTimeout s.d }

/-- MISM_CLR: only triad transactions write `TRI_CTRL` (R293). -/
def mismClr (d : Dev) (req : Requester) (w : Nat) : Dev :=
  let addr := 0x10030000
  regAccess d req addr w (fun d =>
    if !isTriad req then refuseW d req addr
    else wr (writeFields d req addr w) Reg.TRI_MISM_CNT_CNT 0)

/-- MISM_CLR. -/
def execMismClr (req : Requester) (w : Nat) (s : State) : Host.Outcome State Fault Refusal := .next { s with d := mismClr s.d req w }

end Sys2Proof.Machine
end

