-- ==== Sys2Proof/Machine/LifeCycle.lean ====
section
/-!
DEFINITION. Online and host-requested self-tests (R487 to R490), the life-cycle commands (R484, R491 to R495, R499), the
boundary-scan instructions and TESTMODE (R496, R497).
-/
namespace Sys2Proof.Machine

/-! ### Online slices (R487, R488) -/

/-- Words of a memory that a slice could not restore: uncorrectable errors of their owner, here the TCM, the HOT store and
the ledger cache, the words by their device-space addresses. -/
def sliceLost (d : Dev) (mem : Nat) (lost : List Nat) : Dev :=
  lost.foldl (fun d a =>
    if mem = 0 then tcmUe d a
    else if mem = 0x20 ∨ mem = 0x21 then (match ledOffset a with | some o => ledgerUe d o | none => d)
    else d) d

/-- The identity of the HOT store among the self-tested memories (R479). -/
def hotMem : Nat := 0x20

/-- The SRAMs among the self-tested memories (R479): slices skip the ROMs. -/
def sramId (mem : Nat) : Bool := decide (mem ≤ 4 ∨ (8 ≤ mem ∧ mem < 32) ∨ (0x20 ≤ mem ∧ mem ≤ 0x25))

/-- Whether a slice may run on a memory: in the slack of a tick, after the command frames (R15, R22), at most `SLICES` + 1 in
a tick and each on another memory, and none on the HOT store in a tick with a HOT capture (R136, R487). -/
def sliceMay (d : Dev) (mem : Nat) : Bool :=
  rdB d Reg.BIST_CTRL_ONLINE_EN && !inBoot d && rd d Reg.PWR_STAT_STATE == 0 && sramId mem &&
  !(d.boot.memTest == mem && mem != 0) && d.phase == 5 && !d.boot.slices.contains mem &&
  decide (d.boot.slices.length ≤ rd d Reg.BIST_CTRL_SLICES) && !(mem == hotMem && hotCapTick d)

/-- A slice of a memory has run; `last` says that it was the last slice of a pass. -/
def onlineSlice (d : Dev) (mem slice : Nat) (last : Bool) (fail : Option FailRec) (lost : List Nat) : Dev :=
  if !sliceMay d mem then d
  else
    let d := { d with boot := { d.boot with slices := mem :: d.boot.slices } }
    let d := wr (wr d Reg.BIST_ONLINE_POS_MEM mem) Reg.BIST_ONLINE_POS_SLICE slice
    let d := wrB d Reg.BIST_STAT_ONLINE_ACTIVE true
    let d := if last then incWrap d Reg.BIST_ONLINE_PASS_CNT 1 else d
    match fail with
    | none => d
    | some r =>
      let d := putFail d { r with mem := mem, phase := 5 }
      let d := incSat (wrB d Reg.BIST_STAT_ONLINE_FAIL true) Reg.BIST_FAIL_CNT_ONLINE 1
      sliceLost (raise d Src.BIST_ONLINE_FAIL 0 0 mem r.addr) mem lost

/-- BIST_ONLINE_SLICE. -/
def execBistOnlineSlice (mem slice : Nat) (last : Bool) (fail : Option FailRec) (lost : List Nat) (s : State) :
    Host.Outcome State Fault Refusal := .next { s with d := onlineSlice s.d mem slice last fail lost }

/-! ### Host-requested tests (R489, R490) -/

/-- Whether the table of self-tested memories permits a host test of a memory. -/
def hostTestable (d : Dev) (mem : Nat) : Bool :=
  if mem = 2 ∨ mem = 3 ∨ mem = 4 then !rdFBit d Reg.PWR_RETAIN_BANKS (mem - 1)
  else if 8 ≤ mem ∧ mem < 32 then ownFence d 5 (mem - 8)
  else if mem = 0x24 then
    !domOn d 11 || (!rdB d Reg.RIMEL_CTRL_EN && !rdB d Reg.RIMET_CTRL_EN && !rdB d Reg.SCH_CFG_PAIR_EN)
  else false

/-- A write of `BIST_CTRL` with `HOST_GO`. -/
def hostGo (d : Dev) (req : Requester) (w : Nat) : Dev :=
  let addr := 0x10100004
  regAccess d req addr w (fun d =>
    let mem := bits w 8 8
    let d := writeFields d req addr w
    if !hostTestable d mem || inBoot d || inSafe d || rdB d Reg.BIST_STAT_HOST_BUSY then refuseW d req addr
    else { wrB d Reg.BIST_STAT_HOST_BUSY true with boot := { d.boot with memTest := mem } })

/-- HOST_GO. -/
def execHostGo (req : Requester) (w : Nat) (s : State) : Host.Outcome State Fault Refusal :=
  .next { s with d := hostGo s.d req (setBit w 4 true) }

/-- The Rime and schrund buffers wiped: what was received, and what waits to be sent. -/
def wipeBuffers (d : Dev) : Dev :=
  let d := { d with regs := d.regs.filter (fun e => !decide (0x100A1000 ≤ e.1 / 32 ∧ e.1 / 32 < 0x100A3000)) }
  let clear := fun (c : RimeCtl) => { c with rx := [], prev := [] }
  { d with
    rime := { d.rime with
      seg := clear d.rime.seg
      trunk := clear d.rime.trunk }
    sch := { d.sch with
      inputs := []
      payload := []
      install := []
      bulk := [] } }

/-- A host test ends: the memory is wiped, and an engine is refilled from the active image. -/
def hostTestDone (d : Dev) (fail : Option FailRec) : Dev :=
  let mem := d.boot.memTest
  if !rdB d Reg.BIST_STAT_HOST_BUSY then d
  else
    let d := wrB { d with boot := { d.boot with memTest := 0 } } Reg.BIST_STAT_HOST_BUSY false
    let d := if mem < 8 then { d with neve := d.neve.filter (fun c => c.1 / 0x80000 != mem - 1) }
      else if mem < 32 then engRefill d (mem - 8)
      else wipeBuffers d
    match fail with
    | none => wrB d Reg.BIST_STAT_HOST_DONE true
    | some r =>
      let d := putFail d { r with mem := mem, phase := 6 }
      let d := incSat (wrB d Reg.BIST_STAT_HOST_FAIL true) Reg.BIST_FAIL_CNT_HOST 1
      raise d Src.BIST_HOST_FAIL 0 0 mem r.addr

/-- HOST_TEST_DONE. -/
def execHostTestDone (fail : Option FailRec) (s : State) : Host.Outcome State Fault Refusal :=
  .next { s with d := hostTestDone s.d fail }

/-- The memory that an address lies in, with its identity: a self-tested SRAM, or 0xF0 for the DRAM (R479, R480). -/
def memAt (addr : Nat) : Option Nat :=
  if addr < 0x400000 then some 0
  else if 0x01000000 ≤ addr ∧ addr < 0x01200000 then some ((addr - 0x01000000) / 0x80000 + 1)
  else if 0x02000000 ≤ addr ∧ addr < 0x02600000 ∧ addr % 0x40000 < 0x28000 then some (8 + (addr - 0x02000000) / 0x40000)
  else if 0x04000000 ≤ addr ∧ addr < 0x04200000 then some hotMem
  else if (ledOffset addr).isSome ∨ inWindow addr then some 0xF0
  else none

/-- The identity of the memory that an address lies in; 0 where it lies in none. -/
def testMem (addr : Nat) : Nat := (memAt addr).getD 0

/-- Whether an address lies in a memory that the start-up has not wiped yet (R481): an SRAM until step 4 has passed, the DRAM
until step 6 has. -/
def startTest (d : Dev) (addr : Nat) : Bool :=
  match memAt addr with
  | some m => !d.bootOk && decide (d.boot.step < (if m = 0xF0 then 7 else 5))
  | none => false

/-- Whether an address lies in a memory under a host test, or under a start-up test or wipe (R490). -/
def inTest (d : Dev) (addr : Nat) : Bool := (d.boot.memTest != 0 && testMem addr == d.boot.memTest) || startTest d addr

/-- An access to a memory under test is not performed (R490). -/
def inTestErr (d : Dev) (req : Requester) (addr : Nat) (write : Bool) : Dev :=
  let d := wr (wr d Reg.BIST_INTEST_ADDR_ADDR addr) Reg.BIST_INTEST_REQ_REQ (reqCode req)
  let d := raise (wrB d Reg.BIST_STAT_INTEST_EV true) Src.BIST_INTEST 0 0 (testMem addr) addr
  errResp d req addr errInTest write

/-! ### Life-cycle commands (R493, R499) -/

/-- A command completes, or is refused or fails with a code of `LCY_STAT`. -/
def lcyDone (d : Dev) : Dev := wrB (wr d Reg.LCY_STAT_CODE 0) Reg.LCY_STAT_DONE true
def lcyErr (d : Dev) (code : Nat) : Dev := wrB (wr d Reg.LCY_STAT_CODE code) Reg.LCY_STAT_ERR true

/-- The operand fields of a write of `LCY_CMD`. -/
def lcyArgs (d : Dev) (w : Nat) : Dev := wr (wr d Reg.LCY_CMD_TARGET (bits w 4 2)) Reg.LCY_CMD_ARG (bits w 8 8)

/-- A write of `LCY_CMD` with a command: another key ignores the write, and a locked block refuses all but the commands that
R499 leaves. `act` gives the state after the command. -/
def lcyWrite (s : State) (req : Requester) (w cmd : Nat) (act : State → State) : State :=
  let addr := 0x10108004
  let e := accessErr s.d req addr true
  if e ≠ 0 then { s with d := notServed s.d req addr e true }
  else if bits w 16 16 ≠ 0x7C1F then { s with d := okResp s.d }
  else if rdB s.d Reg.LCY_LOCK_LOCK && !([2, 3, 7, 8].contains cmd) then { s with d := lcyErr (refuseW (lcyArgs s.d w) req addr) 5 }
  else act { s with d := okResp (lcyArgs s.d w) }

/-- Change the fuses and the registers that show them, and complete. -/
def lcyFuse (s : State) (f : Fuses) : State := { s with nv := { s.nv with fuse := f }, d := lcyDone (fuseRegs s.d f) }

/-- The permitted moves (R493). -/
def movePermitted (st t : Nat) : Bool := (st == 0 && t == 1) || (st == 1 && t == 2) || ((st == 1 || st == 2) && t == 3)

/-- The authorisation token of a move to RETURNED, under some boot key that is not revoked; its fields most significant byte
first (log entry 50). -/
def tokenOk (s : State) (t : Nat) : Bool :=
  let d := s.d
  let a := rd d Reg.LCY_AUTH_ADDR
  let nonce := rd d Reg.LCY_NONCE_LO_NONCE + 2 ^ 32 * rd d Reg.LCY_NONCE_HI_NONCE
  let m := natBE 8 nonce ++ natBE 4 s.nv.fuse.serial ++ [BitVec.ofNat 8 t]
  let b := Memory.readList d.tri.tcm a 96
  (List.range 4).any (fun i => match bootKey s.nv.fuse i with
    | some k => ecdsaVerify k m (beAt b 0 48) (beAt b 48 48)
    | none => false)

/-- TRANSITION: the request is judged, and an accepted one orders the bay quench and starts the fuse writes (R494). The keys
are those of the provisioning image. -/
def lcyTransition (s : State) (t : Nat) (bootKeys firnKeys : List (Option (Nat × Nat))) : State :=
  let d := s.d
  let f := s.nv.fuse
  let code := if (zones d).any (fun z => zmode d z == modeProduction) || role d != 0 then 1
    else if !movePermitted f.state t || f.target != 0 then 2
    else if t == 3 && !tokenOk s t then 3
    else 0
  if code ≠ 0 then { s with d := lcyErr d code }
  else
    let d := allOutsOff (orderBayQuench d cMor)
    let f := { f with target := t, newBoot := if t = 1 then bootKeys.take 4 else [], newFirn := if t = 1 then firnKeys.take 4 else [] }
    { s with d := d, nv := { s.nv with fuse := f } }

/-- TRANSITION. -/
def execTransition (req : Requester) (w : Nat) (bootKeys firnKeys : List (Option (Nat × Nat))) (s : State) :
    Host.Outcome State Fault Refusal :=
  .next (lcyWrite s req w 1 (fun s => lcyTransition s (bits w 4 2) bootKeys firnKeys))

/-- FUSE_STEP_DONE: the device resets with the life-cycle source, or the transition stops with `LCY_E_FUSE` (R494). -/
def execFuseStepDone (ok calve rank : Bool) (s : State) : Host.Outcome State Fault Refusal :=
  .next (if s.nv.fuse.target = 0 ∨ s.d.boot.step < 7 then s
    else if ok then startUp s 3 calve rank
    else
      let f := { s.nv.fuse with target := 0, newBoot := [], newFirn := [] }
      { s with nv := { s.nv with fuse := f }, d := lcyErr s.d 4 })

/-- ROLLBACK_ADV: the counter rises to the running image's version, and never falls (R484). -/
def execRollbackAdv (req : Requester) (w : Nat) (s : State) : Host.Outcome State Fault Refusal :=
  .next (lcyWrite s req w 2 (fun s =>
    let v := if s.d.bootOk then min 64 s.d.boot.version else 0
    lcyFuse s { s.nv.fuse with rollback := max s.nv.fuse.rollback v }))

/-- REVOKE: the revocation bits of the key slots that `ARG` names. -/
def execRevoke (req : Requester) (w : Nat) (s : State) : Host.Outcome State Fault Refusal :=
  .next (lcyWrite s req w 3 (fun s =>
    let f := s.nv.fuse
    lcyFuse s { f with bootRev := f.bootRev ||| bits w 8 4, firnRev := f.firnRev ||| bits w 12 4 }))

/-- A grant is made in PROVISIONED alone (R492). -/
def lcyGrant (s : State) (f : Fuses) : State := if s.nv.fuse.state = 1 then lcyFuse s f else { s with d := lcyErr s.d 2 }

/-- GRANT_CALVE. -/
def execGrantCalve (req : Requester) (w : Nat) (s : State) : Host.Outcome State Fault Refusal :=
  .next (lcyWrite s req w 4 (fun s => lcyGrant s { s.nv.fuse with calve := true }))

/-- GRANT_DBG. -/
def execGrantDbg (req : Requester) (w : Nat) (s : State) : Host.Outcome State Fault Refusal :=
  .next (lcyWrite s req w 5 (fun s => lcyGrant s { s.nv.fuse with dbg := true }))

/-- REVOKE_CALVE. -/
def execRevokeCalve (req : Requester) (w : Nat) (s : State) : Host.Outcome State Fault Refusal :=
  .next (lcyWrite s req w 7 (fun s => lcyFuse s { s.nv.fuse with calveRev := true }))

/-- REVOKE_DBG. -/
def execRevokeDbg (req : Requester) (w : Nat) (s : State) : Host.Outcome State Fault Refusal :=
  .next (lcyWrite s req w 8 (fun s => lcyFuse s { s.nv.fuse with dbgRev := true }))

/-- HOSTBOOT: the image that the host has written to the TCM at `at_` is verified under R483 against the provisioning key and
started (R492; log entry 51). -/
def lcyHostboot (s : State) (at_ : Nat) : State :=
  let d := s.d
  let st := s.nv.fuse.state
  if (st ≠ 0 ∧ st ≠ 3) ∨ d.boot.halted = false then { s with d := lcyErr d 2 }
  else
    let limit := if isCalved d then 0x100000 else 0x400000
    match checkBoot (Memory.readList d.tri.tcm at_ 192) (Memory.readList d.tri.tcm (at_ + 192))
        (fun _ => some Config.provisioningKey) s.nv.fuse.rollback limit with
    | .ok b => { s with d := lcyDone (bootPass d s.nv b) }
    | .error _ => { s with d := lcyErr d 3 }

/-- HOSTBOOT. -/
def execHostboot (req : Requester) (w at_ : Nat) (s : State) : Host.Outcome State Fault Refusal :=
  .next (lcyWrite s req w 6 (fun s => lcyHostboot s at_))

/-! ### Boundary scan (R496, R497) -/

/-- An instruction is in force, with what its data register captures. -/
def tapLoad (d : Dev) (ir dr : Nat) : Dev := { d with pwr := { d.pwr with tap := ⟨ir, dr⟩ } }

/-- BYPASS. -/
def execBypass (s : State) : Host.Outcome State Fault Refusal := .next { s with d := tapLoad s.d 0 0 }

/-- IDCODE. -/
def execIdcode (s : State) : Host.Outcome State Fault Refusal := .next { s with d := tapLoad s.d 1 0x14096A95 }

/-- SAMPLE_PRELOAD: what the boundary register captures of the balls is a free value. -/
def execSamplePreload (s : State) : Host.Outcome State Fault Refusal :=
  .next { s with d := tapLoad (useFree s.d) 2 (freeVal s.d) }

/-- EXTEST, while `RST_N` is held low; otherwise it is treated as BYPASS. -/
def execExtest (rstLow : Bool) (s : State) : Host.Outcome State Fault Refusal :=
  .next { s with d := if rstLow then tapLoad (useFree s.d) 3 (freeVal s.d) else tapLoad s.d 0 0 }

/-- HIGHZ, while `RST_N` is held low; otherwise it is treated as BYPASS. -/
def execHighz (rstLow : Bool) (s : State) : Host.Outcome State Fault Refusal :=
  .next { s with d := if rstLow then tapLoad s.d 4 0 else tapLoad s.d 0 0 }

/-- Every SRAM wiped (R481, R497): the TCM, the Névé banks, the engines, the HOT store and the ledger cache, the decimators,
the Floe, Rime and schrund buffers, and what the other blocks hold. -/
def wipeSram (d : Dev) : Dev :=
  let d := { d with neve := [], eng := [], grade := [], chan := [], recq := [], floe := [], axis := [], meas := {}, ser := {} }
  let d := { d with rime := {}, sch := {}, aux := {}, seq := { d.seq with ch := [], bars := [], load := none } }
  let d := wipeBuffers { d with tri := { d.tri with tcm := [], bad := [], cores := [] } }
  { d with led := { d.led with mem := d.led.home, evq := [], shadow := [], stage := [], cache := [] } }

/-- TESTMODE outside DEPLOYED: the icefall, the key registers cleared, every SRAM wiped, then internal scan. The source that
`MOR_SAFE_SRC` names is left open. -/
def testMode (d : Dev) : Dev :=
  let d := icefall (useFree d) (freeVal d % 512)
  let d := (List.range 4).foldl (fun d i => wr d (Reg.RIMEL_KEY_KEY i) 0) d
  let d := wipeSram (wrB d Reg.RIMEL_KEY_STAT_VALID false)
  tapLoad { d with boot := { d.boot with scan := true } } 5 0

/-- TESTMODE. -/
def execTestmode (s : State) : Host.Outcome State Fault Refusal :=
  .next { s with d := if s.nv.fuse.state = 2 then tapLoad s.d 0 0 else testMode s.d }

end Sys2Proof.Machine
end

