-- ==== Sys2Proof/Machine/Host.lean ====
section
/-!
DEFINITION. The host interface (chapter 22): the mailbox (R505 to R508), the rings (R509 to R512), the link (R503), the
flash (R517, R518) and the DRAM controller's events (R513 to R515).
-/
namespace Sys2Proof.Machine

/-! ### The mailbox -/

/-- The 64 request bytes. -/
def mbxReq (d : Dev) : List Byte := (List.range 16).flatMap (fun i => natLE 4 (rd d (Reg.HOST_MBX_REQ_DATA i)))

/-- Zeros, with bytes put at an offset. -/
def bytesAt (n o : Nat) (b : List Byte) : List Byte :=
  (List.replicate o (0 : Byte) ++ b ++ List.replicate n 0).take n

/-- HELLO: a version of 0 names none and is a parameter error (log entry 52). -/
def mbxHello (d : Dev) (q : List Byte) : Nat × List Byte × Dev :=
  let v := min (byteAt q 4) 4
  if v = 0 then (3, [], d)
  else
    let d := wr d Reg.HOST_STAT_MBX_VER v
    (0, [BitVec.ofNat 8 v, 0x01, 0x96, 0x40, BitVec.ofNat 8 (rd d Reg.LCY_STATE_STATE)], d)

/-- STATUS. -/
def mbxStatus (d : Dev) : List Byte :=
  let zm := (List.range 16).foldl (fun a z => a + zmode d z * 2 ^ (3 * z)) 0
  let stat := (regFind 0x10020004).map (fun rl => rl.1.flds.foldl (fun a f => let g := f.at rl.2; a + rd d g * 2 ^ g.lo) 0)
  natLE 6 zm ++ [BitVec.ofNat 8 (role d), BitVec.ofNat 8 (triCfg d), BitVec.ofNat 8 (rimeState d),
    BitVec.ofNat 8 (stat.getD 0)] ++ natLE 2 d.host.zTag ++ [BitVec.ofNat 8 d.host.zOut]

/-- ZONE_MODE (R507). -/
def mbxZone (d : Dev) (q : List Byte) : Nat × List Byte × Dev :=
  let z := byteAt q 4
  let m := byteAt q 5
  let at_ := if 4 ≤ rd d Reg.HOST_STAT_MBX_VER then leAt q 8 3 else 0
  let dist := (at_ + 2 ^ 24 - cyc24 d) % 2 ^ 24
  if 15 < z ∨ m < 1 ∨ 5 < m then (3, [], d)
  else if at_ ≠ 0 ∧ (dist < 2 ∨ 65535 < dist) then (3, [], d)
  else if !zoneMay d z m || isStandby d then (4, [], d)
  else
    let c := cycNo d + (if at_ = 0 then 1 else dist)
    (0, natLE 3 (c % 2 ^ 24), zoneQueue d ⟨z, m, 0, leAt q 2 2, c⟩)

/-- SLEEP: the sleep code. -/
def mbxSleep (d : Dev) (q : List Byte) : Nat × List Byte × Dev :=
  let (code, d) := sleepRequest d (byteAt q 4 % 16)
  (0, [BitVec.ofNat 8 code], d)

/-- RING (R509): the limits are those of an enabled ring (log entry 53). -/
def mbxRing (d : Dev) (q : List Byte) : Nat × List Byte × Dev :=
  let r := byteAt q 4
  let en := bit (byteAt q 5) 0
  let base := leAt q 8 8
  let size := leAt q 16 4
  if 9 < r then (3, [], d)
  else if 2 ≤ r ∧ rd d Reg.HOST_STAT_MBX_VER < 3 then (2, [], d)
  else if !en then (0, [], setHring d r (fun x => { x with en := false }))
  else if !((List.range 13).any (fun i => size == 2 ^ (16 + i))) || base % size != 0 then (3, [], d)
  else (0, [], setHring d r (fun x => { x with en := true, base := base, size := size, wb := leAt q 20 8 }))

/-- The version each command needs (R506); none for an undefined command. -/
def mbxVersion (cmd : Nat) : Option Nat :=
  if 1 ≤ cmd ∧ cmd ≤ 4 then some 1 else if cmd = 0x10 then some 2 else none

/-- The device runs the request and writes its response (R505): status, data and the device after it. -/
def mbxRun (d : Dev) (q : List Byte) : Nat × List Byte × Dev :=
  match mbxVersion (byteAt q 0) with
  | none => (1, [], d)
  | some v =>
    if rd d Reg.HOST_STAT_MBX_VER < v then (2, [], d)
    else match byteAt q 0 with
      | 1 => mbxHello d q
      | 2 => (0, mbxStatus d, d)
      | 3 => mbxZone d q
      | 4 => mbxSleep d q
      | _ => mbxRing d q

/-- The doorbell. -/
def mailbox (d : Dev) (req : Requester) (w : Nat) : Dev :=
  regAccess d req 0x10110010 w (fun d =>
    let d := okResp d
    if rdB d Reg.HOST_MBX_STAT_BUSY then wrB d Reg.HOST_MBX_STAT_OVR true
    else
      let q := mbxReq d
      let (st, data, d) := mbxRun d q
      let rsp := [q.getD 0 0, BitVec.ofNat 8 st, q.getD 2 0, q.getD 3 0] ++ data
      let d := (List.range 16).foldl (fun d i => wr d (Reg.HOST_MBX_RSP_DATA i) (leAt rsp (4 * i) 4)) d
      irq (wrB d Reg.HOST_MBX_STAT_DONE true) 1)

/-- The doorbell with a command in the request's first byte. -/
def mbxCmd (d : Dev) (req : Requester) (w cmd : Nat) : Dev :=
  mailbox (wr d (Reg.HOST_MBX_REQ_DATA 0) (rd d (Reg.HOST_MBX_REQ_DATA 0) / 256 * 256 + cmd)) req w

/-- HELLO. -/
def execHello (req : Requester) (w : Nat) (s : State) : Host.Outcome State Fault Refusal := .next { s with d := mbxCmd s.d req w 1 }

/-- MBX_STATUS. -/
def execMbxStatus (req : Requester) (w : Nat) (s : State) : Host.Outcome State Fault Refusal :=
  .next { s with d := mbxCmd s.d req w 2 }

/-- ZONE_MODE. -/
def execZoneMode (req : Requester) (w : Nat) (s : State) : Host.Outcome State Fault Refusal :=
  .next { s with d := mbxCmd s.d req w 3 }

/-- MBX_SLEEP. -/
def execMbxSleep (req : Requester) (w : Nat) (s : State) : Host.Outcome State Fault Refusal :=
  .next { s with d := mbxCmd s.d req w 4 }

/-- RING. -/
def execRing (req : Requester) (w : Nat) (s : State) : Host.Outcome State Fault Refusal :=
  .next { s with d := mbxCmd s.d req w 0x10 }

/-! ### Rings (R509 to R512) -/

/-- A ring's waiting records: those of ring 1 are the grading records (R207, R510). -/
def ringQueue (d : Dev) (r : Nat) : List (List Byte) := if r = 1 then d.recq else (hring d r).queue

/-- The next waiting record of a ring is written where it fits; a disabled ring discards it, and one that does not fit waits
(R510). A record of ring 2 + s is a capture of stream s, which is delivered with it or dropped and counted (R136). -/
def hostRingWrite (d : Dev) (r : Nat) : Dev :=
  match ringQueue d r with
  | [] => d
  | b :: rest =>
    let pop := fun (d : Dev) => if r = 1 then { d with recq := rest } else setHring d r (fun x => { x with queue := rest })
    let drop := fun (d : Dev) =>
      if 2 ≤ r ∧ r < 10 then incSatPart d (Reg.LEDGER_STRM_LOSS_CNT (r - 2)) 16 16 1 else d
    if !(hring d r).en then drop (pop d)
    else if ringFits d r (padded b).length then
      let d := ringPut (pop d) r b
      if 2 ≤ r ∧ r < 10 then incWrap d (Reg.LEDGER_STRM_CNT_CNT (r - 2)) 1 else d
    else if 2 ≤ r ∧ r < 10 then drop (pop d)
    else d

/-- HOST_RING_WRITE. -/
def execHostRingWrite (ring : Nat) (s : State) : Host.Outcome State Fault Refusal := .next { s with d := hostRingWrite s.d ring }

/-- HOST_RING_TAIL. -/
def execHostRingTail (req : Requester) (ring w : Nat) (s : State) : Host.Outcome State Fault Refusal :=
  let addr := 0x10110204 + 0x10 * (ring % 10)
  .next { s with d := regAccess s.d req addr w (fun d => writeFields d req addr w) }

/-- RING_HOLDOFF_EXPIRY. -/
def execRingHoldoffExpiry (ring : Nat) (s : State) : Host.Outcome State Fault Refusal :=
  .next { s with d := if 0 < (hring s.d ring).unsig then ringSignal s.d ring else s.d }

/-! ### The link (R503) and configuration space (R6) -/

/-- A 32-bit word of PCI configuration space as far as R6 gives it: vendor and device at offset 0, the revision in the low
byte at offset 8. No row of the table is a configuration access. -/
def pciWord (d : Dev) (off : Nat) : Option Nat :=
  if off = 0 then some (d.host.pci.vendor + 2 ^ 16 * d.host.pci.device)
  else if off = 8 then some (d.host.pci.revision)
  else none

/-- A loss of the link, or a fundamental reset. -/
def linkDown (d : Dev) (fundamental : Bool) : Dev :=
  let d := (List.range 10).foldl (fun d r => setHring d r (fun x => { x with en := false, unsig := 0 })) d
  let d := wr (wrB d Reg.HOST_STAT_LINK_UP false) Reg.HOST_STAT_SPEED 0
  let d := wr (wr d Reg.HOST_STAT_WIDTH 0) Reg.HOST_STAT_MBX_VER 1
  irq (raise (wrB d Reg.HOST_STAT_LINK_DOWN_EV true) Src.HOST_LINK_DOWN 0 0 (b2n fundamental) 0) 13

/-- HOST_LINK_DOWN. -/
def execHostLinkDown (fundamental : Bool) (s : State) : Host.Outcome State Fault Refusal :=
  .next { s with d := linkDown s.d fundamental }

/-- The highest rate and width in common with a partner of a generation and a number of lanes: the device has Gen3 ×4, and
trains down to Gen1 and ×1 (R7). Links are ×4, ×2 or ×1 wide. -/
def commonRate (speed : Nat) : Nat := max 1 (min 3 speed)
def commonWidth (width : Nat) : Nat := if 4 ≤ width then 4 else if 2 ≤ width then 2 else 1

/-- The link has trained with a partner of a generation and a number of lanes. -/
def linkUp (d : Dev) (speed width : Nat) : Dev :=
  if domOn d 12 then
    wr (wr (wrB d Reg.HOST_STAT_LINK_UP true) Reg.HOST_STAT_SPEED (commonRate speed)) Reg.HOST_STAT_WIDTH (commonWidth width)
  else d

/-- HOST_LINK_UP. -/
def execHostLinkUp (speed width : Nat) (s : State) : Host.Outcome State Fault Refusal :=
  .next { s with d := linkUp s.d speed width }

/-! ### The flash (R517, R518) -/

/-- The range a flash command touches. -/
def qspiRange (d : Dev) (cmd : Nat) : Nat × Nat :=
  let a := rd d Reg.HOST_QSPI_ADDR_ADDR
  match cmd with
  | 3 => (a / 0x1000 * 0x1000, 0x1000)
  | 4 => (a / 0x10000 * 0x10000, 0x10000)
  | _ => (a, rd d Reg.HOST_QSPI_LEN_LEN)

/-- Whether "Flash layout" forbids a command its range. -/
def qspiForbidden (d : Dev) (cmd : Nat) : Bool :=
  let (a, n) := qspiRange d cmd
  cmd != 1 && ((decide (a < 0x800000) && rdB d Reg.HOST_LOCK_BOOTW) || decide (a < 0x802000 ∧ 0x800000 < a + n))

/-- A write of `HOST_QSPI_CMD` with a command. -/
def qspiCmd (d : Dev) (req : Requester) (w cmd : Nat) : Dev :=
  let addr := 0x10110400
  regAccess d req addr w (fun d =>
    let (a, n) := qspiRange d cmd
    let d := writeFields d req addr w
    if d.host.qspi.isSome then refuseW d req addr
    else if cmd < 3 ∧ (n = 0 ∨ 256 < n) ∨ cmd = 2 ∧ a / 256 ≠ (a + n - 1) / 256 then refuseW d req addr
    else if qspiForbidden d cmd then errResp d req addr errFirewall true
    else
      let data := ((List.range 64).flatMap (fun i => natLE 4 (rd d (Reg.HOST_QSPI_BUF_DATA i)))).take n
      wrB { d with host := { d.host with qspi := some (cmd, a, n, data) } } Reg.HOST_QSPI_CMD_QBUSY true)

/-- QSPI_READ. -/
def execQspiRead (req : Requester) (w : Nat) (s : State) : Host.Outcome State Fault Refusal :=
  .next { s with d := qspiCmd s.d req (w / 16 * 16 + 1) 1 }

/-- QSPI_PROG. -/
def execQspiProg (req : Requester) (w : Nat) (s : State) : Host.Outcome State Fault Refusal :=
  .next { s with d := qspiCmd s.d req (w / 16 * 16 + 2) 2 }

/-- ERASE4K. -/
def execErase4k (req : Requester) (w : Nat) (s : State) : Host.Outcome State Fault Refusal :=
  .next { s with d := qspiCmd s.d req (w / 16 * 16 + 3) 3 }

/-- ERASE64K. -/
def execErase64k (req : Requester) (w : Nat) (s : State) : Host.Outcome State Fault Refusal :=
  .next { s with d := qspiCmd s.d req (w / 16 * 16 + 4) 4 }

/-- A flash byte as READ returns it: the confirmation records' layout is not given, and their bytes are free values. -/
def flashSeen (nv : Nv) (d : Dev) (a : Nat) : Nat :=
  if 0x800000 ≤ a ∧ a < 0x802000 then Config.freeNat (d.free + a) % 256 else (flashByte nv a).toNat

/-- A confirmation record that waited for the end of a host's flash command is written (R518). -/
def recordWaiting (s : State) : State :=
  if s.d.safe.recWait then recordWrite { s with d := { s.d with safe := { s.d.safe with recWait := false } } } else s

/-- The running flash command completes. Programming clears bits and erasing sets them (log entry 54). -/
def qspiDone (s : State) : State :=
  match s.d.host.qspi with
  | none => s
  | some (cmd, a, n, data) =>
    let d := { s.d with host := { s.d.host with qspi := none } }
    let d := irq (wrB (wrB d Reg.HOST_QSPI_CMD_QBUSY false) Reg.HOST_QSPI_CMD_QDONE true) 13
    match cmd with
    | 1 =>
      let b := (List.range n).map (fun i => BitVec.ofNat 8 (flashSeen s.nv d (a + i)))
      let old := (List.range 64).flatMap (fun i => natLE 4 (rd d (Reg.HOST_QSPI_BUF_DATA i)))
      let b := b ++ old.drop n
      { s with d := useFree ((List.range 64).foldl (fun d i => wr d (Reg.HOST_QSPI_BUF_DATA i) (leAt b (4 * i) 4)) d) }
    | 2 =>
      let f := (List.range n).foldl (fun f i =>
        Memory.writeByte f (a + i) (Memory.readByte f (a + i) ||| ~~~ (data.getD i 0))) s.nv.flash
      { s with d := d, nv := { s.nv with flash := f } }
    | _ => { s with d := d, nv := { s.nv with flash := s.nv.flash.filter (fun c => decide (c.1 < a ∨ a + n ≤ c.1)) } }

/-- QSPI_DONE. -/
def execQspiDone (s : State) : Host.Outcome State Fault Refusal := .next (recordWaiting (qspiDone s))

/-! ### DRAM (R513 to R515) -/

/-- The base of the device's own range (R516). -/
def ledgerBase (d : Dev) : Nat := rd d Reg.LEDGER_BASE_HI_ADDR * 2 ^ 32 + rd d Reg.LEDGER_BASE_LO_ADDR * 2 ^ 25

/-- An uncorrectable error in a DRAM word: R132 governs the ledger's home, and elsewhere the word is marked. -/
def dramUe (d : Dev) (a : Nat) : Dev :=
  let b := ledgerBase d
  if b ≤ a ∧ a < b + 0x02000000 then ledgerUe d (a - b)
  else
    let w := a / 8 * 8
    let d := incSatPart d Reg.DRC_ECC_CNT_CNT 16 16 1
    let d := wr (wr d Reg.DRC_UE_ADDR_LO_ADDR a) Reg.DRC_UE_ADDR_HI_ADDR (a / 2 ^ 32)
    let d := { d with host := { d.host with bad := w :: d.host.bad.erase w } }
    raise d Src.DRC_UE 0 0 a (a / 2 ^ 32)

/-- DRC_UE: an uncorrectable error, met by a requester's read where there is one. -/
def execDrcUe (addr : Nat) (reader : Option Requester) (s : State) : Host.Outcome State Fault Refusal :=
  let d := dramUe s.d addr
  .next { s with d := match reader with
    | some r => errResp d r (0x80000000 + addr % 2 ^ 31) errPoison false
    | none => d }

/-- DRC_SCRUB_LATE. -/
def execDrcScrubLate (s : State) : Host.Outcome State Fault Refusal :=
  let d := { s.d with host := { s.d.host with scrubLate := true } }
  .next { s with d := raise (wrB d Reg.DRC_STAT_SCRUB_LATE true) Src.DRC_SCRUB_LATE 0 0 (rd d Reg.DRC_SCRUB_PASS) 0 }

/-- DRC_RANK: `cause` is 1 for uncorrectable errors, 2 for calibration. -/
def execDrcRank (rank cause : Nat) (s : State) : Host.Outcome State Fault Refusal :=
  .next { s with d := raise (wrFBit s.d Reg.DRC_STAT_RANK_FAIL (rank % 2) true) Src.DRC_RANK 0 0 (rank % 2) cause }

/-- PATROL_SCRUB: the word at an address is read; `flaw` is 0, 1 for a corrected error, 2 for an uncorrectable one; `last`
says that it is the last word of a pass. -/
def patrolScrub (d : Dev) (a flaw : Nat) (last : Bool) : Dev :=
  let d := if flaw = 0 then d else if flaw = 1 then incSatPart d Reg.DRC_ECC_CNT_CNT 0 16 1 else dramUe d a
  if last then incWrap { d with host := { d.host with scrubLate := false } } Reg.DRC_SCRUB_PASS 1 else d

/-- PATROL_SCRUB. -/
def execPatrolScrub (addr flaw : Nat) (last : Bool) (s : State) : Host.Outcome State Fault Refusal :=
  .next { s with d := patrolScrub s.d addr flaw last }

end Sys2Proof.Machine
end

