-- ==== Sys2Proof/Machine/Bus.lean ====
section
/-!
DEFINITION. Reading the device space (R9, R134, R214, R291, R335, R501, R502, R504, R513, R519, R522, R523): one 32-bit
aligned access, with the firewall and the error responses. The answer stands in `Dev.resp`.
-/
namespace Sys2Proof.Machine

/-! ### DRAM through the window (R501, R516, R519) -/

/-- The DRAM address of an access in the paged window. -/
def dramAddr (d : Dev) (req : Requester) (addr : Nat) : Nat := pageOf d req * 2 ^ 31 + (addr - 0x80000000)

/-- The base of a firewall region. -/
def fwlBase (d : Dev) (r : Nat) : Nat := rd d (Reg.FWL_REG_BASE_HI_BASE r) * 2 ^ 32 + rd d (Reg.FWL_REG_BASE_BASE r) * 4096

/-- Whether an enabled firewall region covers a DRAM address. -/
def fwlCovers (d : Dev) (a r : Nat) : Bool :=
  let n := 2 ^ rd d (Reg.FWL_REG_ATTR_SIZE r)
  rdB d (Reg.FWL_REG_ATTR_EN r) && a / n == fwlBase d r / n

/-- Whether an address lies in the device's own range, region 0 (R516). -/
def inOwnRange (d : Dev) (a : Nat) : Bool := decide (ledgerBase d ≤ a ∧ a < ledgerBase d + 0x03600000)

/-- Whether the firewall permits an access: region 0 denies, then the highest-numbered region that covers the address
decides, and outside every region all are permitted. Requesters other than the triad have the host's permissions. -/
def fwlAllows (d : Dev) (req : Requester) (a : Nat) (write : Bool) : Bool :=
  if inOwnRange d a then false
  else match [7, 6, 5, 4, 3, 2, 1].find? (fwlCovers d a) with
    | some r => rdFBit d (Reg.FWL_REG_ATTR_PERM r) ((if isTriad req then 2 else 0) + b2n write)
    | none => true

/-- Why an access in the window is not served: a code of R502, 0 where it is. -/
def dramErr (d : Dev) (req : Requester) (addr : Nat) (write : Bool) : Nat :=
  let a := dramAddr d req addr
  if rd d Reg.DRC_STAT_SIZE * 2 ^ 30 ≤ a then errUnmapped
  else if !fwlAllows d req a write then errFirewall
  else if !write && d.host.bad.contains (a / 8 * 8) then errPoison
  else 0

/-- A read in the window. -/
def dramRead (d : Dev) (req : Requester) (addr : Nat) : Dev :=
  let e := dramErr d req addr false
  if e ≠ 0 then errResp d req addr e false else okResp d (Memory.readLE d.dram (dramAddr d req addr) 4)

/-! ### The TCM (R290, R291, R295) -/

/-- Whether an access to the TCM lies in another core's private quarter. -/
def tcmForeign (d : Dev) (req : Requester) (addr : Nat) : Bool :=
  isCalved d && isTriad req && decide (addr / 0x100000 < 3 ∧ addr / 0x100000 ≠ coreOf req)

/-- An access to another core's quarter: the error response has a code that the spec leaves open. -/
def tcmForeignErr (d : Dev) (req : Requester) (addr : Nat) (write : Bool) : Dev :=
  errResp (useFree d) req addr (1 + freeVal d % 8) write

/-- A read of the TCM; every read that meets an uncorrectable error counts and reports it (R290). -/
def tcmRead (d : Dev) (req : Requester) (addr : Nat) : Dev :=
  if tcmForeign d req addr then tcmForeignErr d req addr false
  else if d.tri.bad.contains (addr / 8 * 8) then errResp (tcmUe d addr) req addr errPoison false
  else okResp d (Memory.readLE d.tri.tcm addr 4)

/-! ### Engine windows (R214) -/

/-- The engine of an address in the Graupel windows, and the offset in its window. -/
def engAt (addr : Nat) : Nat × Nat := ((addr - 0x02000000) / 0x40000, addr % 0x40000)

/-- A word of an engine's memories; none outside them. -/
def engWord (d : Dev) (e off : Nat) : Option Nat :=
  if off < 0x10000 then some (gX32 d e off)
  else if off < 0x20000 then some (gY32 d e (off - 0x10000))
  else if off < 0x28000 then some (Memory.readLE (eng d e).p (off - 0x20000) 4)
  else none

/-! ### Registers -/

/-- The value a register field reads as (R10, R11). -/
def fldRead (d : Dev) (l : List Nat) (sh : Fld → Fld) (f : FldRow) : Nat :=
  match f.acc with
  | .wo => 0
  | _ => let g := f.at l; rd d (sh g) * 2 ^ g.lo

/-- A word of a receive buffer (R335): header, payload, arrival, and the cycle of the frames held. -/
def rxWord (d : Dev) (s i : Nat) : Nat :=
  let cyc := (cycNo d + 2 ^ 24 - 1) % 2 ^ 24
  match SMap.find d.rime.seg.prev s with
  | none => if i = 31 ∧ rdB d Reg.RIMEL_CTRL_EN then 256 * cyc else 0
  | some f =>
    if i < 2 then leAt (f.bytes.take 6 ++ [0, 0]) (4 * i) 4
    else if i < 30 then leAt (f.bytes.drop 6) (4 * (i - 2)) 4
    else if i = 30 then f.sof % 2 ^ 32
    else 1 + 2 * b2n f.chB + 256 * cyc

/-- Core 0's value of a register (R296): what the debugger wrote since the cores last ran, else a free value. -/
def coreReg (d : Dev) (n : Nat) : Nat :=
  match SMap.find d.tri.cores n with
  | some v => v
  | none => (if rdB d Reg.TRI_DBG_STAT_HALTED then Config.coreReg d.tri.runs n else freeVal d) % 2 ^ 32

/-- The live value of a register; none where no register lies. In CALVED each core has its own MPU bank (R295), and the
configuration of a reserved source reads as zero (R304). -/
def regWord (d : Dev) (req : Requester) (addr : Nat) : Option Nat :=
  if 0x100A4000 ≤ addr ∧ addr < 0x100A6000 then some (rxWord d ((addr - 0x100A4000) / 0x80) (addr % 0x80 / 4))
  else if addr = 0x1003005C then some (coreReg d (rd d Reg.TRI_DBG_REG_SEL_REG))
  else if addr = 0x10150010 then some (nowNs d % 2 ^ 32)
  else if addr = 0x10150014 then some (nowNs d / 2 ^ 32 % 2 ^ 32)
  else if addr = 0x10150018 then some (d.k % 2 ^ 32)
  else if addr = 0x1015001C then some (d.k / 2 ^ 32 % 2 ^ 32)
  else if 0x10021000 ≤ addr ∧ addr < 0x10021C00 ∧ morAssigned ((addr - 0x10021000) / 8) = false then some 0
  else (regFind addr).map (fun rl =>
    let bank := if isCalved d && decide (0x10030100 ≤ addr ∧ addr < 0x10030180) then coreOf req else 0
    let sh := fun (f : Fld) => { f with addr := f.addr + bank * 2 ^ 40 }
    rl.1.flds.foldl (fun a f => a + fldRead d rl.2 sh f) 0)

/-- The multi-word register values read under R134: the base of the value an address lies in, and its words. -/
def mwReg (addr : Nat) : Option (Nat × Nat) :=
  if addr / 8 * 8 = 0x10150010 ∨ addr / 8 * 8 = 0x10150018 then some (addr / 8 * 8, 2)
  else if 0x100F1000 ≤ addr ∧ addr < 0x100F1800 then some (addr / 16 * 16, 4)
  else none

/-- A read of a register: of a multi-word value through the requester's shadow. -/
def regRead (d : Dev) (req : Requester) (addr : Nat) : Dev :=
  let word := fun a => (regWord d req a).getD 0
  let live := if addr = 0x10150010 ∨ addr = 0x10150014 then useFree d else d
  if addr = 0x1003005C then
    if debugPermitted d then okResp (useFree d) (word addr) else errResp d req addr errRefused false
  else match regWord d req addr, mwReg addr with
  | none, _ => errResp d req addr errUnmapped false
  | some v, none => okResp d v
  | some v, some (b, n) =>
    if addr = b then okResp (setShadow live req (some ⟨b, (List.range n).map (fun i => some (word (b + 4 * i)))⟩)) v
    else match SMap.find d.led.shadow (reqKey req) with
      | some m =>
        if m.addr = b then
          let x := (m.words.getD ((addr - b) / 4) none).getD 0
          okResp (if addr = b + 4 * (n - 1) then setShadow d req none else d) x
        else okResp (torn live req addr false) v
      | none => okResp (torn live req addr false) v

/-! ### One read -/

/-- What the ECC of a memory finds as a read meets a word of it: 1 a corrected error, which is counted, 2 an uncorrectable
one (R132, R290, R514). -/
def eccMet (d : Dev) (req : Requester) (addr ecc : Nat) : Dev :=
  if ecc = 0 then d
  else if addr < 0x400000 then
    if tcmForeign d req addr then d
    else if ecc = 1 then incSatPart d Reg.TRI_TCM_ECC_CNT 0 16 1
    else { d with tri := { d.tri with bad := addr / 8 * 8 :: d.tri.bad.erase (addr / 8 * 8) } }
  else match ledOffset addr with
    | some o => if ecc = 1 then incSatPart d Reg.LEDGER_ECC_CNT_CNT 0 16 1 else ledgerUe d o
    | none =>
      if !inWindow addr || dramErr d req addr false != 0 then d
      else if ecc = 1 then incSatPart d Reg.DRC_ECC_CNT_CNT 0 16 1
      else dramUe d (dramAddr d req addr)

/-- A read of a word of the device space; `ecc` is what the ECC finds in it. -/
def busRead (d : Dev) (req : Requester) (addr ecc : Nat) : Dev :=
  let e := accessErr d req addr false
  let d := if e ≠ 0 || inTest d addr then d else eccMet d req addr ecc
  if e ≠ 0 then notServed d req addr e false
  else if inTest d addr then inTestErr d req addr false
  else if addr < 0x400000 then tcmRead d req addr
  else if 0x01000000 ≤ addr ∧ addr < 0x01200000 then okResp d (Memory.readLE d.neve (addr - 0x01000000) 4)
  else if 0x02000000 ≤ addr ∧ addr < 0x02600000 then
    match engWord d (engAt addr).1 (engAt addr).2 with
    | some v => okResp d v
    | none => regRead d req addr
  else if (ledOffset addr).isSome then ledAccess d req addr
  else if inWindow addr then dramRead d req addr
  else regRead d req addr

/-- A read of `size` bytes. -/
def busReadSz (d : Dev) (req : Requester) (addr size ecc : Nat) : Dev :=
  let e := sizeErr d req addr size false
  if e ≠ 0 then notServed d req addr e false else busRead d req addr ecc

/-- MULTIWORD_READ, as every read of the device space. -/
def execMultiwordRead (a : Access) (addr : Nat) (s : State) : Host.Outcome State Fault Refusal :=
  .next { s with d := busReadSz s.d a.req addr a.size a.ecc }

end Sys2Proof.Machine
end

