-- ==== Sys2Proof/Machine/Floe.lean ====
section
/-!
DEFINITION. The commands of the Floe ports (chapter 03), but for the reception of samples and superframes.
-/
namespace Sys2Proof.Machine

/-- TICK marker of R69: on each synced port that is not fenced, the number of the tick that begins. The marker leaves
before the edge that begins it. -/
def tickMarker (d : Dev) (p : Nat) : Dev :=
  if (pst d p = psSync ∨ pst d p = psActive ∨ pst d p = psLost) ∧ mayTalk d p
  then setPort d p (fun q => { q with txTick := natBE 2 (tickAfter d % 65536) }) else d

/-- FLOE_TICK_MARKER. -/
def execFloeTickMarker (port : Nat) (s : State) : Host.Outcome State Fault Refusal :=
  .next { s with d := tickMarker s.d port }

/-- Store what a BRICK_CAPS frame declares (R73, R98). -/
def storeCaps (d : Dev) (p : Nat) (f : List Byte) : Dev :=
  let d := wr d (Reg.FLOE_CAPS_VER_MIN p) (byteAt f 1 % 16)
  let d := wr d (Reg.FLOE_CAPS_VER_MAX p) (byteAt f 1 / 16)
  let d := wr d (Reg.FLOE_CAPS_NCH p) (byteAt f 2)
  let d := wr d (Reg.FLOE_CAPS_NRANGE p) (byteAt f 3 % 16)
  let d := wr d (Reg.FLOE_CAPS_EXP_ACK p) (byteAt f 45)
  let d := wr d (Reg.FLOE_BRICK_ID_ID p) (beAt f 4 4)
  let d := wr d (Reg.FLOE_BRICK_SN_SERIAL p) (beAt f 8 4)
  let d := wr d (Reg.FLOE_BRICK_FW_FW p) (beAt f 14 2 * 2 ^ 16 + beAt f 12 2)
  let d := wr d (Reg.FLOE_VFS_VFS p) (beAt f 18 2 * 2 ^ 16 + beAt f 16 2)
  let d := wr d (Reg.FLOE_RAMP_RAMP p) (beAt f 22 2 * 2 ^ 16 + beAt f 20 2)
  (List.range 5).foldl (fun d r => wr d (Reg.FLOE_RANGE_FS_FS_UA p r) (beAt f (24 + 4 * r) 4)) d

/-- Whether a BRICK_CAPS frame is invalid (R74). -/
def capsInvalid (f : List Byte) : Bool :=
  let vmin := byteAt f 1 % 16
  let vmax := byteAt f 1 / 16
  let nch := byteAt f 2
  let nr := byteAt f 3 % 16
  decide (vmin = 0 ∨ vmax < vmin) ||
  decide (nch = 0 ∨ (vmax = 1 ∧ 16 < nch) ∨ 32 < nch) ||
  decide (nr ≠ (if vmax ≤ 1 then 2 else if vmax = 2 then 4 else 5)) ||
  (List.range nr).any (fun r => decide (beAt f (24 + 4 * r) 4 = 0)) ||
  (bit (byteAt f 45) 0 != decide (3 ≤ vmax)) ||
  decide (beAt f 20 2 < 1 ∨ 1000 < beAt f 20 2 ∨ 2000 < beAt f 14 2)

/-- The parking reason that a BRICK_CAPS frame gives, 0 for none (R74): 4 CAPS_INVALID, 1 NO_COMMON, 2 FLOOR,
3 NCH_SHORT. -/
def capsReason (d : Dev) (p : Nat) (f : List Byte) : Nat :=
  let v := min 3 (byteAt f 1 / 16)
  let floor := (((img d).brickAt p).map (·.floor)).getD 0
  if capsInvalid f then 4
  else if v < byteAt f 1 % 16 then 1
  else if v < floor then 2
  else if byteAt f 2 < portCount d p then 3
  else 0

/-- Judge a BRICK_CAPS frame in CAPS (R74, R75). -/
def judgeCaps (d : Dev) (p : Nat) (f : List Byte) : Dev :=
  let d := storeCaps d p f
  let r := capsReason d p f
  if r ≠ 0 then park d p r
  else
    let v := min 3 (byteAt f 1 / 16)
    let d := sendSelect d p v 0
    let d := setPort d p (fun q => { q with selV := v, acked := false, echoSent := 0, echoSeen := 0, echoOpen := [], rttSum := 0 })
    setPst d p psDelay

/-- BRICK_CAPS received (R74, R75): judged in CAPS; in ACTIVE and LOST it renegotiates; elsewhere nothing. -/
def brickCapsRx (d : Dev) (p : Nat) (frame : List Byte) (codeErrs : Nat) : Dev :=
  if pst d p = psDisabled then d
  else
    let (ok, d) := linkGate d p frame codeErrs
    if ok = false ∨ byteAt frame 0 ≠ 0x40 then d
    else if pst d p = psCaps then judgeCaps d p frame
    else if pst d p = psActive ∨ pst d p = psLost then enterAlign (wrB d (Reg.FLOE_STAT_RENEG p) true) p
    else d

/-- BRICK_CAPS_RX. -/
def execBrickCapsRx (port : Nat) (frame : List Byte) (codeErrs : Nat) (s : State) : Host.Outcome State Fault Refusal :=
  .next { s with d := brickCapsRx s.d port frame codeErrs }

/-- SELECT_ACK received (R75): in DELAY a version other than the selected one parks the port. -/
def selectAckRx (d : Dev) (p : Nat) (frame : List Byte) (codeErrs : Nat) : Dev :=
  if pst d p = psDisabled then d
  else
    let (ok, d) := linkGate d p frame codeErrs
    if ok = false ∨ byteAt frame 0 ≠ 0x43 ∨ pst d p ≠ psDelay then d
    else if byteAt frame 1 ≠ (port d p).selV then park d p 5
    else
      let d := wr d (Reg.FLOE_STAT_VER p) (byteAt frame 1)
      setPort d p (fun q => { q with acked := true })

/-- SELECT_ACK_RX. -/
def execSelectAckRx (port : Nat) (frame : List Byte) (codeErrs : Nat) (s : State) : Host.Outcome State Fault Refusal :=
  .next { s with d := selectAckRx s.d port frame codeErrs }

/-- The declared turnaround of a port's brick (R70). -/
def turnNs (d : Dev) (p : Nat) : Nat := rd d (Reg.FLOE_BRICK_FW_FW p) / 2 ^ 16

/-- D of R70 from the sum of `n` round trips: their average less the turnaround, halved. Where it is no whole number of
nanoseconds the spec gives no rounding: one of the two neighbours, as a free value says (log entry 13). -/
def delayOf (d : Dev) (sum n turn : Nat) : Int :=
  let x : Int := (sum : Int) - n * turn
  let q := x.fdiv (2 * n)
  if x % (2 * n) = 0 then q else q + (freeVal d % 2 : Nat)

/-- ECHO_REPLY received with its round trip time in ns: link-up samples in DELAY, later samples in service (R70, R75). -/
def echoReplyRx (d : Dev) (p : Nat) (frame : List Byte) (rtt codeErrs : Nat) : Dev :=
  if pst d p = psDisabled then d
  else
    let (ok, d) := linkGate d p frame codeErrs
    let q := port d p
    let n := byteAt frame 1
    if ok = false ∨ byteAt frame 0 ≠ 0x45 ∨ q.acked = false ∨ !q.echoOpen.contains n then d
    else if pst d p = psDelay then
      let d := setPort d p (fun q => { q with
          echoOpen := q.echoOpen.erase n, echoSeen := q.echoSeen + 1,
          rttSum := q.rttSum + rtt })
      let q := port d p
      if q.echoSeen < 16 then d
      else
        let dl := delayOf d q.rttSum 16 (turnNs d p)
        let d := useFree d
        if dl > 250 then park d p 6
        else
          let d := setPort d p (fun q => { q with
              adv := dl, dTgt := dl, good := 0, syncTicks := 0, sfOk := false,
              blk := 16 * ((if d.phase = 0 then d.k - 1 else d.k) + 1) })
          let d := wr d (Reg.FLOE_DELAY_D_NS p) (ofS 16 dl)
          setPst d p psSync
    else if pst d p = psSync ∨ pst d p = psActive ∨ pst d p = psLost then
      let dl := delayOf d rtt 1 (turnNs d p)
      let d := useFree d
      let d := setPort d p (fun q => { q with echoOpen := q.echoOpen.erase n, dTgt := min dl 250 })
      if dl > 250 then raise d Src.FLOE_DELAY_EV 3 p (floeStat d p) (ofS 32 dl) else d
    else d

/-- ECHO_REPLY_RX. -/
def execEchoReplyRx (port : Nat) (frame : List Byte) (rtt codeErrs : Nat) (s : State) : Host.Outcome State Fault Refusal :=
  .next { s with d := echoReplyRx s.d port frame rtt codeErrs }

/-- The advance of every port in service moves towards its measured delay by at most 2 ns at a tick (R70). -/
def advanceMarkers (d : Dev) : Dev :=
  ((mappedPorts d).filter (inService d)).foldl (fun d p =>
    let q := port d p
    let a := q.adv + clampI (-2) 2 (q.dTgt - q.adv)
    if a = q.adv then d else wr (setPort d p (fun q => { q with adv := a })) (Reg.FLOE_DELAY_D_NS p) (ofS 16 a)) d

/-- ECHO of R70 and R73: in DELAY and in service. -/
def echoSend (d : Dev) (p : Nat) : Dev :=
  let st := pst d p
  if (st = psDelay ∨ st = psSync ∨ st = psActive ∨ st = psLost) ∧ mayTalk d p then
    let n := (port d p).echoSent % 256
    let d := sendLink d p [0x44, BitVec.ofNat 8 n, 0, 0]
    setPort d p (fun q => { q with echoSent := q.echoSent + 1, echoOpen := n :: q.echoOpen.erase n })
  else d

/-- ECHO_SEND. -/
def execEchoSend (port : Nat) (s : State) : Host.Outcome State Fault Refusal := .next { s with d := echoSend s.d port }

/-- DEV_CAPS while a port is in CAPS (R75). -/
def devCapsSend (d : Dev) (p : Nat) : Dev := if pst d p = psCaps ∧ mayTalk d p then sendDevCaps d p else d

/-- DEV_CAPS_SEND. -/
def execDevCapsSend (port : Nat) (s : State) : Host.Outcome State Fault Refusal := .next { s with d := devCapsSend s.d port }

/-- SELECT with `VER` 0 repeated in PARKED (R75). -/
def selectRepeat (d : Dev) (p : Nat) : Dev :=
  if pst d p = psParked ∧ mayTalk d p then sendSelect d p 0 (rd d (Reg.FLOE_STAT_PARK_REASON p)) else d

/-- SELECT_REPEAT. -/
def execSelectRepeat (port : Nat) (s : State) : Host.Outcome State Fault Refusal := .next { s with d := selectRepeat s.d port }

/-- Comma lock and 1,024 characters without code error in ALIGN (R75). -/
def commaLock (d : Dev) (p : Nat) : Dev :=
  if pst d p = psAlign then devCapsSend (setPst (wrB d (Reg.FLOE_STAT_NO_SIGNAL p) false) p psCaps) p else d

/-- FLOE_COMMA_LOCK. -/
def execFloeCommaLock (port : Nat) (s : State) : Host.Outcome State Fault Refusal := .next { s with d := commaLock s.d port }

/-- 10 ms without lock in ALIGN (R75). -/
def noSignal (d : Dev) (p : Nat) : Dev := if pst d p = psAlign then wrB d (Reg.FLOE_STAT_NO_SIGNAL p) true else d

/-- FLOE_NO_SIGNAL. -/
def execFloeNoSignal (port : Nat) (s : State) : Host.Outcome State Fault Refusal := .next { s with d := noSignal s.d port }

/-- 5 ms in CAPS without a BRICK_CAPS that passes R73 (R75). -/
def capsTimeout (d : Dev) (p : Nat) : Dev := if pst d p = psCaps then enterAlign d p else d

/-- FLOE_CAPS_TIMEOUT. -/
def execFloeCapsTimeout (port : Nat) (s : State) : Host.Outcome State Fault Refusal := .next { s with d := capsTimeout s.d port }

/-- 5 ms in DELAY without the SELECT_ACK and 16 replies (R75). -/
def delayTimeout (d : Dev) (p : Nat) : Dev := if pst d p = psDelay then enterAlign d p else d

/-- FLOE_DELAY_TIMEOUT. -/
def execFloeDelayTimeout (port : Nat) (s : State) : Host.Outcome State Fault Refusal := .next { s with d := delayTimeout s.d port }

/-- 20 ticks in SYNC without 4 consecutive valid superframes (R75). -/
def syncTimeout (d : Dev) (p : Nat) : Dev := if pst d p = psSync then enterAlign d p else d

/-- FLOE_SYNC_TIMEOUT. -/
def execFloeSyncTimeout (port : Nat) (s : State) : Host.Outcome State Fault Refusal := .next { s with d := syncTimeout s.d port }

/-- Upstream lock lost for 1 ms in ACTIVE or LOST (R75). -/
def lockLoss (d : Dev) (p : Nat) : Dev :=
  if pst d p = psActive ∨ pst d p = psLost then enterAlign (wrB d (Reg.FLOE_STAT_RENEG p) true) p else d

/-- FLOE_LOCK_LOSS. -/
def execFloeLockLoss (port : Nat) (s : State) : Host.Outcome State Fault Refusal := .next { s with d := lockLoss s.d port }

/-- Express acknowledgement of version 3 (R91): it records the acknowledged `EXP_ID`; the frame it names is no longer
outstanding. -/
def expressAckRx (d : Dev) (p : Nat) (frame : List Byte) (codeErrs : Nat) : Dev :=
  if pst d p = psDisabled then d
  else
    let (ok, d) := frameGate d p frame 8 codeErrs
    if ok = false ∨ byteAt frame 0 ≠ 0x20 then d
    else
      let eid := beAt frame 2 2
      let d := wrPart d (Reg.FLOE_EXP_ID p) 16 16 eid
      let d := setPort d p (fun q => { q with expLatched := beAt frame 4 4 })
      if eid = (port d p).expId then setPort d p (fun q => { q with expOpen := none, expTries := 0 }) else d

/-- EXPRESS_ACK_RX. -/
def execExpressAckRx (port : Nat) (frame : List Byte) (codeErrs : Nat) (s : State) : Host.Outcome State Fault Refusal :=
  .next { s with d := expressAckRx s.d port frame codeErrs }

/-- The one repeat of an unacknowledged express frame (R91); no express frame follows step 1 of the icefall (R314). -/
def expressResend (d : Dev) (p : Nat) : Dev :=
  match (port d p).expOpen with
  | some fr =>
    if rdB d (Reg.FLOE_CTRL_EXP_RESEND p) ∧ (port d p).expTries = 1 ∧ mayTalk d p ∧ inSafe d = false
    then setPort d p (fun q => { q with txExp := fr, expTries := 2 }) else d
  | none => d

/-- EXPRESS_RESEND. -/
def execExpressResend (port : Nat) (s : State) : Host.Outcome State Fault Refusal := .next { s with d := expressResend s.d port }

/-- No acknowledgement within 20 µs of the last express frame: of the repeat where `EXP_RESEND` is set, else of the only
frame (R91). -/
def expNoack (d : Dev) (p : Nat) : Dev :=
  let q := port d p
  if q.expOpen.isSome ∧ (q.expTries = 2 ∨ rdB d (Reg.FLOE_CTRL_EXP_RESEND p) = false) then
    let d := setPort d p (fun q => { q with expOpen := none, expTries := 0 })
    let d := wrB d (Reg.FLOE_STAT_EXP_NOACK p) true
    raise d Src.FLOE_EXP_NOACK 3 p (floeStat d p) q.expId
  else d

/-- EXP_NOACK. -/
def execExpNoack (port : Nat) (s : State) : Host.Outcome State Fault Refusal := .next { s with d := expNoack s.d port }

/-- Clear a port's error counters where a write has `CNT_CLR` set (R98). -/
def floeCntClr (d : Dev) (p w : Nat) : Dev :=
  if bit w 5 then
    let d := wr d (Reg.FLOE_ERR_CODE_CNT p) 0
    let d := wr d (Reg.FLOE_ERR_FRAME_CNT p) 0
    wr d (Reg.FLOE_MISS_CNT p) 0
  else d

/-- Restart link-up where a write has `RESTART` set: honoured while the port's zone is in COMMISSION or SERVICE, else
refused alone (R75, R98). -/
def floeRestart (d : Dev) (req : Requester) (p w : Nat) : Dev :=
  if bit w 1 then
    let ok := match portZone d p with
      | some z => isMaint (zmode d z)
      | none => allMaint d
    if ok then (if pst d p = psDisabled then d else enterAlign d p)
    else refuseW d req (0x10050000 + 0x100 * p)
  else d

/-- A write of `FLOE_CTRL[n]` (R98): its fields by their access codes, then `CNT_CLR`, then `RESTART`. -/
def floeCtrlWrite (d : Dev) (req : Requester) (p w : Nat) : Dev :=
  regAccess d req (0x10050000 + 0x100 * p) w (fun d =>
    floeRestart (floeCntClr (writeFields d req (0x10050000 + 0x100 * p) w) p w) req p w)

/-- RESTART: a write of `FLOE_CTRL[n]` with `RESTART` set. -/
def execRestart (req : Requester) (port w : Nat) (s : State) : Host.Outcome State Fault Refusal :=
  .next { s with d := floeCtrlWrite s.d req port (setBit w 1 true) }

/-- FLOE_CNT_CLR: a write of `FLOE_CTRL[n]` with `CNT_CLR` set. -/
def execFloeCntClr (req : Requester) (port w : Nat) (s : State) : Host.Outcome State Fault Refusal :=
  .next { s with d := floeCtrlWrite s.d req port (setBit w 5 true) }

end Sys2Proof.Machine
end

