-- ==== Sys2Proof/Machine/FloeRx.lean ====
section
/-!
DEFINITION. Reception of sample blocks and superframes, and the superframe deadline (R16, R78 to R82, R85, R94, R97,
R101).
-/
namespace Sys2Proof.Machine

/-- Whether a header belongs to the window that opened at Tk: its first block comes after Tk + 3 µs and its header names
tick k. Any other header is held to the window that closed at Tk, late as it may be (R82, log entry 19). -/
def rxOpen (d : Dev) (hdr : List Byte) : Bool := decide (d.phase ≠ 0) && decide (beAt hdr 2 2 = d.k % 65536)

/-- The window that a block or superframe with this header belongs to. -/
def rxWindow (d : Dev) (hdr : List Byte) : Nat := if rxOpen d hdr then d.k else d.k - 1

/-- The `TICK` the header is to carry: after a step, that of the marker that opened its window (R82, R361). -/
def rxTick (d : Dev) (hdr : List Byte) : Nat := if rxOpen d hdr then d.k else d.winTick.getD (d.k - 1)

/-- The first check of R82 on a superframe header. -/
def sfHeaderOk (d : Dev) (p : Nat) (hdr : List Byte) : Bool :=
  decide (hdr.length = 16) && decide (byteAt hdr 0 = 1) && decide (byteAt hdr 1 / 16 = rd d (Reg.FLOE_STAT_VER p)) &&
  decide (byteAt hdr 9 = rd d (Reg.FLOE_CAPS_NCH p)) && decide (beAt hdr 2 2 = rxTick d hdr % 65536)

/-- Data bytes of a sample block by version (R79). -/
def blkData (d : Dev) (p : Nat) : Nat := if rd d (Reg.FLOE_STAT_VER p) = 1 then 128 else 256

/-- Count the code errors of what a port receives (R65). -/
def countCode (d : Dev) (p codeErrs : Nat) : Dev :=
  if codeErrs = 0 then d else incSatPart d (Reg.FLOE_ERR_CODE_CNT p) 0 16 codeErrs

/-- A block or superframe on a port that is not in service: its code errors count all the same, but on a disabled or fenced
port, which receives nothing (R65, R310). -/
def strayRx (d : Dev) (p codeErrs : Nat) : Dev :=
  if pst d p = psDisabled ∨ d.mor.fenceHeld.contains (3 * 4096 + p) then d else countCode d p codeErrs

/-- A sample block: index, data, auxiliary slot, CRC-32C (R78). It is fed when its CRC passes, its index is the next in
the order, and the header has passed (R82). The blocks of its port that it overtakes are gaps, and so are those of another
port that lags more than three blocks behind it, which is what the sample ring holds (log entry 149). -/
def sampleBlockRx (d : Dev) (p : Nat) (hdr blk : List Byte) (codeErrs : Nat) : Dev :=
  if !inService d p then strayRx d p codeErrs
  else
    let len := 17 + blkData d p
    let d := countCode d p codeErrs
    if blk.length ≠ len + 4 then incSatPart d (Reg.FLOE_ERR_FRAME_CNT p) 16 16 1
    else if crc32c (blk.take len) ≠ beAt blk len 4 then incSatPart d (Reg.FLOE_ERR_CODE_CNT p) 16 16 1
    else
      let n := 16 * rxWindow d hdr + byteAt blk 0
      if codeErrs ≠ 0 ∨ 15 < byteAt blk 0 ∨ n < (port d p).blk ∨ sfHeaderOk d p hdr = false then d
      else
        let d := (mappedPorts d).foldl (fun d q => if q = p then gapTo d q n else gapTo d q (n - 2)) d
        queueAllStarts (setPort (feedPort d p n n (some (sub blk 1 (blkData d p)))) p (fun q => { q with came := n + 1 }))

/-- SAMPLE_BLOCK_RX. -/
def execSampleBlockRx (port : Nat) (hdr blk : List Byte) (codeErrs : Nat) (s : State) : Host.Outcome State Fault Refusal :=
  .next { s with d := sampleBlockRx s.d port hdr blk codeErrs }

/-- The auxiliary area of a superframe (R80). -/
def auxArea (d : Dev) (p : Nat) (blks : List (List Byte)) : List Byte :=
  blks.flatMap (fun b => sub b (1 + blkData d p) 16)

/-- Whether a block of a complete superframe is in order, of the right length, and passes its CRC. -/
def sfBlockOk (d : Dev) (p i : Nat) (b : List Byte) : Bool :=
  let len := 17 + blkData d p
  decide (b.length = len + 4) && decide (byteAt b 0 = i) && decide (crc32c (b.take len) = beAt b len 4)

/-- Take an accepted superframe: header flags, auxiliary area and channel status (R78, R80, R81, R85, R94). Header flags are
acted on here, at the EOF of a superframe that passes every check; R85 and R94 do not say whether the header alone is enough,
DESIGN CHOICE (log entry 222). `AUX_VAL` is kept as it came (log entry 221). -/
def acceptSuperframe (d : Dev) (p : Nat) (hdr : List Byte) (blks : List (List Byte)) : Dev :=
  let aux := auxArea d p blks
  let fl := byteAt hdr 7
  let st := (List.range 32).map (fun c => beAt aux (192 + 2 * c) 2)
  let d := setPort d p (fun q => { q with
      sfOk := true, aux := aux, chStat := st, temps := (List.range 32).map (fun c => beAt aux (2 * c) 2) })
  let d := wr d (Reg.FLOE_BRICK_HDR_HDR p) (beAt hdr 6 4)
  let d := wr d (Reg.FLOE_BRICK_DIS_DIS_SEQ p) (beAt hdr 10 2)
  let d := if bit fl 5 then wrB d (Reg.FLOE_STAT_SKEW p) true else d
  let d := if bit fl 0 then
      let d := wrB d (Reg.FLOE_STAT_DISAGREE p) true
      raise d Src.FLOE_DISAGREE 3 p (floeStat d p) (beAt hdr 10 2)
    else d
  let d := if bit fl 6 then
      let d := wrB d (Reg.FLOE_STAT_BAD_SLOT p) true
      raise d Src.FLOE_BAD_SLOT 3 p (floeStat d p) (beAt aux 144 2)
    else d
  let d := refreshUsable d p
  if pst d p = psActive then (portChans d p).foldl (fun d c => extLatch d p c (st.getD (idxOf d c) 0)) d else d

/-- The EOF of a superframe that is not accepted ends its window: blocks that did not come are gaps. -/
def endSuperframe (d : Dev) (p : Nat) (hdr : List Byte) (codeErrs : Nat) : Dev :=
  if codeErrs = 0 ∧ sfHeaderOk d p hdr then queueAllStarts (gapTo d p (16 * (rxWindow d hdr + 1))) else d

/-- A complete upstream superframe at its EOF (R82). One that ends after Tk + 3 µs is late, and is not accepted. -/
def superframeRx (d : Dev) (p : Nat) (hdr : List Byte) (blks : List (List Byte)) (crc : List Byte) (codeErrs : Nat) : Dev :=
  if !inService d p then strayRx d p codeErrs
  else
    let d := countCode d p codeErrs
    let lens := blks.all (fun b => b.length == 21 + blkData d p) && blks.length == 16 && hdr.length == 16 && crc.length == 4
    if !lens then endSuperframe (incSatPart d (Reg.FLOE_ERR_FRAME_CNT p) 16 16 1) p hdr codeErrs
    else if crc32c (hdr ++ blks.flatten) ≠ beAt crc 0 4 then
      endSuperframe (incSatPart d (Reg.FLOE_ERR_FRAME_CNT p) 0 16 1) p hdr codeErrs
    else if codeErrs = 0 ∧ d.phase = 0 ∧ sfHeaderOk d p hdr ∧
        (List.range 16).all (fun i => sfBlockOk d p i (blks.getD i [])) then acceptSuperframe d p hdr blks
    else endSuperframe d p hdr codeErrs

/-- SUPERFRAME_RX. -/
def execSuperframeRx (port : Nat) (hdr : List Byte) (blks : List (List Byte)) (crc : List Byte) (codeErrs : Nat)
    (s : State) : Host.Outcome State Fault Refusal :=
  .next { s with d := superframeRx s.d port hdr blks crc codeErrs }

/-- A brick is marked lost (R16, R97). The TRIP's mask for "all channels of the port" holds one bit for each of the `COUNT`
mapped channels; the spec does not say whether those up to `NCH` are meant too, DESIGN CHOICE (log entry 223). -/
def markLost (d : Dev) (p : Nat) : Dev :=
  let d := sendExpressAll d [] [(p, 2 ^ portCount d p - 1)]
  let d := markSent d (portChans d p)
  let d := incSatPart d (Reg.FLOE_MISS_CNT p) 16 16 1
  let d := wrB d (Reg.FLOE_STAT_LOST_EV p) true
  let d := setPst (setPort d p (fun q => { q with good := 0 })) p psLost
  raise d Src.FLOE_LOST 3 p (floeStat d p) (rd d (Reg.FLOE_MISS_CNT p))

/-- One port at the superframe deadline (R16, R75). -/
def portDeadline (d : Dev) (p : Nat) : Dev :=
  let q := port d p
  let st := pst d p
  let missed := fun (d : Dev) => incSatPart d (Reg.FLOE_MISS_CNT p) 0 16 1
  if !inService d p then d
  else if st = psSync then
    let d := if q.sfOk then d else missed d
    let d := setPort d p (fun q => { q with
        good := if q.sfOk then q.good + 1 else 0, syncTicks := q.syncTicks + 1 })
    if 4 ≤ (port d p).good then enterActive (setPort d p (fun q => { q with miss := 0 })) p else d
  else if st = psActive then
    if q.sfOk then setPort d p (fun q => { q with miss := 0 })
    else
      let d := missed (setPort d p (fun q => { q with miss := q.miss + 1 }))
      if 2 ≤ (port d p).miss then markLost d p else d
  else if st = psLost then
    if q.sfOk then
      let d := setPort d p (fun q => { q with good := q.good + 1 })
      if 4 ≤ (port d p).good then enterActive (setPort d p (fun q => { q with miss := 0 })) p else d
    else missed (setPort d p (fun q => { q with good := 0 }))
  else d

/-- Whether a port's superframe is still under way at Tk + 3 µs: some of the closed window's blocks have come, and neither
the last nor the EOF. Its good blocks are fed until Tk + 6 µs (R82, log entry 149). -/
def underWay (d : Dev) (p : Nat) : Bool :=
  decide (16 * (d.k - 1) < (port d p).came) && decide ((port d p).blk < 16 * d.k) && !(port d p).sfOk

/-- SUPERFRAME_DEADLINE at Tk + 3 µs: blocks of the closed window that never came are gaps, and every port's superframe
is judged. -/
def superframeDeadline (d : Dev) : Dev :=
  if d.phase ≠ 0 then d
  else
    let d := (mappedPorts d).foldl (fun d p => if underWay d p then d else gapTo d p (16 * d.k)) d
    let d := queueAllStarts d
    let d := (mappedPorts d).foldl portDeadline d
    { d with phase := 1 }

/-- SUPERFRAME_DEADLINE. -/
def execSuperframeDeadline (s : State) : Host.Outcome State Fault Refusal := .next { s with d := superframeDeadline s.d }

end Sys2Proof.Machine
end

