-- ==== Sys2Proof/Machine/RimeRx.lean ====
section
/-!
DEFINITION. Reception on Rime (R333 to R335, R340 to R344, R353 to R355, R360, R363, R366 to R371): the checks of a
frame, what a valid one does to the controller, the time base and the requests under way, and adoption.
-/
namespace Sys2Proof.Machine

/-- A frame that failed a step of R333: the counter it moves. -/
inductive RxFault where
  | format | crc | tag | epoch | schedule | timing
deriving DecidableEq, Repr

/-- Count a failed segment frame on a channel. -/
def countRx (d : Dev) (ch : Nat) (f : RxFault) : Dev :=
  match f with
  | .format => incSatPart d (Reg.RIMEL_CNT_CRC_CNT ch) 16 16 1
  | .crc => incSatPart d (Reg.RIMEL_CNT_CRC_CNT ch) 0 16 1
  | .schedule => incSatPart d (Reg.RIMEL_CNT_TIME_CNT ch) 16 16 1
  | .timing => incSatPart d (Reg.RIMEL_CNT_TIME_CNT ch) 0 16 1
  | .tag => incSatPart { d with rime := { d.rime with authTag := d.rime.authTag + 1 } } Reg.RIMEL_CNT_AUTH_CNT 0 16 1
  | .epoch => incSatPart { d with rime := { d.rime with authEpoch := d.rime.authEpoch + 1 } } Reg.RIMEL_CNT_AUTH_CNT 16 16 1

/-! ### The frame's fields -/

def fVer (f : List Byte) : Nat := byteAt f 0 / 64
def fSlot (f : List Byte) : Nat := byteAt f 0 % 64
def fMode (f : List Byte) : Nat := byteAt f 1 / 32
def fStart (f : List Byte) : Bool := bit (byteAt f 1) 4
def fSync (f : List Byte) : Bool := bit (byteAt f 1) 3
def fAuth (f : List Byte) : Bool := bit (byteAt f 1) 2
def fStat (f : List Byte) : Bool := bit (byteAt f 1) 1
def fCyc (f : List Byte) : Nat := beAt f 2 3
def fLen (f : List Byte) : Nat := byteAt f 5
def fPayload (f : List Byte) : List Byte := sub f 6 (fLen f)

/-- Whether a frame's tag verifies: against the device's epoch once INTEGRATED, else against the epoch of its status
block. `n` is the header's length. -/
def tagOk (d : Dev) (f : List Byte) (n : Nat) (epoch : Nat) : Bool :=
  let body := f.take (f.length - 4)
  let k := body.length - 8
  rdB d Reg.RIMEL_KEY_STAT_VALID && decide (n + 8 ≤ body.length) && body.drop k == rimeTag d epoch (f.take n) (sub f n (k - n))

/-- Steps 1 and 2 of R333 for a segment frame. -/
def rxCheck2 (framed : Bool) (codeErrs : Nat) (f : List Byte) : Option RxFault :=
  if codeErrs ≠ 0 then some .crc
  else if framed = false ∨ f.length < 10 ∨ 112 < fLen f ∨ f.length ≠ 10 + fLen f then some .format
  else if crc32c (f.take (f.length - 4)) ≠ beAt f (f.length - 4) 4 then some .crc
  else none

/-- Steps 1 to 4 of R333 for a segment frame. -/
def rxCheck4 (d : Dev) (framed : Bool) (codeErrs : Nat) (f : List Byte) : Option RxFault :=
  if (rxCheck2 framed codeErrs f).isSome then rxCheck2 framed codeErrs f
  else if fVer f = 0 ∨ 2 < fVer f ∨ (fVer f = 1 ∧ fAuth f) then some .format
  else
    let integ := csOf d == csINTEGRATED
    let stEpoch := beAt f 14 4
    if fAuth f = false ∧ rdB d Reg.RIMEL_CTRL_AUTH_REQ then some .tag
    else if integ && fStat f && fVer f == 2 && stEpoch != epochOf d then some .epoch
    else if fAuth f && !tagOk d f 6 (if integ || !fStat f then epochOf d else stEpoch) then some .tag
    else none

/-- Step 5: the slot is owned by another node in the schedule of the frame's mode, and, once INTEGRATED, mode and counter
are those in force. -/
def rxCheck5 (d : Dev) (f : List Byte) : Bool :=
  let o := slotOwner d (fMode f) (fSlot f)
  decide (o ≤ 63) && o != myNode d && (csOf d != csINTEGRATED || (fMode f == rMode d && fCyc f == cyc24 d))

/-- The deviation of a frame from an action point `ap` ns after the cycle's start (R355). -/
def rxDev (d : Dev) (ch sof ap : Nat) : Int := (sof : Int) - (rxDly d ch : Nat) - (ap : Nat)

/-- A static slot's action point. -/
def slotAp (s : Nat) : Nat := 12500 * s + 1250

/-! ### Adoption (R342, R360) -/

/-- Whether a status frame may be adopted. -/
def adoptable (d : Dev) (f : List Byte) : Bool := fStat f && (fStart f || fSync f) && modeHeld d (fMode f)

/-- The tick count's move to an adopted time that lies `ofs` ns ahead of the device's own: the adopted tick count of the
next edge, and the phase difference. -/
def adoptTick (d : Dev) (ofs : Int) : Int × Int :=
  let a : Int := ((d.k + 1) * 50000 : Nat) + ofs
  let ka := (a + 25000).fdiv 50000
  (ka, a - ka * 50000)

/-- The node adopts the timing and the counter of a status frame, or refuses to move its count back. -/
def adopt (d : Dev) (ch sof : Nat) (f : List Byte) : Dev :=
  let epoch := if fVer f = 2 then beAt f 14 4 else epochOf d
  let full := epoch * 2 ^ 24 + fCyc f
  let t : Int := (full * 1000000 + slotAp (fSlot f) + rxDly d ch : Nat)
  let ofs := t - ((cycNo d * 1000000 + sof : Nat) : Int)
  let (ka, ph) := adoptTick d ofs
  let win : Int := (rd d Reg.TIME_CTRL_SLEW_WIN : Nat)
  let next : Int := (d.k + 1 : Nat)
  let enter := fun (d : Dev) =>
    let d := setCs d csCHECK
    let d := wr d Reg.RIMEL_CYCLE_CYC (fCyc f)
    let d := segM d (fun c => { c with adopted := slotOwner d (fMode f) (fSlot f), adCyc := fCyc f, checked := false, since := 0 })
    { d with rime := { d.rime with joinMode := if fMode f = rMode d then none else some (fMode f) } }
  if ka = next ∧ (ph.natAbs : Int) ≤ win then
    let d := enter d
    let d := wrB (wrB d Reg.TIME_STAT_SLEWING (20 < ph.natAbs)) Reg.TIME_STAT_ALIGNED (decide (ph.natAbs ≤ 20))
    { d with rime := { d.rime with slew := ph } }
  else if next < ka then
    let d := wrB (wrB (enter d) Reg.TIME_STAT_SLEWING false) Reg.TIME_STAT_ALIGNED false
    { d with rime := { d.rime with move := some ofs, slew := 0 } }
  else
    let d := wrB d Reg.TIME_STAT_BEHIND_EV true
    let d := incSatPart d Reg.TIME_STEP_CNT_CNT 16 16 1
    let d := raise d Src.TIME_BEHIND 0 0 (ofS 32 ph) (ofS 32 ka)
    toListen d

/-! ### What a valid frame carries (R335, R363, R242) -/

/-- A request or an echo in a status block (R363): a request of a first cycle is taken up, the lowest of several modes,
and echoed by a sync node that holds the bound variant and has no change pending. -/
def mcRx (d : Dev) (node : Nat) (p : List Byte) : Dev :=
  let req := bit (byteAt p 1) 7
  let echo := bit (byteAt p 1) 6
  let m := byteAt p 1 % 8
  let can := isSync d (rMode d) (myNode d) && modeHeld d m && !rdB d Reg.RIMET_MC_PEND
  let fresh : McReq := ⟨m, cycNo d, false, can, [], none⟩
  match d.rime.mc with
  | none => if req then { d with rime := { d.rime with mc := some fresh } } else d
  | some r =>
    if req && cycNo d == r.cyc && decide (m < r.mode) then
      let d := if r.mine then raise (wrB d Reg.RIMET_MC_LAPSE true) Src.RIMET_MC_LAPSE 0 0 r.mode (cyc24 d) else d
      { d with rime := { d.rime with mc := some fresh } }
    else if (req || echo) && m == r.mode && decide (r.cyc < cycNo d) then
      { d with rime := { d.rime with mc := some { r with nodes := if r.nodes.contains node then r.nodes else r.nodes ++ [node] } } }
    else d

/-- A status block of another node: its record, its netting record, and its request. -/
def statusRx (d : Dev) (node : Nat) (p : List Byte) : Dev :=
  let d := { d with rime := { d.rime with status := SMap.put d.rime.status node (cycNo d, p) } }
  let d := if byteAt p 16 / 16 ≠ 0 ∧ byteAt p 16 / 16 = rd d Reg.NET_XCFG_DOMAIN ∧ d.net.recs.any (fun r => r.1 == node) = false then
      { d with net := { d.net with recs := d.net.recs ++ [(node, byteAt p 17, beAt p 20 4, beAt p 24 4)] } }
    else d
  if csOf d = csINTEGRATED then mcRx d node p else d

/-- The first valid copy of a slot's frame is used; a second that differs is counted (R334). -/
def slotRx (d : Dev) (ch sof : Nat) (gdev : Int) (f : List Byte) : Dev :=
  let s := fSlot f
  let node := slotOwner d (fMode f) s
  let body := f.take (f.length - 4)
  match SMap.find d.rime.seg.rx s with
  | some x => if x.bytes == body then d else incSat d Reg.RIMEL_CNT_DIFF_CNT 1
  | none =>
    let d := segM d (fun c => { c with
      rx := SMap.put c.rx s ⟨body, sof, ch == 1⟩,
      seen := if c.seen.contains node then c.seen else c.seen ++ [node] })
    let d := if fSync f then
        { d with rime := { d.rime with
            devs := d.rime.devs ++ [(s, node, rxDev d ch sof (slotAp s))], gdevs := d.rime.gdevs ++ [gdev] } }
      else d
    if fStat f then statusRx d node (fPayload f) else d

/-! ### The segment controller on a valid frame (R340, R343, R344) -/

/-- Whether a frame is consistent with a leader's cycle. -/
def leadFits (d : Dev) (ch sof : Nat) (f : List Byte) : Bool :=
  fMode f == rMode d && fCyc f == cyc24 d && decide ((rxDev d ch sof (slotAp (fSlot f))).natAbs ≤ 1000)

/-- The segment is not silent: the listen timer of CS_WAIT starts again (R340, R341). -/
def restartListen (d : Dev) : Dev :=
  segM d (fun c => { c with quietK := d.k, next := if csOf d = csWAIT then none else c.next })

/-- A valid frame of another node, in the controller's state. -/
def stateRx (d : Dev) (ch sof : Nat) (f : List Byte) : Dev :=
  let node := slotOwner d (fMode f) (fSlot f)
  let st := csOf d
  if st = csLISTEN ∨ st = csWAIT then
    if adoptable d f then adopt d ch sof f else restartListen d
  else if st = csLEAD then
    if fStart f || !leadFits d ch sof f then csAbort d 1
    else if 1 ≤ d.rime.seg.att ∧ d.rime.seg.att ≤ 7 then
      segM d (fun c => { c with conf := if c.conf.contains node then c.conf else c.conf ++ [node] })
    else d
  else if st = csCHECK then
    if node = d.rime.seg.adopted ∧ fStat f ∧ fCyc f = (d.rime.seg.adCyc + 1) % 2 ^ 24 ∧
        (rxDev d ch sof (slotAp (fSlot f))).natAbs ≤ 1000 then segM d (fun c => { c with checked := true })
    else d
  else d

/-! ### The window of 800 to 1,000 µs (R353, R354, R370) -/

/-- Whether a frame of the window is a reference frame in the reference slots, or a downlink frame after them (R354, R370). -/
def winFrameOk (sof : Nat) (f : List Byte) : Bool :=
  if sof < 860000 then !fStat f && fSync f && decide (fSlot f ≤ 3) && fLen f == (if fAuth f then 24 else 16)
  else !fStat f && fLen f == (if fAuth f then 56 else 48)

/-- A frame of the window that passes steps 1 to 4 and the rules of the window: a reference frame, but for the node's own read
back, or the downlink. -/
def windowRx (d : Dev) (ch sof : Nat) (f : List Byte) : Dev :=
  let p := fPayload f
  if sof < 860000 then
      let r := fSlot f
      let x := (r, byteAt p 1, rxDev d ch sof (800000 + 12500 * r + 1250), bit (byteAt p 0) 7)
      if byteAt p 1 = myNode d ∨ d.rime.refs.any (fun y => y.1 == r) then d else { d with rime := { d.rime with refs := d.rime.refs ++ [x] } }
  else if ¬ d.rime.down.any (fun x => x.1 == cycNo d) then
    let d := takeDown d (p.take 48)
    if cycNo d % 4 = 3 then lineOutcome d p else d
  else d

/-! ### RIME_FRAME_RX -/

/-- A frame arrives on channel `ch` of the segment, its SOF `sof` ns after the receiver's cycle start and `gdev` ns after
the guardian's action point. `framed` says that SOF and EOF enclosed the data characters `f`; `codeErrs` counts the code
and disparity errors. -/
def frameRx (d : Dev) (ch sof : Nat) (gdev : Int) (framed : Bool) (codeErrs : Nat) (f : List Byte) : Dev :=
  let st := csOf d
  let slot := sof / 12500
  let own := segSends d && decide (slot < 64) && d.rime.seg.sent.contains slot
  if st = csDISABLED ∨ fenceHolds d 8 ch = true ∨ 2 ≤ ch ∨ rdFBit d Reg.PWR_STAT_DOM_ON 11 = false then d
  else match rxCheck4 d framed codeErrs f with
    | some e =>
      let d := countRx d ch e
      if own then
        let d := if statusSlot d == some slot then segM d (fun c => { c with ownFail := c.ownFail ++ [ch] }) else d
        let all := [0, 1].all (fun x => fenceHolds d 8 x || d.rime.seg.ownFail.contains x)
        if st = csLEAD && all then csAbort d 1 else d
      else if st = csLEAD && (rxCheck2 framed codeErrs f).isSome then csAbort d 1
      else if st = csWAIT then restartListen d
      else d
    | none =>
      let ok := fun (d : Dev) =>
        let d := incWrap d (Reg.RIMEL_CNT_OK_CNT ch) 1
        segM d (fun c => { c with chOk := if c.chOk.contains ch then c.chOk else c.chOk ++ [ch], chDown := c.chDown.erase ch })
      if own then
        let d := ok d
        if statusSlot d == some (fSlot f) then segM d (fun c => { c with own := true }) else d
      else if 799000 ≤ sof ∧ (st = csINTEGRATED ∨ st = csJOIN) then
        (if winFrameOk sof f then windowRx (ok d) ch sof f else d)
      else if rxCheck5 d f = false then
        (if st = csWAIT then restartListen (countRx d ch .schedule) else countRx d ch .schedule)
      else if st = csINTEGRATED ∧ 1000 < (rxDev d ch sof (slotAp (fSlot f))).natAbs then countRx d ch .timing
      else stateRx (slotRx (ok d) ch sof gdev f) ch sof f

/-- RIME_FRAME_RX. -/
def execRimeFrameRx (ch sof : Nat) (gdev : Int) (framed : Bool) (codeErrs : Nat) (frame : List Byte) (s : State) :
    Host.Outcome State Fault Refusal :=
  .next { s with d := frameRx s.d ch sof gdev framed codeErrs frame }

/-! ### TRUNK_FRAME_RX (R366 to R369, R371) -/

/-- The check of a trunk frame: R333 with the trunk's header of 8 bytes. -/
def trunkCheck (d : Dev) (ch sof : Nat) (framed : Bool) (codeErrs : Nat) (f : List Byte) : Bool :=
  let body := f.take (f.length - 4)
  let ver := byteAt f 0 / 64
  let auth := bit (byteAt f 0) 3
  let ref := bit (byteAt f 0) 4
  let integ := tcsOf d == csINTEGRATED
  let epoch := if integ || ref then epochOf d else beAt f 12 4
  let seg := byteAt f 1
  let ap := if ref then 3840000 + 15000 * seg + 1500 else 15000 * seg + 1500
  codeErrs == 0 && framed && decide (12 ≤ f.length) && decide (fLen f ≤ 128) && f.length == 12 + fLen f &&
  crc32c body == beAt f (f.length - 4) 4 && (ver == 1 || ver == 2) && !(ver == 1 && auth) &&
  (auth || !rdB d Reg.RIMEL_CTRL_AUTH_REQ) && (!auth || tagOk d f 8 epoch) &&
  (ref || !integ || ver != 2 || beAt f 12 4 == epochOf d) &&
  (if ref then decide (seg ≤ 3) && fLen f == (if auth then 24 else 16)
   else ((trunkRec d (byteAt f 0 % 8)).map (fun r => bit r.gw seg)).getD false && seg != mySeg d) &&
  (!integ || (byteAt f 0 % 8 == rMode d && beAt f 2 3 == tcyc24 d &&
    decide (((sof : Int) - (trunkDly d ch : Nat) - (ap : Nat)).natAbs ≤ 1000)))

/-- Trunk synchronisation is lost, or line and segment time are split (cause 6, R369). -/
def trunkLoss (d : Dev) (cause : Nat) : Dev :=
  let d := wrB d Reg.RIMET_STAT_SYNC_LOSS_EV true
  raise d Src.RIMET_SYNC_LOSS 0 0 cause (tcyc24 d)

/-- The trunk's listening state: that of a trunk master is CS_WAIT while it has attempts left. -/
def trunkListen (d : Dev) : Dev :=
  let c := d.rime.trunk
  let st := if (trunkRank d).isSome && decide (c.attempts < rd d Reg.RIMEL_CS_CS_MAX) then csWAIT else csLISTEN
  trunkM (wr d Reg.RIMET_STAT_CSTATE st) (fun c => { c with next := none, quietK := d.k, sent := [], conf := [] })

/-- A trunk cold-start attempt ends. -/
def trunkAbort (d : Dev) (why : Nat) : Dev :=
  let d := wrB d Reg.RIMET_STAT_CS_ABORT_EV true
  trunkListen (raise d Src.RIMET_CS_ABORT 0 0 why d.rime.trunk.attempts)

/-- A gateway adopts trunk timing, unless line time differs from its segment time by more than 25,000 ns. -/
def trunkAdopt (d : Dev) (ch sof : Nat) (f : List Byte) : Dev :=
  let diff : Int := ((beAt f 2 3 * 4000000 + 15000 * byteAt f 1 + 1500 + trunkDly d ch : Nat) : Int) -
    ((tcyc24 d * 4000000 + sof : Nat) : Int)
  if 25000 < diff.natAbs then
    let d := trunkLoss (wrB d Reg.TIME_STAT_SPLIT true) 6
    trunkM (wr d Reg.RIMET_STAT_CSTATE csLISTEN) (fun c => { c with next := none })
  else
    trunkM (wr d Reg.RIMET_STAT_CSTATE csCHECK) (fun c => { c with
      next := none, adopted := byteAt f 1, adCyc := beAt f 2 3, checked := false, since := 0 })

/-- The line's mode change as a gateway sees it in another gateway's block (R365). -/
def tmcRx (d : Dev) (seg : Nat) (p : List Byte) : Dev :=
  let req := bit (byteAt p 0) 6
  let echo := bit (byteAt p 0) 5
  let m := byteAt p 0 % 8
  match d.rime.line with
  | none => if req then { d with rime := { d.rime with line := some ⟨m, tcycNo d, false, false, [], none⟩ } } else d
  | some r =>
    if (req || echo) && m == r.mode && decide (r.t < tcycNo d) && !r.gws.contains seg then
      { d with rime := { d.rime with line := some { r with gws := r.gws ++ [seg] } } }
    else d

/-- A valid trunk frame: its gateway block or its reference, and the controller's step. -/
def trunkTake (d : Dev) (ch sof : Nat) (f : List Byte) : Dev :=
  let seg := byteAt f 1
  let p := sub f 8 (fLen f)
  let st := tcsOf d
  let dev : Int := (sof : Int) - (trunkDly d ch : Nat) - ((15000 * seg + 1500 : Nat) : Int)
  if bit (byteAt f 0) 4 then
    let r : Int := (sof : Int) - (trunkDly d ch : Nat) - ((3840000 + 15000 * seg + 1500 : Nat) : Int)
    if d.rime.trefs.any (fun x => x.1 == seg) then d else { d with rime := { d.rime with trefs := d.rime.trefs ++ [(seg, r)] } }
  else
    let d := trunkM d (fun c => { c with seen := if c.seen.contains seg then c.seen else c.seen ++ [seg], quietK := d.k })
    let d := { d with rime := { d.rime with gws := SMap.put d.rime.gws seg (tcycNo d, p) } }
    if st = csLISTEN ∨ st = csWAIT then trunkAdopt d ch sof f
    else if st = csLEAD then
      let fits := byteAt f 0 % 8 == rMode d && beAt f 2 3 == tcyc24 d && decide (dev.natAbs ≤ 1000)
      if bit (byteAt f 0) 5 || !fits then trunkAbort d 1
      else if 1 ≤ d.rime.trunk.att ∧ d.rime.trunk.att ≤ 7 then
        trunkM d (fun c => { c with conf := if c.conf.contains seg then c.conf else c.conf ++ [seg] })
      else d
    else if st = csCHECK then
      if seg = d.rime.trunk.adopted ∧ beAt f 2 3 = (d.rime.trunk.adCyc + 1) % 2 ^ 24 ∧ dev.natAbs ≤ 1000 then
        trunkM d (fun c => { c with checked := true })
      else d
    else if st = csINTEGRATED then tmcRx d seg p
    else d

/-- A trunk frame arrives on trunk channel `ch`, its SOF `sof` ns after the receiver's trunk cycle start. -/
def trunkRx (d : Dev) (ch sof : Nat) (framed : Bool) (codeErrs : Nat) (f : List Byte) : Dev :=
  if tcsOf d = csDISABLED ∨ fenceHolds d 8 (2 + ch) = true ∨ 2 ≤ ch ∨ rdFBit d Reg.PWR_STAT_DOM_ON 11 = false then d
  else
    let own := !d.rime.trunk.sent.isEmpty && sof / 15000 == mySeg d
    if own then
      if codeErrs == 0 && framed && decide (12 ≤ f.length) && crc32c (f.take (f.length - 4)) == beAt f (f.length - 4) 4 then
        trunkM (incSatPart d Reg.RIMET_CNT_CNT 0 16 1) (fun c => { c with own := true })
      else
        let d := trunkM (incSatPart d Reg.RIMET_CNT_CNT 16 16 1) (fun c => { c with ownFail := c.ownFail ++ [ch] })
        let all := [0, 1].all (fun x => fenceHolds d 8 (2 + x) || d.rime.trunk.ownFail.contains x)
        if tcsOf d = csLEAD && all then trunkAbort d 1 else d
    else if trunkCheck d ch sof framed codeErrs f then trunkTake (incSatPart d Reg.RIMET_CNT_CNT 0 16 1) ch sof f
    else
      let d := incSatPart d Reg.RIMET_CNT_CNT 16 16 1
      let bad := codeErrs != 0 || !framed || decide (f.length < 12) || crc32c (f.take (f.length - 4)) != beAt f (f.length - 4) 4
      if tcsOf d = csLEAD && bad then trunkAbort d 1
      else trunkM d (fun c => { c with quietK := d.k })

/-- TRUNK_FRAME_RX. -/
def execTrunkFrameRx (ch sof : Nat) (framed : Bool) (codeErrs : Nat) (frame : List Byte) (s : State) :
    Host.Outcome State Fault Refusal :=
  .next { s with d := trunkRx s.d ch sof framed codeErrs frame }

end Sys2Proof.Machine
end

