-- ==== Sys2Proof/Machine/Rime.lean ====
section
/-!
DEFINITION. The Rime controllers in time (R334, R339, R340, R346 to R349, R355 to R365, R368, R369): what happens at
cycle ends and tick edges, the corrections of the time base, mode changes, and the controllers' register commands.
-/
namespace Sys2Proof.Machine

/-! ### Cycle ends (R334, R335, R340, R346, R349) -/

/-- The median of signed values, the mean of the two middle ones truncated toward zero for an even count. -/
def insInt (x : Int) : List Int → List Int
  | [] => [x]
  | y :: ys => if x ≤ y then x :: y :: ys else y :: insInt x ys
def sortInt (l : List Int) : List Int := l.foldr insInt []
def median (l : List Int) : Int :=
  let s := sortInt l
  let n := s.length
  if n % 2 = 1 then s.getD (n / 2) 0 else (s.getD (n / 2 - 1) 0 + s.getD (n / 2) 0).tdiv 2

/-- The guardian's correction at a cycle's end, from the deviations on its own count. -/
def guardCorrect (d : Dev) : Dev :=
  let d := if d.rime.gdevs.isEmpty || !segSends d then d
    else wr d Reg.RIMEL_GRD_CORR (ofS 16 (clampI (-500) 500 (median d.rime.gdevs)))
  { d with rime := { d.rime with gdevs := [] } }

/-- A channel's cycles of silence while the other carried valid frames. -/
def silentNext (c : RimeCtl) (ch : Nat) : Nat :=
  if c.chOk.contains (1 - ch) && !c.chOk.contains ch then c.chSilent.getD ch 0 + 1 else 0

/-- The counts of a finished cycle and its emptied records; the frames it received go to the receive buffers. -/
def ctlRoll (c : RimeCtl) : RimeCtl :=
  { c with
    ownBad := if c.own then 0 else c.ownBad + 1,
    alone := if c.seen.isEmpty then c.alone + 1 else 0,
    chSilent := [silentNext c 0, silentNext c 1],
    prev := c.rx, rx := [], own := false, ownFail := [], seen := [], chOk := [], sent := [] }

/-- The state that a controller's finished cycle leads to at the boundary (R340): the next state, with its effect on
the attempt, confirmation and join counts. `owns` says that the node owns a slot. -/
def ctlNext (c : RimeCtl) (st : Nat) (owns : Bool) : Nat × RimeCtl :=
  if st = csLEAD then
    if 2 ≤ c.conf.length then (csINTEGRATED, { c with attempts := 0, conf := [] })
    else (st, { c with att := c.att + 1 })
  else if st = csCHECK then
    if c.since = 0 then (st, { c with since := 1 })
    else if c.checked then (csJOIN, { c with joinN := 0, sent := [], truncs := [] })
    else (csLISTEN, c)
  else if st = csJOIN then
    if !c.seen.isEmpty && (c.own || !owns) then
      (if c.joinN + 1 ≥ 2 then csINTEGRATED else st, { c with joinN := c.joinN + 1 })
    else (csLISTEN, c)
  else (st, c)

/-- A leading attempt begins (R340). -/
def beginLead (d : Dev) : Dev :=
  let d := armGuard (setCs d csLEAD)
  let d := wr d Reg.RIMEL_CS_ATTEMPTS (min 15 (rd d Reg.RIMEL_CS_ATTEMPTS + 1))
  segM d (fun c => { c with att := 0, conf := [], sent := [], own := false, ownFail := [] })

/-- The segment controller at a cycle boundary. -/
def segBoundary (d : Dev) : Dev :=
  let c := d.rime.seg
  let st := csOf d
  match c.next with
  | some n => if n = csLEAD then beginLead d else toListen d
  | none =>
    let (n, c') := ctlNext c st (statusSlot d).isSome
    let d := segM d (fun _ => c')
    if st = csLEAD ∧ n = st ∧ c.sent ≠ [] ∧ c.own = false then csAbort d 1
    else if st = csLEAD ∧ n = st ∧ 8 ≤ c'.att then csAbort d 0
    else if n = st then d
    else if n = csINTEGRATED then
      let d := if st = csLEAD then wr d Reg.RIMEL_CS_ATTEMPTS 0 else d
      { setCs d csINTEGRATED with rime := { (setCs d csINTEGRATED).rime with isoDone := false } }
    else if n = csJOIN then segM (armGuard (setCs d csJOIN)) (fun c => { c with joinN := 0 })
    else toListen d

/-- A waiting request starts in a cycle whose counter mod 16 is at most 12 (R363). -/
def mcStart (d : Dev) : Dev :=
  match d.rime.mcWait, d.rime.mc with
  | some m, none =>
    if cyc24 d % 16 ≤ 12 ∧ rimeState d = 1 then
      { d with rime := { d.rime with
          mcWait := none,
          mc := some ⟨m, cycNo d, true, isSync d (rMode d) (myNode d) && modeHeld d m && !rdB d Reg.RIMET_MC_PEND, [], none⟩ } }
    else d
  | _, _ => d

/-- The SEGMENT and LINE barriers arrived locally, with their generations (R177). -/
def arrivals (d : Dev) : List (Nat × Nat) :=
  (List.range 16).flatMap (fun b => [3, 4].flatMap (fun sc =>
    if arrivedLocally d (barKey sc 0 b) then [(b, (barrier d (barKey sc 0 b)).gen)] else []))

/-- The segment's cycle boundary: counts and buffers of the cycle that ends, then the controller's state. -/
def segCycle (d : Dev) : Dev :=
  let c := d.rime.seg
  let seen := fun (lo : Nat) => (c.seen.filter (fun n => decide (lo ≤ n ∧ n < lo + 32))).foldl (fun a n => a ||| 2 ^ (n - lo)) 0
  let d := wr (wr d Reg.RIMEL_SEEN_LO_NODES (seen 0)) Reg.RIMEL_SEEN_HI_NODES (seen 32)
  let d := if d.rime.authTag + d.rime.authEpoch = 0 then d else raise d Src.RIMEL_AUTH 0 0 d.rime.authTag d.rime.authEpoch
  let d := { d with rime := { d.rime with
      authTag := 0, authEpoch := 0, lastRanks := d.rime.refs.map (·.1), refs := [], devs := [],
      arrWas := d.rime.arr, arr := arrivals d } }
  let d := segBoundary (guardCorrect d)
  let d := segM d ctlRoll
  let d := if csOf d = csINTEGRATED then d else segM d (fun c => { c with ownBad := 0, alone := 0 })
  let d := if csOf d = csCHECK then d else wr d Reg.RIMEL_CYCLE_CYC (cyc24 d)
  mcStart d

/-- The trunk's boundary, at a trunk cycle start. -/
def trunkCycle (d : Dev) : Dev :=
  let c := d.rime.trunk
  let st := tcsOf d
  let d := (List.range 8).foldl (fun d i => wr d (Reg.RIMET_SEEN_GW i)
    ((c.seen.filter (fun n => n / 32 == i)).foldl (fun a n => a ||| 2 ^ (n % 32)) 0)) d
  let d := wr d Reg.RIMET_CYCLE_TCYC (tcyc24 d)
  let set := fun (d : Dev) (n : Nat) => trunkM (wr d Reg.RIMET_STAT_CSTATE n) (fun c => { c with next := none })
  let d := match c.next with
    | some n =>
      if n = csLEAD then
        trunkM (set d csLEAD) (fun c => { c with attempts := c.attempts + 1, att := 0, conf := [], blocked := rdB d Reg.RIMEL_STAT_GCLK_FAIL })
      else trunkListen d
    | none =>
      let (n, c') := ctlNext c st true
      let d := trunkM d (fun _ => c')
      if st = csLEAD ∧ n = st ∧ c.sent ≠ [] ∧ c.own = false then trunkAbort d 1
      else if st = csLEAD ∧ n = st ∧ 8 ≤ c'.att then trunkAbort d 0
      else if st = csINTEGRATED ∧ 2 ≤ (ctlRoll c).ownBad then trunkListen (trunkLoss d 1)
      else if st = csINTEGRATED ∧ 4 ≤ (ctlRoll c).alone then trunkListen (trunkLoss d 2)
      else if n = st then d
      else if n = csJOIN then trunkM (set d csJOIN) (fun c => { c with blocked := rdB d Reg.RIMEL_STAT_GCLK_FAIL })
      else if n = csINTEGRATED then set d csINTEGRATED
      else trunkListen d
  let d := trunkM d ctlRoll
  let d := if tcsOf d = csINTEGRATED then d else trunkM d (fun c => { c with ownBad := 0, alone := 0 })
  let line := match d.rime.line with
    | some r => if r.t + 2 < tcycNo d then none else some r
    | none => none
  let d := { d with rime := { d.rime with trefs := [], line := line } }
  match line with
  | some r =>
    if !r.mine && r.t + 1 == tcycNo d && d.rime.mc.isNone then { d with rime := { d.rime with mcWait := some r.mode } } else d
  | none => d

/-- A segment that agreed, and hears no outcome by the end of its trunk cycles, lapses (R365). -/
def lineLapse (d : Dev) : Dev :=
  match d.rime.mc with
  | some r =>
    match r.agreed with
    | some t =>
      if t + 3 < tcycNo d then
        let d := raise (wrB d Reg.RIMET_MC_LAPSE true) Src.RIMET_MC_LAPSE 0 0 r.mode (cyc24 d)
        { d with rime := { d.rime with mc := none } }
      else d
    | none => d
  | none => d

/-! ### The tick generator (R356, R360, R361) -/

/-- The share of a correction of `x` ns that tick `i` of a cycle takes. -/
def tickShare (x : Int) (i : Nat) : Int :=
  let n := x.natAbs
  let s : Int := ((n / 20 + (if i < n % 20 then 1 else 0) : Nat) : Int)
  if x < 0 then -s else s

/-- The number of the next tick: one more, or after an adoption the first adopted edge at least a tick away. -/
def advanceTick (d : Dev) : Dev :=
  match d.rime.move with
  | some ofs =>
    let k' := tickAfter d
    let (ka, ph) := adoptTick d ofs
    let old := d.k
    let d := streamsGap (renumber d (k' - (d.k + 1)))
    let d := { d with k := k', winTick := some old, rime := { d.rime with move := none } }
    let d := wrB (wrB d Reg.TIME_STAT_STEP_EV true) Reg.TIME_STAT_ALIGNED true
    let d := incSatPart d Reg.TIME_STEP_CNT_CNT 0 16 1
    raise d Src.TIME_STEP 0 0 (ofS 32 ph) (ofS 32 ka)
  | none =>
    let d := { d with k := d.k + 1 }
    if d.rime.slew = 0 then d
    else
      let s : Int := (rd d Reg.TIME_CTRL_SLEW_NS : Nat)
      let x := d.rime.slew
      let x' := if x.natAbs ≤ s.natAbs then 0 else if x < 0 then x + s else x - s
      let d := { d with rime := { d.rime with slew := x' } }
      wrB (wrB d Reg.TIME_STAT_SLEWING (x' != 0)) Reg.TIME_STAT_ALIGNED (decide (x'.natAbs ≤ 20))

/-- The zones in PRODUCTION, as a mask. -/
def productionZones (d : Dev) : Nat :=
  (zones d).foldl (fun m z => if zmode d z = modeProduction then setBit m z true else m) 0

/-- The holds of R35 become those of `m`: at once on a SOLO device, as an input of the cycle on an ACTIVE one, and by the
partner alone on a STANDBY device (R551). -/
def holdZones (d : Dev) (m : Nat) : Dev :=
  if isStandby d then d
  else if isActive d then
    let last := (d.hostCyc.filterMap (fun x => match x with | .hold m => some m | _ => none)).getLastD (rd d Reg.SYS_ZHOLD_ZONES)
    if last = m then d else { d with hostCyc := d.hostCyc ++ [.hold m] }
  else wr d Reg.SYS_ZHOLD_ZONES m

/-- The corrections in force in this tick. -/
def timeTick (d : Dev) : Dev :=
  let d := if d.k % 20 = 0 then
      let ext := if d.k % 80 = 0 then d.rime.ext.getD 0 else 0
      let d := if d.k % 80 = 0 ∧ d.rime.ext.isSome then wr d Reg.TIME_OFS_EXT (ofS 16 ext) else d
      { d with rime := { d.rime with
          cCur := d.rime.cNext + ext, cNext := 0, ext := if d.k % 80 = 0 then none else d.rime.ext } }
    else d
  { d with rime := { d.rime with adj := tickShare d.rime.cCur (d.k % 20) } }

/-- A tick of the isolation has passed: `TIME_ISO` counts the whole cycles of 20 ticks since the loss or the takeover (R362,
R551), which need not begin at a boundary. -/
def isoCount (d : Dev) : Dev :=
  if rimeState d ≠ 2 then d
  else
    let n := d.rime.isoTicks + 1
    let d := { d with rime := { d.rime with isoTicks := n } }
    if n % 20 = 0 then incSat d Reg.TIME_ISO_CYC 1 else d

/-- The holds of R35 at a cycle boundary: none once the device is INTEGRATED, and every zone in PRODUCTION once the limit of
2,000 cycles has been reported. -/
def boundaryHolds (d : Dev) : Dev :=
  if rimeState d = 1 then holdZones d 0
  else if rimeState d = 2 ∧ d.rime.isoDone = true then holdZones d (productionZones d)
  else d

/-- What the Rime blocks do at a tick edge, once the tick count has moved. -/
def rimeTick (d : Dev) : Dev :=
  let d := isoCount d
  let d := if d.k % 20 = 0 then lineLapse (segCycle (boundaryHolds d)) else d
  let d := if d.k % 80 = 0 then mcStart (trunkCycle d) else d
  timeTick d

/-! ### The corrections (R355 to R358, R381) -/

/-- The device has no time base of its own to correct: not INTEGRATED, and not a STANDBY that follows its partner. -/
def followsPartner (d : Dev) : Bool := isStandby d && rimeState d != 1 && d.sch.tickD.isSome

/-- A clock limit is exceeded (R358): 1 offset, 2 rate, 3 reference absent. -/
def clockLoss (d : Dev) (why x : Nat) : Dev :=
  let d := wrB d Reg.TIME_STAT_CLOCK_EV true
  syncLoss (raise d Src.TIME_CLOCK 0 0 why x) 3

/-- The values that the midpoint method keeps of n sorted ones. -/
def midKept (l : List Int) : List Int :=
  let s := sortInt l
  let n := s.length
  let k := if 7 ≤ n then 2 else if 3 ≤ n then 1 else 0
  (s.drop k).take (n - 2 * k)

/-- The mean of the largest and smallest of sorted values, truncated toward zero. -/
def midpoint (s : List Int) : Int := (s.headD 0 + s.getLastD 0).tdiv 2

/-- Insert a deviation by slot. -/
def insDev (x : Nat × Nat × Int) : List (Nat × Nat × Int) → List (Nat × Nat × Int)
  | [] => [x]
  | y :: ys => if x.1 ≤ y.1 then x :: y :: ys else y :: insDev x ys

/-- The deviations the midpoint method uses: of the 12 lowest slots with `SYNC`, and 0 for a sync node itself. -/
def midUsed (d : Dev) : List (Nat × Int) :=
  ((d.rime.devs.foldr insDev []).take 12).map (fun x => (x.2.1, x.2.2)) ++
  (if isSync d (rMode d) (myNode d) then [(myNode d, 0)] else [])

/-- Apply a formed C: within the limit it is spread over the next cycle. -/
def applyC (d : Dev) (c : Int) : Dev :=
  if (rd d Reg.TIME_LIM_OFS_LIM : Int) < (c.natAbs : Int) then clockLoss d 1 (ofS 32 c)
  else wr { d with rime := { d.rime with cNext := c } } Reg.TIME_OFS_C (ofS 16 c)

/-- Keep the senders a cycle's method used, for the rate. -/
def keepUsed (d : Dev) (u : List (Nat × Int)) : Dev :=
  { d with rime := { d.rime with hist := ((cycNo d, u) :: d.rime.hist).take 17 } }

/-- TIME_OFFSET_CORRECTION at 850 µs of a cycle, in its tick 17. A time master of a rank above 0 that receives no reference
frame counts the cycle as one without a reference (R358). -/
def offsetCorrection (d : Dev) : Dev :=
  if d.k % 20 ≠ 17 then d
  else if followsPartner d then
    let x := d.sch.tickD.getD 0
    applyC (keepUsed (wr d Reg.TIME_STAT_METHOD 1) [(rd d Reg.SCH_CFG_PNODE, x)]) x
  else if rimeState d ≠ 1 then d
  else if timeMethod d = 1 then
    let d := wr d Reg.TIME_STAT_METHOD 1
    let ranks := d.rime.refs.map (·.1)
    let master := isMaster d ranks
    let d := wrB d Reg.TIME_STAT_MASTER master
    let best := d.rime.refs.foldl (fun (a : Option (Nat × Nat × Int × Bool)) r => match a with
      | some b => if r.1 < b.1 then some r else a
      | none => some r) none
    if master then
      let d := wr (wr d Reg.TIME_PREC_NSYNC 1) Reg.TIME_PREC_NS 0
      let n := if ranks.isEmpty && rd d Reg.TIME_SYNC_MRANK != 0 then d.rime.noRef + 1 else 0
      let d := keepUsed { d with rime := { d.rime with noRef := n } } [(myNode d, 0)]
      if 8 ≤ n then clockLoss d 3 n else applyC d 0
    else match best with
      | some r =>
        let d := wr (wr (wr d Reg.TIME_STAT_REF_RANK r.1) Reg.TIME_PREC_NSYNC 1) Reg.TIME_PREC_NS 0
        applyC (keepUsed { d with rime := { d.rime with noRef := 0 } } [(r.2.1, r.2.2.1)]) r.2.2.1
      | none =>
        let n := d.rime.noRef + 1
        let d := keepUsed { d with rime := { d.rime with noRef := n } } []
        if 8 ≤ n then clockLoss d 3 n else d
  else
    let u := midUsed d
    let kept := midKept (u.map (·.2))
    let d := wrB (wr d Reg.TIME_STAT_METHOD 2) Reg.TIME_STAT_MASTER false
    let d := wr (wr d Reg.TIME_PREC_NSYNC u.length) Reg.TIME_PREC_NS (kept.getLastD 0 - kept.headD 0).toNat
    let d := keepUsed d u
    if u.isEmpty then d else applyC d (midpoint kept)

/-- TIME_OFFSET_CORRECTION. -/
def execTimeOffsetCorrection (s : State) : Host.Outcome State Fault Refusal := .next { s with d := offsetCorrection s.d }

/-- TIME_RATE_CORRECTION at the end of a cycle ≡ 15 mod 16: half a ppb is left open (log entry 58). -/
def rateCorrection (d : Dev) : Dev :=
  if cycNo d % 16 ≠ 15 ∨ ¬(rimeState d = 1 ∨ followsPartner d) then d
  else
    let at_ := fun n => ((d.rime.hist.find? (fun e => e.1 == n)).map (·.2)).getD []
    let diffs := (at_ (cycNo d)).filterMap (fun x =>
      ((at_ (cycNo d - 16)).find? (fun y => y.1 == x.1)).map (fun y => x.2 - y.2))
    if diffs.isEmpty ∨ cycNo d < 16 then d
    else
      let x := (if rd d Reg.TIME_STAT_METHOD = 1 then diffs.headD 0 else midpoint (midKept diffs)) * 125
      let (y, d) := if x % 2 = 0 then (x / 2, d) else (x.fdiv 2 + (freeVal d % 2 : Nat), useFree d)
      let r := toS 32 (rd d Reg.TIME_RATE_PPB) + y
      if (rd d Reg.TIME_LIM_RATE_LIM * 1000 : Int) < (r.natAbs : Int) then clockLoss d 2 (ofS 32 r)
      else wr d Reg.TIME_RATE_PPB (ofS 32 r)

/-- TIME_RATE_CORRECTION. -/
def execTimeRateCorrection (s : State) : Host.Outcome State Fault Refusal := .next { s with d := rateCorrection s.d }

/-! ### Controller events (R334, R340, R341, R348, R349, R362) -/

/-- CS_LISTEN_TIMEOUT: the medium has been silent for 2 + `RANK` cycles in CS_WAIT; the attempt begins at the next cycle
boundary (R339). -/
def listenTimeout (d : Dev) (trunk : Bool) : Dev :=
  if trunk then
    if tcsOf d = csWAIT ∧ d.rime.trunk.quietK + 80 * (2 + (trunkRank d).getD 0) ≤ d.k then
      trunkM d (fun c => { c with next := some csLEAD })
    else d
  else if csOf d = csWAIT ∧ d.rime.seg.quietK + 20 * (2 + rd d Reg.RIMEL_NODE_RANK) ≤ d.k then
    segM d (fun c => { c with next := some csLEAD })
  else d

/-- CS_LISTEN_TIMEOUT. -/
def execCsListenTimeout (trunk : Bool) (s : State) : Host.Outcome State Fault Refusal := .next { s with d := listenTimeout s.d trunk }

/-- CS_ATTEMPT_END: attempt cycle 7 ends with fewer than two confirming nodes. -/
def attemptEnd (d : Dev) (trunk : Bool) : Dev :=
  if trunk then
    if tcsOf d = csLEAD ∧ 7 ≤ d.rime.trunk.att ∧ d.rime.trunk.conf.length < 2 then trunkAbort d 0 else d
  else if csOf d = csLEAD ∧ 7 ≤ d.rime.seg.att ∧ d.rime.seg.conf.length < 2 then csAbort d 0 else d

/-- CS_ATTEMPT_END. -/
def execCsAttemptEnd (trunk : Bool) (s : State) : Host.Outcome State Fault Refusal := .next { s with d := attemptEnd s.d trunk }

/-- RIME_CH_FAIL: a channel silent for 8 consecutive cycles in each of which the other carried valid frames (R334). -/
def chFail (d : Dev) (ch : Nat) : Dev :=
  if ch < 2 ∧ 8 ≤ d.rime.seg.chSilent.getD ch 0 then
    let d := wrB d (if ch = 0 then Reg.RIMEL_STAT_CH_A_FAIL else Reg.RIMEL_STAT_CH_B_FAIL) true
    let d := segM d (fun c => { c with
      chSilent := c.chSilent.mapIdx (fun i x => if i = ch then 0 else x),
      chDown := ch :: c.chDown.erase ch })
    raise d Src.RIMEL_CH_FAIL 8 ch ch 0
  else d

/-- RIME_CH_FAIL. -/
def execRimeChFail (ch : Nat) (s : State) : Host.Outcome State Fault Refusal := .next { s with d := chFail s.d ch }

/-- RIMEL_SYNC_LOSS by a count of cycles: 1 OWN, 2 ALONE. -/
def lossDue (d : Dev) : Dev :=
  if csOf d ≠ csINTEGRATED then d
  else if 2 ≤ d.rime.seg.ownBad ∧ (statusSlot d).isSome then syncLoss d 1
  else if 4 ≤ d.rime.seg.alone then syncLoss d 2
  else d

/-- RIMEL_SYNC_LOSS. -/
def execRimelSyncLoss (s : State) : Host.Outcome State Fault Refusal := .next { s with d := lossDue s.d }

/-- A parity error in the guardian's table blocks it (R347). -/
def tableParity (d : Dev) : Dev :=
  if rdB d Reg.RIMEL_STAT_GRD_BLOCKED then d
  else raise (wrB d Reg.RIMEL_STAT_GRD_BLOCKED true) Src.RIMEL_GRD_BLOCK 0 0 1 d.rime.seg.truncSlot

/-- GCLK_FAIL: 0 no edge for 200 ns, 1 frequency. The enables stay low until the guardian is armed again. 2 is a parity error in
the guardian's table, for which the table has no row (log entry 241). -/
def gclkFail (d : Dev) (why : Nat) : Dev :=
  if why = 2 then tableParity d
  else if rdB d Reg.RIMEL_STAT_GCLK_FAIL then d
  else
    let d := wrB d Reg.RIMEL_STAT_GCLK_FAIL true
    let d := trunkM (segM d (fun c => { c with blocked := true })) (fun c => { c with blocked := true })
    raise d Src.RIMEL_GCLK_FAIL 0 0 why 0

/-- GCLK_FAIL. -/
def execGclkFail (why : Nat) (s : State) : Host.Outcome State Fault Refusal := .next { s with d := gclkFail s.d why }

/-- GCLK_RESTORED: within limits for 1 ms. -/
def execGclkRestored (s : State) : Host.Outcome State Fault Refusal :=
  .next { s with d := wrB s.d Reg.RIMEL_STAT_GCLK_FAIL false }

/-- RIME_ACTIVITY on a Rime channel (0, 1 the segment's, 2, 3 the trunk's) that is not fenced: the listen timer of
CS_WAIT starts again. -/
def activity (d : Dev) (ch : Nat) : Dev :=
  if fenceHolds d 8 ch then d
  else if ch < 2 then restartListen d
  else trunkM d (fun c => { c with quietK := d.k, next := if tcsOf d = csWAIT then none else c.next })

/-- RIME_ACTIVITY. -/
def execRimeActivity (ch : Nat) (s : State) : Host.Outcome State Fault Refusal := .next { s with d := activity s.d ch }

/-- TIME_ISO_LIMIT: 2,000 ISOLATED cycles. The zones in PRODUCTION hold at this cycle boundary, or at the next where the limit
was reached within a cycle (R35, R362, R551); a STANDBY device's follow its partner's. -/
def isoLimit (d : Dev) : Dev :=
  if rimeState d = 2 ∧ 2000 ≤ rd d Reg.TIME_ISO_CYC ∧ d.rime.isoDone = false then
    let d := { d with rime := { d.rime with isoDone := true } }
    let d := raise d Src.TIME_ISO_LIMIT 0 0 (rd d Reg.TIME_ISO_CYC) 0
    if d.k % 20 = 0 ∧ d.phase = 0 then holdZones d (productionZones d) else d
  else d

/-- TIME_ISO_LIMIT. -/
def execTimeIsoLimit (s : State) : Host.Outcome State Fault Refusal := .next { s with d := isoLimit s.d }

/-! ### Register commands (R340, R352, R363, R368, R369) -/

/-- A control write keeps `VER` while `EN` is set (R352, R374): the word that takes effect. -/
def verKept (d : Dev) (en : Bool) (ver : Fld) (w : Nat) : Nat :=
  if en then w - bits w 4 2 * 16 + rd d ver * 16 else w

/-- A write of `RIMEL_CTRL`; a change of `VER` while `EN` is set is refused, the other fields take effect (R12, R352). -/
def rimelCtrl (d : Dev) (req : Requester) (w0 : Nat) : Dev :=
  regAccess d req 0x100A0000 w0 (fun d =>
    let was := rdB d Reg.RIMEL_CTRL_EN
    let w := verKept d was Reg.RIMEL_CTRL_VER w0
    let bad := fun (x : Dev) => if w = w0 then x else refuseW x req 0x100A0000
    let d := writeFields d req 0x100A0000 w
    let now := rdB d Reg.RIMEL_CTRL_EN
    let fresh := fun (d : Dev) => wrB (wr d Reg.RIMEL_CS_ATTEMPTS 0) Reg.RIMEL_STAT_CS_EXHAUST false
    bad (if !was && now then segM (fresh d) (fun c => { c with next := some csLISTEN, quietK := d.k })
      else if was && !now then setCs (syncLoss d 4) csDISABLED
      else if now && bit w 1 then toListen (fresh (syncLoss d 4))
      else d))

/-- RIMEL_ENABLE: a write with `EN` set. -/
def execRimelEnable (req : Requester) (w : Nat) (s : State) : Host.Outcome State Fault Refusal :=
  .next { s with d := rimelCtrl s.d req (setBit w 0 true) }

/-- RIMEL_DISABLE: a write with `EN` clear. -/
def execRimelDisable (req : Requester) (w : Nat) (s : State) : Host.Outcome State Fault Refusal :=
  .next { s with d := rimelCtrl s.d req (setBit w 0 false) }

/-- RIMEL_RESTART: a write with `RESTART` set. -/
def execRimelRestart (req : Requester) (w : Nat) (s : State) : Host.Outcome State Fault Refusal :=
  .next { s with d := rimelCtrl s.d req (setBit w 1 true) }

/-- A write of `RIMET_CTRL`: `EN` without a trunk record, or on a device whose segment has no gateway, is refused. -/
def rimetCtrl (d : Dev) (req : Requester) (w0 : Nat) : Dev :=
  regAccess d req 0x100B0000 w0 (fun d =>
    let was := rdB d Reg.RIMET_CTRL_EN
    let w := verKept d was Reg.RIMET_CTRL_VER w0
    let bad := fun (x : Dev) => if w = w0 then x else refuseW x req 0x100B0000
    let gw := ((trunkRec d (rMode d)).map (fun r => bit r.gw (mySeg d))).getD false
    if bit w 0 && !was && !gw then refuseW d req 0x100B0000
    else
      let d := writeFields d req 0x100B0000 w
      let now := rdB d Reg.RIMET_CTRL_EN
      let lost := fun (d : Dev) => if tcsOf d = csINTEGRATED then trunkLoss d 4 else d
      bad (if !was && now then trunkM d (fun c => { c with attempts := 0, next := some csLISTEN, quietK := d.k })
        else if was && !now then trunkM (wr (lost d) Reg.RIMET_STAT_CSTATE csDISABLED) (fun c => { c with next := none })
        else if now && bit w 1 then trunkListen (trunkM (lost d) (fun c => { c with attempts := 0 }))
        else d))

/-- RIMET_ENABLE. -/
def execRimetEnable (req : Requester) (w : Nat) (s : State) : Host.Outcome State Fault Refusal :=
  .next { s with d := rimetCtrl s.d req (setBit w 0 true) }

/-- RIMET_DISABLE. -/
def execRimetDisable (req : Requester) (w : Nat) (s : State) : Host.Outcome State Fault Refusal :=
  .next { s with d := rimetCtrl s.d req (setBit w 0 false) }

/-- RIMET_RESTART. -/
def execRimetRestart (req : Requester) (w : Nat) (s : State) : Host.Outcome State Fault Refusal :=
  .next { s with d := rimetCtrl s.d req (setBit w 1 true) }

/-- A write of `RIMET_MC` with `GO` (R363). -/
def mcGo (d : Dev) (req : Requester) (w : Nat) : Dev :=
  let addr := 0x100B0030
  regAccess d req addr w (fun d =>
    let m := bits w 0 3
    if rimeState d != 1 || isStandby d || rdB d Reg.RIMET_MC_PEND || !modeHeld d m then refuseW d req addr
    else
      let d := writeFields d req addr w
      { d with rime := { d.rime with mcWait := some m } })

/-- RIMET_MC_GO. -/
def execRimetMcGo (req : Requester) (w : Nat) (s : State) : Host.Outcome State Fault Refusal :=
  .next { s with d := mcGo s.d req (setBit w 3 true) }

/-! ### Judging mode changes (R364, R365) -/

/-- The first mode-change boundary that begins at least one full cycle after cycle `n`. -/
def mcBoundary (n : Nat) : Nat := (n + 2 + 15) / 16 * 16

/-- A request lapses. -/
def mcLapse (d : Dev) (m : Nat) : Dev :=
  let d := { d with rime := { d.rime with mc := none } }
  raise (wrB d Reg.RIMET_MC_LAPSE true) Src.RIMET_MC_LAPSE 0 0 m (cyc24 d)

/-- A change is agreed for a boundary. -/
def mcAgree (d : Dev) (m bound : Nat) : Dev :=
  wr (wrB (pendSwitch d m bound) Reg.RIMET_MC_AGREED true) Reg.RIMET_MC_AT_BOUND (bound % 2 ^ 24)

/-- MODE_CHANGE_EVAL at the end of cycle c + 2: agreed if every sync node carried the echo or the request. On a line with
a trunk the segment's agreement goes to its gateway, and does not switch. -/
def mcEval (d : Dev) : Dev :=
  match d.rime.mc with
  | none => d
  | some r =>
    if cycNo d < r.cyc + 2 ∨ r.agreed.isSome then d
    else
      let ok := (sel 64 (isSync d (rMode d))).all (fun n => if n = myNode d then r.mine || r.echo else r.nodes.contains n)
      if !ok then mcLapse d r.mode
      else if (trunkRec d (rMode d)).isNone then mcAgree d r.mode (mcBoundary (r.cyc + 2))
      else
        let d := { d with rime := { d.rime with mc := some { r with agreed := some (tcycNo d) } } }
        if !isGateway d then d
        else
          let line := match d.rime.line with
            | some l => if l.mode = r.mode then { l with echo := true } else l
            | none => ⟨r.mode, tcycNo d + 1, true, false, [], none⟩
          { d with rime := { d.rime with line := some line } }

/-- MODE_CHANGE_EVAL. -/
def execModeChangeEval (s : State) : Host.Outcome State Fault Refusal := .next { s with d := mcEval s.d }

/-- LINE_MODE_CHANGE_EVAL at the end of the gateway slots of T + 2. -/
def lineEval (d : Dev) : Dev :=
  match d.rime.line, trunkRec d (rMode d) with
  | some r, some t =>
    if tcycNo d < r.t + 2 ∨ r.out.isSome ∨ isGateway d = false then d
    else
      let ok := (sel 256 (bit t.gw)).all (fun s => if s = mySeg d then r.mine || r.echo else r.gws.contains s)
      let bound := mcBoundary (4 * (r.t + 2) + 3)
      { d with rime := { d.rime with line := some { r with out := some (ok, bound) } } }
  | _, _ => d

/-- LINE_MODE_CHANGE_EVAL. -/
def execLineModeChangeEval (s : State) : Host.Outcome State Fault Refusal := .next { s with d := lineEval s.d }

end Sys2Proof.Machine
end

