-- ==== Sys2Proof/Machine/Standing.lean ====
section
/-!
DEFINITION. Causes that stand (R14, R320): a W1C status bit or a pending bit whose cause is still present when it is cleared
sets again at once, and the re-raise counts as a new event. The causes that last are conditions the device watches; an
occurrence that is over, such as a refused command or a completed transfer, stands no longer (log entry 211).
-/
namespace Sys2Proof.Machine

/-- The inputs that a converter's pulled entries have found open. -/
def openInputs (d : Dev) (c : Nat) : List Nat :=
  (((conv d c).words.map auxEnt).filter (fun e => e.pull != 0 &&
    (if e.input < 32 then rdFBit d Reg.AUX_OPEN_LO_INPUTS e.input else rdFBit d Reg.AUX_OPEN_HI_INPUTS (e.input - 32)))).map
    (·.input)

/-- The µs since the last bus sample; the time within the tick is left open. -/
def senseUs (d : Dev) : Nat := (nowNs d - ((d.net.smp.map (·.t)).headD 0)) / 1000

/-- The events of a source whose cause stands: unit type, unit and data words (R306). -/
def standing (d : Dev) (src : Nat) : List (Nat × Nat × Nat × Nat) :=
  if src = Src.NET_SENSE then (if d.net.gap then [(0, 0, rd d Reg.NET_BUS_MV_SAMPLE, senseUs d)] else [])
  else if src = Src.NET_BUS_LOW then
    (if d.firn.act.isSome && decide (d.net.mean < (rd d Reg.NET_THR_LOW_MV : Int)) then
      [(0, 0, rd d Reg.NET_BUS_MEAN_MEAN, netLevel d)] else [])
  else if src = Src.PWR_REFCLK_LOSS then
    (if rdB d Reg.PWR_STAT_CLK_RC && !rdB d Reg.PWR_STAT_REFCLK_OK then [(0, 0, 0, 0)] else [])
  else if src = Src.DRC_SCRUB_LATE then (if d.host.scrubLate then [(0, 0, rd d Reg.DRC_SCRUB_PASS, 0)] else [])
  else if src = Src.AUX_OPEN then
    (List.range 8).flatMap (fun c => (openInputs d c).map (fun i => (0, 0, c, i)))
  else if src = Src.AXIS_KE then
    ((axesOf d).filter (fun n => rdB d (Reg.AXIS_STAT_ABNORMAL_KE n))).map (fun n => (0, 0, n, 0))
  else if src = Src.RIMEL_CH_FAIL then ([0, 1].filter (fun c => d.rime.seg.chDown.contains c)).map (fun c => (8, c, c, 0))
  else if src = Src.RIMEL_GCLK_FAIL then (if rdB d Reg.RIMEL_STAT_GCLK_FAIL then [(0, 0, 0, 0)] else [])
  else []

/-- Raise anew the standing events of a source that a predicate selects. -/
def raiseAnew (d : Dev) (src : Nat) (p : Nat × Nat × Nat × Nat → Bool) : Dev :=
  ((standing d src).filter p).foldl (fun d e => raise d src e.1 e.2.1 e.2.2.1 e.2.2.2)
    (if src = Src.NET_SENSE then useFree d else d)

/-- A status bit that a write has cleared sets again where its cause stands. -/
def reSet (was d : Dev) (f : Fld) (src : Nat) (p : Nat × Nat × Nat × Nat → Bool := fun _ => true) : Dev :=
  if rdB was f && !rdB d f && (standing d src).any p then raiseAnew (wrB d f true) src p else d

/-- The pending bits of one word that a write has cleared. -/
def pendSet (was d : Dev) (i : Nat) : Dev :=
  (List.range 32).foldl (fun d n =>
    let s := 32 * i + n
    if rdBit was Reg.MOR_PEND_SRC s && !rdBit d Reg.MOR_PEND_SRC s && !(standing d s).isEmpty then
      raiseAnew (wrBit d Reg.MOR_PEND_SRC s true) s (fun _ => true)
    else d) d

/-- R14 after a write at an address: `was` is the device before it. -/
def reRaise (was d : Dev) (addr : Nat) : Dev :=
  if addr = 0x10090004 then reSet was (reSet was d Reg.NET_STAT_SENSE_EV Src.NET_SENSE) Reg.NET_STAT_LOW_EV Src.NET_BUS_LOW
  else if addr = 0x10010000 then reSet was d Reg.PWR_STAT_REFCLK_LOST Src.PWR_REFCLK_LOSS
  else if addr = 0x10120000 then reSet was d Reg.DRC_STAT_SCRUB_LATE Src.DRC_SCRUB_LATE
  else if 0x100F0100 ≤ addr ∧ addr < 0x100F0200 ∧ addr % 0x20 = 4 then
    let c := (addr - 0x100F0100) / 0x20
    reSet was d (Reg.AUX_CONV_STAT_OPEN_EV c) Src.AUX_OPEN (fun e => e.2.2.1 == c)
  else if 0x100E0000 ≤ addr ∧ addr < 0x100E0800 ∧ addr % 0x100 = 4 then
    let n := (addr - 0x100E0000) / 0x100
    reSet was d (Reg.AXIS_STAT_KE_EV n) Src.AXIS_KE (fun e => e.2.2.1 == n)
  else if addr = Reg.RIMEL_STAT_CH_A_FAIL.addr then
    let d := reSet was d Reg.RIMEL_STAT_CH_A_FAIL Src.RIMEL_CH_FAIL (fun e => e.2.1 == 0)
    reSet was d Reg.RIMEL_STAT_CH_B_FAIL Src.RIMEL_CH_FAIL (fun e => e.2.1 == 1)
  else if 0x10020080 ≤ addr ∧ addr < 0x100200B0 then pendSet was d ((addr - 0x10020080) / 4)
  else d

end Sys2Proof.Machine
end

