-- ==== Sys2Proof/Machine/RegWrite.lean ====
section
/-!
DEFINITION. Writing the device space (R9 to R18, R291, R293, R295, R304, R309, R312, R436, R501): which register an
address is, whether its write acts at once or is staged for a commit point, and the commands that registers carry. What
a register's own command does is defined with its block.
-/
namespace Sys2Proof.Machine

/-! ### Rules between fields and whole-write refusals -/

/-- The sum of the amplitudes of a tone set with one register replaced (R161). -/
def toneSetSum (d : Dev) (addr w : Nat) : Nat :=
  let s := (addr - 0x10075000) / 0x40
  (List.range 8).foldl (fun a t =>
    let f := Reg.CHAN_TONE_AMP_AMP s t
    a + (if f.addr = addr then bits w 0 16 else rd d f)) 0

/-- The limits of an axis's set values that its record gives (R436); an axis without a record has none. -/
def axisLimits (d : Dev) (addr w : Nat) : Bool :=
  let n := (addr - 0x100E0000) / 0x100
  match axisRec d n with
  | none => false
  | some r =>
    match addr % 0x100 with
    | 0x08 => decide (r.speedMax < bits w 0 16 ∨ bits w 16 16 = 0)
    | 0x10 => decide (r.fMax < w % 2 ^ 32)
    | 0x14 => decide (rd d (Reg.AXIS_FORCE_SET_F_SET n) ≤ w % 2 ^ 32)
    | _ => false

/-- A change of a fixed source, or a configuration that R309 excludes. -/
def srcFault (d : Dev) (addr w : Nat) : Bool :=
  let s := (addr - 0x10021000) / 8
  let f := fun (x : Nat → Fld) => bits w (x s).lo (x s).wd != rd d (x s)
  if addr % 8 = 0 then
    (morFixed s && (f Reg.MOR_SRC_CFG_CLASS || f Reg.MOR_SRC_CFG_REACT || f Reg.MOR_SRC_CFG_REACT_ESC || f Reg.MOR_SRC_CFG_N ||
      f Reg.MOR_SRC_CFG_SHADOW)) || (!morFixed s && srcCfgBad s w)
  else morFixed s && f Reg.MOR_SRC_WIN_W_MS

/-- A write whose values break a rule of its block beyond the limits of single fields. -/
def ruleFault (d : Dev) (addr w : Nat) : Bool :=
  if 0x10075000 ≤ addr ∧ addr < 0x10075400 then
    if addr % 8 = 0 then
      let i := w % 2 ^ 32
      decide (i ≠ 0 ∧ (i < 21475 ∨ 429496730 < i))
    else decide (500 < toneSetSum d addr w)
  else if 0x10021000 ≤ addr ∧ addr < 0x10021C00 then srcFault d addr w
  else if (0x10090014 ≤ addr ∧ addr < 0x1009002C) ∨ addr = 0x10090030 then netOrderBad d addr w
  else if 0x100E0000 ≤ addr ∧ addr < 0x100E0800 then axisLimits d addr w
  else if 0x04200400 ≤ addr ∧ addr < 0x04200800 then decide (24 < bits w 0 5 ∨ 24 < bits w 8 5)
  else if 0x04200800 ≤ addr ∧ addr < 0x04200900 ∧ addr % 0x20 = 8 then decide (bits w 0 11 % 4 ≠ 0 ∨ bits w 16 12 % 4 ≠ 0)
  else false

/-- Writes that a rule refuses whole (R12). -/
def wholeRefused (d : Dev) (req : Requester) (addr : Nat) : Bool :=
  let en := rdB d Reg.RIMEL_CTRL_EN
  if addr = 0x10030000 ∨ addr = 0x10030018 then !isTriad req                                       -- R293
  else if addr = 0x10030044 ∨ addr = 0x10030048 then !isCalved d                                   -- R301
  else if addr = 0x100A0008 ∨ addr = 0x100A0010 ∨ addr = 0x100A0014 then en                        -- R352
  else if 0x100A0018 ≤ addr ∧ addr < 0x100A0028 then en || rdB d Reg.RIMEL_LOCK_LOCK               -- R352
  else if addr = 0x10150008 ∨ addr = 0x1015000C then en                                            -- R374
  else if addr = 0x100B0008 then rdB d Reg.RIMET_CTRL_EN                                           -- R374
  else false

/-- Writes that have no effect and are no error: the configuration of a running stream (R137) and of a reserved source
(R304). -/
def writeIgnored (d : Dev) (addr : Nat) : Bool :=
  if 0x04200800 ≤ addr ∧ addr < 0x04200900 then
    let s := (addr - 0x04200800) / 0x20
    decide (0 < addr % 0x20 ∧ addr % 0x20 < 0x10) && rdB d (Reg.LEDGER_STRM_CTRL_EN s)
  else decide (0x10021000 ≤ addr ∧ addr < 0x10021C00) && !morAssigned ((addr - 0x10021000) / 8)

/-- A page number above the populated size (R501). -/
def pageBad (d : Dev) (addr w : Nat) : Bool :=
  (addr == 0x1011000C || addr == 0x10120004) && decide (rd d Reg.DRC_STAT_SIZE < 2 * bits w 0 4)

/-! ### Staging (R17, R18) -/

/-- Channel, group and step-program control state, and the commands and gains of axes: written at a commit point. -/
def groupState (addr : Nat) : Bool :=
  decide (0x10060400 ≤ addr ∧ addr < 0x10061000) || decide (0x04200400 ≤ addr ∧ addr < 0x04200800) ||
  decide (0x10071000 ≤ addr ∧ addr < 0x10075400) || decide (0x10077800 ≤ addr ∧ addr < 0x10078000) ||
  decide (0x10078400 ≤ addr ∧ addr < 0x10078900) || decide (0x100E0000 ≤ addr ∧ addr < 0x100E0800)

/-- Moraine's configuration (R312). -/
def morConfig (addr : Nat) : Bool := addr == 0x10020018 || decide (0x10021000 ≤ addr ∧ addr < 0x10021C00)

/-- Further registers whose writes an ACTIVE device forwards (R117, R249, R312, R383). -/
def pairState (addr : Nat) : Bool :=
  morConfig addr || addr / 0x10000 == 0x1009 || decide (0x10076000 ≤ addr ∧ addr < 0x10077800)

/-- The device as the register writes that wait for their commit point will leave it: what a further write is judged on. -/
def ahead (d : Dev) : Dev :=
  (d.staged ++ d.hostCyc).foldl (fun d x => match x with
    | .regWrite r a w => writeFields { d with apply := true } r a w
    | _ => d) d

/-- A write that waits for its commit point, judged now: what it may set is staged, and a closed field that it asks another
value of refuses the write without stopping the rest (R12). -/
def stagedWrite (d : Dev) (req : Requester) (addr w : Nat) : Dev :=
  let t := { ahead d with apply := false }
  let v := openPart t addr w
  let e := (writeFields t req addr v.1).resp.err
  if e ≠ 0 then notServed d req addr e true
  else if ruleFault t addr w then refuseW d req addr
  else if v.2 then refuseW (stage d req (.regWrite req addr v.1)) req addr
  else okResp (stage d req (.regWrite req addr w))

/-! ### What a write brings with it -/

/-- A change of `SCH_CFG.PAIR_EN` (R376): the device becomes a pair member that owns nothing, or is SOLO with its gate
open. -/
def pairEnable (d : Dev) (was : Bool) : Dev :=
  let now := paired d
  if now && !was then releaseOwn d
  else if was && !now then
    let d := wrB (setRole d roSOLO 0) Reg.SCH_STAT_OWN true
    let go := d.sch.start
    let d := schM d (fun s => { s with start := false, claim := false })
    if go then leaveBoot d else d
  else d

/-- What follows a register's new value. `was` is the device before the write. -/
def afterWrite (was d : Dev) (addr w : Nat) : Dev :=
  if addr = 0x1003001C then
    if rd d Reg.TRI_WDOG_CFG_PERIOD = rd was Reg.TRI_WDOG_CFG_PERIOD then d else { d with tri := { d.tri with kickK := d.k } }
  else if 0x100A0018 ≤ addr ∧ addr < 0x100A0028 then
    let i := (addr - 0x100A0018) / 4
    let keys := setBit d.rime.keys i true
    let d := wr { d with rime := { d.rime with keys := keys } } (Reg.RIMEL_KEY_KEY i) w
    if keys % 16 = 15 then wrB d Reg.RIMEL_KEY_STAT_VALID true else d
  else if addr = 0x100C0008 then pairEnable d (paired was)
  else if addr = 0x1006000C ∨ addr = 0x10060008 then (if d.resp.err = 0 then calAbandon d else d)
  else if addr = 0x10040010 then wr d Reg.FIRN_SRC_LO_ADDR (rd d Reg.FIRN_SRC_LO_ADDR / 8 * 8)
  else if addr = 0x10078014 then wr d Reg.SEQ_LOAD_SRC_LO_ADDR (rd d Reg.SEQ_LOAD_SRC_LO_ADDR / 8 * 8)
  else if 0x04200800 ≤ addr ∧ addr < 0x04200900 ∧ addr % 0x20 = 0 then
    let s := (addr - 0x04200800) / 0x20
    if rdB d (Reg.LEDGER_STRM_CTRL_EN s) then d else wrB d (Reg.LEDGER_STRM_STAT_ACTIVE s) false
  else reRaise was d addr

/-- The MPU registers (R292, R293, R295): written by the triad alone, in CALVED each core in its own bank. -/
def mpuWrite (d : Dev) (req : Requester) (addr w : Nat) : Dev :=
  let core := if isCalved d then coreOf req else 0
  let r := (addr - 0x10030100) / 8
  let fs := if addr % 8 = 0 then [Reg.TRI_MPU_BASE_EN r, Reg.TRI_MPU_BASE_BASE r]
    else [Reg.TRI_MPU_ATTR_SIZE r, Reg.TRI_MPU_ATTR_SR r, Reg.TRI_MPU_ATTR_SW r, Reg.TRI_MPU_ATTR_SX r, Reg.TRI_MPU_ATTR_UR r,
      Reg.TRI_MPU_ATTR_UW r, Reg.TRI_MPU_ATTR_UX r, Reg.TRI_MPU_ATTR_HOSTW r]
  if !isTriad req || (addr % 8 == 4 && decide (bits w 0 5 < 12)) then refuseW d req addr
  else if rdB d Reg.TRI_LOCK_LOCK then
    if fs.any (fun f => fldVal f w != rd d (mpuFld core f)) then refuseW d req addr else okResp d
  else okResp (fs.foldl (fun d f => wr d (mpuFld core f) (fldVal f w)) d)

/-- A write of a register that carries no command. -/
def plainWrite (d : Dev) (req : Requester) (addr w : Nat) : Dev :=
  regAccess d req addr w (fun d =>
    let own := isStandby d && !d.apply && (req == .host || isTriad req)
    if wholeRefused d req addr then refuseW d req addr
    else if writeIgnored d addr then okResp d
    else if pageBad d addr w then errResp d req addr errUnmapped true
    else if own && morConfig addr then refuseW d req addr
    else if 0x10030100 ≤ addr ∧ addr < 0x10030180 then mpuWrite d req addr w
    else if !d.apply && (groupState addr || (forwards d req && pairState addr)) then stagedWrite d req addr w
    else if ruleFault d addr w then refuseW d req addr
    else afterWrite d (writeFields d req addr w) addr w)

/-! ### Registers that carry commands -/

/-- A second command of one write: what the first refused stays the answer. -/
def alsoDo (d : Dev) (c : Bool) (f : Dev → Dev) : Dev :=
  if c then
    let e := f d
    if d.resp.err ≠ 0 then { e with resp := d.resp } else e
  else d

/-- `SERAC_CTRL`. -/
def seracCtrl (d : Dev) (req : Requester) (w : Nat) : Dev :=
  alsoDo (alsoDo (okResp d) (bit w 0) (fun d => fireClr d req w)) (bit w 1) (fun d => injGo d req w)

/-- `TRI_DBG_CTRL`. -/
def dbgCtrl (d : Dev) (req : Requester) (w : Nat) : Dev :=
  let act := fun (d : Dev) (g : Bool) (f : Dev → Dev) => debugAct d req 0x10030050 w g f
  let d := alsoDo (okResp d) (bit w 0) (fun d => act d true dbgHalt)
  let d := alsoDo d (bit w 1) (fun d => act d false dbgGo)
  alsoDo d (bit w 2) (fun d => act d true dbgStepOne)

/-- `CHAN_MAN_CTRL`. -/
def manCtrl (d : Dev) (req : Requester) (w : Nat) : Dev :=
  alsoDo (alsoDo (okResp d) (bit w 0) (fun d => manGo d req w)) (bit w 1) (fun d => manRelease d req w)

/-- `MEAS_CAL_CTRL`, with a command 1 to 5. -/
def calCmd (d : Dev) (req : Requester) (w cmd : Nat) : Dev :=
  calCtrl d req w cmd (fun d => match cmd with
    | 1 => startCapture d true
    | 2 => startCapture d false
    | 3 => calCompute d req
    | 4 => calAbandon d
    | _ => calNominal d)

/-- `AUX_CAL_CTRL`, with a command 1 to 5. -/
def auxCalCmd (d : Dev) (req : Requester) (w cmd : Nat) : Dev :=
  auxCalCtrl d req w cmd (fun d => match cmd with
    | 1 => auxCapture d true
    | 2 => auxCapture d false
    | 3 => auxCompute d req
    | 4 => auxAbandon d
    | _ => auxNominal d)

/-- `FIRN_CTRL`, with a command 1 to 3. -/
def firnCmd (d : Dev) (req : Requester) (w cmd : Nat) : Dev :=
  match cmd with
  | 1 => loadActive d req w
  | 2 => preload d req w
  | _ => discard d req w

/-- `LEDGER_STRM_CTRL[s]`: while `EN` is set a write only clears it (R137). -/
def strmCtrl (d : Dev) (req : Requester) (s w : Nat) : Dev :=
  let addr := 0x04200800 + 0x20 * s
  if bit w 0 then strmEnable d req s w
  else if rdB d (Reg.LEDGER_STRM_CTRL_EN s) then
    regAccess d req addr w (fun d =>
      okResp (wrB (wrB d (Reg.LEDGER_STRM_CTRL_EN s) false) (Reg.LEDGER_STRM_STAT_ACTIVE s) false))
  else plainWrite d req addr w

/-- The commands of the pages from SYS to FLOE; none where a write carries no command. -/
def cmdWriteA (d : Dev) (req : Requester) (addr w : Nat) : Option Dev :=
  if addr = 0x10000014 then (if bit w 8 then some (sysZoneReq d req w) else none)
  else if addr = 0x10020000 then some (morCtrlWrite d req w)
  else if addr = 0x10020020 then (if bit w 31 then some (morInj d req w) else none)
  else if addr = 0x10020024 then (if bit w 31 then some (morRaise d req w) else none)
  else if addr = 0x1002002C then (if bit w 31 then some (morUnfence d req w) else none)
  else if addr = 0x10020030 then some (morLogRd d req w)
  else if addr = 0x10030000 then (if bit w 1 then some (mismClr d req w) else none)
  else if addr = 0x10030020 then some (wdogKick d req w)
  else if addr = 0x1003004C then some (calveStart d req w)
  else if addr = 0x10030050 then some (dbgCtrl d req w)
  else if addr = 0x1003005C then some (debugAct d req addr w true (fun d => dbgRegWrite d w))
  else if addr = 0x10040000 then (if 1 ≤ bits w 0 4 ∧ bits w 0 4 ≤ 3 then some (firnCmd d req w (bits w 0 4)) else none)
  else if 0x10050000 ≤ addr ∧ addr < 0x10058000 ∧ addr % 0x100 = 0 then some (floeCtrlWrite d req ((addr - 0x10050000) / 0x100) w)
  else none

/-- The commands of the pages from MEAS to AXIS. -/
def cmdWriteB (d : Dev) (req : Requester) (addr w : Nat) : Option Dev :=
  let cmd := bits w 0 4
  if addr = 0x10060008 then (if 1 ≤ cmd ∧ cmd ≤ 5 then some (calCmd d req w cmd) else none)
  else if addr = 0x10070014 then (if bit w 0 || bit w 1 then some (manCtrl d req w) else none)
  else if addr = 0x10078000 then (if 1 ≤ cmd ∧ cmd ≤ 5 then some (seqCmdWrite d req w cmd) else none)
  else if addr = 0x10078010 then
    if cmd = 1 then some (seqLoadCtrl d req w seqLoadStart)
    else if cmd = 2 then some (seqLoadCtrl d req w (fun d slot => stage d req (.seqUnload slot)))
    else none
  else if addr = 0x10080000 then (if bit w 0 || bit w 1 then some (seracCtrl d req w) else none)
  else if addr = 0x10080008 then (if 1 ≤ cmd ∧ cmd ≤ 3 then some (seracCmdWrite d req w cmd) else none)
  else if addr = 0x10090000 then some (netCtrl d req w)
  else if addr = 0x100A0000 then some (rimelCtrl d req w)
  else if addr = 0x100B0000 then some (rimetCtrl d req w)
  else if addr = 0x100B0030 then (if bit w 3 then some (mcGo d req w) else none)
  else if addr = 0x100C0000 then some (schCtrl d req w)
  else if addr = 0x100D0000 then some (safeConfirm d req w)
  else if addr = 0x100D0008 then some (safeCtrl d req w)
  else if 0x100E0000 ≤ addr ∧ addr < 0x100E0800 ∧ addr % 0x100 = 0 then
    (if 1 ≤ cmd ∧ cmd ≤ 3 then some (axisCmd d req ((addr - 0x100E0000) / 0x100) w) else none)
  else none

/-- The commands of the pages from AUX on, of the ledger registers and of the engines. -/
def cmdWriteC (d : Dev) (req : Requester) (addr w : Nat) : Option Dev :=
  let cmd := bits w 0 4
  if addr = 0x100F0000 then (if 1 ≤ cmd ∧ cmd ≤ 5 then some (auxCalCmd d req w cmd) else none)
  else if 0x100F0100 ≤ addr ∧ addr < 0x100F0200 ∧ addr % 0x20 = 0 then some (auxConvCtrl d req ((addr - 0x100F0100) / 0x20) w)
  else if addr = 0x10100004 then (if bit w 4 then some (hostGo d req w) else none)
  else if addr = 0x10110010 then some (mailbox d req w)
  else if addr = 0x10110400 then (if 1 ≤ cmd ∧ cmd ≤ 4 then some (qspiCmd d req w cmd) else none)
  else if addr = 0x04200000 then some (ledCtrlWrite d req w)
  else if 0x04200800 ≤ addr ∧ addr < 0x04200900 ∧ addr % 0x20 = 0 then some (strmCtrl d req ((addr - 0x04200800) / 0x20) w)
  else if 0x02000000 ≤ addr ∧ addr < 0x02600000 ∧ addr % 0x40000 = 0x30000 then some (engCtrl d req (engAt addr).1 w)
  else none

/-- A write of a register. -/
def regWrite (d : Dev) (req : Requester) (addr w : Nat) : Dev :=
  match cmdWriteA d req addr w, cmdWriteB d req addr w, cmdWriteC d req addr w with
  | some d, _, _ => d
  | none, some d, _ => d
  | none, none, some d => d
  | none, none, none => plainWrite d req addr w

/-! ### One write -/

/-- A write of an engine memory: in BOOT alone (R214). -/
def engMemWrite (d : Dev) (req : Requester) (addr w : Nat) : Dev :=
  let (e, off) := engAt addr
  if !inBoot d then refuseW d req addr
  else okResp (setEng d e (fun g =>
    if off < 0x10000 then { g with x := Memory.writeLE g.x off 4 w }
    else if off < 0x20000 then { g with y := Memory.writeLE g.y (off - 0x10000) 4 w }
    else { g with p := Memory.writeLE g.p (off - 0x20000) 4 w }))

/-- A write in the DRAM window. -/
def dramWrite (d : Dev) (req : Requester) (addr w : Nat) : Dev :=
  let e := dramErr d req addr true
  if e ≠ 0 then notServed d req addr e true
  else okResp { d with dram := Memory.writeLE d.dram (dramAddr d req addr) 4 w }

/-- A write of the TCM: the host's and DMA writes under R291, the others at once. -/
def tcmWrite (d : Dev) (req : Requester) (addr w : Nat) : Dev :=
  match req with
  | .host => tcmHostWrite d req addr w
  | .dma => tcmHostWrite d req addr w
  | _ => if tcmForeign d req addr then tcmForeignErr d req addr true else okResp (tcmPut d addr w)

/-- A write of a word of the device space, but for the life-cycle commands. -/
def devWrite (d : Dev) (req : Requester) (addr w : Nat) : Dev :=
  if addr < 0x400000 ∧ req = .host then tcmHostWrite d req addr w
  else
    let e := accessErr d req addr true
    if e ≠ 0 then notServed d req addr e true
    else if inTest d addr then inTestErr d req addr true
    else if addr < 0x400000 then tcmWrite d req addr w
    else if 0x01000000 ≤ addr ∧ addr < 0x01200000 then
      if 0x01077FC0 ≤ addr ∧ addr < 0x01080000 then refuseW d req addr
      else okResp { d with neve := Memory.writeLE d.neve (addr - 0x01000000) 4 w }
    else if 0x02000000 ≤ addr ∧ addr < 0x02600000 ∧ addr % 0x40000 < 0x28000 then engMemWrite d req addr w
    else if (ledOffset addr).isSome then segWrite d req addr w
    else if inWindow addr then dramWrite d req addr w
    else regWrite d req addr w

/-- The device after a command's outcome: `s` where it gave no next state. -/
def outState (o : Host.Outcome State Fault Refusal) (s : State) : State :=
  match o with
  | .next t => t
  | _ => s

/-- A write of `LCY_CMD`; other commands are ignored. A TRANSITION written here carries no provisioning keys. -/
def lcyCmd (s : State) (req : Requester) (w : Nat) : State :=
  match bits w 0 4 with
  | 1 => outState (execTransition req w [] [] s) s
  | 2 => outState (execRollbackAdv req w s) s
  | 3 => outState (execRevoke req w s) s
  | 4 => outState (execGrantCalve req w s) s
  | 5 => outState (execGrantDbg req w s) s
  | 6 => outState (execHostboot req w 0 s) s
  | 7 => outState (execRevokeCalve req w s) s
  | 8 => outState (execRevokeDbg req w s) s
  | _ => lcyWrite s req w 0 id

/-- A write of a word of the device space. -/
def busWrite (s : State) (req : Requester) (addr w : Nat) : State :=
  if addr = 0x10108004 then lcyCmd s req w
  else if addr = 0x1010801C then outState (execLcyReset req w s.d.boot.strapCalve s.d.boot.strapRank s) s
  else { s with d := devWrite s.d req addr w }

/-- REGISTER_WRITE, as every write of the device space. -/
def execRegisterWrite (a : Access) (addr w : Nat) (s : State) : Host.Outcome State Fault Refusal :=
  let e := sizeErr s.d a.req addr a.size true
  .next (if e ≠ 0 then { s with d := notServed s.d a.req addr e true } else busWrite s a.req addr w)

/-- MOR_PEND_CLEAR: a write of `MOR_PEND[i]`; the bit of a source whose cause stands sets again (R320). -/
def execMorPendClear (req : Requester) (i : Nat) (w : Nat) (s : State) : Host.Outcome State Fault Refusal :=
  .next (busWrite s req (0x10020080 + 4 * i) w)

/-- The lock registers of the blocks (R11). -/
def lockAddrs : List Nat :=
  [Reg.CHAN_ENG_LOCK_LOCK, Reg.LEDGER_LOCK_LOCK, Reg.PWR_LOCK_LOCK, Reg.TRI_LOCK_LOCK, Reg.FIRN_LOCK_LOCK,
   Reg.FLOE_GLOCK_LOCK, Reg.MEAS_LOCK_LOCK, Reg.CHAN_LOCK_LOCK, Reg.SERAC_LOCK_LOCK, Reg.NET_LOCK_LOCK, Reg.RIMEL_LOCK_LOCK,
   Reg.RIMET_LOCK_LOCK, Reg.SCH_LOCK_LOCK, Reg.SAFE_LOCK_LOCK, Reg.AXIS_LOCK_LOCK, Reg.AUX_LOCK_LOCK, Reg.BIST_LOCK_LOCK,
   Reg.LCY_LOCK_LOCK, Reg.HOST_LOCK_LOCK, Reg.DRC_LOCK_LOCK, Reg.FWL_LOCK_LOCK, Reg.THAW_LOCK_LOCK, Reg.TIME_LOCK_LOCK].map (·.addr)

/-- BLOCK_LOCK: a write with bit 0 set to a block's lock register; at another address it locks nothing. -/
def execBlockLock (req : Requester) (addr w : Nat) (s : State) : Host.Outcome State Fault Refusal :=
  .next (if lockAddrs.contains addr then busWrite s req addr (setBit w 0 true) else s)

/-! ### Triad transactions (R277 to R283, R290, R292, R295, R298) -/

/-- The core whose operation a transaction is: its requester in CALVED, and otherwise the triad. -/
def busReq (d : Dev) (core : Nat) : Requester :=
  if isCalved d then (match core with | 1 => .core1 | 2 => .core2 | _ => .triad) else .triad

/-- Whether an address lies in a memory, where bytes are written apart. -/
def byteMem (addr : Nat) : Bool :=
  decide (addr < 0x400000) || decide (0x01000000 ≤ addr ∧ addr < 0x01200000) ||
  decide (0x02000000 ≤ addr ∧ addr < 0x02600000 ∧ addr % 0x40000 < 0x28000) || inWindow addr

/-- The word a memory holds at an address. -/
def memWord (d : Dev) (req : Requester) (addr : Nat) : Nat :=
  if addr < 0x400000 then Memory.readLE d.tri.tcm addr 4
  else if addr < 0x01200000 then Memory.readLE d.neve (addr - 0x01000000) 4
  else if addr < 0x02600000 then (engWord d (engAt addr).1 (engAt addr).2).getD 0
  else Memory.readLE d.dram (dramAddr d req addr) 4

/-- A word with the enabled bytes of another. -/
def mergeBytes (old new be : Nat) : Nat :=
  (List.range 4).foldl (fun a i => a + (if bit be i then bits new (8 * i) 8 else bits old (8 * i) 8) * 2 ^ (8 * i)) 0

/-- A full-word write has replaced a word of the TCM or of the DRAM: its poison mark is gone (R290, R513). -/
def unpoison (d : Dev) (req : Requester) (addr : Nat) : Dev :=
  if addr < 0x400000 then { d with tri := { d.tri with bad := d.tri.bad.filter (· != addr / 8 * 8) } }
  else if inWindow addr then
    { d with host := { d.host with bad := d.host.bad.filter (· != dramAddr d req addr / 8 * 8) } }
  else d

/-- A transaction of 64 bits with a memory: its two halves, and a full-word write ends the word's poison (log entry 126). -/
def busWide (s : State) (req : Requester) (x : BusOp) (ecc : Nat) (half : State → BusOp → Nat → State) : State :=
  let lo : BusOp := { x with size := 4, data := x.data % 2 ^ 32, be := x.be % 16 }
  let hi : BusOp := { x with size := 4, addr := x.addr + 4, data := x.data / 2 ^ 32, be := x.be / 16 % 16 }
  if x.addr % 8 ≠ 0 then { s with d := errResp s.d req x.addr errAlign x.write }
  else
    let s := half s lo ecc
    if s.d.resp.err ≠ 0 then s
    else
      let low := s.d.resp.data
      let s := half s hi 0
      if s.d.resp.err ≠ 0 then s
      else if x.write then (if x.be % 256 = 255 then { s with d := unpoison s.d req x.addr } else s)
      else { s with d := okResp s.d (low + s.d.resp.data * 2 ^ 32) }

/-- A performed transaction of at most 32 bits; `ecc` is what the ECC finds where it reads a memory: 0 nothing, 1 a corrected
error, 2 an uncorrectable one. -/
def busWord (s : State) (req : Requester) (x : BusOp) (ecc : Nat) : State :=
  let d := s.d
  if byteMem x.addr = false ∧ x.size ≠ 4 then { s with d := errResp d req x.addr errAlign x.write }
  else if x.write then
    if x.be % 16 = 15 then busWrite s req x.addr x.data
    else if byteMem x.addr then busWrite s req x.addr (mergeBytes (memWord d req x.addr) x.data x.be)
    else { s with d := errResp d req x.addr errAlign true }
  else if x.be % 16 ≠ 15 ∧ byteMem x.addr = false then { s with d := errResp d req x.addr errAlign false }
  else { s with d := busRead d req x.addr ecc }

/-- A performed transaction: R9's width binds register accesses, and a memory also takes 64 bits. -/
def busDo (s : State) (req : Requester) (x : BusOp) (ecc : Nat) : State :=
  if byteMem x.addr ∧ x.size = 8 then busWide s req x ecc (fun s y e => busWord s req y e)
  else busWord s req x ecc

/-- A transaction that the MPU permits is performed with its own privilege, not with a register command's. -/
def busJudged (s : State) (req : Requester) (x : BusOp) (ecc : Nat) : State :=
  let s := busDo { s with d := { s.d with tri := { s.d.tri with judged := true } } } req x ecc
  { s with d := { s.d with tri := { s.d.tri with judged := false } } }

/-- A core's own transaction in CALVED. -/
def ownOp (d : Dev) (copies : List (Option BusOp)) (core : Nat) : Option BusOp :=
  if d.tri.running.contains core && !rdFBit d Reg.TRI_STAT_FENCED core then copies.getD core none else none

/-- A transaction: voted, or a core's own in CALVED, then judged by the MPU. Halted cores present none but a step's. The first
one after a debugger's action shows whether it left the cores unequal: `REPLAY_ERR` is set where the copies differ (R298). -/
def triadTransaction (s : State) (copies : List (Option BusOp)) (voterOk : Bool) (core : Nat) (ecc : Nat) : State :=
  let d := s.d
  if d.tri.running.isEmpty || d.mor.noTriad then s
  else
    let copies := if rdB d Reg.TRI_DBG_STAT_HALTED && !d.tri.step then [] else copies
    let v := if isCalved d then (ownOp d copies core, d) else vote d copies voterOk
    let differ := rd v.2 Reg.TRI_STAT_FENCED != rd d Reg.TRI_STAT_FENCED || (voterOk && v.2.mor.noTriad)
    let d := if d.tri.replay && differ then wrB v.2 Reg.TRI_DBG_STAT_REPLAY_ERR true else v.2
    let d := { d with tri := { d.tri with replay := d.tri.replay && !(copies.any (·.isSome)) } }
    match v.1 with
    | none => { s with d := d }
    | some x =>
      let who := if isCalved d then core else 0
      if !mpuAllows d who x then { s with d := mpuDeny d core x }
      else busJudged { s with d := d } (busReq d core) x ecc

/-- TRIAD_TRANSACTION. -/
def execTriadTransaction (copies : List (Option BusOp)) (voterOk : Bool) (core : Nat) (ecc : Nat) (s : State) :
    Host.Outcome State Fault Refusal := .next (triadTransaction s copies voterOk core ecc)

end Sys2Proof.Machine
end

