-- ==== Sys2Proof/Machine/Timeline.lean ====
section
/-!
DEFINITION. The tick timeline (R15 to R18, R24): the tick edge and the commit point, where every block has its part.
-/
namespace Sys2Proof.Machine

/-! ### The tick edge -/

/-- Whether the device ticks: out of power-on reset, not held by a start-up failure, not in internal scan, not DORMANT. -/
def ticking (d : Dev) : Bool := d.boot.step != 0 && !d.boot.held && !d.boot.scan && rd d Reg.PWR_STAT_STATE != 2

/-- A port at the edge: no superframe of the new tick yet, and one window less that is still STALE (R101). A port that is not
in service goes on with the window that begins. -/
def portEdge (d : Dev) (p : Nat) (q : FloePort) : FloePort :=
  { q with sfOk := false, staleWin := if pst d p = psActive then q.staleWin - 1 else q.staleWin,
           blk := if inService d p then q.blk else 16 * d.k }

/-- What every tick starts with. -/
def edgeState (d : Dev) : Dev :=
  let d := { d with phase := 0, inc := [], boot := { d.boot with slices := [] }, led := { d.led with hotCap := false }, floe := d.floe.map (fun e => (e.1, portEdge d e.1 e.2)) }
  let d := wr d Reg.SAFE_IN_STATE d.safe.filt
  wrB d Reg.BIST_STAT_ONLINE_ACTIVE (rdB d Reg.BIST_CTRL_ONLINE_EN && !inBoot d && rd d Reg.PWR_STAT_STATE == 0)

/-- The end of an entry's last tick: the Floe lanes are switched off (R460). -/
def lanesOff (d : Dev) : Dev :=
  match d.pwr.entryK with
  | some k => if k ≤ d.k then { d with floe := d.floe.map (fun e => (e.1, { e.2 with lanesOn := false })) } else d
  | none => d

/-- A move to REFCLK that waits for the edge (R465). -/
def refEdge (d : Dev) : Dev := if d.pwr.refPend then streamsGap (refclkMove d) else d

/-- What falls on a cycle boundary in the bus logic (R239, R243, R246). -/
def netEdge (d : Dev) : Dev := if d.k % 20 = 0 then chopTry (tripClear (netGrant d)) else d

/-- The hours since each axis's last passed brake test. -/
def brakeHours (d : Dev) : Dev :=
  (axesOf d).foldl (fun d n =>
    wr d (Reg.SAFE_BRAKE_HOURS n) (min 65535 ((d.k - SMap.get 0 d.safe.brakePass n) / 72000000))) d

/-- The hottest site is compared (R538): `tj` in 0.1 °C. -/
def tjEdge (d : Dev) (tj : Int) (site : Nat) : Dev :=
  let d := if 1050 ≤ tj then raise d Src.PWR_TJ_WARN 0 0 (ofS 32 tj) site else d
  let d := if 1200 ≤ tj then raise d Src.PWR_TJ_TRIP 0 0 (ofS 32 tj) site else d
  if 1350 ≤ tj then porHold d true else d

/-- The tick edge Tk. -/
def tickEdge (d : Dev) (tj : Int) (site : Nat) : Dev :=
  if !ticking d then d
  else
    let d := advanceMarkers (lanesOff (policyEdge d))
    let d := edgeState (advanceTick { d with winTick := none })
    let d := refEdge (engTick d)
    let d := rimeTick (schTick (netEdge d))
    tjEdge (brakeHours (axesTick d)) tj site

/-- TICK_EDGE: `tj` is the temperature of the hottest site in 0.1 °C and `site` its number. -/
def execTickEdge (tj : Int) (site : Nat) (s : State) : Host.Outcome State Fault Refusal :=
  .next { s with d := tickEdge s.d tj site }

/-! ### The commit point -/

/-- A staged write or command takes effect. -/
def commitOne (d : Dev) (x : Staged) : Dev :=
  match x with
  | .regWrite req addr w => devWrite d req addr w
  | .ctrlWords off ws => commitCtrl d off ws
  | .calWord off w => if chanMode d (off / 0x2000) isMaint then commitCalWord d off w else d
  | .calEntry off ws => commitCalEntry d off ws
  | .ledgerClear segs first num => commitClear d segs first num
  | .serac cmd sel first num => seracCommit d cmd sel first num
  | .manual c ws => commitManual d c ws
  | .manRelease c => endManual d c
  | .seqCmd cmd sel start first num => seqCommit d cmd sel start first num
  | .seqProg slot bytes => commitPartnerProg d slot bytes
  | .seqUnload slot => commitUnload d slot
  | .unfence ut ui => liftFence d ut ui
  | .axis n w => axisCommit d n w
  | .tcm addr w => tcmPut d addr w
  | .zone z m => if isStandby d then { d with zreq := d.zreq ++ [⟨z, m, 3, 0, cycNo d⟩] } else d
  | .confirm => confirmDone d
  | .disarm => confirmNote (disarm d)
  | .firnLoad => commitLoad d
  | .chop v => commitChop d v
  | .grant v => wr d Reg.NET_GRANT_W v
  | .hold zs => wr d Reg.SYS_ZHOLD_ZONES (zs &&& productionZones d)

/-- What commits at this point, in order of arrival: the inputs of a pair's closed cycle at its boundary, then the writes
staged in the tick (R17, R18). -/
def commitList (d : Dev) (inputs : List Staged) : List Staged :=
  (if d.k % 20 = 0 then d.sch.txIn else []) ++ inputs ++ d.staged

/-- The staged writes and commands take effect together; they answer no access of their own. -/
def commitAll (d : Dev) : Dev :=
  let (inputs, d) := takeInputs (inputGap d)
  let xs := commitList d inputs
  let r := d.resp
  let last := if isActive d ∧ d.k % 20 = 0 then wr d Reg.SCH_IN_LAST_CYC_CYC (cycNo d - 1) else d
  let d := xs.foldl commitOne { last with staged := [], apply := true }
  { d with apply := false, resp := r }

/-- The unfences accepted since the last commit point (R311). -/
def commitUnfences (d : Dev) : Dev :=
  let us := d.mor.unfence
  us.foldl (fun d u => liftFence d (u / 4096) (u % 4096)) { d with mor := { d.mor with unfence := [] } }

/-- Both Rime controllers are disabled (R340, R460). -/
def rimeOff (d : Dev) : Dev :=
  let d := setCs (syncLoss d 4) csDISABLED
  let d := if tcsOf d = csINTEGRATED then trunkLoss d 4 else d
  trunkM (wr d Reg.RIMET_STAT_CSTATE csDISABLED) (fun c => { c with next := none })

/-- The check of an accepted sleep request at its boundary (R459, R460). -/
def sleepCheck (d : Dev) : Dev :=
  match d.pwr.req with
  | none => d
  | some c =>
    if d.k % 20 ≠ 0 ∨ cycNo d < c then d
    else
      let code := sleepCode d true
      if code ≠ 0 then sleepAbort d code
      else
        let d := wr d Reg.PWR_STAT_STATE 1
        let d := { d with pwr := { d.pwr with req := none, entryK := some d.k } }
        morainePass (raise (rimeOff d) Src.PWR_SLEEP 0 0 0 0) none

/-- The state that the CONTROL window starts from, which an incomplete group goes back to (R227). -/
def snapshot (d : Dev) : Dev := { d with
  chanWas := d.chan, gradeWas := d.grade, seqWas := d.seq.ch, barsWas := d.seq.bars, evqWas := d.led.evq }

/-- The blocks of the closed window that have not come by Tk + 6 µs are gaps (R82, log entry 149). -/
def closeWindow (d : Dev) : Dev := queueAllStarts ((mappedPorts d).foldl (fun d p => gapTo d p (16 * d.k)) d)

/-- The readings of the tick are settled: the bus level, and channels without a reading of this tick (R21, R238). -/
def settleReadings (d : Dev) : Dev :=
  if inBoot d then d else (allChans d).foldl lateReading (levelTick (closeWindow d))

/-- Zone modes, images and power policies at the commit point: the variant before the zone modes (R31, R36, R60, R456). -/
def commitModes (d : Dev) (nv : Nv) : Dev :=
  let d := if d.k % 20 = 0 then commitZones (variantSwitch d nv) else d
  policyServe (commitFirn d nv)

/-- The commit point Tk + 6 µs. -/
def commitPoint (d : Dev) (nv : Nv) : Dev :=
  if !ticking d || decide (1 < d.phase) then d
  else
    let d := settleReadings (rsInstallAll d)
    let d := holdFences (commitUnfences (commitAll d))
    let d := pairCommit (joinLoaded (commitModes d nv))
    let d := sleepCheck d
    let d := snapshot (startControl ((allChans d).foldl pauseScan d))
    { d with phase := 2, tri := { d.tri with commitEv := some d.k } }

/-- COMMIT_POINT. -/
def execCommitPoint (s : State) : Host.Outcome State Fault Refusal := .next { s with d := commitPoint s.d s.nv }

end Sys2Proof.Machine
end

