-- ==== Sys2Proof/Machine/Dispatch.lean ====
section
/-!
DEFINITION. One arm per command of the block: each calls its meaning, or is rejected by name.
-/
namespace Sys2Proof.Machine

/-- The effect of a command on everything but the queue of waiting commands. -/
def exec (i : Instr) (s : State) : Host.Outcome State Fault Refusal :=
  match i with
  | .tickEdge tj site => Sys2Proof.Machine.execTickEdge tj site s
  | .superframeDeadline => Sys2Proof.Machine.execSuperframeDeadline s
  | .commitPoint => Sys2Proof.Machine.execCommitPoint s
  | .seracVerdict flips late parity => Sys2Proof.Machine.execSeracVerdict flips late parity s
  | .commandAssembly => Sys2Proof.Machine.execCommandAssembly s
  | .commandFrameSend => Sys2Proof.Machine.execCommandFrameSend s
  | .floeTickMarker port => Sys2Proof.Machine.execFloeTickMarker port s
  | .sampleBlockRx port hdr blk codeErrs => Sys2Proof.Machine.execSampleBlockRx port hdr blk codeErrs s
  | .superframeRx port hdr blks crc codeErrs => Sys2Proof.Machine.execSuperframeRx port hdr blks crc codeErrs s
  | .brickCapsRx port frame codeErrs => Sys2Proof.Machine.execBrickCapsRx port frame codeErrs s
  | .selectAckRx port frame codeErrs => Sys2Proof.Machine.execSelectAckRx port frame codeErrs s
  | .echoReplyRx port frame rtt codeErrs => Sys2Proof.Machine.execEchoReplyRx port frame rtt codeErrs s
  | .echoSend port => Sys2Proof.Machine.execEchoSend port s
  | .devCapsSend port => Sys2Proof.Machine.execDevCapsSend port s
  | .selectRepeat port => Sys2Proof.Machine.execSelectRepeat port s
  | .floeCommaLock port => Sys2Proof.Machine.execFloeCommaLock port s
  | .floeNoSignal port => Sys2Proof.Machine.execFloeNoSignal port s
  | .floeCapsTimeout port => Sys2Proof.Machine.execFloeCapsTimeout port s
  | .floeDelayTimeout port => Sys2Proof.Machine.execFloeDelayTimeout port s
  | .floeSyncTimeout port => Sys2Proof.Machine.execFloeSyncTimeout port s
  | .floeLockLoss port => Sys2Proof.Machine.execFloeLockLoss port s
  | .expressAckRx port frame codeErrs => Sys2Proof.Machine.execExpressAckRx port frame codeErrs s
  | .expressResend port => Sys2Proof.Machine.execExpressResend port s
  | .expNoack port => Sys2Proof.Machine.execExpNoack port s
  | .restart req port w => Sys2Proof.Machine.execRestart req port w s
  | .floeCntClr req port w => Sys2Proof.Machine.execFloeCntClr req port w s
  | .loadActive req w => Sys2Proof.Machine.execLoadActive req w s
  | .preload req w => Sys2Proof.Machine.execPreload req w s
  | .discard req w => Sys2Proof.Machine.execDiscard req w s
  | .firnVerifyDone partner => Sys2Proof.Machine.execFirnVerifyDone partner s
  | .variantSwitch => Sys2Proof.Machine.execVariantSwitch s
  | .safeConfirm req w => Sys2Proof.Machine.execSafeConfirm req w s
  | .confirmTimeout => Sys2Proof.Machine.execConfirmTimeout s
  | .confirmationRecordWrite => Sys2Proof.Machine.execConfirmationRecordWrite s
  | .captureZero req w => Sys2Proof.Machine.execCaptureZero req w s
  | .captureFull req w => Sys2Proof.Machine.execCaptureFull req w s
  | .compute req w => Sys2Proof.Machine.execCompute req w s
  | .abort req w => Sys2Proof.Machine.execAbort req w s
  | .setNominal req w => Sys2Proof.Machine.execSetNominal req w s
  | .calCaptureDone => Sys2Proof.Machine.execCalCaptureDone s
  | .calSegmentWrite req addr w => Sys2Proof.Machine.execCalSegmentWrite req addr w s
  | .contactCheckPhase ch => Sys2Proof.Machine.execContactCheckPhase ch s
  | .ledgerFold => Sys2Proof.Machine.execLedgerFold s
  | .foldLate => Sys2Proof.Machine.execFoldLate s
  | .ledgerUe addr => Sys2Proof.Machine.execLedgerUe addr s
  | .ledgerSegmentWrite req addr w => Sys2Proof.Machine.execLedgerSegmentWrite req addr w s
  | .multiwordRead by_ addr => Sys2Proof.Machine.execMultiwordRead by_ addr s
  | .shadowTimeout req => Sys2Proof.Machine.execShadowTimeout req s
  | .writeStagingTimeout req => Sys2Proof.Machine.execWriteStagingTimeout req s
  | .ledgerStreamEnable req strm w => Sys2Proof.Machine.execLedgerStreamEnable req strm w s
  | .ledgerStreamCapture strm => Sys2Proof.Machine.execLedgerStreamCapture strm s
  | .flush req w => Sys2Proof.Machine.execFlush req w s
  | .flushDone => Sys2Proof.Machine.execFlushDone s
  | .clrGo req w => Sys2Proof.Machine.execClrGo req w s
  | .go req w => Sys2Proof.Machine.execGo req w s
  | .release req w => Sys2Proof.Machine.execRelease req w s
  | .staleHoldEnter ch => Sys2Proof.Machine.execStaleHoldEnter ch s
  | .holdoverCaptureEnd ch => Sys2Proof.Machine.execHoldoverCaptureEnd ch s
  | .floatSaturated ch => Sys2Proof.Machine.execFloatSaturated ch s
  | .pulseLevelChange ch => Sys2Proof.Machine.execPulseLevelChange ch s
  | .load req w => Sys2Proof.Machine.execLoad req w s
  | .unload req w => Sys2Proof.Machine.execUnload req w s
  | .programVerifyDone partnerOk => Sys2Proof.Machine.execProgramVerifyDone partnerOk s
  | .seqStart req w => Sys2Proof.Machine.execSeqStart req w s
  | .pause req w => Sys2Proof.Machine.execPause req w s
  | .seqResume req w => Sys2Proof.Machine.execSeqResume req w s
  | .seqAbort req w => Sys2Proof.Machine.execSeqAbort req w s
  | .skip req w => Sys2Proof.Machine.execSkip req w s
  | .stepRun ch => Sys2Proof.Machine.execStepRun ch s
  | .stepLoop ch => Sys2Proof.Machine.execStepLoop ch s
  | .stepNext ch => Sys2Proof.Machine.execStepNext ch s
  | .stepBranch ch => Sys2Proof.Machine.execStepBranch ch s
  | .stepBarrier ch => Sys2Proof.Machine.execStepBarrier ch s
  | .stepEnd ch => Sys2Proof.Machine.execStepEnd ch s
  | .terminationFire ch => Sys2Proof.Machine.execTerminationFire ch s
  | .stepTimeTermination ch => Sys2Proof.Machine.execStepTimeTermination ch s
  | .barrierTimeout ch => Sys2Proof.Machine.execBarrierTimeout ch s
  | .remoteBarrierRelease line b => Sys2Proof.Machine.execRemoteBarrierRelease line b s
  | .gradeWindowClose ch => Sys2Proof.Machine.execGradeWindowClose ch s
  | .engineSampleTask e => Sys2Proof.Machine.execEngineSampleTask e s
  | .engineChannelRun e => Sys2Proof.Machine.execEngineChannelRun e s
  | .engineRunaway e => Sys2Proof.Machine.execEngineRunaway e s
  | .engNop e smp w => Sys2Proof.Machine.execEngNop e smp w s
  | .engEnd e smp w => Sys2Proof.Machine.execEngEnd e smp w s
  | .engEvt e smp w => Sys2Proof.Machine.execEngEvt e smp w s
  | .engLdi e smp w => Sys2Proof.Machine.execEngLdi e smp w s
  | .engLdih e smp w => Sys2Proof.Machine.execEngLdih e smp w s
  | .engMov e smp w => Sys2Proof.Machine.execEngMov e smp w s
  | .engLdc e smp w => Sys2Proof.Machine.execEngLdc e smp w s
  | .engAdd e smp w => Sys2Proof.Machine.execEngAdd e smp w s
  | .engSub e smp w => Sys2Proof.Machine.execEngSub e smp w s
  | .engAnd e smp w => Sys2Proof.Machine.execEngAnd e smp w s
  | .engOr e smp w => Sys2Proof.Machine.execEngOr e smp w s
  | .engXor e smp w => Sys2Proof.Machine.execEngXor e smp w s
  | .engMin e smp w => Sys2Proof.Machine.execEngMin e smp w s
  | .engMax e smp w => Sys2Proof.Machine.execEngMax e smp w s
  | .engAbs e smp w => Sys2Proof.Machine.execEngAbs e smp w s
  | .engShl e smp w => Sys2Proof.Machine.execEngShl e smp w s
  | .engShr e smp w => Sys2Proof.Machine.execEngShr e smp w s
  | .engAddi e smp w => Sys2Proof.Machine.execEngAddi e smp w s
  | .engMul e smp w => Sys2Proof.Machine.execEngMul e smp w s
  | .engDiv e smp w => Sys2Proof.Machine.execEngDiv e smp w s
  | .engRdv e smp w => Sys2Proof.Machine.execEngRdv e smp w s
  | .engMpy e smp w => Sys2Proof.Machine.execEngMpy e smp w s
  | .engMac e smp w => Sys2Proof.Machine.execEngMac e smp w s
  | .engMsu e smp w => Sys2Proof.Machine.execEngMsu e smp w s
  | .engMac2 e smp w => Sys2Proof.Machine.execEngMac2 e smp w s
  | .engTapmSlot e smp w => Sys2Proof.Machine.execEngTapmSlot e smp w s
  | .engTapmLine e smp w => Sys2Proof.Machine.execEngTapmLine e smp w s
  | .engClra e smp w => Sys2Proof.Machine.execEngClra e smp w s
  | .engAdda e smp w => Sys2Proof.Machine.execEngAdda e smp w s
  | .engSha e smp w => Sys2Proof.Machine.execEngSha e smp w s
  | .engRnd e smp w => Sys2Proof.Machine.execEngRnd e smp w s
  | .engLda e smp w => Sys2Proof.Machine.execEngLda e smp w s
  | .engSta e smp w => Sys2Proof.Machine.execEngSta e smp w s
  | .engLdh e smp w => Sys2Proof.Machine.execEngLdh e smp w s
  | .engLdhq e smp w => Sys2Proof.Machine.execEngLdhq e smp w s
  | .engSth e smp w => Sys2Proof.Machine.execEngSth e smp w s
  | .engSthq e smp w => Sys2Proof.Machine.execEngSthq e smp w s
  | .engLdha e smp w => Sys2Proof.Machine.execEngLdha e smp w s
  | .engStha e smp w => Sys2Proof.Machine.execEngStha e smp w s
  | .engSincos e smp w => Sys2Proof.Machine.execEngSincos e smp w s
  | .engBr e smp w => Sys2Proof.Machine.execEngBr e smp w s
  | .engBz e smp w => Sys2Proof.Machine.execEngBz e smp w s
  | .engBnz e smp w => Sys2Proof.Machine.execEngBnz e smp w s
  | .engBlt e smp w => Sys2Proof.Machine.execEngBlt e smp w s
  | .engBge e smp w => Sys2Proof.Machine.execEngBge e smp w s
  | .engBnv e smp w => Sys2Proof.Machine.execEngBnv e smp w s
  | .engRep e smp w => Sys2Proof.Machine.execEngRep e smp w s
  | .engRepr e smp w => Sys2Proof.Machine.execEngRepr e smp w s
  | .peakClr req e w => Sys2Proof.Machine.execPeakClr req e w s
  | .auxConversionDone conv raw subt => Sys2Proof.Machine.execAuxConversionDone conv raw subt s
  | .busSenseGap us => Sys2Proof.Machine.execBusSenseGap us s
  | .busLevelStepDown => Sys2Proof.Machine.execBusLevelStepDown s
  | .tripClr req w => Sys2Proof.Machine.execTripClr req w s
  | .testNow req w => Sys2Proof.Machine.execTestNow req w s
  | .chopTestDue => Sys2Proof.Machine.execChopTestDue s
  | .chopTestEnd => Sys2Proof.Machine.execChopTestEnd s
  | .chopUntested => Sys2Proof.Machine.execChopUntested s
  | .seracRelease req w => Sys2Proof.Machine.execSeracRelease req w s
  | .seracTripCmd req w => Sys2Proof.Machine.execSeracTripCmd req w s
  | .qclr req w => Sys2Proof.Machine.execQclr req w s
  | .fireClr req w => Sys2Proof.Machine.execFireClr req w s
  | .injGo req w => Sys2Proof.Machine.execInjGo req w s
  | .triadTransaction copies voterOk core ecc => Sys2Proof.Machine.execTriadTransaction copies voterOk core ecc s
  | .coreParityError core => Sys2Proof.Machine.execCoreParityError core s
  | .reintegration core equal fail => Sys2Proof.Machine.execReintegration core equal fail s
  | .tcmScrub flaw => Sys2Proof.Machine.execTcmScrub flaw s
  | .tcmHostWrite addr w => Sys2Proof.Machine.execTcmHostWrite addr w s
  | .triCalveStart req w => Sys2Proof.Machine.execTriCalveStart req w s
  | .halt req w => Sys2Proof.Machine.execHalt req w s
  | .dbgResume req w => Sys2Proof.Machine.execDbgResume req w s
  | .dbgStep req w => Sys2Proof.Machine.execDbgStep req w s
  | .dbgRegWrite req w => Sys2Proof.Machine.execDbgRegWrite req w s
  | .triWdogKick req w => Sys2Proof.Machine.execTriWdogKick req w s
  | .wdogTimeout => Sys2Proof.Machine.execWdogTimeout s
  | .mismClr req w => Sys2Proof.Machine.execMismClr req w s
  | .morainePass cfgDiff => Sys2Proof.Machine.execMorainePass cfgDiff s
  | .shadowClose => Sys2Proof.Machine.execShadowClose s
  | .faultPulseEnd => Sys2Proof.Machine.execFaultPulseEnd s
  | .faultRel req w => Sys2Proof.Machine.execFaultRel req w s
  | .faultHold req w => Sys2Proof.Machine.execFaultHold req w s
  | .morUnfence req w => Sys2Proof.Machine.execMorUnfence req w s
  | .morInj req w => Sys2Proof.Machine.execMorInj req w s
  | .morRaise req w => Sys2Proof.Machine.execMorRaise req w s
  | .morPendClear req n w => Sys2Proof.Machine.execMorPendClear req n w s
  | .morLogRd req w => Sys2Proof.Machine.execMorLogRd req w s
  | .eventRingWrite => Sys2Proof.Machine.execEventRingWrite s
  | .rimeSlotTx slot lag => Sys2Proof.Machine.execRimeSlotTx slot lag s
  | .rimeFrameRx ch sof gdev framed codeErrs frame => Sys2Proof.Machine.execRimeFrameRx ch sof gdev framed codeErrs frame s
  | .rimeRefTx => Sys2Proof.Machine.execRimeRefTx s
  | .rimeDownlinkTx => Sys2Proof.Machine.execRimeDownlinkTx s
  | .trunkSlotTx lag => Sys2Proof.Machine.execTrunkSlotTx lag s
  | .trunkFrameRx ch sof framed codeErrs frame => Sys2Proof.Machine.execTrunkFrameRx ch sof framed codeErrs frame s
  | .timeOffsetCorrection => Sys2Proof.Machine.execTimeOffsetCorrection s
  | .timeRateCorrection => Sys2Proof.Machine.execTimeRateCorrection s
  | .csListenTimeout trunk => Sys2Proof.Machine.execCsListenTimeout trunk s
  | .csAttemptEnd trunk => Sys2Proof.Machine.execCsAttemptEnd trunk s
  | .rimeChFail ch => Sys2Proof.Machine.execRimeChFail ch s
  | .rimelSyncLoss => Sys2Proof.Machine.execRimelSyncLoss s
  | .gclkFail why => Sys2Proof.Machine.execGclkFail why s
  | .rimelEnable req w => Sys2Proof.Machine.execRimelEnable req w s
  | .rimelDisable req w => Sys2Proof.Machine.execRimelDisable req w s
  | .rimelRestart req w => Sys2Proof.Machine.execRimelRestart req w s
  | .rimetEnable req w => Sys2Proof.Machine.execRimetEnable req w s
  | .rimetDisable req w => Sys2Proof.Machine.execRimetDisable req w s
  | .rimetRestart req w => Sys2Proof.Machine.execRimetRestart req w s
  | .rimetMcGo req w => Sys2Proof.Machine.execRimetMcGo req w s
  | .modeChangeEval => Sys2Proof.Machine.execModeChangeEval s
  | .lineModeChangeEval => Sys2Proof.Machine.execLineModeChangeEval s
  | .timeIsoLimit => Sys2Proof.Machine.execTimeIsoLimit s
  | .schLaneChange mask dly => Sys2Proof.Machine.execSchLaneChange mask dly s
  | .schTickTx => Sys2Proof.Machine.execSchTickTx s
  | .schTickRx ns psub lane frame => Sys2Proof.Machine.execSchTickRx ns psub lane frame s
  | .schTickDeadline => Sys2Proof.Machine.execSchTickDeadline s
  | .inputRx cyc input payload => Sys2Proof.Machine.execInputRx cyc input payload s
  | .closeRx cyc count crc => Sys2Proof.Machine.execCloseRx cyc count crc s
  | .inputGap => Sys2Proof.Machine.execInputGap s
  | .digestRx cyc groups classes => Sys2Proof.Machine.execDigestRx cyc groups classes s
  | .resyncRx batch => Sys2Proof.Machine.execResyncRx batch s
  | .rsReqRx groups classes => Sys2Proof.Machine.execRsReqRx groups classes s
  | .savedRx saved => Sys2Proof.Machine.execSavedRx saved s
  | .bulkRx kind slot total last bytes => Sys2Proof.Machine.execBulkRx kind slot total last bytes s
  | .ownershipClaim => Sys2Proof.Machine.execOwnershipClaim s
  | .claimSample low => Sys2Proof.Machine.execClaimSample low s
  | .takeover corr peerLow => Sys2Proof.Machine.execTakeover corr peerLow s
  | .waitMsTimeout peerLow => Sys2Proof.Machine.execWaitMsTimeout peerLow s
  | .joinTimeout => Sys2Proof.Machine.execJoinTimeout s
  | .joinRetry => Sys2Proof.Machine.execJoinRetry s
  | .detach req w => Sys2Proof.Machine.execDetach req w s
  | .schCntClr req w => Sys2Proof.Machine.execSchCntClr req w s
  | .tpulseOffPulse src high low => Sys2Proof.Machine.execTpulseOffPulse src high low s
  | .safeInputFiltered input level => Sys2Proof.Machine.execSafeInputFiltered input level s
  | .safetyEvaluation cfgDiff => Sys2Proof.Machine.execSafetyEvaluation cfgDiff s
  | .safeEvalLate => Sys2Proof.Machine.execSafeEvalLate s
  | .safeDiscrepancy func kind => Sys2Proof.Machine.execSafeDiscrepancy func kind s
  | .safeResetAction input us gapUs subt => Sys2Proof.Machine.execSafeResetAction input us gapUs subt s
  | .brakeGo req w => Sys2Proof.Machine.execBrakeGo req w s
  | .unlockGo req w => Sys2Proof.Machine.execUnlockGo req w s
  | .relock req w => Sys2Proof.Machine.execRelock req w s
  | .safeOutputTest out => Sys2Proof.Machine.execSafeOutputTest out s
  | .safeOutputTestEnd out off => Sys2Proof.Machine.execSafeOutputTestEnd out off s
  | .safeReadbackFault out sw => Sys2Proof.Machine.execSafeReadbackFault out sw s
  | .tpulseReadbackFault src => Sys2Proof.Machine.execTpulseReadbackFault src s
  | .brakeFeedbackFault axis => Sys2Proof.Machine.execBrakeFeedbackFault axis s
  | .brakeTestDue axis => Sys2Proof.Machine.execBrakeTestDue axis s
  | .brakeTestEnd axis => Sys2Proof.Machine.execBrakeTestEnd axis s
  | .brakeTestOverdue axis => Sys2Proof.Machine.execBrakeTestOverdue axis s
  | .axisPwmPeriod axis raw enc spd => Sys2Proof.Machine.execAxisPwmPeriod axis raw enc spd s
  | .axisStart req axis w => Sys2Proof.Machine.execAxisStart req axis w s
  | .axisStop req axis w => Sys2Proof.Machine.execAxisStop req axis w s
  | .axisClear req axis w => Sys2Proof.Machine.execAxisClear req axis w s
  | .axisMeasureEnd axis emf clamp seqOk => Sys2Proof.Machine.execAxisMeasureEnd axis emf clamp seqOk s
  | .axisStandstill axis => Sys2Proof.Machine.execAxisStandstill axis s
  | .axisStopSlow axis => Sys2Proof.Machine.execAxisStopSlow axis s
  | .axisForceTimeout axis => Sys2Proof.Machine.execAxisForceTimeout axis s
  | .auxTickTrigger conv => Sys2Proof.Machine.execAuxTickTrigger conv s
  | .swGo req conv w => Sys2Proof.Machine.execSwGo req conv w s
  | .apply req conv w => Sys2Proof.Machine.execApply req conv w s
  | .auxCaptureZero req w => Sys2Proof.Machine.execAuxCaptureZero req w s
  | .auxCaptureFull req w => Sys2Proof.Machine.execAuxCaptureFull req w s
  | .auxCompute req w => Sys2Proof.Machine.execAuxCompute req w s
  | .auxCalAbort req w => Sys2Proof.Machine.execAuxCalAbort req w s
  | .auxSetNominal req w => Sys2Proof.Machine.execAuxSetNominal req w s
  | .auxCaptureTimeout => Sys2Proof.Machine.execAuxCaptureTimeout s
  | .sleepEntryComplete => Sys2Proof.Machine.execSleepEntryComplete s
  | .thawAddressMatch => Sys2Proof.Machine.execThawAddressMatch s
  | .wakeNAssert => Sys2Proof.Machine.execWakeNAssert s
  | .aonTimerExpiry => Sys2Proof.Machine.execAonTimerExpiry s
  | .domainReady refOk => Sys2Proof.Machine.execDomainReady refOk s
  | .domainReadyTimeout => Sys2Proof.Machine.execDomainReadyTimeout s
  | .domainRetry => Sys2Proof.Machine.execDomainRetry s
  | .refclkLoss => Sys2Proof.Machine.execRefclkLoss s
  | .refclkRestored => Sys2Proof.Machine.execRefclkRestored s
  | .thawStatus => Sys2Proof.Machine.execThawStatus s
  | .thawWake data => Sys2Proof.Machine.execThawWake data s
  | .thawSleep data => Sys2Proof.Machine.execThawSleep data s
  | .thawTimer data => Sys2Proof.Machine.execThawTimer data s
  | .thawId => Sys2Proof.Machine.execThawId s
  | .thawZone data => Sys2Proof.Machine.execThawZone data s
  | .bistrec n => Sys2Proof.Machine.execBistrec n s
  | .powerOnReset calve rank => Sys2Proof.Machine.execPowerOnReset calve rank s
  | .supplyFall => Sys2Proof.Machine.execSupplyFall s
  | .rstNReset calve rank => Sys2Proof.Machine.execRstNReset calve rank s
  | .lcyReset req w calve rank => Sys2Proof.Machine.execLcyReset req w calve rank s
  | .bistOnlineSlice mem slice last fail lost => Sys2Proof.Machine.execBistOnlineSlice mem slice last fail lost s
  | .hostGo req w => Sys2Proof.Machine.execHostGo req w s
  | .hostTestDone fail => Sys2Proof.Machine.execHostTestDone fail s
  | .transition req w bootKeys firnKeys => Sys2Proof.Machine.execTransition req w bootKeys firnKeys s
  | .rollbackAdv req w => Sys2Proof.Machine.execRollbackAdv req w s
  | .revoke req w => Sys2Proof.Machine.execRevoke req w s
  | .grantCalve req w => Sys2Proof.Machine.execGrantCalve req w s
  | .grantDbg req w => Sys2Proof.Machine.execGrantDbg req w s
  | .hostboot req w at_ => Sys2Proof.Machine.execHostboot req w at_ s
  | .revokeCalve req w => Sys2Proof.Machine.execRevokeCalve req w s
  | .revokeDbg req w => Sys2Proof.Machine.execRevokeDbg req w s
  | .bypass => Sys2Proof.Machine.execBypass s
  | .idcode => Sys2Proof.Machine.execIdcode s
  | .samplePreload => Sys2Proof.Machine.execSamplePreload s
  | .extest rstLow => Sys2Proof.Machine.execExtest rstLow s
  | .highz rstLow => Sys2Proof.Machine.execHighz rstLow s
  | .testmode => Sys2Proof.Machine.execTestmode s
  | .hello req w => Sys2Proof.Machine.execHello req w s
  | .mbxStatus req w => Sys2Proof.Machine.execMbxStatus req w s
  | .zoneMode req w => Sys2Proof.Machine.execZoneMode req w s
  | .mbxSleep req w => Sys2Proof.Machine.execMbxSleep req w s
  | .ring req w => Sys2Proof.Machine.execRing req w s
  | .sysZoneReq req w => Sys2Proof.Machine.execSysZoneReq req w s
  | .hostRingWrite ring => Sys2Proof.Machine.execHostRingWrite ring s
  | .hostRingTail req ring w => Sys2Proof.Machine.execHostRingTail req ring w s
  | .ringHoldoffExpiry ring => Sys2Proof.Machine.execRingHoldoffExpiry ring s
  | .hostLinkDown fundamental => Sys2Proof.Machine.execHostLinkDown fundamental s
  | .qspiRead req w => Sys2Proof.Machine.execQspiRead req w s
  | .qspiProg req w => Sys2Proof.Machine.execQspiProg req w s
  | .erase4k req w => Sys2Proof.Machine.execErase4k req w s
  | .erase64k req w => Sys2Proof.Machine.execErase64k req w s
  | .qspiDone => Sys2Proof.Machine.execQspiDone s
  | .drcUe addr reader => Sys2Proof.Machine.execDrcUe addr reader s
  | .drcScrubLate => Sys2Proof.Machine.execDrcScrubLate s
  | .drcRank rank cause => Sys2Proof.Machine.execDrcRank rank cause s
  | .blockLock req addr w => Sys2Proof.Machine.execBlockLock req addr w s
  | .registerWrite by_ addr w => Sys2Proof.Machine.execRegisterWrite by_ addr w s
  | .rimeActivity ch => Sys2Proof.Machine.execRimeActivity ch s
  | .gclkRestored => Sys2Proof.Machine.execGclkRestored s
  | .tjHoldRelease calve rank => Sys2Proof.Machine.execTjHoldRelease calve rank s
  | .icefallBrakeMs => Sys2Proof.Machine.execIcefallBrakeMs s
  | .pairPeerNFall => Sys2Proof.Machine.execPairPeerNFall s
  | .brakeFbFollows axis => Sys2Proof.Machine.execBrakeFbFollows axis s
  | .hostLinkUp speed width => Sys2Proof.Machine.execHostLinkUp speed width s
  | .patrolScrub addr flaw last => Sys2Proof.Machine.execPatrolScrub addr flaw last s
  | .memorySelfTestDone us fail => Sys2Proof.Machine.execMemorySelfTestDone us fail s
  | .sramWipeDone => Sys2Proof.Machine.execSramWipeDone s
  | .dramTrainingDone size fail => Sys2Proof.Machine.execDramTrainingDone size fail s
  | .dramWipeDone fail => Sys2Proof.Machine.execDramWipeDone fail s
  | .bootVerdict okA okB => Sys2Proof.Machine.execBootVerdict okA okB s
  | .fuseStepDone ok calve rank => Sys2Proof.Machine.execFuseStepDone ok calve rank s

end Sys2Proof.Machine
end

