-- ==== Sys2Proof/Safety.lean ====
section
/-!
DEFINITION. What counts as a well-kept state (its byte memories in canonical form, its fuse map in order) and the words in
which the statements say what a command leaves as it was.
-/
namespace Sys2Proof.Machine

/-- The state with another device: what a command does that leaves the queue and what survives resets alone. -/
abbrev State.withDev (s : State) (d : Dev) : State := { s with d := d }

/-- A state as a transaction that the MPU has judged finds it, and as it leaves it with another device (R292). -/
abbrev State.judgedIn (s : State) : State := { s with d := { s.d with tri := { s.d.tri with judged := true } } }
abbrev State.judgedOut (s : State) (d : Dev) : State := { s with d := { d with tri := { d.tri with judged := false } } }

/-- A mailbox request has run and its response stands: the command, its status and its tag in the first word, `DONE` and
vector 1 (R505, R511). -/
abbrev State.answered (s t : State) (cmd status : Nat) : Prop :=
  t.nv = s.nv ∧ t.pending = s.pending ∧ t.d.resp.err = 0 ∧
  rd t.d (Reg.HOST_MBX_RSP_DATA 0) = cmd + 2 ^ 8 * status + 2 ^ 16 * bits (rd s.d (Reg.HOST_MBX_REQ_DATA 0)) 16 16 ∧
  rdB t.d Reg.HOST_MBX_STAT_DONE = true ∧ rdFBit t.d Reg.HOST_IRQ_STAT_CAUSE 1 = true

/-- A write of a register reaches its block: it is served (R9, R504, R523), and no safe state closes the page (R314). -/
abbrev State.served (s : State) (req : Requester) (addr : Nat) : Prop :=
  accessErr s.d req addr true = 0 ∧ inSafe s.d = false

/-! ### What an engine instruction changes -/

/-- The word holds no valid move slot: `XM` and `YM` move nothing (R219). -/
abbrev gPlain (w : Nat) : Prop := bit (gFields w).x 15 = false ∧ bit (gFields w).y 15 = false

/-- The word of an instruction with an immediate holds no valid move slot. -/
abbrev gPlainI (w : Nat) : Prop := bit (gFields w).y 15 = false

/-- Nothing but an engine's registers, its run and its cycle counts has changed, and of the task's registers none but those
listed. -/
abbrev State.engKeeps (s t : State) (e : Nat) (smp : Bool) (rs : List Nat) : Prop :=
  t.nv = s.nv ∧ t.pending = s.pending ∧ t.d.regs = s.d.regs ∧ t.d.led = s.d.led ∧ t.d.mor = s.d.mor ∧
  (eng t.d e).x = (eng s.d e).x ∧ (eng t.d e).y = (eng s.d e).y ∧ ∀ x, x ∉ rs → gr t.d e smp x = gr s.d e smp x

/-- An instruction has put a value in its destination register, cut to the register's width; a read-only register keeps its
own (R215). -/
abbrev State.engPut (s t : State) (e : Nat) (smp : Bool) (r : Nat) (v : Int) : Prop :=
  s.engKeeps t e smp [r] ∧
  gr t.d e smp r = if gRegOk r = true ∧ gRegReadOnly r = false then ofS (gRegWidth r) v else gr s.d e smp r

/-- An instruction has put a value in an accumulator. -/
abbrev State.engAcc (s t : State) (e : Nat) (smp : Bool) (r : Nat) (v : Int) : Prop :=
  s.engKeeps t e smp [r] ∧ grA t.d e smp r = v

/-- A value lies in the 32-bit format. -/
abbrev fits32 (x : Int) : Prop := -(2 : Int) ^ 31 ≤ x ∧ x < (2 : Int) ^ 31

/-- A value lies in an accumulator's 80 bits. -/
abbrev fits80 (x : Int) : Prop := -(2 : Int) ^ 79 ≤ x ∧ x < (2 : Int) ^ 79

/-! ### Memories in canonical form -/

/-- The byte memories of the state that commands write directly. -/
def State.memories (s : State) : List Memory := [s.d.neve, s.d.dram, s.d.led.mem, s.d.led.home, s.d.host.mem, s.nv.flash]

/-- Every such memory is in its canonical form. -/
def State.memOk (s : State) : Bool := s.memories.all Memory.wf

/-! ### The fuse map -/

/-- What a fuse map must keep for a life-cycle transition to be one of R493: the transition count within its 16 bits, and a move
under way only where it is permitted. -/
def FuseInv (f : Fuses) : Prop := f.trans ≤ 16 ∧ (f.target = 0 ∨ movePermitted f.state f.target = true)

end Sys2Proof.Machine
end

