-- ==== Sys2Proof/Certificates/Slice0/Obligations.lean ====
section
/-!
DEFINITION. The statements for the provers. Each is about every state and every operand that meets its hypotheses; each
result is written as the next state that `exec` or `step` answers, so that what is not named is unchanged.
-/
open Sys2Proof Sys2Proof.Machine

/-- R473, R475, R534: with no life-cycle transition interrupted, each reset source begins the start-up sequence at step 2
with every tick count at zero, records itself as the cause and the straps as sampled, and leaves fuses, flash and the
queue as they are; `RST_N` does nothing in internal scan, `LCY_RESET` acts only for the key 0xD1E5, and a fall of a supply
rail holds the device in reset. -/
def Obligations.ResetsBeginTheStartUp : Prop :=
  ∀ (s : State) (calve rank : Bool) (req : Requester) (w : Nat), s.nv.fuse.target = 0 →
    (s.d.boot.tjHold = false → ∃ t, exec (.powerOnReset calve rank) s = .next t ∧ t.nv = s.nv ∧ t.pending = s.pending ∧
      t.d.k = 0 ∧ t.d.bootOk = false ∧ t.d.boot.step = 2 ∧ t.d.boot.cause = 0 ∧ t.d.boot.strapCalve = calve ∧
      t.d.boot.strapRank = rank ∧ t.d.staged = [] ∧ t.d.led.mem = []) ∧
    (s.d.boot.tjHold = true → ∃ t, exec (.tjHoldRelease calve rank) s = .next t ∧ t.nv = s.nv ∧ t.pending = s.pending ∧
      t.d.k = 0 ∧ t.d.boot.step = 2 ∧ t.d.boot.cause = 0 ∧ t.d.boot.tjHold = false) ∧
    (inPor s.d = false → s.d.boot.scan = false → ∃ t, exec (.rstNReset calve rank) s = .next t ∧ t.nv = s.nv ∧ t.pending = s.pending ∧
      t.d.k = 0 ∧ t.d.bootOk = false ∧ t.d.boot.step = 2 ∧ t.d.boot.cause = 1 ∧ t.d.boot.strapCalve = calve ∧
      t.d.boot.strapRank = rank) ∧
    (s.d.boot.scan = true → exec (.rstNReset calve rank) s = .next s) ∧
    (accessErr s.d req 0x1010801C true = 0 → s.d.boot.scan = false → w % 65536 = 0xD1E5 → ∃ t, exec (.lcyReset req w calve rank) s = .next t ∧
      t.nv = s.nv ∧ t.pending = s.pending ∧ t.d.k = 0 ∧ t.d.boot.step = 2 ∧ t.d.boot.cause = 2) ∧
    (accessErr s.d req 0x1010801C true = 0 → w % 65536 ≠ 0xD1E5 →
      exec (.lcyReset req w calve rank) s = .next (s.withDev (okResp s.d))) ∧
    (∃ t, exec .supplyFall s = .next t ∧ t.nv = s.nv ∧ t.pending = s.pending ∧ t.d.k = 0 ∧ t.d.boot.step = 0 ∧
      t.d.bootOk = false ∧ t.d.regs = [] ∧ t.d.led.mem = [] ∧ t.d.dram = [])

/-- R475 to R486: the start-up steps follow each other. Each of the self-test, the SRAM wipe, the DRAM training and the
DRAM wipe that ends well in its own step leads to the next one, and changes nothing else but the registers that report it.
A failure in a start-up step holds the device in reset, in that step, whatever comes after: no other start-up step then
advances. In step 7 of the start-up, a copy A that passes every check of R483 starts the triad at its entry point with its
code in the TCM; where A fails with a code, copy B is taken if it passes, and `BOOT_CODE` keeps A's code; where both fail,
the device halts with both codes. -/
def Obligations.StartUpSequence : Prop :=
  (∀ (s : State) (us size : Nat), s.d.boot.held = false →
    (s.d.boot.step = 3 → exec (.memorySelfTestDone us none) s = .next (s.withDev { wrB (wr s.d Reg.BIST_STARTUP_US_US us) Reg.BIST_STAT_STARTUP_PASS true with boot := { s.d.boot with step := 4 } })) ∧
    (s.d.boot.step = 4 → exec .sramWipeDone s = .next (s.withDev { s.d with boot := { s.d.boot with step := 5 } })) ∧
    (s.d.boot.step = 5 → 1 ≤ size → size ≤ 32 → exec (.dramTrainingDone size none) s = .next (s.withDev { wrB (wr s.d Reg.DRC_STAT_SIZE size) Reg.DRC_STAT_TRAINED true with boot := { s.d.boot with step := 6 } })) ∧
    (s.d.boot.step = 6 → exec (.dramWipeDone none) s = .next (s.withDev { s.d with boot := { s.d.boot with step := 7 } }))) ∧
  (∀ (s : State) (us size : Nat) (r : FailRec) (fail : Option FailRec),
    (s.d.boot.held = false → s.d.boot.step = 3 → ∃ t, exec (.memorySelfTestDone us (some r)) s = .next t ∧
      t.d.boot.held = true ∧ t.d.boot.step = 3 ∧ rd t.d Reg.BIST_STARTUP_US_US = us % 2 ^ 16 ∧ t.nv = s.nv) ∧
    (s.d.boot.held = false → s.d.boot.step = 5 → ∃ t, exec (.dramTrainingDone size (some r)) s = .next t ∧
      t.d.boot.held = true ∧ t.d.boot.step = 5 ∧ t.nv = s.nv) ∧
    (s.d.boot.held = true → exec (.memorySelfTestDone us fail) s = .next s ∧ exec .sramWipeDone s = .next s ∧
      exec (.dramTrainingDone size fail) s = .next s ∧ exec (.dramWipeDone fail) s = .next s)) ∧
  (∀ (s : State) (okA okB : Bool), s.d.boot.step = 7 → s.d.boot.held = false → s.d.boot.halted = false →
    ∃ t, exec (.bootVerdict okA okB) s = .next t ∧ t.nv = s.nv ∧
      match checkCopy s.nv s.d 0 okA with
      | .ok b => t.d.bootOk = true ∧ t.d.boot.step = 8 ∧ t.d.boot.version = b.version ∧ rd t.d Reg.BIST_STAT_BOOT_CODE = 0 ∧
        t.d.tri.tcm = Memory.writeList s.d.tri.tcm b.load b.code ∧ 0 ∈ t.d.tri.running
      | .error a => match checkCopy s.nv s.d 0x400000 okB with
        | .ok b => t.d.bootOk = true ∧ t.d.boot.step = 8 ∧ t.d.boot.version = b.version ∧
          rd t.d Reg.BIST_STAT_BOOT_CODE = a % 256 ∧ rd t.d Reg.BIST_STAT_COPY_B = 1
        | .error e => t = s.withDev { wr s.d Reg.BIST_STAT_BOOT_CODE (a + 16 * e) with
            boot := { s.d.boot with halted := true } })

/-- R463 to R466: a domain that reports ready is on, and the next one of the power-up order is switched on; when none is
left, the start-up goes on with step 3. A domain that does not report is switched off for 1 ms and tried again; its fourth
failure fails the wake: dormant, `FAULT_N` low, and the domain and its attempts recorded. The loss of REFCLK in running
operation moves the device to its RC, flags the loss and raises the event; its return is noted, and the device moves back
at the next tick edge. -/
def Obligations.DomainsAndReference : Prop :=
  (∀ (s : State) (refOk : Bool) (x : Nat), s.d.boot.step = 2 → s.d.boot.dom ≠ 0 →
    (s.d.boot.offWait = false → nextDom (wrFBit s.d Reg.PWR_STAT_DOM_ON s.d.boot.dom true) = some x →
      ∃ t, exec (.domainReady refOk) s = .next t ∧ t.nv = s.nv ∧ t.d.boot.step = 2 ∧ t.d.boot.dom = x ∧ t.d.boot.tries = 1 ∧
        t.d.regs = (wrFBit s.d Reg.PWR_STAT_DOM_ON s.d.boot.dom true).regs) ∧
    (s.d.boot.offWait = false → nextDom (wrFBit s.d Reg.PWR_STAT_DOM_ON s.d.boot.dom true) = none →
      ∃ t, exec (.domainReady refOk) s = .next t ∧ t.nv = s.nv ∧ t.d.boot.step = 3 ∧ t.d.boot.dom = 0 ∧
        rd t.d Reg.PWR_STAT_STATE = 0 ∧ rd t.d Reg.PWR_STAT_CLK_RC = b2n (!refOk) ∧
        rd t.d Reg.PWR_STAT_WAKE_DEGRADED = b2n (!refOk)) ∧
    (s.d.boot.offWait = false → s.d.boot.tries < 4 → exec .domainReadyTimeout s = .next (s.withDev { wr (wr s.d Reg.PWR_DOM_FAIL_DOMAIN s.d.boot.dom) Reg.PWR_DOM_FAIL_ATTEMPTS s.d.boot.tries with
        boot := { s.d.boot with offWait := true } })) ∧
    (s.d.boot.offWait = false → 4 ≤ s.d.boot.tries → ∃ t, exec .domainReadyTimeout s = .next t ∧ t.nv = s.nv ∧
      t.d.boot.step = 0 ∧ t.d.boot.failed = some (s.d.boot.dom, s.d.boot.tries) ∧ t.d.boot.faultLow = true ∧
      rd t.d Reg.PWR_STAT_STATE = 2 ∧ rd t.d Reg.PWR_DOM_FAIL_FAILED = 1 ∧
      rd t.d Reg.PWR_CNT_FAILS = satAdd 16 (rd s.d Reg.PWR_CNT_FAILS) 1 % 2 ^ 16) ∧
    (s.d.boot.offWait = true → exec .domainRetry s = .next (s.withDev { wr s.d Reg.PWR_DOM_FAIL_ATTEMPTS (s.d.boot.tries + 1) with
        boot := { s.d.boot with offWait := false, tries := s.d.boot.tries + 1 } }))) ∧
  (∀ (s : State), rd s.d Reg.PWR_STAT_STATE = 0 →
    (3 ≤ s.d.boot.step → rdB s.d Reg.PWR_STAT_CLK_RC = false → exec .refclkLoss s = .next (s.withDev (raise (wrB (wrB (wrB (wrB s.d Reg.PWR_STAT_REFCLK_OK false) Reg.PWR_STAT_CLK_RC true) Reg.PWR_STAT_REFCLK_LOST true)
        Reg.PWR_STAT_WAKE_DEGRADED true) Src.PWR_REFCLK_LOSS 0 0 0 0))) ∧
    (rdB s.d Reg.PWR_STAT_CLK_RC = true → exec .refclkRestored s = .next (s.withDev { wrB s.d Reg.PWR_STAT_REFCLK_OK true with pwr := { s.d.pwr with refPend := true } })))

/-- R460 to R462, R468, R469: the end of an entry leaves the device DORMANT with `PWR_CNT.SLEEPS` one higher; an enabled
wake event of the wake address, `WAKE_N` or the timer, and the thaw port's WAKE command, start the power-up sequence as a
wake from DORMANT, and during an entry the event is latched and flagged. The thaw port's read commands answer their bytes
and change nothing but the transfer count; TIMER loads `PWR_TIMER`; SLEEP is answered with `SLEEP_E_LOCKED` where
`SLEEP_EN` is clear and otherwise as any request for dormancy; ZONE queues a mode request for the next boundary; BISTREC
reads the failure record while the device is held. -/
def Obligations.DormancyAndThaw : Prop :=
  (∀ (s : State),
    (rd s.d Reg.PWR_STAT_STATE = 1 → s.d.pwr.wake = false → ∃ t, exec .sleepEntryComplete s = .next t ∧ t.nv = s.nv ∧
      rd t.d Reg.PWR_STAT_STATE = 2 ∧ t.d.boot.step = 0 ∧ t.d.k = 0 ∧ t.d.bootOk = false) ∧
    (rd s.d Reg.PWR_STAT_STATE = 1 → rdB s.d Reg.PWR_WAKE_EN_WAKE_N = true → exec .wakeNAssert s = .next (s.withDev { wrB (wrB s.d Reg.PWR_WAKE_CAUSE_WAKE_N true) Reg.PWR_WAKE_CAUSE_WAKE_IN_ENTRY true with
        pwr := { s.d.pwr with wake := true } })) ∧
    (rd s.d Reg.PWR_STAT_STATE = 2 →
      (rdB s.d Reg.PWR_WAKE_EN_WAKE_N = true → ∃ t, exec .wakeNAssert s = .next t ∧ t.nv = s.nv ∧
        rd t.d Reg.PWR_STAT_STATE = 3 ∧ t.d.boot.step = 2 ∧ t.d.boot.cause = 4 ∧ t.d.k = 0) ∧
      (rdB s.d Reg.PWR_WAKE_EN_THAW = true → ∃ t, exec .thawAddressMatch s = .next t ∧ t.nv = s.nv ∧
        rd t.d Reg.PWR_STAT_STATE = 3 ∧ t.d.boot.step = 2 ∧ t.d.boot.cause = 4) ∧
      (s.d.pwr.timer ≠ 0 → rdB s.d Reg.PWR_WAKE_EN_TIMER = true → ∃ t, exec .aonTimerExpiry s = .next t ∧ t.nv = s.nv ∧
        rd t.d Reg.PWR_STAT_STATE = 3 ∧ t.d.boot.step = 2 ∧ t.d.boot.cause = 4 ∧ t.d.pwr.timer = 0) ∧
      (∃ t, exec (.thawWake [0xA5]) s = .next t ∧ t.nv = s.nv ∧
        rd t.d Reg.PWR_STAT_STATE = 3 ∧ t.d.boot.step = 2 ∧ t.d.boot.cause = 4))) ∧
  (∀ (s : State) (mask ms z m n : Nat),
    exec .thawStatus s = .next (s.withDev { incSat s.d Reg.THAW_CNT_ACK 1 with
      pwr := { s.d.pwr with thawOut := thawStatusBytes s.d, thawAck := true } }) ∧
    exec .thawId s = .next (s.withDev { incSat s.d Reg.THAW_CNT_ACK 1 with
      pwr := { s.d.pwr with thawOut := [0x1F, 0x4A, 0x40, 0x96], thawAck := true } }) ∧
    (ms < 2 ^ 32 → ∃ t, exec (.thawTimer (natBE 4 ms)) s = .next t ∧ rd t.d Reg.PWR_TIMER_MS = ms ∧
      t.d.pwr.thawAck = true ∧ t.d.pwr.timer = if rd s.d Reg.PWR_STAT_STATE = 2 then ms else s.d.pwr.timer) ∧
    (running s.d = true → rdB s.d Reg.THAW_CFG_SLEEP_EN = false →
      exec (.thawSleep [BitVec.ofNat 8 mask, 0x5A]) s = .next (s.withDev (wr { incSat s.d Reg.THAW_CNT_ACK 1 with
        pwr := { s.d.pwr with thawOut := [], thawAck := true } } Reg.PWR_STAT_SLEEP_CODE 5))) ∧
    (running s.d = true → rdB s.d Reg.THAW_CFG_SLEEP_EN = true → mask < 256 →
      (sleepRequest (thawDone s.d []) (mask % 16)).1 = 0 → ∃ t, exec (.thawSleep [BitVec.ofNat 8 mask, 0x5A]) s = .next t ∧
        rd t.d Reg.THAW_STAT_SLEEP_EV = 1 ∧ rd t.d Reg.PWR_RETAIN_BANKS = mask % 16 ∧ rd t.d Reg.PWR_STAT_SLEEP_CODE = 0 ∧
        t.d.pwr.req = some (s.d.k / 20 + 1)) ∧
    (running s.d = true → rdB s.d Reg.THAW_CFG_SLEEP_EN = true → z < 16 → 1 ≤ m → m ≤ 5 →
      zoneMay (thawDone s.d []) z m = true → isStandby s.d = false →
      ∃ t, exec (.thawZone [BitVec.ofNat 8 z, BitVec.ofNat 8 m, 0x3C]) s = .next t ∧ t.d.pwr.zOut = 0xFE ∧
        ⟨z, m, 2, 0, s.d.k / 20 + 1⟩ ∈ t.d.zreq) ∧
    (s.d.boot.held = true → 1 ≤ n → n ≤ 64 → exec (.bistrec n) s = .next (s.withDev { incSat s.d Reg.THAW_CNT_ACK 1 with
      pwr := { s.d.pwr with thawOut := (bistRec s.d).take n, thawAck := true } })))

/-- R484, R492, R493: a life-cycle command written with its key by a served access, with the block not locked, blows the
fuses it names and no others: the rollback counter rises to the running image's version and never falls, revocation bits
are added, a grant is made in PROVISIONED alone, and `LCY_STAT` shows DONE with code 0. -/
def Obligations.LifeCycleCommands : Prop :=
  ∀ (s : State) (req : Requester) (w : Nat), accessErr s.d req 0x10108004 true = 0 → bits w 16 16 = 0x7C1F →
    rdB s.d Reg.LCY_LOCK_LOCK = false →
    (∃ t, exec (.rollbackAdv req w) s = .next t ∧ rd t.d Reg.LCY_STAT_DONE = 1 ∧ rd t.d Reg.LCY_STAT_CODE = 0 ∧
      t.nv = { s.nv with fuse := { s.nv.fuse with
        rollback := max s.nv.fuse.rollback (if s.d.bootOk then min 64 s.d.boot.version else 0) } }) ∧
    (∃ t, exec (.revoke req w) s = .next t ∧ rd t.d Reg.LCY_STAT_DONE = 1 ∧
      t.nv = { s.nv with fuse := { s.nv.fuse with
        bootRev := s.nv.fuse.bootRev ||| bits w 8 4, firnRev := s.nv.fuse.firnRev ||| bits w 12 4 } }) ∧
    (s.nv.fuse.state = 1 →
      (∃ t, exec (.grantCalve req w) s = .next t ∧ rd t.d Reg.LCY_STAT_DONE = 1 ∧
        t.nv = { s.nv with fuse := { s.nv.fuse with calve := true } }) ∧
      (∃ t, exec (.grantDbg req w) s = .next t ∧ rd t.d Reg.LCY_STAT_DONE = 1 ∧
        t.nv = { s.nv with fuse := { s.nv.fuse with dbg := true } })) ∧
    (s.nv.fuse.state ≠ 1 → ∃ t, exec (.grantCalve req w) s = .next t ∧ t.nv = s.nv ∧ rd t.d Reg.LCY_STAT_ERR = 1 ∧
      rd t.d Reg.LCY_STAT_CODE = 2) ∧
    (∃ t, exec (.revokeCalve req w) s = .next t ∧ rd t.d Reg.LCY_STAT_DONE = 1 ∧
      t.nv = { s.nv with fuse := { s.nv.fuse with calveRev := true } }) ∧
    (∃ t, exec (.revokeDbg req w) s = .next t ∧ rd t.d Reg.LCY_STAT_DONE = 1 ∧
      t.nv = { s.nv with fuse := { s.nv.fuse with dbgRev := true } })

/-- R492 to R495: an accepted TRANSITION records its target in the fuses, and turns the safe outputs off; the end of its
fuse writes starts the device anew in that state with one more transition counted; fuses that do not verify end it with
`LCY_E_FUSE` and no state change. HOSTBOOT, in BLANK with the boot halted, starts an image in the TCM that passes the
checks of R483 against the provisioning key; an image that fails starts nothing and is answered with code 3. -/
def Obligations.LifeCycleMovesAndHostBoot : Prop :=
  (∀ (s : State) (req : Requester) (w : Nat) (bk fk : List (Option (Nat × Nat))) (calve rank : Bool),
    (accessErr s.d req 0x10108004 true = 0 → bits w 16 16 = 0x7C1F → rdB s.d Reg.LCY_LOCK_LOCK = false →
      s.nv.fuse.target = 0 → s.nv.fuse.state = 1 → bits w 4 2 = 2 → zones s.d = [] → role s.d = 0 →
      ∃ t, exec (.transition req w bk fk) s = .next t ∧ t.nv = { s.nv with fuse := { s.nv.fuse with target := 2, newBoot := [], newFirn := [] } }) ∧
    (s.nv.fuse.target ≠ 0 → 7 ≤ s.d.boot.step → s.d.boot.scan = false →
      (∃ t, exec (.fuseStepDone true calve rank) s = .next t ∧ t.d.k = 0 ∧ t.d.boot.step = 2 ∧ t.d.boot.cause = 3 ∧
        t.nv.fuse.state = s.nv.fuse.target ∧ t.nv.fuse.target = 0 ∧ t.nv.fuse.trans = min 16 (s.nv.fuse.trans + 1) ∧
        t.nv.flash = s.nv.flash ∧ t.nv.conf = s.nv.conf) ∧
      (∃ t, exec (.fuseStepDone false calve rank) s = .next t ∧ t.nv.fuse.state = s.nv.fuse.state ∧ t.nv.fuse.target = 0 ∧
        t.nv.fuse.trans = s.nv.fuse.trans ∧ rd t.d Reg.LCY_STAT_CODE = 4 ∧ rd t.d Reg.LCY_STAT_ERR = 1))) ∧
  (∀ (s : State) (req : Requester) (w at_ : Nat), accessErr s.d req 0x10108004 true = 0 → bits w 16 16 = 0x7C1F →
    rdB s.d Reg.LCY_LOCK_LOCK = false → s.nv.fuse.state = 0 → s.d.boot.halted = true → isCalved s.d = false →
    ∃ t, exec (.hostboot req w at_) s = .next t ∧ t.nv = s.nv ∧
      match checkBoot (Memory.readList s.d.tri.tcm at_ 192) (Memory.readList s.d.tri.tcm (at_ + 192))
        (fun _ => some Config.provisioningKey) s.nv.fuse.rollback 0x400000 with
      | .ok b => t.d.bootOk = true ∧ t.d.boot.step = 8 ∧ t.d.boot.halted = false ∧ t.d.boot.version = b.version ∧
        rd t.d Reg.LCY_STAT_DONE = 1 ∧ rd t.d Reg.LCY_STAT_CODE = 0
      | .error _ => t.d.bootOk = s.d.bootOk ∧ t.d.boot = s.d.boot ∧ rd t.d Reg.LCY_STAT_ERR = 1 ∧
        rd t.d Reg.LCY_STAT_CODE = 3)

/-- R487 to R490, R496, R497: a boundary-scan instruction loads its register and changes nothing else; IDCODE captures
0x1409_6A95; EXTEST and HIGHZ act with `RST_N` low and are BYPASS otherwise; TESTMODE is BYPASS in DEPLOYED, and elsewhere
enters safe state, wipes the memories and enables the internal scan. An online slice in running operation reports its
place, and a pass is counted; a host test is accepted for a memory that the table permits, outside BOOT and safe state,
and ends with DONE; a slice or test that fails writes the failure record and raises its event. -/
def Obligations.ScanAndMemoryTests : Prop :=
  (∀ (s : State),
    exec .bypass s = .next (s.withDev { s.d with pwr := { s.d.pwr with tap := ⟨0, 0⟩ } }) ∧
    exec .idcode s = .next (s.withDev { s.d with pwr := { s.d.pwr with tap := ⟨1, 0x14096A95⟩ } }) ∧
    (∃ t, exec .samplePreload s = .next t ∧ t.d.pwr.tap.ir = 2 ∧ t.d.regs = s.d.regs ∧ t.nv = s.nv) ∧
    (∃ t, exec (.extest true) s = .next t ∧ t.d.pwr.tap.ir = 3 ∧ t.d.regs = s.d.regs ∧ t.nv = s.nv) ∧
    exec (.extest false) s = exec .bypass s ∧
    exec (.highz true) s = .next (s.withDev { s.d with pwr := { s.d.pwr with tap := ⟨4, 0⟩ } }) ∧
    exec (.highz false) s = exec .bypass s ∧
    (s.nv.fuse.state = 2 → exec .testmode s = exec .bypass s) ∧
    (s.nv.fuse.state ≠ 2 → ∃ t, exec .testmode s = .next t ∧ t.nv = s.nv ∧ t.d.boot.scan = true ∧ t.d.pwr.tap.ir = 5 ∧
      t.d.neve = [] ∧ t.d.eng = [] ∧ t.d.tri.tcm = [] ∧ rd t.d Reg.RIMEL_KEY_STAT_VALID = 0)) ∧
  (∀ (s : State) (mem slice : Nat) (r : FailRec),
    (rdB s.d Reg.BIST_CTRL_ONLINE_EN = true → inBoot s.d = false → rd s.d Reg.PWR_STAT_STATE = 0 → sramId mem = true →
      s.d.boot.memTest = 0 → s.d.phase = 5 → s.d.boot.slices = [] → s.d.led.hotCap = false →
      exec (.bistOnlineSlice mem slice true none []) s = .next (s.withDev (incWrap (wrB (wr (wr
        { s.d with boot := { s.d.boot with slices := [mem] } } Reg.BIST_ONLINE_POS_MEM mem) Reg.BIST_ONLINE_POS_SLICE slice) Reg.BIST_STAT_ONLINE_ACTIVE true)
        Reg.BIST_ONLINE_PASS_CNT 1)) ∧
      ∃ t, exec (.bistOnlineSlice mem slice false (some r) []) s = .next t ∧ t.nv = s.nv ∧
        rd t.d Reg.BIST_STAT_ONLINE_FAIL = 1 ∧ ∃ x, t.d.mor.raised = s.d.mor.raised ++ [x] ∧ x.src = Src.BIST_ONLINE_FAIL ∧
          x.d0 = mem ∧ x.d1 = r.addr % 2 ^ 32) ∧
    (rdB s.d Reg.BIST_STAT_HOST_BUSY = true → s.d.boot.memTest = 2 →
      exec (.hostTestDone none) s = .next (s.withDev (wrB { wrB { s.d with boot := { s.d.boot with memTest := 0 } }
        Reg.BIST_STAT_HOST_BUSY false with neve := s.d.neve.filter (fun c => c.1 / 0x80000 != 1) }
        Reg.BIST_STAT_HOST_DONE true))) ∧
    ∀ (req : Requester) (w : Nat) (d : Dev), s.served req 0x10100004 → d = writeFields s.d req 0x10100004 (setBit w 4 true) →
      hostTestable d (bits (setBit w 4 true) 8 8) = true → inBoot d = false → inSafe d = false →
      rdB d Reg.BIST_STAT_HOST_BUSY = false → exec (.hostGo req w) s = .next (s.withDev
        { wrB d Reg.BIST_STAT_HOST_BUSY true with boot := { d.boot with memTest := bits (setBit w 4 true) 8 8 } }))

/-- R484: ROLLBACK_ADV raises the rollback counter to the `VERSION` of the running image; it never lowers the counter and
never raises it beyond that value; and no step takes the counter out of its 64 bits. -/
def Obligations.RollbackAdvance : Prop :=
  (∀ (s : State) (req : Requester) (w : Nat), accessErr s.d req 0x10108004 true = 0 → bits w 16 16 = 0x7C1F →
    s.d.bootOk = true → s.d.boot.version ≤ 64 → ∃ t, exec (.rollbackAdv req w) s = .next t ∧
      t.nv = { s.nv with fuse := { s.nv.fuse with rollback := t.nv.fuse.rollback } } ∧
      (s.nv.fuse.rollback ≤ s.d.boot.version → t.nv.fuse.rollback = s.d.boot.version) ∧
      (s.d.boot.version ≤ s.nv.fuse.rollback → t.nv.fuse.rollback = s.nv.fuse.rollback)) ∧
  (∀ (s t : State), s.nv.fuse.rollback ≤ 64 → step s = .next t → s.nv.fuse.rollback ≤ t.nv.fuse.rollback ∧
    t.nv.fuse.rollback ≤ 64)

/-- R493: a write of `LCY_CMD` with `KEY` 0x7C1F and command TRANSITION requests the move to `TARGET`, and the permitted
moves are BLANK to PROVISIONED, PROVISIONED to DEPLOYED, and PROVISIONED or DEPLOYED to RETURNED: no other move is ever
requested, whatever the write, and a permitted one that no other rule refuses is. -/
def Obligations.PermittedMoves : Prop :=
  ∀ (s : State) (req : Requester) (w : Nat) (bk fk : List (Option (Nat × Nat))), s.nv.fuse.target = 0 →
    (accessErr s.d req 0x10108004 true = 0 → bits w 16 16 = 0x7C1F → rdB s.d Reg.LCY_LOCK_LOCK = false →
      (∀ z ∈ zones s.d, zmode s.d z ≠ modeProduction) → role s.d = 0 → (bits w 4 2 = 3 → tokenOk s 3 = true) →
      ((s.nv.fuse.state = 0 ∧ bits w 4 2 = 1) ∨ (s.nv.fuse.state = 1 ∧ bits w 4 2 = 2) ∨
        ((s.nv.fuse.state = 1 ∨ s.nv.fuse.state = 2) ∧ bits w 4 2 = 3)) →
      ∃ t, exec (.transition req w bk fk) s = .next t ∧ t.nv.fuse.target = bits w 4 2 ∧ t.nv.fuse.state = s.nv.fuse.state) ∧
    (∃ t, exec (.transition req w bk fk) s = .next t ∧ t.nv.fuse.state = s.nv.fuse.state ∧
      (¬((s.nv.fuse.state = 0 ∧ bits w 4 2 = 1) ∨ (s.nv.fuse.state = 1 ∧ bits w 4 2 = 2) ∨
        ((s.nv.fuse.state = 1 ∨ s.nv.fuse.state = 2) ∧ bits w 4 2 = 3)) ∨ bits w 16 16 ≠ 0x7C1F → t.nv = s.nv))

/-- R8, R9: an aligned 32-bit write to Névé outside the event ring stores its four bytes, the least significant at the
lowest address, reads back as the word written, and leaves every other byte of Névé and everything else alone. -/
def Obligations.NeveWordsReadBack : Prop :=
  ∀ (s : State) (req : Requester) (addr w : Nat), accessErr s.d req addr true = 0 → inTest s.d addr = false →
    0x01080000 ≤ addr → addr < 0x01200000 →
    ∃ t, exec (.registerWrite ⟨req, 4, 0⟩ addr w) s = .next t ∧
      t = s.withDev (okResp { s.d with neve := Memory.writeLE s.d.neve (addr - 0x01000000) 4 w }) ∧
      Memory.readLE t.d.neve (addr - 0x01000000) 4 = w % 2 ^ 32 ∧
      (∀ a, a < addr - 0x01000000 ∨ addr - 0x01000000 + 4 ≤ a → Memory.readByte t.d.neve a = Memory.readByte s.d.neve a) ∧
      ∃ u, exec (.multiwordRead ⟨req, 4, 0⟩ addr) t = .next u ∧ (accessErr t.d req addr false = 0 →
        u = t.withDev (okResp t.d (w % 2 ^ 32)))

/-- R9 to R12: what a register write does is said by its access code. A field RW takes the value written and nothing else
changes; a register RO keeps its value without an error; at an address with no register the write is answered UNMAPPED; an
RWL field of a locked block keeps its value and a differing write is answered REFUSED; an access that is not aligned to 4
bytes is answered ALIGN. A write of a block's lock bit locks the block until reset: in every block, after the write the
lock bit reads 1, whatever else the word holds. A SOLO device outside safe state is asked. -/
def Obligations.RegisterWritesByAccessCode : Prop :=
  (∀ (s : State) (w addr : Nat), s.d.boot.memTest = 0 → s.d.bootOk = true →
    exec (.registerWrite ⟨.host, 4, 0⟩ 0x10020028 w) s = .next (s.withDev (okResp (wr s.d Reg.MOR_RAISE_DATA_DATA w))) ∧
    exec (.registerWrite ⟨.host, 4, 0⟩ 0x10000000 w) s = .next (s.withDev (okResp s.d)) ∧
    exec (.registerWrite ⟨.host, 4, 0⟩ 0x10020050 w) s = .next (s.withDev (errResp s.d .host 0x10020050 errUnmapped true)) ∧
    (rdB s.d Reg.THAW_LOCK_LOCK = true → bits w 0 7 ≠ rd s.d Reg.THAW_CFG_ADDR → 8 ≤ bits w 0 7 → bits w 0 7 ≤ 0x77 →
      exec (.registerWrite ⟨.host, 4, 0⟩ 0x10140000 w) s = .next (s.withDev (errResp s.d .host 0x10140000 errRefused true))) ∧
    (addr % 4 ≠ 0 → 0x400000 ≤ addr → exec (.registerWrite ⟨.host, 4, 0⟩ addr w) s = .next (s.withDev (errResp s.d .host addr errAlign true)))) ∧
  (∀ (s : State) (req : Requester) (addr w : Nat), addr ∈ lockAddrs → s.served req addr → s.d.boot.memTest = 0 →
    role s.d = 0 → ∃ t, exec (.blockLock req addr w) s = .next t ∧ rd t.d (lockOf addr) = 1 ∧ t.d.resp.err = 0 ∧ t.nv = s.nv)

/-- R134, R135: a read of the lowest word of a 64-bit HOT value holds the whole value for its requester, and the read of
the upper word returns the word held and releases it; an upper word read with none held returns the live word and is
flagged torn; the 64 µs timeout releases what is held, and discards an incomplete staged write with its flag. -/
def Obligations.MultiWordAccess : Prop :=
  ∀ (s : State) (c : Nat), c < 4096 → s.d.bootOk = true → s.d.boot.memTest = 0 →
    ¬ (s.d.led.ue.contains ((c * 0x2000 + 0x30) / 256) = true) →
    (exec (.multiwordRead ⟨.host, 4, 0⟩ (0x04000000 + c * 0x200 + 0x30)) s = .next (s.withDev (okResp (setShadow s.d .host (some
      ⟨c * 0x2000 + 0x30, [some (hot s.d c 0x30 4), some (hot s.d c 0x34 4)]⟩)) (hot s.d c 0x30 4)))) ∧
    (∀ lo hi, SMap.find s.d.led.shadow 0 = some ⟨c * 0x2000 + 0x30, [some lo, some hi]⟩ →
      exec (.multiwordRead ⟨.host, 4, 0⟩ (0x04000000 + c * 0x200 + 0x34)) s = .next (s.withDev (okResp (setShadow s.d .host none) hi))) ∧
    (SMap.find s.d.led.shadow 0 = none → exec (.multiwordRead ⟨.host, 4, 0⟩ (0x04000000 + c * 0x200 + 0x34)) s =
      .next (s.withDev (okResp (wr (wrB s.d Reg.LEDGER_RSTAT_TORN_HOST true) Reg.LEDGER_TORN_ADDR_ADDR
        (0x04000000 + c * 0x200 + 0x34)) (hot s.d c 0x34 4)))) ∧
    (exec (.shadowTimeout .host) s = .next (s.withDev (setShadow s.d .host none))) ∧
    (∀ m rest, stagings s.d .host = m :: rest → exec (.writeStagingTimeout .host) s = .next (s.withDev
      (wr (wrB (setStagings s.d .host rest) Reg.LEDGER_RSTAT_WTORN_HOST true) Reg.LEDGER_TORN_ADDR_ADDR (0x05000000 + m.addr))))

/-- R214: a read of an engine memory returns its current contents whatever the device does; a write is performed in BOOT
alone, stores its word and leaves every other word of every engine as it was, and at any other time is refused under R12.
-/
def Obligations.EngineMemoryAccess : Prop :=
  ∀ (s : State) (req : Requester) (addr w v : Nat), 0x02000000 ≤ addr → addr < 0x02600000 → addr % 0x40000 < 0x28000 →
    inTest s.d addr = false →
    (accessErr s.d req addr false = 0 → engWord s.d ((addr - 0x02000000) / 0x40000) (addr % 0x40000) = some v →
      exec (.multiwordRead ⟨req, 4, 0⟩ addr) s = .next (s.withDev (okResp s.d v))) ∧
    (accessErr s.d req addr true = 0 → inBoot s.d = true → ∃ t, exec (.registerWrite ⟨req, 4, 0⟩ addr w) s = .next t ∧
      t = s.withDev { s.d with eng := t.d.eng, resp := ⟨0, 0⟩ } ∧
      engWord t.d ((addr - 0x02000000) / 0x40000) (addr % 0x40000) = some (w % 2 ^ 32) ∧
      ∀ e off, off % 4 = 0 → (e ≠ (addr - 0x02000000) / 0x40000 ∨ off ≠ addr % 0x40000) →
        engWord t.d e off = engWord s.d e off) ∧
    (accessErr s.d req addr true = 0 → inBoot s.d = false →
      exec (.registerWrite ⟨req, 4, 0⟩ addr w) s = .next (s.withDev (refuseW s.d req addr)))

/-- R277, R280, R281, R283, R292: three equal copies of a transaction that the MPU allows are performed once, as a read or
a whole write of the triad; an access to registers of another size is answered ALIGN; a third copy that differs is
outvoted: its core is fenced, the triad becomes DUPLEX, its source is raised, and the agreed transaction is performed; and
a full-word write of the TCM stores its two halves and ends the word's poison (that a memory takes 64 bits at once is the
model's reading: log entry 126). Where the two voters differ, whatever the cores present, nothing is performed,
`TRI_VOTER_CMP` is raised and no transaction of the triad is performed from then on, by whatever command; a transaction
that the MPU denies is suppressed and logged, and so is a register write of the triad that it denies to a supervisor. -/
def Obligations.TriadVotes : Prop :=
  (∀ (s : State) (x y : BusOp), s.d.tri.running ≠ [] → rdB s.d Reg.TRI_DBG_STAT_HALTED = false → s.d.mor.noTriad = false →
    isCalved s.d = false → rd s.d Reg.TRI_STAT_FENCED = 0 → s.d.tri.replay = false → mpuAllows s.d 0 x = true →
    (x.write = false → x.be = 15 → ((byteMem x.addr = true ∧ x.size ≠ 8) ∨ x.size = 4) →
      exec (.triadTransaction [some x, some x, some x] true 0 0) s = .next (s.judgedOut (busRead s.judgedIn.d .triad x.addr 0))) ∧
    (byteMem x.addr = false → x.size ≠ 4 → exec (.triadTransaction [some x, some x, some x] true 0 0) s =
      .next (s.judgedOut (errResp s.judgedIn.d .triad x.addr errAlign x.write))) ∧
    (x.write = true → x.be = 15 → ((byteMem x.addr = true ∧ x.size ≠ 8) ∨ x.size = 4) → exec (.triadTransaction [some x, some x, some x] true 0 0) s =
      .next ((busWrite s.judgedIn .triad x.addr x.data).judgedOut (busWrite s.judgedIn .triad x.addr x.data).d)) ∧
    (x.write = true → x.be = 15 → x.addr % 4 = 0 → x.addr < 0x400000 → x.size ≠ 8 → inTest s.d x.addr = false →
      x.addr = y.addr → x.data ≠ y.data →
      ∃ t, exec (.triadTransaction [some x, some x, some y] true 0 0) s = .next t ∧
        rdFBit t.d Reg.TRI_STAT_FENCED 2 = true ∧ rd t.d Reg.SYS_PROPS_TRIAD = 1 ∧ rd t.d Reg.TRI_MISM_LAST_CORE = 2 ∧
        rd t.d Reg.TRI_MISM_LAST_KIND = 1 ∧ t.d.tri.tcm = Memory.writeLE s.d.tri.tcm x.addr 4 x.data ∧
        ∃ e, t.d.mor.raised = s.d.mor.raised ++ [e] ∧ e.src = 0x12 ∧ e.ut = 7 ∧ e.ui = 2) ∧
    (x.write = true → x.be = 255 → x.size = 8 → x.addr % 8 = 0 → x.addr < 0x400000 → inTest s.d x.addr = false →
      ∃ t, exec (.triadTransaction [some x, some x, some x] true 0 0) s = .next t ∧ t.nv = s.nv ∧ t.d.regs = s.d.regs ∧
        t.d.tri.tcm = Memory.writeLE (Memory.writeLE s.d.tri.tcm x.addr 4 (x.data % 2 ^ 32)) (x.addr + 4) 4 (x.data / 2 ^ 32) ∧
        ¬(x.addr ∈ t.d.tri.bad))) ∧
  (∀ (s : State) (x : BusOp) (cs : List (Option BusOp)) (addr w core ecc : Nat),
    (s.d.tri.running ≠ [] → s.d.mor.noTriad = false → isCalved s.d = false →
      ∃ t, exec (.triadTransaction cs false core ecc) s = .next t ∧ t.nv = s.nv ∧ t.d.mor.noTriad = true ∧
        t.d.mor.raised.map (·.src) = s.d.mor.raised.map (·.src) ++ [Src.TRI_VOTER_CMP] ∧ t.d.tri.tcm = s.d.tri.tcm ∧
        t.d.neve = s.d.neve ∧ t.d.dram = s.d.dram ∧ t.d.resp = s.d.resp) ∧
    (s.d.mor.noTriad = true → s.d.apply = false →
      exec (.triadTransaction cs true core ecc) s = .next s ∧ exec (.registerWrite ⟨.triad, 4, 0⟩ addr w) s = .next s ∧
      exec (.multiwordRead ⟨.triad, 4, 0⟩ addr) s = .next s) ∧
    (s.d.tri.running ≠ [] → rdB s.d Reg.TRI_DBG_STAT_HALTED = false → s.d.mor.noTriad = false → isCalved s.d = false →
      rd s.d Reg.TRI_STAT_FENCED = 0 → s.d.tri.replay = false → mpuAllows s.d 0 x = false →
      exec (.triadTransaction [some x, some x, some x] true 0 0) s = .next (s.withDev (mpuDeny s.d 0 x))) ∧
    (s.d.mor.noTriad = false → s.d.apply = false → s.d.tri.judged = false → isCalved s.d = false →
      mpuAllows s.d 0 (supOp addr true) = false → exec (.registerWrite ⟨.triad, 4, 0⟩ addr w) s =
        .next (s.withDev (mpuDeny s.d 0 (supOp addr true)))) ∧
    (∃ t, mpuDeny s.d 0 x = t ∧ rd t Reg.TRI_MPU_VADDR_ADDR = x.addr % 2 ^ 32 ∧ rdB t Reg.TRI_STAT_MPU_EV = true ∧
      rd t Reg.TRI_MPU_VINFO_TYPE = b2n x.write + 2 * b2n x.fetch + 4 * b2n x.user ∧
      t.mor.raised.map (·.src) = s.d.mor.raised.map (·.src) ++ [Src.TRI_MPU] ∧ t.tri = s.d.tri ∧ t.neve = s.d.neve))

/-- R284, R286, R290, R291, R293, R295 to R299: a parity error fences its core and raises the core's source; a fenced core
that may be re-integrated and whose check passes runs again in a voted triad; the scrubber goes word by word; a host write
to the TCM is stored where an MPU region grants it; and in CALVED core 0 releases a core at its entry address. In a
life-cycle state that permits debug, with no zone in PRODUCTION, SOLO and core 0 not fenced, HALT, resume, step and a
register write act on every running core; a kick of the running watchdog with its key restarts the period, a period
without one raises the event; and the triad alone clears the mismatch counts. -/
def Obligations.TriadCoresAndDebug : Prop :=
  (∀ (s : State) (c addr w r : Nat),
    (c < 3 → rdFBit s.d Reg.TRI_STAT_FENCED c = false → triCfg s.d = 0 → exec (.coreParityError c) s =
      .next (s.withDev (raise (coreFence s.d c 6 0) (0x10 + c) 7 c (6 + 16 * c) 0))) ∧
    (mayReintegrate s.d c = true → ∃ t, exec (.reintegration c true 0) s = .next t ∧ t.nv = s.nv ∧
      rdFBit t.d Reg.TRI_STAT_FENCED c = false ∧ rd t.d Reg.TRI_STAT_CONFIG = 0 ∧ rd t.d Reg.SYS_PROPS_TRIAD = 0 ∧
      c ∈ t.d.tri.running ∧ t.d.mor.raised = s.d.mor.raised) ∧
    (rdB s.d Reg.TRI_SCRUB_EN = true → s.d.tri.scrub + 8 ≠ 0x400000 → exec (.tcmScrub 0) s = .next (s.withDev
      { s.d with tri := { s.d.tri with scrub := s.d.tri.scrub + 8 } })) ∧
    (s.d.bootOk = true → addr % 4 = 0 → addr < 0x400000 → mpuRegion s.d 0 addr = some r →
      rdB s.d (Reg.TRI_MPU_ATTR_HOSTW r) = true → role s.d = 0 → exec (.tcmHostWrite addr w) s = .next (s.withDev
      (okResp { s.d with tri := { s.d.tri with tcm := Memory.writeLE s.d.tri.tcm addr 4 w } }))) ∧
    (s.d.bootOk = true → addr % 4 = 0 → addr < 0x400000 → mpuRegion s.d 0 addr = none →
      exec (.tcmHostWrite addr w) s = .next (s.withDev (errResp s.d .host addr errRefused true))) ∧
    (s.served .triad 0x1003004C → isCalved s.d = true → s.d.tri.running = [0] → rdFBit s.d Reg.TRI_STAT_FENCED 1 = false →
      exec (.triCalveStart .triad 2) s = .next (s.withDev { s.d with
        tri := { s.d.tri with running := [0, 1], pc := SMap.set 0 s.d.tri.pc 1 (rd s.d (Reg.TRI_CALVE_ENTRY_ADDR 0)) }
        resp := ⟨0, 0⟩ }))) ∧
  (∀ (s : State) (req : Requester) (w : Nat),
    (s.served req 0x10030050 → debugPermitted s.d = true → debugRefused s.d = false →
      (rdB s.d Reg.TRI_DBG_STAT_HALTED = false → exec (.halt req w) s = .next (s.withDev
        { wrB (okResp s.d) Reg.TRI_DBG_STAT_HALTED true with
          free := s.d.free + 1
          tri := { s.d.tri with cores := [], runs := s.d.free, replay := true, step := false } })) ∧
      (rdB s.d Reg.TRI_DBG_STAT_HALTED = true → exec (.halt req w) s = .next (s.withDev
        { okResp s.d with tri := { s.d.tri with replay := true, step := false } })) ∧
      exec (.dbgResume req w) s = .next (s.withDev { wrB (okResp s.d) Reg.TRI_DBG_STAT_HALTED false with
        free := s.d.free + 1
        tri := { s.d.tri with cores := [], runs := s.d.free, replay := true, step := false } }) ∧
      exec (.dbgStep req w) s = .next (s.withDev { okResp s.d with
        free := s.d.free + 1
        tri := { s.d.tri with cores := [], runs := s.d.free, replay := true, step := true } })) ∧
    (s.served req 0x10030050 → debugPermitted s.d = true → debugRefused s.d = true →
      exec (.halt req w) s = .next (s.withDev (refuseW (wrB s.d Reg.TRI_DBG_STAT_REFUSED true) req 0x10030050)) ∧
      exec (.dbgStep req w) s = .next (s.withDev (refuseW (wrB s.d Reg.TRI_DBG_STAT_REFUSED true) req 0x10030050)) ∧
      (rdFBit s.d Reg.TRI_STAT_FENCED 0 = true →
        exec (.dbgResume req w) s = .next (s.withDev (refuseW (wrB s.d Reg.TRI_DBG_STAT_REFUSED true) req 0x10030050)))) ∧
    (s.served req 0x1003005C → debugPermitted s.d = true → debugRefused s.d = false → s.d.tri.running = [0] →
      exec (.dbgRegWrite req w) s = .next (s.withDev { wr (okResp s.d) Reg.TRI_DBG_REG_DATA_DATA w with
        tri := { s.d.tri with cores := SMap.set 0 s.d.tri.cores (rd s.d Reg.TRI_DBG_REG_SEL_REG) (w % 2 ^ 32), replay := true, step := false } })) ∧
    (s.served req 0x10030020 → rd s.d Reg.TRI_WDOG_CFG_PERIOD ≠ 0 → bits w 0 16 = 0xA55A → exec (.triWdogKick req w) s =
      .next (s.withDev { okResp s.d with tri := { s.d.tri with kickK := s.d.k } })) ∧
    (rd s.d Reg.TRI_WDOG_CFG_PERIOD ≠ 0 → s.d.tri.kickK + rd s.d Reg.TRI_WDOG_CFG_PERIOD ≤ s.d.k → exec .wdogTimeout s =
      .next (s.withDev (raise (wrB { s.d with tri := { s.d.tri with kickK := s.d.k } } Reg.TRI_STAT_WDOG_EV true)
        Src.TRI_WDOG 0 0 0 0))) ∧
    (s.served .triad 0x10030000 → exec (.mismClr .triad w) s = .next (s.withDev (wr (writeFields s.d .triad 0x10030000 w)
      Reg.TRI_MISM_CNT_CNT 0))) ∧
    (s.served .host 0x10030000 → exec (.mismClr .host w) s = .next (s.withDev (refuseW s.d .host 0x10030000))))

/-- R302, R307, R309, R310, R313, R314, R316, R318 to R321, R326: a pass over one NOTE event whose source is set to LOG,
with no shadow open, counts it, sets its pending bit, records it as the last event and queues its entry for the ring; it
fences nothing and `FAULT_N` stays as it was. A pass over one SEVERE event on a group whose source is set to FENCE fences
the group at once, remembers the source as its fencer, opens a shadow of `SHADOW` ticks over it and drives `FAULT_N` low.
A pass over one FATAL event with reaction SAFE enters safe state, records its source, and orders the bay quench; one that
finds a difference of the configuration's copies does so whatever the reaction tables hold. -/
def Obligations.MorainePass : Prop :=
  (∀ (s : State) (e : MorEv), s.d.mor.raised = [e] → s.d.mor.shadows = [] → e.src < 384 → s.d.mor.queue.length < 512 →
    rd s.d (Reg.MOR_SRC_CFG_CLASS e.src) = 0 → rd s.d (Reg.MOR_SRC_CFG_REACT e.src) = 0 → 0 < rd s.d Reg.MOR_CTRL_FAULT_CLASS →
    ∃ t, exec (.morainePass none) s = .next t ∧ t.nv = s.nv ∧ t.d.mor.raised = [] ∧
      t.d.mor.queue = s.d.mor.queue ++ [⟨e, 0, false, false, 0⟩] ∧
      rd t.d Reg.MOR_EVT_CNT_CNT = (rd s.d Reg.MOR_EVT_CNT_CNT + 1) % 2 ^ 32 ∧
      rdBit t.d Reg.MOR_PEND_SRC e.src = true ∧ rd t.d Reg.MOR_LAST_SRC = e.src ∧ rd t.d Reg.MOR_LAST_CLASS = 0 ∧
      rdB t.d Reg.MOR_STAT_FAULT = rdB s.d Reg.MOR_STAT_FAULT ∧ t.d.mor.fencers = s.d.mor.fencers ∧ t.d.neve = s.d.neve) ∧
  (∀ (s : State) (e : MorEv), s.d.mor.raised = [e] → s.d.mor.shadows = [] → e.src < 384 → e.ut = 4 → e.ui < 256 →
    s.d.mor.queue.length < 512 → rd s.d (Reg.MOR_SRC_CFG_CLASS e.src) = 2 → rd s.d (Reg.MOR_SRC_CFG_REACT e.src) = 2 →
    0 < rd s.d (Reg.MOR_SRC_CFG_SHADOW e.src) → rd s.d Reg.MOR_CTRL_FAULT_CLASS ≤ 2 →
    ∃ t, exec (.morainePass none) s = .next t ∧ t.nv = s.nv ∧ ownFence t.d 4 e.ui = true ∧
      e.src ∈ SMap.get [] t.d.mor.fencers (4 * 4096 + e.ui) ∧
      t.d.mor.shadows = [⟨4, e.ui, 2, some (s.d.k + rd s.d (Reg.MOR_SRC_CFG_SHADOW e.src))⟩] ∧
      rdB t.d Reg.MOR_STAT_FAULT = true ∧ rdB t.d Reg.MOR_STAT_PULSE = true ∧ rd t.d Reg.MOR_LAST_REACT = 2 ∧
      t.d.mor.queue = s.d.mor.queue ++ [⟨e, 2, false, false, 2⟩]) ∧
  (∀ (s : State) (e : MorEv) (w : Nat),
    (s.d.mor.raised = [e] → s.d.mor.shadows = [] → e.src < 384 → inSafe s.d = false →
      rd s.d (Reg.MOR_SRC_CFG_CLASS e.src) = 3 → rd s.d (Reg.MOR_SRC_CFG_REACT e.src) = 5 →
      ∃ t, exec (.morainePass none) s = .next t ∧ t.nv = s.nv ∧ inSafe t.d = true ∧ rd t.d Reg.MOR_SAFE_SRC_SRC = e.src ∧
        rd t.d Reg.SERAC_QUENCH_BQ = 1) ∧
    (s.d.mor.raised = [] → inSafe s.d = false → ∃ t, exec (.morainePass (some w)) s = .next t ∧ t.nv = s.nv ∧
      inSafe t.d = true ∧ rd t.d Reg.MOR_SAFE_SRC_SRC = Src.MOR_CFG_PARITY ∧ rd t.d Reg.SERAC_QUENCH_BQ = 1 ∧
      rdB t.d Reg.MOR_STAT_CFG_PARITY = true))

/-- R314, R316, R319: `FAULT_N` stays low for the pulse of 20 ticks, and a release written during it takes effect at its
end; `FAULT_HOLD` drives it low; shadows whose ticks are over close and no others do; and `BRAKE_MS` after the icefall the
brakes of its axes fall. -/
def Obligations.FaultNAndShadows : Prop :=
  ∀ (s : State) (req : Requester) (w n : Nat),
    (rdB s.d Reg.MOR_STAT_PULSE = true → s.d.mor.pulseK + 20 ≤ s.d.k → s.d.mor.relPend = false → exec .faultPulseEnd s =
      .next (s.withDev (wrB s.d Reg.MOR_STAT_PULSE false))) ∧
    (rdB s.d Reg.MOR_STAT_PULSE = true → s.d.mor.pulseK + 20 ≤ s.d.k → s.d.mor.relPend = true → inSafe s.d = false → ∃ t, exec .faultPulseEnd s = .next t ∧
      rdB t.d Reg.MOR_STAT_PULSE = false ∧ rdB t.d Reg.MOR_STAT_FAULT = false ∧ t.d.mor = { s.d.mor with relPend := false } ∧
      t.nv = s.nv) ∧
    (s.served req 0x10020000 → bits (setBit w 0 true) 4 2 = rd s.d Reg.MOR_CTRL_FAULT_CLASS → rd s.d Reg.MOR_CTRL_FAULT_CLASS ≠ 0 → bit (setBit w 0 true) 1 = false →
      (rdB s.d Reg.MOR_STAT_PULSE = false → exec (.faultRel req w) s =
        .next (s.withDev (wrB (okResp s.d) Reg.MOR_STAT_FAULT false))) ∧
      (rdB s.d Reg.MOR_STAT_PULSE = true → exec (.faultRel req w) s =
        .next (s.withDev { okResp s.d with mor := { s.d.mor with relPend := true } }))) ∧
    (s.served req 0x10020000 → bits (setBit w 1 true) 4 2 = rd s.d Reg.MOR_CTRL_FAULT_CLASS → rd s.d Reg.MOR_CTRL_FAULT_CLASS ≠ 0 → bit (setBit w 1 true) 0 = false →
      exec (.faultHold req w) s = .next (s.withDev (wrB { okResp s.d with mor := { s.d.mor with relPend := false } }
        Reg.MOR_STAT_FAULT true))) ∧
    (s.d.k < s.d.mor.pulseK + 20 → exec .faultPulseEnd s = .next s) ∧
    (∃ t, exec .shadowClose s = .next t ∧ t = s.withDev { s.d with mor := { s.d.mor with shadows := t.d.mor.shadows } } ∧
      ∀ x, x ∈ t.d.mor.shadows ↔ x ∈ s.d.mor.shadows ∧ ∀ c, x.close = some c → s.d.k < c) ∧
    (s.d.mor.brakeDue = true → axesOf s.d = [n] → (axis s.d n).ice = true → exec .icefallBrakeMs s = .next (s.withDev
      { driveBrake s.d n false with mor := { (driveBrake s.d n false).mor with brakeDue := false } }))

/-- R303, R311, R320, R322 to R324: `MOR_RAISE` raises one of the eight software sources on the unit it names with its
data word, and `MOR_INJ` an injected event of any assigned source that fits the unit, in SERVICE and COMMISSION, whatever
the pair role; an unfence of this device's own fence, with no source of it pending, waits for the commit point; a unit
that does not exist is refused. A write of a pending register clears the bits written 1; the oldest waiting entry goes to
its place in the ring as 32 bytes with its sequence number, and the count of entries rises by one; bytes outside the entry
and the header stay; a write of `MOR_LOG_RD` is copied to the header. -/
def Obligations.MoraineCommandsAndRing : Prop :=
  (∀ (s : State) (req : Requester) (w : Nat), bit w 31 = true →
    (s.served req 0x10020024 → unitOk (bits w 12 4) (bits w 16 12) = true → ∃ t, exec (.morRaise req w) s = .next t ∧
      t.d.mor.raised = s.d.mor.raised ++ [⟨8 + bits w 0 3, bits w 12 4, bits w 16 12, rd s.d Reg.MOR_RAISE_DATA_DATA % 2 ^ 32, 0,
        s.d.k, freeVal s.d % 50000, false⟩] ∧ t.nv = s.nv) ∧
    (s.served req 0x10020024 → unitOk (bits w 12 4) (bits w 16 12) = false → exec (.morRaise req w) s =
      .next (s.withDev (refuseW s.d req 0x10020024))) ∧
    (s.served req 0x10020020 → allMaint s.d = true → morAssigned (bits w 0 9) = true → morUnit (bits w 0 9) = bits w 12 4 →
      unitOk (bits w 12 4) (bits w 16 12) = true → ∃ t, exec (.morInj req w) s = .next t ∧
      t.d.mor.raised = s.d.mor.raised ++ [⟨bits w 0 9, bits w 12 4, bits w 16 12, 0, 0, s.d.k, freeVal s.d % 50000, true⟩]) ∧
    (s.served req 0x1002002C → bits w 0 4 = 4 → ownFence s.d 4 (bits w 4 12) = true →
      SMap.get [] s.d.mor.fencers (4 * 4096 + bits w 4 12) = [] → ∃ t, exec (.morUnfence req w) s = .next t ∧
      t.d.mor.unfence = s.d.mor.unfence ++ [4 * 4096 + bits w 4 12] ∧ ownFence t.d 4 (bits w 4 12) = true)) ∧
  (∀ (s : State) (req : Requester) (w i : Nat) (x : MorEntry) (q : List MorEntry),
    (i < 12 → s.served req (0x10020080 + 4 * i) → (∀ n < 32, standing s.d (32 * i + n) = []) → exec (.morPendClear req i w) s = .next (s.withDev (okResp (wr s.d
      (Reg.MOR_PEND_SRC i) (rd s.d (Reg.MOR_PEND_SRC i) - (rd s.d (Reg.MOR_PEND_SRC i) &&& w % 2 ^ 32)))))) ∧
    (s.served req 0x10020030 → exec (.morLogRd req w) s = .next (s.withDev
      { okResp (wr s.d Reg.MOR_LOG_RD_RD w) with neve := Memory.writeLE s.d.neve 0x77FD0 4 (w % 2 ^ 32) })) ∧
    (s.d.mor.queue = x :: q → (hring s.d 0).en = false →
      (rd s.d Reg.MOR_LOG_WRITTEN_CNT + 2 ^ 32 - rd s.d Reg.MOR_LOG_RD_RD) % 2 ^ 32 ≠ 1024 →
      ∃ t, exec .eventRingWrite s = .next t ∧ t.nv = s.nv ∧ t.d.mor.queue = q ∧
        rd t.d Reg.MOR_LOG_WRITTEN_CNT = (rd s.d Reg.MOR_LOG_WRITTEN_CNT + 1) % 2 ^ 32 ∧
        rd t.d Reg.MOR_LOG_LOST_CNT = rd s.d Reg.MOR_LOG_LOST_CNT ∧
        Memory.readList t.d.neve (0x78000 + 32 * (rd s.d Reg.MOR_LOG_WRITTEN_CNT % 1024)) 32 =
          entryBytes x (rd s.d Reg.MOR_LOG_WRITTEN_CNT) ∧
        ∀ a, (a < 0x77FC0 ∨ 0x78000 ≤ a) → (a < 0x78000 + 32 * (rd s.d Reg.MOR_LOG_WRITTEN_CNT % 1024) ∨
          0x78000 + 32 * (rd s.d Reg.MOR_LOG_WRITTEN_CNT % 1024) + 32 ≤ a) →
          Memory.readByte t.d.neve a = Memory.readByte s.d.neve a))

/-- R69, R70, R73 to R75, R310: link-up. Comma lock leads from ALIGN to CAPS and sends DEV_CAPS; a BRICK_CAPS frame that
passes R74 selects the lower of the two highest versions and leads to DELAY, one that does not parks the port with its
reason; the right SELECT_ACK sets the version in force and a wrong one parks; the time limits of CAPS, DELAY and SYNC and
a loss of lock lead back to ALIGN with nothing negotiated. What a port that may talk sends, and where: TICK markers with
the number of the tick that begins in service, ECHO frames from DELAY on, DEV_CAPS in CAPS and SELECT with version 0 in
PARKED. A port that is fenced or dark sends nothing. The sixteenth ECHO_REPLY of link-up, with a delay of at most 250 ns,
leads to SYNC. -/
def Obligations.FloeLink : Prop :=
  (∀ (s : State) (p : Nat) (f : List Byte), p < 128 →
    (pst s.d p = psAlign → mayTalk s.d p = true → ∃ t, exec (.floeCommaLock p) s = .next t ∧ pst t.d p = psCaps ∧
      rd t.d (Reg.FLOE_STAT_NO_SIGNAL p) = 0 ∧ ∃ r, (port t.d p).txLink = withCrc ([0x41, 0x31, BitVec.ofNat 8 p] ++ r)) ∧
    (pst s.d p = psAlign → exec (.floeNoSignal p) s = .next (s.withDev (wrB s.d (Reg.FLOE_STAT_NO_SIGNAL p) true))) ∧
    (pst s.d p = psCaps → f.length = 52 → crc32c (f.take 48) = beAt f 48 4 → byteAt f 0 = 0x40 →
      (capsReason s.d p f = 0 → ∃ t, exec (.brickCapsRx p f 0) s = .next t ∧ pst t.d p = psDelay ∧
        (port t.d p).selV = min 3 (byteAt f 1 / 16) ∧ rd t.d (Reg.FLOE_CAPS_NCH p) = byteAt f 2 % 64 ∧
        rd t.d (Reg.FLOE_BRICK_SN_SERIAL p) = beAt f 8 4 % 2 ^ 32) ∧
      (capsReason s.d p f ≠ 0 → ∃ t, exec (.brickCapsRx p f 0) s = .next t ∧ pst t.d p = psParked ∧
        rd t.d (Reg.FLOE_STAT_PARK_REASON p) = capsReason s.d p f % 8 ∧ rd t.d (Reg.FLOE_STAT_VER p) = 0 ∧
        ∃ e, t.d.mor.raised = s.d.mor.raised ++ [e] ∧ e.src = Src.FLOE_PARK ∧ e.ut = 3 ∧ e.ui = p)) ∧
    (pst s.d p = psDelay → f.length = 12 → crc32c (f.take 8) = beAt f 8 4 → byteAt f 0 = 0x43 →
      (byteAt f 1 = (port s.d p).selV → ∃ t, exec (.selectAckRx p f 0) s = .next t ∧ pst t.d p = psDelay ∧
        rd t.d (Reg.FLOE_STAT_VER p) = byteAt f 1 % 4 ∧ (port t.d p).acked = true ∧ t.d.mor = s.d.mor) ∧
      (byteAt f 1 ≠ (port s.d p).selV → ∃ t, exec (.selectAckRx p f 0) s = .next t ∧ pst t.d p = psParked ∧
        rd t.d (Reg.FLOE_STAT_PARK_REASON p) = 5)) ∧
    (pst s.d p = psCaps → ∃ t, exec (.floeCapsTimeout p) s = .next t ∧ pst t.d p = psAlign ∧ rd t.d (Reg.FLOE_STAT_VER p) = 0) ∧
    (pst s.d p = psDelay → ∃ t, exec (.floeDelayTimeout p) s = .next t ∧ pst t.d p = psAlign ∧ rd t.d (Reg.FLOE_STAT_VER p) = 0) ∧
    (pst s.d p = psSync → ∃ t, exec (.floeSyncTimeout p) s = .next t ∧ pst t.d p = psAlign ∧ rd t.d (Reg.FLOE_STAT_VER p) = 0) ∧
    (pst s.d p = psActive ∨ pst s.d p = psLost → ∃ t, exec (.floeLockLoss p) s = .next t ∧ pst t.d p = psAlign ∧
      rd t.d (Reg.FLOE_STAT_VER p) = 0 ∧ rd t.d (Reg.FLOE_STAT_RENEG p) = 1)) ∧
  (∀ (s : State) (p rtt : Nat) (f : List Byte), p < 128 →
    (mayTalk s.d p = true →
      (pst s.d p = psActive → exec (.floeTickMarker p) s = .next (s.withDev
        (setPort s.d p (fun q => { q with txTick := natBE 2 (tickAfter s.d % 65536) })))) ∧
      (pst s.d p = psDelay → ∃ t, exec (.echoSend p) s = .next t ∧
        (port t.d p).txLink = withCrc [0x44, BitVec.ofNat 8 ((port s.d p).echoSent % 256), 0, 0] ∧
        (port t.d p).echoSent = (port s.d p).echoSent + 1 ∧ (port s.d p).echoSent % 256 ∈ (port t.d p).echoOpen ∧
        t.d.regs = s.d.regs) ∧
      (pst s.d p = psCaps → exec (.devCapsSend p) s = .next (s.withDev (sendDevCaps s.d p))) ∧
      (pst s.d p = psParked → exec (.selectRepeat p) s = .next (s.withDev
        (sendSelect s.d p 0 (rd s.d (Reg.FLOE_STAT_PARK_REASON p)))))) ∧
    (mayTalk s.d p = false → exec (.floeTickMarker p) s = .next s ∧ exec (.echoSend p) s = .next s ∧
      exec (.devCapsSend p) s = .next s ∧ exec (.selectRepeat p) s = .next s) ∧
    (pst s.d p = psDelay → (port s.d p).acked = true → (port s.d p).echoSeen = 15 → f.length = 8 →
      crc32c (f.take 4) = beAt f 4 4 → byteAt f 0 = 0x45 → (port s.d p).echoOpen.contains (byteAt f 1) = true →
      (port s.d p).rttSum + rtt = 16 * turnNs s.d p + 32 * 100 → ∃ t, exec (.echoReplyRx p f rtt 0) s = .next t ∧
        pst t.d p = psSync ∧ (port t.d p).adv = 100 ∧ rd t.d (Reg.FLOE_DELAY_D_NS p) = 100))

/-- R75, R87, R90, R91, R98: an acknowledgement is recorded and closes the express frame it names; an unacknowledged frame
is repeated once, unchanged; no acknowledgement after the repeat, or without one, sets `EXP_NOACK` and raises its event.
`RESTART` restarts link-up at ALIGN where the port's zone is in COMMISSION or SERVICE and is refused elsewhere, and
`CNT_CLR` clears the port's three error counters. -/
def Obligations.FloeControl : Prop :=
  (∀ (s : State) (p : Nat) (f fr : List Byte), p < 128 →
    (pst s.d p ≠ psDisabled → f.length = 12 → crc32c (f.take 8) = beAt f 8 4 → byteAt f 0 = 0x20 →
      beAt f 2 2 = (port s.d p).expId → ∃ t, exec (.expressAckRx p f 0) s = .next t ∧ (port t.d p).expOpen = none ∧
        (port t.d p).expLatched = beAt f 4 4 ∧ rd t.d (Reg.FLOE_EXP_ID p) / 2 ^ 16 % 2 ^ 16 = beAt f 2 2 % 2 ^ 16 ∧ t.nv = s.nv) ∧
    ((port s.d p).expOpen = some fr → rdB s.d (Reg.FLOE_CTRL_EXP_RESEND p) = true → (port s.d p).expTries = 1 →
      mayTalk s.d p = true → inSafe s.d = false → exec (.expressResend p) s = .next (s.withDev
        (setPort s.d p (fun q => { q with txExp := fr, expTries := 2 })))) ∧
    ((port s.d p).expOpen = some fr → (port s.d p).expTries = 2 ∨ rdB s.d (Reg.FLOE_CTRL_EXP_RESEND p) = false →
      ∃ t, exec (.expNoack p) s = .next t ∧ (port t.d p).expOpen = none ∧ rd t.d (Reg.FLOE_STAT_EXP_NOACK p) = 1 ∧
        ∃ e, t.d.mor.raised = s.d.mor.raised ++ [e] ∧ e.src = Src.FLOE_EXP_NOACK ∧ e.ui = p)) ∧
  (∀ (s : State) (req : Requester) (p w : Nat) (d : Dev) (b : BrickRec), p < 128 → s.served req (0x10050000 + 0x100 * p) →
    (img s.d).brickAt p = some b →
    (bit w 1 = true → bit w 5 = false → d = writeFields s.d req (0x10050000 + 0x100 * p) w →
      (isMaint (zmode s.d b.zone) = true → pst s.d p ≠ psDisabled → ∃ t, exec (.restart req p w) s = .next t ∧
        t = s.withDev (enterAlign d p) ∧ pst t.d p = psAlign) ∧
      (isMaint (zmode s.d b.zone) = false → exec (.restart req p w) s =
        .next (s.withDev (refuseW d req (0x10050000 + 0x100 * p))))) ∧
    (bit w 1 = false → bit w 5 = true → ∃ t, exec (.floeCntClr req p w) s = .next t ∧ rd t.d (Reg.FLOE_ERR_CODE_CNT p) = 0 ∧
      rd t.d (Reg.FLOE_ERR_FRAME_CNT p) = 0 ∧ rd t.d (Reg.FLOE_MISS_CNT p) = 0 ∧ pst t.d p = pst s.d p))

/-- R16, R78, R82, R97, R101: a sample block in order that passes its checks is fed, one that fails its CRC is counted and
not fed; a superframe that passes its checks is accepted with its header; at the deadline of a tick a port in SYNC, ACTIVE
or LOST is judged, and a second missing superframe in a row makes an ACTIVE port LOST. -/
def Obligations.SuperframeReception : Prop :=
  ∀ (s : State) (p : Nat) (hdr blk crc : List Byte) (blks : List (List Byte)), p < 128 → inService s.d p = true →
    (blk.length = 21 + blkData s.d p → crc32c (blk.take (17 + blkData s.d p)) = beAt blk (17 + blkData s.d p) 4 →
      byteAt blk 0 ≤ 15 → (port s.d p).blk ≤ 16 * rxWindow s.d hdr + byteAt blk 0 → sfHeaderOk s.d p hdr = true →
      ∃ t, exec (.sampleBlockRx p hdr blk 0) s = .next t ∧ (port t.d p).blk = 16 * rxWindow s.d hdr + byteAt blk 0 + 1 ∧
        t.nv = s.nv) ∧
    (blk.length = 21 + blkData s.d p → crc32c (blk.take (17 + blkData s.d p)) ≠ beAt blk (17 + blkData s.d p) 4 →
      exec (.sampleBlockRx p hdr blk 0) s = .next (s.withDev (incSatPart s.d (Reg.FLOE_ERR_CODE_CNT p) 16 16 1))) ∧
    (pst s.d p = psSync → blks.length = 16 → (∀ b ∈ blks, b.length = 21 + blkData s.d p) → hdr.length = 16 → crc.length = 4 →
      crc32c (hdr ++ blks.flatten) = beAt crc 0 4 → s.d.phase = 0 → sfHeaderOk s.d p hdr = true →
      (∀ i < 16, sfBlockOk s.d p i (blks.getD i []) = true) → byteAt hdr 7 = 0 →
      ∃ t, exec (.superframeRx p hdr blks crc 0) s = .next t ∧ (port t.d p).sfOk = true ∧
        rd t.d (Reg.FLOE_BRICK_HDR_HDR p) = beAt hdr 6 4 % 2 ^ 32 ∧ t.d.mor = s.d.mor) ∧
    (s.d.phase = 0 → mappedPorts s.d = [p] → pst s.d p = psActive → (port s.d p).sfOk = false → (port s.d p).miss = 1 →
      ∃ t, exec .superframeDeadline s = .next t ∧ t.d.phase = 1 ∧ pst t.d p = psLost ∧ rd t.d (Reg.FLOE_STAT_LOST_EV p) = 1 ∧
        ∃ e ∈ t.d.mor.raised, e.src = Src.FLOE_LOST ∧ e.ut = 3 ∧ e.ui = p) ∧
    (s.d.phase = 0 → ∃ t, exec .superframeDeadline s = .next t ∧ t.d.phase = 1 ∧ t.d.winTick = s.d.winTick ∧ t.nv = s.nv)

/-- R55: LOAD_ACTIVE starts a verification of the buffer in BOOT or with no zone in PRODUCTION, PRELOAD starts one over an
active image of format 2 or 3 for a slot that is not busy, and DISCARD empties a slot that is neither active nor named by
a pending switch; while a verification runs, each is refused with `FIRN_E_BUSY`, and in PRODUCTION LOAD_ACTIVE is refused
with `FIRN_E_MODE`. (That PRELOAD finds its slot in the header's `VARIANT` is the model's reading: log entry 215.) -/
def Obligations.FirnCommands : Prop :=
  ∀ (s : State) (req : Requester) (w : Nat), accessErr s.d req 0x10040000 true = 0 → isStandby s.d = false →
    (s.d.firn.verif = none →
      ((inBoot s.d = true ∨ ∀ z ∈ zones s.d, zmode s.d z ≠ modeProduction) → exec (.loadActive req w) s =
        .next (s.withDev (okResp (startVerif s.d 1 (rd s.d Reg.FIRN_LEN_LEN) (firnBuffer s.d))))) ∧
      (inBoot s.d = false → (∃ z ∈ zones s.d, zmode s.d z = modeProduction) →
        exec (.loadActive req w) s = .next (s.withDev (firnRefuse s.d req 0x15 0xFFFFFFFF))) ∧
      (2 ≤ rd s.d Reg.FIRN_STAT_FORMAT → exec (.preload req w) s =
        .next (s.withDev (if slotBusy s.d (leAt (firnBuffer s.d) 12 1) then firnRefuse s.d req 0x17 0xFFFFFFFF
          else okResp (startVerif s.d 2 (rd s.d Reg.FIRN_LEN_LEN) (firnBuffer s.d))))) ∧
      (slotBusy s.d (bits w 4 2) = false → forwards s.d req = false → ∃ t, exec (.discard req w) s = .next t ∧
        t.nv = s.nv ∧ t.pending = s.pending ∧ SMap.find t.d.firn.slots (bits w 4 2) = none ∧ t.d.firn.act = s.d.firn.act ∧
        rdFBit t.d Reg.FIRN_STAT_SLOT_VALID (bits w 4 2) = false ∧ t.d.resp.err = 0)) ∧
    (s.d.firn.verif.isSome = true → exec (.loadActive req w) s = .next (s.withDev (firnRefuse s.d req 0x18 0xFFFFFFFF)) ∧
      exec (.preload req w) s = .next (s.withDev (firnRefuse s.d req 0x18 0xFFFFFFFF)) ∧
      exec (.discard req w) s = .next (s.withDev (firnRefuse s.d req 0x18 0xFFFFFFFF)))

/-- R54, R57, R60, R62: the end of a verification of a LOAD_ACTIVE: an image that passes every check waits for the commit
point of the next cycle; one that fails is reported with its code and offset and the active image stays; and on an ACTIVE
device the STANDBY device's rejection rejects it with `FIRN_E_PAIR`. At its boundary a pending switch is taken. Where the
selected variant is held and is the one in force, only the Rime mode changes; where its slot is empty the variant stays,
and `VAR_MISS` and the SEVERE event report it. -/
def Obligations.FirnVerificationAndSwitch : Prop :=
  (∀ (s : State) (v : Verif) (pc po : Nat), s.d.firn.verif = some v → v.kind = 1 →
    (isActive s.d = false → ∃ t, exec (.firnVerifyDone none) s = .next t ∧ t.nv = s.nv ∧ t.d.firn.verif = none ∧
      t.d.firn.act = s.d.firn.act ∧ rdB t.d Reg.FIRN_STAT_BUSY = false ∧
      match verifyImage v.bytes (loadCtx s.d s.nv v.bufLen) none with
      | .ok i => t.d.firn.commit = some i ∧ t.d.firn.commitCyc = cycNo s.d + 1 ∧ rdB t.d Reg.FIRN_STAT_DONE = true ∧
        rdB t.d Reg.FIRN_STAT_COMMIT_PEND = true
      | .error (code, off) => t.d.firn.commit = s.d.firn.commit ∧
        rd t.d Reg.FIRN_ERR_CODE = code % 2 ^ Reg.FIRN_ERR_CODE.wd ∧ rd t.d Reg.FIRN_ERROFF_OFFSET = off % 2 ^ 32 ∧
        rdB t.d Reg.FIRN_STAT_ERR = true ∧ rdB t.d Reg.FIRN_ERR_PARTNER = false) ∧
    (isActive s.d = true → ∃ t, exec (.firnVerifyDone (some (pc, po))) s = .next t ∧ t.d.firn.verif = none ∧
      t.d.firn.commit = s.d.firn.commit ∧ t.d.firn.act = s.d.firn.act ∧ rdB t.d Reg.FIRN_STAT_ERR = true ∧
      match verifyImage v.bytes (loadCtx s.d s.nv v.bufLen) none with
      | .ok _ => rd t.d Reg.FIRN_ERR_CODE = 0x16 ∧ rdB t.d Reg.FIRN_ERR_PARTNER = true
      | .error (code, _) => rd t.d Reg.FIRN_ERR_CODE = code % 2 ^ Reg.FIRN_ERR_CODE.wd ∧
        rdB t.d Reg.FIRN_ERR_PARTNER = false)) ∧
  (∀ (s : State), s.d.k % 20 = 0 → s.d.phase ≤ 1 → rdB s.d Reg.FIRN_STAT_PEND = true → s.d.firn.pendCyc ≤ cycNo s.d →
    s.d.firn.commit = none →
    (modeHeld s.d s.d.firn.pendMode = true → boundVar s.d s.d.firn.pendMode = rd s.d Reg.FIRN_STAT_ACTIVE_VAR →
      ∃ t, exec .variantSwitch s = .next t ∧ t.nv = s.nv ∧ t.pending = s.pending ∧ t.d.firn.act = s.d.firn.act ∧
        t.d.chan = s.d.chan ∧ rd t.d Reg.RIMEL_CYCLE_MODE = s.d.firn.pendMode % 2 ^ Reg.RIMEL_CYCLE_MODE.wd ∧
        rdB t.d Reg.FIRN_STAT_PEND = false ∧ rdB t.d Reg.RIMET_MC_PEND = false) ∧
    (modeHeld s.d s.d.firn.pendMode = false → rimeState s.d ≠ 1 → ∃ t, exec .variantSwitch s = .next t ∧ t.nv = s.nv ∧
      t.d.firn.act = s.d.firn.act ∧ rdB t.d Reg.FIRN_STAT_VAR_MISS = true ∧ rdB t.d Reg.FIRN_STAT_PEND = false ∧
      t.d.mor.raised.map (·.src) = s.d.mor.raised.map (·.src) ++ [Src.FIRN_VAR_MISS]))

/-- R58, R417: with every zone in maintenance, a write of the check value to `SAFE_CONFIRM` while UNCONFIRMED arms the
confirmation; a write while CONFIRMED is refused and a wrong value arms nothing; 30 s in ARMED end it, in a pair as an
input of the cycle that both devices commit; and the record of a completed confirmation is written to both copies. (That a
note carries a free data word, and when within a tick it falls, are the model's: log entries 31 and 9.) -/
def Obligations.SafetyConfirmation : Prop :=
  ∀ (s : State) (req : Requester) (w : Nat),
    (s.served req 0x100D0000 → isCalved s.d = false → allMaint s.d = true → forwards s.d req = false →
      (rd s.d Reg.SAFE_STAT_CONF = 0 → w = rd s.d Reg.FIRN_SAFE_CRC_CHECK → w < 2 ^ 32 → ∃ t,
        exec (.safeConfirm req w) s = .next t ∧ t.nv = s.nv ∧ rd t.d Reg.SAFE_STAT_CONF = 1 ∧ t.d.safe.step1 = none ∧
        tickNs s.d ≤ t.d.safe.armT ∧ t.d.safe.armT < tickNs s.d + 50000) ∧
      (rd s.d Reg.SAFE_STAT_CONF = 0 → w < 2 ^ 32 → w ≠ rd s.d Reg.FIRN_SAFE_CRC_CHECK → ∃ t,
        exec (.safeConfirm req w) s = .next t ∧ t.nv = s.nv ∧ rd t.d Reg.SAFE_STAT_CONF = 0) ∧
      (rd s.d Reg.SAFE_STAT_CONF = 2 → exec (.safeConfirm req w) s =
        .next (s.withDev (confirmNote (refuseW s.d req 0x100D0000))))) ∧
    (s.served req 0x100D0000 → allMaint s.d = false →
      exec (.safeConfirm req w) s = .next (s.withDev (refuseW s.d req 0x100D0000))) ∧
    (rd s.d Reg.SAFE_STAT_CONF = 1 → s.d.safe.armT + 30000000000 ≤ tickNs s.d → confirmsElsewhere s.d = false →
      ∃ t, exec .confirmTimeout s = .next t ∧ t.nv = s.nv ∧
      if isActive s.d then t.d.regs = s.d.regs ∧ t.d.hostCyc = s.d.hostCyc ++ [.disarm]
      else rd t.d Reg.SAFE_STAT_CONF = 0 ∧ t.d.safe.step1 = none) ∧
    (∀ (c : Nat) (g : List Byte), s.d.safe.recDue = true → s.d.safe.conf = some (c, g) → s.d.host.qspi = none → ∃ t r,
      exec .confirmationRecordWrite s = .next t ∧ t.nv = { s.nv with conf := [some r, some r] } ∧ r.check = c ∧
      r.digest = g ∧ r.count = s.d.safe.count ∧ t.d = { s.d with safe := { s.d.safe with recDue := false } }) ∧
    (s.d.safe.recDue = true → s.d.host.qspi ≠ none → exec .confirmationRecordWrite s =
      .next (s.withDev { s.d with safe := { s.d.safe with recWait := true } }))

/-- R113, R114, R115: a calibration command that no case of R113 refuses takes its parameters. A capture starts with code
0 over the set and stream it names; ABORT abandons a running capture with code 7 and nothing held; SET_NOMINAL stages the
nominal entry of every channel of the set. A command that a case refuses reports that case's code. -/
def Obligations.CalibrationCommands : Prop :=
  ∀ (s : State) (req : Requester) (w : Nat) (r : CapRun), accessErr s.d req 0x10060008 true = 0 →
    (calRefusal s.d 1 (bits w 4 3) (bits w 8 4) (bits w 12 8) = 0 → ∃ t r', exec (.captureZero req w) s = .next t ∧
      t.nv = s.nv ∧ t.pending = s.pending ∧ rdB t.d Reg.MEAS_STAT_CAL_BUSY = true ∧ rd t.d Reg.MEAS_STAT_CAL_CODE = 0 ∧
      t.d.meas.run = some r' ∧ r'.zero = true ∧ r'.first = rd s.d Reg.MEAS_CAL_CH_FIRST ∧
      r'.num = rd s.d Reg.MEAS_CAL_CH_NUM ∧ r'.stream = bits w 4 3 ∧ r'.n = bits w 8 4 ∧ r'.settle = bits w 12 8 ∧
      r'.cnt = []) ∧
    (calRefusal s.d 2 (bits w 4 3) (bits w 8 4) (bits w 12 8) = 0 → ∃ t r', exec (.captureFull req w) s = .next t ∧
      t.nv = s.nv ∧ t.pending = s.pending ∧ rdB t.d Reg.MEAS_STAT_CAL_BUSY = true ∧ rd t.d Reg.MEAS_STAT_CAL_CODE = 0 ∧
      t.d.meas.run = some r' ∧ r'.zero = false ∧ r'.first = rd s.d Reg.MEAS_CAL_CH_FIRST ∧
      r'.num = rd s.d Reg.MEAS_CAL_CH_NUM ∧ r'.stream = bits w 4 3 ∧ r'.n = bits w 8 4 ∧ r'.settle = bits w 12 8 ∧
      r'.cnt = []) ∧
    (calRefusal s.d 4 (bits w 4 3) (bits w 8 4) (bits w 12 8) = 0 → s.d.meas.run = some r → ∃ t,
      exec (.abort req w) s = .next t ∧ t.nv = s.nv ∧ t.d.meas.run = none ∧ t.d.meas.zero = none ∧ t.d.meas.full = none ∧
      rd t.d Reg.MEAS_STAT_CAL_CODE = 7 ∧ rdB t.d Reg.MEAS_STAT_CAL_BUSY = false ∧
      rdB t.d Reg.MEAS_STAT_ZERO_HELD = false ∧ rdB t.d Reg.MEAS_STAT_FULL_HELD = false) ∧
    (calRefusal s.d 5 (bits w 4 3) (bits w 8 4) (bits w 12 8) = 0 → s.d.meas.run = none → isActive s.d = false → ∃ t,
      exec (.setNominal req w) s = .next t ∧ t.nv = s.nv ∧ rdB t.d Reg.MEAS_STAT_CAL_DONE = true ∧
      rd t.d Reg.MEAS_STAT_CAL_CODE = 0 ∧ t.d.led = s.d.led ∧ t.d.staged = s.d.staged ++
        (setChans (rd s.d Reg.MEAS_CAL_CH_FIRST) (rd s.d Reg.MEAS_CAL_CH_NUM)).map
          (fun c => Staged.calEntry (entryOf c + 0x1E00 + 0x20 * bits w 4 3) [0x40000000, 0, 0, 0, 0, 0, 0, 0])) ∧
    (calRefusal s.d 1 (bits w 4 3) (bits w 8 4) (bits w 12 8) ≠ 0 → calOutside (bits w 4 3) (bits w 8 4) (bits w 12 8) = true →
      exec (.captureZero req w) s =
        .next (s.withDev (calRefuse s.d req (calRefusal s.d 1 (bits w 4 3) (bits w 8 4) (bits w 12 8))))) ∧
    (calRefusal s.d 3 (bits w 4 3) (bits w 8 4) (bits w 12 8) ≠ 0 → calOutside (bits w 4 3) (bits w 8 4) (bits w 12 8) = false →
      exec (.compute req w) s = .next (s.withDev (calRefuse (calParams s.d (bits w 4 3) (bits w 8 4) (bits w 12 8)) req
        (calRefusal s.d 3 (bits w 4 3) (bits w 8 4) (bits w 12 8)))))

/-- R114 to R116, R119: COMPUTE over two held captures of one set and stream stages an entry for every channel whose gain
is in range, and reports the first failing channel and its code; without two matching captures it is refused with code 8.
A capture ends once every channel of its set has its readings, and is held; a write of a calibration word is staged in a
maintenance mode and refused in any other; and a contact check moves from PRE to TEST to POST as its phases end. -/
def Obligations.CalibrationResults : Prop :=
  (∀ (s : State) (req : Requester) (w c code : Nat) (z f : CapHeld) (more : List Nat),
    accessErr s.d req 0x10060008 true = 0 → calRefusal s.d 3 (bits w 4 3) (bits w 8 4) (bits w 12 8) = 0 →
    s.d.meas.run = none →
    (s.d.meas.zero = none → ∃ t, exec (.compute req w) s = .next t ∧ t.nv = s.nv ∧ rd t.d Reg.MEAS_STAT_CAL_CODE = 8 ∧
      rdB t.d Reg.MEAS_STAT_CAL_ERR = true ∧ t.d.resp.err = errRefused ∧ t.d.staged = s.d.staged) ∧
    (s.d.meas.zero = some z → s.d.meas.full = some f → z.first = f.first → z.num = f.num → z.stream = f.stream →
      isActive s.d = false →
      ((∀ c ∈ setChans z.first z.num, (computeCh s.d z f c).1 = 0) → ∃ t, exec (.compute req w) s = .next t ∧
        t.nv = s.nv ∧ rdB t.d Reg.MEAS_STAT_CAL_DONE = true ∧ rd t.d Reg.MEAS_STAT_CAL_CODE = 0 ∧
        rd t.d Reg.MEAS_STAT_CAL_FAILS = 0 ∧ t.d.led = s.d.led ∧
        t.d.staged.length = s.d.staged.length + (setChans z.first z.num).length) ∧
      (setChans z.first z.num = c :: more → (computeCh s.d z f c).1 = code → code ≠ 0 → ∃ t,
        exec (.compute req w) s = .next t ∧ t.nv = s.nv ∧ rdB t.d Reg.MEAS_STAT_CAL_ERR = true ∧
        rd t.d Reg.MEAS_STAT_CAL_CODE = code % 2 ^ Reg.MEAS_STAT_CAL_CODE.wd ∧
        rd t.d Reg.MEAS_CAL_FAIL_CH_CH = c % 2 ^ Reg.MEAS_CAL_FAIL_CH_CH.wd ∧ t.d.led = s.d.led))) ∧
  (∀ (s : State) (r : CapRun) (req : Requester) (addr w ch : Nat),
    (s.d.meas.run = some r → (∀ c ∈ setChans r.first r.num, 2 ^ r.n ≤ SMap.get 0 r.cnt c) → r.zero = true → ∃ t h,
      exec .calCaptureDone s = .next t ∧ t.nv = s.nv ∧ t.d.meas.run = none ∧ t.d.meas.full = s.d.meas.full ∧
      t.d.meas.zero = some h ∧ h.first = r.first ∧ h.num = r.num ∧ h.stream = r.stream ∧ h.time = tickNs s.d ∧
      rdB t.d Reg.MEAS_STAT_CAL_BUSY = false ∧ rdB t.d Reg.MEAS_STAT_ZERO_HELD = true) ∧
    (s.d.meas.run = some r → (∃ c ∈ setChans r.first r.num, SMap.get 0 r.cnt c < 2 ^ r.n) →
      exec .calCaptureDone s = .next s) ∧
    (accessErr s.d req addr true = 0 → chanMode s.d ((addr - 0x05000000) / 0x2000) isMaint = true → isStandby s.d = false →
      isActive s.d = false → exec (.calSegmentWrite req addr w) s =
        .next (s.withDev (okResp { s.d with staged := s.d.staged ++ [.calWord (addr - 0x05000000) w] }))) ∧
    (accessErr s.d req addr true = 0 → chanMode s.d ((addr - 0x05000000) / 0x2000) isMaint = false →
      exec (.calSegmentWrite req addr w) s = .next (s.withDev (refuseW s.d req addr))) ∧
    ((contact s.d ch).abort = false → isTripped s.d ch = false → (contact s.d ch).done = true →
      ((contact s.d ch).phase = 1 → exec (.contactCheckPhase ch) s = .next (s.withDev (setContact s.d ch
        { contact s.d ch with phase := 2, skip := (contact s.d ch).settle, cnt := 0, need := (contact s.d ch).meas,
                              pre := (contact s.d ch).sum, sum := 0, done := false }))) ∧
      ((contact s.d ch).phase = 2 → exec (.contactCheckPhase ch) s = .next (s.withDev (setContact s.d ch
        { contact s.d ch with phase := 3, skip := (contact s.d ch).settle, cnt := 0, need := (contact s.d ch).base,
                              test := (contact s.d ch).sum, sum := 0, done := false })))) ∧
    ((contact s.d ch).phase ≠ 0 → (contact s.d ch).abort = true → exec (.contactCheckPhase ch) s =
      .next (s.withDev (contactAbort s.d ch))))

/-- R129, R132, R227: after a tick's command frames, from Tk + 44 to Tk + 50 µs, the last complete cycle folds, once, for
every populated channel (with no resynchronisation that holds one), and `LEDGER_FOLD_CYC` names it; at any other time
nothing folds. A cycle that has not folded by the second cycle after it is given up, and reported. An uncorrectable error
poisons its segment, is counted and its address is kept; one in HOT raises `LEDGER_HOT_UE`, one in CTRL, GRADE, HIST or
LOG marks its line and raises `LEDGER_CACHE_UE`. -/
def Obligations.LedgerFoldsAndErrors : Prop :=
  (∀ (s : State),
    (20 ≤ s.d.k + 1 → s.d.phase = 5 → s.d.led.foldN ≤ (s.d.k + 1) / 20 - 1 → s.d.sch.rsHold = [] → ∃ t,
      exec .ledgerFold s = .next t ∧ t.nv = s.nv ∧ t.pending = s.pending ∧ t.d.led.foldN = (s.d.k + 1) / 20 ∧ t.d.led.owed = [] ∧
      rd t.d Reg.LEDGER_FOLD_CYC_CYC = ((s.d.k + 1) / 20 - 1) % 2 ^ Reg.LEDGER_FOLD_CYC_CYC.wd) ∧
    (s.d.phase ≠ 5 → exec .ledgerFold s = .next s) ∧
    (s.d.led.foldN + 2 ≤ s.d.k / 20 → ∃ t, exec .foldLate s = .next t ∧ t.nv = s.nv ∧
      t.d.led.foldN = s.d.led.foldN + 1 ∧ t.d.led.owed = [] ∧ rdB t.d Reg.LEDGER_RSTAT_FOLD_LATE = true ∧
      t.d.mor.raised.map (·.src) = s.d.mor.raised.map (·.src) ++ [Src.LEDGER_FOLD_LATE]) ∧
    (s.d.k / 20 < s.d.led.foldN + 2 → exec .foldLate s = .next s)) ∧
  (∀ (s : State) (c o : Nat), c < 4096 → o < 0x1E00 → ∃ t, exec (.ledgerUe (0x05000000 + 0x2000 * c + o)) s = .next t ∧
    t.nv = s.nv ∧ t.pending = s.pending ∧ bit (poison t.d c) (segOf o) = true ∧
    rd t.d Reg.LEDGER_UE_ADDR_ADDR = 0x05000000 + 0x2000 * c + o ∧ rdB t.d Reg.LEDGER_RSTAT_UE = true ∧
    t.d.mor.raised.map (·.src) = s.d.mor.raised.map (·.src) ++
      [if o < 0x200 then Src.LEDGER_HOT_UE else Src.LEDGER_CACHE_UE] ∧
    (0x200 ≤ o → (0x2000 * c + o) / 256 ∈ t.d.led.ue))

/-- R128, R131, R135, R140: HOT, GRADE, HIST and LOG take no writes; a word of CTRL that is no part of a multi-word value
is staged for the commit point; FLUSH runs until every dirty line is in DRAM; a clear that nothing refuses is staged. -/
def Obligations.LedgerWrites : Prop :=
  ∀ (s : State) (req : Requester) (addr off w : Nat),
    (accessErr s.d req addr true = 0 → ledOffset addr = some off →
      (segOf off ≠ 1 → segOf off ≠ 5 → exec (.ledgerSegmentWrite req addr w) s = .next (s.withDev (refuseW s.d req addr))) ∧
      (segOf off = 1 → isStandby s.d = true → exec (.ledgerSegmentWrite req addr w) s =
        .next (s.withDev (refuseW s.d req addr))) ∧
      (segOf off = 1 → isStandby s.d = false → isActive s.d = false → mwOf off = none →
        exec (.ledgerSegmentWrite req addr w) s =
          .next (s.withDev { okResp s.d with staged := s.d.staged ++ [.ctrlWords off [w]] })) ∧
      (segOf off = 5 → exec (.ledgerSegmentWrite req addr w) s = exec (.calSegmentWrite req addr w) s)) ∧
    (accessErr s.d req 0x04200000 true = 0 → bit w 1 = false → ∃ t, exec (.flush req w) s = .next t ∧ t.nv = s.nv ∧
      t.d.led = s.d.led ∧ rdB t.d Reg.LEDGER_RSTAT_FLUSH_BUSY = true) ∧
    (rdB s.d Reg.LEDGER_RSTAT_FLUSH_BUSY = true → exec .flushDone s =
      .next (s.withDev (wrB { s.d with led := { s.d.led with home := s.d.led.mem, cache := s.d.led.cache.map (fun e =>
        (e.1, e.2.map (fun w => (w.1, false)))) } } Reg.LEDGER_RSTAT_FLUSH_BUSY false))) ∧
    (accessErr s.d req 0x04200000 true = 0 → bit w 0 = false → isActive s.d = false → clrRefused s.d = false → ∃ t,
      exec (.clrGo req w) s = .next t ∧ t.nv = s.nv ∧ t.d.led = s.d.led ∧ rdB t.d Reg.LEDGER_RSTAT_CLR_BUSY = true ∧
      t.d.staged = s.d.staged ++
        [.ledgerClear (bits w 9 4) (rd s.d Reg.LEDGER_CLR_CH_FIRST) (rd s.d Reg.LEDGER_CLR_CH_NUM)])

/-- R136, R137: enabling a stream that no case of R136 refuses makes it active, any other is refused and says so; a
capture that falls due is queued for its ring where the ring is on, has room and its last record has been delivered, and
is counted as skipped or dropped where not. -/
def Obligations.LedgerStreams : Prop :=
  ∀ (s : State) (req : Requester) (n w tick m : Nat), n < 8 →
    (accessErr s.d req (0x04200800 + 0x20 * n) true = 0 → rdB s.d (Reg.LEDGER_STRM_CTRL_EN n) = false →
      (strmRefused s.d n (bits w 1 3) (bits w 16 16) = false → ∃ t, exec (.ledgerStreamEnable req n w) s = .next t ∧
        t.nv = s.nv ∧ rdB t.d (Reg.LEDGER_STRM_STAT_ACTIVE n) = true ∧ rdB t.d (Reg.LEDGER_STRM_CTRL_EN n) = true ∧
        rd t.d (Reg.LEDGER_STRM_CTRL_SEG n) = bits w 1 3 ∧ rd t.d (Reg.LEDGER_STRM_CTRL_PERIOD n) = bits w 16 16) ∧
      (strmRefused s.d n (bits w 1 3) (bits w 16 16) = true → exec (.ledgerStreamEnable req n w) s =
        .next (s.withDev (refuseW (wrB s.d (Reg.LEDGER_STRM_STAT_REFUSED n) true) req (0x04200800 + 0x20 * n))))) ∧
    (captureDue s.d n = some (tick, m) → (hring s.d (2 + n)).queue = [] → (hring s.d (2 + n)).en = true →
      ringFits s.d (2 + n) (padded (captureRec s.d n (rd s.d (Reg.LEDGER_STRM_CTRL_SEG n)) tick)).length = true → ∃ t,
      exec (.ledgerStreamCapture n) s = .next t ∧ t.nv = s.nv ∧ t.d.regs = s.d.regs ∧
      (hring t.d (2 + n)).queue = [captureRec s.d n (rd s.d (Reg.LEDGER_STRM_CTRL_SEG n)) tick]) ∧
    (captureDue s.d n = some (tick, m) → (hring s.d (2 + n)).queue ≠ [] → ∃ t, exec (.ledgerStreamCapture n) s = .next t ∧
      t.d.host = s.d.host ∧ rd t.d (Reg.LEDGER_STRM_LOSS_CNT n) % 2 ^ 16 =
        satAdd 16 (rd s.d (Reg.LEDGER_STRM_LOSS_CNT n) % 2 ^ 16) 1)

/-- R151, R152, R156, R158: a manual demand that R144 accepts, for a populated channel of a group whose zone is in
COMMISSION or SERVICE, with no step program running, is staged for its commit point; any other is refused and flagged;
RELEASE is staged likewise. A voltage reading lost for more than `STALE_MAX` ticks brings the channel to STALE_HOLD, with
its integrators and base current at zero; a holdover capture that has its readings holds their mean and goes to its range
phase; a float that sits at a bound for `HO_SAT` ticks is flagged; and a pulse changes level when its ticks are over,
loading the ticks of the level it goes to. (How the capture's mean is rounded is the model's: log entry 22.) -/
def Obligations.DemandsAndRegulator : Prop :=
  (∀ (s : State) (req : Requester) (w : Nat), s.served req 0x10070014 → forwards s.d req = false →
    (chanMode s.d (rd s.d Reg.CHAN_MAN_CH_CH) isMaint = true → (groupOf s.d (rd s.d Reg.CHAN_MAN_CH_CH)).isSome = true →
      populated s.d (rd s.d Reg.CHAN_MAN_CH_CH) = true → seqActive s.d (rd s.d Reg.CHAN_MAN_CH_CH) = false →
      isStandby s.d = false → demandFault s.d (rd s.d Reg.CHAN_MAN_CH_CH) (manWords s.d) = 0 →
      exec (.go req w) s = .next (s.withDev { okResp (wrB s.d Reg.CHAN_STAT_MAN_PEND true) with
        staged := s.d.staged ++ [.manual (rd s.d Reg.CHAN_MAN_CH_CH) (manWords s.d)] })) ∧
    (demandFault s.d (rd s.d Reg.CHAN_MAN_CH_CH) (manWords s.d) ≠ 0 ∨
        chanMode s.d (rd s.d Reg.CHAN_MAN_CH_CH) isMaint = false →
      exec (.go req w) s = .next (s.withDev (refuseW (wrB s.d Reg.CHAN_STAT_MAN_REF true) req 0x10070014))) ∧
    (isStandby s.d = false → exec (.release req w) s = .next (s.withDev { okResp s.d with
      staged := s.d.staged ++ [.manRelease (rd s.d Reg.CHAN_MAN_CH_CH)] }))) ∧
  (∀ (s : State) (ch : Nat), ch < 4096 →
    (staleDue s.d ch (staleCnt s.d ch + 1) = true → ∃ t, exec (.staleHoldEnter ch) s = .next t ∧ t.nv = s.nv ∧
      t.pending = s.pending ∧ regLimb t.d ch = 14 ∧ hot t.d ch 0x60 8 = 0 ∧ hot t.d ch 0x80 8 = 0 ∧ hot t.d ch 0x88 8 = 0 ∧
      rdB t.d Reg.CHAN_STAT_STALE_EV = true ∧
      t.d.mor.raised.map (·.src) = s.d.mor.raised.map (·.src) ++ [Src.CHAN_STALE_HOLD]) ∧
    (captureFull s.d ch = true → ∃ t, exec (.holdoverCaptureEnd ch) s = .next t ∧ t.nv = s.nv ∧ t.d.regs = s.d.regs ∧
      (regCh t.d ch).ho = 2 ∧ t.d.mor = s.d.mor) ∧
    (floatSatDue s.d ch = true → ∃ t, exec (.floatSaturated ch) s = .next t ∧ t.nv = s.nv ∧ regFlag t.d ch 15 = true ∧
      rdB t.d Reg.CHAN_STAT_HO_EV = true ∧ t.d.chan = s.d.chan) ∧
    (pulseDue s.d ch = true → ∃ t, exec (.pulseLevelChange ch) s = .next t ∧ t.nv = s.nv ∧ t.d.regs = s.d.regs ∧
      regLimb t.d ch = 13 - regLimb s.d ch ∧
      hot t.d ch 0x7E 2 = if regLimb s.d ch = 7 then demHi s.d ch else demLo s.d ch) ∧
    (staleDue s.d ch (staleCnt s.d ch + 1) = false → exec (.staleHoldEnter ch) s = .next s) ∧
    (pulseDue s.d ch = false → exec (.pulseLevelChange ch) s = .next s))

/-- R163, R164, R179 to R181: a SEQ command over a set that lies within the device is staged, with its channels, for the
commit point, and `CMD_PEND` shows it; a set that does not is refused, as is every command on a STANDBY device. LOAD takes
a program image from DRAM and starts its verification; UNLOAD is staged; a slot that is loading or in use is refused with
`SEQ_E_BUSY`. A program that passes is staged for its commit point, one that does not is reported with its code and
offset, and on a pair the partner's rejection rejects it with `SEQ_E_PAIR`. -/
def Obligations.SequencerAndPrograms : Prop :=
  (∀ (s : State) (req : Requester) (w : Nat), s.served req 0x10078000 → forwards s.d req = false →
    (isStandby s.d = false → seqSetBad s.d (bits w 4 2) = false →
      (∃ t, exec (.seqStart req w) s = .next t ∧ t.nv = s.nv ∧ t.d.led = s.d.led ∧ rdB t.d Reg.SEQ_STAT_CMD_PEND = true ∧
        t.d.staged = s.d.staged ++ [.seqCmd 1 (bits w 4 2) (bits w 16 10) (rd s.d Reg.SEQ_CMD_SET_FIRST) (rd s.d Reg.SEQ_CMD_SET_NUM)]) ∧
      (∃ t, exec (.pause req w) s = .next t ∧ t.nv = s.nv ∧ t.d.led = s.d.led ∧ rdB t.d Reg.SEQ_STAT_CMD_PEND = true ∧
        t.d.staged = s.d.staged ++ [.seqCmd 2 (bits w 4 2) (bits w 16 10) (rd s.d Reg.SEQ_CMD_SET_FIRST) (rd s.d Reg.SEQ_CMD_SET_NUM)]) ∧
      (∃ t, exec (.seqResume req w) s = .next t ∧ t.nv = s.nv ∧ t.d.led = s.d.led ∧ rdB t.d Reg.SEQ_STAT_CMD_PEND = true ∧
        t.d.staged = s.d.staged ++ [.seqCmd 3 (bits w 4 2) (bits w 16 10) (rd s.d Reg.SEQ_CMD_SET_FIRST) (rd s.d Reg.SEQ_CMD_SET_NUM)]) ∧
      (∃ t, exec (.seqAbort req w) s = .next t ∧ t.nv = s.nv ∧ t.d.led = s.d.led ∧ rdB t.d Reg.SEQ_STAT_CMD_PEND = true ∧
        t.d.staged = s.d.staged ++ [.seqCmd 4 (bits w 4 2) (bits w 16 10) (rd s.d Reg.SEQ_CMD_SET_FIRST) (rd s.d Reg.SEQ_CMD_SET_NUM)]) ∧
      (∃ t, exec (.skip req w) s = .next t ∧ t.nv = s.nv ∧ t.d.led = s.d.led ∧ rdB t.d Reg.SEQ_STAT_CMD_PEND = true ∧
        t.d.staged = s.d.staged ++ [.seqCmd 5 (bits w 4 2) (bits w 16 10) (rd s.d Reg.SEQ_CMD_SET_FIRST) (rd s.d Reg.SEQ_CMD_SET_NUM)])) ∧
    (isStandby s.d = true ∨ seqSetBad s.d (bits w 4 2) = true →
      exec (.seqStart req w) s = .next (s.withDev (refuseW s.d req 0x10078000)) ∧
      exec (.skip req w) s = .next (s.withDev (refuseW s.d req 0x10078000)))) ∧
  (∀ (s : State) (req : Requester) (w code off : Nat) (l : SeqLoad),
    (s.served req 0x10078010 → isStandby s.d = false →
      (s.d.seq.load = none → rd s.d (Reg.SEQ_SLOT_INFO_USERS (bits w 8 6)) = 0 →
        (∃ t, exec (.load req w) s = .next t ∧ t.nv = s.nv ∧ rdB t.d Reg.SEQ_STAT_LOAD_BUSY = true ∧
          t.d.seq.progs = s.d.seq.progs ∧ t.d.seq.load = some ⟨bits w 8 6,
            Memory.readList s.d.dram (rd s.d Reg.SEQ_LOAD_SRC_HI_ADDR * 2 ^ 32 + rd s.d Reg.SEQ_LOAD_SRC_LO_ADDR / 8 * 8)
              (max 32 (rd s.d Reg.SEQ_LOAD_LEN_LEN)), rd s.d Reg.SEQ_LOAD_LEN_LEN⟩) ∧
        (forwards s.d req = false → ∃ t, exec (.unload req w) s = .next t ∧ t.nv = s.nv ∧ t.d.seq = s.d.seq ∧
          t.d.staged = s.d.staged ++ [.seqUnload (bits w 8 6)])) ∧
      (s.d.seq.load.isSome = true → exec (.load req w) s =
        .next (s.withDev (refuseW (loadErr s.d (bits w 8 6) 0x0A 0) req 0x10078010)))) ∧
    (s.d.seq.load = some l → isActive s.d = false → isStandby s.d = false →
      (progChk l.bytes l.len = none → ∃ t, exec (.programVerifyDone true) s = .next t ∧ t.nv = s.nv ∧
        t.d.seq.load = none ∧ t.d.seq.progs = s.d.seq.progs ∧ rdB t.d Reg.SEQ_STAT_LOAD_DONE = true ∧
        rdB t.d Reg.SEQ_STAT_LOAD_BUSY = false ∧ t.d.staged = s.d.staged ++ [.seqProg l.slot (l.bytes.take l.len)]) ∧
      (progChk l.bytes l.len = some (code, off) → ∃ t, exec (.programVerifyDone true) s = .next t ∧ t.nv = s.nv ∧
        t.d.seq.load = none ∧ t.d.seq.progs = s.d.seq.progs ∧ t.d.staged = s.d.staged ∧
        rdB t.d Reg.SEQ_STAT_LOAD_ERR = true ∧ rdB t.d Reg.SEQ_STAT_LOAD_BUSY = false ∧
        rd t.d Reg.SEQ_LOAD_ERR_CODE = code % 2 ^ Reg.SEQ_LOAD_ERR_CODE.wd ∧
        rd t.d Reg.SEQ_LOAD_ERR_SLOT = l.slot % 2 ^ Reg.SEQ_LOAD_ERR_SLOT.wd)) ∧
    (s.d.seq.load = some l → isActive s.d = true → progChk l.bytes l.len = none → ∃ t,
      exec (.programVerifyDone false) s = .next t ∧ t.nv = s.nv ∧ t.d.seq.load = none ∧ t.d.seq.progs = s.d.seq.progs ∧
      t.d.hostCyc = s.d.hostCyc ∧ rdB t.d Reg.SEQ_STAT_LOAD_ERR = true ∧ rd t.d Reg.SEQ_LOAD_ERR_CODE = 0x0B))

/-- R166, R168 to R173, R175, R178: what a step does that a channel of the device has still to execute. A RUN sends its
demand and counts its time and charge from zero; a LOOP stacks its passes; a NEXT repeats while passes are left and goes
on when they are not; a BRANCH whose test fails goes on; a BARRIER waits, arrived; an END ends the program with its
result. Where a RUN step's terminations fire in this tick, the step ends with them as `LAST_HIT`; a waiting channel whose
count reaches its barrier's `TIMEOUT` reports it, and where the barrier's action is ABORT its program aborts with cause
BARRIER, where it is STAY it waits on; and a measurement window that is due to close has had its tick. -/
def Obligations.StepsRun : Prop :=
  (∀ (s : State) (ch : Nat), ch < 4096 → (seqCh s.d ch).walk = true → (progOf s.d ch).steps.length ≤ 1024 →
    (swType (stepOf s.d ch) = 1 → ∃ t, exec (.stepRun ch) s = .next t ∧ t.nv = s.nv ∧ t.pending = s.pending ∧
      sqState t.d ch = sqRUNNING ∧ (seqCh t.d ch).walk = false ∧ (seqCh t.d ch).startK = some s.d.k ∧
      hot t.d ch 0x148 4 = 0 ∧ hot t.d ch 0x150 8 = 0 ∧ hot t.d ch 0x158 8 = 0 ∧ demMode t.d ch = swMode (stepOf s.d ch)) ∧
    (swType (stepOf s.d ch) = 2 → sqDepth s.d ch < 4 → sqStep s.d ch + 1 < (progOf s.d ch).steps.length → ∃ t,
      exec (.stepLoop ch) s = .next t ∧ t.nv = s.nv ∧ t.d.regs = s.d.regs ∧ sqStep t.d ch = sqStep s.d ch + 1 ∧
      sqDepth t.d ch = sqDepth s.d ch + 1 ∧ loopRem t.d ch (sqDepth s.d ch) = swA (stepOf s.d ch) ∧
      loopIdx t.d ch (sqDepth s.d ch) = sqStep s.d ch) ∧
    (swType (stepOf s.d ch) = 3 → 1 ≤ sqDepth s.d ch → sqDepth s.d ch ≤ 4 →
      (1 < loopRem s.d ch (sqDepth s.d ch - 1) →
        loopIdx s.d ch (sqDepth s.d ch - 1) + 1 < (progOf s.d ch).steps.length → ∃ t,
        exec (.stepNext ch) s = .next t ∧ t.d.regs = s.d.regs ∧ sqDepth t.d ch = sqDepth s.d ch ∧
        sqStep t.d ch = loopIdx s.d ch (sqDepth s.d ch - 1) + 1 ∧
        loopRem t.d ch (sqDepth s.d ch - 1) = loopRem s.d ch (sqDepth s.d ch - 1) - 1) ∧
      (loopRem s.d ch (sqDepth s.d ch - 1) ≤ 1 → sqStep s.d ch + 1 < (progOf s.d ch).steps.length → ∃ t,
        exec (.stepNext ch) s = .next t ∧ t.d.regs = s.d.regs ∧ sqDepth t.d ch = sqDepth s.d ch - 1 ∧
        sqStep t.d ch = sqStep s.d ch + 1)) ∧
    (swType (stepOf s.d ch) = 4 → branchTest s.d ch (stepOf s.d ch) = false →
      sqStep s.d ch + 1 < (progOf s.d ch).steps.length → ∃ t, exec (.stepBranch ch) s = .next t ∧
      sqStep t.d ch = sqStep s.d ch + 1 ∧ sqDepth t.d ch = sqDepth s.d ch ∧ (seqCh t.d ch).walk = true) ∧
    (swType (stepOf s.d ch) = 4 → branchTest s.d ch (stepOf s.d ch) = true → swBreak (stepOf s.d ch) = false →
      swTarget (stepOf s.d ch) < (progOf s.d ch).steps.length → ∃ t, exec (.stepBranch ch) s = .next t ∧
      sqStep t.d ch = swTarget (stepOf s.d ch) ∧ (seqCh t.d ch).walk = true) ∧
    (swType (stepOf s.d ch) = 5 → swByte (stepOf s.d ch) 0 % 16 ≤ 2 → ∃ t, exec (.stepBarrier ch) s = .next t ∧
      t.nv = s.nv ∧ sqState t.d ch = sqWAITING ∧ (seqCh t.d ch).walk = false ∧
      (seqCh t.d ch).bar = some (barKeyOf s.d ch (stepOf s.d ch)) ∧
      ch ∈ (barrier t.d (barKeyOf s.d ch (stepOf s.d ch))).arrived) ∧
    (swType (stepOf s.d ch) = 6 → ∃ t, exec (.stepEnd ch) s = .next t ∧ t.nv = s.nv ∧ sqState t.d ch = sqENDED ∧
      hot t.d ch 0x176 1 = swByte (stepOf s.d ch) 1 ∧ demMode t.d ch = 0 ∧ (seqCh t.d ch).walk = false)) ∧
  (∀ (s : State) (ch hit : Nat) (g : GroupRec), ch < 4096 → kernelDue s.d ch = true → groupOf s.d ch = some g →
    (sqState s.d ch = sqRUNNING → (seqCh s.d ch).startK ≠ some s.d.k → firesNow s.d ch = hit →
      (runTick (setSeqCh s.d ch (fun x => { x with ranK := some s.d.k })) ch g.group).1 = hit →
      (2 ≤ hit → exec (.terminationFire ch) s = .next (s.withDev (endStep
        (runTick (setSeqCh s.d ch (fun x => { x with ranK := some s.d.k })) ch g.group).2 ch hit))) ∧
      (hit % 2 = 1 → exec (.stepTimeTermination ch) s = .next (s.withDev (endStep
        (runTick (setSeqCh s.d ch (fun x => { x with ranK := some s.d.k })) ch g.group).2 ch hit)))) ∧
    (barrierDue s.d ch = true → swByte (stepOf s.d ch) 2 / 4 % 4 = 2 → ∃ t, exec (.barrierTimeout ch) s = .next t ∧
      t.nv = s.nv ∧ sqState t.d ch = sqABORTED ∧ hot t.d ch 0x174 1 = 3 ∧ rdB t.d Reg.SEQ_STAT_BAR_TO = true) ∧
    (barrierDue s.d ch = true → swByte (stepOf s.d ch) 2 / 4 % 4 = 3 → ∃ t, exec (.barrierTimeout ch) s = .next t ∧
      t.nv = s.nv ∧ sqState t.d ch = sqWAITING ∧ (seqCh t.d ch).toDone = true ∧ rdB t.d Reg.SEQ_STAT_BAR_TO = true ∧
      t.d.mor.raised.map (·.src) = s.d.mor.raised.map (·.src) ++ [Src.SEQ_BAR_TIMEOUT]) ∧
    (winDue s.d ch = true → ∃ t, exec (.gradeWindowClose ch) s = .next t ∧ t.nv = s.nv ∧ t.pending = s.pending ∧
      (gradeCh t.d ch).winK = some s.d.k) ∧
    (winDue s.d ch = false → exec (.gradeWindowClose ch) s = .next s))

/-- R215, R219, R220: the register instructions of the engines, issued in either task with no move slot. Each puts in its
destination what the instruction summary of R220 gives, cut to the register's width, and changes no other register, no
memory and no ledger; division by zero gives the limit by the sign of the dividend. Where the spec states no result (a sum
or quotient outside the format, a shift by another amount: the model's free values, log entry 16), the instruction still
completes and changes its destination alone. -/
def Obligations.EngineRegisterOps : Prop :=
  ∀ (s : State) (e : Nat) (smp : Bool) (w : Nat), e < 24 →
    (gPlainI w → ∃ t, exec (.engLdi e smp w) s = .next t ∧ s.engPut t e smp (gFields w).a (toS 16 (gFields w).x)) ∧
    (gPlainI w → ∃ t, exec (.engLdih e smp w) s = .next t ∧ s.engPut t e smp (gFields w).a (toS 32 (ofS 32 (grS s.d e smp (gFields w).a) % 2 ^ 16 + 2 ^ 16 * (gFields w).x))) ∧
    (gPlain w → ∃ t, exec (.engMov e smp w) s = .next t ∧ s.engPut t e smp (gFields w).a (grS s.d e smp (gFields w).b)) ∧
    (gPlainI w → (gFields w).x < (eng s.d e).run.nconst → ∃ t, exec (.engLdc e smp w) s = .next t ∧ s.engPut t e smp (gFields w).a (toS 32 (Memory.readLE (eng s.d e).p (gBank s.d e * 0x4000 + 4 * ((eng s.d e).run.cbase + (gFields w).x)) 4))) ∧
    (gPlain w → fits32 ((grS s.d e smp (gFields w).b) + (grS s.d e smp (gFields w).c)) → ∃ t, exec (.engAdd e smp w) s = .next t ∧ s.engPut t e smp (gFields w).a ((grS s.d e smp (gFields w).b) + (grS s.d e smp (gFields w).c))) ∧
    (gPlain w → fits32 ((grS s.d e smp (gFields w).b) - (grS s.d e smp (gFields w).c)) → ∃ t, exec (.engSub e smp w) s = .next t ∧ s.engPut t e smp (gFields w).a ((grS s.d e smp (gFields w).b) - (grS s.d e smp (gFields w).c))) ∧
    (gPlainI w → fits32 ((grS s.d e smp (gFields w).b) + toS 16 (gFields w).x) → ∃ t, exec (.engAddi e smp w) s = .next t ∧ s.engPut t e smp (gFields w).a ((grS s.d e smp (gFields w).b) + toS 16 (gFields w).x)) ∧
    (gPlain w → ∃ t, exec (.engAnd e smp w) s = .next t ∧ s.engPut t e smp (gFields w).a (toS 32 (ofS 32 (grS s.d e smp (gFields w).b) &&& ofS 32 (grS s.d e smp (gFields w).c)))) ∧
    (gPlain w → ∃ t, exec (.engOr e smp w) s = .next t ∧ s.engPut t e smp (gFields w).a (toS 32 (ofS 32 (grS s.d e smp (gFields w).b) ||| ofS 32 (grS s.d e smp (gFields w).c)))) ∧
    (gPlain w → ∃ t, exec (.engXor e smp w) s = .next t ∧ s.engPut t e smp (gFields w).a (toS 32 (ofS 32 (grS s.d e smp (gFields w).b) ^^^ ofS 32 (grS s.d e smp (gFields w).c)))) ∧
    (gPlain w → ∃ t, exec (.engMin e smp w) s = .next t ∧ s.engPut t e smp (gFields w).a (min (grS s.d e smp (gFields w).b) (grS s.d e smp (gFields w).c))) ∧
    (gPlain w → ∃ t, exec (.engMax e smp w) s = .next t ∧ s.engPut t e smp (gFields w).a (max (grS s.d e smp (gFields w).b) (grS s.d e smp (gFields w).c))) ∧
    (gPlain w → fits32 (grS s.d e smp (gFields w).b).natAbs → ∃ t, exec (.engAbs e smp w) s = .next t ∧ s.engPut t e smp (gFields w).a ((grS s.d e smp (gFields w).b).natAbs)) ∧
    (gPlain w → 0 ≤ (grS s.d e smp (gFields w).c) → (grS s.d e smp (gFields w).c) ≤ 31 → ∃ t, exec (.engShl e smp w) s = .next t ∧ s.engPut t e smp (gFields w).a ((grS s.d e smp (gFields w).b) * (2 : Int) ^ (grS s.d e smp (gFields w).c).toNat)) ∧
    (gPlain w → 0 ≤ (grS s.d e smp (gFields w).c) → (grS s.d e smp (gFields w).c) ≤ 31 → ∃ t, exec (.engShr e smp w) s = .next t ∧ s.engPut t e smp (gFields w).a (asr (grS s.d e smp (gFields w).b) (grS s.d e smp (gFields w).c).toNat)) ∧
    (gPlain w → ∃ t, exec (.engMul e smp w) s = .next t ∧ s.engPut t e smp (gFields w).a (toS 32 (ofS 32 ((grS s.d e smp (gFields w).b) * (grS s.d e smp (gFields w).c))))) ∧
    (gPlain w → (grS s.d e smp (gFields w).c) ≠ 0 → fits32 ((grS s.d e smp (gFields w).b).tdiv (grS s.d e smp (gFields w).c)) → ∃ t, exec (.engDiv e smp w) s = .next t ∧ s.engPut t e smp (gFields w).a ((grS s.d e smp (gFields w).b).tdiv (grS s.d e smp (gFields w).c))) ∧
    (gPlain w → (grS s.d e smp (gFields w).c) = 0 → ∃ t, exec (.engDiv e smp w) s = .next t ∧ s.engPut t e smp (gFields w).a (if (grS s.d e smp (gFields w).b) < 0 then -(2 : Int) ^ 31 else (2 : Int) ^ 31 - 1)) ∧
    (gPlain w → (gFields w).a ≠ gSR → ∃ t, exec (.engRdv e smp w) s = .next t ∧ s.engKeeps t e smp [(gFields w).a, gSR] ∧
      bit (gr t.d e smp gSR) 0 = !bit (ofS 32 (grS s.d e smp (gFields w).b)) 24 ∧ (gRegOk (gFields w).a = true → gRegReadOnly (gFields w).a = false →
      gr t.d e smp (gFields w).a = ofS (gRegWidth (gFields w).a) (toS 24 (ofS 32 (grS s.d e smp (gFields w).b))))) ∧
    (gPlain w → (∃ t v, exec (.engAdd e smp w) s = .next t ∧ s.engPut t e smp (gFields w).a v) ∧
      (∃ t v, exec (.engSub e smp w) s = .next t ∧ s.engPut t e smp (gFields w).a v) ∧
      (∃ t v, exec (.engAbs e smp w) s = .next t ∧ s.engPut t e smp (gFields w).a v) ∧
      (∃ t v, exec (.engShl e smp w) s = .next t ∧ s.engPut t e smp (gFields w).a v) ∧
      (∃ t v, exec (.engShr e smp w) s = .next t ∧ s.engPut t e smp (gFields w).a v) ∧
      (∃ t v, exec (.engDiv e smp w) s = .next t ∧ s.engPut t e smp (gFields w).a v))

/-- R218, R220: the accumulator instructions. A result within 80 bits is exact; beyond them a guard overflow saturates the
accumulator where `WRAP` is clear, sets `SR.ACC_OV` and the engine's flag, and raises the event. `RND` extracts with
rounding, and `LDA` and `STA` exchange an accumulator with the Y slot at a pointer. -/
def Obligations.EngineAccumulatorOps : Prop :=
  ∀ (s : State) (e : Nat) (smp : Bool) (w : Nat), e < 24 →
    (0x10 ≤ (gFields w).a → (gFields w).a ≤ 0x13 →
    (gPlain w → fits80 ((grS s.d e smp (gFields w).b) * (grS s.d e smp (gFields w).c)) → ∃ t, exec (.engMpy e smp w) s = .next t ∧ s.engAcc t e smp (gFields w).a ((grS s.d e smp (gFields w).b) * (grS s.d e smp (gFields w).c))) ∧
    (gPlain w → fits80 ((grA s.d e smp (gFields w).a) + (grS s.d e smp (gFields w).b) * (grS s.d e smp (gFields w).c)) → ∃ t, exec (.engMac e smp w) s = .next t ∧ s.engAcc t e smp (gFields w).a ((grA s.d e smp (gFields w).a) + (grS s.d e smp (gFields w).b) * (grS s.d e smp (gFields w).c))) ∧
    (gPlain w → fits80 ((grA s.d e smp (gFields w).a) - (grS s.d e smp (gFields w).b) * (grS s.d e smp (gFields w).c)) → ∃ t, exec (.engMsu e smp w) s = .next t ∧ s.engAcc t e smp (gFields w).a ((grA s.d e smp (gFields w).a) - (grS s.d e smp (gFields w).b) * (grS s.d e smp (gFields w).c))) ∧
    (gPlain w → rdB s.d (Reg.CHAN_ENG_CTRL_WRAP e) = false → ¬fits80 ((grA s.d e smp (gFields w).a) + (grS s.d e smp (gFields w).b) * (grS s.d e smp (gFields w).c)) → ∃ t,
      exec (.engMac e smp w) s = .next t ∧ t.nv = s.nv ∧ t.d.led = s.d.led ∧
      grA t.d e smp (gFields w).a = satS 80 ((grA s.d e smp (gFields w).a) + (grS s.d e smp (gFields w).b) * (grS s.d e smp (gFields w).c)) ∧ bit (gr t.d e smp gSR) 2 = true ∧
      rdB t.d (Reg.CHAN_ENG_STAT_ACC_OV e) = true ∧
      t.d.mor.raised.map (·.src) = s.d.mor.raised.map (·.src) ++ [Src.ENG_ACC_OV]) ∧
    (gPlain w → (gFields w).a = 0x10 ∨ (gFields w).a = 0x12 → fits80 ((grA s.d e smp (gFields w).a) + (grS s.d e smp (gFields w).b) * (grS s.d e smp (gFields w).c)) →
      fits80 (grA s.d e smp ((gFields w).a + 1) + grS s.d e smp ((gFields w).b + 1) * grS s.d e smp ((gFields w).c + 1)) → ∃ t, exec (.engMac2 e smp w) s = .next t ∧
      s.engKeeps t e smp [(gFields w).a, (gFields w).a + 1] ∧ grA t.d e smp (gFields w).a = (grA s.d e smp (gFields w).a) + (grS s.d e smp (gFields w).b) * (grS s.d e smp (gFields w).c) ∧
      grA t.d e smp ((gFields w).a + 1) = grA s.d e smp ((gFields w).a + 1) + grS s.d e smp ((gFields w).b + 1) * grS s.d e smp ((gFields w).c + 1)) ∧
    (gPlain w → ∃ t, exec (.engClra e smp w) s = .next t ∧ s.engAcc t e smp (gFields w).a 0) ∧
    (gPlain w → fits80 ((grA s.d e smp (gFields w).a) + grA s.d e smp (gFields w).b) → ∃ t, exec (.engAdda e smp w) s = .next t ∧ s.engAcc t e smp (gFields w).a ((grA s.d e smp (gFields w).a) + grA s.d e smp (gFields w).b)) ∧
    (gPlain w → 0 ≤ (grS s.d e smp (gFields w).b) → (grS s.d e smp (gFields w).b) ≤ 200 → fits80 ((grA s.d e smp (gFields w).a) * (2 : Int) ^ (grS s.d e smp (gFields w).b).toNat) → ∃ t, exec (.engSha e smp w) s = .next t ∧
      s.engAcc t e smp (gFields w).a ((grA s.d e smp (gFields w).a) * (2 : Int) ^ (grS s.d e smp (gFields w).b).toNat)) ∧
    (gPlain w → (grS s.d e smp (gFields w).b) < 0 → -200 ≤ (grS s.d e smp (gFields w).b) → ∃ t, exec (.engSha e smp w) s = .next t ∧
      s.engAcc t e smp (gFields w).a (asr (grA s.d e smp (gFields w).a) (-(grS s.d e smp (gFields w).b)).toNat)) ∧
    (gPlain w → gUser s.d e smp = false → ∃ t, exec (.engLda e smp w) s = .next t ∧
      s.engAcc t e smp (gFields w).a (gSlot s.d e (gr s.d e smp (gFields w).b)))) ∧
    (gPlain w → 1 ≤ (grS s.d e smp (gFields w).c) → (grS s.d e smp (gFields w).c) ≤ 63 → fits32 (asr (grA s.d e smp (gFields w).b + (2 : Int) ^ ((grS s.d e smp (gFields w).c).toNat - 1)) (grS s.d e smp (gFields w).c).toNat) → ∃ t, exec (.engRnd e smp w) s = .next t ∧
      s.engPut t e smp (gFields w).a (asr (grA s.d e smp (gFields w).b + (2 : Int) ^ ((grS s.d e smp (gFields w).c).toNat - 1)) (grS s.d e smp (gFields w).c).toNat)) ∧
    (gPlain w → gUser s.d e smp = false → ∃ t, exec (.engSta e smp w) s = .next t ∧ t.nv = s.nv ∧ t.d.regs = s.d.regs ∧
      t.d.led = s.d.led ∧ (eng t.d e).x = (eng s.d e).x ∧ (∀ r, gr t.d e smp r = gr s.d e smp r) ∧
      (eng t.d e).y = wrWrap (eng s.d e).y (gr s.d e smp (gFields w).a) 10 (ofS 80 (grA s.d e smp (gFields w).b)))

/-- R220, R226, R227: the HOT instructions address the channel of `CH` at `AH` plus the immediate, within the segment. A
load brings the word, or both words, to its registers; a permitted store writes them, and in the CONTROL window keeps the
old words in the journal first; a store outside a user kernel's area is suppressed, stops the run and is reported.
`SINCOS` gives the rounded pair. -/
def Obligations.EngineHotOps : Prop :=
  ∀ (s : State) (e : Nat) (smp : Bool) (w : Nat), e < 24 → bit (gFields w).y 15 = false → gr s.d e smp gCH < 4096 →
    (∃ t, exec (.engLdh e smp w) s = .next t ∧ s.engPut t e smp (gFields w).a
      (toS 32 (hot s.d (gr s.d e smp gCH) (gHotOff s.d e smp (gFields w).x 4) 4))) ∧
    ((gFields w).a < 15 → ∃ t, exec (.engLdhq e smp w) s = .next t ∧
      s.engKeeps t e smp [(gFields w).a, (gFields w).a + 1] ∧
      gr t.d e smp (gFields w).a = hot s.d (gr s.d e smp gCH) (gHotOff s.d e smp (gFields w).x 8) 4 ∧
      gr t.d e smp ((gFields w).a + 1) = hot s.d (gr s.d e smp gCH) (gHotOff s.d e smp (gFields w).x 8 + 4) 4) ∧
    (0x10 ≤ (gFields w).a → (gFields w).a ≤ 0x13 → ∃ t, exec (.engLdha e smp w) s = .next t ∧
      s.engAcc t e smp (gFields w).a (hotS s.d (gr s.d e smp gCH) (gHotOff s.d e smp (gFields w).x 8) 8)) ∧
    (inControl s.d = false →
      (gHotOk s.d e smp (gHotOff s.d e smp (gFields w).x 4) 4 = true → ∃ t, exec (.engSth e smp w) s = .next t ∧
        t.nv = s.nv ∧ t.d.regs = s.d.regs ∧ (∀ r, gr t.d e smp r = gr s.d e smp r) ∧
        t.d.led = (hotW s.d (gr s.d e smp gCH) (gHotOff s.d e smp (gFields w).x 4) 4
          (ofS 32 (grS s.d e smp (gFields w).a))).led) ∧
      (gHotOk s.d e smp (gHotOff s.d e smp (gFields w).x 8) 8 = true → ∃ t, exec (.engSthq e smp w) s = .next t ∧
        t.nv = s.nv ∧ t.d.regs = s.d.regs ∧ (∀ r, gr t.d e smp r = gr s.d e smp r) ∧
        t.d.led = (hotW s.d (gr s.d e smp gCH) (gHotOff s.d e smp (gFields w).x 8) 8
          (ofS 32 (grS s.d e smp (gFields w).a) + 2 ^ 32 * ofS 32 (grS s.d e smp ((gFields w).a + 1)))).led) ∧
      (gHotOk s.d e smp (gHotOff s.d e smp (gFields w).x 8) 8 = true → ∃ t, exec (.engStha e smp w) s = .next t ∧
        t.nv = s.nv ∧ t.d.regs = s.d.regs ∧ (∀ r, r ≠ gSR → gr t.d e smp r = gr s.d e smp r) ∧
        t.d.led = (hotW s.d (gr s.d e smp gCH) (gHotOff s.d e smp (gFields w).x 8) 8
          (ofS 64 (satS 64 (grA s.d e smp (gFields w).a)))).led)) ∧
    (inControl s.d = true → gHotOk s.d e smp (gHotOff s.d e smp (gFields w).x 4) 4 = true → (eng s.d e).jn < 4096 →
      0x40 ≤ gHotOff s.d e smp (gFields w).x 4 → gHotOff s.d e smp (gFields w).x 4 < 0x1F0 → ∃ t,
      exec (.engSth e smp w) s = .next t ∧ t.nv = s.nv ∧ (eng t.d e).jn = (eng s.d e).jn + 1 ∧
      undoEntry t.d e (eng s.d e).jn = (gr s.d e smp gCH, gHotOff s.d e smp (gFields w).x 4,
        hot s.d (gr s.d e smp gCH) (gHotOff s.d e smp (gFields w).x 4) 4) ∧
      hot t.d (gr s.d e smp gCH) (gHotOff s.d e smp (gFields w).x 4) 4 = ofS 32 (grS s.d e smp (gFields w).a)) ∧
    (gHotOk s.d e smp (gHotOff s.d e smp (gFields w).x 4) 4 = false → ∃ t, exec (.engSth e smp w) s = .next t ∧
      t.nv = s.nv ∧ t.d.led = s.d.led ∧ (eng t.d e).run.live = false ∧ rdB t.d (Reg.CHAN_ENG_STAT_MEM_VIOL e) = true ∧
      t.d.mor.raised.map (·.src) = s.d.mor.raised.map (·.src) ++ [Src.ENG_MEM_VIOL]) ∧
    (bit (gFields w).x 15 = false → (gFields w).a < 15 → ∃ t, exec (.engSincos e smp w) s = .next t ∧
      s.engKeeps t e smp [(gFields w).a, (gFields w).a + 1] ∧
      gr t.d e smp (gFields w).a = ofS 32 (trigRound 32767 (ofS 32 (grS s.d e smp (gFields w).b))).1 ∧
      gr t.d e smp ((gFields w).a + 1) = ofS 32 (trigRound 32767 (ofS 32 (grS s.d e smp (gFields w).b))).2)

/-- R220 to R222: the control instructions. `NOP` does nothing; `EVT` raises the user's event; `END` ends a run of the
window task. A branch that is taken continues at its immediate, one that is not (and any other instruction outside a
repeat) continues with the next word; `REP` and `REPR` open a repeat of their next instructions. The two forms of `TAPM`
multiply and accumulate into two Y slots, and into an accumulator along a delay line. -/
def Obligations.EngineControlOps : Prop :=
  ∀ (s : State) (e : Nat) (smp : Bool) (w n : Nat), e < 24 → bit (gFields w).y 15 = false →
    (bit (gFields w).x 15 = false → ∃ t, exec (.engNop e smp w) s = .next t ∧ s.engKeeps t e smp []) ∧
    (∃ t, exec (.engEvt e smp w) s = .next t ∧ t.nv = s.nv ∧ t.d.led = s.d.led ∧ t.d.regs = s.d.regs ∧
      t.d.mor.raised.map (fun x => (x.src, x.ut, x.ui, x.d1)) = s.d.mor.raised.map (fun x => (x.src, x.ut, x.ui, x.d1)) ++
        [(Src.ENG_USER, 5, e, (gFields w).x % 256)]) ∧
    (bit (gFields w).x 15 = false → ∃ t, exec (.engEnd e false w) s = .next t ∧ s.engKeeps t e false [] ∧
      (eng t.d e).run.live = false ∧ (eng t.d e).run.reps = []) ∧
    (∃ t, exec (.engBr e false w) s = .next t ∧ s.engKeeps t e false [] ∧ (eng t.d e).run.pc = (gFields w).x) ∧
    ((eng s.d e).run.reps = [] →
      (∃ t, exec (.engBz e false w) s = .next t ∧ s.engKeeps t e false [] ∧ (eng t.d e).run.pc =
        if grS s.d e false (gFields w).a = 0 then (gFields w).x else (eng s.d e).run.pc + 1) ∧
      (∃ t, exec (.engBnz e false w) s = .next t ∧ s.engKeeps t e false [] ∧ (eng t.d e).run.pc =
        if grS s.d e false (gFields w).a ≠ 0 then (gFields w).x else (eng s.d e).run.pc + 1) ∧
      (∃ t, exec (.engBlt e false w) s = .next t ∧ s.engKeeps t e false [] ∧ (eng t.d e).run.pc =
        if grS s.d e false (gFields w).a < 0 then (gFields w).x else (eng s.d e).run.pc + 1) ∧
      (∃ t, exec (.engBge e false w) s = .next t ∧ s.engKeeps t e false [] ∧ (eng t.d e).run.pc =
        if 0 ≤ grS s.d e false (gFields w).a then (gFields w).x else (eng s.d e).run.pc + 1) ∧
      (∃ t, exec (.engBnv e false w) s = .next t ∧ s.engKeeps t e false [] ∧ (eng t.d e).run.pc =
        if bit (gr s.d e false gSR) 0 = true then (gFields w).x else (eng s.d e).run.pc + 1)) ∧
    ((gFields w).x ≠ 0 → ∃ t, exec (.engRep e false w) s = .next t ∧ s.engKeeps t e false [] ∧
      (eng t.d e).run.pc = (eng s.d e).run.pc + 1 ∧ (eng t.d e).run.reps =
        ((eng s.d e).run.pc + 1, (eng s.d e).run.pc + (gFields w).flg + 1, (gFields w).x) :: (eng s.d e).run.reps) ∧
    (bit (gFields w).x 15 = false → ofS 32 (grS s.d e false (gFields w).a) = n → n ≠ 0 → ∃ t,
      exec (.engRepr e false w) s = .next t ∧ s.engKeeps t e false [] ∧ (eng t.d e).run.pc = (eng s.d e).run.pc + 1 ∧
      (eng t.d e).run.reps =
        ((eng s.d e).run.pc + 1, (eng s.d e).run.pc + (gFields w).flg + 1, n) :: (eng s.d e).run.reps) ∧
    (bit (gFields w).x 15 = false → (gFields w).flg = 0 → gUser s.d e smp = false → gr s.d e smp (gFields w).c = 64 * n →
      n < 1024 → fits80 (gSlot s.d e (64 * n) +
        toS 32 (gX32 s.d e (gr s.d e smp (gFields w).a)) * toS 32 (gY32 s.d e (gr s.d e smp (gFields w).b))) →
      fits80 (gSlot s.d e (64 * n + 16) +
        toS 32 (gX32 s.d e (gr s.d e smp (gFields w).a)) * toS 32 (gY32 s.d e (gr s.d e smp (gFields w).b + 4))) →
      gr s.d e smp (gFields w).a < 65536 → gr s.d e smp (gFields w).b < 65536 → ∃ t,
      exec (.engTapmSlot e smp w) s = .next t ∧ t.nv = s.nv ∧ t.d.regs = s.d.regs ∧ t.d.led = s.d.led ∧
      (eng t.d e).x = (eng s.d e).x ∧
      gSlot t.d e (64 * n) = gSlot s.d e (64 * n) +
        toS 32 (gX32 s.d e (gr s.d e smp (gFields w).a)) * toS 32 (gY32 s.d e (gr s.d e smp (gFields w).b)) ∧
      gSlot t.d e (64 * n + 16) = gSlot s.d e (64 * n + 16) +
        toS 32 (gX32 s.d e (gr s.d e smp (gFields w).a)) * toS 32 (gY32 s.d e (gr s.d e smp (gFields w).b + 4))) ∧
    (bit (gFields w).x 15 = false → gUser s.d e smp = false → 0x10 ≤ (gFields w).c → (gFields w).c ≤ 0x13 →
      0x18 ≤ (gFields w).a → (gFields w).a ≤ 0x1B → 0x1C ≤ (gFields w).b → (gFields w).b ≤ 0x1F →
      4 ≤ gr s.d e smp (gFields w).a → gr s.d e smp (gFields w).a < 65528 →
      fits80 (grA s.d e smp (gFields w).c +
        toS 32 (gX32 s.d e (gr s.d e smp (gFields w).a)) * toS 32 (gY32 s.d e (gr s.d e smp (gFields w).b)) +
        toS 32 (gX32 s.d e (gr s.d e smp (gFields w).a - 4)) * toS 32 (gY32 s.d e (gr s.d e smp (gFields w).b + 4))) → ∃ t,
      exec (.engTapmLine e smp w) s = .next t ∧ t.nv = s.nv ∧ t.d.regs = s.d.regs ∧ t.d.led = s.d.led ∧
      (eng t.d e).y = (eng s.d e).y ∧ grA t.d e smp (gFields w).c = grA s.d e smp (gFields w).c +
        toS 32 (gX32 s.d e (gr s.d e smp (gFields w).a)) * toS 32 (gY32 s.d e (gr s.d e smp (gFields w).b)) +
        toS 32 (gX32 s.d e (gr s.d e smp (gFields w).a - 4)) * toS 32 (gY32 s.d e (gr s.d e smp (gFields w).b + 4)) ∧
      gX32 t.d e (gr s.d e smp (gFields w).a + 4) = gX32 s.d e (gr s.d e smp (gFields w).a) ∧
      gX32 t.d e (gr s.d e smp (gFields w).a) = gX32 s.d e (gr s.d e smp (gFields w).a - 4))

/-- R216, R223, R225, R235: the next run of a window task that may run is dispatched, a user kernel's at its entry with 2
cycles counted and its channel in `CH`; a run at its cycle limit, or past its last instruction, is stopped and reported;
the sample task serves its next start, except that of the first block of the window under way before the finish part of
the window before it is done, and further starts may join the queue; and `PEAK_CLR` zeroes an engine's peaks. -/
def Obligations.EngineSequencer : Prop :=
  ∀ (s : State) (e i j n w : Nat) (r : SchedRec) (k : KernRec) (ofs : Nat) (req : Requester) (rest : List Nat), e < 24 →
    (taskRuns s.d e = true → (eng s.d e).run.live = false → nextRun s.d e = some (i, r, j) →
      verdictHeld s.d (r.first + j) = true → ∃ t, exec (.engineChannelRun e) s = .next t ∧ t.nv = s.nv ∧ t.d.led = s.d.led ∧
      (eng t.d e).run = (eng s.d e).run ∧ (eng t.d e).entry = (eng s.d e).entry ∧ (eng t.d e).chan = (eng s.d e).chan) ∧
    (taskRuns s.d e = true → (eng s.d e).run.live = false → nextRun s.d e = some (i, r, j) → 0x40 ≤ r.kernel →
      verdictHeld s.d (r.first + j) = false →
      (kernPlaces (img s.d) e).find? (fun p => p.2.kernel == r.kernel) = some (ofs, k) → r.first + j < 4096 → ∃ t,
      exec (.engineChannelRun e) s = .next t ∧ t.nv = s.nv ∧ (eng t.d e).run.live = true ∧
      (eng t.d e).run.kernel = r.kernel ∧ (eng t.d e).run.pc = k.entry ∧ (eng t.d e).run.cyc = 2 ∧
      gr t.d e false gCH = r.first + j ∧ (eng t.d e).entry = i ∧ (eng t.d e).chan = j + 1) ∧
    (taskRuns s.d e = false → exec (.engineChannelRun e) s = .next s) ∧
    ((eng s.d e).run.live = true →
      (max 256 (4 * (eng s.d e).run.cycCh) ≤ (eng s.d e).run.cyc ∨ (eng s.d e).run.ninstr ≤ (eng s.d e).run.pc) → ∃ t,
      exec (.engineRunaway e) s = .next t ∧ t.nv = s.nv ∧ t.d.led = s.d.led ∧ (eng t.d e).run.live = false ∧
      rdB t.d (Reg.CHAN_ENG_STAT_RUNAWAY e) = true ∧
      t.d.mor.raised.map (·.src) = s.d.mor.raised.map (·.src) ++ [Src.ENG_RUNAWAY]) ∧
    ((eng s.d e).starts = n :: rest →
      (n % 16 ≠ 0 ∨ n < 16 * s.d.k ∨ 2 ≤ s.d.phase ∨ finishDone s.d e = true → ∃ t, exec (.engineSampleTask e) s = .next t ∧
        t.nv = s.nv ∧ rest <+: (eng t.d e).starts ∧
        ((enginePorts s.d e).all (fun p => !inService s.d p) = true → (eng t.d e).starts = rest)) ∧
      (n % 16 = 0 → 16 * s.d.k ≤ n → s.d.phase ≤ 1 → finishDone s.d e = false → exec (.engineSampleTask e) s = .next s)) ∧
    (accessErr s.d req (engCtrlAddr e) true = 0 → bits w 0 1 = rd s.d (Reg.CHAN_ENG_CTRL_WRAP e) → ∃ t,
      exec (.peakClr req e w) s = .next t ∧ t.nv = s.nv ∧ rd t.d (Reg.CHAN_ENG_PEAK_FINISH e) = 0 ∧
      rd t.d (Reg.CHAN_ENG_PEAK_CONTROL e) = 0 ∧ rd t.d (Reg.CHAN_ENG_SMP_PEAK e) = 0 ∧
      rd t.d (Reg.CHAN_ENG_JRNL_PEAK e) = 0)

/-- R237 to R239, R243 to R247: the DC bus. A sense gap is flagged and raises its event, and enters TRIP where a channel
is commanded; 20 means in a row below a level's exit step it down by one; TRIP_CLR is accepted only with the mean below
WARN and no gap standing; a chopper test that falls due runs, or is skipped while the bus is too low for it; one whose
step of the bus lies within its limits passes; and 30 s after one fell due without a pass, CHOP_FAULT is staged. -/
def Obligations.BusCommands : Prop :=
  ∀ (s : State) (req : Requester) (us w t0 : Nat) (ve v0 v1 : Int),
    (20 < us → s.d.firn.act.isSome = true → anyCommanded s.d = false → ∃ t, exec (.busSenseGap us) s = .next t ∧
      t.nv = s.nv ∧ t.d.net.gap = true ∧ rdB t.d Reg.NET_STAT_SENSE_EV = true ∧ netLevel t.d = netLevel s.d ∧
      t.d.mor.raised.map (·.src) = s.d.mor.raised.map (·.src) ++ [Src.NET_SENSE]) ∧
    (20 < us → s.d.firn.act.isSome = true → anyCommanded s.d = true → netLevel s.d ≠ 3 → ∃ t,
      exec (.busSenseGap us) s = .next t ∧ t.nv = s.nv ∧ netLevel t.d = 3 ∧ rdB t.d Reg.NET_STAT_TRIP_EV = true ∧
      rdB t.d Reg.NET_STAT_TRIP_SENSE = true ∧ t.d.net.hold = true) ∧
    (us ≤ 20 → exec (.busSenseGap us) s = .next s) ∧
    (netLevel s.d = 1 ∨ netLevel s.d = 2 → 20 ≤ s.d.net.below → exec .busLevelStepDown s =
      .next (s.withDev (wr { s.d with net := { s.d.net with below := 0 } } Reg.NET_STAT_LEVEL (netLevel s.d - 1)))) ∧
    (s.d.net.below < 20 → exec .busLevelStepDown s = .next s) ∧
    (s.served req 0x10090000 → forwards s.d req = false →
      (bit w 1 = false → s.d.apply = false → tripClrOk s.d = true → ∃ t, exec (.tripClr req w) s = .next t ∧ t.nv = s.nv ∧
        t.d.net = { s.d.net with clrPend := true } ∧ netLevel t.d = netLevel s.d) ∧
      (tripClrOk s.d = false → bit w 1 = false → s.d.apply = false → ∃ t, exec (.tripClr req w) s = .next t ∧ t.nv = s.nv ∧ t.d.net = s.d.net ∧
        netLevel t.d = netLevel s.d ∧ t.d.resp.err = errRefused) ∧
      (bit w 0 = false → ownsGate s.d = true → ∃ t, exec (.testNow req w) s = .next t ∧ t.nv = s.nv ∧
        t.d.net = (chopDue s.d).net)) ∧
    (s.d.k % 200000 = 0 → ownsGate s.d = true → s.d.firn.act.isSome = true → s.d.net.run = none →
      (s.d.net.mean < (rd s.d Reg.NET_TEST_VMIN_MV : Int) → ∃ t, exec .chopTestDue s = .next t ∧ t.nv = s.nv ∧
        rd t.d Reg.NET_TEST_RES_RESULT = 3 ∧ t.d.net.due = true ∧ t.d.net.run = none ∧
        rdB t.d Reg.NET_STAT_CHOP_ON = rdB s.d Reg.NET_STAT_CHOP_ON) ∧
      ((rd s.d Reg.NET_TEST_VMIN_MV : Int) ≤ s.d.net.mean → rdB s.d Reg.NET_STAT_CHOP_ON = false →
        netLevel s.d < 2 → ∃ t, exec .chopTestDue s = .next t ∧ t.nv = s.nv ∧ t.d.net.due = false ∧
        t.d.net.run.isSome = true ∧ rdB t.d Reg.NET_STAT_CHOP_ON = true)) ∧
    (s.d.net.run = some (t0, ve, v0) → isActive s.d = false →
      meanOf (smpIn s.d (t0 + rd s.d Reg.NET_TEST_TIME_TEST_US * 1000 - 20000) (t0 + rd s.d Reg.NET_TEST_TIME_TEST_US * 1000)) =
        some v1 →
      (rd s.d Reg.NET_TEST_DV_DV_MIN : Int) ≤ v0 - v1 + qdiv ((v0 - ve) * rd s.d Reg.NET_TEST_TIME_TEST_US) 80 →
      v0 - v1 + qdiv ((v0 - ve) * rd s.d Reg.NET_TEST_TIME_TEST_US) 80 ≤ (rd s.d Reg.NET_TEST_DV_DV_MAX : Int) → ∃ t,
      exec .chopTestEnd s = .next t ∧ t.nv = s.nv ∧ rd t.d Reg.NET_TEST_RES_RESULT = 1 ∧ t.d.net.run = none ∧
      t.d.net.owed = none ∧ rdB t.d Reg.NET_STAT_TEST_PASS = true ∧ t.d.staged = s.d.staged ++ [.chop 0]) ∧
    (s.d.net.owed = some t0 → t0 + 600000 ≤ s.d.k → rdB s.d Reg.NET_STAT_UNTESTED = false → isActive s.d = false →
      exec .chopUntested s = .next (s.withDev { s.d with staged := s.d.staged ++ [.chop 2] }))

/-- R269 to R272: the SERAC commands. RELEASE, TRIP and QCLR over a set that lies within the device are staged for their
commit point, and a set that does not is refused; FIRE_CLR clears FIRE where its zones are in maintenance and no check
fired in the last verdict; an injection is taken only for a channel whose zone is in SELFTEST. -/
def Obligations.SeracCommands : Prop :=
  ∀ (s : State) (req : Requester) (w : Nat),
    (s.served req 0x10080008 → forwards s.d req = false → isStandby s.d = false →
      (seracSetBad s.d (bits w 4 2) = false →
        (∃ t, exec (.seracRelease req w) s = .next t ∧ t.nv = s.nv ∧ t.d.led = s.d.led ∧ t.d.ser = s.d.ser ∧
          rdB t.d Reg.SERAC_STAT_CMD_PEND = true ∧ t.d.staged = s.d.staged ++
            [.serac 1 (bits w 4 2) (rd s.d Reg.SERAC_CMD_SET_FIRST) (rd s.d Reg.SERAC_CMD_SET_NUM)]) ∧
        (∃ t, exec (.seracTripCmd req w) s = .next t ∧ t.nv = s.nv ∧ t.d.led = s.d.led ∧ t.d.ser = s.d.ser ∧
          rdB t.d Reg.SERAC_STAT_CMD_PEND = true ∧ t.d.staged = s.d.staged ++
            [.serac 2 (bits w 4 2) (rd s.d Reg.SERAC_CMD_SET_FIRST) (rd s.d Reg.SERAC_CMD_SET_NUM)]) ∧
        (∃ t, exec (.qclr req w) s = .next t ∧ t.nv = s.nv ∧ t.d.led = s.d.led ∧ t.d.ser = s.d.ser ∧
          rdB t.d Reg.SERAC_STAT_CMD_PEND = true ∧ t.d.staged = s.d.staged ++
            [.serac 3 (bits w 4 2) (rd s.d Reg.SERAC_CMD_SET_FIRST) (rd s.d Reg.SERAC_CMD_SET_NUM)])) ∧
      (seracSetBad s.d (bits w 4 2) = true →
        exec (.seracTripCmd req w) s = .next (s.withDev (refuseW s.d req 0x10080008)))) ∧
    (s.served req 0x10080000 →
      (forwards s.d req = false → isStandby s.d = false → s.d.ser.fireLast = false →
        (∀ z < 16, rdFBit s.d Reg.SERAC_FIRE_ZONES_ZONES z = true → isMaint (zmode s.d z) = true) →
        exec (.fireClr req w) s = .next (s.withDev (okResp (wr (wrB s.d Reg.SERAC_STAT_FIRE false) Reg.SERAC_FIRE_ZONES_ZONES 0)))) ∧
      (s.d.ser.fireLast = true → exec (.fireClr req w) s = .next (s.withDev (refuseW s.d req 0x10080000))) ∧
      (chanMode s.d (rd s.d Reg.SERAC_INJ_CH) (· == modeSelftest) = true → exec (.injGo req w) s =
        .next (s.withDev (okResp { s.d with ser := { s.d.ser with
          inj := some (rd s.d Reg.SERAC_INJ_CH, rd s.d Reg.SERAC_INJ_PLANE) } }))) ∧
      (chanMode s.d (rd s.d Reg.SERAC_INJ_CH) (· == modeSelftest) = false →
        exec (.injGo req w) s = .next (s.withDev (refuseW s.d req 0x10080000))))

/-- R332, R333 to R335, R345, R346, R353, R354, R366, R370 to R372: the frames of the Rime network. In an owned slot a
node that may send puts out the frame of its slot while the guardian's window covers it, and a truncation is counted where
it does not; a valid frame of another node is kept by slot and its node is seen, and one that fails a check is counted by
the check; a time master sends its reference, a gateway its downlink and its trunk frame, and takes the valid frames of
other gateways; and a SEGMENT or LINE barrier whose carried arrivals reach `EXPECT` is released. -/
def Obligations.RimeFrames : Prop :=
  ∀ (s : State) (slot ch sof codeErrs b : Nat) (lag gdev : Int) (framed line : Bool) (f : List Byte) (e : RxFault),
    (segSends s.d = true → ownsSlot s.d slot = true → slot < 64 → guardOpen s.d = true →
      (guardCovers s.d slot ((slotFrame s.d slot).length + 2) lag = true → ∃ t, exec (.rimeSlotTx slot lag) s = .next t ∧
        t.nv = s.nv ∧ t.d.regs = s.d.regs ∧ slot ∈ t.d.rime.seg.sent ∧
        t.d.rime.txSlot = BitVec.ofNat 8 (txMask s.d 0) :: slotFrame s.d slot) ∧
      (guardCovers s.d slot ((slotFrame s.d slot).length + 2) lag = false → ∃ t, exec (.rimeSlotTx slot lag) s = .next t ∧
        t.nv = s.nv ∧ t.d.rime.txSlot = s.d.rime.txSlot ∧ rdB t.d Reg.RIMEL_STAT_TRUNC_EV = true ∧
        cycNo s.d ∈ t.d.rime.seg.truncs)) ∧
    (segSends s.d = false → exec (.rimeSlotTx slot lag) s = .next s) ∧
    (csOf s.d = csINTEGRATED → fenceHolds s.d 8 ch = false → ch < 2 → rdFBit s.d Reg.PWR_STAT_DOM_ON 11 = true →
      s.d.rime.seg.sent.contains (sof / 12500) = false →
      (rxCheck4 s.d framed codeErrs f = none → sof < 799000 → rxCheck5 s.d f = true →
        (rxDev s.d ch sof (slotAp (fSlot f))).natAbs ≤ 1000 → SMap.find s.d.rime.seg.rx (fSlot f) = none → ∃ t,
        exec (.rimeFrameRx ch sof gdev framed codeErrs f) s = .next t ∧ t.nv = s.nv ∧
        SMap.find t.d.rime.seg.rx (fSlot f) = some ⟨f.take (f.length - 4), sof, ch == 1⟩ ∧
        slotOwner s.d (fMode f) (fSlot f) ∈ t.d.rime.seg.seen ∧
        rd t.d (Reg.RIMEL_CNT_OK_CNT ch) = (rd s.d (Reg.RIMEL_CNT_OK_CNT ch) + 1) % 2 ^ 32) ∧
      (rxCheck4 s.d framed codeErrs f = some e → exec (.rimeFrameRx ch sof gdev framed codeErrs f) s =
        .next (s.withDev (countRx s.d ch e)))) ∧
    (csOf s.d = csINTEGRATED → isMaster s.d (s.d.rime.lastRanks ++ s.d.rime.refs.map (·.1)) = true → guardOpen s.d = true →
      trunkRank s.d = none →
      ∃ t g, exec .rimeRefTx s = .next t ∧ t.d = { s.d with rime := { s.d.rime with txRef := BitVec.ofNat 8 (txMask s.d 0) :: g } } ∧
        g = closeFrame s.d (authOn s.d (rd s.d Reg.RIMEL_CTRL_VER))
          (segHdr s.d (rd s.d Reg.TIME_SYNC_MRANK) false true (authOn s.d (rd s.d Reg.RIMEL_CTRL_VER)) false
            (refPayload s.d (rd s.d Reg.TIME_SYNC_MRANK) (cycNo s.d * 20) (800000 + 12500 * rd s.d Reg.TIME_SYNC_MRANK + 1250)
              (authOn s.d (rd s.d Reg.RIMEL_CTRL_VER))).length)
          (refPayload s.d (rd s.d Reg.TIME_SYNC_MRANK) (cycNo s.d * 20) (800000 + 12500 * rd s.d Reg.TIME_SYNC_MRANK + 1250)
            (authOn s.d (rd s.d Reg.RIMEL_CTRL_VER)))) ∧
    (isGateway s.d = true → tcsOf s.d = csINTEGRATED → rdB s.d Reg.RIMEL_STAT_GCLK_FAIL = false → s.d.rime.trunk.blocked = false →
      trunkRank s.d = some b → cycNo s.d % 4 = 3 → ∃ t, exec .rimeRefTx s = .next t ∧ t.nv = s.nv ∧ t.d.regs = s.d.regs ∧
      t.d.rime.txTref = BitVec.ofNat 8 (txMask s.d 2) :: closeFrame s.d (authOn s.d (rd s.d Reg.RIMET_CTRL_VER))
        (trunkHdr s.d false true (authOn s.d (rd s.d Reg.RIMET_CTRL_VER)) b
          (refPayload s.d b (tcycNo s.d * 80) (3840000 + 15000 * b + 1500) (authOn s.d (rd s.d Reg.RIMET_CTRL_VER))).length)
        (refPayload s.d b (tcycNo s.d * 80) (3840000 + 15000 * b + 1500) (authOn s.d (rd s.d Reg.RIMET_CTRL_VER)))) ∧
    (csOf s.d = csINTEGRATED → fenceHolds s.d 8 ch = false → ch < 2 → rdFBit s.d Reg.PWR_STAT_DOM_ON 11 = true →
      s.d.rime.seg.sent.contains (sof / 12500) = false → rxCheck4 s.d framed codeErrs f = none → 799000 ≤ sof → sof < 860000 →
      fStat f = false → fSync f = true → fSlot f ≤ 3 → fLen f = (if fAuth f then 24 else 16) →
      byteAt (fPayload f) 1 ≠ myNode s.d → s.d.rime.refs = [] → ∃ t,
      exec (.rimeFrameRx ch sof gdev framed codeErrs f) s = .next t ∧ t.nv = s.nv ∧ t.d.rime.refs =
        [(fSlot f, byteAt (fPayload f) 1, rxDev s.d ch sof (800000 + 12500 * fSlot f + 1250), bit (byteAt (fPayload f) 0) 7)]) ∧
    (isGateway s.d = true → csOf s.d = csINTEGRATED → guardOpen s.d = true → cycNo s.d % 4 ≠ 3 → ∃ t g p,
      exec .rimeDownlinkTx s = .next t ∧ t.nv = s.nv ∧ t.d.firn = s.d.firn ∧
      t.d.rime.txDown = BitVec.ofNat 8 (txMask s.d 0) :: g ∧ t.d.rime.down = some (cycNo s.d, p) ∧
      rdB t.d Reg.TIME_STAT_LINE = (tcsOf s.d == csINTEGRATED)) ∧
    (isGateway s.d = true → tcsOf s.d = csINTEGRATED → rdB s.d Reg.RIMEL_STAT_GCLK_FAIL = false →
      s.d.rime.trunk.blocked = false → ∃ t g, exec (.trunkSlotTx 0) s = .next t ∧ t.nv = s.nv ∧ t.d.regs = s.d.regs ∧
      t.d.rime.trunk.sent = [mySeg s.d] ∧ t.d.rime.txTrunk = BitVec.ofNat 8 (txMask s.d 2) :: g) ∧
    (tcsOf s.d = csINTEGRATED → fenceHolds s.d 8 (2 + ch) = false → ch < 2 → rdFBit s.d Reg.PWR_STAT_DOM_ON 11 = true →
      s.d.rime.trunk.sent = [] → trunkCheck s.d ch sof framed codeErrs f = true → bit (byteAt f 0) 4 = false → ∃ t,
      exec (.trunkFrameRx ch sof framed codeErrs f) s = .next t ∧ t.nv = s.nv ∧ byteAt f 1 ∈ t.d.rime.trunk.seen ∧
      SMap.find t.d.rime.gws (byteAt f 1) = some (tcycNo s.d, sub f 8 (fLen f))) ∧
    (remoteDue s.d line b = true → ∃ t, exec (.remoteBarrierRelease line b) s = .next t ∧ t.nv = s.nv ∧
      rdB t.d (Reg.SEQ_LBAR_REL b) = true ∧ rdB t.d (Reg.SEQ_LBAR_LOCAL b) = false ∧
      (barrier t.d (barKey (if line then 4 else 3) 0 b)).gen = (barrier s.d (barKey (if line then 4 else 3) 0 b)).gen + 1 ∧
      (barrier t.d (barKey (if line then 4 else 3) 0 b)).arrived = []) ∧
    (remoteDue s.d line b = false → exec (.remoteBarrierRelease line b) s = .next s)

/-- R334, R339, R340, R346 to R349, R362, R368: the controllers. A write that sets `EN` lets the controller listen from
the next cycle, one that clears it disables it, and RESTART sends it back to its listening state with its attempts
forgotten; a medium silent for 2 + `RANK` cycles lets a cold-start node lead; an attempt that ends without two
confirmations is aborted; a silent channel, a lost own frame and a failed guardian clock are flagged and raised; and after
2,000 ISOLATED cycles the zones in PRODUCTION hold. -/
def Obligations.RimeControllers : Prop :=
  ∀ (s : State) (req : Requester) (w ch why : Nat),
    (accessErr s.d req 0x100A0000 true = 0 →
      (rdB s.d Reg.RIMEL_CTRL_EN = false → 1 ≤ bits w 4 2 → bits w 4 2 ≤ 2 → ∃ t, exec (.rimelEnable req w) s = .next t ∧
        t.nv = s.nv ∧ rdB t.d Reg.RIMEL_CTRL_EN = true ∧ t.d.rime.seg.next = some csLISTEN ∧ t.d.rime.seg.quietK = s.d.k ∧
        rd t.d Reg.RIMEL_CS_ATTEMPTS = 0) ∧
      (rdB s.d Reg.RIMEL_CTRL_EN = true → bits w 4 2 = rd s.d Reg.RIMEL_CTRL_VER → 1 ≤ bits w 4 2 → bits w 4 2 ≤ 2 →
        (∃ t, exec (.rimelDisable req w) s = .next t ∧ t.nv = s.nv ∧ rdB t.d Reg.RIMEL_CTRL_EN = false ∧
          csOf t.d = csDISABLED) ∧
        (bit w 0 = true → ∃ t, exec (.rimelRestart req w) s = .next t ∧ t.nv = s.nv ∧ rd t.d Reg.RIMEL_CS_ATTEMPTS = 0 ∧
          csOf t.d = if rdB s.d Reg.RIMEL_NODE_COLD = true ∧ 0 < rd s.d Reg.RIMEL_CS_CS_MAX then csWAIT else csLISTEN))) ∧
    (accessErr s.d req 0x100B0000 true = 0 →
      (rdB s.d Reg.RIMET_CTRL_EN = false → 1 ≤ bits w 4 2 → bits w 4 2 ≤ 2 →
        ((trunkRec s.d (rMode s.d)).map (fun r => bit r.gw (mySeg s.d))).getD false = true → ∃ t,
        exec (.rimetEnable req w) s = .next t ∧ t.nv = s.nv ∧ rdB t.d Reg.RIMET_CTRL_EN = true ∧
        t.d.rime.trunk.next = some csLISTEN ∧ t.d.rime.trunk.attempts = 0) ∧
      (rdB s.d Reg.RIMET_CTRL_EN = false → trunkRec s.d (rMode s.d) = none →
        exec (.rimetEnable req w) s = .next (s.withDev (refuseW s.d req 0x100B0000))) ∧
      (rdB s.d Reg.RIMET_CTRL_EN = true → bits w 4 2 = rd s.d Reg.RIMET_CTRL_VER → 1 ≤ bits w 4 2 → bits w 4 2 ≤ 2 →
        (∃ t, exec (.rimetDisable req w) s = .next t ∧ t.nv = s.nv ∧ rdB t.d Reg.RIMET_CTRL_EN = false ∧
          tcsOf t.d = csDISABLED) ∧
        (bit w 0 = true → ∃ t, exec (.rimetRestart req w) s = .next t ∧ t.nv = s.nv ∧ t.d.rime.trunk.attempts = 0 ∧
          (tcsOf t.d = csWAIT ∨ tcsOf t.d = csLISTEN)))) ∧
    (csOf s.d = csWAIT → s.d.rime.seg.quietK + 20 * (2 + rd s.d Reg.RIMEL_NODE_RANK) ≤ s.d.k →
      exec (.csListenTimeout false) s = .next (s.withDev (segM s.d (fun c => { c with next := some csLEAD })))) ∧
    (tcsOf s.d = csWAIT → s.d.rime.trunk.quietK + 80 * (2 + (trunkRank s.d).getD 0) ≤ s.d.k →
      exec (.csListenTimeout true) s = .next (s.withDev (trunkM s.d (fun c => { c with next := some csLEAD })))) ∧
    (csOf s.d = csLEAD → 7 ≤ s.d.rime.seg.att → s.d.rime.seg.conf.length < 2 → ∃ t, exec (.csAttemptEnd false) s = .next t ∧
      t.nv = s.nv ∧ rdB t.d Reg.RIMEL_STAT_CS_ABORT_EV = true ∧ csOf t.d = listenState s.d ∧
      Src.RIMEL_CS_ABORT ∈ t.d.mor.raised.map (·.src)) ∧
    (ch < 2 → 8 ≤ s.d.rime.seg.chSilent.getD ch 0 → ∃ t, exec (.rimeChFail ch) s = .next t ∧ t.nv = s.nv ∧
      rdB t.d (if ch = 0 then Reg.RIMEL_STAT_CH_A_FAIL else Reg.RIMEL_STAT_CH_B_FAIL) = true ∧
      t.d.mor.raised.map (·.src) = s.d.mor.raised.map (·.src) ++ [Src.RIMEL_CH_FAIL]) ∧
    (csOf s.d = csINTEGRATED → 2 ≤ s.d.rime.seg.ownBad → (statusSlot s.d).isSome = true → ∃ t,
      exec .rimelSyncLoss s = .next t ∧ t.nv = s.nv ∧ rd t.d Reg.RIMEL_LOSS_CAUSE = 1 ∧
      rdB t.d Reg.RIMEL_STAT_SYNC_LOSS_EV = true ∧ csOf t.d = listenState s.d ∧ t.d.rime.mc = none ∧
      t.d.mor.raised.map (·.src) = s.d.mor.raised.map (·.src) ++ [Src.RIMEL_SYNC_LOSS]) ∧
    (why ≠ 2 → rdB s.d Reg.RIMEL_STAT_GCLK_FAIL = false → ∃ t, exec (.gclkFail why) s = .next t ∧ t.nv = s.nv ∧
      rdB t.d Reg.RIMEL_STAT_GCLK_FAIL = true ∧ guardOpen t.d = false ∧ t.d.rime.trunk.blocked = true ∧
      t.d.mor.raised.map (·.src) = s.d.mor.raised.map (·.src) ++ [Src.RIMEL_GCLK_FAIL]) ∧
    exec .gclkRestored s = .next (s.withDev (wrB s.d Reg.RIMEL_STAT_GCLK_FAIL false)) ∧
    (fenceHolds s.d 8 ch = false → ch < 2 → ∃ t, exec (.rimeActivity ch) s = .next t ∧ t.nv = s.nv ∧ t.d.regs = s.d.regs ∧
      t.d.rime.seg.quietK = s.d.k ∧ (csOf s.d = csWAIT → t.d.rime.seg.next = none)) ∧
    (role s.d = 0 → rimeState s.d = 2 → 2000 ≤ rd s.d Reg.TIME_ISO_CYC → s.d.rime.isoDone = false → ∃ t,
      exec .timeIsoLimit s = .next t ∧ t.nv = s.nv ∧ t.d.rime.isoDone = true ∧
      rd t.d Reg.SYS_ZHOLD_ZONES = (if s.d.k % 20 = 0 ∧ s.d.phase = 0 then productionZones s.d % 2 ^ Reg.SYS_ZHOLD_ZONES.wd
        else rd s.d Reg.SYS_ZHOLD_ZONES))

/-- R355 to R358, R363 to R365: the time base and mode changes. By the midpoint method the correction is the midpoint of
the deviations it keeps, applied in the next cycle while it lies within its limit, and a clock error beyond it; the rate
follows a reference's drift over 16 cycles; a mode change is asked for by `RIMET_MC` where the device may, agreed for a
mode-change boundary if every sync node carried it and lapsed if not, and judged on the line by its gateways. -/
def Obligations.RimeTimeAndModes : Prop :=
  ∀ (s : State) (req : Requester) (w n : Nat) (x y : Int) (r : McReq) (l : LineReq) (tr : TrunkRec),
    (s.d.k % 20 = 17 → followsPartner s.d = false → rimeState s.d = 1 → rd s.d Reg.TIME_SYNC_METHOD = 2 → midUsed s.d ≠ [] →
      ((midpoint (midKept ((midUsed s.d).map (·.2)))).natAbs ≤ rd s.d Reg.TIME_LIM_OFS_LIM → ∃ t,
        exec .timeOffsetCorrection s = .next t ∧ t.nv = s.nv ∧ rd t.d Reg.TIME_STAT_METHOD = 2 ∧
        t.d.rime.cNext = midpoint (midKept ((midUsed s.d).map (·.2))) ∧
        rd t.d Reg.TIME_OFS_C = ofS 16 (midpoint (midKept ((midUsed s.d).map (·.2)))) ∧
        rd t.d Reg.TIME_PREC_NSYNC = (midUsed s.d).length % 2 ^ Reg.TIME_PREC_NSYNC.wd) ∧
      (rd s.d Reg.TIME_LIM_OFS_LIM < (midpoint (midKept ((midUsed s.d).map (·.2)))).natAbs → ∃ t,
        exec .timeOffsetCorrection s = .next t ∧ t.nv = s.nv ∧ rdB t.d Reg.TIME_STAT_CLOCK_EV = true ∧
        rd t.d Reg.TIME_OFS_C = rd s.d Reg.TIME_OFS_C)) ∧
    (cycNo s.d % 16 = 15 → 16 ≤ cycNo s.d → rimeState s.d = 1 → rd s.d Reg.TIME_STAT_METHOD = 1 →
      s.d.rime.hist.find? (fun e => e.1 == cycNo s.d) = some (cycNo s.d, [(n, x)]) →
      s.d.rime.hist.find? (fun e => e.1 == cycNo s.d - 16) = some (cycNo s.d - 16, [(n, y)]) → (x - y) % 2 = 0 →
      ((toS 32 (rd s.d Reg.TIME_RATE_PPB) + (x - y) * 125 / 2).natAbs : Int) ≤ rd s.d Reg.TIME_LIM_RATE_LIM * 1000 →
      exec .timeRateCorrection s =
        .next (s.withDev (wr s.d Reg.TIME_RATE_PPB (ofS 32 (toS 32 (rd s.d Reg.TIME_RATE_PPB) + (x - y) * 125 / 2))))) ∧
    (cycNo s.d % 16 ≠ 15 → exec .timeRateCorrection s = .next s) ∧
    (accessErr s.d req 0x100B0030 true = 0 →
      (rimeState s.d = 1 → isStandby s.d = false → rdB s.d Reg.RIMET_MC_PEND = false → modeHeld s.d (bits w 0 3) = true →
        ∃ t, exec (.rimetMcGo req w) s = .next t ∧ t.nv = s.nv ∧ t.d.rime = { s.d.rime with mcWait := some (bits w 0 3) } ∧
        t.d.resp.err = 0) ∧
      (modeHeld s.d (bits w 0 3) = false →
        exec (.rimetMcGo req w) s = .next (s.withDev (refuseW s.d req 0x100B0030)))) ∧
    (s.d.rime.mc = some r → r.cyc + 2 ≤ cycNo s.d → r.agreed = none → trunkRec s.d (rMode s.d) = none →
      ((∀ m < 64, isSync s.d (rMode s.d) m = true → if m = myNode s.d then r.mine = true ∨ r.echo = true else m ∈ r.nodes) →
        ∃ t, exec .modeChangeEval s = .next t ∧ t.nv = s.nv ∧ t.d.rime.mc = none ∧ t.d.firn.pendMode = r.mode ∧
        t.d.firn.pendCyc = mcBoundary (r.cyc + 2) ∧ rdB t.d Reg.RIMET_MC_PEND = true ∧ rdB t.d Reg.FIRN_STAT_PEND = true ∧
        rdB t.d Reg.RIMET_MC_AGREED = true) ∧
      ((∃ m < 64, isSync s.d (rMode s.d) m = true ∧ m ≠ myNode s.d ∧ m ∉ r.nodes) → ∃ t, exec .modeChangeEval s = .next t ∧
        t.nv = s.nv ∧ t.d.rime.mc = none ∧ t.d.firn = s.d.firn ∧ rdB t.d Reg.RIMET_MC_LAPSE = true ∧
        t.d.mor.raised.map (·.src) = s.d.mor.raised.map (·.src) ++ [Src.RIMET_MC_LAPSE])) ∧
    (s.d.rime.line = some l → trunkRec s.d (rMode s.d) = some tr → l.t + 2 ≤ tcycNo s.d → l.out = none →
      isGateway s.d = true → ∃ t ok, exec .lineModeChangeEval s = .next t ∧ t.nv = s.nv ∧ t.d.regs = s.d.regs ∧
      t.d.rime.line = some { l with out := some (ok, mcBoundary (4 * (l.t + 2) + 3)) } ∧
      (ok = true ↔ ∀ g < 256, bit tr.gw g = true → if g = mySeg s.d then l.mine = true ∨ l.echo = true else g ∈ l.gws))

/-- R378 to R381, R383, R386, R389 to R393, R396: the schrund link. It is up with two lanes or more; the TICK frame
carries the device's role, rank, ownership and oldest orders; a valid one from the partner renews the heartbeat, three
misses lose it; an ENGAGED device keeps the inputs of the cycle and the CLOSE that counts them, and a missing one is
flagged and detaches it; unequal digests begin resynchronisations, whose batches wait for the commit point; and the saved
state and the pieces of bulk data are kept. -/
def Obligations.PairLink : Prop :=
  ∀ (s : State) (mask dly ns psub lane cyc count crc kind slot total : Nat) (f payload bs : List Byte) (x : Staged)
    (r : Resync) (v : SavedState) (gs hs : List (Nat × Nat)) (cs classes : List Nat),
    (laneCount (mask % 16) < 2 → ∃ t, exec (.schLaneChange mask dly) s = .next t ∧ t.nv = s.nv ∧ t.d.sch.up = false ∧
      t.d.sch.lanes = mask % 16 ∧ rd t.d Reg.SCH_STAT_LANES = laneCount (mask % 16)) ∧
    (2 ≤ laneCount (mask % 16) → s.d.sch.up = false → isCalved s.d = false → dly ≤ 1000 → ∃ t,
      exec (.schLaneChange mask dly) s = .next t ∧ t.nv = s.nv ∧ t.d.sch.up = true ∧ t.d.sch.seen = false ∧
      rd t.d Reg.SCH_LINK_DLY_NS = dly ∧ rd t.d Reg.SCH_STAT_LANES = laneCount (mask % 16)) ∧
    (paired s.d = true → s.d.sch.up = true → ∃ t, exec .schTickTx s = .next t ∧ t.nv = s.nv ∧ t.d.regs = s.d.regs ∧
      t.d.mor.orders = s.d.mor.orders.drop 64 ∧ t.d.sch.txTick = withCrc ([BitVec.ofNat 8 1, BitVec.ofNat 8 (b2n (inSafe s.d) * 128 +
        role s.d * 32 + rd s.d Reg.SCH_STAT_RANK * 16 + rd s.d Reg.SCH_STAT_OWN * 8 + netLevel s.d)] ++ natBE 8 s.d.k ++
        natBE 2 (s.d.mor.orders.take 64).length ++ portOkBytes s.d ++
        (s.d.mor.orders.take 64).flatMap (fun o => natBE 1 o.1 ++ natBE 1 o.2.1 ++ natBE 2 o.2.2))) ∧
    (paired s.d = true → s.d.sch.up = true → f.length = 32 + 4 * beAt f 10 2 → beAt f 10 2 ≤ 64 → byteAt f 0 = 1 →
      crc32c (f.take (f.length - 4)) = beAt f (f.length - 4) 4 →
      (beAt f 2 8 = s.d.k → ns ≤ 30000 → isStandby s.d = true → pstate s.d = psENGAGED → s.d.sch.start = false → ∃ t,
        exec (.schTickRx ns psub lane f) s = .next t ∧ t.nv = s.nv ∧ rdB t.d Reg.SCH_STAT_HB_OK = true ∧
        t.d.sch.got = true ∧ t.d.sch.miss = 0 ∧ t.d.sch.peer.role = bits (byteAt f 1) 5 2 ∧
        t.d.sch.peer.safe = bit (byteAt f 1) 7 ∧ t.d.sch.orders = s.d.sch.orders ++ tickOrders f) ∧
      (beAt f 2 8 ≠ s.d.k ∨ 30000 < ns → exec (.schTickRx ns psub lane f) s = .next s)) ∧
    (paired s.d = true → s.d.sch.got = false →
      (s.d.sch.miss = 0 → ∃ t, exec .schTickDeadline s = .next t ∧ t.nv = s.nv ∧ t.d.sch.miss = 1 ∧
        rdB t.d Reg.SCH_STAT_HB_OK = rdB s.d Reg.SCH_STAT_HB_OK) ∧
      (1 ≤ s.d.sch.miss → hbOk s.d = true → ∃ t, exec .schTickDeadline s = .next t ∧ t.nv = s.nv ∧
        hbOk t.d = false ∧ rdB t.d Reg.SCH_STAT_HB_LOSS_EV = true)) ∧
    (isStandby s.d = true → pstate s.d = psENGAGED →
      exec (.inputRx cyc x payload) s = .next (s.withDev { s.d with sch := { s.d.sch with
        inputs := s.d.sch.inputs ++ [(cyc, x)], payload := s.d.sch.payload ++ payload } }) ∧
      ((s.d.sch.inputs.filter (fun i => i.1 == cyc)).length = count → crc32c s.d.sch.payload = crc →
        exec (.closeRx cyc count crc) s = .next (s.withDev { s.d with sch := { s.d.sch with
          payload := [], closed := some cyc, gap := 0 } })) ∧
      ((s.d.sch.inputs.filter (fun i => i.1 == cyc)).length ≠ count →
        exec (.closeRx cyc count crc) s = .next (s.withDev { s.d with sch := { s.d.sch with
          payload := [], closed := none, gap := 1 } })) ∧
      (s.d.k % 20 = 0 → s.d.sch.engCyc < cycNo s.d → s.d.sch.tko = none → s.d.sch.det = none → s.d.sch.closed = none →
        ∃ t, exec .inputGap s = .next t ∧ t.nv = s.nv ∧ t.d.sch.det = some 2 ∧ rdB t.d Reg.SCH_STAT_INPUT_GAP = true ∧
        t.d.mor.raised.map (·.src) = s.d.mor.raised.map (·.src) ++ [Src.SCH_INPUT_GAP])) ∧
    (isStandby s.d = true → pstate s.d = psENGAGED → s.d.sch.wasChanged = false → s.d.sch.digests = some (cyc, gs, cs) →
      cyc + 1 = cycNo s.d → s.d.sch.rsGrp = [] → s.d.sch.rsCls = [] →
      ((∀ g ∈ digestGroups s.d, groupDiffers s.d cyc gs hs g = false) → (∀ c ∈ maskClasses s.d, cs.getD c 0 = classes.getD c 0) →
        ∃ t, exec (.digestRx cyc hs classes) s = .next t ∧
        t.nv = s.nv ∧ t.d.sch.equal = s.d.sch.equal + 1 ∧ t.d.sch.rsGrp = [] ∧ t.d.sch.rsCls = [] ∧ t.d.regs = s.d.regs)) ∧
    (isStandby s.d = true → pstate s.d ≠ psDETACHED → exec (.resyncRx r) s =
      .next (s.withDev { s.d with sch := { s.d.sch with install := s.d.sch.install ++ [r] } })) ∧
    (pairWork s.d = true → isActive s.d = true → s.d.sch.rsGrp = [] → s.d.sch.rsCls = [] →
      (digestChans s.d slot).isEmpty = false → slot < 256 → ∃ t, exec (.rsReqRx [slot] []) s = .next t ∧ t.nv = s.nv ∧
      t.d.sch.rsGrp = [slot] ∧ rdB t.d Reg.SCH_STAT_RESYNC_EV = true ∧ rd t.d Reg.SCH_RS_LAST_GROUP = slot ∧
      t.d.sch.rsK = if s.d.k % 20 = 0 then s.d.k + 1 else s.d.k) ∧
    (paired s.d = true → rdB s.d Reg.SCH_STAT_OWN = false → exec (.savedRx v) s = .next (s.withDev (wr { s.d with
      sch := { s.d.sch with saved := some v } } Reg.SCH_SAVED_CYC_CYC v.cyc))) ∧
    (isStandby s.d = true → pstate s.d ≠ psDETACHED → kind ≤ 2 → slot < 256 → total < 2 ^ 32 → s.d.sch.bulk = [] →
      bs.length < total → ∃ t, exec (.bulkRx kind slot total false bs) s = .next t ∧ t.nv = s.nv ∧ t.d.firn = s.d.firn ∧
      SMap.find t.d.sch.bulk (bulkKey kind slot total) = some bs)

/-- R375 to R377, R380, R394, R396 to R399: the roles of a pair. A device whose role calls for ownership claims it, and
owns once the sample finds the partner's line high; an ENGAGED device takes over from a partner in safe state, or from a
lost one where the network corroborates the loss; a device left alone takes up its role after `WAIT_MS`; a join fails
after 10 s and is tried again after one; DETACH ends an ENGAGED device's work at its commit point. -/
def Obligations.PairRoles : Prop :=
  ∀ (s : State) (req : Requester) (w at_ : Nat) (corr low : Bool),
    (mayClaim (wrB s.d Reg.SCH_STAT_PEER false) = true → ∃ t, exec .ownershipClaim s = .next t ∧ t.nv = s.nv ∧
      rdB t.d Reg.SCH_STAT_OWN = true ∧ t.d.sch.claim = true ∧ ownsGate t.d = false ∧ rdB t.d Reg.SCH_STAT_PEER = false) ∧
    (mayClaim (wrB s.d Reg.SCH_STAT_PEER false) = false →
      exec .ownershipClaim s = .next (s.withDev (wrB s.d Reg.SCH_STAT_PEER false))) ∧
    (s.d.sch.claim = true → s.d.sch.start = false → isStandby s.d = true → pstate s.d = psENGAGED →
      s.d.sch.tko.isSome = true → exec (.claimSample false) s = .next (s.withDev { wrB s.d Reg.SCH_STAT_PEER false with
        sch := { s.d.sch with claim := false } })) ∧
    (s.d.sch.claim = true → paired s.d = true → rd s.d Reg.SCH_STAT_RANK = 1 → s.d.sch.start = false → ∃ t,
      exec (.claimSample true) s = .next t ∧ t.nv = s.nv ∧ rdB t.d Reg.SCH_STAT_OWN = false ∧ t.d.sch.claim = false ∧
      rdB t.d Reg.SCH_STAT_SPLIT_EV = true ∧ rdB t.d Reg.NET_STAT_CHOP_ON = false) ∧
    (s.d.sch.claim = false → exec (.claimSample low) s = .next s) ∧
    (isStandby s.d = true → pstate s.d = psENGAGED → s.d.sch.tko = none → inSafe s.d = false →
      (s.d.sch.peer.safe = true → exec (.takeover corr low) s = .next (s.withDev { wrB s.d Reg.SCH_STAT_PEER low with
        sch := { s.d.sch with tko := some 1 } })) ∧
      (s.d.sch.peer.safe = false → statusSafe s.d = false → hbOk s.d = false →
        exec (.takeover true false) s = .next (s.withDev { wrB s.d Reg.SCH_STAT_PEER false with
          sch := { s.d.sch with tko := some 0 } }) ∧
        exec (.takeover true true) s = .next (s.withDev (wrB s.d Reg.SCH_STAT_PEER true)))) ∧
    (s.d.sch.start = true → s.d.sch.up = false → s.d.sch.startK + 20 * rd s.d Reg.SCH_CFG_WAIT_MS ≤ s.d.k →
      (∃ t, exec (.waitMsTimeout false) s = .next t ∧ t.nv = s.nv ∧ t.d.sch.start = true ∧ t.d.sch.waitOver = true ∧
        role t.d = role s.d) ∧
      (isCalved s.d = false → ∃ t, exec (.waitMsTimeout true) s = .next t ∧ t.nv = s.nv ∧ t.d.sch.start = false ∧
        role t.d = roSTANDBY ∧ pstate t.d = psDETACHED) ∧
      (isCalved s.d = true → ∃ t, exec (.waitMsTimeout true) s = .next t ∧ t.nv = s.nv ∧ role t.d = role s.d)) ∧
    (isStandby s.d = true → pstate s.d = psJOINING → s.d.sch.failK = none → s.d.sch.toEng = false →
      s.d.sch.joinK + 200000 ≤ s.d.k → ∃ t, exec .joinTimeout s = .next t ∧ t.nv = s.nv ∧
      rdB t.d Reg.SCH_STAT_JOIN_FAIL = true ∧ rd t.d Reg.SCH_STAT_JOIN_CAUSE = 3 ∧ t.d.sch.failK = some s.d.k) ∧
    (s.d.sch.failK = some at_ → at_ + 20000 ≤ s.d.k → rdB s.d Reg.SCH_CTRL_JOIN_EN = true → isStandby s.d = true →
      pstate s.d = psJOINING → ∃ t, exec .joinRetry s = .next t ∧ t.nv = s.nv ∧ t.d.sch.failK = none ∧
      t.d.sch.joinK = s.d.k ∧ pstate t.d = psJOINING) ∧
    (accessErr s.d req 0x100C0000 true = 0 →
      (bit w 2 = false → isStandby s.d = true → pstate s.d = psENGAGED → ∃ t, exec (.detach req w) s = .next t ∧
        t.nv = s.nv ∧ t.d.sch = { s.d.sch with det := some 3 } ∧ pstate t.d = psENGAGED) ∧
      (bit w 1 = false → ∃ t, exec (.schCntClr req w) s = .next t ∧ t.nv = s.nv ∧ t.d.sch = s.d.sch ∧
        rd t.d Reg.SCH_HB_MISS = 0 ∧ rd t.d Reg.SCH_HB_LOSS = 0 ∧ rd t.d Reg.SCH_RS_CNT_GROUPS = 0 ∧
        rd t.d Reg.SCH_RS_CNT_CLASSES = 0 ∧ rd t.d Reg.SCH_LANE_ERR_CNT = 0)) ∧
    (∃ t, exec .pairPeerNFall s = .next t ∧ t.nv = s.nv ∧ t.d.regs = (wrB s.d Reg.SCH_STAT_PEER true).regs ∧
      t.d.sch.quiet = (s.d.sch.quiet || paired s.d && inSafe s.d))

/-- R404 to R406, R411, R58, R418: a filtered level is one input's bit and no other's; an input high in its source's
off-pulse, or low through a third on-phase while its partners read closed, locks its function out, and one that follows
its source clears both findings; a discrepancy that stands locks the function out and one that does not changes nothing; a
reset press of 0.1 s to 2.5 s waits for the verdict, any other is rejected, and one before the input was open for 100 ms
does nothing; while ARMED, the commissioning input's first press is kept and a second in time confirms. -/
def Obligations.SafeInputs : Prop :=
  ∀ (s : State) (i src high low us gap subt : Nat) (level : Bool) (f : SafeFuncRec),
    (i < 24 → ∃ t, exec (.safeInputFiltered i level) s = .next t ∧
      t = s.withDev { s.d with safe := { s.d.safe with filt := t.d.safe.filt } } ∧ bit t.d.safe.filt i = level ∧
      ∀ j, j ≠ i → bit t.d.safe.filt j = bit s.d.safe.filt j) ∧
    (((img s.d).safeIns.filter (fun r => (r.typ == 0 || r.typ == 2) && r.tp == src)).map (·.input) = [i] →
      (bit high i = true → i ∉ s.d.safe.xshort → fnsOfIn s.d i = [f] → f.func < 32 → fnState s.d f.func ≠ 0 → ∃ t,
        exec (.tpulseOffPulse src high low) s = .next t ∧ t.nv = s.nv ∧ i ∈ t.d.safe.xshort ∧ fnState t.d f.func = fnLOCKED ∧
        rd t.d (Reg.SAFE_FUNC_CAUSE f.func) = 3) ∧
      (bit high i = false → bit low i = true → SMap.get 0 s.d.safe.low i = 2 → fnsOfIn s.d i = [f] → f.func < 32 →
        fnState s.d f.func ≠ 0 → ((fnIns f).filter (· != i)).all (fun j => bit s.d.safe.filt j) = true → ∃ t,
        exec (.tpulseOffPulse src high low) s = .next t ∧ t.nv = s.nv ∧ i ∈ t.d.safe.stuck ∧ i ∉ t.d.safe.xshort ∧
        fnState t.d f.func = fnLOCKED ∧ rd t.d (Reg.SAFE_FUNC_CAUSE f.func) = 4) ∧
      (bit high i = false → bit low i = false → ∃ t, exec (.tpulseOffPulse src high low) s = .next t ∧ t.nv = s.nv ∧
        t.d.regs = s.d.regs ∧ i ∉ t.d.safe.xshort ∧ i ∉ t.d.safe.stuck ∧ SMap.get 0 t.d.safe.low i = 0)) ∧
    (∀ kind, fnRec s.d f.func = some f → f.func < 32 → fnState s.d f.func ≠ 0 →
      (discStands s.d f kind = true → ∃ t, exec (.safeDiscrepancy f.func kind) s = .next t ∧ t.nv = s.nv ∧
        fnState t.d f.func = fnLOCKED ∧ rd t.d (Reg.SAFE_FUNC_CAUSE f.func) = (if kind = 4 then 6 else 2) ∧
        rdB t.d Reg.SAFE_STAT_FAULT_EV = true ∧ t.d.mor.raised.map (·.src) = s.d.mor.raised.map (·.src) ++
          [Src.SAFE_DEMAND, Src.SAFE_IN_FAULT]) ∧
      (discStands s.d f kind = false → exec (.safeDiscrepancy f.func kind) s = .next s)) ∧
    (src < 4 → ∃ t, exec (.tpulseReadbackFault src) s = .next t ∧ t.nv = s.nv ∧
      t.d.mor.raised.map (·.src) = s.d.mor.raised.map (·.src) ++ [Src.SAFE_TP_FAULT] ∧
      ∀ g ∈ (img s.d).safeFuncs, g.func < 32 → fnState s.d g.func ≠ 0 →
        (∃ r ∈ (img s.d).safeIns, r.tp = src ∧ r.input ∈ fnIns g) →
        fnState t.d g.func = fnLOCKED ∧ rd t.d (Reg.SAFE_FUNC_CAUSE g.func) = 7) ∧
    ((img s.d).safeIns.any (fun r => r.input == i && r.typ == 3) = true →
      (gap < 100000 → exec (.safeResetAction i us gap subt) s = .next s) ∧
      (100000 ≤ gap → 100000 ≤ us → us ≤ 2500000 → (img s.d).creset ≠ i → exec (.safeResetAction i us gap subt) s =
        .next (s.withDev { s.d with safe := { s.d.safe with resets := s.d.safe.resets ++ [(i, us)] } })) ∧
      (100000 ≤ gap → (us < 100000 ∨ 2500000 < us) → (img s.d).creset ≠ i → ∃ t,
        exec (.safeResetAction i us gap subt) s = .next t ∧ t.nv = s.nv ∧ t.d.safe = s.d.safe ∧
        rdB t.d Reg.SAFE_STAT_RESET_REJ = true ∧
        rd t.d Reg.SAFE_CNT_RESET_REJ = satAdd 16 (rd s.d Reg.SAFE_CNT_RESET_REJ) 1) ∧
      (100000 ≤ gap → 100000 ≤ us → us ≤ 2500000 → (img s.d).creset = i → rd s.d Reg.SAFE_STAT_CONF = 1 →
        confirmsElsewhere s.d = false →
        s.d.safe.armT + us * 1000 ≤ tickNs s.d + subt → tickNs s.d + subt ≤ s.d.safe.armT + 30000000000 →
        (s.d.safe.step1 = none → ∃ t, exec (.safeResetAction i us gap subt) s = .next t ∧ t.d.regs = s.d.regs ∧
          t.d.safe.step1 = some (tickNs s.d + subt)) ∧
        (∀ u, s.d.safe.step1 = some u → isActive s.d = false → u + 1000000000 + us * 1000 ≤ tickNs s.d + subt →
          tickNs s.d + subt ≤ u + 5000000000 + us * 1000 → ∃ t, exec (.safeResetAction i us gap subt) s = .next t ∧
          t.nv = s.nv ∧ rd t.d Reg.SAFE_STAT_CONF = 2 ∧ t.d.safe.recDue = true ∧ t.d.safe.step1 = none ∧
          t.d.safe.conf = some (rd s.d Reg.FIRN_SAFE_CRC_CHECK, sectDigest (img s.d)))))

/-- R407, R409, R413: an evaluation that does not run turns every safe output off; one that runs commands each output on
exactly where R413 demands it, and takes every function through the table of R409; a missing verdict turns every output
off. -/
def Obligations.SafetyVerdict : Prop :=
  ∀ (s : State) (cfg : Option Nat) (r : SafeFuncRec),
    (evalRuns s.d = false → ∃ t, exec (.safetyEvaluation cfg) s = .next t ∧ t.nv = s.nv ∧ t.pending = s.pending ∧
      rdB t.d Reg.SAFE_STAT_EVAL = false ∧ ∀ n, n < 8 → (sout t.d n).on = false ∧ (sout t.d n).want = false) ∧
    (evalRuns s.d = true → ∃ t, exec (.safetyEvaluation cfg) s = .next t ∧ t.nv = s.nv ∧ t.pending = s.pending ∧
      rdB t.d Reg.SAFE_STAT_EVAL = confirmed s.d ∧ t.d.safe.evalK = some s.d.k ∧ t.d.safe.resets = [] ∧
      (∀ n, n < 8 → (sout t.d n).want = outDemand t.d n) ∧
      (confirmed s.d = true → s.d.safe.unlockReq = none → r.func < 32 → fnRec s.d r.func = some r →
        (fnState s.d r.func = fnRUN → fnState t.d r.func = if fnSatisfied s.d r then fnRUN else fnDEMAND) ∧
        (fnState s.d r.func = fnDEMAND → r.kind ≠ 3 →
          fnState t.d r.func = if fnSatisfied s.d r then fnWAIT else fnDEMAND) ∧
        (fnState s.d r.func = fnDEMAND → r.kind = 3 →
          fnState t.d r.func = if !handOn s.d r 0 && !handOn s.d r 1 then fnWAIT else fnDEMAND) ∧
        (fnState s.d r.func = fnWAIT → (∃ p ∈ s.d.safe.resets, p.1 = r.reset) → fnSatisfied s.d r = true →
          fnFaulty s.d r = false → fnState t.d r.func = fnRUN) ∧
        (fnState s.d r.func = fnWAIT → r.kind ≠ 3 → fnSatisfied s.d r = false → fnState t.d r.func = fnDEMAND) ∧
        (fnState s.d r.func = fnWAIT → r.kind ≠ 3 → fnSatisfied s.d r = true → (∀ p ∈ s.d.safe.resets, p.1 ≠ r.reset) →
          fnState t.d r.func = fnWAIT) ∧
        (fnState s.d r.func = fnWAIT → r.kind = 3 → fnSatisfied s.d r = true → (∀ p ∈ s.d.safe.resets, p.1 ≠ r.reset) →
          fnState t.d r.func = if handSync (handTimes s.d r) then fnRUN else fnWAIT))) ∧
    (inBoot s.d = false → isCalved s.d = false → s.d.safe.evalK ≠ some s.d.k → ∃ t, exec .safeEvalLate s = .next t ∧
      t.nv = s.nv ∧ rdB t.d Reg.SAFE_STAT_LATE_EV = true ∧ (∀ n, n < 8 → (sout t.d n).on = false) ∧
      t.d.mor.raised.map (·.src) = s.d.mor.raised.map (·.src) ++ [Src.SAFE_EVAL_LATE]) ∧
    (s.d.safe.evalK = some s.d.k → exec .safeEvalLate s = .next s)

/-- R412 to R416: a due test of an output opens its next switch; a test whose readback shows off is passed, one whose does
not locks the output out, and so does a switch that disagrees with its command; a brake test falls due by time or by
command, passes after 1 s at rest, and locks the axis out where the axis moved, as do an overdue test and a brake whose
feedback does not follow; an unlock request waits for the verdict, and a relock takes the lock output's demand away. -/
def Obligations.SafeOutputsAndBrakes : Prop :=
  ∀ (s : State) (req : Requester) (w n sw : Nat) (o : SafeOutRec) (b : BrakeRec) (f : SafeFuncRec), n < 8 →
    ((img s.d).safeOuts.find? (fun o => o.out == n) = some o → (sout s.d n).on = true → (∀ m, m < 8 → (sout s.d m).test = 0) →
      (sout s.d n).onK + 20000 * o.testS ≤ s.d.k → ∃ t, exec (.safeOutputTest n) s = .next t ∧ t.nv = s.nv ∧
      (sout t.d n).test = (sout s.d n).next ∧ (sout t.d n).on = true ∧ rdFBit t.d Reg.SAFE_OUT_READBACK n = false ∧
      rd t.d Reg.SAFE_OUT_DEMAND = rd s.d Reg.SAFE_OUT_DEMAND ∧ ∀ m, m ≠ n → sout t.d m = sout s.d m) ∧
    ((sout s.d n).test = 1 ∨ (sout s.d n).test = 2 →
      (∃ t, exec (.safeOutputTestEnd n true) s = .next t ∧ t.nv = s.nv ∧ (sout t.d n).test = 0 ∧
        (sout t.d n).next = 3 - (sout s.d n).test ∧ rdFBit t.d Reg.SAFE_OUT_READBACK n = true ∧ t.d.mor = s.d.mor ∧
        rd t.d Reg.SAFE_TEST_CNT_FAILED = rd s.d Reg.SAFE_TEST_CNT_FAILED) ∧
      (∃ t, exec (.safeOutputTestEnd n false) s = .next t ∧ t.nv = s.nv ∧ rdFBit t.d Reg.SAFE_OUT_LOCKOUT n = true ∧
        (sout t.d n).on = false ∧ (sout t.d n).want = false ∧
        rd t.d Reg.SAFE_TEST_CNT_FAILED = satAdd 16 (rd s.d Reg.SAFE_TEST_CNT_FAILED) 1 ∧
        t.d.mor.raised.map (·.src) = s.d.mor.raised.map (·.src) ++ [Src.SAFE_OUT_FAULT])) ∧
    (rdFBit s.d Reg.SAFE_OUT_LOCKOUT n = false → ∃ t, exec (.safeReadbackFault n sw) s = .next t ∧ t.nv = s.nv ∧
      rdFBit t.d Reg.SAFE_OUT_LOCKOUT n = true ∧ rdFBit t.d Reg.SAFE_OUT_DEMAND n = false ∧ (sout t.d n).on = false ∧
      rdB t.d Reg.SAFE_STAT_OUT_FAULT_EV = true) ∧
    (brakeRec s.d n = some b → rdB s.d (Reg.SAFE_BRAKE_LOCKOUT n) = false →
      (SMap.get 0 s.d.safe.brakeDue n = 0 → SMap.get 0 s.d.safe.brakePass n + 72000000 * b.testH ≤ s.d.k →
        exec (.brakeTestDue n) s = .next (s.withDev
          { s.d with safe := { s.d.safe with brakeDue := SMap.set 0 s.d.safe.brakeDue n (s.d.k + 1) } })) ∧
      (s.d.k < SMap.get 0 s.d.safe.brakePass n + 72000000 * b.testH → exec (.brakeTestDue n) s = .next s) ∧
      (∃ t, exec (.brakeFeedbackFault n) s = .next t ∧ t.nv = s.nv ∧ axState t.d n = axLOCKED ∧ brakeOn t.d n = false ∧
        rdB t.d (Reg.SAFE_BRAKE_LOCKOUT n) = true ∧ rd t.d (Reg.SAFE_BRAKE_CAUSE n) = 1 ∧
        t.d.mor.raised.map (·.src) = s.d.mor.raised.map (·.src) ++ [Src.SAFE_BRAKE_FAIL]) ∧
      (axState s.d n = axTEST → b.moveLim * 256 ≤ ((axis s.d n).pos - (SMap.find s.d.safe.brakePos n).getD 0).natAbs → ∃ t,
        exec (.brakeTestEnd n) s = .next t ∧ t.nv = s.nv ∧ axState t.d n = axLOCKED ∧ rd t.d (Reg.SAFE_BRAKE_RESULT n) = 2 ∧
        rd t.d (Reg.SAFE_BRAKE_CAUSE n) = 2 ∧ rdB t.d (Reg.SAFE_BRAKE_LOCKOUT n) = true) ∧
      (axState s.d n = axTEST → ((axis s.d n).pos - (SMap.find s.d.safe.brakePos n).getD 0).natAbs < b.moveLim * 256 →
        (SMap.get 0 s.d.safe.brakeT n + 20000 ≤ s.d.k → ∃ t, exec (.brakeTestEnd n) s = .next t ∧ t.nv = s.nv ∧
          axState t.d n = axOFF ∧ rd t.d (Reg.SAFE_BRAKE_RESULT n) = 1 ∧ rd t.d (Reg.SAFE_BRAKE_STATE n) = 0 ∧
          SMap.get 0 t.d.safe.brakeDue n = 0 ∧ SMap.get 0 t.d.safe.brakePass n = s.d.k ∧ t.d.axis = s.d.axis) ∧
        (s.d.k < SMap.get 0 s.d.safe.brakeT n + 20000 → exec (.brakeTestEnd n) s = .next s))) ∧
    (0 < SMap.get 0 s.d.safe.brakeDue n → SMap.get 0 s.d.safe.brakeDue n - 1 + 72000000 ≤ s.d.k → ∃ t,
      exec (.brakeTestOverdue n) s = .next t ∧ t.nv = s.nv ∧ axState t.d n = axLOCKED ∧ brakeOn t.d n = false ∧
      rdB t.d (Reg.SAFE_BRAKE_LOCKOUT n) = true ∧ rd t.d (Reg.SAFE_BRAKE_CAUSE n) = 3) ∧
    (s.served req 0x100D0008 → forwards s.d req = false →
      (bits w 1 3 = n → bit w 8 = false → bit w 9 = false → brakeRec s.d n = some b →
        rdB s.d (Reg.SAFE_BRAKE_LOCKOUT n) = false → SMap.get 0 s.d.safe.brakeDue n = 0 → ∃ t,
        exec (.brakeGo req w) s = .next t ∧ t.nv = s.nv ∧ SMap.get 0 t.d.safe.brakeDue n = s.d.k + 1 ∧ t.d.resp.err = 0 ∧
        rd t.d Reg.SAFE_CTRL_AXIS = n) ∧
      (bit w 0 = false → bit w 9 = false → fnRec s.d (bits w 10 5) = some f → f.kind = 2 → f.lockOut ≠ 0xFF →
        confirmed s.d = true → evalRuns s.d = true → ∃ t, exec (.unlockGo req w) s = .next t ∧ t.nv = s.nv ∧
        t.d.safe = { s.d.safe with unlockReq := some (bits w 10 5, req) } ∧ t.d.resp.err = 0) ∧
      (bit w 0 = false → bit w 8 = false → bits w 10 5 ∈ s.d.safe.unlocked → fnRec s.d (bits w 10 5) = some f →
        f.lockOut < 8 → ∃ t, exec (.relock req w) s = .next t ∧ t.nv = s.nv ∧ bits w 10 5 ∉ t.d.safe.unlocked ∧
        (sout t.d f.lockOut).want = false ∧ (sout t.d f.lockOut).on = false))

/-- R429, R430: a START in a zone in COMMISSION, PRODUCTION or SERVICE, no covering function in DEMAND or LOCKED, the axis
not in TEST, STOPPING or LOCKED, no latched fault, its gains set and a mode it can run, is accepted and waits for its
commit point, and any other START is refused and flagged; STOP is accepted; CLEAR is accepted from OFF in a maintenance
mode and refused and flagged elsewhere. At its commit point an accepted START of an axis at rest arms it or, above
`STILL_RPM`, measures; a STOP of an axis that runs or is being started stops it; and a CLEAR clears the latched faults. -/
def Obligations.AxisCommands : Prop :=
  ∀ (s : State) (req : Requester) (w n : Nat) (r : AxisRec), n < 8 → s.served req (0x100E0000 + 0x100 * n) →
    axisRec s.d n = some r →
    ((zmode s.d r.zone = modeCommission ∨ zmode s.d r.zone = modeProduction ∨ zmode s.d r.zone = modeService) →
      zoneDemanded s.d r.zone = false → axState s.d n ≠ axTEST → axState s.d n ≠ axSTOPPING → axState s.d n ≠ axLOCKED →
      rdB s.d (Reg.AXIS_STAT_ABNORMAL_KE n) = false → rdB s.d (Reg.AXIS_STAT_FAULT n) = false →
      rd s.d (Reg.AXIS_GAIN_I_KP n) ≠ 0 → rd s.d (Reg.AXIS_GAIN_S_KP n) ≠ 0 →
      bits w 4 2 ≠ 0 → (bits w 4 2 = 3 → r.ainF ≠ 0xFF) →
      exec (.axisStart req n w) s =
        .next (s.withDev (okResp (stage s.d req (.axis n ((w / 16 * 16 + 1) % 2 ^ 32))))) ∧
      (ownsGate s.d = true → axState s.d n = axOFF →
        axState (axisCommit s.d n ((w / 16 * 16 + 1) % 2 ^ 32)) n =
          if (axis s.d n).spd.natAbs < 10 * r.stillRpm then (if hasBrake s.d n then axARMING else axRUN) else axMEASURE)) ∧
    ((zmode s.d r.zone ≠ modeCommission ∧ zmode s.d r.zone ≠ modeProduction ∧ zmode s.d r.zone ≠ modeService) ∨
      zoneDemanded s.d r.zone = true ∨ axState s.d n = axTEST ∨ axState s.d n = axSTOPPING ∨ axState s.d n = axLOCKED ∨
      rdB s.d (Reg.AXIS_STAT_ABNORMAL_KE n) = true ∨ rdB s.d (Reg.AXIS_STAT_FAULT n) = true ∨
      rd s.d (Reg.AXIS_GAIN_I_KP n) = 0 ∨ rd s.d (Reg.AXIS_GAIN_S_KP n) = 0 ∨ bits w 4 2 = 0 ∨
      (bits w 4 2 = 3 ∧ r.ainF = 0xFF) → exec (.axisStart req n w) s =
      .next (s.withDev (refuseW (wrB s.d (Reg.AXIS_STAT_REFUSED n) true) req (0x100E0000 + 0x100 * n)))) ∧
    (exec (.axisStop req n w) s = .next (s.withDev (okResp (stage s.d req (.axis n ((w / 16 * 16 + 2) % 2 ^ 32)))))) ∧
    ((axState s.d n = axRUN ∨ axState s.d n = axARMING ∨ axState s.d n = axMEASURE ∨ axState s.d n = axSHORT) →
      axState (axisCommit s.d n ((w / 16 * 16 + 2) % 2 ^ 32)) n = axSTOPPING) ∧
    (isMaint (zmode s.d r.zone) = true → axState s.d n = axOFF → exec (.axisClear req n w) s =
      .next (s.withDev (okResp (stage s.d req (.axis n ((w / 16 * 16 + 3) % 2 ^ 32))))) ∧
      rdB (axisCommit s.d n ((w / 16 * 16 + 3) % 2 ^ 32)) (Reg.AXIS_STAT_ABNORMAL_KE n) = false ∧
      rdB (axisCommit s.d n ((w / 16 * 16 + 3) % 2 ^ 32)) (Reg.AXIS_STAT_FAULT n) = false) ∧
    (isMaint (zmode s.d r.zone) = false ∨ axState s.d n ≠ axOFF → exec (.axisClear req n w) s =
      .next (s.withDev (refuseW (wrB s.d (Reg.AXIS_STAT_REFUSED n) true) req (0x100E0000 + 0x100 * n))))

/-- R426, R429, R431, R434, R448: a carrier centre of an axis at rest takes the encoder's position, in its direction and
across its wrap, where the CRC is right, and counts a failed read; a measurement ends in winding short where the clamp was
reached, and faults where phases and encoder disagree; at standstill a shorted axis arms with its brake driven on and a
stopping one drops its brake, and the feedback completes either; a slow stop drops the brake and says so; and a force
input silent for 1 ms is the force fault. (An axis without a brake record skips the feedback, and the encoder's speed is
an operand: log entries 44 and 40.) -/
def Obligations.AxisEvents : Prop :=
  ∀ (s : State) (n emf : Nat) (raw : List Int) (enc : List Byte) (spd : Int) (seqOk : Bool) (r : AxisRec), n < 8 →
    axisRec s.d n = some r →
    (axState s.d n = axOFF → (∀ c, c < 8 → (conv s.d c).trig ≠ 3) →
      (enc.length = 4 → encCrc (enc.take 3) = beAt enc 3 1 → (axis s.d n).encOk = true → ∃ t,
        exec (.axisPwmPeriod n raw enc spd) s = .next t ∧ t.nv = s.nv ∧ t.pending = s.pending ∧ axState t.d n = axOFF ∧
        (axis t.d n).raw = beAt enc 0 3 ∧ (axis t.d n).spd = spd ∧ (axis t.d n).encBad = 0 ∧
        (axis t.d n).pos = (axis s.d n).pos + (if r.encInv then -1 else 1) *
          toS 24 (beAt enc 0 3 + 2 ^ 24 - (axis s.d n).raw) ∧
        rd t.d (Reg.AXIS_POS_POS n) = ofS 32 ((axis t.d n).pos.fdiv 256) ∧
        rd t.d (Reg.AXIS_SPEED_SPEED n) = ofS 32 spd) ∧
      (enc.length ≠ 4 → ∃ t, exec (.axisPwmPeriod n raw enc spd) s = .next t ∧ t.nv = s.nv ∧
        (axis t.d n).encBad = (axis s.d n).encBad + 1 ∧ (axis t.d n).pos = (axis s.d n).pos ∧
        rd t.d (Reg.AXIS_POS_POS n) = rd s.d (Reg.AXIS_POS_POS n))) ∧
    (axState s.d n = axMEASURE →
      exec (.axisMeasureEnd n emf true seqOk) s = .next (s.withDev (wr s.d (Reg.AXIS_STAT_STATE n) 2)) ∧
      (∃ t, exec (.axisMeasureEnd n emf false false) s = .next t ∧ t.nv = s.nv ∧ axState t.d n = axSTOPPING ∧
        rd t.d (Reg.AXIS_STAT_CAUSE n) = 7 ∧ rdB t.d (Reg.AXIS_STAT_FAULT n) = true ∧
        rdB t.d (Reg.AXIS_STAT_ENC_EV n) = true ∧
        t.d.mor.raised.map (·.src) = s.d.mor.raised.map (·.src) ++ [Src.AXIS_ENC])) ∧
    ((axis s.d n).spd.natAbs < 10 * r.stillRpm → hasBrake s.d n = true →
      (axState s.d n = axSHORT → ownsGate s.d = true → rdB s.d (Reg.SAFE_BRAKE_LOCKOUT n) = false → ∃ t,
        exec (.axisStandstill n) s = .next t ∧ t.nv = s.nv ∧ axState t.d n = axARMING ∧ brakeOn t.d n = true ∧
        (axis t.d n).hold = (axis s.d n).pos ∧ (axis t.d n).iRef = 0) ∧
      (axState s.d n = axSTOPPING → ∃ t, exec (.axisStandstill n) s = .next t ∧ t.nv = s.nv ∧ axState t.d n = axSTOPPING ∧
        brakeOn t.d n = false ∧ (axis t.d n).fbWait = true)) ∧
    (10 * r.stillRpm ≤ (axis s.d n).spd.natAbs → exec (.axisStandstill n) s = .next s) ∧
    (axState s.d n = axARMING → brakeOn s.d n = true → exec (.brakeFbFollows n) s =
      .next (s.withDev (wr (wrB s.d (Reg.AXIS_STAT_START_EV n) true) (Reg.AXIS_STAT_STATE n) axRUN))) ∧
    (axState s.d n = axSTOPPING → (axis s.d n).fbWait = true → brakeOn s.d n = false → ∃ t,
      exec (.brakeFbFollows n) s = .next t ∧ t.nv = s.nv ∧ axState t.d n = axOFF ∧
      rdB t.d (Reg.AXIS_STAT_STOP_EV n) = true ∧ axis t.d n = axisClear (axis s.d n)) ∧
    (axState s.d n = axSTOPPING → (axis s.d n).slow = false → (axis s.d n).fbWait = false →
      (axis s.d n).stopK + 20 * r.stopMs ≤ s.d.k → ∃ t, exec (.axisStopSlow n) s = .next t ∧ t.nv = s.nv ∧
      brakeOn t.d n = false ∧ axState t.d n = axSTOPPING ∧ rdB t.d (Reg.AXIS_STAT_SLOW_EV n) = true ∧
      (axis t.d n).slow = true ∧ t.d.mor.raised.map (·.src) = s.d.mor.raised.map (·.src) ++ [Src.AXIS_STOP_SLOW]) ∧
    (∀ x t0, r.ainF ≠ 0xFF → SMap.find s.d.aux.latest r.ainF = some (x, t0) → t0 + 1000000 ≤ tickNs s.d →
      axState s.d n = axRUN → ∃ t, exec (.axisForceTimeout n) s = .next t ∧ t.nv = s.nv ∧ axState t.d n = axSTOPPING ∧
      rd t.d (Reg.AXIS_STAT_CAUSE n) = 8 ∧ rdB t.d (Reg.AXIS_STAT_FORCE_EV n) = true ∧
      t.d.mor.raised.map (·.src) = s.d.mor.raised.map (·.src) ++ [Src.AXIS_FORCE])

/-- R440 to R443, R445 to R449: a tick trigger or `SW_GO` starts a pass at its first entry where none runs, and one that
finds a pass running is late, or waits one deep and is then dropped and counted; a conversion that is not its entry's last
adds its calibrated result to the sum and is the input's latest; the last of the last entry writes the record and ends the
pass; APPLY installs a staged copy that breaks no rule at once, or waits for the pass, and is refused where the copy
breaks one. -/
def Obligations.AuxConverters : Prop :=
  ∀ (s : State) (req : Requester) (c w subt : Nat) (x : Int), c < 8 →
    (rdB s.d (Reg.AUX_CONV_STAT_APPLY_PEND c) = false → (conv s.d c).words ≠ [] →
      ((conv s.d c).trig = 2 → convBusy s.d c = false → ∃ t, exec (.auxTickTrigger c) s = .next t ∧ t.nv = s.nv ∧
        convBusy t.d c = true ∧ convEntry t.d c = 0 ∧ (conv t.d c).cnt = 0 ∧ (conv t.d c).sum = 0 ∧
        (conv t.d c).words = (conv s.d c).words ∧ (conv t.d c).cal = (conv s.d c).words.map
          (fun v => auxCalWord s.d (auxEnt v).input (auxEnt v).gain) ∧ (conv t.d c).late = false) ∧
      ((conv s.d c).trig = 2 → convBusy s.d c = true → (conv s.d c).late = false → ∃ t,
        exec (.auxTickTrigger c) s = .next t ∧ t.nv = s.nv ∧ (conv t.d c).late = true ∧ convBusy t.d c = true ∧
        rdB t.d (Reg.AUX_CONV_STAT_LATE_EV c) = true ∧
        rd t.d (Reg.AUX_CONV_CNT_LATE c) = satAdd 16 (rd s.d (Reg.AUX_CONV_CNT_LATE c)) 1) ∧
      (accessErr s.d req (0x100F0100 + 0x20 * c) true = 0 → (conv s.d c).trig = 0 → bit w 30 = false → bits w 8 6 ≤ 44 →
        bits w 16 5 ≤ 16 →
        (convBusy s.d c = false → ∃ t, exec (.swGo req c w) s = .next t ∧ t.nv = s.nv ∧ convBusy t.d c = true ∧
          convEntry t.d c = 0 ∧ (conv t.d c).cnt = 0) ∧
        (convBusy s.d c = true → rdB s.d (Reg.AUX_CONV_STAT_PEND c) = false → ∃ t, exec (.swGo req c w) s = .next t ∧
          t.nv = s.nv ∧ t.d.aux = s.d.aux ∧ rdB t.d (Reg.AUX_CONV_STAT_PEND c) = true) ∧
        (convBusy s.d c = true → rdB s.d (Reg.AUX_CONV_STAT_PEND c) = true → ∃ t, exec (.swGo req c w) s = .next t ∧
          t.nv = s.nv ∧ t.d.aux = s.d.aux ∧ rdB t.d (Reg.AUX_CONV_STAT_OVR_EV c) = true ∧
          rd t.d (Reg.AUX_CONV_CNT_OVR c) = satAdd 16 (rd s.d (Reg.AUX_CONV_CNT_OVR c)) 1))) ∧
    (convBusy s.d c = true → s.d.aux.run = none → (img s.d).axes = [] → (img s.d).bus = none →
      (auxEnt ((conv s.d c).words.getD (convEntry s.d c) 0)).ilv = false →
      ((conv s.d c).cnt + 1 ≠ (auxEnt ((conv s.d c).words.getD (convEntry s.d c) 0)).count → ∃ t,
        exec (.auxConversionDone c x subt) s = .next t ∧ t.nv = s.nv ∧ t.d.regs = s.d.regs ∧
        (conv t.d c).cnt = (conv s.d c).cnt + 1 ∧
        (conv t.d c).sum = (conv s.d c).sum +
          sat16 (auxCalibrate (sat16 x) ((conv s.d c).cal.getD (convEntry s.d c) 0x4000)) ∧
        SMap.find t.d.aux.latest (auxEnt ((conv s.d c).words.getD (convEntry s.d c) 0)).input = some
          (sat16 (auxCalibrate (sat16 x) ((conv s.d c).cal.getD (convEntry s.d c) 0x4000)), tickNs s.d + subt)) ∧
      ((conv s.d c).cnt + 1 = (auxEnt ((conv s.d c).words.getD (convEntry s.d c) 0)).count → (conv s.d c).trig = 2 →
        (conv s.d c).words.length = convEntry s.d c + 1 → convEntry s.d c < 16 →
        rdB s.d (Reg.AUX_CONV_STAT_PEND c) = false → ∃ t, exec (.auxConversionDone c x subt) s = .next t ∧ t.nv = s.nv ∧
        convBusy t.d c = false ∧ (conv t.d c).cnt = 0 ∧
        rd t.d (Reg.AUX_RES_DATA c (convEntry s.d c) 0) % 2 ^ 16 =
          ofS 16 (sat16 (auxCalibrate (sat16 x) ((conv s.d c).cal.getD (convEntry s.d c) 0x4000))) ∧
        rd t.d (Reg.AUX_RES_DATA c (convEntry s.d c) 1) = ofS 32 ((conv s.d c).sum +
          sat16 (auxCalibrate (sat16 x) ((conv s.d c).cal.getD (convEntry s.d c) 0x4000))) ∧
        rd t.d (Reg.AUX_RES_DATA c (convEntry s.d c) 2) = s.d.k % 2 ^ 32)) ∧
    (convBusy s.d c = false → exec (.auxConversionDone c x subt) s = .next s) ∧
    (accessErr s.d req (0x100F0100 + 0x20 * c) true = 0 → bit w 31 = false → bits w 8 6 ≤ 44 → bits w 16 5 ≤ 16 →
      (∀ u, writeFields s.d req (0x100F0100 + 0x20 * c) (setBit w 30 true) = u →
        (stagedBad u c = true → exec (.apply req c w) s = .next (s.withDev (refuseW u req (0x100F0100 + 0x20 * c)))) ∧
        (stagedBad u c = false → convBusy s.d c = true → exec (.apply req c w) s =
          .next (s.withDev (wrB u (Reg.AUX_CONV_STAT_APPLY_PEND c) true))) ∧
        (stagedBad u c = false → convBusy s.d c = false → rdB s.d (Reg.AUX_CONV_STAT_PEND c) = false →
          (stagedRec u c).trig ≠ 1 → ∃ t, exec (.apply req c w) s = .next t ∧ t.nv = s.nv ∧
          (conv t.d c).words = (stagedRec u c).words ∧ (conv t.d c).trig = (stagedRec u c).trig ∧
          rdB t.d (Reg.AUX_CONV_STAT_APPLY_PEND c) = false ∧ convBusy t.d c = false)))

/-- R450: with every zone in maintenance, a capture command on no running capture starts one for its input, gain and
count, and SET_NOMINAL writes the nominal entry; outside maintenance each command is refused with code 1, and a capture on
a running one with code 3; COMPUTE without both captures is code 6, and from two captures of one input and gain writes
that entry; ABORT ends a running capture and discards what is held; and a capture fails with code 4 after 100 ms. -/
def Obligations.AuxCalibration : Prop :=
  ∀ (s : State) (req : Requester) (w g : Nat) (r z f : AuxCap) (zero : Bool), accessErr s.d req 0x100F0000 true = 0 →
    (allMaint s.d = true → bits w 16 3 < 7 → 4 ≤ bits w 20 4 → bits w 20 4 ≤ 12 → bit w 4 = false →
      (rdB s.d Reg.AUX_CAL_STAT_BUSY = false →
        (∃ t, (zero = true → exec (.auxCaptureZero req w) s = .next t) ∧
          (zero = false → exec (.auxCaptureFull req w) s = .next t) ∧ t.nv = s.nv ∧
          t.d.aux = { s.d.aux with run := some ⟨zero, bits w 8 6, bits w 16 3, false, bits w 20 4, s.d.k, 0, 0, 0, 0, false⟩ } ∧
          rdB t.d Reg.AUX_CAL_STAT_BUSY = true ∧ t.d.resp.err = 0) ∧
        (∃ t, exec (.auxSetNominal req w) s = .next t ∧ t.nv = s.nv ∧ t.d.aux = s.d.aux ∧
          rd t.d (Reg.AUX_CAL_GAIN (bits w 8 6) (bits w 16 3)) = 0x4000 ∧
          rd t.d (Reg.AUX_CAL_OFFSET (bits w 8 6) (bits w 16 3)) = 0 ∧ rdB t.d Reg.AUX_CAL_STAT_DONE = true) ∧
        (s.d.aux.zero = none → ∃ t, exec (.auxCompute req w) s = .next t ∧ t.nv = s.nv ∧ t.d.aux = s.d.aux ∧
          rd t.d Reg.AUX_CAL_STAT_CODE = 6 ∧ rdB t.d Reg.AUX_CAL_STAT_ERR = true ∧ t.d.resp.err = errRefused) ∧
        (s.d.aux.zero = some z → s.d.aux.full = some f → z.input = f.input → z.gain = f.gain → z.trim = false →
          f.trim = false → z.input < 64 → z.gain < 7 → auxEntry s.d z.s0 f.s0 z.n0 f.n0 = (0, (g : Int), 0) → g < 2 ^ 16 → ∃ t,
          exec (.auxCompute req w) s = .next t ∧ t.nv = s.nv ∧ t.d.aux = s.d.aux ∧
          rd t.d (Reg.AUX_CAL_GAIN z.input z.gain) = g ∧ rd t.d (Reg.AUX_CAL_OFFSET z.input z.gain) = 0 ∧
          rdB t.d Reg.AUX_CAL_STAT_DONE = true ∧ rd t.d Reg.AUX_CAL_STAT_CODE = 0)) ∧
      (rdB s.d Reg.AUX_CAL_STAT_BUSY = true → ∃ t, exec (.auxCaptureZero req w) s = .next t ∧ t.nv = s.nv ∧ t.d.aux = s.d.aux ∧ rd t.d Reg.AUX_CAL_STAT_CODE = 3 ∧ t.d.resp.err = errRefused) ∧
      (s.d.aux.run = some r → ∃ t, exec (.auxCalAbort req w) s = .next t ∧ t.nv = s.nv ∧ t.d.aux.run = none ∧
        t.d.aux.zero = none ∧ t.d.aux.full = none ∧ rdB t.d Reg.AUX_CAL_STAT_BUSY = false ∧
        rdB t.d Reg.AUX_CAL_STAT_ZERO_HELD = false ∧ rd t.d Reg.AUX_CAL_STAT_CODE = 9)) ∧
    (allMaint s.d = false → ∃ t, exec (.auxCompute req w) s = .next t ∧ t.nv = s.nv ∧ t.d.aux = s.d.aux ∧
      rd t.d Reg.AUX_CAL_STAT_CODE = 1 ∧ rdB t.d Reg.AUX_CAL_STAT_ERR = true ∧ t.d.resp.err = errRefused) ∧
    (s.d.aux.run = some r → r.startK + 2000 ≤ s.d.k → ∃ t, exec .auxCaptureTimeout s = .next t ∧ t.nv = s.nv ∧
      t.d.aux = { s.d.aux with run := none } ∧ rd t.d Reg.AUX_CAL_STAT_CODE = 4 ∧ rdB t.d Reg.AUX_CAL_STAT_BUSY = false ∧
      rdB t.d Reg.AUX_CAL_STAT_ERR = true) ∧
    (s.d.aux.run = none → exec .auxCaptureTimeout s = .next s)

/-- R505 to R509, R462: with the mailbox free, a doorbell runs the request and answers with its command, status and tag,
`DONE` and vector 1. HELLO sets the version to the lesser of the host's and 4 and returns it; STATUS gives the zone modes,
the role and the triad's configuration; ZONE_MODE queues an accepted request for the boundary it names and answers that
cycle, and a request it does not accept with 3 for a parameter, an `AT` out of its distances among them, and 4 for a mode
the zone may not enter or on a STANDBY device; SLEEP answers the sleep code and an accepted one waits for its boundary;
RING disables a ring, or enables it with a base and a size within R509's limits, and answers 3 for others; a command or a
ring of a later version is answered 2, and an undefined command 1; and a doorbell of any command while the mailbox is busy
changes nothing but the overrun flag. (That a HELLO of version 0 is answered 3 is the model's: log entry 52.) -/
def Obligations.MailboxCommands : Prop :=
  (∀ (s : State) (req : Requester) (w v : Nat), accessErr s.d req 0x10110010 true = 0 → rdB s.d Reg.HOST_MBX_STAT_BUSY = false →
    1 ≤ rd s.d Reg.HOST_STAT_MBX_VER → byteAt (mbxReq s.d) 4 = v →
    (1 ≤ v → ∃ t, exec (.hello req w) s = .next t ∧ s.answered t 1 0 ∧ rd t.d Reg.HOST_STAT_MBX_VER = min v 4 ∧
      rd t.d (Reg.HOST_MBX_RSP_DATA 1) = min v 4 + 0x40960100) ∧
    (v = 0 → ∃ t, exec (.hello req w) s = .next t ∧ s.answered t 1 3 ∧
      rd t.d Reg.HOST_STAT_MBX_VER = rd s.d Reg.HOST_STAT_MBX_VER) ∧
    (∃ t, exec (.mbxStatus req w) s = .next t ∧ s.answered t 2 0 ∧ t.d.zreq = s.d.zreq ∧
      ((∀ z, z < 16 → zmode s.d z < 8) → ∀ z, z < 10 → bits (rd t.d (Reg.HOST_MBX_RSP_DATA 1)) (3 * z) 3 = zmode s.d z) ∧
      bits (rd t.d (Reg.HOST_MBX_RSP_DATA 2)) 16 8 = role s.d % 256 ∧
      bits (rd t.d (Reg.HOST_MBX_RSP_DATA 2)) 24 8 = triCfg s.d % 256) ∧
    (∃ t, exec (.mbxSleep req w) s = .next t ∧ s.answered t 4 0 ∧
      rd t.d (Reg.HOST_MBX_RSP_DATA 1) % 256 = sleepCode s.d false ∧ rd t.d Reg.PWR_RETAIN_BANKS = v % 16 ∧
      t.d.pwr.req = if sleepCode s.d false = 0 then some (cycNo s.d + 1) else s.d.pwr.req)) ∧
  (∀ (s : State) (req : Requester) (w z m at_ d : Nat), accessErr s.d req 0x10110010 true = 0 →
    rdB s.d Reg.HOST_MBX_STAT_BUSY = false → 1 ≤ rd s.d Reg.HOST_STAT_MBX_VER →
    byteAt (mbxReq s.d) 4 = z → byteAt (mbxReq s.d) 5 = m →
    (if 4 ≤ rd s.d Reg.HOST_STAT_MBX_VER then leAt (mbxReq s.d) 8 3 else 0) = at_ → (at_ + 2 ^ 24 - cyc24 s.d) % 2 ^ 24 = d →
    (15 < z ∨ m < 1 ∨ 5 < m ∨ at_ ≠ 0 ∧ (d < 2 ∨ 65535 < d) → ∃ t, exec (.zoneMode req w) s = .next t ∧ s.answered t 3 3 ∧
      t.d.zreq = s.d.zreq) ∧
    (z < 16 → 1 ≤ m → m ≤ 5 → (at_ = 0 ∨ 2 ≤ d ∧ d ≤ 65535) →
      (zoneMay s.d z m = false ∨ isStandby s.d = true → ∃ t, exec (.zoneMode req w) s = .next t ∧ s.answered t 3 4 ∧
        t.d.zreq = s.d.zreq) ∧
      (zoneMay s.d z m = true → isStandby s.d = false → ∃ t c, exec (.zoneMode req w) s = .next t ∧ s.answered t 3 0 ∧
        c = cycNo s.d + (if at_ = 0 then 1 else d) ∧ rd t.d (Reg.HOST_MBX_RSP_DATA 1) % 2 ^ 24 = c % 2 ^ 24 ∧
        ⟨z, m, 0, leAt (mbxReq s.d) 2 2, c⟩ ∈ t.d.zreq ∧ zmode t.d z = zmode s.d z))) ∧
  (∀ (s : State) (req : Requester) (w r : Nat), accessErr s.d req 0x10110010 true = 0 → rdB s.d Reg.HOST_MBX_STAT_BUSY = false →
    byteAt (mbxReq s.d) 4 = r →
    (2 ≤ rd s.d Reg.HOST_STAT_MBX_VER → (r < 2 ∨ r < 10 ∧ 3 ≤ rd s.d Reg.HOST_STAT_MBX_VER) →
      (bit (byteAt (mbxReq s.d) 5) 0 = false → ∃ t, exec (.ring req w) s = .next t ∧ s.answered t 0x10 0 ∧
        hring t.d r = { hring s.d r with en := false }) ∧
      (∀ i, i < 13 → bit (byteAt (mbxReq s.d) 5) 0 = true → leAt (mbxReq s.d) 16 4 = 2 ^ (16 + i) →
        leAt (mbxReq s.d) 8 8 % 2 ^ (16 + i) = 0 → ∃ t, exec (.ring req w) s = .next t ∧ s.answered t 0x10 0 ∧
        hring t.d r = { hring s.d r with
          en := true, base := leAt (mbxReq s.d) 8 8, size := 2 ^ (16 + i), wb := leAt (mbxReq s.d) 20 8 }) ∧
      (bit (byteAt (mbxReq s.d) 5) 0 = true → (∀ i, i < 13 → leAt (mbxReq s.d) 16 4 = 2 ^ (16 + i) →
        leAt (mbxReq s.d) 8 8 % 2 ^ (16 + i) ≠ 0) → ∃ t, exec (.ring req w) s = .next t ∧ s.answered t 0x10 3 ∧
        t.d.host = s.d.host)) ∧
    (rd s.d Reg.HOST_STAT_MBX_VER < 2 ∨ rd s.d Reg.HOST_STAT_MBX_VER = 2 ∧ 2 ≤ r ∧ r < 10 →
      ∃ t, exec (.ring req w) s = .next t ∧ s.answered t 0x10 2 ∧ t.d.host = s.d.host) ∧
    (9 < r → 2 ≤ rd s.d Reg.HOST_STAT_MBX_VER → ∃ t, exec (.ring req w) s = .next t ∧ s.answered t 0x10 3 ∧
      t.d.host = s.d.host)) ∧
  (∀ (s : State) (req : Requester) (w cmd : Nat), accessErr s.d req 0x10110010 true = 0 →
    (rdB s.d Reg.HOST_MBX_STAT_BUSY = true → mailbox s.d req w = wrB (okResp s.d) Reg.HOST_MBX_STAT_OVR true ∧
      ∃ t, exec (.hello req w) s = .next t ∧ t.nv = s.nv ∧ rdB t.d Reg.HOST_MBX_STAT_OVR = true ∧
      rd t.d Reg.HOST_STAT_MBX_VER = rd s.d Reg.HOST_STAT_MBX_VER ∧ t.d.zreq = s.d.zreq ∧ t.d.host = s.d.host) ∧
    (rdB s.d Reg.HOST_MBX_STAT_BUSY = false → byteAt (mbxReq s.d) 0 = cmd → cmd = 0 ∨ 4 < cmd ∧ cmd ≠ 0x10 →
      bits (rd (mailbox s.d req w) (Reg.HOST_MBX_RSP_DATA 0)) 8 8 = 1))

/-- R503, R509 to R512, R526: a waiting record of an enabled ring that has room goes to host memory behind the head and
its fill, the head count passes it and is written back; one that does not fit waits in rings 0 and 1, and a capture is
dropped and counted; a disabled ring discards it; the tail is the host's; the hold-off signals what is unsignalled; a loss
of the link disables every ring, takes the link bits and the agreed version away and is raised; a trained link shows its
speed and width; and `SYS_ZONE_REQ` queues the triad's accepted request in place of one that waits, flags one that it does
not accept, and answers a host's `GO` REFUSED. -/
def Obligations.RingsAndLink : Prop :=
  (∀ (s : State) (n o : Nat) (b : List Byte) (rest : List (List Byte)), n < 10 → ringQueue s.d n = b :: rest →
    ((hring s.d n).en = false → ∃ t, exec (.hostRingWrite n) s = .next t ∧ t.nv = s.nv ∧ ringQueue t.d n = rest ∧
      t.d.host.mem = s.d.host.mem ∧ rd t.d (Reg.HOST_RING_HEAD_HEAD n) = rd s.d (Reg.HOST_RING_HEAD_HEAD n)) ∧
    ((hring s.d n).en = true → ringFits s.d n (padded b).length = true →
      (rd s.d (Reg.HOST_RING_HEAD_HEAD n) + ringFill s.d n (padded b).length) % 2 ^ 32 % (hring s.d n).size = o →
      ((hring s.d n).wb + 8 ≤ (hring s.d n).base + o ∨ (hring s.d n).base + o + (padded b).length ≤ (hring s.d n).wb) →
      ∃ t, exec (.hostRingWrite n) s = .next t ∧ t.nv = s.nv ∧ ringQueue t.d n = rest ∧
      rd t.d (Reg.HOST_RING_HEAD_HEAD n) =
        (rd s.d (Reg.HOST_RING_HEAD_HEAD n) + ringFill s.d n (padded b).length + (padded b).length) % 2 ^ 32 ∧
      Memory.readLE t.d.host.mem (hring s.d n).wb 8 = rd t.d (Reg.HOST_RING_HEAD_HEAD n) ∧
      Memory.readList t.d.host.mem ((hring s.d n).base + o) (padded b).length = padded b) ∧
    ((hring s.d n).en = true → ringFits s.d n (padded b).length = false →
      (n < 2 → exec (.hostRingWrite n) s = .next s) ∧
      (2 ≤ n → ∃ t, exec (.hostRingWrite n) s = .next t ∧ t.nv = s.nv ∧ ringQueue t.d n = rest ∧ t.d.host.mem = s.d.host.mem ∧
        bits (rd t.d (Reg.LEDGER_STRM_LOSS_CNT (n - 2))) 16 16 =
          min (bits (rd s.d (Reg.LEDGER_STRM_LOSS_CNT (n - 2))) 16 16 + 1) 0xFFFF))) ∧
  (∀ (s : State) (req : Requester) (w n speed width : Nat) (fund : Bool),
    (n < 10 → accessErr s.d req (0x10110204 + 0x10 * n) true = 0 → exec (.hostRingTail req n w) s =
      .next (s.withDev (okResp (wr s.d (Reg.HOST_RING_TAIL_TAIL n) w)))) ∧
    (n < 10 → 0 < (hring s.d n).unsig → ∃ t, exec (.ringHoldoffExpiry n) s = .next t ∧ t.nv = s.nv ∧
      hring t.d n = { hring s.d n with unsig := 0 } ∧ rdFBit t.d Reg.HOST_IRQ_STAT_CAUSE (2 + n) = true) ∧
    ((hring s.d n).unsig = 0 → exec (.ringHoldoffExpiry n) s = .next s) ∧
    (∃ t, exec (.hostLinkDown fund) s = .next t ∧ t.nv = s.nv ∧ t.pending = s.pending ∧
      (∀ r, r < 10 → (hring t.d r).en = false ∧ (hring t.d r).queue = (hring s.d r).queue) ∧
      rdB t.d Reg.HOST_STAT_LINK_UP = false ∧ rd t.d Reg.HOST_STAT_SPEED = 0 ∧ rd t.d Reg.HOST_STAT_WIDTH = 0 ∧
      rd t.d Reg.HOST_STAT_MBX_VER = 1 ∧ rdB t.d Reg.HOST_STAT_LINK_DOWN_EV = true ∧
      rdFBit t.d Reg.HOST_IRQ_STAT_CAUSE 13 = true ∧
      t.d.mor.raised.map (·.src) = s.d.mor.raised.map (·.src) ++ [Src.HOST_LINK_DOWN]) ∧
    (domOn s.d 12 = true → exec (.hostLinkUp speed width) s = .next (s.withDev
      (wr (wr (wrB s.d Reg.HOST_STAT_LINK_UP true) Reg.HOST_STAT_SPEED (max 1 (min 3 speed))) Reg.HOST_STAT_WIDTH
        (if 4 ≤ width then 4 else if 2 ≤ width then 2 else 1)))) ∧
    (domOn s.d 12 = false → exec (.hostLinkUp speed width) s = .next s)) ∧
  (∀ (s : State) (req : Requester) (w z m : Nat), accessErr s.d req 0x10000014 true = 0 → bits w 0 4 = z → bits w 4 3 = m →
    (req ≠ .host → zoneMay s.d z m = true → isStandby s.d = false → m ≠ modeDormant →
      ∃ t, exec (.sysZoneReq req w) s = .next t ∧ t.nv = s.nv ∧ t.d.resp.err = 0 ∧
      t.d.zreq = s.d.zreq.filter (fun x => x.src != 1) ++ [⟨z, m, 1, 0, cycNo s.d + 1⟩] ∧
      rdB t.d Reg.SYS_ZONE_REQ_PEND = true ∧
      ((∃ x ∈ s.d.zreq, x.src = 1) → rdB t.d Reg.SYS_ZONE_REQ_REFUSED = true)) ∧
    (req ≠ .host → zoneMay s.d z m = false ∨ isStandby s.d = true ∨ m = modeDormant →
      ∃ t, exec (.sysZoneReq req w) s = .next t ∧ t.nv = s.nv ∧ t.d.resp.err = 0 ∧
      t.d.zreq = s.d.zreq.filter (fun x => x.src != 1) ∧ rdB t.d Reg.SYS_ZONE_REQ_REFUSED = true) ∧
    (req = .host → ∃ t, exec (.sysZoneReq req w) s = .next t ∧ t.nv = s.nv ∧ t.d.resp.err = errRefused ∧
      t.d.zreq = s.d.zreq ∧ rd t.d Reg.FWL_VADDR_ADDR = 0x10000014 ∧
      rdB t.d Reg.SYS_ZONE_REQ_PEND = rdB s.d Reg.SYS_ZONE_REQ_PEND))

/-- R513 to R518: a flash command whose range R517 allows runs alone; READ brings the flash's bytes to the buffer, PROG
clears the bits that are 0 in the data and no other byte, an erase sets its range to 0xFF; a forbidden range is answered
FIREWALL; a confirmation record that waited is written when the command ends; an uncorrectable DRAM error outside the
ledger's home is counted and marks its word, a corrected one is counted, the scrubber's last word ends a pass, and a late
pass and a failed rank are flagged and raised. -/
def Obligations.FlashAndDram : Prop :=
  ∀ (s : State) (req : Requester) (w a n rank cause : Nat) (data : List Byte),
    (accessErr s.d req 0x10110400 true = 0 → s.d.host.qspi = none → rd s.d Reg.HOST_QSPI_ADDR_ADDR = a →
      rd s.d Reg.HOST_QSPI_LEN_LEN = n →
      (1 ≤ n → n ≤ 256 → ∃ t, exec (.qspiRead req w) s = .next t ∧ t.nv = s.nv ∧ rdB t.d Reg.HOST_QSPI_CMD_QBUSY = true ∧
        t.d.host.qspi.map (fun q => (q.1, q.2.1, q.2.2.1)) = some (1, a, n) ∧ t.d.resp.err = 0) ∧
      (1 ≤ n → a % 256 + n ≤ 256 → 0x802000 ≤ a → ∃ t, exec (.qspiProg req w) s = .next t ∧ t.nv = s.nv ∧
        rdB t.d Reg.HOST_QSPI_CMD_QBUSY = true ∧ t.d.host.qspi.map (fun q => (q.1, q.2.1, q.2.2.1)) = some (2, a, n)) ∧
      (0x802000 ≤ a → ∃ t, exec (.erase4k req w) s = .next t ∧ t.nv = s.nv ∧
        t.d.host.qspi.map (fun q => (q.1, q.2.1, q.2.2.1)) = some (3, a / 0x1000 * 0x1000, 0x1000)) ∧
      (0x810000 ≤ a → ∃ t, exec (.erase64k req w) s = .next t ∧ t.nv = s.nv ∧
        t.d.host.qspi.map (fun q => (q.1, q.2.1, q.2.2.1)) = some (4, a / 0x10000 * 0x10000, 0x10000)) ∧
      (0x800000 ≤ a → a < 0x810000 → ∃ t, exec (.erase64k req w) s = .next t ∧ t.nv = s.nv ∧ t.d.host.qspi = none ∧
        t.d.resp.err = errFirewall)) ∧
    (s.d.safe.recWait = false → s.d.host.qspi = some (1, a, n, data) → n ≤ 256 → (a + n ≤ 0x800000 ∨ 0x802000 ≤ a) → ∃ t, exec .qspiDone s = .next t ∧
      t.nv = s.nv ∧ t.d.host.qspi = none ∧ rdB t.d Reg.HOST_QSPI_CMD_QDONE = true ∧ rdB t.d Reg.HOST_QSPI_CMD_QBUSY = false ∧
      ∀ i j, i < 64 → j < 4 → 4 * i + j < n →
        bits (rd t.d (Reg.HOST_QSPI_BUF_DATA i)) (8 * j) 8 = (flashByte s.nv (a + (4 * i + j))).toNat) ∧
    (s.d.safe.recWait = false → s.d.host.qspi = some (2, a, n, data) → ∃ t, exec .qspiDone s = .next t ∧ t.d.host.qspi = none ∧
      t.nv = { s.nv with flash := t.nv.flash } ∧
      (∀ i, i < n → flashByte t.nv (a + i) = flashByte s.nv (a + i) &&& data.getD i 0) ∧
      (∀ x, x < a ∨ a + n ≤ x → flashByte t.nv x = flashByte s.nv x)) ∧
    (s.d.safe.recWait = false → s.d.host.qspi = some (3, a, n, data) ∨ s.d.host.qspi = some (4, a, n, data) → ∃ t,
      exec .qspiDone s = .next t ∧ t.d.host.qspi = none ∧ t.nv = { s.nv with flash := t.nv.flash } ∧
      (∀ x, a ≤ x → x < a + n → flashByte t.nv x = 0xFF) ∧
      (∀ x, x < a ∨ a + n ≤ x → flashByte t.nv x = flashByte s.nv x)) ∧
    (∀ (c : Nat) (g : List Byte), s.d.safe.recWait = true → s.d.safe.recDue = true → s.d.safe.conf = some (c, g) → ∃ t r, exec .qspiDone s = .next t ∧
      t.nv.conf = [some r, some r] ∧ r.check = c ∧ r.digest = g ∧ t.d.safe.recDue = false ∧ t.d.safe.recWait = false) ∧
    ((a < ledgerBase s.d ∨ ledgerBase s.d + 0x02000000 ≤ a) →
      (∃ t, exec (.drcUe a none) s = .next t ∧ t.nv = s.nv ∧ a / 8 * 8 ∈ t.d.host.bad ∧ t.d.dram = s.d.dram ∧
        rd t.d Reg.DRC_ECC_CNT_CNT / 2 ^ 16 = satAdd 16 (bits (rd s.d Reg.DRC_ECC_CNT_CNT) 16 16) 1 ∧
        rd t.d Reg.DRC_UE_ADDR_LO_ADDR = a % 2 ^ 32 ∧
        t.d.mor.raised.map (·.src) = s.d.mor.raised.map (·.src) ++ [Src.DRC_UE]) ∧
      (∃ t, exec (.drcUe a (some req)) s = .next t ∧ t.nv = s.nv ∧ a / 8 * 8 ∈ t.d.host.bad ∧ t.d.resp.err = errPoison)) ∧
    (exec .drcScrubLate s = .next (s.withDev (raise (wrB { s.d with host := { s.d.host with scrubLate := true } } Reg.DRC_STAT_SCRUB_LATE true) Src.DRC_SCRUB_LATE 0 0
      (rd s.d Reg.DRC_SCRUB_PASS) 0))) ∧
    (∃ t, exec (.drcRank rank cause) s = .next t ∧ t.nv = s.nv ∧ rdFBit t.d Reg.DRC_STAT_RANK_FAIL (rank % 2) = true ∧
      t.d.mor.raised.map (·.src) = s.d.mor.raised.map (·.src) ++ [Src.DRC_RANK]) ∧
    (exec (.patrolScrub a 0 false) s = .next s) ∧
    (∃ t, exec (.patrolScrub a 1 true) s = .next t ∧ t.nv = s.nv ∧ t.d.host = { s.d.host with scrubLate := false } ∧ t.d.mor = s.d.mor ∧
      rd t.d Reg.DRC_SCRUB_PASS = (rd s.d Reg.DRC_SCRUB_PASS + 1) % 2 ^ 16 ∧
      rd t.d Reg.DRC_ECC_CNT_CNT % 2 ^ 16 = satAdd 16 (rd s.d Reg.DRC_ECC_CNT_CNT % 2 ^ 16) 1)

/-- R15 to R18, R264, R314: the instants of a tick come in their order. A tick edge of a device that ticks begins the next
tick and phase 0; the commit point, the Serac verdict, the assembly and the sending of the command frames each act once,
after the one before, and change neither what survives resets nor the queue; at an instant that has passed they do
nothing; a device that does not tick has no edge, and a site at 135 °C takes it back to power-on reset. (That an instant
out of its order changes nothing is the model's: log entry 9.) -/
def Obligations.TickTimeline : Prop :=
  ∀ (s : State) (tj : Int) (site : Nat) (flips : List (Nat × Nat × Nat)) (late parity : List (Nat × Nat)),
    (ticking s.d = true → s.d.rime.move = none → s.d.pwr.offPend = 0 → tj < 1350 → ∃ t,
      exec (.tickEdge tj site) s = .next t ∧ t.nv = s.nv ∧ t.pending = s.pending ∧ t.d.k = s.d.k + 1 ∧ t.d.phase = 0) ∧
    (ticking s.d = true → 1350 ≤ tj → ∃ t, exec (.tickEdge tj site) s = .next t ∧ t.nv = s.nv ∧ t.d.boot.tjHold = true ∧
      t.d.boot.step = 0 ∧ t.d.bootOk = false) ∧
    (ticking s.d = false → exec (.tickEdge tj site) s = .next s ∧ exec .commitPoint s = .next s) ∧
    (ticking s.d = true → s.d.phase ≤ 1 → ∃ t, exec .commitPoint s = .next t ∧ t.nv = s.nv ∧ t.pending = s.pending ∧
      t.d.phase = 2 ∧ t.d.apply = false) ∧
    (1 < s.d.phase → exec .commitPoint s = .next s) ∧
    (s.d.phase = 2 → ∃ t, exec (.seracVerdict flips late parity) s = .next t ∧ t.nv = s.nv ∧
      t.pending = s.pending ∧ t.d.phase = 3 ∧ t.d.k = s.d.k ∧ t.d.ser.cmds = [] ∧ t.d.ser.zoneOrd = [] ∧
      t.d.ser.bayOrd = none) ∧
    (inBoot s.d = false → (s.d.phase = 2 ∨ s.d.phase = 3) → ∃ t, exec .commandAssembly s = .next t ∧ t.nv = s.nv ∧
      t.pending = s.pending ∧ t.d.phase = 4) ∧
    (inBoot s.d = false → s.d.phase = 4 → ∃ t, exec .commandFrameSend s = .next t ∧ t.nv = s.nv ∧ t.pending = s.pending ∧
      t.d.phase = 5) ∧
    (s.d.phase ≠ 2 → exec (.seracVerdict flips late parity) s = .next s) ∧
    (s.d.phase ≠ 2 → s.d.phase ≠ 3 → exec .commandAssembly s = .next s) ∧
    (s.d.phase ≠ 4 → exec .commandFrameSend s = .next s)

/-- A step runs the command at the front of the queue on the state with the queue's rest. On an empty queue the block
idles. (The model's choice: log entry 1.) -/
def Obligations.StepOfTheQueue : Prop :=
  (∀ (s : State) (c : Instr) (q : List Instr), s.pending = c :: q → step s = exec c { s with pending := q }) ∧
  (∀ (s : State), s.pending = [] → step s = .next s)

/-- Every command completes, whatever the state and the operands, and takes no part in the queue; so a queue of commands
drains in as many steps as it holds. -/
def Obligations.QueueDrains : Prop :=
  (∀ (s : State) (c : Instr), ∃ t, exec c s = .next t ∧ t.pending = s.pending) ∧
  (∀ (s : State) (q : List Instr), s.pending = q → ∃ f : Nat → State, f 0 = s ∧ (f q.length).pending = [] ∧
    ∀ i, i < q.length → step (f i) = .next (f (i + 1)) ∧ (f i).pending = q.drop i)

/-- R484, R491 to R495: fuses are blown once. From every state whose fuse map is in order, every step keeps it in order;
the rollback counter and the transition count never fall, no revocation and no grant bit clears, the serial number stays,
the life-cycle state stays or makes one of the permitted moves, and outside BLANK the keys and the seed stay. -/
def Obligations.FusesAreBlownOnce : Prop :=
  ∀ (s t : State), FuseInv s.nv.fuse → step s = .next t → FuseInv t.nv.fuse ∧
    s.nv.fuse.rollback ≤ t.nv.fuse.rollback ∧ s.nv.fuse.trans ≤ t.nv.fuse.trans ∧
    (∀ i, bit s.nv.fuse.bootRev i = true → bit t.nv.fuse.bootRev i = true) ∧
    (∀ i, bit s.nv.fuse.firnRev i = true → bit t.nv.fuse.firnRev i = true) ∧
    (s.nv.fuse.calve = true → t.nv.fuse.calve = true) ∧ (s.nv.fuse.calveRev = true → t.nv.fuse.calveRev = true) ∧
    (s.nv.fuse.dbg = true → t.nv.fuse.dbg = true) ∧ (s.nv.fuse.dbgRev = true → t.nv.fuse.dbgRev = true) ∧
    t.nv.fuse.serial = s.nv.fuse.serial ∧
    (t.nv.fuse.state = s.nv.fuse.state ∨ movePermitted s.nv.fuse.state t.nv.fuse.state = true) ∧
    (s.nv.fuse.state ≠ 0 → t.nv.fuse.bootKeys = s.nv.fuse.bootKeys ∧ t.nv.fuse.firnKeys = s.nv.fuse.firnKeys ∧
      t.nv.fuse.seed = s.nv.fuse.seed)

/-- R517, R518: every step keeps the flash memory in its canonical form, and only the end of a flash command changes a
byte of it. -/
def Obligations.FlashKept : Prop :=
  ∀ (s t : State), Memory.wf s.nv.flash = true → step s = .next t → Memory.wf t.nv.flash = true ∧
    (s.pending.head? ≠ some .qspiDone → t.nv.flash = s.nv.flash)

/-- The state after reset has no command waiting, its fuse map in order, its memories in canonical form, and is in
power-on reset: no tick counted, no boot verdict, nothing staged. -/
def Obligations.ResetState : Prop :=
  State.reset.pending = [] ∧ FuseInv State.reset.nv.fuse ∧ State.reset.memOk = true ∧ inPor State.reset.d = true ∧
  State.reset.d.k = 0 ∧ State.reset.d.bootOk = false ∧ State.reset.d.staged = [] ∧ State.reset.d.regs = []
end

