-- ==== Sys2Proof/Laws/Maps.lean ====
section
/-!
SUPPORT. Laws of the sparse maps and byte memories: a read after a write to the same key gives what was written, a write
leaves every other key alone, and every operation keeps the canonical form.
-/
namespace Sys2Proof.Machine

section
variable {α : Type}

theorem SMap.find_put_same (m : SMap α) (k : Nat) (v : α) : SMap.find (SMap.put m k v) k = some v := by
  induction m with
  | nil => simp [SMap.put, SMap.find]
  | cons e m ih =>
    obtain ⟨k', v'⟩ := e
    simp only [SMap.put]
    split
    · simp [SMap.find]
    · split
      · simp [SMap.find]
      · next h _ => simp [SMap.find, h, ih]

theorem SMap.find_put_ne (m : SMap α) {k j : Nat} (v : α) (h : j ≠ k) : SMap.find (SMap.put m k v) j = SMap.find m j := by
  induction m with
  | nil => simp [SMap.put, SMap.find, Ne.symm h]
  | cons e m ih =>
    obtain ⟨k', v'⟩ := e
    simp only [SMap.put]
    split
    · next hk => subst hk; simp [SMap.find, Ne.symm h]
    · split
      · simp [SMap.find, Ne.symm h]
      · simp [SMap.find, ih]

theorem SMap.find_del_same (m : SMap α) (k : Nat) : SMap.find (SMap.del m k) k = none := by
  induction m with
  | nil => rfl
  | cons e m ih =>
    obtain ⟨k', v'⟩ := e
    simp only [SMap.del]
    split
    · exact ih
    · next hk => simp [SMap.find, hk, ih]

theorem SMap.find_del_ne (m : SMap α) {k j : Nat} (h : j ≠ k) : SMap.find (SMap.del m k) j = SMap.find m j := by
  induction m with
  | nil => rfl
  | cons e m ih =>
    obtain ⟨k', v'⟩ := e
    simp only [SMap.del]
    split
    · next hk => subst hk; simp [SMap.find, Ne.symm h, ih]
    · simp [SMap.find, ih]

variable [DecidableEq α]

@[simp] theorem SMap.get_set_same (d : α) (m : SMap α) (k : Nat) (v : α) : SMap.get d (SMap.set d m k v) k = v := by
  unfold SMap.get SMap.set
  split
  · next h => simp [SMap.find_del_same, h]
  · simp [SMap.find_put_same]

theorem SMap.get_set_ne (d d' : α) (m : SMap α) {k j : Nat} (v : α) (h : j ≠ k) :
    SMap.get d (SMap.set d' m k v) j = SMap.get d m j := by
  unfold SMap.get SMap.set
  split
  · simp [SMap.find_del_ne m h]
  · simp [SMap.find_put_ne m v h]

@[simp] theorem SMap.get_mod_same (d : α) (m : SMap α) (k : Nat) (f : α → α) :
    SMap.get d (SMap.mod d m k f) k = f (SMap.get d m k) := SMap.get_set_same _ _ _ _

theorem SMap.get_mod_ne (d : α) (m : SMap α) {k j : Nat} (f : α → α) (h : j ≠ k) :
    SMap.get d (SMap.mod d m k f) j = SMap.get d m j := SMap.get_set_ne _ _ _ _ h

end

/-! ### The canonical form -/

section
variable {α : Type}

theorem SMap.sortedAbove_mono {a b : Nat} (m : SMap α) (h : a ≤ b) (hs : SMap.sortedAbove b m = true) :
    SMap.sortedAbove a m = true := by
  cases m with
  | nil => rfl
  | cons e m => simp [SMap.sortedAbove] at *; exact ⟨by omega, hs.2⟩

theorem SMap.sorted_of_above {b : Nat} (m : SMap α) (hs : SMap.sortedAbove b m = true) : SMap.sorted m = true := by
  cases m with
  | nil => rfl
  | cons e m => simp [SMap.sortedAbove] at hs; exact hs.2

theorem SMap.put_above (m : SMap α) {b k : Nat} (v : α) (hb : b < k) (hs : SMap.sortedAbove b m = true) :
    SMap.sortedAbove b (SMap.put m k v) = true := by
  induction m generalizing b with
  | nil => simp [SMap.put, SMap.sortedAbove, hb]
  | cons e m ih =>
    obtain ⟨k', v'⟩ := e
    simp [SMap.sortedAbove] at hs
    simp only [SMap.put]
    split
    · next h => subst h; simp [SMap.sortedAbove, hs]
    · split
      · next h => simp [SMap.sortedAbove, hb, h, hs.2]
      · next h h' => simp [SMap.sortedAbove, hs.1]; exact ih (by omega) hs.2

theorem SMap.put_sorted (m : SMap α) (k : Nat) (v : α) (hs : SMap.sorted m = true) : SMap.sorted (SMap.put m k v) = true := by
  cases m with
  | nil => simp [SMap.put, SMap.sorted, SMap.sortedAbove]
  | cons e m =>
    obtain ⟨k', v'⟩ := e
    simp [SMap.sorted] at hs
    simp only [SMap.put]
    split
    · next h => subst h; simpa [SMap.sorted] using hs
    · split
      · next h => simp [SMap.sorted, SMap.sortedAbove, h, hs]
      · next h h' => simp only [SMap.sorted]; exact SMap.put_above m v (by omega) hs

theorem SMap.del_above (m : SMap α) {b : Nat} (k : Nat) (hs : SMap.sortedAbove b m = true) :
    SMap.sortedAbove b (SMap.del m k) = true := by
  induction m generalizing b with
  | nil => rfl
  | cons e m ih =>
    obtain ⟨k', v'⟩ := e
    simp [SMap.sortedAbove] at hs
    simp only [SMap.del]
    split
    · exact SMap.sortedAbove_mono _ (by omega) (ih hs.2)
    · simp [SMap.sortedAbove, hs.1]; exact ih hs.2

theorem SMap.del_sorted (m : SMap α) (k : Nat) (hs : SMap.sorted m = true) : SMap.sorted (SMap.del m k) = true := by
  cases m with
  | nil => rfl
  | cons e m =>
    obtain ⟨k', v'⟩ := e
    simp [SMap.sorted] at hs
    simp only [SMap.del]
    split
    · exact SMap.sorted_of_above _ (SMap.del_above m k hs)
    · simp only [SMap.sorted]; exact SMap.del_above m k hs

theorem SMap.mem_put (m : SMap α) (k : Nat) (v : α) (e : Nat × α) (h : e ∈ SMap.put m k v) : e = (k, v) ∨ e ∈ m := by
  induction m with
  | nil => simp [SMap.put] at h; exact .inl h
  | cons e' m ih =>
    obtain ⟨k', v'⟩ := e'
    simp only [SMap.put] at h
    split at h
    · simp at h; rcases h with h | h <;> simp [h]
    · split at h
      · simp at h; rcases h with h | h | h <;> simp [h]
      · simp at h
        rcases h with h | h
        · simp [h]
        · rcases ih h with h | h <;> simp [h]

theorem SMap.mem_del (m : SMap α) (k : Nat) (e : Nat × α) (h : e ∈ SMap.del m k) : e ∈ m := by
  induction m with
  | nil => simp [SMap.del] at h
  | cons e' m ih =>
    obtain ⟨k', v'⟩ := e'
    simp only [SMap.del] at h
    split at h
    · exact List.mem_cons_of_mem _ (ih h)
    · simp at h
      rcases h with h | h
      · simp [h]
      · exact List.mem_cons_of_mem _ (ih h)

theorem SMap.filter_above (m : SMap α) {b : Nat} (p : Nat × α → Bool) (hs : SMap.sortedAbove b m = true) :
    SMap.sortedAbove b (m.filter p) = true := by
  induction m generalizing b with
  | nil => rfl
  | cons e m ih =>
    obtain ⟨k', v'⟩ := e
    simp [SMap.sortedAbove] at hs
    simp only [List.filter]
    split
    · simp [SMap.sortedAbove, hs.1]; exact ih hs.2
    · exact SMap.sortedAbove_mono _ (by omega) (ih hs.2)

variable [DecidableEq α]

theorem SMap.wf_set (d : α) (m : SMap α) (k : Nat) (v : α) (h : SMap.wf d m = true) : SMap.wf d (SMap.set d m k v) = true := by
  simp only [SMap.wf, Bool.and_eq_true, List.all_eq_true, decide_eq_true_eq] at *
  unfold SMap.set
  split
  · exact ⟨SMap.del_sorted _ _ h.1, fun e he => h.2 e (SMap.mem_del _ _ _ he)⟩
  · next hv =>
    refine ⟨SMap.put_sorted _ _ _ h.1, fun e he => ?_⟩
    rcases SMap.mem_put _ _ _ _ he with he | he
    · subst he; exact hv
    · exact h.2 e he

theorem SMap.wf_mod (d : α) (m : SMap α) (k : Nat) (f : α → α) (h : SMap.wf d m = true) :
    SMap.wf d (SMap.mod d m k f) = true := SMap.wf_set _ _ _ _ h

theorem SMap.wf_filter (d : α) (m : SMap α) (p : Nat × α → Bool) (h : SMap.wf d m = true) :
    SMap.wf d (m.filter p) = true := by
  simp only [SMap.wf, Bool.and_eq_true, List.all_eq_true, decide_eq_true_eq] at *
  refine ⟨?_, fun e he => h.2 e (List.mem_filter.mp he).1⟩
  cases m with
  | nil => rfl
  | cons e m =>
    obtain ⟨k', v'⟩ := e
    simp only [SMap.sorted] at h
    simp only [List.filter]
    split
    · simp only [SMap.sorted]; exact SMap.filter_above m p h.1
    · exact SMap.sorted_of_above _ (SMap.filter_above m p h.1)

end

/-! ### Byte memories -/

@[simp] theorem Memory.read_write_same (m : Memory) (a : Nat) (b : BitVec 8) :
    Memory.readByte (Memory.writeByte m a b) a = b := SMap.get_set_same _ _ _ _

theorem Memory.read_write_ne (m : Memory) {a a' : Nat} (b : BitVec 8) (h : a' ≠ a) :
    Memory.readByte (Memory.writeByte m a b) a' = Memory.readByte m a' := SMap.get_set_ne _ _ _ _ h

theorem Memory.wf_writeByte (m : Memory) (a : Nat) (b : BitVec 8) (h : Memory.wf m = true) :
    Memory.wf (Memory.writeByte m a b) = true := SMap.wf_set _ _ _ _ h

theorem Memory.wf_writeLE (m : Memory) (a n v : Nat) (h : Memory.wf m = true) : Memory.wf (Memory.writeLE m a n v) = true := by
  induction n generalizing m a v with
  | zero => exact h
  | succ n ih => exact ih _ _ _ (Memory.wf_writeByte _ _ _ h)

theorem Memory.wf_writeList (m : Memory) (a : Nat) (bs : List (BitVec 8)) (h : Memory.wf m = true) :
    Memory.wf (Memory.writeList m a bs) = true := by
  induction bs generalizing m a with
  | nil => exact h
  | cons b bs ih => exact ih _ _ (Memory.wf_writeByte _ _ _ h)

theorem Memory.wf_clearRange (m : Memory) (a n : Nat) (h : Memory.wf m = true) :
    Memory.wf (Memory.clearRange m a n) = true := SMap.wf_filter _ _ _ h

theorem Memory.read_writeLE_outside (m : Memory) (a n v x : Nat) (h : x < a ∨ a + n ≤ x) :
    Memory.readByte (Memory.writeLE m a n v) x = Memory.readByte m x := by
  induction n generalizing m a v with
  | zero => rfl
  | succ n ih =>
    simp only [Memory.writeLE]
    rw [ih _ _ _ (by omega)]
    exact Memory.read_write_ne _ _ (by omega)

theorem Memory.read_writeList_outside (m : Memory) (a : Nat) (bs : List (BitVec 8)) (x : Nat)
    (h : x < a ∨ a + bs.length ≤ x) : Memory.readByte (Memory.writeList m a bs) x = Memory.readByte m x := by
  induction bs generalizing m a with
  | nil => rfl
  | cons b bs ih =>
    simp only [Memory.writeList]
    simp at h
    rw [ih _ _ (by omega)]
    exact Memory.read_write_ne _ _ (by omega)

end Sys2Proof.Machine
end

