-- ==== Sys2Proof/Laws/State.lean ====
section
/-!
SUPPORT. The small laws of the device's state: what a register write, a raised event, a used free value and a response
leave alone, and reading a register field after a write.
-/
namespace Sys2Proof.Machine

/-- A field reads what was written to it, cut to its width. -/
@[simp] theorem rd_wr_same (d : Dev) (f : Fld) (v : Nat) : rd (wr d f v) f = v % 2 ^ f.wd := SMap.get_set_same _ _ _ _

/-- A write to another field leaves a field alone. -/
theorem rd_wr_ne (d : Dev) (f g : Fld) (v : Nat) (h : g.key ≠ f.key) : rd (wr d f v) g = rd d g :=
  SMap.get_set_ne _ _ _ _ h

@[simp] theorem rd_wrB_same (d : Dev) (f : Fld) (b : Bool) : rd (wrB d f b) f = b2n b % 2 ^ f.wd := rd_wr_same _ _ _

theorem rd_wrB_ne (d : Dev) (f g : Fld) (b : Bool) (h : g.key ≠ f.key) : rd (wrB d f b) g = rd d g := rd_wr_ne _ _ _ _ h

/-- A one-bit field written and read as a truth value. -/
theorem rdB_wrB_same (d : Dev) (f : Fld) (b : Bool) (h : 0 < f.wd) : rdB (wrB d f b) f = b := by
  obtain ⟨n, hn⟩ : ∃ n, f.wd = n + 1 := ⟨f.wd - 1, by omega⟩
  have : 2 ^ f.wd = 2 * 2 ^ n := by rw [hn, Nat.pow_succ]; omega
  have h2 : b2n b % (2 * 2 ^ n) % 2 = b2n b % 2 := Nat.mod_mul_right_mod _ _ _
  cases b <;> simp [rdB, this, b2n] at *

theorem rdB_wrB_ne (d : Dev) (f g : Fld) (b : Bool) (h : g.key ≠ f.key) : rdB (wrB d f b) g = rdB d g := by
  simp [rdB, rd_wrB_ne d f g b h]

theorem rdB_wr_ne (d : Dev) (f g : Fld) (v : Nat) (h : g.key ≠ f.key) : rdB (wr d f v) g = rdB d g := by
  simp [rdB, rd_wr_ne d f g v h]

@[simp] theorem rd_raise (d : Dev) (src ut ui d0 d1 : Nat) (f : Fld) : rd (raise d src ut ui d0 d1) f = rd d f := rfl

@[simp] theorem rd_useFree (d : Dev) (f : Fld) : rd (useFree d) f = rd d f := rfl

@[simp] theorem rd_okResp (d : Dev) (x : Nat) (f : Fld) : rd (okResp d x) f = rd d f := rfl

/-- A write of a field that holds its reset value back to it leaves the registers as they are read. -/
theorem rd_wr (d : Dev) (f g : Fld) (v : Nat) : rd (wr d f v) g = if g.key = f.key then SMap.get g.rst (SMap.set f.rst d.regs f.key (v % 2 ^ f.wd)) f.key else rd d g := by
  split
  · next h => simp [rd, wr, h]
  · next h => exact rd_wr_ne _ _ _ _ h

/-! ### A register write changes the registers alone -/

@[simp] theorem wr_k (d : Dev) (f : Fld) (v : Nat) : (wr d f v).k = d.k := rfl
@[simp] theorem wr_winTick (d : Dev) (f : Fld) (v : Nat) : (wr d f v).winTick = d.winTick := rfl
@[simp] theorem wr_phase (d : Dev) (f : Fld) (v : Nat) : (wr d f v).phase = d.phase := rfl
@[simp] theorem wr_free (d : Dev) (f : Fld) (v : Nat) : (wr d f v).free = d.free := rfl
@[simp] theorem wr_resp (d : Dev) (f : Fld) (v : Nat) : (wr d f v).resp = d.resp := rfl
@[simp] theorem wr_bootOk (d : Dev) (f : Fld) (v : Nat) : (wr d f v).bootOk = d.bootOk := rfl
@[simp] theorem wr_staged (d : Dev) (f : Fld) (v : Nat) : (wr d f v).staged = d.staged := rfl
@[simp] theorem wr_hostCyc (d : Dev) (f : Fld) (v : Nat) : (wr d f v).hostCyc = d.hostCyc := rfl
@[simp] theorem wr_apply (d : Dev) (f : Fld) (v : Nat) : (wr d f v).apply = d.apply := rfl
@[simp] theorem wr_zreq (d : Dev) (f : Fld) (v : Nat) : (wr d f v).zreq = d.zreq := rfl
@[simp] theorem wr_neve (d : Dev) (f : Fld) (v : Nat) : (wr d f v).neve = d.neve := rfl
@[simp] theorem wr_dram (d : Dev) (f : Fld) (v : Nat) : (wr d f v).dram = d.dram := rfl
@[simp] theorem wr_mor (d : Dev) (f : Fld) (v : Nat) : (wr d f v).mor = d.mor := rfl
@[simp] theorem wr_firn (d : Dev) (f : Fld) (v : Nat) : (wr d f v).firn = d.firn := rfl
@[simp] theorem wr_floe (d : Dev) (f : Fld) (v : Nat) : (wr d f v).floe = d.floe := rfl
@[simp] theorem wr_meas (d : Dev) (f : Fld) (v : Nat) : (wr d f v).meas = d.meas := rfl
@[simp] theorem wr_led (d : Dev) (f : Fld) (v : Nat) : (wr d f v).led = d.led := rfl
@[simp] theorem wr_ser (d : Dev) (f : Fld) (v : Nat) : (wr d f v).ser = d.ser := rfl
@[simp] theorem wr_net (d : Dev) (f : Fld) (v : Nat) : (wr d f v).net = d.net := rfl
@[simp] theorem wr_tri (d : Dev) (f : Fld) (v : Nat) : (wr d f v).tri = d.tri := rfl
@[simp] theorem wr_rime (d : Dev) (f : Fld) (v : Nat) : (wr d f v).rime = d.rime := rfl
@[simp] theorem wr_sch (d : Dev) (f : Fld) (v : Nat) : (wr d f v).sch = d.sch := rfl
@[simp] theorem wr_safe (d : Dev) (f : Fld) (v : Nat) : (wr d f v).safe = d.safe := rfl
@[simp] theorem wr_axis (d : Dev) (f : Fld) (v : Nat) : (wr d f v).axis = d.axis := rfl
@[simp] theorem wr_aux (d : Dev) (f : Fld) (v : Nat) : (wr d f v).aux = d.aux := rfl
@[simp] theorem wr_boot (d : Dev) (f : Fld) (v : Nat) : (wr d f v).boot = d.boot := rfl
@[simp] theorem wr_pwr (d : Dev) (f : Fld) (v : Nat) : (wr d f v).pwr = d.pwr := rfl
@[simp] theorem wr_eng (d : Dev) (f : Fld) (v : Nat) : (wr d f v).eng = d.eng := rfl
@[simp] theorem wr_chan (d : Dev) (f : Fld) (v : Nat) : (wr d f v).chan = d.chan := rfl
@[simp] theorem wr_grade (d : Dev) (f : Fld) (v : Nat) : (wr d f v).grade = d.grade := rfl
@[simp] theorem wr_seq (d : Dev) (f : Fld) (v : Nat) : (wr d f v).seq = d.seq := rfl
@[simp] theorem wr_host (d : Dev) (f : Fld) (v : Nat) : (wr d f v).host = d.host := rfl
@[simp] theorem wr_recq (d : Dev) (f : Fld) (v : Nat) : (wr d f v).recq = d.recq := rfl
@[simp] theorem wr_chanWas (d : Dev) (f : Fld) (v : Nat) : (wr d f v).chanWas = d.chanWas := rfl
@[simp] theorem wr_gradeWas (d : Dev) (f : Fld) (v : Nat) : (wr d f v).gradeWas = d.gradeWas := rfl
@[simp] theorem wr_seqWas (d : Dev) (f : Fld) (v : Nat) : (wr d f v).seqWas = d.seqWas := rfl
@[simp] theorem wr_barsWas (d : Dev) (f : Fld) (v : Nat) : (wr d f v).barsWas = d.barsWas := rfl
@[simp] theorem wr_evqWas (d : Dev) (f : Fld) (v : Nat) : (wr d f v).evqWas = d.evqWas := rfl
@[simp] theorem wr_inc (d : Dev) (f : Fld) (v : Nat) : (wr d f v).inc = d.inc := rfl

/-! ### A write of a one-bit register -/

@[simp] theorem wrB_k (d : Dev) (f : Fld) (b : Bool) : (wrB d f b).k = d.k := rfl
@[simp] theorem wrB_winTick (d : Dev) (f : Fld) (b : Bool) : (wrB d f b).winTick = d.winTick := rfl
@[simp] theorem wrB_phase (d : Dev) (f : Fld) (b : Bool) : (wrB d f b).phase = d.phase := rfl
@[simp] theorem wrB_free (d : Dev) (f : Fld) (b : Bool) : (wrB d f b).free = d.free := rfl
@[simp] theorem wrB_resp (d : Dev) (f : Fld) (b : Bool) : (wrB d f b).resp = d.resp := rfl
@[simp] theorem wrB_bootOk (d : Dev) (f : Fld) (b : Bool) : (wrB d f b).bootOk = d.bootOk := rfl
@[simp] theorem wrB_staged (d : Dev) (f : Fld) (b : Bool) : (wrB d f b).staged = d.staged := rfl
@[simp] theorem wrB_hostCyc (d : Dev) (f : Fld) (b : Bool) : (wrB d f b).hostCyc = d.hostCyc := rfl
@[simp] theorem wrB_apply (d : Dev) (f : Fld) (b : Bool) : (wrB d f b).apply = d.apply := rfl
@[simp] theorem wrB_zreq (d : Dev) (f : Fld) (b : Bool) : (wrB d f b).zreq = d.zreq := rfl
@[simp] theorem wrB_neve (d : Dev) (f : Fld) (b : Bool) : (wrB d f b).neve = d.neve := rfl
@[simp] theorem wrB_dram (d : Dev) (f : Fld) (b : Bool) : (wrB d f b).dram = d.dram := rfl
@[simp] theorem wrB_mor (d : Dev) (f : Fld) (b : Bool) : (wrB d f b).mor = d.mor := rfl
@[simp] theorem wrB_firn (d : Dev) (f : Fld) (b : Bool) : (wrB d f b).firn = d.firn := rfl
@[simp] theorem wrB_floe (d : Dev) (f : Fld) (b : Bool) : (wrB d f b).floe = d.floe := rfl
@[simp] theorem wrB_meas (d : Dev) (f : Fld) (b : Bool) : (wrB d f b).meas = d.meas := rfl
@[simp] theorem wrB_led (d : Dev) (f : Fld) (b : Bool) : (wrB d f b).led = d.led := rfl
@[simp] theorem wrB_ser (d : Dev) (f : Fld) (b : Bool) : (wrB d f b).ser = d.ser := rfl
@[simp] theorem wrB_net (d : Dev) (f : Fld) (b : Bool) : (wrB d f b).net = d.net := rfl
@[simp] theorem wrB_tri (d : Dev) (f : Fld) (b : Bool) : (wrB d f b).tri = d.tri := rfl
@[simp] theorem wrB_rime (d : Dev) (f : Fld) (b : Bool) : (wrB d f b).rime = d.rime := rfl
@[simp] theorem wrB_sch (d : Dev) (f : Fld) (b : Bool) : (wrB d f b).sch = d.sch := rfl
@[simp] theorem wrB_safe (d : Dev) (f : Fld) (b : Bool) : (wrB d f b).safe = d.safe := rfl
@[simp] theorem wrB_axis (d : Dev) (f : Fld) (b : Bool) : (wrB d f b).axis = d.axis := rfl
@[simp] theorem wrB_aux (d : Dev) (f : Fld) (b : Bool) : (wrB d f b).aux = d.aux := rfl
@[simp] theorem wrB_boot (d : Dev) (f : Fld) (b : Bool) : (wrB d f b).boot = d.boot := rfl
@[simp] theorem wrB_pwr (d : Dev) (f : Fld) (b : Bool) : (wrB d f b).pwr = d.pwr := rfl
@[simp] theorem wrB_eng (d : Dev) (f : Fld) (b : Bool) : (wrB d f b).eng = d.eng := rfl
@[simp] theorem wrB_chan (d : Dev) (f : Fld) (b : Bool) : (wrB d f b).chan = d.chan := rfl
@[simp] theorem wrB_grade (d : Dev) (f : Fld) (b : Bool) : (wrB d f b).grade = d.grade := rfl
@[simp] theorem wrB_seq (d : Dev) (f : Fld) (b : Bool) : (wrB d f b).seq = d.seq := rfl
@[simp] theorem wrB_host (d : Dev) (f : Fld) (b : Bool) : (wrB d f b).host = d.host := rfl
@[simp] theorem wrB_recq (d : Dev) (f : Fld) (b : Bool) : (wrB d f b).recq = d.recq := rfl
@[simp] theorem wrB_chanWas (d : Dev) (f : Fld) (b : Bool) : (wrB d f b).chanWas = d.chanWas := rfl
@[simp] theorem wrB_gradeWas (d : Dev) (f : Fld) (b : Bool) : (wrB d f b).gradeWas = d.gradeWas := rfl
@[simp] theorem wrB_seqWas (d : Dev) (f : Fld) (b : Bool) : (wrB d f b).seqWas = d.seqWas := rfl
@[simp] theorem wrB_barsWas (d : Dev) (f : Fld) (b : Bool) : (wrB d f b).barsWas = d.barsWas := rfl
@[simp] theorem wrB_evqWas (d : Dev) (f : Fld) (b : Bool) : (wrB d f b).evqWas = d.evqWas := rfl
@[simp] theorem wrB_inc (d : Dev) (f : Fld) (b : Bool) : (wrB d f b).inc = d.inc := rfl

/-! ### A write of one bit of a field -/

@[simp] theorem wrFBit_k (d : Dev) (f : Fld) (i : Nat) (b : Bool) : (wrFBit d f i b).k = d.k := rfl
@[simp] theorem wrFBit_winTick (d : Dev) (f : Fld) (i : Nat) (b : Bool) : (wrFBit d f i b).winTick = d.winTick := rfl
@[simp] theorem wrFBit_phase (d : Dev) (f : Fld) (i : Nat) (b : Bool) : (wrFBit d f i b).phase = d.phase := rfl
@[simp] theorem wrFBit_free (d : Dev) (f : Fld) (i : Nat) (b : Bool) : (wrFBit d f i b).free = d.free := rfl
@[simp] theorem wrFBit_resp (d : Dev) (f : Fld) (i : Nat) (b : Bool) : (wrFBit d f i b).resp = d.resp := rfl
@[simp] theorem wrFBit_bootOk (d : Dev) (f : Fld) (i : Nat) (b : Bool) : (wrFBit d f i b).bootOk = d.bootOk := rfl
@[simp] theorem wrFBit_staged (d : Dev) (f : Fld) (i : Nat) (b : Bool) : (wrFBit d f i b).staged = d.staged := rfl
@[simp] theorem wrFBit_hostCyc (d : Dev) (f : Fld) (i : Nat) (b : Bool) : (wrFBit d f i b).hostCyc = d.hostCyc := rfl
@[simp] theorem wrFBit_apply (d : Dev) (f : Fld) (i : Nat) (b : Bool) : (wrFBit d f i b).apply = d.apply := rfl
@[simp] theorem wrFBit_zreq (d : Dev) (f : Fld) (i : Nat) (b : Bool) : (wrFBit d f i b).zreq = d.zreq := rfl
@[simp] theorem wrFBit_neve (d : Dev) (f : Fld) (i : Nat) (b : Bool) : (wrFBit d f i b).neve = d.neve := rfl
@[simp] theorem wrFBit_dram (d : Dev) (f : Fld) (i : Nat) (b : Bool) : (wrFBit d f i b).dram = d.dram := rfl
@[simp] theorem wrFBit_mor (d : Dev) (f : Fld) (i : Nat) (b : Bool) : (wrFBit d f i b).mor = d.mor := rfl
@[simp] theorem wrFBit_firn (d : Dev) (f : Fld) (i : Nat) (b : Bool) : (wrFBit d f i b).firn = d.firn := rfl
@[simp] theorem wrFBit_floe (d : Dev) (f : Fld) (i : Nat) (b : Bool) : (wrFBit d f i b).floe = d.floe := rfl
@[simp] theorem wrFBit_meas (d : Dev) (f : Fld) (i : Nat) (b : Bool) : (wrFBit d f i b).meas = d.meas := rfl
@[simp] theorem wrFBit_led (d : Dev) (f : Fld) (i : Nat) (b : Bool) : (wrFBit d f i b).led = d.led := rfl
@[simp] theorem wrFBit_ser (d : Dev) (f : Fld) (i : Nat) (b : Bool) : (wrFBit d f i b).ser = d.ser := rfl
@[simp] theorem wrFBit_net (d : Dev) (f : Fld) (i : Nat) (b : Bool) : (wrFBit d f i b).net = d.net := rfl
@[simp] theorem wrFBit_tri (d : Dev) (f : Fld) (i : Nat) (b : Bool) : (wrFBit d f i b).tri = d.tri := rfl
@[simp] theorem wrFBit_rime (d : Dev) (f : Fld) (i : Nat) (b : Bool) : (wrFBit d f i b).rime = d.rime := rfl
@[simp] theorem wrFBit_sch (d : Dev) (f : Fld) (i : Nat) (b : Bool) : (wrFBit d f i b).sch = d.sch := rfl
@[simp] theorem wrFBit_safe (d : Dev) (f : Fld) (i : Nat) (b : Bool) : (wrFBit d f i b).safe = d.safe := rfl
@[simp] theorem wrFBit_axis (d : Dev) (f : Fld) (i : Nat) (b : Bool) : (wrFBit d f i b).axis = d.axis := rfl
@[simp] theorem wrFBit_aux (d : Dev) (f : Fld) (i : Nat) (b : Bool) : (wrFBit d f i b).aux = d.aux := rfl
@[simp] theorem wrFBit_boot (d : Dev) (f : Fld) (i : Nat) (b : Bool) : (wrFBit d f i b).boot = d.boot := rfl
@[simp] theorem wrFBit_pwr (d : Dev) (f : Fld) (i : Nat) (b : Bool) : (wrFBit d f i b).pwr = d.pwr := rfl
@[simp] theorem wrFBit_eng (d : Dev) (f : Fld) (i : Nat) (b : Bool) : (wrFBit d f i b).eng = d.eng := rfl
@[simp] theorem wrFBit_chan (d : Dev) (f : Fld) (i : Nat) (b : Bool) : (wrFBit d f i b).chan = d.chan := rfl
@[simp] theorem wrFBit_grade (d : Dev) (f : Fld) (i : Nat) (b : Bool) : (wrFBit d f i b).grade = d.grade := rfl
@[simp] theorem wrFBit_seq (d : Dev) (f : Fld) (i : Nat) (b : Bool) : (wrFBit d f i b).seq = d.seq := rfl
@[simp] theorem wrFBit_host (d : Dev) (f : Fld) (i : Nat) (b : Bool) : (wrFBit d f i b).host = d.host := rfl
@[simp] theorem wrFBit_recq (d : Dev) (f : Fld) (i : Nat) (b : Bool) : (wrFBit d f i b).recq = d.recq := rfl
@[simp] theorem wrFBit_chanWas (d : Dev) (f : Fld) (i : Nat) (b : Bool) : (wrFBit d f i b).chanWas = d.chanWas := rfl
@[simp] theorem wrFBit_gradeWas (d : Dev) (f : Fld) (i : Nat) (b : Bool) : (wrFBit d f i b).gradeWas = d.gradeWas := rfl
@[simp] theorem wrFBit_seqWas (d : Dev) (f : Fld) (i : Nat) (b : Bool) : (wrFBit d f i b).seqWas = d.seqWas := rfl
@[simp] theorem wrFBit_barsWas (d : Dev) (f : Fld) (i : Nat) (b : Bool) : (wrFBit d f i b).barsWas = d.barsWas := rfl
@[simp] theorem wrFBit_evqWas (d : Dev) (f : Fld) (i : Nat) (b : Bool) : (wrFBit d f i b).evqWas = d.evqWas := rfl
@[simp] theorem wrFBit_inc (d : Dev) (f : Fld) (i : Nat) (b : Bool) : (wrFBit d f i b).inc = d.inc := rfl

/-! ### A count in a register -/

@[simp] theorem incSat_k (d : Dev) (f : Fld) (n : Nat) : (incSat d f n).k = d.k := rfl
@[simp] theorem incSat_winTick (d : Dev) (f : Fld) (n : Nat) : (incSat d f n).winTick = d.winTick := rfl
@[simp] theorem incSat_phase (d : Dev) (f : Fld) (n : Nat) : (incSat d f n).phase = d.phase := rfl
@[simp] theorem incSat_free (d : Dev) (f : Fld) (n : Nat) : (incSat d f n).free = d.free := rfl
@[simp] theorem incSat_resp (d : Dev) (f : Fld) (n : Nat) : (incSat d f n).resp = d.resp := rfl
@[simp] theorem incSat_bootOk (d : Dev) (f : Fld) (n : Nat) : (incSat d f n).bootOk = d.bootOk := rfl
@[simp] theorem incSat_staged (d : Dev) (f : Fld) (n : Nat) : (incSat d f n).staged = d.staged := rfl
@[simp] theorem incSat_hostCyc (d : Dev) (f : Fld) (n : Nat) : (incSat d f n).hostCyc = d.hostCyc := rfl
@[simp] theorem incSat_apply (d : Dev) (f : Fld) (n : Nat) : (incSat d f n).apply = d.apply := rfl
@[simp] theorem incSat_zreq (d : Dev) (f : Fld) (n : Nat) : (incSat d f n).zreq = d.zreq := rfl
@[simp] theorem incSat_neve (d : Dev) (f : Fld) (n : Nat) : (incSat d f n).neve = d.neve := rfl
@[simp] theorem incSat_dram (d : Dev) (f : Fld) (n : Nat) : (incSat d f n).dram = d.dram := rfl
@[simp] theorem incSat_mor (d : Dev) (f : Fld) (n : Nat) : (incSat d f n).mor = d.mor := rfl
@[simp] theorem incSat_firn (d : Dev) (f : Fld) (n : Nat) : (incSat d f n).firn = d.firn := rfl
@[simp] theorem incSat_floe (d : Dev) (f : Fld) (n : Nat) : (incSat d f n).floe = d.floe := rfl
@[simp] theorem incSat_meas (d : Dev) (f : Fld) (n : Nat) : (incSat d f n).meas = d.meas := rfl
@[simp] theorem incSat_led (d : Dev) (f : Fld) (n : Nat) : (incSat d f n).led = d.led := rfl
@[simp] theorem incSat_ser (d : Dev) (f : Fld) (n : Nat) : (incSat d f n).ser = d.ser := rfl
@[simp] theorem incSat_net (d : Dev) (f : Fld) (n : Nat) : (incSat d f n).net = d.net := rfl
@[simp] theorem incSat_tri (d : Dev) (f : Fld) (n : Nat) : (incSat d f n).tri = d.tri := rfl
@[simp] theorem incSat_rime (d : Dev) (f : Fld) (n : Nat) : (incSat d f n).rime = d.rime := rfl
@[simp] theorem incSat_sch (d : Dev) (f : Fld) (n : Nat) : (incSat d f n).sch = d.sch := rfl
@[simp] theorem incSat_safe (d : Dev) (f : Fld) (n : Nat) : (incSat d f n).safe = d.safe := rfl
@[simp] theorem incSat_axis (d : Dev) (f : Fld) (n : Nat) : (incSat d f n).axis = d.axis := rfl
@[simp] theorem incSat_aux (d : Dev) (f : Fld) (n : Nat) : (incSat d f n).aux = d.aux := rfl
@[simp] theorem incSat_boot (d : Dev) (f : Fld) (n : Nat) : (incSat d f n).boot = d.boot := rfl
@[simp] theorem incSat_pwr (d : Dev) (f : Fld) (n : Nat) : (incSat d f n).pwr = d.pwr := rfl
@[simp] theorem incSat_eng (d : Dev) (f : Fld) (n : Nat) : (incSat d f n).eng = d.eng := rfl
@[simp] theorem incSat_chan (d : Dev) (f : Fld) (n : Nat) : (incSat d f n).chan = d.chan := rfl
@[simp] theorem incSat_grade (d : Dev) (f : Fld) (n : Nat) : (incSat d f n).grade = d.grade := rfl
@[simp] theorem incSat_seq (d : Dev) (f : Fld) (n : Nat) : (incSat d f n).seq = d.seq := rfl
@[simp] theorem incSat_host (d : Dev) (f : Fld) (n : Nat) : (incSat d f n).host = d.host := rfl
@[simp] theorem incSat_recq (d : Dev) (f : Fld) (n : Nat) : (incSat d f n).recq = d.recq := rfl
@[simp] theorem incSat_chanWas (d : Dev) (f : Fld) (n : Nat) : (incSat d f n).chanWas = d.chanWas := rfl
@[simp] theorem incSat_gradeWas (d : Dev) (f : Fld) (n : Nat) : (incSat d f n).gradeWas = d.gradeWas := rfl
@[simp] theorem incSat_seqWas (d : Dev) (f : Fld) (n : Nat) : (incSat d f n).seqWas = d.seqWas := rfl
@[simp] theorem incSat_barsWas (d : Dev) (f : Fld) (n : Nat) : (incSat d f n).barsWas = d.barsWas := rfl
@[simp] theorem incSat_evqWas (d : Dev) (f : Fld) (n : Nat) : (incSat d f n).evqWas = d.evqWas := rfl
@[simp] theorem incSat_inc (d : Dev) (f : Fld) (n : Nat) : (incSat d f n).inc = d.inc := rfl

/-! ### A raised event changes the queue of events and the counter of free values -/

@[simp] theorem raise_regs (d : Dev) (src ut ui d0 d1 : Nat) : (raise d src ut ui d0 d1).regs = d.regs := rfl
@[simp] theorem raise_k (d : Dev) (src ut ui d0 d1 : Nat) : (raise d src ut ui d0 d1).k = d.k := rfl
@[simp] theorem raise_winTick (d : Dev) (src ut ui d0 d1 : Nat) : (raise d src ut ui d0 d1).winTick = d.winTick := rfl
@[simp] theorem raise_phase (d : Dev) (src ut ui d0 d1 : Nat) : (raise d src ut ui d0 d1).phase = d.phase := rfl
@[simp] theorem raise_resp (d : Dev) (src ut ui d0 d1 : Nat) : (raise d src ut ui d0 d1).resp = d.resp := rfl
@[simp] theorem raise_bootOk (d : Dev) (src ut ui d0 d1 : Nat) : (raise d src ut ui d0 d1).bootOk = d.bootOk := rfl
@[simp] theorem raise_staged (d : Dev) (src ut ui d0 d1 : Nat) : (raise d src ut ui d0 d1).staged = d.staged := rfl
@[simp] theorem raise_hostCyc (d : Dev) (src ut ui d0 d1 : Nat) : (raise d src ut ui d0 d1).hostCyc = d.hostCyc := rfl
@[simp] theorem raise_apply (d : Dev) (src ut ui d0 d1 : Nat) : (raise d src ut ui d0 d1).apply = d.apply := rfl
@[simp] theorem raise_zreq (d : Dev) (src ut ui d0 d1 : Nat) : (raise d src ut ui d0 d1).zreq = d.zreq := rfl
@[simp] theorem raise_neve (d : Dev) (src ut ui d0 d1 : Nat) : (raise d src ut ui d0 d1).neve = d.neve := rfl
@[simp] theorem raise_dram (d : Dev) (src ut ui d0 d1 : Nat) : (raise d src ut ui d0 d1).dram = d.dram := rfl
@[simp] theorem raise_firn (d : Dev) (src ut ui d0 d1 : Nat) : (raise d src ut ui d0 d1).firn = d.firn := rfl
@[simp] theorem raise_floe (d : Dev) (src ut ui d0 d1 : Nat) : (raise d src ut ui d0 d1).floe = d.floe := rfl
@[simp] theorem raise_meas (d : Dev) (src ut ui d0 d1 : Nat) : (raise d src ut ui d0 d1).meas = d.meas := rfl
@[simp] theorem raise_led (d : Dev) (src ut ui d0 d1 : Nat) : (raise d src ut ui d0 d1).led = d.led := rfl
@[simp] theorem raise_ser (d : Dev) (src ut ui d0 d1 : Nat) : (raise d src ut ui d0 d1).ser = d.ser := rfl
@[simp] theorem raise_net (d : Dev) (src ut ui d0 d1 : Nat) : (raise d src ut ui d0 d1).net = d.net := rfl
@[simp] theorem raise_tri (d : Dev) (src ut ui d0 d1 : Nat) : (raise d src ut ui d0 d1).tri = d.tri := rfl
@[simp] theorem raise_rime (d : Dev) (src ut ui d0 d1 : Nat) : (raise d src ut ui d0 d1).rime = d.rime := rfl
@[simp] theorem raise_sch (d : Dev) (src ut ui d0 d1 : Nat) : (raise d src ut ui d0 d1).sch = d.sch := rfl
@[simp] theorem raise_safe (d : Dev) (src ut ui d0 d1 : Nat) : (raise d src ut ui d0 d1).safe = d.safe := rfl
@[simp] theorem raise_axis (d : Dev) (src ut ui d0 d1 : Nat) : (raise d src ut ui d0 d1).axis = d.axis := rfl
@[simp] theorem raise_aux (d : Dev) (src ut ui d0 d1 : Nat) : (raise d src ut ui d0 d1).aux = d.aux := rfl
@[simp] theorem raise_boot (d : Dev) (src ut ui d0 d1 : Nat) : (raise d src ut ui d0 d1).boot = d.boot := rfl
@[simp] theorem raise_pwr (d : Dev) (src ut ui d0 d1 : Nat) : (raise d src ut ui d0 d1).pwr = d.pwr := rfl
@[simp] theorem raise_eng (d : Dev) (src ut ui d0 d1 : Nat) : (raise d src ut ui d0 d1).eng = d.eng := rfl
@[simp] theorem raise_chan (d : Dev) (src ut ui d0 d1 : Nat) : (raise d src ut ui d0 d1).chan = d.chan := rfl
@[simp] theorem raise_grade (d : Dev) (src ut ui d0 d1 : Nat) : (raise d src ut ui d0 d1).grade = d.grade := rfl
@[simp] theorem raise_seq (d : Dev) (src ut ui d0 d1 : Nat) : (raise d src ut ui d0 d1).seq = d.seq := rfl
@[simp] theorem raise_host (d : Dev) (src ut ui d0 d1 : Nat) : (raise d src ut ui d0 d1).host = d.host := rfl
@[simp] theorem raise_recq (d : Dev) (src ut ui d0 d1 : Nat) : (raise d src ut ui d0 d1).recq = d.recq := rfl
@[simp] theorem raise_chanWas (d : Dev) (src ut ui d0 d1 : Nat) : (raise d src ut ui d0 d1).chanWas = d.chanWas := rfl
@[simp] theorem raise_gradeWas (d : Dev) (src ut ui d0 d1 : Nat) : (raise d src ut ui d0 d1).gradeWas = d.gradeWas := rfl
@[simp] theorem raise_seqWas (d : Dev) (src ut ui d0 d1 : Nat) : (raise d src ut ui d0 d1).seqWas = d.seqWas := rfl
@[simp] theorem raise_barsWas (d : Dev) (src ut ui d0 d1 : Nat) : (raise d src ut ui d0 d1).barsWas = d.barsWas := rfl
@[simp] theorem raise_evqWas (d : Dev) (src ut ui d0 d1 : Nat) : (raise d src ut ui d0 d1).evqWas = d.evqWas := rfl
@[simp] theorem raise_inc (d : Dev) (src ut ui d0 d1 : Nat) : (raise d src ut ui d0 d1).inc = d.inc := rfl

/-! ### A used free value changes their counter alone -/

@[simp] theorem useFree_regs (d : Dev) : (useFree d).regs = d.regs := rfl
@[simp] theorem useFree_k (d : Dev) : (useFree d).k = d.k := rfl
@[simp] theorem useFree_winTick (d : Dev) : (useFree d).winTick = d.winTick := rfl
@[simp] theorem useFree_phase (d : Dev) : (useFree d).phase = d.phase := rfl
@[simp] theorem useFree_resp (d : Dev) : (useFree d).resp = d.resp := rfl
@[simp] theorem useFree_bootOk (d : Dev) : (useFree d).bootOk = d.bootOk := rfl
@[simp] theorem useFree_staged (d : Dev) : (useFree d).staged = d.staged := rfl
@[simp] theorem useFree_hostCyc (d : Dev) : (useFree d).hostCyc = d.hostCyc := rfl
@[simp] theorem useFree_apply (d : Dev) : (useFree d).apply = d.apply := rfl
@[simp] theorem useFree_zreq (d : Dev) : (useFree d).zreq = d.zreq := rfl
@[simp] theorem useFree_neve (d : Dev) : (useFree d).neve = d.neve := rfl
@[simp] theorem useFree_dram (d : Dev) : (useFree d).dram = d.dram := rfl
@[simp] theorem useFree_mor (d : Dev) : (useFree d).mor = d.mor := rfl
@[simp] theorem useFree_firn (d : Dev) : (useFree d).firn = d.firn := rfl
@[simp] theorem useFree_floe (d : Dev) : (useFree d).floe = d.floe := rfl
@[simp] theorem useFree_meas (d : Dev) : (useFree d).meas = d.meas := rfl
@[simp] theorem useFree_led (d : Dev) : (useFree d).led = d.led := rfl
@[simp] theorem useFree_ser (d : Dev) : (useFree d).ser = d.ser := rfl
@[simp] theorem useFree_net (d : Dev) : (useFree d).net = d.net := rfl
@[simp] theorem useFree_tri (d : Dev) : (useFree d).tri = d.tri := rfl
@[simp] theorem useFree_rime (d : Dev) : (useFree d).rime = d.rime := rfl
@[simp] theorem useFree_sch (d : Dev) : (useFree d).sch = d.sch := rfl
@[simp] theorem useFree_safe (d : Dev) : (useFree d).safe = d.safe := rfl
@[simp] theorem useFree_axis (d : Dev) : (useFree d).axis = d.axis := rfl
@[simp] theorem useFree_aux (d : Dev) : (useFree d).aux = d.aux := rfl
@[simp] theorem useFree_boot (d : Dev) : (useFree d).boot = d.boot := rfl
@[simp] theorem useFree_pwr (d : Dev) : (useFree d).pwr = d.pwr := rfl
@[simp] theorem useFree_eng (d : Dev) : (useFree d).eng = d.eng := rfl
@[simp] theorem useFree_chan (d : Dev) : (useFree d).chan = d.chan := rfl
@[simp] theorem useFree_grade (d : Dev) : (useFree d).grade = d.grade := rfl
@[simp] theorem useFree_seq (d : Dev) : (useFree d).seq = d.seq := rfl
@[simp] theorem useFree_host (d : Dev) : (useFree d).host = d.host := rfl
@[simp] theorem useFree_recq (d : Dev) : (useFree d).recq = d.recq := rfl
@[simp] theorem useFree_chanWas (d : Dev) : (useFree d).chanWas = d.chanWas := rfl
@[simp] theorem useFree_gradeWas (d : Dev) : (useFree d).gradeWas = d.gradeWas := rfl
@[simp] theorem useFree_seqWas (d : Dev) : (useFree d).seqWas = d.seqWas := rfl
@[simp] theorem useFree_barsWas (d : Dev) : (useFree d).barsWas = d.barsWas := rfl
@[simp] theorem useFree_evqWas (d : Dev) : (useFree d).evqWas = d.evqWas := rfl
@[simp] theorem useFree_inc (d : Dev) : (useFree d).inc = d.inc := rfl

/-! ### A served access changes the response alone -/

@[simp] theorem okResp_regs (d : Dev) (x : Nat) : (okResp d x).regs = d.regs := rfl
@[simp] theorem okResp_k (d : Dev) (x : Nat) : (okResp d x).k = d.k := rfl
@[simp] theorem okResp_winTick (d : Dev) (x : Nat) : (okResp d x).winTick = d.winTick := rfl
@[simp] theorem okResp_phase (d : Dev) (x : Nat) : (okResp d x).phase = d.phase := rfl
@[simp] theorem okResp_free (d : Dev) (x : Nat) : (okResp d x).free = d.free := rfl
@[simp] theorem okResp_bootOk (d : Dev) (x : Nat) : (okResp d x).bootOk = d.bootOk := rfl
@[simp] theorem okResp_staged (d : Dev) (x : Nat) : (okResp d x).staged = d.staged := rfl
@[simp] theorem okResp_hostCyc (d : Dev) (x : Nat) : (okResp d x).hostCyc = d.hostCyc := rfl
@[simp] theorem okResp_apply (d : Dev) (x : Nat) : (okResp d x).apply = d.apply := rfl
@[simp] theorem okResp_zreq (d : Dev) (x : Nat) : (okResp d x).zreq = d.zreq := rfl
@[simp] theorem okResp_neve (d : Dev) (x : Nat) : (okResp d x).neve = d.neve := rfl
@[simp] theorem okResp_dram (d : Dev) (x : Nat) : (okResp d x).dram = d.dram := rfl
@[simp] theorem okResp_mor (d : Dev) (x : Nat) : (okResp d x).mor = d.mor := rfl
@[simp] theorem okResp_firn (d : Dev) (x : Nat) : (okResp d x).firn = d.firn := rfl
@[simp] theorem okResp_floe (d : Dev) (x : Nat) : (okResp d x).floe = d.floe := rfl
@[simp] theorem okResp_meas (d : Dev) (x : Nat) : (okResp d x).meas = d.meas := rfl
@[simp] theorem okResp_led (d : Dev) (x : Nat) : (okResp d x).led = d.led := rfl
@[simp] theorem okResp_ser (d : Dev) (x : Nat) : (okResp d x).ser = d.ser := rfl
@[simp] theorem okResp_net (d : Dev) (x : Nat) : (okResp d x).net = d.net := rfl
@[simp] theorem okResp_tri (d : Dev) (x : Nat) : (okResp d x).tri = d.tri := rfl
@[simp] theorem okResp_rime (d : Dev) (x : Nat) : (okResp d x).rime = d.rime := rfl
@[simp] theorem okResp_sch (d : Dev) (x : Nat) : (okResp d x).sch = d.sch := rfl
@[simp] theorem okResp_safe (d : Dev) (x : Nat) : (okResp d x).safe = d.safe := rfl
@[simp] theorem okResp_axis (d : Dev) (x : Nat) : (okResp d x).axis = d.axis := rfl
@[simp] theorem okResp_aux (d : Dev) (x : Nat) : (okResp d x).aux = d.aux := rfl
@[simp] theorem okResp_boot (d : Dev) (x : Nat) : (okResp d x).boot = d.boot := rfl
@[simp] theorem okResp_pwr (d : Dev) (x : Nat) : (okResp d x).pwr = d.pwr := rfl
@[simp] theorem okResp_eng (d : Dev) (x : Nat) : (okResp d x).eng = d.eng := rfl
@[simp] theorem okResp_chan (d : Dev) (x : Nat) : (okResp d x).chan = d.chan := rfl
@[simp] theorem okResp_grade (d : Dev) (x : Nat) : (okResp d x).grade = d.grade := rfl
@[simp] theorem okResp_seq (d : Dev) (x : Nat) : (okResp d x).seq = d.seq := rfl
@[simp] theorem okResp_host (d : Dev) (x : Nat) : (okResp d x).host = d.host := rfl
@[simp] theorem okResp_recq (d : Dev) (x : Nat) : (okResp d x).recq = d.recq := rfl
@[simp] theorem okResp_chanWas (d : Dev) (x : Nat) : (okResp d x).chanWas = d.chanWas := rfl
@[simp] theorem okResp_gradeWas (d : Dev) (x : Nat) : (okResp d x).gradeWas = d.gradeWas := rfl
@[simp] theorem okResp_seqWas (d : Dev) (x : Nat) : (okResp d x).seqWas = d.seqWas := rfl
@[simp] theorem okResp_barsWas (d : Dev) (x : Nat) : (okResp d x).barsWas = d.barsWas := rfl
@[simp] theorem okResp_evqWas (d : Dev) (x : Nat) : (okResp d x).evqWas = d.evqWas := rfl
@[simp] theorem okResp_inc (d : Dev) (x : Nat) : (okResp d x).inc = d.inc := rfl

/-! ### The log of a violation changes registers, the queue of events and the counter of free values -/

@[simp] theorem fwlLog_k (d : Dev) (req : Requester) (addr code : Nat) (b : Bool) : (fwlLog d req addr code b).k = d.k := (rfl)
@[simp] theorem fwlLog_winTick (d : Dev) (req : Requester) (addr code : Nat) (b : Bool) : (fwlLog d req addr code b).winTick = d.winTick := (rfl)
@[simp] theorem fwlLog_phase (d : Dev) (req : Requester) (addr code : Nat) (b : Bool) : (fwlLog d req addr code b).phase = d.phase := (rfl)
@[simp] theorem fwlLog_resp (d : Dev) (req : Requester) (addr code : Nat) (b : Bool) : (fwlLog d req addr code b).resp = d.resp := (rfl)
@[simp] theorem fwlLog_bootOk (d : Dev) (req : Requester) (addr code : Nat) (b : Bool) : (fwlLog d req addr code b).bootOk = d.bootOk := (rfl)
@[simp] theorem fwlLog_staged (d : Dev) (req : Requester) (addr code : Nat) (b : Bool) : (fwlLog d req addr code b).staged = d.staged := (rfl)
@[simp] theorem fwlLog_hostCyc (d : Dev) (req : Requester) (addr code : Nat) (b : Bool) : (fwlLog d req addr code b).hostCyc = d.hostCyc := (rfl)
@[simp] theorem fwlLog_apply (d : Dev) (req : Requester) (addr code : Nat) (b : Bool) : (fwlLog d req addr code b).apply = d.apply := (rfl)
@[simp] theorem fwlLog_zreq (d : Dev) (req : Requester) (addr code : Nat) (b : Bool) : (fwlLog d req addr code b).zreq = d.zreq := (rfl)
@[simp] theorem fwlLog_neve (d : Dev) (req : Requester) (addr code : Nat) (b : Bool) : (fwlLog d req addr code b).neve = d.neve := (rfl)
@[simp] theorem fwlLog_dram (d : Dev) (req : Requester) (addr code : Nat) (b : Bool) : (fwlLog d req addr code b).dram = d.dram := (rfl)
@[simp] theorem fwlLog_firn (d : Dev) (req : Requester) (addr code : Nat) (b : Bool) : (fwlLog d req addr code b).firn = d.firn := (rfl)
@[simp] theorem fwlLog_floe (d : Dev) (req : Requester) (addr code : Nat) (b : Bool) : (fwlLog d req addr code b).floe = d.floe := (rfl)
@[simp] theorem fwlLog_meas (d : Dev) (req : Requester) (addr code : Nat) (b : Bool) : (fwlLog d req addr code b).meas = d.meas := (rfl)
@[simp] theorem fwlLog_led (d : Dev) (req : Requester) (addr code : Nat) (b : Bool) : (fwlLog d req addr code b).led = d.led := (rfl)
@[simp] theorem fwlLog_ser (d : Dev) (req : Requester) (addr code : Nat) (b : Bool) : (fwlLog d req addr code b).ser = d.ser := (rfl)
@[simp] theorem fwlLog_net (d : Dev) (req : Requester) (addr code : Nat) (b : Bool) : (fwlLog d req addr code b).net = d.net := (rfl)
@[simp] theorem fwlLog_tri (d : Dev) (req : Requester) (addr code : Nat) (b : Bool) : (fwlLog d req addr code b).tri = d.tri := (rfl)
@[simp] theorem fwlLog_rime (d : Dev) (req : Requester) (addr code : Nat) (b : Bool) : (fwlLog d req addr code b).rime = d.rime := (rfl)
@[simp] theorem fwlLog_sch (d : Dev) (req : Requester) (addr code : Nat) (b : Bool) : (fwlLog d req addr code b).sch = d.sch := (rfl)
@[simp] theorem fwlLog_safe (d : Dev) (req : Requester) (addr code : Nat) (b : Bool) : (fwlLog d req addr code b).safe = d.safe := (rfl)
@[simp] theorem fwlLog_axis (d : Dev) (req : Requester) (addr code : Nat) (b : Bool) : (fwlLog d req addr code b).axis = d.axis := (rfl)
@[simp] theorem fwlLog_aux (d : Dev) (req : Requester) (addr code : Nat) (b : Bool) : (fwlLog d req addr code b).aux = d.aux := (rfl)
@[simp] theorem fwlLog_boot (d : Dev) (req : Requester) (addr code : Nat) (b : Bool) : (fwlLog d req addr code b).boot = d.boot := (rfl)
@[simp] theorem fwlLog_pwr (d : Dev) (req : Requester) (addr code : Nat) (b : Bool) : (fwlLog d req addr code b).pwr = d.pwr := (rfl)
@[simp] theorem fwlLog_eng (d : Dev) (req : Requester) (addr code : Nat) (b : Bool) : (fwlLog d req addr code b).eng = d.eng := (rfl)
@[simp] theorem fwlLog_chan (d : Dev) (req : Requester) (addr code : Nat) (b : Bool) : (fwlLog d req addr code b).chan = d.chan := (rfl)
@[simp] theorem fwlLog_grade (d : Dev) (req : Requester) (addr code : Nat) (b : Bool) : (fwlLog d req addr code b).grade = d.grade := (rfl)
@[simp] theorem fwlLog_seq (d : Dev) (req : Requester) (addr code : Nat) (b : Bool) : (fwlLog d req addr code b).seq = d.seq := (rfl)
@[simp] theorem fwlLog_host (d : Dev) (req : Requester) (addr code : Nat) (b : Bool) : (fwlLog d req addr code b).host = d.host := (rfl)
@[simp] theorem fwlLog_recq (d : Dev) (req : Requester) (addr code : Nat) (b : Bool) : (fwlLog d req addr code b).recq = d.recq := (rfl)
@[simp] theorem fwlLog_chanWas (d : Dev) (req : Requester) (addr code : Nat) (b : Bool) : (fwlLog d req addr code b).chanWas = d.chanWas := (rfl)
@[simp] theorem fwlLog_gradeWas (d : Dev) (req : Requester) (addr code : Nat) (b : Bool) : (fwlLog d req addr code b).gradeWas = d.gradeWas := (rfl)
@[simp] theorem fwlLog_seqWas (d : Dev) (req : Requester) (addr code : Nat) (b : Bool) : (fwlLog d req addr code b).seqWas = d.seqWas := (rfl)
@[simp] theorem fwlLog_barsWas (d : Dev) (req : Requester) (addr code : Nat) (b : Bool) : (fwlLog d req addr code b).barsWas = d.barsWas := (rfl)
@[simp] theorem fwlLog_evqWas (d : Dev) (req : Requester) (addr code : Nat) (b : Bool) : (fwlLog d req addr code b).evqWas = d.evqWas := (rfl)
@[simp] theorem fwlLog_inc (d : Dev) (req : Requester) (addr code : Nat) (b : Bool) : (fwlLog d req addr code b).inc = d.inc := (rfl)

/-! ### An error response changes those and the response -/

@[simp] theorem errResp_k (d : Dev) (req : Requester) (addr code : Nat) (b : Bool) : (errResp d req addr code b).k = d.k := (rfl)
@[simp] theorem errResp_winTick (d : Dev) (req : Requester) (addr code : Nat) (b : Bool) : (errResp d req addr code b).winTick = d.winTick := (rfl)
@[simp] theorem errResp_phase (d : Dev) (req : Requester) (addr code : Nat) (b : Bool) : (errResp d req addr code b).phase = d.phase := (rfl)
@[simp] theorem errResp_bootOk (d : Dev) (req : Requester) (addr code : Nat) (b : Bool) : (errResp d req addr code b).bootOk = d.bootOk := (rfl)
@[simp] theorem errResp_staged (d : Dev) (req : Requester) (addr code : Nat) (b : Bool) : (errResp d req addr code b).staged = d.staged := (rfl)
@[simp] theorem errResp_hostCyc (d : Dev) (req : Requester) (addr code : Nat) (b : Bool) : (errResp d req addr code b).hostCyc = d.hostCyc := (rfl)
@[simp] theorem errResp_apply (d : Dev) (req : Requester) (addr code : Nat) (b : Bool) : (errResp d req addr code b).apply = d.apply := (rfl)
@[simp] theorem errResp_zreq (d : Dev) (req : Requester) (addr code : Nat) (b : Bool) : (errResp d req addr code b).zreq = d.zreq := (rfl)
@[simp] theorem errResp_neve (d : Dev) (req : Requester) (addr code : Nat) (b : Bool) : (errResp d req addr code b).neve = d.neve := (rfl)
@[simp] theorem errResp_dram (d : Dev) (req : Requester) (addr code : Nat) (b : Bool) : (errResp d req addr code b).dram = d.dram := (rfl)
@[simp] theorem errResp_firn (d : Dev) (req : Requester) (addr code : Nat) (b : Bool) : (errResp d req addr code b).firn = d.firn := (rfl)
@[simp] theorem errResp_floe (d : Dev) (req : Requester) (addr code : Nat) (b : Bool) : (errResp d req addr code b).floe = d.floe := (rfl)
@[simp] theorem errResp_meas (d : Dev) (req : Requester) (addr code : Nat) (b : Bool) : (errResp d req addr code b).meas = d.meas := (rfl)
@[simp] theorem errResp_led (d : Dev) (req : Requester) (addr code : Nat) (b : Bool) : (errResp d req addr code b).led = d.led := (rfl)
@[simp] theorem errResp_ser (d : Dev) (req : Requester) (addr code : Nat) (b : Bool) : (errResp d req addr code b).ser = d.ser := (rfl)
@[simp] theorem errResp_net (d : Dev) (req : Requester) (addr code : Nat) (b : Bool) : (errResp d req addr code b).net = d.net := (rfl)
@[simp] theorem errResp_tri (d : Dev) (req : Requester) (addr code : Nat) (b : Bool) : (errResp d req addr code b).tri = d.tri := (rfl)
@[simp] theorem errResp_rime (d : Dev) (req : Requester) (addr code : Nat) (b : Bool) : (errResp d req addr code b).rime = d.rime := (rfl)
@[simp] theorem errResp_sch (d : Dev) (req : Requester) (addr code : Nat) (b : Bool) : (errResp d req addr code b).sch = d.sch := (rfl)
@[simp] theorem errResp_safe (d : Dev) (req : Requester) (addr code : Nat) (b : Bool) : (errResp d req addr code b).safe = d.safe := (rfl)
@[simp] theorem errResp_axis (d : Dev) (req : Requester) (addr code : Nat) (b : Bool) : (errResp d req addr code b).axis = d.axis := (rfl)
@[simp] theorem errResp_aux (d : Dev) (req : Requester) (addr code : Nat) (b : Bool) : (errResp d req addr code b).aux = d.aux := (rfl)
@[simp] theorem errResp_boot (d : Dev) (req : Requester) (addr code : Nat) (b : Bool) : (errResp d req addr code b).boot = d.boot := (rfl)
@[simp] theorem errResp_pwr (d : Dev) (req : Requester) (addr code : Nat) (b : Bool) : (errResp d req addr code b).pwr = d.pwr := (rfl)
@[simp] theorem errResp_eng (d : Dev) (req : Requester) (addr code : Nat) (b : Bool) : (errResp d req addr code b).eng = d.eng := (rfl)
@[simp] theorem errResp_chan (d : Dev) (req : Requester) (addr code : Nat) (b : Bool) : (errResp d req addr code b).chan = d.chan := (rfl)
@[simp] theorem errResp_grade (d : Dev) (req : Requester) (addr code : Nat) (b : Bool) : (errResp d req addr code b).grade = d.grade := (rfl)
@[simp] theorem errResp_seq (d : Dev) (req : Requester) (addr code : Nat) (b : Bool) : (errResp d req addr code b).seq = d.seq := (rfl)
@[simp] theorem errResp_host (d : Dev) (req : Requester) (addr code : Nat) (b : Bool) : (errResp d req addr code b).host = d.host := (rfl)
@[simp] theorem errResp_recq (d : Dev) (req : Requester) (addr code : Nat) (b : Bool) : (errResp d req addr code b).recq = d.recq := (rfl)
@[simp] theorem errResp_chanWas (d : Dev) (req : Requester) (addr code : Nat) (b : Bool) : (errResp d req addr code b).chanWas = d.chanWas := (rfl)
@[simp] theorem errResp_gradeWas (d : Dev) (req : Requester) (addr code : Nat) (b : Bool) : (errResp d req addr code b).gradeWas = d.gradeWas := (rfl)
@[simp] theorem errResp_seqWas (d : Dev) (req : Requester) (addr code : Nat) (b : Bool) : (errResp d req addr code b).seqWas = d.seqWas := (rfl)
@[simp] theorem errResp_barsWas (d : Dev) (req : Requester) (addr code : Nat) (b : Bool) : (errResp d req addr code b).barsWas = d.barsWas := (rfl)
@[simp] theorem errResp_evqWas (d : Dev) (req : Requester) (addr code : Nat) (b : Bool) : (errResp d req addr code b).evqWas = d.evqWas := (rfl)
@[simp] theorem errResp_inc (d : Dev) (req : Requester) (addr code : Nat) (b : Bool) : (errResp d req addr code b).inc = d.inc := (rfl)

/-! ### A refused write changes the same -/

@[simp] theorem refuseW_k (d : Dev) (req : Requester) (addr : Nat) : (refuseW d req addr).k = d.k := (rfl)
@[simp] theorem refuseW_winTick (d : Dev) (req : Requester) (addr : Nat) : (refuseW d req addr).winTick = d.winTick := (rfl)
@[simp] theorem refuseW_phase (d : Dev) (req : Requester) (addr : Nat) : (refuseW d req addr).phase = d.phase := (rfl)
@[simp] theorem refuseW_bootOk (d : Dev) (req : Requester) (addr : Nat) : (refuseW d req addr).bootOk = d.bootOk := (rfl)
@[simp] theorem refuseW_staged (d : Dev) (req : Requester) (addr : Nat) : (refuseW d req addr).staged = d.staged := (rfl)
@[simp] theorem refuseW_hostCyc (d : Dev) (req : Requester) (addr : Nat) : (refuseW d req addr).hostCyc = d.hostCyc := (rfl)
@[simp] theorem refuseW_apply (d : Dev) (req : Requester) (addr : Nat) : (refuseW d req addr).apply = d.apply := (rfl)
@[simp] theorem refuseW_zreq (d : Dev) (req : Requester) (addr : Nat) : (refuseW d req addr).zreq = d.zreq := (rfl)
@[simp] theorem refuseW_neve (d : Dev) (req : Requester) (addr : Nat) : (refuseW d req addr).neve = d.neve := (rfl)
@[simp] theorem refuseW_dram (d : Dev) (req : Requester) (addr : Nat) : (refuseW d req addr).dram = d.dram := (rfl)
@[simp] theorem refuseW_firn (d : Dev) (req : Requester) (addr : Nat) : (refuseW d req addr).firn = d.firn := (rfl)
@[simp] theorem refuseW_floe (d : Dev) (req : Requester) (addr : Nat) : (refuseW d req addr).floe = d.floe := (rfl)
@[simp] theorem refuseW_meas (d : Dev) (req : Requester) (addr : Nat) : (refuseW d req addr).meas = d.meas := (rfl)
@[simp] theorem refuseW_led (d : Dev) (req : Requester) (addr : Nat) : (refuseW d req addr).led = d.led := (rfl)
@[simp] theorem refuseW_ser (d : Dev) (req : Requester) (addr : Nat) : (refuseW d req addr).ser = d.ser := (rfl)
@[simp] theorem refuseW_net (d : Dev) (req : Requester) (addr : Nat) : (refuseW d req addr).net = d.net := (rfl)
@[simp] theorem refuseW_tri (d : Dev) (req : Requester) (addr : Nat) : (refuseW d req addr).tri = d.tri := (rfl)
@[simp] theorem refuseW_rime (d : Dev) (req : Requester) (addr : Nat) : (refuseW d req addr).rime = d.rime := (rfl)
@[simp] theorem refuseW_sch (d : Dev) (req : Requester) (addr : Nat) : (refuseW d req addr).sch = d.sch := (rfl)
@[simp] theorem refuseW_safe (d : Dev) (req : Requester) (addr : Nat) : (refuseW d req addr).safe = d.safe := (rfl)
@[simp] theorem refuseW_axis (d : Dev) (req : Requester) (addr : Nat) : (refuseW d req addr).axis = d.axis := (rfl)
@[simp] theorem refuseW_aux (d : Dev) (req : Requester) (addr : Nat) : (refuseW d req addr).aux = d.aux := (rfl)
@[simp] theorem refuseW_boot (d : Dev) (req : Requester) (addr : Nat) : (refuseW d req addr).boot = d.boot := (rfl)
@[simp] theorem refuseW_pwr (d : Dev) (req : Requester) (addr : Nat) : (refuseW d req addr).pwr = d.pwr := (rfl)
@[simp] theorem refuseW_eng (d : Dev) (req : Requester) (addr : Nat) : (refuseW d req addr).eng = d.eng := (rfl)
@[simp] theorem refuseW_chan (d : Dev) (req : Requester) (addr : Nat) : (refuseW d req addr).chan = d.chan := (rfl)
@[simp] theorem refuseW_grade (d : Dev) (req : Requester) (addr : Nat) : (refuseW d req addr).grade = d.grade := (rfl)
@[simp] theorem refuseW_seq (d : Dev) (req : Requester) (addr : Nat) : (refuseW d req addr).seq = d.seq := (rfl)
@[simp] theorem refuseW_host (d : Dev) (req : Requester) (addr : Nat) : (refuseW d req addr).host = d.host := (rfl)
@[simp] theorem refuseW_recq (d : Dev) (req : Requester) (addr : Nat) : (refuseW d req addr).recq = d.recq := (rfl)
@[simp] theorem refuseW_chanWas (d : Dev) (req : Requester) (addr : Nat) : (refuseW d req addr).chanWas = d.chanWas := (rfl)
@[simp] theorem refuseW_gradeWas (d : Dev) (req : Requester) (addr : Nat) : (refuseW d req addr).gradeWas = d.gradeWas := (rfl)
@[simp] theorem refuseW_seqWas (d : Dev) (req : Requester) (addr : Nat) : (refuseW d req addr).seqWas = d.seqWas := (rfl)
@[simp] theorem refuseW_barsWas (d : Dev) (req : Requester) (addr : Nat) : (refuseW d req addr).barsWas = d.barsWas := (rfl)
@[simp] theorem refuseW_evqWas (d : Dev) (req : Requester) (addr : Nat) : (refuseW d req addr).evqWas = d.evqWas := (rfl)
@[simp] theorem refuseW_inc (d : Dev) (req : Requester) (addr : Nat) : (refuseW d req addr).inc = d.inc := (rfl)

/-- What `raise` adds: one event, with the tick it is raised in. -/
theorem raise_raised (d : Dev) (src ut ui d0 d1 : Nat) : (raise d src ut ui d0 d1).mor.raised =
    d.mor.raised ++ [⟨src, ut, ui, d0 % 2 ^ 32, d1 % 2 ^ 32, d.k, freeVal d % 50000, false⟩] := rfl

@[simp] theorem errResp_resp (d : Dev) (req : Requester) (addr code : Nat) (b : Bool) :
    (errResp d req addr code b).resp = ⟨code, 0⟩ := rfl

@[simp] theorem okResp_resp (d : Dev) (x : Nat) : (okResp d x).resp = ⟨0, x⟩ := rfl

/-- Staging a write changes one of the two lists of staged writes. -/
theorem stage_cases (d : Dev) (req : Requester) (x : Staged) :
    stage d req x = { d with hostCyc := d.hostCyc ++ [x] } ∨ stage d req x = { d with staged := d.staged ++ [x] } := by
  unfold stage; split
  · exact .inl rfl
  · exact .inr rfl

end Sys2Proof.Machine
end

