-- ==== Sys2Proof/WellFormed.lean ====
section
/-!
DEFINITION. Which operands a command may carry: numbers of ports, channels, engines, axes and the like within the counts the
device has, words of 32 bits, times within a tick. Frames are not judged here: a malformed frame is an operand like any
other, which the receiver discards by its own rules. The meanings answer for ill-formed operands too; no statement needs one.
-/
namespace Sys2Proof

/-- A 32-bit word (R9). -/
def isWord (w : Nat) : Bool := decide (w < 2 ^ 32)

/-- An address of the device space, or of the DRAM (R501, R516). -/
def isAddr (x : Nat) : Bool := decide (x < 2 ^ 35)

/-- An axis (R421). -/
def isAxis (x : Nat) : Bool := decide (x < 8)

/-- A channel of the device (R27). -/
def isChan (x : Nat) : Bool := decide (x < 4096)

/-- An auxiliary converter (R437). -/
def isConv (x : Nat) : Bool := decide (x < 8)

/-- A core of the triad (R277). -/
def isCore (x : Nat) : Bool := decide (x < 3)

/-- A 24-bit cycle count (R24). -/
def isCycle (x : Nat) : Bool := decide (x < 2 ^ 24)

/-- An engine (R212). -/
def isEngine (x : Nat) : Bool := decide (x < 24)

/-- No error, a corrected one, an uncorrectable one. -/
def isFlaw (x : Nat) : Bool := decide (x < 3)

/-- A safety function (R403). -/
def isFunc (x : Nat) : Bool := decide (x < 32)

/-- A word of the pending map (R326). -/
def isPend (x : Nat) : Bool := decide (x < 12)

/-- A safe input (R405). -/
def isInput (x : Nat) : Bool := decide (x < 24)

/-- A schrund lane (R378). -/
def isLane (x : Nat) : Bool := decide (x < 4)

/-- A mask of the schrund lanes (R378). -/
def isMask (x : Nat) : Bool := decide (x < 16)

/-- A memory ID (R480). -/
def isMem (x : Nat) : Bool := decide (x < 2 ^ 8)

/-- A safe output (R402). -/
def isOut (x : Nat) : Bool := decide (x < 8)

/-- A Floe port (R43). -/
def isPort (x : Nat) : Bool := decide (x < 128)

/-- A DRAM rank (R513). -/
def isRank (x : Nat) : Bool := decide (x < 2)

/-- A host ring (R509). -/
def isRing (x : Nat) : Bool := decide (x < 10)

/-- A temperature site (R538). -/
def isSite (x : Nat) : Bool := decide (x < 16)

/-- A link speed code (R503). -/
def isSpeed (x : Nat) : Bool := decide (x < 4)

/-- A link width code (R503). -/
def isWidth (x : Nat) : Bool := decide (x < 8)

/-- A test-pulse source (R404). -/
def isTp (x : Nat) : Bool := decide (x < 4)

/-- A ledger stream (R136). -/
def isStrm (x : Nat) : Bool := decide (x < 8)

/-- A time within a tick, ns (R24). -/
def isSubt (x : Nat) : Bool := decide (x < 50000)

/-- A switch of a safe output, 1 or 2 (R413). -/
def isSwitch (x : Nat) : Bool := decide (0 < x ∧ x < 3)

/-- An address of the TCM (R291). -/
def isTcm (x : Nat) : Bool := decide (x < 2 ^ 22)

/-- A count of inputs (R383). -/
def isCount (x : Nat) : Bool := decide (x < 2 ^ 16)

/-- The size of an access in bytes (R9). -/
def isSize (x : Nat) : Bool := x == 1 || x == 2 || x == 4 || x == 8

/-- A 64-bit word: an engine instruction (R219), or the data of an access of up to 8 bytes. -/
def isDword (w : Nat) : Bool := decide (w < 2 ^ 64)

/-- The copies of a transaction are one for each core (R280). -/
def isCopies (x : List (Option BusOp)) : Bool := x.length == 3

/-- The operands of a command lie within their counts and widths. -/
def wellFormed (i : Instr) : Bool :=
  match i with
  | .tickEdge _ site => isSite site
  | .seracVerdict _ _ _ => true
  | .floeTickMarker port => isPort port
  | .sampleBlockRx port _ _ _ => isPort port
  | .superframeRx port _ _ _ _ => isPort port
  | .brickCapsRx port _ _ => isPort port
  | .selectAckRx port _ _ => isPort port
  | .echoReplyRx port _ _ _ => isPort port
  | .echoSend port => isPort port
  | .devCapsSend port => isPort port
  | .selectRepeat port => isPort port
  | .floeCommaLock port => isPort port
  | .floeCapsTimeout port => isPort port
  | .floeDelayTimeout port => isPort port
  | .floeSyncTimeout port => isPort port
  | .floeLockLoss port => isPort port
  | .expressAckRx port _ _ => isPort port
  | .expressResend port => isPort port
  | .expNoack port => isPort port
  | .restart _ port w => isPort port && isWord w
  | .floeCntClr _ port w => isPort port && isWord w
  | .loadActive _ w => isWord w
  | .preload _ w => isWord w
  | .discard _ w => isWord w
  | .firnVerifyDone _ => true
  | .safeConfirm _ w => isWord w
  | .captureZero _ w => isWord w
  | .captureFull _ w => isWord w
  | .compute _ w => isWord w
  | .abort _ w => isWord w
  | .setNominal _ w => isWord w
  | .calSegmentWrite _ addr w => isWord addr && isWord w
  | .contactCheckPhase ch => isChan ch
  | .ledgerUe addr => isWord addr
  | .ledgerSegmentWrite _ addr w => isWord addr && isWord w
  | .multiwordRead a addr => isWord addr && isSize a.size
  | .shadowTimeout _ => true
  | .writeStagingTimeout _ => true
  | .ledgerStreamEnable _ strm w => isStrm strm && isWord w
  | .ledgerStreamCapture strm => isStrm strm
  | .flush _ w => isWord w
  | .clrGo _ w => isWord w
  | .go _ w => isWord w
  | .release _ w => isWord w
  | .staleHoldEnter ch => isChan ch
  | .holdoverCaptureEnd ch => isChan ch
  | .floatSaturated ch => isChan ch
  | .pulseLevelChange ch => isChan ch
  | .load _ w => isWord w
  | .unload _ w => isWord w
  | .programVerifyDone _ => true
  | .seqStart _ w => isWord w
  | .pause _ w => isWord w
  | .seqResume _ w => isWord w
  | .seqAbort _ w => isWord w
  | .skip _ w => isWord w
  | .stepRun ch => isChan ch
  | .stepLoop ch => isChan ch
  | .stepNext ch => isChan ch
  | .stepBranch ch => isChan ch
  | .stepBarrier ch => isChan ch
  | .stepEnd ch => isChan ch
  | .terminationFire ch => isChan ch
  | .stepTimeTermination ch => isChan ch
  | .barrierTimeout ch => isChan ch
  | .remoteBarrierRelease _ _ => true
  | .gradeWindowClose ch => isChan ch
  | .engineSampleTask e => isEngine e
  | .engineChannelRun e => isEngine e
  | .engineRunaway e => isEngine e
  | .engNop e _ w => isEngine e && isDword w
  | .engEnd e _ w => isEngine e && isDword w
  | .engEvt e _ w => isEngine e && isDword w
  | .engLdi e _ w => isEngine e && isDword w
  | .engLdih e _ w => isEngine e && isDword w
  | .engMov e _ w => isEngine e && isDword w
  | .engLdc e _ w => isEngine e && isDword w
  | .engAdd e _ w => isEngine e && isDword w
  | .engSub e _ w => isEngine e && isDword w
  | .engAnd e _ w => isEngine e && isDword w
  | .engOr e _ w => isEngine e && isDword w
  | .engXor e _ w => isEngine e && isDword w
  | .engMin e _ w => isEngine e && isDword w
  | .engMax e _ w => isEngine e && isDword w
  | .engAbs e _ w => isEngine e && isDword w
  | .engShl e _ w => isEngine e && isDword w
  | .engShr e _ w => isEngine e && isDword w
  | .engAddi e _ w => isEngine e && isDword w
  | .engMul e _ w => isEngine e && isDword w
  | .engDiv e _ w => isEngine e && isDword w
  | .engRdv e _ w => isEngine e && isDword w
  | .engMpy e _ w => isEngine e && isDword w
  | .engMac e _ w => isEngine e && isDword w
  | .engMsu e _ w => isEngine e && isDword w
  | .engMac2 e _ w => isEngine e && isDword w
  | .engTapmSlot e _ w => isEngine e && isDword w
  | .engTapmLine e _ w => isEngine e && isDword w
  | .engClra e _ w => isEngine e && isDword w
  | .engAdda e _ w => isEngine e && isDword w
  | .engSha e _ w => isEngine e && isDword w
  | .engRnd e _ w => isEngine e && isDword w
  | .engLda e _ w => isEngine e && isDword w
  | .engSta e _ w => isEngine e && isDword w
  | .engLdh e _ w => isEngine e && isDword w
  | .engLdhq e _ w => isEngine e && isDword w
  | .engSth e _ w => isEngine e && isDword w
  | .engSthq e _ w => isEngine e && isDword w
  | .engLdha e _ w => isEngine e && isDword w
  | .engStha e _ w => isEngine e && isDword w
  | .engSincos e _ w => isEngine e && isDword w
  | .engBr e _ w => isEngine e && isDword w
  | .engBz e _ w => isEngine e && isDword w
  | .engBnz e _ w => isEngine e && isDword w
  | .engBlt e _ w => isEngine e && isDword w
  | .engBge e _ w => isEngine e && isDword w
  | .engBnv e _ w => isEngine e && isDword w
  | .engRep e _ w => isEngine e && isDword w
  | .engRepr e _ w => isEngine e && isDword w
  | .peakClr _ e w => isEngine e && isWord w
  | .auxConversionDone conv _ subt => isConv conv && isSubt subt
  | .busSenseGap _ => true
  | .tripClr _ w => isWord w
  | .testNow _ w => isWord w
  | .seracRelease _ w => isWord w
  | .seracTripCmd _ w => isWord w
  | .qclr _ w => isWord w
  | .fireClr _ w => isWord w
  | .injGo _ w => isWord w
  | .triadTransaction copies _ core _ => isCopies copies && isCore core
  | .coreParityError core => isCore core
  | .reintegration core _ _ => isCore core
  | .tcmHostWrite addr w => isWord addr && isWord w
  | .triCalveStart _ w => isWord w
  | .halt _ w => isWord w
  | .dbgResume _ w => isWord w
  | .dbgStep _ w => isWord w
  | .dbgRegWrite _ w => isWord w
  | .triWdogKick _ w => isWord w
  | .mismClr _ w => isWord w
  | .morainePass _ => true
  | .faultRel _ w => isWord w
  | .faultHold _ w => isWord w
  | .morUnfence _ w => isWord w
  | .morInj _ w => isWord w
  | .morRaise _ w => isWord w
  | .morPendClear _ i w => isPend i && isWord w
  | .morLogRd _ w => isWord w
  | .rimeSlotTx _ _ => true
  | .rimeFrameRx ch _ _ _ _ _ => isChan ch
  | .trunkSlotTx _ => true
  | .trunkFrameRx ch _ _ _ _ => isChan ch
  | .csListenTimeout _ => true
  | .csAttemptEnd _ => true
  | .rimeChFail ch => isChan ch
  | .gclkFail _ => true
  | .rimelEnable _ w => isWord w
  | .rimelDisable _ w => isWord w
  | .rimelRestart _ w => isWord w
  | .rimetEnable _ w => isWord w
  | .rimetDisable _ w => isWord w
  | .rimetRestart _ w => isWord w
  | .rimetMcGo _ w => isWord w
  | .schLaneChange mask _ => isMask mask
  | .schTickRx _ _ lane _ => isLane lane
  | .inputRx cyc _ _ => isCycle cyc
  | .closeRx cyc count _ => isCycle cyc && isCount count
  | .digestRx cyc _ _ => isCycle cyc
  | .resyncRx _ => true
  | .rsReqRx _ _ => true
  | .savedRx _ => true
  | .bulkRx _ _ _ _ _ => true
  | .claimSample _ => true
  | .takeover _ _ => true
  | .waitMsTimeout _ => true
  | .detach _ w => isWord w
  | .schCntClr _ w => isWord w
  | .tpulseOffPulse src _ _ => isTp src
  | .safeInputFiltered input _ => isInput input
  | .safetyEvaluation _ => true
  | .safeDiscrepancy func _ => isFunc func
  | .safeResetAction input _ _ subt => isInput input && isSubt subt
  | .brakeGo _ w => isWord w
  | .unlockGo _ w => isWord w
  | .relock _ w => isWord w
  | .safeOutputTest out => isOut out
  | .safeOutputTestEnd out _ => isOut out
  | .safeReadbackFault out sw => isOut out && isSwitch sw
  | .tpulseReadbackFault src => isTp src
  | .brakeTestDue axis => isAxis axis
  | .brakeTestEnd axis => isAxis axis
  | .brakeTestOverdue axis => isAxis axis
  | .axisPwmPeriod axis _ _ _ => isAxis axis
  | .axisStart _ axis w => isAxis axis && isWord w
  | .axisStop _ axis w => isAxis axis && isWord w
  | .axisClear _ axis w => isAxis axis && isWord w
  | .axisMeasureEnd axis _ _ _ => isAxis axis
  | .axisStandstill axis => isAxis axis
  | .axisStopSlow axis => isAxis axis
  | .axisForceTimeout axis => isAxis axis
  | .auxTickTrigger conv => isConv conv
  | .swGo _ conv w => isConv conv && isWord w
  | .apply _ conv w => isConv conv && isWord w
  | .auxCaptureZero _ w => isWord w
  | .auxCaptureFull _ w => isWord w
  | .auxCompute _ w => isWord w
  | .auxCalAbort _ w => isWord w
  | .auxSetNominal _ w => isWord w
  | .domainReady _ => true
  | .thawWake _ => true
  | .thawSleep _ => true
  | .thawTimer _ => true
  | .thawZone _ => true
  | .powerOnReset _ _ => true
  | .rstNReset _ _ => true
  | .lcyReset _ w _ _ => isWord w
  | .bistOnlineSlice mem _ _ _ _ => isMem mem
  | .hostGo _ w => isWord w
  | .transition _ w _ _ => isWord w
  | .rollbackAdv _ w => isWord w
  | .revoke _ w => isWord w
  | .grantCalve _ w => isWord w
  | .grantDbg _ w => isWord w
  | .hostboot _ w at_ => isWord w && isTcm at_
  | .revokeCalve _ w => isWord w
  | .revokeDbg _ w => isWord w
  | .hello _ w => isWord w
  | .mbxStatus _ w => isWord w
  | .zoneMode _ w => isWord w
  | .mbxSleep _ w => isWord w
  | .ring _ w => isWord w
  | .sysZoneReq _ w => isWord w
  | .hostRingWrite ring => isRing ring
  | .hostRingTail _ ring w => isRing ring && isWord w
  | .ringHoldoffExpiry ring => isRing ring
  | .qspiRead _ w => isWord w
  | .qspiProg _ w => isWord w
  | .erase4k _ w => isWord w
  | .erase64k _ w => isWord w
  | .blockLock _ addr w => isWord addr && isWord w
  | .registerWrite a addr w => isWord addr && isDword w && isSize a.size
  | .memorySelfTestDone _ _ => true
  | .dramTrainingDone _ _ => true
  | .dramWipeDone _ => true
  | .bootVerdict _ _ => true
  | .floeNoSignal port => isPort port
  | .tcmScrub flaw => isFlaw flaw
  | .brakeFeedbackFault axis => isAxis axis
  | .bistrec _ => true
  | .hostTestDone _ => true
  | .extest _ => true
  | .highz _ => true
  | .hostLinkDown _ => true
  | .drcUe addr _ => isAddr addr
  | .drcRank rank _ => isRank rank
  | .rimeActivity ch => isChan ch
  | .tjHoldRelease _ _ => true
  | .brakeFbFollows axis => isAxis axis
  | .hostLinkUp speed width => isSpeed speed && isWidth width
  | .patrolScrub addr flaw _ => isAddr addr && isFlaw flaw
  | .fuseStepDone _ _ _ => true
  | .superframeDeadline => true
  | .commitPoint => true
  | .commandAssembly => true
  | .commandFrameSend => true
  | .variantSwitch => true
  | .confirmTimeout => true
  | .confirmationRecordWrite => true
  | .calCaptureDone => true
  | .ledgerFold => true
  | .foldLate => true
  | .flushDone => true
  | .busLevelStepDown => true
  | .chopTestDue => true
  | .chopTestEnd => true
  | .chopUntested => true
  | .wdogTimeout => true
  | .shadowClose => true
  | .faultPulseEnd => true
  | .eventRingWrite => true
  | .rimeRefTx => true
  | .rimeDownlinkTx => true
  | .timeOffsetCorrection => true
  | .timeRateCorrection => true
  | .rimelSyncLoss => true
  | .modeChangeEval => true
  | .lineModeChangeEval => true
  | .timeIsoLimit => true
  | .schTickTx => true
  | .schTickDeadline => true
  | .inputGap => true
  | .ownershipClaim => true
  | .joinTimeout => true
  | .joinRetry => true
  | .safeEvalLate => true
  | .auxCaptureTimeout => true
  | .sleepEntryComplete => true
  | .thawAddressMatch => true
  | .wakeNAssert => true
  | .aonTimerExpiry => true
  | .domainReadyTimeout => true
  | .domainRetry => true
  | .refclkLoss => true
  | .refclkRestored => true
  | .thawStatus => true
  | .thawId => true
  | .supplyFall => true
  | .bypass => true
  | .idcode => true
  | .samplePreload => true
  | .testmode => true
  | .qspiDone => true
  | .drcScrubLate => true
  | .gclkRestored => true
  | .icefallBrakeMs => true
  | .pairPeerNFall => true
  | .sramWipeDone => true

end Sys2Proof
end

