-- ==== Sys2Proof/Tests/Slice0.lean ====
section
/-!
SUPPORT. Tests of the model: what an ill-formed operand is, single steps on small states with results taken from the spec, and, for
each obligation with hypotheses, a witness: for every clause a state and operands that meet all its hypotheses together.
-/
set_option Elab.async false

namespace Sys2Proof.Tests
open Sys2Proof Sys2Proof.Machine

/-- An image with zone 0, whose groups 0 and 255 hold the channels of the bricks on ports 0 and 127: the first eight and the last eight. -/
def bay : Image :=
  { format := 1, zones := [⟨0, 0, 1⟩], bricks := [⟨0, 0, 0, 0, 0, 8⟩, ⟨0, 127, 0, 0, 4088, 8⟩],
    groups := [⟨0, 0, 0, 0, 0, 0, 0, [(0, 8)]⟩, ⟨0, 255, 0, 0, 0, 0, 0, [(4088, 8)]⟩] }

/-- A device whose start-up is over, with every domain on and zone 0 in COMMISSION, and then the listed register fields. -/
def dev (im : Image) (l : List (Fld × Nat)) : Dev :=
  ([(Reg.PWR_STAT_DOM_ON, 0xFFFF), (Reg.SYS_PROPS_BOOT, 0), (Reg.SYS_ZMODE 0, 1)] ++ l).foldl (fun (d : Dev) (x : Fld × Nat) => wr d x.1 x.2)
    { bootOk := true, firn := { act := some im }, boot := { step := 9 } }

/-- A state with such a device and the image `bay`. -/
def st (l : List (Fld × Nat)) (f : Dev → Dev := id) : State := { d := f (dev bay l) }

/-- A state with such a device and another image. -/
def sti (im : Image) (l : List (Fld × Nat)) (f : Dev → Dev := id) : State := { d := f (dev im l) }

/-- A BRICK_CAPS frame with the given version byte. -/
def capsFrame (v : Byte) : List Byte :=
  withCrc ([0x40, v, 8, 5] ++ List.replicate 16 0 ++ [0, 1, 0, 0] ++ List.replicate 20 1 ++ [0, 1, 0, 0])

/-- A port in a link state, with its lanes on. -/
def floePort (p state : Nat) (l : List (Fld × Nat)) (f : FloePort → FloePort) : State :=
  st ((Reg.FLOE_STAT_STATE p, state) :: l) (fun d => { d with floe := [(p, f { lanesOn := true })] })

/-- Ledger fields of channel 4095's HOT segment: offset, size, value. -/
def hots (l : List (Nat × Nat × Nat)) (d : Dev) : Dev := l.foldl (fun d (x : Nat × Nat × Nat) => hotW d 4095 x.1 x.2.1 x.2.2) d

/-- Channel 4095 in a program of the given step words, whose step the SEQ block has still to execute. -/
def walking (steps : List (List Byte)) (l : List (Nat × Nat × Nat)) : State :=
  st [] (fun d => hots l { d with seq := { progs := [(0, { steps := steps })], ch := [(4095, { walk := true })] } })

/-- Channel 4095 on an ACTIVE port in the control window of a tick, in a program of one step. -/
def stepping (step : List Byte) (l : List (Nat × Nat × Nat)) (f : Dev → Dev := id) : State :=
  st [(Reg.FLOE_STAT_STATE 127, psActive), (Reg.SEQ_CFG_CONFIRM 255, 1)]
    (fun d => hots l (f { d with phase := 2, seq := { progs := [(0, { steps := [step] })] } }))

/-- The last engine with some registers of its window task and a run. -/
def engine (wreg : SMap Nat) (run : GRun) (f : Dev → Dev := id) : State :=
  st [] (fun d => f { d with eng := [(23, { wreg := wreg, run := run })] })

/-- A sample block of a version 1 port. -/
def block (b : Nat) : List Byte := withCrc (BitVec.ofNat 8 b :: List.replicate 144 0)

/-- A SETP program of one END step. -/
def endProg : List Byte :=
  let step : List Byte := 0x60 :: List.replicate 31 0
  [0x53, 0x54, 0x45, 0x50, 1, 0, 1, 0, 0, 0, 0, 0] ++ natLE 4 (crc32c step) ++ List.replicate 16 0 ++ step

/-- An image of a segment with a trunk: node 0 owns the last slot and node 5 the others, `sync` are the SYNC nodes, `gw` the
segments with a gateway. -/
def line (sync gw : Nat) : Image :=
  { bay with binding := [0], segs := [⟨0, 0, List.replicate 63 5 ++ [0], sync⟩], trunks := [⟨0, 0, gw, []⟩] }

/-- The record of the last axis. -/
def axis7 : AxisRec := { (default : AxisRec) with axis := 7, ainF := 63, stillRpm := 1, stopMs := 1 }

/-- A calibration capture of the last auxiliary input, of one conversion. -/
def auxCap (zero : Bool) (sum : Int) : AuxCap :=
  { zero := zero, input := 63, gain := 6, trim := false, n := 12, startK := 0, s0 := sum, n0 := 1 }

/-! ### Ill-formed operands are refused, and the greatest well-formed ones are not -/

theorem test_wf_counts :
    [wellFormed (.brakeTestDue 8), wellFormed (.staleHoldEnter 4096), wellFormed (.auxTickTrigger 8), wellFormed (.coreParityError 3),
     wellFormed (.engineSampleTask 24), wellFormed (.safeDiscrepancy 32 0), wellFormed (.morPendClear .host 12 0),
     wellFormed (.safeInputFiltered 24 true), wellFormed (.schTickRx 0 0 4 []), wellFormed (.schLaneChange 16 0),
     wellFormed (.safeOutputTest 8), wellFormed (.floeTickMarker 128), wellFormed (.hostRingWrite 10), wellFormed (.tickEdge 0 16),
     wellFormed (.tpulseReadbackFault 4), wellFormed (.ledgerStreamCapture 8), wellFormed (.safeReadbackFault 0 3),
     wellFormed (.safeReadbackFault 0 0)] = List.replicate 18 false ∧
    [wellFormed (.brakeTestDue 7), wellFormed (.staleHoldEnter 4095), wellFormed (.auxTickTrigger 7), wellFormed (.coreParityError 2),
     wellFormed (.engineSampleTask 23), wellFormed (.safeDiscrepancy 31 0), wellFormed (.morPendClear .host 11 0),
     wellFormed (.safeInputFiltered 23 true), wellFormed (.schTickRx 0 0 3 []), wellFormed (.schLaneChange 15 0),
     wellFormed (.safeOutputTest 7), wellFormed (.floeTickMarker 127), wellFormed (.hostRingWrite 9), wellFormed (.tickEdge 0 15),
     wellFormed (.tpulseReadbackFault 3), wellFormed (.ledgerStreamCapture 7), wellFormed (.safeReadbackFault 0 2)] =
      List.replicate 17 true := by decide +kernel

theorem test_wf_widths :
    [wellFormed (.safeConfirm .host (2 ^ 32)), wellFormed (.closeRx (2 ^ 24) 0 0), wellFormed (.closeRx 0 (2 ^ 16) 0),
     wellFormed (.auxConversionDone 0 0 50000), wellFormed (.hostboot .host 0 (2 ^ 22)), wellFormed (.triadTransaction [none] true 0 0),
     wellFormed (.bistOnlineSlice 256 0 false none [])] = List.replicate 7 false ∧
    [wellFormed (.safeConfirm .host (2 ^ 32 - 1)), wellFormed (.closeRx (2 ^ 24 - 1) (2 ^ 16 - 1) 0),
     wellFormed (.auxConversionDone 0 0 49999), wellFormed (.hostboot .host 0 (2 ^ 22 - 1)),
     wellFormed (.triadTransaction [none, none, none] true 0 0), wellFormed (.bistOnlineSlice 255 0 false none [])] =
      List.replicate 6 true := by decide +kernel

theorem test_wf_rare :
    [wellFormed (.drcUe (2 ^ 35) none), wellFormed (.tcmScrub 3), wellFormed (.patrolScrub 0 3 false), wellFormed (.drcRank 2 0),
     wellFormed (.hostLinkUp 4 0), wellFormed (.hostLinkUp 0 8)] = List.replicate 6 false ∧
    [wellFormed (.drcUe (2 ^ 35 - 1) none), wellFormed (.tcmScrub 2), wellFormed (.drcRank 1 0), wellFormed (.hostLinkUp 3 7)] =
      List.replicate 4 true := by decide +kernel

/-! ### What the spec's constants and single steps give -/

/-- The state after a command. -/
def after (i : Instr) (s : State) : State :=
  match exec i s with
  | .next t => t
  | _ => s

/-- The check value of CRC-32C (R8): the digits 1 to 9. -/
theorem test_crc32c : crc32c [0x31, 0x32, 0x33, 0x34, 0x35, 0x36, 0x37, 0x38, 0x39] = 0xE3069283 := by decide +kernel

/-- The message `abc` of FIPS 180-4. -/
theorem test_sha384 : beNat (sha384 [0x61, 0x62, 0x63]) =
    0xcb00753f45a35e8bb5a03d699ac65007272c32ab0eded1631a8b605a43ff5bed8086072ba1e7cc2358baeca134c825a7 := by decide +kernel

/-- The substitution of a byte worked out in FIPS 197. -/
theorem test_aes_sbox : aesSbox 0x53 = 0xED := by decide +kernel

theorem test_tick_edge_counts : (after (.tickEdge 0 0) (st [] (fun d => { d with k := 19, phase := 5 }))).d.k = 20 := by decide +kernel

/-- R24: the cycle counter advances with every twentieth tick. -/
theorem test_cycle_counter : cycNo (after (.tickEdge 0 0) (st [] (fun d => { d with k := 19, phase := 5 }))).d = 1 := by decide +kernel

/-- R9: an unaligned register write is answered ALIGN. -/
theorem test_write_unaligned : (after (.registerWrite ⟨.host, 4, 0⟩ 0x10020002 0) (st [])).d.resp.err = 2 := by decide +kernel

/-- R504: before the boot verdict the host is answered BOOT. -/
theorem test_write_before_verdict : (after (.registerWrite ⟨.host, 4, 0⟩ 0x10020000 0) State.reset).d.resp.err = 8 := by decide +kernel

/-- R523: a block in a domain that is off is answered DOMAIN_OFF. -/
theorem test_write_domain_off :
    (after (.registerWrite ⟨.host, 4, 0⟩ 0x10050000 0) (st [(Reg.PWR_STAT_DOM_ON, 0)])).d.resp.err = 7 := by decide +kernel

/-- R11: a lock register sets once, and clears only by a reset. -/
theorem test_lock_stays : rdB (after (.registerWrite ⟨.host, 4, 0⟩ Reg.MEAS_LOCK_LOCK.addr 0)
    (after (.blockLock .host Reg.MEAS_LOCK_LOCK.addr 0) (st []))).d Reg.MEAS_LOCK_LOCK = true := by decide +kernel

/-- R135: the second word of a staged 64-bit value completes it. -/
theorem test_little_endian_ram : Memory.readLE (after (.registerWrite ⟨.host, 4, 0⟩ 0x01000000 0x01020304)
    (st [])).d.neve 0 1 = 4 := by decide +kernel

theorem test_eng_add : gr (after (.engAdd 23 false (1 * 2 ^ 50 + 2 * 2 ^ 44 + 3 * 2 ^ 38)) (engine [(2, 5), (3, 2 ^ 32 - 7)] {})).d 23
    false 1 = 2 ^ 32 - 2 := by decide +kernel

theorem test_eng_sub_signed : gr (after (.engSub 23 false (1 * 2 ^ 50 + 2 * 2 ^ 44 + 3 * 2 ^ 38)) (engine [(2, 5), (3, 7)] {})).d 23
    false 1 = 2 ^ 32 - 2 := by decide +kernel

/-- R222: `DIV` truncates toward zero. -/
theorem test_eng_div : gr (after (.engDiv 23 false (1 * 2 ^ 50 + 2 * 2 ^ 44 + 3 * 2 ^ 38)) (engine [(2, 2 ^ 32 - 7), (3, 2)] {})).d 23
    false 1 = 2 ^ 32 - 3 := by decide +kernel

theorem test_eng_shr : gr (after (.engShr 23 false (1 * 2 ^ 50 + 2 * 2 ^ 44 + 3 * 2 ^ 38)) (engine [(2, 2 ^ 32 - 8), (3, 2)] {})).d 23
    false 1 = 2 ^ 32 - 2 := by decide +kernel

/-- An accumulator saturates at 2^79 - 1. -/
theorem test_eng_mac_saturates : grA (after (.engMac 23 false (0x10 * 2 ^ 50 + 2 * 2 ^ 44 + 3 * 2 ^ 38))
    (engine [(2, 1), (3, 1), (0x10, 2 ^ 79 - 1)] {})).d 23 false 0x10 = 2 ^ 79 - 1 := by decide +kernel

theorem test_eng_msu : grA (after (.engMsu 23 false (0x10 * 2 ^ 50 + 2 * 2 ^ 44 + 3 * 2 ^ 38))
    (engine [(2, 3), (3, 4)] {})).d 23 false 0x10 = -12 := by decide +kernel

/-- R65 and chapter 03: the receiver's lock takes an aligning port to CAPS. -/
theorem test_floe_lock : pst (after (.floeCommaLock 127) (floePort 127 psAlign [] id)).d 127 = psCaps := by decide +kernel

theorem test_floe_park : rd (after (.brickCapsRx 127 (capsFrame 0x44) 0) (floePort 127 psCaps [] id)).d
    (Reg.FLOE_STAT_PARK_REASON 127) = 1 := by decide +kernel

/-- A frame with a coding error is no BRICK_CAPS. -/
theorem test_floe_code_error : pst (after (.brickCapsRx 127 (capsFrame 0x33) 1) (floePort 127 psCaps [] id)).d 127 = psCaps := by decide +kernel

theorem test_rollback_counts : (after (.rollbackAdv .host 0x7C1F0000)
    { st [] (fun d => { d with boot := { d.boot with version := 5 } }) with nv := { fuse := { rollback := 3 } } }).nv.fuse.rollback = 5 := by decide +kernel

/-- The key of `LCY_CMD` guards it. -/
theorem test_rollback_key : (after (.rollbackAdv .host 0x7C1E0000)
    { st [] (fun d => { d with boot := { d.boot with version := 5 } }) with nv := { fuse := { rollback := 3 } } }).nv.fuse.rollback = 3 := by decide +kernel

theorem test_watchdog : ((after .wdogTimeout (st [(Reg.TRI_WDOG_CFG_PERIOD, 1)] (fun d => { d with k := 1 }))).d.mor.raised.map (·.src)) =
    [Src.TRI_WDOG] := by decide +kernel

theorem test_flash_ands : flashByte (after .qspiDone { st [] (fun d => { d with host := { d.host with qspi := some (2, 0x802000, 1, [0x0F]) } }) with
    nv := { flash := [(0x802000, 0xC3)] } }).nv 0x802000 = 0x0C := by decide +kernel

theorem test_pair_lanes : (after (.schLaneChange 1 0) (st [] (fun d => { d with sch := { d.sch with up := true } }))).d.sch.up = false := by
  decide +kernel

theorem test_idle_step : step (st []) = .next (st []) := rfl


/-! ### Witnesses: the hypotheses of every clause of every obligation can be met -/

theorem witness_ResetsBeginTheStartUp :
    (∃ (s : State), s.nv.fuse.target = 0 ∧ s.d.boot.tjHold = false) ∧
    (∃ (s : State), s.nv.fuse.target = 0 ∧ s.d.boot.tjHold = true) ∧
    (∃ (s : State), s.nv.fuse.target = 0 ∧ inPor s.d = false ∧ s.d.boot.scan = false) ∧
    (∃ (s : State), s.nv.fuse.target = 0 ∧ s.d.boot.scan = true) ∧
    (∃ (s : State) (req : Requester) (w : Nat), s.nv.fuse.target = 0 ∧ accessErr s.d req 0x1010801C true = 0 ∧ s.d.boot.scan = false ∧ w % 65536 = 0xD1E5) ∧
    (∃ (s : State) (req : Requester) (w : Nat), s.nv.fuse.target = 0 ∧ accessErr s.d req 0x1010801C true = 0 ∧ w % 65536 ≠ 0xD1E5) :=
  ⟨⟨st [], by decide +kernel⟩,
   ⟨st [] (fun d => { d with boot := { d.boot with tjHold := true } }), by decide +kernel⟩,
   ⟨st [], by decide +kernel⟩,
   ⟨st [] (fun d => { d with boot := { d.boot with scan := true } }), by decide +kernel⟩,
   ⟨st [], .host, 0xD1E5, by decide +kernel⟩,
   ⟨st [], .host, 0xD1E6, by decide +kernel⟩⟩

theorem witness_StartUpSequence :
    (∃ (s : State), s.d.boot.held = false ∧ s.d.boot.step = 3) ∧
    (∃ (s : State), s.d.boot.held = false ∧ s.d.boot.step = 4) ∧
    (∃ (s : State) (size : Nat), s.d.boot.held = false ∧ s.d.boot.step = 5 ∧ 1 ≤ size ∧ size ≤ 32) ∧
    (∃ (s : State), s.d.boot.held = false ∧ s.d.boot.step = 6) ∧
    (∃ (s : State), s.d.boot.held = false ∧ s.d.boot.step = 3) ∧
    (∃ (s : State), s.d.boot.held = false ∧ s.d.boot.step = 5) ∧
    (∃ (s : State), s.d.boot.held = true) ∧
    (∃ (s : State), s.d.boot.step = 7 ∧ s.d.boot.held = false ∧ s.d.boot.halted = false) :=
  ⟨⟨st [] (fun d => { d with boot := { d.boot with step := 3 } }), by decide +kernel⟩,
   ⟨st [] (fun d => { d with boot := { d.boot with step := 4 } }), by decide +kernel⟩,
   ⟨st [] (fun d => { d with boot := { d.boot with step := 5 } }), 4, by decide +kernel⟩,
   ⟨st [] (fun d => { d with boot := { d.boot with step := 6 } }), by decide +kernel⟩,
   ⟨st [] (fun d => { d with boot := { d.boot with step := 3 } }), by decide +kernel⟩,
   ⟨st [] (fun d => { d with boot := { d.boot with step := 5 } }), by decide +kernel⟩,
   ⟨st [] (fun d => { d with boot := { d.boot with held := true } }), by decide +kernel⟩,
   ⟨st [] (fun d => { d with boot := { d.boot with step := 7 } }), by decide +kernel⟩⟩

theorem witness_DomainsAndReference :
    (∃ (s : State) (x : Nat), s.d.boot.step = 2 ∧ s.d.boot.dom ≠ 0 ∧ s.d.boot.offWait = false ∧ nextDom (wrFBit s.d Reg.PWR_STAT_DOM_ON s.d.boot.dom true) = some x) ∧
    (∃ (s : State), s.d.boot.step = 2 ∧ s.d.boot.dom ≠ 0 ∧ s.d.boot.offWait = false ∧ nextDom (wrFBit s.d Reg.PWR_STAT_DOM_ON s.d.boot.dom true) = none) ∧
    (∃ (s : State), s.d.boot.step = 2 ∧ s.d.boot.dom ≠ 0 ∧ s.d.boot.offWait = false ∧ s.d.boot.tries < 4) ∧
    (∃ (s : State), s.d.boot.step = 2 ∧ s.d.boot.dom ≠ 0 ∧ s.d.boot.offWait = false ∧ 4 ≤ s.d.boot.tries) ∧
    (∃ (s : State), s.d.boot.step = 2 ∧ s.d.boot.dom ≠ 0 ∧ s.d.boot.offWait = true) ∧
    (∃ (s : State), rd s.d Reg.PWR_STAT_STATE = 0 ∧ 3 ≤ s.d.boot.step ∧ rdB s.d Reg.PWR_STAT_CLK_RC = false) ∧
    (∃ (s : State), rd s.d Reg.PWR_STAT_STATE = 0 ∧ rdB s.d Reg.PWR_STAT_CLK_RC = true) :=
  ⟨⟨st [(Reg.PWR_STAT_DOM_ON, 1)] (fun d => { d with boot := { d.boot with step := 2, dom := 1, tries := 1, offWait := false } }), 2, by decide +kernel⟩,
   ⟨st [(Reg.PWR_STAT_DOM_ON, 0xFFFF)] (fun d => { d with boot := { d.boot with step := 2, dom := 15, tries := 1, offWait := false } }), by decide +kernel⟩,
   ⟨st [(Reg.PWR_STAT_DOM_ON, 1)] (fun d => { d with boot := { d.boot with step := 2, dom := 1, tries := 3, offWait := false } }), by decide +kernel⟩,
   ⟨st [(Reg.PWR_STAT_DOM_ON, 1)] (fun d => { d with boot := { d.boot with step := 2, dom := 1, tries := 4, offWait := false } }), by decide +kernel⟩,
   ⟨st [(Reg.PWR_STAT_DOM_ON, 1)] (fun d => { d with boot := { d.boot with step := 2, dom := 1, tries := 1, offWait := true } }), by decide +kernel⟩,
   ⟨st [(Reg.PWR_STAT_CLK_RC, 0)], by decide +kernel⟩,
   ⟨st [(Reg.PWR_STAT_CLK_RC, 1)], by decide +kernel⟩⟩

theorem witness_DormancyAndThaw :
    (∃ (s : State), rd s.d Reg.PWR_STAT_STATE = 1 ∧ s.d.pwr.wake = false) ∧
    (∃ (s : State), rd s.d Reg.PWR_STAT_STATE = 1 ∧ rdB s.d Reg.PWR_WAKE_EN_WAKE_N = true) ∧
    (∃ (s : State), rd s.d Reg.PWR_STAT_STATE = 2 ∧ rdB s.d Reg.PWR_WAKE_EN_WAKE_N = true) ∧
    (∃ (s : State), rd s.d Reg.PWR_STAT_STATE = 2 ∧ rdB s.d Reg.PWR_WAKE_EN_THAW = true) ∧
    (∃ (s : State), rd s.d Reg.PWR_STAT_STATE = 2 ∧ s.d.pwr.timer ≠ 0 ∧ rdB s.d Reg.PWR_WAKE_EN_TIMER = true) ∧
    (∃ (ms : Nat), ms < 2 ^ 32) ∧
    (∃ (s : State), running s.d = true ∧ rdB s.d Reg.THAW_CFG_SLEEP_EN = false) ∧
    (∃ (s : State) (mask : Nat), running s.d = true ∧ rdB s.d Reg.THAW_CFG_SLEEP_EN = true ∧ mask < 256 ∧ (sleepRequest (thawDone s.d []) (mask % 16)).1 = 0) ∧
    (∃ (s : State) (z : Nat) (m : Nat), running s.d = true ∧ rdB s.d Reg.THAW_CFG_SLEEP_EN = true ∧ z < 16 ∧ 1 ≤ m ∧ m ≤ 5 ∧ zoneMay (thawDone s.d []) z m = true ∧ isStandby s.d = false) ∧
    (∃ (s : State) (n : Nat), s.d.boot.held = true ∧ 1 ≤ n ∧ n ≤ 64) :=
  ⟨⟨st [(Reg.PWR_STAT_STATE, 1)], by decide +kernel⟩,
   ⟨st [(Reg.PWR_STAT_STATE, 1), (Reg.PWR_WAKE_EN_WAKE_N, 1)], by decide +kernel⟩,
   ⟨st [(Reg.PWR_STAT_STATE, 2), (Reg.PWR_WAKE_EN_WAKE_N, 1)], by decide +kernel⟩,
   ⟨st [(Reg.PWR_STAT_STATE, 2), (Reg.PWR_WAKE_EN_THAW, 1)], by decide +kernel⟩,
   ⟨st [(Reg.PWR_STAT_STATE, 2), (Reg.PWR_WAKE_EN_TIMER, 1)] (fun d => { d with pwr := { d.pwr with timer := 1 } }), by decide +kernel⟩,
   ⟨2 ^ 32 - 1, by decide +kernel⟩,
   ⟨st [(Reg.THAW_CFG_SLEEP_EN, 0)], by decide +kernel⟩,
   ⟨st [(Reg.THAW_CFG_SLEEP_EN, 1), (Reg.SYS_ZMODE 0, 5)], 15, by decide +kernel⟩,
   ⟨st [(Reg.THAW_CFG_SLEEP_EN, 1)], 0, 5, by decide +kernel⟩,
   ⟨st [] (fun d => { d with boot := { d.boot with held := true } }), 64, by decide +kernel⟩⟩

theorem witness_LifeCycleCommands :
    (∃ (s : State) (req : Requester) (w : Nat), accessErr s.d req 0x10108004 true = 0 ∧ bits w 16 16 = 0x7C1F ∧ rdB s.d Reg.LCY_LOCK_LOCK = false ∧ s.nv.fuse.state = 1) ∧
    (∃ (s : State) (req : Requester) (w : Nat), accessErr s.d req 0x10108004 true = 0 ∧ bits w 16 16 = 0x7C1F ∧ rdB s.d Reg.LCY_LOCK_LOCK = false ∧ s.nv.fuse.state ≠ 1) :=
  ⟨⟨{ st []  with nv := { fuse := { state := 1 } } }, .host, 0x7C1F0000, by decide +kernel⟩,
   ⟨{ st []  with nv := { fuse := { state := 2 } } }, .host, 0x7C1F0000, by decide +kernel⟩⟩

theorem witness_LifeCycleMovesAndHostBoot :
    (∃ (s : State) (req : Requester) (w : Nat), accessErr s.d req 0x10108004 true = 0 ∧ bits w 16 16 = 0x7C1F ∧ rdB s.d Reg.LCY_LOCK_LOCK = false ∧ s.nv.fuse.target = 0 ∧ s.nv.fuse.state = 1
      ∧ bits w 4 2 = 2 ∧ zones s.d = [] ∧ role s.d = 0) ∧
    (∃ (s : State), s.nv.fuse.target ≠ 0 ∧ 7 ≤ s.d.boot.step ∧ s.d.boot.scan = false) ∧
    (∃ (s : State) (req : Requester) (w : Nat), accessErr s.d req 0x10108004 true = 0 ∧ bits w 16 16 = 0x7C1F ∧ rdB s.d Reg.LCY_LOCK_LOCK = false ∧ s.nv.fuse.state = 0 ∧ s.d.boot.halted =
      true ∧ isCalved s.d = false) :=
  ⟨⟨{ sti {} [] with nv := { fuse := { state := 1 } } }, .host, 0x7C1F0020, by decide +kernel⟩,
   ⟨{ st []  with nv := { fuse := { target := 2 } } }, by decide +kernel⟩,
   ⟨{ st [] (fun d => { d with boot := { d.boot with halted := true } }) with nv := { fuse := { state := 0 } } }, .host, 0x7C1F0000, by decide +kernel⟩⟩

theorem witness_ScanAndMemoryTests :
    (∃ (s : State), s.nv.fuse.state = 2) ∧
    (∃ (s : State), s.nv.fuse.state ≠ 2) ∧
    (∃ (s : State) (mem : Nat), rdB s.d Reg.BIST_CTRL_ONLINE_EN = true ∧ inBoot s.d = false ∧ rd s.d Reg.PWR_STAT_STATE = 0 ∧ sramId mem = true ∧ s.d.boot.memTest = 0 ∧ s.d.phase = 5 ∧
      s.d.boot.slices = [] ∧ s.d.led.hotCap = false) ∧
    (∃ (s : State), rdB s.d Reg.BIST_STAT_HOST_BUSY = true ∧ s.d.boot.memTest = 2) ∧
    (∃ (s : State) (req : Requester) (w : Nat) (d : Dev), s.served req 0x10100004 ∧ d = writeFields s.d req 0x10100004 (setBit w 4 true) ∧ hostTestable d (bits (setBit w 4 true) 8 8) = true
      ∧ inBoot d = false ∧ inSafe d = false ∧ rdB d Reg.BIST_STAT_HOST_BUSY = false) :=
  ⟨⟨{ st []  with nv := { fuse := { state := 2 } } }, by decide +kernel⟩,
   ⟨{ st []  with nv := { fuse := { state := 1 } } }, by decide +kernel⟩,
   ⟨st [(Reg.BIST_CTRL_ONLINE_EN, 1)] (fun d => { d with phase := 5 }), 0x25, by decide +kernel⟩,
   ⟨st [(Reg.BIST_STAT_HOST_BUSY, 1)] (fun d => { d with boot := { d.boot with memTest := 2 } }), by decide +kernel⟩,
   ⟨st [], .host, 0x2400, writeFields (dev bay []) .host 0x10100004 (setBit 0x2400 4 true), by decide +kernel, rfl, by decide +kernel, by decide +kernel, by decide +kernel, by decide +kernel⟩⟩

theorem witness_RollbackAdvance :
    (∃ (s : State) (req : Requester) (w : Nat), accessErr s.d req 0x10108004 true = 0 ∧ bits w 16 16 = 0x7C1F ∧ s.d.bootOk = true ∧ s.d.boot.version ≤ 64) ∧
    (∃ (s : State) (t : State), s.nv.fuse.rollback ≤ 64 ∧ step s = .next t) :=
  ⟨⟨st [] (fun d => { d with boot := { d.boot with version := 64 } }), .host, 0x7C1F0000, by decide +kernel⟩,
   ⟨{ st [] with nv := { fuse := { rollback := 64 } } }, _, by decide, rfl⟩⟩

theorem witness_PermittedMoves :
    ∃ (s : State) (req : Requester) (w : Nat), s.nv.fuse.target = 0 ∧ accessErr s.d req 0x10108004 true = 0 ∧ bits w 16 16 = 0x7C1F ∧ rdB s.d Reg.LCY_LOCK_LOCK = false ∧ (∀ z ∈ zones s.d,
      zmode s.d z ≠ modeProduction) ∧ role s.d = 0 ∧ (bits w 4 2 = 3 → tokenOk s 3 = true) ∧ ((s.nv.fuse.state = 0 ∧ bits w 4 2 = 1) ∨ (s.nv.fuse.state = 1 ∧ bits w 4 2 = 2) ∨
      ((s.nv.fuse.state = 1 ∨ s.nv.fuse.state = 2) ∧ bits w 4 2 = 3)) :=
  ⟨{ st []  with nv := { fuse := { state := 1 } } }, .host, 0x7C1F0020, by decide +kernel⟩

theorem witness_NeveWordsReadBack :
    ∃ (s : State) (req : Requester) (addr : Nat), accessErr s.d req addr true = 0 ∧ inTest s.d addr = false ∧ 0x01080000 ≤ addr ∧ addr < 0x01200000 :=
  ⟨st [], .host, 0x011FFFFC, by decide +kernel⟩

theorem witness_RegisterWritesByAccessCode :
    (∃ (s : State) (w : Nat), s.d.boot.memTest = 0 ∧ s.d.bootOk = true ∧ rdB s.d Reg.THAW_LOCK_LOCK = true ∧ bits w 0 7 ≠ rd s.d Reg.THAW_CFG_ADDR ∧ 8 ≤ bits w 0 7 ∧ bits w 0 7 ≤ 0x77) ∧
    (∃ (s : State) (addr : Nat), s.d.boot.memTest = 0 ∧ s.d.bootOk = true ∧ addr % 4 ≠ 0 ∧ 0x400000 ≤ addr) ∧
    (∃ (s : State) (req : Requester) (addr : Nat), addr ∈ lockAddrs ∧ s.served req addr ∧ s.d.boot.memTest = 0 ∧ role s.d = 0) :=
  ⟨⟨st [(Reg.THAW_LOCK_LOCK, 1)], 0x77, by decide +kernel⟩,
   ⟨st [], 0x400002, by decide +kernel⟩,
   ⟨st [], .host, Reg.MEAS_LOCK_LOCK.addr, by decide +kernel⟩⟩

theorem witness_MultiWordAccess :
    (∃ (s : State) (c : Nat) (lo : _) (hi : _), c < 4096 ∧ s.d.bootOk = true ∧ s.d.boot.memTest = 0 ∧ ¬ (s.d.led.ue.contains ((c * 0x2000 + 0x30) / 256) = true) ∧ SMap.find s.d.led.shadow 0
      = some ⟨c * 0x2000 + 0x30, [some lo, some hi]⟩) ∧
    (∃ (s : State) (c : Nat), c < 4096 ∧ s.d.bootOk = true ∧ s.d.boot.memTest = 0 ∧ ¬ (s.d.led.ue.contains ((c * 0x2000 + 0x30) / 256) = true) ∧ SMap.find s.d.led.shadow 0 = none) ∧
    (∃ (s : State) (c : Nat) (m : _) (rest : _), c < 4096 ∧ s.d.bootOk = true ∧ s.d.boot.memTest = 0 ∧ ¬ (s.d.led.ue.contains ((c * 0x2000 + 0x30) / 256) = true) ∧ stagings s.d .host = m ::
      rest) :=
  ⟨⟨st [] (fun d => { d with led := { d.led with shadow := [(0, ⟨4095 * 0x2000 + 0x30, [some 1, some 2]⟩)] } }), 4095, 1, 2, by decide +kernel⟩,
   ⟨st [], 4095, by decide +kernel⟩,
   ⟨st [] (fun d => { d with led := { d.led with stage := [(0, [⟨0x30, [none, some 2]⟩])] } }), 0, ⟨0x30, [none, some 2]⟩, [], by decide +kernel⟩⟩

theorem witness_EngineMemoryAccess :
    (∃ (s : State) (req : Requester) (addr : Nat) (v : Nat), 0x02000000 ≤ addr ∧ addr < 0x02600000 ∧ addr % 0x40000 < 0x28000 ∧ inTest s.d addr = false ∧ accessErr s.d req addr false = 0 ∧
      engWord s.d ((addr - 0x02000000) / 0x40000) (addr % 0x40000) = some v) ∧
    (∃ (s : State) (req : Requester) (addr : Nat), 0x02000000 ≤ addr ∧ addr < 0x02600000 ∧ addr % 0x40000 < 0x28000 ∧ inTest s.d addr = false ∧ accessErr s.d req addr true = 0 ∧ inBoot s.d =
      true) ∧
    (∃ (s : State) (req : Requester) (addr : Nat), 0x02000000 ≤ addr ∧ addr < 0x02600000 ∧ addr % 0x40000 < 0x28000 ∧ inTest s.d addr = false ∧ accessErr s.d req addr true = 0 ∧ inBoot s.d =
      false) :=
  ⟨⟨st [], .host, 0x02000000, 0, by decide +kernel⟩,
   ⟨st [(Reg.SYS_PROPS_BOOT, 1)], .host, 0x025E7FFC, by decide +kernel⟩,
   ⟨st [], .host, 0x025E7FFC, by decide +kernel⟩⟩

theorem witness_TriadVotes :
    (∃ (s : State) (x : BusOp), s.d.tri.running ≠ [] ∧ rdB s.d Reg.TRI_DBG_STAT_HALTED = false ∧ s.d.mor.noTriad = false ∧ isCalved s.d = false ∧ rd s.d Reg.TRI_STAT_FENCED = 0 ∧
      s.d.tri.replay = false ∧ mpuAllows s.d 0 x = true ∧ x.write = false ∧ x.be = 15 ∧ ((byteMem x.addr = true ∧ x.size ≠ 8) ∨ x.size = 4)) ∧
    (∃ (s : State) (x : BusOp), s.d.tri.running ≠ [] ∧ rdB s.d Reg.TRI_DBG_STAT_HALTED = false ∧ s.d.mor.noTriad = false ∧ isCalved s.d = false ∧ rd s.d Reg.TRI_STAT_FENCED = 0 ∧
      s.d.tri.replay = false ∧ mpuAllows s.d 0 x = true ∧ byteMem x.addr = false ∧ x.size ≠ 4) ∧
    (∃ (s : State) (x : BusOp), s.d.tri.running ≠ [] ∧ rdB s.d Reg.TRI_DBG_STAT_HALTED = false ∧ s.d.mor.noTriad = false ∧ isCalved s.d = false ∧ rd s.d Reg.TRI_STAT_FENCED = 0 ∧
      s.d.tri.replay = false ∧ mpuAllows s.d 0 x = true ∧ x.write = true ∧ x.be = 15 ∧ ((byteMem x.addr = true ∧ x.size ≠ 8) ∨ x.size = 4)) ∧
    (∃ (s : State) (x : BusOp) (y : BusOp), s.d.tri.running ≠ [] ∧ rdB s.d Reg.TRI_DBG_STAT_HALTED = false ∧ s.d.mor.noTriad = false ∧ isCalved s.d = false ∧ rd s.d Reg.TRI_STAT_FENCED = 0 ∧
      s.d.tri.replay = false ∧ mpuAllows s.d 0 x = true ∧ x.write = true ∧ x.be = 15 ∧ x.addr % 4 = 0 ∧ x.addr < 0x400000 ∧ x.size ≠ 8 ∧ inTest s.d x.addr = false ∧ x.addr = y.addr ∧ x.data
      ≠ y.data) ∧
    (∃ (s : State) (x : BusOp), s.d.tri.running ≠ [] ∧ rdB s.d Reg.TRI_DBG_STAT_HALTED = false ∧ s.d.mor.noTriad = false ∧ isCalved s.d = false ∧ rd s.d Reg.TRI_STAT_FENCED = 0 ∧
      s.d.tri.replay = false ∧ mpuAllows s.d 0 x = true ∧ x.write = true ∧ x.be = 255 ∧ x.size = 8 ∧ x.addr % 8 = 0 ∧ x.addr < 0x400000 ∧ inTest s.d x.addr = false) ∧
    (∃ (s : State), s.d.mor.noTriad = true ∧ s.d.apply = false) ∧
    (∃ (s : State) (x : BusOp), s.d.tri.running ≠ [] ∧ rdB s.d Reg.TRI_DBG_STAT_HALTED = false ∧ s.d.mor.noTriad = false ∧ isCalved s.d = false ∧ rd s.d Reg.TRI_STAT_FENCED = 0 ∧
      s.d.tri.replay = false ∧ mpuAllows s.d 0 x = false) ∧
    (∃ (s : State) (addr : Nat), s.d.mor.noTriad = false ∧ s.d.apply = false ∧ s.d.tri.judged = false ∧ isCalved s.d = false ∧ mpuAllows s.d 0 (supOp addr true) = false) :=
  ⟨⟨st [] (fun d => { d with tri := { d.tri with running := [0, 1, 2] } }), ⟨0x10030004, 0, 15, false, false, false, 4⟩, by decide +kernel⟩,
   ⟨st [] (fun d => { d with tri := { d.tri with running := [0, 1, 2] } }), ⟨0x10030004, 0, 15, false, false, false, 8⟩, by decide +kernel⟩,
   ⟨st [] (fun d => { d with tri := { d.tri with running := [0, 1, 2] } }), ⟨0x10030004, 1, 15, true, false, false, 4⟩, by decide +kernel⟩,
   ⟨st [] (fun d => { d with tri := { d.tri with running := [0, 1, 2] } }), ⟨0x3FFFFC, 1, 15, true, false, false, 4⟩, ⟨0x3FFFFC, 2, 15, true, false, false, 4⟩, by decide +kernel⟩,
   ⟨st [] (fun d => { d with tri := { d.tri with running := [0, 1, 2] } }), ⟨0x3FFFF8, 2 ^ 64 - 1, 255, true, false, false, 8⟩, by decide +kernel⟩,
   ⟨st [] (fun d => { d with mor := { d.mor with noTriad := true } }), by decide +kernel⟩,
   ⟨st [] (fun d => { d with tri := { d.tri with running := [0, 1, 2] } }), ⟨0x3FFFFC, 1, 15, true, false, true, 4⟩, by decide +kernel⟩,
   ⟨st [(Reg.TRI_MPU_BASE_EN 15, 1), (Reg.TRI_MPU_ATTR_SIZE 15, 22)], 0x3FFFFC, by decide +kernel⟩⟩

theorem witness_TriadCoresAndDebug :
    (∃ (s : State) (c : Nat), c < 3 ∧ rdFBit s.d Reg.TRI_STAT_FENCED c = false ∧ triCfg s.d = 0) ∧
    (∃ (s : State) (c : Nat), mayReintegrate s.d c = true) ∧
    (∃ (s : State), rdB s.d Reg.TRI_SCRUB_EN = true ∧ s.d.tri.scrub + 8 ≠ 0x400000) ∧
    (∃ (s : State) (addr : Nat) (r : Nat), s.d.bootOk = true ∧ addr % 4 = 0 ∧ addr < 0x400000 ∧ mpuRegion s.d 0 addr = some r ∧ rdB s.d (Reg.TRI_MPU_ATTR_HOSTW r) = true ∧ role s.d = 0) ∧
    (∃ (s : State) (addr : Nat), s.d.bootOk = true ∧ addr % 4 = 0 ∧ addr < 0x400000 ∧ mpuRegion s.d 0 addr = none) ∧
    (∃ (s : State), s.served .triad 0x1003004C ∧ isCalved s.d = true ∧ s.d.tri.running = [0] ∧ rdFBit s.d Reg.TRI_STAT_FENCED 1 = false) ∧
    (∃ (s : State) (req : Requester), s.served req 0x10030050 ∧ debugPermitted s.d = true ∧ debugRefused s.d = false ∧ rdB s.d Reg.TRI_DBG_STAT_HALTED = false) ∧
    (∃ (s : State) (req : Requester), s.served req 0x10030050 ∧ debugPermitted s.d = true ∧ debugRefused s.d = false ∧ rdB s.d Reg.TRI_DBG_STAT_HALTED = true) ∧
    (∃ (s : State) (req : Requester), s.served req 0x10030050 ∧ debugPermitted s.d = true ∧ debugRefused s.d = true ∧ rdFBit s.d Reg.TRI_STAT_FENCED 0 = true) ∧
    (∃ (s : State) (req : Requester), s.served req 0x1003005C ∧ debugPermitted s.d = true ∧ debugRefused s.d = false ∧ s.d.tri.running = [0]) ∧
    (∃ (s : State) (req : Requester) (w : Nat), s.served req 0x10030020 ∧ rd s.d Reg.TRI_WDOG_CFG_PERIOD ≠ 0 ∧ bits w 0 16 = 0xA55A) ∧
    (∃ (s : State), rd s.d Reg.TRI_WDOG_CFG_PERIOD ≠ 0 ∧ s.d.tri.kickK + rd s.d Reg.TRI_WDOG_CFG_PERIOD ≤ s.d.k) ∧
    (∃ (s : State), s.served .triad 0x10030000) ∧
    (∃ (s : State), s.served .host 0x10030000) :=
  ⟨⟨st [], 2, by decide +kernel⟩,
   ⟨st [(Reg.TRI_STAT_FENCED, 4), (Reg.SYS_PROPS_TRIAD, 1), (Reg.TRI_CTRL_REINT_EN, 1), (Reg.TRI_REINT_CFG_DELAY, 0)], 2, by decide +kernel⟩,
   ⟨st [(Reg.TRI_SCRUB_EN, 1)] (fun d => { d with tri := { d.tri with scrub := 0x3FFFF0 } }), by decide +kernel⟩,
   ⟨st [(Reg.TRI_MPU_BASE_EN 15, 1), (Reg.TRI_MPU_ATTR_SIZE 15, 22), (Reg.TRI_MPU_ATTR_HOSTW 15, 1)], 0x3FFFFC, 15, by decide +kernel⟩,
   ⟨st [], 0x3FFFFC, by decide +kernel⟩,
   ⟨st [(Reg.SYS_PROPS_TRIAD, 2)] (fun d => { d with tri := { d.tri with running := [0] } }), by decide +kernel⟩,
   ⟨st [], .host, by decide +kernel⟩,
   ⟨st [(Reg.TRI_DBG_STAT_HALTED, 1)], .host, by decide +kernel⟩,
   ⟨st [(Reg.TRI_STAT_FENCED, 1)], .host, by decide +kernel⟩,
   ⟨st [] (fun d => { d with tri := { d.tri with running := [0] } }), .host, by decide +kernel⟩,
   ⟨st [(Reg.TRI_WDOG_CFG_PERIOD, 1)], .host, 0xFFFFA55A, by decide +kernel⟩,
   ⟨st [(Reg.TRI_WDOG_CFG_PERIOD, 1)] (fun d => { d with k := 1 }), by decide +kernel⟩,
   ⟨st [], by decide +kernel⟩,
   ⟨st [], by decide +kernel⟩⟩

theorem witness_MorainePass :
    (∃ (s : State) (e : MorEv), s.d.mor.raised = [e] ∧ s.d.mor.shadows = [] ∧ e.src < 384 ∧ s.d.mor.queue.length < 512 ∧ rd s.d (Reg.MOR_SRC_CFG_CLASS e.src) = 0 ∧ rd s.d
      (Reg.MOR_SRC_CFG_REACT e.src) = 0 ∧ 0 < rd s.d Reg.MOR_CTRL_FAULT_CLASS) ∧
    (∃ (s : State) (e : MorEv), s.d.mor.raised = [e] ∧ s.d.mor.shadows = [] ∧ e.src < 384 ∧ e.ut = 4 ∧ e.ui < 256 ∧ s.d.mor.queue.length < 512 ∧ rd s.d (Reg.MOR_SRC_CFG_CLASS e.src) = 2 ∧ rd
      s.d (Reg.MOR_SRC_CFG_REACT e.src) = 2 ∧ 0 < rd s.d (Reg.MOR_SRC_CFG_SHADOW e.src) ∧ rd s.d Reg.MOR_CTRL_FAULT_CLASS ≤ 2) ∧
    (∃ (s : State) (e : MorEv), s.d.mor.raised = [e] ∧ s.d.mor.shadows = [] ∧ e.src < 384 ∧ inSafe s.d = false ∧ rd s.d (Reg.MOR_SRC_CFG_CLASS e.src) = 3 ∧ rd s.d (Reg.MOR_SRC_CFG_REACT
      e.src) = 5) ∧
    (∃ (s : State), s.d.mor.raised = [] ∧ inSafe s.d = false) :=
  ⟨⟨st [(Reg.MOR_SRC_CFG_CLASS 383, 0), (Reg.MOR_SRC_CFG_REACT 383, 0), (Reg.MOR_CTRL_FAULT_CLASS, 1)] (fun d => { d with mor := { d.mor with raised := [⟨383, 0, 0, 0, 0, 0, 0, false⟩] } }), ⟨383, 0, 0, 0, 0, 0, 0, false⟩, by decide +kernel⟩,
   ⟨st [(Reg.MOR_SRC_CFG_CLASS 383, 2), (Reg.MOR_SRC_CFG_REACT 383, 2), (Reg.MOR_SRC_CFG_SHADOW 383, 1), (Reg.MOR_CTRL_FAULT_CLASS, 2)] (fun d => { d with mor := { d.mor with raised := [⟨383, 4, 255, 0, 0, 0, 0, false⟩] } }), ⟨383, 4, 255, 0, 0, 0, 0, false⟩, by decide +kernel⟩,
   ⟨st [(Reg.MOR_SRC_CFG_CLASS 383, 3), (Reg.MOR_SRC_CFG_REACT 383, 5)] (fun d => { d with mor := { d.mor with raised := [⟨383, 0, 0, 0, 0, 0, 0, false⟩] } }), ⟨383, 0, 0, 0, 0, 0, 0, false⟩, by decide +kernel⟩,
   ⟨st [], by decide +kernel⟩⟩

theorem witness_FaultNAndShadows :
    (∃ (s : State), rdB s.d Reg.MOR_STAT_PULSE = true ∧ s.d.mor.pulseK + 20 ≤ s.d.k ∧ s.d.mor.relPend = false) ∧
    (∃ (s : State), rdB s.d Reg.MOR_STAT_PULSE = true ∧ s.d.mor.pulseK + 20 ≤ s.d.k ∧ s.d.mor.relPend = true ∧ inSafe s.d = false) ∧
    (∃ (s : State) (req : Requester) (w : Nat), s.served req 0x10020000 ∧ bits (setBit w 0 true) 4 2 = rd s.d Reg.MOR_CTRL_FAULT_CLASS ∧ rd s.d Reg.MOR_CTRL_FAULT_CLASS ≠ 0 ∧ bit (setBit w 0
      true) 1 = false ∧ rdB s.d Reg.MOR_STAT_PULSE = false) ∧
    (∃ (s : State) (req : Requester) (w : Nat), s.served req 0x10020000 ∧ bits (setBit w 0 true) 4 2 = rd s.d Reg.MOR_CTRL_FAULT_CLASS ∧ rd s.d Reg.MOR_CTRL_FAULT_CLASS ≠ 0 ∧ bit (setBit w 0
      true) 1 = false ∧ rdB s.d Reg.MOR_STAT_PULSE = true) ∧
    (∃ (s : State) (req : Requester) (w : Nat), s.served req 0x10020000 ∧ bits (setBit w 1 true) 4 2 = rd s.d Reg.MOR_CTRL_FAULT_CLASS ∧ rd s.d Reg.MOR_CTRL_FAULT_CLASS ≠ 0 ∧ bit (setBit w 1
      true) 0 = false) ∧
    (∃ (s : State), s.d.k < s.d.mor.pulseK + 20) ∧
    (∃ (s : State) (n : Nat), s.d.mor.brakeDue = true ∧ axesOf s.d = [n] ∧ (axis s.d n).ice = true) :=
  ⟨⟨st [(Reg.MOR_STAT_PULSE, 1)] (fun d => { d with k := 20 }), by decide +kernel⟩,
   ⟨st [(Reg.MOR_STAT_PULSE, 1)] (fun d => { d with k := 21, mor := { d.mor with pulseK := 1, relPend := true } }), by decide +kernel⟩,
   ⟨st [(Reg.MOR_CTRL_FAULT_CLASS, 1)], .host, 16, by decide +kernel⟩,
   ⟨st [(Reg.MOR_CTRL_FAULT_CLASS, 1), (Reg.MOR_STAT_PULSE, 1)], .host, 16, by decide +kernel⟩,
   ⟨st [(Reg.MOR_CTRL_FAULT_CLASS, 1)], .host, 16, by decide +kernel⟩,
   ⟨st [(Reg.MOR_STAT_PULSE, 1)] (fun d => { d with k := 19 }), by decide +kernel⟩,
   ⟨sti { axes := [axis7] } [] (fun d => { d with mor := { d.mor with brakeDue := true }, axis := [(7, { ice := true })] }), 7, by decide +kernel⟩⟩

theorem witness_MoraineCommandsAndRing :
    (∃ (s : State) (req : Requester) (w : Nat), bit w 31 = true ∧ s.served req 0x10020024 ∧ unitOk (bits w 12 4) (bits w 16 12) = true) ∧
    (∃ (s : State) (req : Requester) (w : Nat), bit w 31 = true ∧ s.served req 0x10020024 ∧ unitOk (bits w 12 4) (bits w 16 12) = false) ∧
    (∃ (s : State) (req : Requester) (w : Nat), bit w 31 = true ∧ s.served req 0x10020020 ∧ allMaint s.d = true ∧ morAssigned (bits w 0 9) = true ∧ morUnit (bits w 0 9) = bits w 12 4 ∧
      unitOk (bits w 12 4) (bits w 16 12) = true) ∧
    (∃ (s : State) (req : Requester) (w : Nat), bit w 31 = true ∧ s.served req 0x1002002C ∧ bits w 0 4 = 4 ∧ ownFence s.d 4 (bits w 4 12) = true ∧ SMap.get [] s.d.mor.fencers (4 * 4096 +
      bits w 4 12) = []) ∧
    (∃ (s : State) (req : Requester) (i : Nat), i < 12 ∧ s.served req (0x10020080 + 4 * i) ∧ (∀ n < 32, standing s.d (32 * i + n) = [])) ∧
    (∃ (s : State) (req : Requester), s.served req 0x10020030) ∧
    (∃ (s : State) (x : MorEntry) (q : List MorEntry), s.d.mor.queue = x :: q ∧ (hring s.d 0).en = false ∧ (rd s.d Reg.MOR_LOG_WRITTEN_CNT + 2 ^ 32 - rd s.d Reg.MOR_LOG_RD_RD) % 2 ^ 32 ≠
      1024) :=
  ⟨⟨st [], .host, 0x8FFF1000, by decide +kernel⟩,
   ⟨st [], .host, 0x8000F000, by decide +kernel⟩,
   ⟨st [], .host, 0x80027010, by decide +kernel⟩,
   ⟨st [(Reg.MOR_FENCED_GRP_UNITS 0, 2)], .host, 0x80000014, by decide +kernel⟩,
   ⟨st [], .host, 11, by decide +kernel⟩,
   ⟨st [], .host, by decide +kernel⟩,
   ⟨st [] (fun d => { d with mor := { d.mor with queue := [⟨⟨0, 0, 0, 0, 0, 0, 0, false⟩, 0, false, false, 0⟩] } }), ⟨⟨0, 0, 0, 0, 0, 0, 0, false⟩, 0, false, false, 0⟩, [], by decide +kernel⟩⟩

theorem witness_FloeLink :
    (∃ (s : State) (p : Nat), p < 128 ∧ pst s.d p = psAlign ∧ mayTalk s.d p = true) ∧
    (∃ (s : State) (p : Nat) (f : List Byte), p < 128 ∧ pst s.d p = psCaps ∧ f.length = 52 ∧ crc32c (f.take 48) = beAt f 48 4 ∧ byteAt f 0 = 0x40 ∧ capsReason s.d p f = 0) ∧
    (∃ (s : State) (p : Nat) (f : List Byte), p < 128 ∧ pst s.d p = psCaps ∧ f.length = 52 ∧ crc32c (f.take 48) = beAt f 48 4 ∧ byteAt f 0 = 0x40 ∧ capsReason s.d p f ≠ 0) ∧
    (∃ (s : State) (p : Nat) (f : List Byte), p < 128 ∧ pst s.d p = psDelay ∧ f.length = 12 ∧ crc32c (f.take 8) = beAt f 8 4 ∧ byteAt f 0 = 0x43 ∧ byteAt f 1 = (port s.d p).selV) ∧
    (∃ (s : State) (p : Nat) (f : List Byte), p < 128 ∧ pst s.d p = psDelay ∧ f.length = 12 ∧ crc32c (f.take 8) = beAt f 8 4 ∧ byteAt f 0 = 0x43 ∧ byteAt f 1 ≠ (port s.d p).selV) ∧
    (∃ (s : State) (p : Nat), p < 128 ∧ pst s.d p = psSync) ∧
    (∃ (s : State) (p : Nat), p < 128 ∧ (pst s.d p = psActive ∨ pst s.d p = psLost)) ∧
    (∃ (s : State) (p : Nat), p < 128 ∧ mayTalk s.d p = true ∧ pst s.d p = psActive) ∧
    (∃ (s : State) (p : Nat), p < 128 ∧ mayTalk s.d p = true ∧ pst s.d p = psDelay) ∧
    (∃ (s : State) (p : Nat), p < 128 ∧ mayTalk s.d p = true ∧ pst s.d p = psCaps) ∧
    (∃ (s : State) (p : Nat), p < 128 ∧ mayTalk s.d p = true ∧ pst s.d p = psParked) ∧
    (∃ (s : State) (p : Nat), p < 128 ∧ mayTalk s.d p = false) ∧
    (∃ (s : State) (p : Nat) (rtt : Nat) (f : List Byte), p < 128 ∧ pst s.d p = psDelay ∧ (port s.d p).acked = true ∧ (port s.d p).echoSeen = 15 ∧ f.length = 8 ∧ crc32c (f.take 4) = beAt f 4
      4 ∧ byteAt f 0 = 0x45 ∧ (port s.d p).echoOpen.contains (byteAt f 1) = true ∧ (port s.d p).rttSum + rtt = 16 * turnNs s.d p + 32 * 100) :=
  ⟨⟨floePort 127 psAlign [] (fun q => q), 127, by decide +kernel⟩,
   ⟨floePort 127 psCaps [] (fun q => q), 127, capsFrame 0x33, by decide +kernel⟩,
   ⟨floePort 127 psCaps [] (fun q => q), 127, capsFrame 0x44, by decide +kernel⟩,
   ⟨floePort 127 psDelay [] (fun q => { q with selV := 3 }), 127, withCrc [0x43, 3, 0, 0, 0, 0, 0, 0], by decide +kernel⟩,
   ⟨floePort 127 psDelay [] (fun q => { q with selV := 3 }), 127, withCrc [0x43, 2, 0, 0, 0, 0, 0, 0], by decide +kernel⟩,
   ⟨floePort 127 psSync [] (fun q => q), 127, by decide +kernel⟩,
   ⟨floePort 127 psLost [] (fun q => q), 127, by decide +kernel⟩,
   ⟨floePort 127 psActive [] (fun q => q), 127, by decide +kernel⟩,
   ⟨floePort 127 psDelay [] (fun q => q), 127, by decide +kernel⟩,
   ⟨floePort 127 psCaps [] (fun q => q), 127, by decide +kernel⟩,
   ⟨floePort 127 psParked [] (fun q => q), 127, by decide +kernel⟩,
   ⟨st [], 127, by decide +kernel⟩,
   ⟨floePort 127 psDelay [(Reg.FLOE_BRICK_FW_FW 127, 0x03E80000)] (fun q => { q with acked := true, echoSeen := 15, echoOpen := [15] }), 127, 19200, withCrc [0x45, 15, 0, 0], by decide +kernel⟩⟩

theorem witness_FloeControl :
    (∃ (s : State) (p : Nat) (f : List Byte), p < 128 ∧ pst s.d p ≠ psDisabled ∧ f.length = 12 ∧ crc32c (f.take 8) = beAt f 8 4 ∧ byteAt f 0 = 0x20 ∧ beAt f 2 2 = (port s.d p).expId) ∧
    (∃ (s : State) (p : Nat) (fr : List Byte), p < 128 ∧ (port s.d p).expOpen = some fr ∧ rdB s.d (Reg.FLOE_CTRL_EXP_RESEND p) = true ∧ (port s.d p).expTries = 1 ∧ mayTalk s.d p = true ∧
      inSafe s.d = false) ∧
    (∃ (s : State) (p : Nat) (fr : List Byte), p < 128 ∧ (port s.d p).expOpen = some fr ∧ (port s.d p).expTries = 2 ∨ rdB s.d (Reg.FLOE_CTRL_EXP_RESEND p) = false) ∧
    (∃ (s : State) (req : Requester) (p : Nat) (w : Nat) (d : Dev) (b : BrickRec), p < 128 ∧ s.served req (0x10050000 + 0x100 * p) ∧ (img s.d).brickAt p = some b ∧ bit w 1 = true ∧ bit w 5 =
      false ∧ d = writeFields s.d req (0x10050000 + 0x100 * p) w ∧ isMaint (zmode s.d b.zone) = true ∧ pst s.d p ≠ psDisabled) ∧
    (∃ (s : State) (req : Requester) (p : Nat) (w : Nat) (d : Dev) (b : BrickRec), p < 128 ∧ s.served req (0x10050000 + 0x100 * p) ∧ (img s.d).brickAt p = some b ∧ bit w 1 = true ∧ bit w 5 =
      false ∧ d = writeFields s.d req (0x10050000 + 0x100 * p) w ∧ isMaint (zmode s.d b.zone) = false) ∧
    (∃ (s : State) (req : Requester) (p : Nat) (w : Nat) (b : BrickRec), p < 128 ∧ s.served req (0x10050000 + 0x100 * p) ∧ (img s.d).brickAt p = some b ∧ bit w 1 = false ∧ bit w 5 = true) :=
  ⟨⟨floePort 127 psActive [] (fun q => { q with expId := 0xFFFF }), 127, withCrc [0x20, 0, 0xFF, 0xFF, 0, 0, 0, 0], by decide +kernel⟩,
   ⟨floePort 127 psActive [(Reg.FLOE_CTRL_EXP_RESEND 127, 1)] (fun q => { q with expOpen := some [], expTries := 1 }), 127, [], by decide +kernel⟩,
   ⟨floePort 127 psActive [] (fun q => { q with expOpen := some [], expTries := 2 }), 127, [], by decide +kernel⟩,
   ⟨st [(Reg.FLOE_STAT_STATE 0, psActive)], .host, 0, 2, writeFields (dev bay [(Reg.FLOE_STAT_STATE 0, psActive)]) .host 0x10050000 2, ⟨0, 0, 0, 0, 0, 8⟩, by decide +kernel, by decide +kernel, by decide +kernel, by decide +kernel, by decide +kernel, rfl, by decide +kernel, by decide +kernel⟩,
   ⟨st [(Reg.SYS_ZMODE 0, 2)], .host, 0, 2, writeFields (dev bay [(Reg.SYS_ZMODE 0, 2)]) .host 0x10050000 2, ⟨0, 0, 0, 0, 0, 8⟩, by decide +kernel, by decide +kernel, by decide +kernel, by decide +kernel, by decide +kernel, rfl, by decide +kernel⟩,
   ⟨st [], .host, 0, 0x20, ⟨0, 0, 0, 0, 0, 8⟩, by decide +kernel⟩⟩

set_option maxRecDepth 100000 in
theorem witness_SuperframeReception :
    (∃ (s : State) (p : Nat) (hdr : List Byte) (blk : List Byte), p < 128 ∧ inService s.d p = true ∧ blk.length = 21 + blkData s.d p ∧ crc32c (blk.take (17 + blkData s.d p)) = beAt blk (17 +
      blkData s.d p) 4 ∧ byteAt blk 0 ≤ 15 ∧ (port s.d p).blk ≤ 16 * rxWindow s.d hdr + byteAt blk 0 ∧ sfHeaderOk s.d p hdr = true) ∧
    (∃ (s : State) (p : Nat) (blk : List Byte), p < 128 ∧ inService s.d p = true ∧ blk.length = 21 + blkData s.d p ∧ crc32c (blk.take (17 + blkData s.d p)) ≠ beAt blk (17 + blkData s.d p) 4) ∧
    (∃ (s : State) (p : Nat) (hdr : List Byte) (crc : List Byte) (blks : List (List Byte)), p < 128 ∧ inService s.d p = true ∧ pst s.d p = psSync ∧ blks.length = 16 ∧ (∀ b ∈ blks, b.length =
      21 + blkData s.d p) ∧ hdr.length = 16 ∧ crc.length = 4 ∧ crc32c (hdr ++ blks.flatten) = beAt crc 0 4 ∧ s.d.phase = 0 ∧ sfHeaderOk s.d p hdr = true ∧ (∀ i < 16, sfBlockOk s.d p i
      (blks.getD i []) = true) ∧ byteAt hdr 7 = 0) ∧
    (∃ (s : State) (p : Nat), p < 128 ∧ inService s.d p = true ∧ s.d.phase = 0 ∧ mappedPorts s.d = [p] ∧ pst s.d p = psActive ∧ (port s.d p).sfOk = false ∧ (port s.d p).miss = 1) :=
  ⟨⟨floePort 127 psActive [(Reg.FLOE_STAT_VER 127, 1)] id, 127, [1, 0x10, 0, 0, 0, 0, 0, 0, 0, 0, 0, 0, 0, 0, 0, 0], block 15, by decide +kernel⟩,
   ⟨floePort 127 psLost [(Reg.FLOE_STAT_VER 127, 1)] id, 127, List.replicate 149 1, by decide +kernel⟩,
   ⟨floePort 127 psSync [(Reg.FLOE_STAT_VER 127, 1)] id, 127, [1, 0x10, 0, 0, 0, 0, 0, 0, 0, 0, 0, 0, 0, 0, 0, 0], natBE 4 (crc32c ([1, 0x10, 0, 0, 0, 0, 0, 0, 0, 0, 0, 0, 0, 0, 0, 0] ++ ((List.range 16).map block).flatten)), (List.range 16).map block, by decide +kernel⟩,
   ⟨sti { bricks := [⟨0, 127, 0, 0, 4088, 8⟩] } [(Reg.FLOE_STAT_STATE 127, psActive)] (fun d => { d with floe := [(127, { miss := 1 })] }), 127, by decide +kernel⟩⟩

theorem witness_FirnCommands :
    (∃ (s : State) (req : Requester), accessErr s.d req 0x10040000 true = 0 ∧ isStandby s.d = false ∧ (s.d.firn.verif = none) ∧ (inBoot s.d = true ∨ ∀ z ∈ zones s.d, zmode s.d z ≠
      modeProduction)) ∧
    (∃ (s : State) (req : Requester), accessErr s.d req 0x10040000 true = 0 ∧ isStandby s.d = false ∧ (s.d.firn.verif = none) ∧ inBoot s.d = false ∧ (∃ z ∈ zones s.d, zmode s.d z =
      modeProduction)) ∧
    (∃ (s : State) (req : Requester), accessErr s.d req 0x10040000 true = 0 ∧ isStandby s.d = false ∧ (s.d.firn.verif = none) ∧ 2 ≤ rd s.d Reg.FIRN_STAT_FORMAT) ∧
    (∃ (s : State) (req : Requester) (w : Nat), accessErr s.d req 0x10040000 true = 0 ∧ isStandby s.d = false ∧ (s.d.firn.verif = none) ∧ slotBusy s.d (bits w 4 2) = false ∧ forwards s.d req
      = false) ∧
    (∃ (s : State) (req : Requester), accessErr s.d req 0x10040000 true = 0 ∧ isStandby s.d = false ∧ s.d.firn.verif.isSome = true) :=
  ⟨⟨st [], .host, by decide +kernel⟩,
   ⟨st [(Reg.SYS_ZMODE 0, 2)], .host, by decide +kernel⟩,
   ⟨st [(Reg.FIRN_STAT_FORMAT, 2)], .host, by decide +kernel⟩,
   ⟨st [], .host, 0x30, by decide +kernel⟩,
   ⟨st [] (fun d => { d with firn := { d.firn with verif := some ⟨1, [], 0⟩ } }), .host, by decide +kernel⟩⟩

theorem witness_FirnVerificationAndSwitch :
    (∃ (s : State) (v : Verif), (s.d.firn.verif = some v) ∧ v.kind = 1 ∧ isActive s.d = false) ∧
    (∃ (s : State) (v : Verif), (s.d.firn.verif = some v) ∧ v.kind = 1 ∧ isActive s.d = true) ∧
    (∃ (s : State), s.d.k % 20 = 0 ∧ s.d.phase ≤ 1 ∧ rdB s.d Reg.FIRN_STAT_PEND = true ∧ s.d.firn.pendCyc ≤ cycNo s.d ∧ s.d.firn.commit = none ∧ modeHeld s.d s.d.firn.pendMode = true ∧
      boundVar s.d s.d.firn.pendMode = rd s.d Reg.FIRN_STAT_ACTIVE_VAR) ∧
    (∃ (s : State), s.d.k % 20 = 0 ∧ s.d.phase ≤ 1 ∧ rdB s.d Reg.FIRN_STAT_PEND = true ∧ s.d.firn.pendCyc ≤ cycNo s.d ∧ s.d.firn.commit = none ∧ modeHeld s.d s.d.firn.pendMode = false ∧
      rimeState s.d ≠ 1) :=
  ⟨⟨st [] (fun d => { d with firn := { d.firn with verif := some ⟨1, [], 0⟩ } }), ⟨1, [], 0⟩, by decide +kernel⟩,
   ⟨st [(Reg.SYS_PROPS_ROLE, 1)] (fun d => { d with firn := { d.firn with verif := some ⟨1, [], 0⟩ } }), ⟨1, [], 0⟩, by decide +kernel⟩,
   ⟨sti { binding := [0] } [(Reg.FIRN_STAT_PEND, 1)] (fun d => { d with phase := 1 }), by decide +kernel⟩,
   ⟨st [(Reg.FIRN_STAT_PEND, 1)], by decide +kernel⟩⟩

theorem witness_SafetyConfirmation :
    (∃ (s : State) (req : Requester) (w : Nat), s.served req 0x100D0000 ∧ isCalved s.d = false ∧ allMaint s.d = true ∧ forwards s.d req = false ∧ rd s.d Reg.SAFE_STAT_CONF = 0 ∧ w = rd s.d
      Reg.FIRN_SAFE_CRC_CHECK ∧ w < 2 ^ 32) ∧
    (∃ (s : State) (req : Requester) (w : Nat), s.served req 0x100D0000 ∧ isCalved s.d = false ∧ allMaint s.d = true ∧ forwards s.d req = false ∧ rd s.d Reg.SAFE_STAT_CONF = 0 ∧ w < 2 ^ 32 ∧
      w ≠ rd s.d Reg.FIRN_SAFE_CRC_CHECK) ∧
    (∃ (s : State) (req : Requester), s.served req 0x100D0000 ∧ isCalved s.d = false ∧ allMaint s.d = true ∧ forwards s.d req = false ∧ rd s.d Reg.SAFE_STAT_CONF = 2) ∧
    (∃ (s : State) (req : Requester), s.served req 0x100D0000 ∧ allMaint s.d = false) ∧
    (∃ (s : State), rd s.d Reg.SAFE_STAT_CONF = 1 ∧ s.d.safe.armT + 30000000000 ≤ tickNs s.d ∧ confirmsElsewhere s.d = false) ∧
    (∃ (s : State) (c : Nat) (g : List Byte), s.d.safe.recDue = true ∧ s.d.safe.conf = some (c, g) ∧ s.d.host.qspi = none) ∧
    (∃ (s : State), s.d.safe.recDue = true ∧ s.d.host.qspi ≠ none) :=
  ⟨⟨st [], .host, 0, by decide +kernel⟩,
   ⟨st [], .host, 2 ^ 32 - 1, by decide +kernel⟩,
   ⟨st [(Reg.SAFE_STAT_CONF, 2)], .host, by decide +kernel⟩,
   ⟨st [(Reg.SYS_ZMODE 0, 2)], .host, by decide +kernel⟩,
   ⟨st [(Reg.SAFE_STAT_CONF, 1)] (fun d => { d with k := 600000 }), by decide +kernel⟩,
   ⟨st [] (fun d => { d with safe := { d.safe with recDue := true, conf := some (5, []) } }), 5, [], by decide +kernel⟩,
   ⟨st [] (fun d => { d with safe := { d.safe with recDue := true }, host := { d.host with qspi := some (1, 0, 1, []) } }), by decide +kernel⟩⟩

theorem witness_CalibrationCommands :
    (∃ (s : State) (req : Requester) (w : Nat), accessErr s.d req 0x10060008 true = 0 ∧ calRefusal s.d 1 (bits w 4 3) (bits w 8 4) (bits w 12 8) = 0) ∧
    (∃ (s : State) (req : Requester) (w : Nat), accessErr s.d req 0x10060008 true = 0 ∧ calRefusal s.d 2 (bits w 4 3) (bits w 8 4) (bits w 12 8) = 0) ∧
    (∃ (s : State) (req : Requester) (w : Nat) (r : CapRun), accessErr s.d req 0x10060008 true = 0 ∧ calRefusal s.d 4 (bits w 4 3) (bits w 8 4) (bits w 12 8) = 0 ∧ s.d.meas.run = some r) ∧
    (∃ (s : State) (req : Requester) (w : Nat), accessErr s.d req 0x10060008 true = 0 ∧ calRefusal s.d 5 (bits w 4 3) (bits w 8 4) (bits w 12 8) = 0 ∧ s.d.meas.run = none ∧ isActive s.d =
      false) ∧
    (∃ (s : State) (req : Requester) (w : Nat), accessErr s.d req 0x10060008 true = 0 ∧ calRefusal s.d 1 (bits w 4 3) (bits w 8 4) (bits w 12 8) ≠ 0 ∧ calOutside (bits w 4 3) (bits w 8 4)
      (bits w 12 8) = true) ∧
    (∃ (s : State) (req : Requester) (w : Nat), accessErr s.d req 0x10060008 true = 0 ∧ calRefusal s.d 3 (bits w 4 3) (bits w 8 4) (bits w 12 8) ≠ 0 ∧ calOutside (bits w 4 3) (bits w 8 4)
      (bits w 12 8) = false) :=
  ⟨⟨st [(Reg.MEAS_CAL_CH_FIRST, 4088), (Reg.MEAS_CAL_CH_NUM, 8)], .host, 0x4400, by decide +kernel⟩,
   ⟨st [(Reg.MEAS_CAL_CH_FIRST, 4088), (Reg.MEAS_CAL_CH_NUM, 8)], .host, 0x4400, by decide +kernel⟩,
   ⟨st [(Reg.MEAS_CAL_CH_FIRST, 4088), (Reg.MEAS_CAL_CH_NUM, 8)] (fun d => { d with meas := { d.meas with run := some {} } }), .host, 0x4400, {}, by decide +kernel⟩,
   ⟨st [(Reg.MEAS_CAL_CH_FIRST, 4088), (Reg.MEAS_CAL_CH_NUM, 8)], .host, 0x4E00, by decide +kernel⟩,
   ⟨st [(Reg.MEAS_CAL_CH_FIRST, 4088), (Reg.MEAS_CAL_CH_NUM, 8)], .host, 0x4300, by decide +kernel⟩,
   ⟨st [(Reg.MEAS_CAL_CH_FIRST, 4089), (Reg.MEAS_CAL_CH_NUM, 8)], .host, 0x4400, by decide +kernel⟩⟩

theorem witness_CalibrationResults :
    (∃ (s : State) (req : Requester) (w : Nat), accessErr s.d req 0x10060008 true = 0 ∧ calRefusal s.d 3 (bits w 4 3) (bits w 8 4) (bits w 12 8) = 0 ∧ s.d.meas.run = none ∧ s.d.meas.zero =
      none) ∧
    (∃ (s : State) (req : Requester) (w : Nat) (c : Nat) (z : CapHeld) (f : CapHeld), accessErr s.d req 0x10060008 true = 0 ∧ calRefusal s.d 3 (bits w 4 3) (bits w 8 4) (bits w 12 8) = 0 ∧
      s.d.meas.run = none ∧ s.d.meas.zero = some z ∧ s.d.meas.full = some f ∧ z.first = f.first ∧ z.num = f.num ∧ z.stream = f.stream ∧ isActive s.d = false ∧ (∀ c ∈ setChans z.first z.num,
      (computeCh s.d z f c).1 = 0)) ∧
    (∃ (s : State) (req : Requester) (w : Nat) (c : Nat) (code : Nat) (z : CapHeld) (f : CapHeld) (more : List Nat), accessErr s.d req 0x10060008 true = 0 ∧ calRefusal s.d 3 (bits w 4 3)
      (bits w 8 4) (bits w 12 8) = 0 ∧ s.d.meas.run = none ∧ s.d.meas.zero = some z ∧ s.d.meas.full = some f ∧ z.first = f.first ∧ z.num = f.num ∧ z.stream = f.stream ∧ isActive s.d = false
      ∧ setChans z.first z.num = c :: more ∧ (computeCh s.d z f c).1 = code ∧ code ≠ 0) ∧
    (∃ (s : State) (r : CapRun), s.d.meas.run = some r ∧ (∀ c ∈ setChans r.first r.num, 2 ^ r.n ≤ SMap.get 0 r.cnt c) ∧ r.zero = true) ∧
    (∃ (s : State) (r : CapRun), s.d.meas.run = some r ∧ (∃ c ∈ setChans r.first r.num, SMap.get 0 r.cnt c < 2 ^ r.n)) ∧
    (∃ (s : State) (req : Requester) (addr : Nat), accessErr s.d req addr true = 0 ∧ chanMode s.d ((addr - 0x05000000) / 0x2000) isMaint = true ∧ isStandby s.d = false ∧ isActive s.d =
      false) ∧
    (∃ (s : State) (req : Requester) (addr : Nat), accessErr s.d req addr true = 0 ∧ chanMode s.d ((addr - 0x05000000) / 0x2000) isMaint = false) ∧
    (∃ (s : State) (ch : Nat), (contact s.d ch).abort = false ∧ isTripped s.d ch = false ∧ (contact s.d ch).done = true ∧ (contact s.d ch).phase = 1) ∧
    (∃ (s : State) (ch : Nat), (contact s.d ch).abort = false ∧ isTripped s.d ch = false ∧ (contact s.d ch).done = true ∧ (contact s.d ch).phase = 2) ∧
    (∃ (s : State) (ch : Nat), (contact s.d ch).phase ≠ 0 ∧ (contact s.d ch).abort = true) :=
  ⟨⟨st [], .host, 0x4400, by decide +kernel⟩,
   ⟨st [(Reg.MEAS_CAL_REFF_REFF, 0x200000)] (fun d => { d with meas := { d.meas with zero := some { first := 0, num := 1 }, full := some { first := 0, num := 1, mean := [(0, 2 ^ 29)] } } }), .host, 0x4400, 0, { first := 0, num := 1 }, { first := 0, num := 1, mean := [(0, 2 ^ 29)] }, by decide +kernel⟩,
   ⟨st [(Reg.MEAS_CAL_REFF_REFF, 0x200000)] (fun d => { d with meas := { d.meas with zero := some { first := 0, num := 1 }, full := some { first := 0, num := 1 } } }), .host, 0x4400, 0, 9, { first := 0, num := 1 }, { first := 0, num := 1 }, [], by decide +kernel⟩,
   ⟨st [] (fun d => { d with meas := { d.meas with run := some { first := 4095, num := 1, n := 4, cnt := [(4095, 16)] } } }), { first := 4095, num := 1, n := 4, cnt := [(4095, 16)] }, by decide +kernel⟩,
   ⟨st [] (fun d => { d with meas := { d.meas with run := some { first := 4095, num := 1, n := 4, cnt := [(4095, 15)] } } }), { first := 4095, num := 1, n := 4, cnt := [(4095, 15)] }, by decide +kernel⟩,
   ⟨st [], .host, 0x06FFF000, by decide +kernel⟩,
   ⟨st [(Reg.SYS_ZMODE 0, 2)], .host, 0x06FFF000, by decide +kernel⟩,
   ⟨st [] (fun d => { d with meas := { d.meas with contact := [(4095, { phase := 1, done := true })] } }), 4095, by decide +kernel⟩,
   ⟨st [] (fun d => { d with meas := { d.meas with contact := [(4095, { phase := 2, done := true })] } }), 4095, by decide +kernel⟩,
   ⟨st [] (fun d => { d with meas := { d.meas with contact := [(4095, { phase := 3, abort := true })] } }), 4095, by decide +kernel⟩⟩

theorem witness_LedgerFoldsAndErrors :
    (∃ (s : State), 20 ≤ s.d.k + 1 ∧ s.d.phase = 5 ∧ s.d.led.foldN ≤ (s.d.k + 1) / 20 - 1 ∧ s.d.sch.rsHold = []) ∧
    (∃ (s : State), s.d.phase ≠ 5) ∧
    (∃ (s : State), s.d.led.foldN + 2 ≤ s.d.k / 20) ∧
    (∃ (s : State), s.d.k / 20 < s.d.led.foldN + 2) ∧
    (∃ (c : Nat) (o : Nat), c < 4096 ∧ o < 0x1E00) :=
  ⟨⟨st [] (fun d => { d with k := 19, phase := 5 }), by decide +kernel⟩,
   ⟨st [] (fun d => { d with phase := 3 }), by decide +kernel⟩,
   ⟨st [] (fun d => { d with k := 40 }), by decide +kernel⟩,
   ⟨st [] (fun d => { d with k := 39 }), by decide +kernel⟩,
   ⟨4095, 0x1DFF, by decide +kernel⟩⟩

theorem witness_LedgerWrites :
    (∃ (s : State) (req : Requester) (addr : Nat) (off : Nat), accessErr s.d req addr true = 0 ∧ ledOffset addr = some off ∧ segOf off ≠ 1 ∧ segOf off ≠ 5) ∧
    (∃ (s : State) (req : Requester) (addr : Nat) (off : Nat), accessErr s.d req addr true = 0 ∧ ledOffset addr = some off ∧ segOf off = 1 ∧ isStandby s.d = true) ∧
    (∃ (s : State) (req : Requester) (addr : Nat) (off : Nat), accessErr s.d req addr true = 0 ∧ ledOffset addr = some off ∧ segOf off = 1 ∧ isStandby s.d = false ∧ isActive s.d = false ∧
      mwOf off = none) ∧
    (∃ (s : State) (req : Requester) (addr : Nat) (off : Nat), accessErr s.d req addr true = 0 ∧ ledOffset addr = some off ∧ segOf off = 5) ∧
    (∃ (s : State) (req : Requester) (w : Nat), accessErr s.d req 0x04200000 true = 0 ∧ bit w 1 = false) ∧
    (∃ (s : State), rdB s.d Reg.LEDGER_RSTAT_FLUSH_BUSY = true) ∧
    (∃ (s : State) (req : Requester) (w : Nat), accessErr s.d req 0x04200000 true = 0 ∧ bit w 0 = false ∧ isActive s.d = false ∧ clrRefused s.d = false) :=
  ⟨⟨st [], .host, 0x06FFE000, 4095 * 0x2000, by decide +kernel⟩,
   ⟨st [(Reg.SYS_PROPS_ROLE, 2)], .host, 0x05000200, 0x200, by decide +kernel⟩,
   ⟨st [], .host, 0x05000208, 0x208, by decide +kernel⟩,
   ⟨st [], .host, 0x05001FFC, 0x1FFC, by decide +kernel⟩,
   ⟨st [], .host, 1, by decide +kernel⟩,
   ⟨st [(Reg.LEDGER_RSTAT_FLUSH_BUSY, 1)], by decide +kernel⟩,
   ⟨st [(Reg.LEDGER_CLR_CH_FIRST, 4088), (Reg.LEDGER_CLR_CH_NUM, 8)], .host, 2, by decide +kernel⟩⟩

theorem witness_LedgerStreams :
    (∃ (s : State) (req : Requester) (n : Nat) (w : Nat), n < 8 ∧ accessErr s.d req (0x04200800 + 0x20 * n) true = 0 ∧ rdB s.d (Reg.LEDGER_STRM_CTRL_EN n) = false ∧ strmRefused s.d n (bits w
      1 3) (bits w 16 16) = false) ∧
    (∃ (s : State) (req : Requester) (n : Nat) (w : Nat), n < 8 ∧ accessErr s.d req (0x04200800 + 0x20 * n) true = 0 ∧ rdB s.d (Reg.LEDGER_STRM_CTRL_EN n) = false ∧ strmRefused s.d n (bits w
      1 3) (bits w 16 16) = true) ∧
    (∃ (s : State) (n : Nat) (tick : Nat) (m : Nat), n < 8 ∧ captureDue s.d n = some (tick, m) ∧ (hring s.d (2 + n)).queue = [] ∧ (hring s.d (2 + n)).en = true ∧ ringFits s.d (2 + n) (padded
      (captureRec s.d n (rd s.d (Reg.LEDGER_STRM_CTRL_SEG n)) tick)).length = true) ∧
    (∃ (s : State) (n : Nat) (tick : Nat) (m : Nat), n < 8 ∧ captureDue s.d n = some (tick, m) ∧ (hring s.d (2 + n)).queue ≠ []) :=
  ⟨⟨st [], .host, 7, 0x10000, by decide +kernel⟩,
   ⟨st [], .host, 7, 0, by decide +kernel⟩,
   ⟨st [(Reg.LEDGER_STRM_CTRL_EN 7, 1), (Reg.LEDGER_STRM_CTRL_PERIOD 7, 1)] (fun d => { d with phase := 5, host := { d.host with rings := [(9, { en := true, size := 0x10000 })] } }), 7, 0, 1, by decide +kernel⟩,
   ⟨st [(Reg.LEDGER_STRM_CTRL_EN 7, 1), (Reg.LEDGER_STRM_CTRL_PERIOD 7, 1)] (fun d => { d with phase := 5, host := { d.host with rings := [(9, { en := true, size := 0x10000, queue := [[]] })] } }), 7, 0, 1, by decide +kernel⟩⟩

theorem witness_DemandsAndRegulator :
    (∃ (s : State) (req : Requester), s.served req 0x10070014 ∧ forwards s.d req = false ∧ chanMode s.d (rd s.d Reg.CHAN_MAN_CH_CH) isMaint = true ∧ (groupOf s.d (rd s.d
      Reg.CHAN_MAN_CH_CH)).isSome = true ∧ populated s.d (rd s.d Reg.CHAN_MAN_CH_CH) = true ∧ seqActive s.d (rd s.d Reg.CHAN_MAN_CH_CH) = false ∧ isStandby s.d = false ∧ demandFault s.d (rd
      s.d Reg.CHAN_MAN_CH_CH) (manWords s.d) = 0) ∧
    (∃ (s : State) (req : Requester), s.served req 0x10070014 ∧ forwards s.d req = false ∧ (demandFault s.d (rd s.d Reg.CHAN_MAN_CH_CH) (manWords s.d) ≠ 0 ∨ chanMode s.d (rd s.d
      Reg.CHAN_MAN_CH_CH) isMaint = false)) ∧
    (∃ (s : State) (ch : Nat), ch < 4096 ∧ staleDue s.d ch (staleCnt s.d ch + 1) = true) ∧
    (∃ (s : State) (ch : Nat), ch < 4096 ∧ captureFull s.d ch = true) ∧
    (∃ (s : State) (ch : Nat), ch < 4096 ∧ floatSatDue s.d ch = true) ∧
    (∃ (s : State) (ch : Nat), ch < 4096 ∧ pulseDue s.d ch = true) ∧
    (∃ (s : State) (ch : Nat), ch < 4096 ∧ staleDue s.d ch (staleCnt s.d ch + 1) = false) ∧
    (∃ (s : State) (ch : Nat), ch < 4096 ∧ pulseDue s.d ch = false) :=
  ⟨⟨st [(Reg.CHAN_MAN_CH_CH, 4095)], .host, by decide +kernel⟩,
   ⟨st [(Reg.CHAN_MAN_CH_CH, 4095), (Reg.CHAN_MAN_DEM_WORD 0, 0x0B)], .host, by decide +kernel⟩,
   ⟨st [(Reg.CHAN_REGCFG_STALE_MAX 255, 0)] (fun d => hots [(0x40, 1, 2)] d), 4095, by decide +kernel⟩,
   ⟨st [(Reg.CHAN_REGCFG_CAP_TICKS 255, 1)] (fun d => hots [(0x40, 1, 8), (0x94, 4, 1)] { d with chan := [(4095, { ho := 1 })] }), 4095, by decide +kernel⟩,
   ⟨st [(Reg.CHAN_REGCFG_HO_SAT 255, 1)] (fun d => hots [(0x40, 1, 8), (0x7C, 1, 1)] { d with chan := [(4095, { ho := 3 })] }), 4095, by decide +kernel⟩,
   ⟨st [] (fun d => hots [(0x40, 1, 7), (0x78, 1, 6)] d), 4095, by decide +kernel⟩,
   ⟨st [], 4095, by decide +kernel⟩,
   ⟨st [], 4095, by decide +kernel⟩⟩

theorem witness_SequencerAndPrograms :
    (∃ (s : State) (req : Requester) (w : Nat), s.served req 0x10078000 ∧ forwards s.d req = false ∧ isStandby s.d = false ∧ seqSetBad s.d (bits w 4 2) = false) ∧
    (∃ (s : State) (req : Requester) (w : Nat), s.served req 0x10078000 ∧ forwards s.d req = false ∧ (isStandby s.d = true ∨ seqSetBad s.d (bits w 4 2) = true)) ∧
    (∃ (s : State) (req : Requester) (w : Nat), s.served req 0x10078010 ∧ isStandby s.d = false ∧ s.d.seq.load = none ∧ rd s.d (Reg.SEQ_SLOT_INFO_USERS (bits w 8 6)) = 0 ∧ forwards s.d req =
      false) ∧
    (∃ (s : State) (req : Requester), s.served req 0x10078010 ∧ isStandby s.d = false ∧ s.d.seq.load.isSome = true) ∧
    (∃ (s : State) (l : SeqLoad), s.d.seq.load = some l ∧ isActive s.d = false ∧ isStandby s.d = false ∧ progChk l.bytes l.len = none) ∧
    (∃ (s : State) (code : Nat) (off : Nat) (l : SeqLoad), s.d.seq.load = some l ∧ isActive s.d = false ∧ isStandby s.d = false ∧ progChk l.bytes l.len = some (code, off)) ∧
    (∃ (s : State) (l : SeqLoad), s.d.seq.load = some l ∧ isActive s.d = true ∧ progChk l.bytes l.len = none) :=
  ⟨⟨st [], .host, 0, by decide +kernel⟩,
   ⟨st [], .host, 0x30, by decide +kernel⟩,
   ⟨st [], .host, 0x3F00, by decide +kernel⟩,
   ⟨st [] (fun d => { d with seq := { d.seq with load := some ⟨0, [], 0⟩ } }), .host, by decide +kernel⟩,
   ⟨st [] (fun d => { d with seq := { d.seq with load := some ⟨63, endProg, 64⟩ } }), ⟨63, endProg, 64⟩, by decide +kernel⟩,
   ⟨st [] (fun d => { d with seq := { d.seq with load := some ⟨63, [], 0⟩ } }), 1, 0, ⟨63, [], 0⟩, by decide +kernel⟩,
   ⟨st [(Reg.SYS_PROPS_ROLE, 1)] (fun d => { d with seq := { d.seq with load := some ⟨63, endProg, 64⟩ } }), ⟨63, endProg, 64⟩, by decide +kernel⟩⟩

theorem witness_StepsRun :
    (∃ (s : State) (ch : Nat), ch < 4096 ∧ (seqCh s.d ch).walk = true ∧ (progOf s.d ch).steps.length ≤ 1024 ∧ swType (stepOf s.d ch) = 1) ∧
    (∃ (s : State) (ch : Nat), ch < 4096 ∧ (seqCh s.d ch).walk = true ∧ (progOf s.d ch).steps.length ≤ 1024 ∧ swType (stepOf s.d ch) = 2 ∧ sqDepth s.d ch < 4 ∧ sqStep s.d ch + 1 < (progOf
      s.d ch).steps.length) ∧
    (∃ (s : State) (ch : Nat), ch < 4096 ∧ (seqCh s.d ch).walk = true ∧ (progOf s.d ch).steps.length ≤ 1024 ∧ swType (stepOf s.d ch) = 3 ∧ 1 ≤ sqDepth s.d ch ∧ sqDepth s.d ch ≤ 4 ∧ 1 <
      loopRem s.d ch (sqDepth s.d ch - 1) ∧ loopIdx s.d ch (sqDepth s.d ch - 1) + 1 < (progOf s.d ch).steps.length) ∧
    (∃ (s : State) (ch : Nat), ch < 4096 ∧ (seqCh s.d ch).walk = true ∧ (progOf s.d ch).steps.length ≤ 1024 ∧ swType (stepOf s.d ch) = 3 ∧ 1 ≤ sqDepth s.d ch ∧ sqDepth s.d ch ≤ 4 ∧ loopRem
      s.d ch (sqDepth s.d ch - 1) ≤ 1 ∧ sqStep s.d ch + 1 < (progOf s.d ch).steps.length) ∧
    (∃ (s : State) (ch : Nat), ch < 4096 ∧ (seqCh s.d ch).walk = true ∧ (progOf s.d ch).steps.length ≤ 1024 ∧ swType (stepOf s.d ch) = 4 ∧ branchTest s.d ch (stepOf s.d ch) = false ∧ sqStep
      s.d ch + 1 < (progOf s.d ch).steps.length) ∧
    (∃ (s : State) (ch : Nat), ch < 4096 ∧ (seqCh s.d ch).walk = true ∧ (progOf s.d ch).steps.length ≤ 1024 ∧ swType (stepOf s.d ch) = 4 ∧ branchTest s.d ch (stepOf s.d ch) = true ∧ swBreak
      (stepOf s.d ch) = false ∧ swTarget (stepOf s.d ch) < (progOf s.d ch).steps.length) ∧
    (∃ (s : State) (ch : Nat), ch < 4096 ∧ (seqCh s.d ch).walk = true ∧ (progOf s.d ch).steps.length ≤ 1024 ∧ swType (stepOf s.d ch) = 5 ∧ swByte (stepOf s.d ch) 0 % 16 ≤ 2) ∧
    (∃ (s : State) (ch : Nat), ch < 4096 ∧ (seqCh s.d ch).walk = true ∧ (progOf s.d ch).steps.length ≤ 1024 ∧ swType (stepOf s.d ch) = 6) ∧
    (∃ (s : State) (ch : Nat) (hit : Nat) (g : GroupRec), ch < 4096 ∧ kernelDue s.d ch = true ∧ groupOf s.d ch = some g ∧ sqState s.d ch = sqRUNNING ∧ (seqCh s.d ch).startK ≠ some s.d.k ∧
      firesNow s.d ch = hit ∧ (runTick (setSeqCh s.d ch (fun x => { x with ranK := some s.d.k })) ch g.group).1 = hit ∧ 2 ≤ hit) ∧
    (∃ (s : State) (ch : Nat) (hit : Nat) (g : GroupRec), ch < 4096 ∧ kernelDue s.d ch = true ∧ groupOf s.d ch = some g ∧ sqState s.d ch = sqRUNNING ∧ (seqCh s.d ch).startK ≠ some s.d.k ∧
      firesNow s.d ch = hit ∧ (runTick (setSeqCh s.d ch (fun x => { x with ranK := some s.d.k })) ch g.group).1 = hit ∧ hit % 2 = 1) ∧
    (∃ (s : State) (ch : Nat) (g : GroupRec), ch < 4096 ∧ kernelDue s.d ch = true ∧ groupOf s.d ch = some g ∧ barrierDue s.d ch = true ∧ swByte (stepOf s.d ch) 2 / 4 % 4 = 2) ∧
    (∃ (s : State) (ch : Nat) (g : GroupRec), ch < 4096 ∧ kernelDue s.d ch = true ∧ groupOf s.d ch = some g ∧ barrierDue s.d ch = true ∧ swByte (stepOf s.d ch) 2 / 4 % 4 = 3) ∧
    (∃ (s : State) (ch : Nat) (g : GroupRec), ch < 4096 ∧ kernelDue s.d ch = true ∧ groupOf s.d ch = some g ∧ winDue s.d ch = true) ∧
    (∃ (s : State) (ch : Nat) (g : GroupRec), ch < 4096 ∧ kernelDue s.d ch = true ∧ groupOf s.d ch = some g ∧ winDue s.d ch = false) :=
  ⟨⟨walking [[0x10]] [], 4095, by decide +kernel⟩,
   ⟨walking [[0x20], [0x60]] [(0x142, 2, 3 * 1024)], 4095, by decide +kernel⟩,
   ⟨walking [[0x30], [0x60]] [(0x142, 2, 4 * 1024), (0x190, 4, 2)], 4095, by decide +kernel⟩,
   ⟨walking [[0x30], [0x60]] [(0x142, 2, 4 * 1024), (0x190, 4, 1)], 4095, by decide +kernel⟩,
   ⟨walking [[0x41], [0x60]] [], 4095, by decide +kernel⟩,
   ⟨walking [[0x40], [0x60]] [], 4095, by decide +kernel⟩,
   ⟨walking [[0x52]] [], 4095, by decide +kernel⟩,
   ⟨walking [[0x60]] [], 4095, by decide +kernel⟩,
   ⟨stepping (0x11 :: List.replicate 23 0 ++ [0x13, 0, 0, 0, 0, 0, 0, 0]) [(0x140, 1, 1)], 4095, 2, ⟨0, 255, 0, 0, 0, 0, 0, [(4088, 8)]⟩, by decide +kernel⟩,
   ⟨stepping (0x11 :: List.replicate 11 0 ++ [1] ++ List.replicate 19 0) [(0x140, 1, 1)], 4095, 1, ⟨0, 255, 0, 0, 0, 0, 0, [(4088, 8)]⟩, by decide +kernel⟩,
   ⟨stepping ([0x52, 0, 8, 0, 1]) [(0x140, 1, 2)], 4095, ⟨0, 255, 0, 0, 0, 0, 0, [(4088, 8)]⟩, by decide +kernel⟩,
   ⟨stepping ([0x52, 0, 12, 0, 1]) [(0x140, 1, 2)], 4095, ⟨0, 255, 0, 0, 0, 0, 0, [(4088, 8)]⟩, by decide +kernel⟩,
   ⟨stepping ([]) [] (fun d => { d with grade := [(4095, { a := { kind := 2 } })] }), 4095, ⟨0, 255, 0, 0, 0, 0, 0, [(4088, 8)]⟩, by decide +kernel⟩,
   ⟨stepping ([]) [], 4095, ⟨0, 255, 0, 0, 0, 0, 0, [(4088, 8)]⟩, by decide +kernel⟩⟩

theorem witness_EngineRegisterOps :
    (∃ (s : State) (e : Nat) (w : Nat), e < 24 ∧ gPlainI w ∧ (gFields w).x < (eng s.d e).run.nconst) ∧
    (∃ (s : State) (e : Nat) (smp : Bool) (w : Nat), e < 24 ∧ gPlain w ∧ fits32 ((grS s.d e smp (gFields w).b) + (grS s.d e smp (gFields w).c))) ∧
    (∃ (s : State) (e : Nat) (smp : Bool) (w : Nat), e < 24 ∧ gPlain w ∧ fits32 ((grS s.d e smp (gFields w).b) - (grS s.d e smp (gFields w).c))) ∧
    (∃ (s : State) (e : Nat) (smp : Bool) (w : Nat), e < 24 ∧ gPlainI w ∧ fits32 ((grS s.d e smp (gFields w).b) + toS 16 (gFields w).x)) ∧
    (∃ (s : State) (e : Nat) (smp : Bool) (w : Nat), e < 24 ∧ gPlain w ∧ fits32 (grS s.d e smp (gFields w).b).natAbs) ∧
    (∃ (s : State) (e : Nat) (smp : Bool) (w : Nat), e < 24 ∧ gPlain w ∧ 0 ≤ (grS s.d e smp (gFields w).c) ∧ (grS s.d e smp (gFields w).c) ≤ 31) ∧
    (∃ (s : State) (e : Nat) (smp : Bool) (w : Nat), e < 24 ∧ gPlain w ∧ (grS s.d e smp (gFields w).c) ≠ 0 ∧ fits32 ((grS s.d e smp (gFields w).b).tdiv (grS s.d e smp (gFields w).c))) ∧
    (∃ (s : State) (e : Nat) (smp : Bool) (w : Nat), e < 24 ∧ gPlain w ∧ (grS s.d e smp (gFields w).c) = 0) ∧
    (∃ (e : Nat) (w : Nat), e < 24 ∧ gPlain w ∧ (gFields w).a ≠ gSR) :=
  ⟨⟨engine [] { nconst := 1 }, 23, 0x0, by decide +kernel⟩,
   ⟨engine [(1, 2 ^ 31 - 1)] {}, 23, false, 0x100000000000, by decide +kernel⟩,
   ⟨engine [(1, 2 ^ 31)] {}, 23, false, 0x100000000000, by decide +kernel⟩,
   ⟨engine [] {}, 23, false, 0xFFFF0000, by decide +kernel⟩,
   ⟨engine [(1, 2 ^ 32 - 1)] {}, 23, false, 0x100000000000, by decide +kernel⟩,
   ⟨engine [(1, 31)] {}, 23, false, 0x4000000000, by decide +kernel⟩,
   ⟨engine [(1, 2 ^ 32 - 1)] {}, 23, false, 0x4000000000, by decide +kernel⟩,
   ⟨engine [] {}, 23, false, 0x0, by decide +kernel⟩,
   ⟨23, 0x3C000000000000, by decide +kernel⟩⟩

theorem witness_EngineAccumulatorOps :
    (∃ (s : State) (e : Nat) (smp : Bool) (w : Nat), e < 24 ∧ 0x10 ≤ (gFields w).a ∧ (gFields w).a ≤ 0x13 ∧ gPlain w ∧ fits80 ((grS s.d e smp (gFields w).b) * (grS s.d e smp (gFields w).c))) ∧
    (∃ (s : State) (e : Nat) (smp : Bool) (w : Nat), e < 24 ∧ 0x10 ≤ (gFields w).a ∧ (gFields w).a ≤ 0x13 ∧ gPlain w ∧ fits80 ((grA s.d e smp (gFields w).a) - (grS s.d e smp (gFields w).b) *
      (grS s.d e smp (gFields w).c))) ∧
    (∃ (s : State) (e : Nat) (smp : Bool) (w : Nat), e < 24 ∧ 0x10 ≤ (gFields w).a ∧ (gFields w).a ≤ 0x13 ∧ gPlain w ∧ rdB s.d (Reg.CHAN_ENG_CTRL_WRAP e) = false ∧ ¬fits80 ((grA s.d e smp
      (gFields w).a) + (grS s.d e smp (gFields w).b) * (grS s.d e smp (gFields w).c))) ∧
    (∃ (s : State) (e : Nat) (smp : Bool) (w : Nat), e < 24 ∧ 0x10 ≤ (gFields w).a ∧ (gFields w).a ≤ 0x13 ∧ gPlain w ∧ (gFields w).a = 0x10 ∨ (gFields w).a = 0x12 ∧ fits80 ((grA s.d e smp
      (gFields w).a) + (grS s.d e smp (gFields w).b) * (grS s.d e smp (gFields w).c)) ∧ fits80 (grA s.d e smp ((gFields w).a + 1) + grS s.d e smp ((gFields w).b + 1) * grS s.d e smp
      ((gFields w).c + 1))) ∧
    (∃ (s : State) (e : Nat) (smp : Bool) (w : Nat), e < 24 ∧ 0x10 ≤ (gFields w).a ∧ (gFields w).a ≤ 0x13 ∧ gPlain w ∧ fits80 ((grA s.d e smp (gFields w).a) + grA s.d e smp (gFields w).b)) ∧
    (∃ (s : State) (e : Nat) (smp : Bool) (w : Nat), e < 24 ∧ 0x10 ≤ (gFields w).a ∧ (gFields w).a ≤ 0x13 ∧ gPlain w ∧ 0 ≤ (grS s.d e smp (gFields w).b) ∧ (grS s.d e smp (gFields w).b) ≤ 200
      ∧ fits80 ((grA s.d e smp (gFields w).a) * (2 : Int) ^ (grS s.d e smp (gFields w).b).toNat)) ∧
    (∃ (s : State) (e : Nat) (smp : Bool) (w : Nat), e < 24 ∧ 0x10 ≤ (gFields w).a ∧ (gFields w).a ≤ 0x13 ∧ gPlain w ∧ (grS s.d e smp (gFields w).b) < 0 ∧ -200 ≤ (grS s.d e smp (gFields
      w).b)) ∧
    (∃ (s : State) (e : Nat) (smp : Bool) (w : Nat), e < 24 ∧ 0x10 ≤ (gFields w).a ∧ (gFields w).a ≤ 0x13 ∧ gPlain w ∧ gUser s.d e smp = false) ∧
    (∃ (s : State) (e : Nat) (smp : Bool) (w : Nat), e < 24 ∧ gPlain w ∧ 1 ≤ (grS s.d e smp (gFields w).c) ∧ (grS s.d e smp (gFields w).c) ≤ 63 ∧ fits32 (asr (grA s.d e smp (gFields w).b +
      (2 : Int) ^ ((grS s.d e smp (gFields w).c).toNat - 1)) (grS s.d e smp (gFields w).c).toNat)) :=
  ⟨⟨engine [(1, 2 ^ 31)] {}, 23, false, 0x4C104000000000, by decide +kernel⟩,
   ⟨engine [] {}, 23, false, 0x40000000000000, by decide +kernel⟩,
   ⟨engine [(1, 1), (0x10, 2 ^ 79 - 1)] {}, 23, false, 0x40104000000000, by decide +kernel⟩,
   ⟨engine [] {}, 23, false, 0x48000000000000, by decide +kernel⟩,
   ⟨engine [] {}, 23, false, 0x41300000000000, by decide +kernel⟩,
   ⟨engine [(1, 200)] {}, 23, false, 0x40100000000000, by decide +kernel⟩,
   ⟨engine [(1, 2 ^ 32 - 200)] {}, 23, false, 0x40100000000000, by decide +kernel⟩,
   ⟨engine [] {}, 23, false, 0x40000000000000, by decide +kernel⟩,
   ⟨engine [(1, 63)] {}, 23, false, 0x1004000000000, by decide +kernel⟩⟩

theorem witness_EngineHotOps :
    (∃ (s : State) (e : Nat) (smp : Bool) (w : Nat), e < 24 ∧ bit (gFields w).y 15 = false ∧ gr s.d e smp gCH < 4096 ∧ 0x10 ≤ (gFields w).a ∧ (gFields w).a ≤ 0x13) ∧
    (∃ (s : State) (e : Nat) (smp : Bool) (w : Nat), e < 24 ∧ bit (gFields w).y 15 = false ∧ gr s.d e smp gCH < 4096 ∧ inControl s.d = false ∧ gHotOk s.d e smp (gHotOff s.d e smp (gFields
      w).x 4) 4 = true) ∧
    (∃ (s : State) (e : Nat) (smp : Bool) (w : Nat), e < 24 ∧ bit (gFields w).y 15 = false ∧ gr s.d e smp gCH < 4096 ∧ inControl s.d = false ∧ gHotOk s.d e smp (gHotOff s.d e smp (gFields
      w).x 8) 8 = true) ∧
    (∃ (s : State) (e : Nat) (smp : Bool) (w : Nat), e < 24 ∧ bit (gFields w).y 15 = false ∧ gr s.d e smp gCH < 4096 ∧ inControl s.d = true ∧ gHotOk s.d e smp (gHotOff s.d e smp (gFields
      w).x 4) 4 = true ∧ (eng s.d e).jn < 4096 ∧ 0x40 ≤ gHotOff s.d e smp (gFields w).x 4 ∧ gHotOff s.d e smp (gFields w).x 4 < 0x1F0) ∧
    (∃ (s : State) (e : Nat) (smp : Bool) (w : Nat), e < 24 ∧ bit (gFields w).y 15 = false ∧ gr s.d e smp gCH < 4096 ∧ gHotOk s.d e smp (gHotOff s.d e smp (gFields w).x 4) 4 = false) ∧
    (∃ (s : State) (e : Nat) (smp : Bool) (w : Nat), e < 24 ∧ bit (gFields w).y 15 = false ∧ gr s.d e smp gCH < 4096 ∧ bit (gFields w).x 15 = false ∧ (gFields w).a < 15) :=
  ⟨⟨engine [] {}, 23, false, 0x4C000000000000, by decide +kernel⟩,
   ⟨engine [] {}, 23, false, 0x0, by decide +kernel⟩,
   ⟨engine [] {}, 23, false, 0x0, by decide +kernel⟩,
   ⟨engine [] {} (fun d => { d with phase := 2 }), 23, false, 0x1EC0000, by decide +kernel⟩,
   ⟨engine [] { cls := 0 }, 23, false, 0x0, by decide +kernel⟩,
   ⟨engine [] {}, 23, false, 0x38000000000000, by decide +kernel⟩⟩

theorem witness_EngineControlOps :
    (∃ (s : State) (e : Nat) (w : Nat), e < 24 ∧ bit (gFields w).y 15 = false ∧ (eng s.d e).run.reps = []) ∧
    (∃ (e : Nat) (w : Nat), e < 24 ∧ bit (gFields w).y 15 = false ∧ (gFields w).x ≠ 0) ∧
    (∃ (s : State) (e : Nat) (w : Nat) (n : Nat), e < 24 ∧ bit (gFields w).y 15 = false ∧ bit (gFields w).x 15 = false ∧ ofS 32 (grS s.d e false (gFields w).a) = n ∧ n ≠ 0) ∧
    (∃ (s : State) (e : Nat) (smp : Bool) (w : Nat) (n : Nat), e < 24 ∧ bit (gFields w).y 15 = false ∧ bit (gFields w).x 15 = false ∧ (gFields w).flg = 0 ∧ gUser s.d e smp = false ∧ gr s.d e
      smp (gFields w).c = 64 * n ∧ n < 1024 ∧ fits80 (gSlot s.d e (64 * n) + toS 32 (gX32 s.d e (gr s.d e smp (gFields w).a)) * toS 32 (gY32 s.d e (gr s.d e smp (gFields w).b))) ∧ fits80
      (gSlot s.d e (64 * n + 16) + toS 32 (gX32 s.d e (gr s.d e smp (gFields w).a)) * toS 32 (gY32 s.d e (gr s.d e smp (gFields w).b + 4))) ∧ gr s.d e smp (gFields w).a < 65536 ∧ gr s.d e
      smp (gFields w).b < 65536) ∧
    (∃ (s : State) (e : Nat) (smp : Bool) (w : Nat), e < 24 ∧ bit (gFields w).y 15 = false ∧ bit (gFields w).x 15 = false ∧ gUser s.d e smp = false ∧ 0x10 ≤ (gFields w).c ∧ (gFields w).c ≤
      0x13 ∧ 0x18 ≤ (gFields w).a ∧ (gFields w).a ≤ 0x1B ∧ 0x1C ≤ (gFields w).b ∧ (gFields w).b ≤ 0x1F ∧ 4 ≤ gr s.d e smp (gFields w).a ∧ gr s.d e smp (gFields w).a < 65528 ∧ fits80 (grA s.d
      e smp (gFields w).c + toS 32 (gX32 s.d e (gr s.d e smp (gFields w).a)) * toS 32 (gY32 s.d e (gr s.d e smp (gFields w).b)) + toS 32 (gX32 s.d e (gr s.d e smp (gFields w).a - 4)) * toS
      32 (gY32 s.d e (gr s.d e smp (gFields w).b + 4)))) :=
  ⟨⟨engine [] {}, 23, 0x0, by decide +kernel⟩,
   ⟨23, 0x10000, by decide +kernel⟩,
   ⟨engine [(0, 2 ^ 32 - 1)] {}, 23, 0x0, 2 ^ 32 - 1, by decide +kernel⟩,
   ⟨engine [(1, 64 * 1023)] {}, 23, false, 0x4000000000, 1023, by decide +kernel⟩,
   ⟨engine [(0x18, 4)] {}, 23, false, 0x61C40000000000, by decide +kernel⟩⟩

theorem witness_EngineSequencer :
    (∃ (s : State) (e : Nat) (i : Nat) (j : Nat) (r : SchedRec), e < 24 ∧ taskRuns s.d e = true ∧ (eng s.d e).run.live = false ∧ nextRun s.d e = some (i, r, j) ∧ verdictHeld s.d (r.first +
      j) = true) ∧
    (∃ (s : State) (e : Nat) (i : Nat) (j : Nat) (r : SchedRec) (k : KernRec) (ofs : Nat), e < 24 ∧ taskRuns s.d e = true ∧ (eng s.d e).run.live = false ∧ nextRun s.d e = some (i, r, j) ∧
      0x40 ≤ r.kernel ∧ verdictHeld s.d (r.first + j) = false ∧ (kernPlaces (img s.d) e).find? (fun p => p.2.kernel == r.kernel) = some (ofs, k) ∧ r.first + j < 4096) ∧
    (∃ (s : State) (e : Nat), e < 24 ∧ taskRuns s.d e = false) ∧
    (∃ (s : State) (e : Nat), e < 24 ∧ (eng s.d e).run.live = true ∧ (max 256 (4 * (eng s.d e).run.cycCh) ≤ (eng s.d e).run.cyc ∨ (eng s.d e).run.ninstr ≤ (eng s.d e).run.pc)) ∧
    (∃ (s : State) (e : Nat) (n : Nat) (rest : List Nat), e < 24 ∧ (eng s.d e).starts = n :: rest ∧ (n % 16 ≠ 0 ∨ n < 16 * s.d.k ∨ 2 ≤ s.d.phase ∨ finishDone s.d e = true)) ∧
    (∃ (s : State) (e : Nat) (n : Nat) (rest : List Nat), e < 24 ∧ (eng s.d e).starts = n :: rest ∧ n % 16 = 0 ∧ 16 * s.d.k ≤ n ∧ s.d.phase ≤ 1 ∧ finishDone s.d e = false) ∧
    (∃ (s : State) (e : Nat) (w : Nat) (req : Requester), e < 24 ∧ accessErr s.d req (engCtrlAddr e) true = 0 ∧ bits w 0 1 = rd s.d (Reg.CHAN_ENG_CTRL_WRAP e)) :=
  ⟨⟨sti { bay with sched := [⟨0, 23, 1, 0x40, 4095, 1, 1, 0, 0⟩], kernels := [⟨0, 0x40, 0, 0, [], []⟩] } [] (fun d => { d with phase := 2, ser := { ch := [(4095, { st := 1 })] } }), 23, 0, 0, ⟨0, 23, 1, 0x40, 4095, 1, 1, 0, 0⟩, by decide +kernel⟩,
   ⟨sti { bay with sched := [⟨0, 23, 0, 0x40, 4095, 1, 0, 0, 0⟩], kernels := [⟨0, 0x40, 0, 0, [], []⟩] } [], 23, 0, 0, ⟨0, 23, 0, 0x40, 4095, 1, 0, 0, 0⟩, ⟨0, 0x40, 0, 0, [], []⟩, 0, by decide +kernel⟩,
   ⟨st [] (fun d => { d with phase := 5 }), 23, by decide +kernel⟩,
   ⟨engine [] { live := true, cyc := 256, ninstr := 1 }, 23, by decide +kernel⟩,
   ⟨st [] (fun d => { d with eng := [(23, { starts := [1] })] }), 23, 1, [], by decide +kernel⟩,
   ⟨sti { bay with sched := [⟨0, 23, 0, 0x40, 4095, 1, 0, 0, 0⟩], kernels := [⟨0, 0x40, 0, 0, [], []⟩] } [] (fun d => { d with eng := [(23, { starts := [0] })] }), 23, 0, [], by decide +kernel⟩,
   ⟨st [], 23, 0, .host, by decide +kernel⟩⟩

theorem witness_BusCommands :
    (∃ (s : State) (us : Nat), 20 < us ∧ s.d.firn.act.isSome = true ∧ anyCommanded s.d = false) ∧
    (∃ (s : State) (us : Nat), 20 < us ∧ s.d.firn.act.isSome = true ∧ anyCommanded s.d = true ∧ netLevel s.d ≠ 3) ∧
    (∃ (us : Nat), us ≤ 20) ∧
    (∃ (s : State), (netLevel s.d = 1 ∨ netLevel s.d = 2) ∧ 20 ≤ s.d.net.below) ∧
    (∃ (s : State), s.d.net.below < 20) ∧
    (∃ (s : State) (req : Requester) (w : Nat), s.served req 0x10090000 ∧ forwards s.d req = false ∧ bit w 1 = false ∧ s.d.apply = false ∧ tripClrOk s.d = true) ∧
    (∃ (s : State) (req : Requester) (w : Nat), s.served req 0x10090000 ∧ forwards s.d req = false ∧ tripClrOk s.d = false ∧ bit w 1 = false ∧ s.d.apply = false) ∧
    (∃ (s : State) (req : Requester) (w : Nat), s.served req 0x10090000 ∧ forwards s.d req = false ∧ bit w 0 = false ∧ ownsGate s.d = true) ∧
    (∃ (s : State), s.d.k % 200000 = 0 ∧ ownsGate s.d = true ∧ s.d.firn.act.isSome = true ∧ s.d.net.run = none ∧ s.d.net.mean < (rd s.d Reg.NET_TEST_VMIN_MV : Int)) ∧
    (∃ (s : State), s.d.k % 200000 = 0 ∧ ownsGate s.d = true ∧ s.d.firn.act.isSome = true ∧ s.d.net.run = none ∧ (rd s.d Reg.NET_TEST_VMIN_MV : Int) ≤ s.d.net.mean ∧ rdB s.d
      Reg.NET_STAT_CHOP_ON = false ∧ netLevel s.d < 2) ∧
    (∃ (s : State) (t0 : Nat) (ve : Int) (v0 : Int) (v1 : Int), s.d.net.run = some (t0, ve, v0) ∧ isActive s.d = false ∧ meanOf (smpIn s.d (t0 + rd s.d Reg.NET_TEST_TIME_TEST_US * 1000 -
      20000) (t0 + rd s.d Reg.NET_TEST_TIME_TEST_US * 1000)) = some v1 ∧ (rd s.d Reg.NET_TEST_DV_DV_MIN : Int) ≤ v0 - v1 + qdiv ((v0 - ve) * rd s.d Reg.NET_TEST_TIME_TEST_US) 80 ∧ v0 - v1 +
      qdiv ((v0 - ve) * rd s.d Reg.NET_TEST_TIME_TEST_US) 80 ≤ (rd s.d Reg.NET_TEST_DV_DV_MAX : Int)) ∧
    (∃ (s : State) (t0 : Nat), s.d.net.owed = some t0 ∧ t0 + 600000 ≤ s.d.k ∧ rdB s.d Reg.NET_STAT_UNTESTED = false ∧ isActive s.d = false) :=
  ⟨⟨st [], 21, by decide +kernel⟩,
   ⟨st [(Reg.FLOE_STAT_STATE 127, psActive)] (fun d => { d with floe := [(127, { slots := [List.replicate 16 0x10] })] }), 21, by decide +kernel⟩,
   ⟨20, by decide +kernel⟩,
   ⟨st [(Reg.NET_STAT_LEVEL, 2)] (fun d => { d with net := { d.net with below := 20 } }), by decide +kernel⟩,
   ⟨st [] (fun d => { d with net := { d.net with below := 19 } }), by decide +kernel⟩,
   ⟨st [(Reg.NET_THR_WARN_MV, 1)], .host, 1, by decide +kernel⟩,
   ⟨st [(Reg.NET_THR_WARN_MV, 1)] (fun d => { d with net := { d.net with gap := true } }), .host, 0, by decide +kernel⟩,
   ⟨st [], .host, 2, by decide +kernel⟩,
   ⟨st [(Reg.NET_TEST_VMIN_MV, 1)], by decide +kernel⟩,
   ⟨st [(Reg.NET_TEST_VMIN_MV, 0)], by decide +kernel⟩,
   ⟨st [(Reg.NET_TEST_TIME_TEST_US, 20), (Reg.NET_TEST_DV_DV_MIN, 10), (Reg.NET_TEST_DV_DV_MAX, 10)] (fun d => { d with net := { d.net with run := some (0, 100, 100), smp := [⟨19999, 90⟩] } }), 0, 100, 100, 90, by decide +kernel⟩,
   ⟨st [] (fun d => { d with k := 600000, net := { d.net with owed := some 0 } }), 0, by decide +kernel⟩⟩

theorem witness_SeracCommands :
    (∃ (s : State) (req : Requester) (w : Nat), s.served req 0x10080008 ∧ forwards s.d req = false ∧ isStandby s.d = false ∧ seracSetBad s.d (bits w 4 2) = false) ∧
    (∃ (s : State) (req : Requester) (w : Nat), s.served req 0x10080008 ∧ forwards s.d req = false ∧ isStandby s.d = false ∧ seracSetBad s.d (bits w 4 2) = true) ∧
    (∃ (s : State) (req : Requester), s.served req 0x10080000 ∧ forwards s.d req = false ∧ isStandby s.d = false ∧ s.d.ser.fireLast = false ∧ (∀ z < 16, rdFBit s.d Reg.SERAC_FIRE_ZONES_ZONES
      z = true → isMaint (zmode s.d z) = true)) ∧
    (∃ (s : State) (req : Requester), s.served req 0x10080000 ∧ s.d.ser.fireLast = true) ∧
    (∃ (s : State) (req : Requester), s.served req 0x10080000 ∧ chanMode s.d (rd s.d Reg.SERAC_INJ_CH) (· == modeSelftest) = true) ∧
    (∃ (s : State) (req : Requester), s.served req 0x10080000 ∧ chanMode s.d (rd s.d Reg.SERAC_INJ_CH) (· == modeSelftest) = false) :=
  ⟨⟨st [], .host, 0, by decide +kernel⟩,
   ⟨st [(Reg.SERAC_CMD_SET_FIRST, 256)], .host, 0x10, by decide +kernel⟩,
   ⟨st [(Reg.SERAC_FIRE_ZONES_ZONES, 1)], .host, by decide +kernel⟩,
   ⟨st [] (fun d => { d with ser := { d.ser with fireLast := true } }), .host, by decide +kernel⟩,
   ⟨st [(Reg.SERAC_INJ_CH, 4095), (Reg.SYS_ZMODE 0, 4)], .host, by decide +kernel⟩,
   ⟨st [(Reg.SERAC_INJ_CH, 4095)], .host, by decide +kernel⟩⟩

theorem witness_RimeFrames :
    (∃ (s : State) (slot : Nat) (lag : Int), segSends s.d = true ∧ ownsSlot s.d slot = true ∧ slot < 64 ∧ guardOpen s.d = true ∧ guardCovers s.d slot ((slotFrame s.d slot).length + 2) lag =
      true) ∧
    (∃ (s : State) (slot : Nat) (lag : Int), segSends s.d = true ∧ ownsSlot s.d slot = true ∧ slot < 64 ∧ guardOpen s.d = true ∧ guardCovers s.d slot ((slotFrame s.d slot).length + 2) lag =
      false) ∧
    (∃ (s : State), segSends s.d = false) ∧
    (∃ (s : State) (ch : Nat) (sof : Nat) (codeErrs : Nat) (framed : Bool) (f : List Byte), csOf s.d = csINTEGRATED ∧ fenceHolds s.d 8 ch = false ∧ ch < 2 ∧ rdFBit s.d Reg.PWR_STAT_DOM_ON 11
      = true ∧ s.d.rime.seg.sent.contains (sof / 12500) = false ∧ rxCheck4 s.d framed codeErrs f = none ∧ sof < 799000 ∧ rxCheck5 s.d f = true ∧ (rxDev s.d ch sof (slotAp (fSlot f))).natAbs
      ≤ 1000 ∧ SMap.find s.d.rime.seg.rx (fSlot f) = none) ∧
    (∃ (s : State) (ch : Nat) (sof : Nat) (codeErrs : Nat) (framed : Bool) (f : List Byte) (e : RxFault), csOf s.d = csINTEGRATED ∧ fenceHolds s.d 8 ch = false ∧ ch < 2 ∧ rdFBit s.d
      Reg.PWR_STAT_DOM_ON 11 = true ∧ s.d.rime.seg.sent.contains (sof / 12500) = false ∧ rxCheck4 s.d framed codeErrs f = some e) ∧
    (∃ (s : State), csOf s.d = csINTEGRATED ∧ isMaster s.d (s.d.rime.lastRanks ++ s.d.rime.refs.map (·.1)) = true ∧ guardOpen s.d = true ∧ trunkRank s.d = none) ∧
    (∃ (s : State) (b : Nat), isGateway s.d = true ∧ tcsOf s.d = csINTEGRATED ∧ rdB s.d Reg.RIMEL_STAT_GCLK_FAIL = false ∧ s.d.rime.trunk.blocked = false ∧ trunkRank s.d = some b ∧ cycNo s.d
      % 4 = 3) ∧
    (∃ (s : State) (ch : Nat) (sof : Nat) (codeErrs : Nat) (framed : Bool) (f : List Byte), csOf s.d = csINTEGRATED ∧ fenceHolds s.d 8 ch = false ∧ ch < 2 ∧ rdFBit s.d Reg.PWR_STAT_DOM_ON 11
      = true ∧ s.d.rime.seg.sent.contains (sof / 12500) = false ∧ rxCheck4 s.d framed codeErrs f = none ∧ 799000 ≤ sof ∧ sof < 860000 ∧ fStat f = false ∧ fSync f = true ∧ fSlot f ≤ 3 ∧ (fLen
      f = (if fAuth f then 24 else 16)) ∧ byteAt (fPayload f) 1 ≠ myNode s.d ∧ s.d.rime.refs = []) ∧
    (∃ (s : State), isGateway s.d = true ∧ csOf s.d = csINTEGRATED ∧ guardOpen s.d = true ∧ cycNo s.d % 4 ≠ 3) ∧
    (∃ (s : State) (ch : Nat) (sof : Nat) (codeErrs : Nat) (framed : Bool) (f : List Byte), tcsOf s.d = csINTEGRATED ∧ fenceHolds s.d 8 (2 + ch) = false ∧ ch < 2 ∧ rdFBit s.d
      Reg.PWR_STAT_DOM_ON 11 = true ∧ s.d.rime.trunk.sent = [] ∧ trunkCheck s.d ch sof framed codeErrs f = true ∧ bit (byteAt f 0) 4 = false) ∧
    (∃ (s : State) (b : Nat) (line : Bool), remoteDue s.d line b = true) ∧
    (∃ (s : State) (b : Nat) (line : Bool), remoteDue s.d line b = false) :=
  ⟨⟨sti (line 1 3) [(Reg.RIMEL_STAT_CSTATE, 6)], 63, 0, by decide +kernel⟩,
   ⟨sti (line 1 3) [(Reg.RIMEL_STAT_CSTATE, 6)], 63, 20000, by decide +kernel⟩,
   ⟨st [], by decide +kernel⟩,
   ⟨sti (line 1 3) [(Reg.RIMEL_STAT_CSTATE, 6)], 1, 1250, 0, true, withCrc [0x40, 0, 0, 0, 0, 0], by decide +kernel⟩,
   ⟨sti (line 1 3) [(Reg.RIMEL_STAT_CSTATE, 6)], 1, 0, 1, false, [], .crc, by decide +kernel⟩,
   ⟨sti (line 1 3) [(Reg.RIMEL_STAT_CSTATE, 6), (Reg.TIME_SYNC_MASTER_EN, 1), (Reg.TIME_SYNC_METHOD, 1)], by decide +kernel⟩,
   ⟨sti { line 1 3 with trunks := [⟨0, 0, 3, [255, 255, 255, 0]⟩] } [(Reg.RIMET_STAT_CSTATE, 6), (Reg.RIMET_CTRL_EN, 1)] (fun d => { d with k := 60 }), 3, by decide +kernel⟩,
   ⟨sti (line 1 3) [(Reg.RIMEL_STAT_CSTATE, 6)], 1, 838750, 0, true, withCrc ([0x42, 8, 0, 0, 0, 16] ++ List.replicate 16 9), by decide +kernel⟩,
   ⟨sti (line 1 3) [(Reg.RIMEL_STAT_CSTATE, 6), (Reg.RIMET_CTRL_EN, 1)], by decide +kernel⟩,
   ⟨sti (line 1 3) [(Reg.RIMET_STAT_CSTATE, 6)], 1, 16500, 0, true, withCrc [0x40, 1, 0, 0, 0, 0, 0, 0], by decide +kernel⟩,
   ⟨st [(Reg.SYS_PROPS_RIME, 1), (Reg.SEQ_LBAR_EXPECT 15, 1)] (fun d => { d with k := 80, rime := { d.rime with down := some (3, 0x80 :: List.replicate 41 0 ++ [0, 1]) } }), 15, true, by decide +kernel⟩,
   ⟨st [], 0, false, by decide +kernel⟩⟩

theorem witness_RimeControllers :
    (∃ (s : State) (req : Requester) (w : Nat), accessErr s.d req 0x100A0000 true = 0 ∧ rdB s.d Reg.RIMEL_CTRL_EN = false ∧ 1 ≤ bits w 4 2 ∧ bits w 4 2 ≤ 2) ∧
    (∃ (s : State) (req : Requester) (w : Nat), accessErr s.d req 0x100A0000 true = 0 ∧ rdB s.d Reg.RIMEL_CTRL_EN = true ∧ bits w 4 2 = rd s.d Reg.RIMEL_CTRL_VER ∧ 1 ≤ bits w 4 2 ∧ bits w 4
      2 ≤ 2 ∧ bit w 0 = true) ∧
    (∃ (s : State) (req : Requester) (w : Nat), accessErr s.d req 0x100B0000 true = 0 ∧ rdB s.d Reg.RIMET_CTRL_EN = false ∧ 1 ≤ bits w 4 2 ∧ bits w 4 2 ≤ 2 ∧ ((trunkRec s.d (rMode s.d)).map
      (fun r => bit r.gw (mySeg s.d))).getD false = true) ∧
    (∃ (s : State) (req : Requester), accessErr s.d req 0x100B0000 true = 0 ∧ rdB s.d Reg.RIMET_CTRL_EN = false ∧ trunkRec s.d (rMode s.d) = none) ∧
    (∃ (s : State) (req : Requester) (w : Nat), accessErr s.d req 0x100B0000 true = 0 ∧ rdB s.d Reg.RIMET_CTRL_EN = true ∧ bits w 4 2 = rd s.d Reg.RIMET_CTRL_VER ∧ 1 ≤ bits w 4 2 ∧ bits w 4
      2 ≤ 2 ∧ bit w 0 = true) ∧
    (∃ (s : State), csOf s.d = csWAIT ∧ s.d.rime.seg.quietK + 20 * (2 + rd s.d Reg.RIMEL_NODE_RANK) ≤ s.d.k) ∧
    (∃ (s : State), tcsOf s.d = csWAIT ∧ s.d.rime.trunk.quietK + 80 * (2 + (trunkRank s.d).getD 0) ≤ s.d.k) ∧
    (∃ (s : State), csOf s.d = csLEAD ∧ 7 ≤ s.d.rime.seg.att ∧ s.d.rime.seg.conf.length < 2) ∧
    (∃ (s : State) (ch : Nat), ch < 2 ∧ 8 ≤ s.d.rime.seg.chSilent.getD ch 0) ∧
    (∃ (s : State), csOf s.d = csINTEGRATED ∧ 2 ≤ s.d.rime.seg.ownBad ∧ (statusSlot s.d).isSome = true) ∧
    (∃ (s : State) (why : Nat), why ≠ 2 ∧ rdB s.d Reg.RIMEL_STAT_GCLK_FAIL = false) ∧
    (∃ (s : State) (ch : Nat), fenceHolds s.d 8 ch = false ∧ ch < 2) ∧
    (∃ (s : State), role s.d = 0 ∧ rimeState s.d = 2 ∧ 2000 ≤ rd s.d Reg.TIME_ISO_CYC ∧ s.d.rime.isoDone = false) :=
  ⟨⟨st [], .host, 0x20, by decide +kernel⟩,
   ⟨st [(Reg.RIMEL_CTRL_EN, 1), (Reg.RIMEL_CTRL_VER, 2)], .host, 0x21, by decide +kernel⟩,
   ⟨sti (line 1 3) [], .host, 0x10, by decide +kernel⟩,
   ⟨st [], .host, by decide +kernel⟩,
   ⟨st [(Reg.RIMET_CTRL_EN, 1), (Reg.RIMET_CTRL_VER, 2)], .host, 0x21, by decide +kernel⟩,
   ⟨st [(Reg.RIMEL_STAT_CSTATE, 2)] (fun d => { d with k := 40 }), by decide +kernel⟩,
   ⟨st [(Reg.RIMET_STAT_CSTATE, 2)] (fun d => { d with k := 160 }), by decide +kernel⟩,
   ⟨st [(Reg.RIMEL_STAT_CSTATE, 3)] (fun d => { d with rime := { d.rime with seg := { d.rime.seg with att := 7 } } }), by decide +kernel⟩,
   ⟨st [] (fun d => { d with rime := { d.rime with seg := { d.rime.seg with chSilent := [0, 8] } } }), 1, by decide +kernel⟩,
   ⟨sti (line 1 3) [(Reg.RIMEL_STAT_CSTATE, 6)] (fun d => { d with rime := { d.rime with seg := { d.rime.seg with ownBad := 2 } } }), by decide +kernel⟩,
   ⟨st [], 0, by decide +kernel⟩,
   ⟨st [], 1, by decide +kernel⟩,
   ⟨st [(Reg.SYS_PROPS_RIME, 2), (Reg.TIME_ISO_CYC, 2000)], by decide +kernel⟩⟩

theorem witness_RimeTimeAndModes :
    (∃ (s : State), s.d.k % 20 = 17 ∧ followsPartner s.d = false ∧ rimeState s.d = 1 ∧ rd s.d Reg.TIME_SYNC_METHOD = 2 ∧ midUsed s.d ≠ [] ∧ (midpoint (midKept ((midUsed s.d).map
      (·.2)))).natAbs ≤ rd s.d Reg.TIME_LIM_OFS_LIM) ∧
    (∃ (s : State), s.d.k % 20 = 17 ∧ followsPartner s.d = false ∧ rimeState s.d = 1 ∧ rd s.d Reg.TIME_SYNC_METHOD = 2 ∧ midUsed s.d ≠ [] ∧ rd s.d Reg.TIME_LIM_OFS_LIM < (midpoint (midKept
      ((midUsed s.d).map (·.2)))).natAbs) ∧
    (∃ (s : State) (n : Nat) (x : Int) (y : Int), cycNo s.d % 16 = 15 ∧ 16 ≤ cycNo s.d ∧ rimeState s.d = 1 ∧ rd s.d Reg.TIME_STAT_METHOD = 1 ∧ s.d.rime.hist.find? (fun e => e.1 == cycNo s.d)
      = some (cycNo s.d, [(n, x)]) ∧ s.d.rime.hist.find? (fun e => e.1 == cycNo s.d - 16) = some (cycNo s.d - 16, [(n, y)]) ∧ (x - y) % 2 = 0 ∧ ((toS 32 (rd s.d Reg.TIME_RATE_PPB) + (x - y)
      * 125 / 2).natAbs : Int) ≤ rd s.d Reg.TIME_LIM_RATE_LIM * 1000) ∧
    (∃ (s : State), cycNo s.d % 16 ≠ 15) ∧
    (∃ (s : State) (req : Requester) (w : Nat), accessErr s.d req 0x100B0030 true = 0 ∧ rimeState s.d = 1 ∧ isStandby s.d = false ∧ rdB s.d Reg.RIMET_MC_PEND = false ∧ modeHeld s.d (bits w 0
      3) = true) ∧
    (∃ (s : State) (req : Requester) (w : Nat), accessErr s.d req 0x100B0030 true = 0 ∧ modeHeld s.d (bits w 0 3) = false) ∧
    (∃ (s : State) (r : McReq), s.d.rime.mc = some r ∧ r.cyc + 2 ≤ cycNo s.d ∧ r.agreed = none ∧ trunkRec s.d (rMode s.d) = none ∧ (∀ m < 64, isSync s.d (rMode s.d) m = true → if m = myNode
      s.d then r.mine = true ∨ r.echo = true else m ∈ r.nodes)) ∧
    (∃ (s : State) (r : McReq), s.d.rime.mc = some r ∧ r.cyc + 2 ≤ cycNo s.d ∧ r.agreed = none ∧ trunkRec s.d (rMode s.d) = none ∧ (∃ m < 64, isSync s.d (rMode s.d) m = true ∧ m ≠ myNode s.d
      ∧ m ∉ r.nodes)) ∧
    (∃ (s : State) (l : LineReq) (tr : TrunkRec), s.d.rime.line = some l ∧ trunkRec s.d (rMode s.d) = some tr ∧ l.t + 2 ≤ tcycNo s.d ∧ l.out = none ∧ isGateway s.d = true) :=
  ⟨⟨sti (line 1 3) [(Reg.SYS_PROPS_RIME, 1), (Reg.TIME_SYNC_METHOD, 2)] (fun d => { d with k := 17 }), by decide +kernel⟩,
   ⟨sti (line 0 3) [(Reg.SYS_PROPS_RIME, 1), (Reg.TIME_SYNC_METHOD, 2), (Reg.TIME_LIM_OFS_LIM, 99)] (fun d => { d with k := 17, rime := { d.rime with devs := [(1, 5, 100)] } }), by decide +kernel⟩,
   ⟨st [(Reg.SYS_PROPS_RIME, 1), (Reg.TIME_STAT_METHOD, 1), (Reg.TIME_LIM_RATE_LIM, 1)] (fun d => { d with k := 620, rime := { d.rime with hist := [(31, [(5, 16)]), (15, [(5, 0)])] } }), 5, 16, 0, by decide +kernel⟩,
   ⟨st [], by decide +kernel⟩,
   ⟨sti (line 1 3) [(Reg.SYS_PROPS_RIME, 1)], .host, 0, by decide +kernel⟩,
   ⟨st [], .host, 0, by decide +kernel⟩,
   ⟨sti { line 1 0 with trunks := [] } [] (fun d => { d with k := 40, rime := { d.rime with mc := some ⟨0, 0, true, false, [], none⟩ } }), ⟨0, 0, true, false, [], none⟩, by decide +kernel⟩,
   ⟨sti { line 2 0 with trunks := [] } [] (fun d => { d with k := 40, rime := { d.rime with mc := some ⟨0, 0, false, false, [], none⟩ } }), ⟨0, 0, false, false, [], none⟩, by decide +kernel⟩,
   ⟨sti (line 1 3) [(Reg.RIMET_CTRL_EN, 1)] (fun d => { d with k := 160, rime := { d.rime with line := some ⟨0, 0, false, false, [], none⟩ } }), ⟨0, 0, false, false, [], none⟩, ⟨0, 0, 3, []⟩, by decide +kernel⟩⟩

theorem witness_PairLink :
    (∃ (mask : Nat), laneCount (mask % 16) < 2) ∧
    (∃ (s : State) (mask : Nat) (dly : Nat), 2 ≤ laneCount (mask % 16) ∧ s.d.sch.up = false ∧ isCalved s.d = false ∧ dly ≤ 1000) ∧
    (∃ (s : State) (ns : Nat) (f : List Byte), paired s.d = true ∧ s.d.sch.up = true ∧ f.length = 32 + 4 * beAt f 10 2 ∧ beAt f 10 2 ≤ 64 ∧ byteAt f 0 = 1 ∧ crc32c (f.take (f.length - 4)) =
      beAt f (f.length - 4) 4 ∧ beAt f 2 8 = s.d.k ∧ ns ≤ 30000 ∧ isStandby s.d = true ∧ pstate s.d = psENGAGED ∧ s.d.sch.start = false) ∧
    (∃ (s : State) (ns : Nat) (f : List Byte), paired s.d = true ∧ s.d.sch.up = true ∧ f.length = 32 + 4 * beAt f 10 2 ∧ beAt f 10 2 ≤ 64 ∧ byteAt f 0 = 1 ∧ crc32c (f.take (f.length - 4)) =
      beAt f (f.length - 4) 4 ∧ (beAt f 2 8 ≠ s.d.k ∨ 30000 < ns)) ∧
    (∃ (s : State), paired s.d = true ∧ s.d.sch.got = false ∧ s.d.sch.miss = 0) ∧
    (∃ (s : State), paired s.d = true ∧ s.d.sch.got = false ∧ 1 ≤ s.d.sch.miss ∧ hbOk s.d = true) ∧
    (∃ (s : State) (cyc : Nat) (count : Nat) (crc : Nat), isStandby s.d = true ∧ pstate s.d = psENGAGED ∧ (s.d.sch.inputs.filter (fun i => i.1 == cyc)).length = count ∧ crc32c
      s.d.sch.payload = crc) ∧
    (∃ (s : State) (cyc : Nat) (count : Nat), isStandby s.d = true ∧ pstate s.d = psENGAGED ∧ (s.d.sch.inputs.filter (fun i => i.1 == cyc)).length ≠ count) ∧
    (∃ (s : State), isStandby s.d = true ∧ pstate s.d = psENGAGED ∧ s.d.k % 20 = 0 ∧ s.d.sch.engCyc < cycNo s.d ∧ s.d.sch.tko = none ∧ s.d.sch.det = none ∧ s.d.sch.closed = none) ∧
    (∃ (s : State) (cyc : Nat) (gs : List (Nat × Nat)) (hs : List (Nat × Nat)) (cs : List Nat) (classes : List Nat), isStandby s.d = true ∧ pstate s.d = psENGAGED ∧ s.d.sch.wasChanged =
      false ∧ s.d.sch.digests = some (cyc, gs, cs) ∧ cyc + 1 = cycNo s.d ∧ s.d.sch.rsGrp = [] ∧ s.d.sch.rsCls = [] ∧ (∀ g ∈ digestGroups s.d, groupDiffers s.d cyc gs hs g = false) ∧ (∀ c ∈
      maskClasses s.d, cs.getD c 0 = classes.getD c 0)) ∧
    (∃ (s : State) (slot : Nat), pairWork s.d = true ∧ isActive s.d = true ∧ s.d.sch.rsGrp = [] ∧ s.d.sch.rsCls = [] ∧ (digestChans s.d slot).isEmpty = false ∧ slot < 256) ∧
    (∃ (s : State), paired s.d = true ∧ rdB s.d Reg.SCH_STAT_OWN = false) ∧
    (∃ (s : State) (kind : Nat) (slot : Nat) (total : Nat) (bs : List Byte), isStandby s.d = true ∧ pstate s.d ≠ psDETACHED ∧ kind ≤ 2 ∧ slot < 256 ∧ total < 2 ^ 32 ∧ s.d.sch.bulk = [] ∧
      bs.length < total) :=
  ⟨⟨1, by decide +kernel⟩,
   ⟨st [], 3, 1000, by decide +kernel⟩,
   ⟨st [(Reg.SCH_CFG_PAIR_EN, 1), (Reg.SYS_PROPS_ROLE, 2), (Reg.SCH_STAT_PSTATE, 2)] (fun d => { d with sch := { d.sch with up := true } }), 30000, withCrc (1 :: List.replicate 27 0), by decide +kernel⟩,
   ⟨st [(Reg.SCH_CFG_PAIR_EN, 1)] (fun d => { d with sch := { d.sch with up := true } }), 30001, withCrc (1 :: List.replicate 27 0), by decide +kernel⟩,
   ⟨st [(Reg.SCH_CFG_PAIR_EN, 1)], by decide +kernel⟩,
   ⟨st [(Reg.SCH_CFG_PAIR_EN, 1), (Reg.SCH_STAT_HB_OK, 1)] (fun d => { d with sch := { d.sch with miss := 1 } }), by decide +kernel⟩,
   ⟨st [(Reg.SYS_PROPS_ROLE, 2), (Reg.SCH_STAT_PSTATE, 2)], 0, 0, crc32c [], by decide +kernel⟩,
   ⟨st [(Reg.SYS_PROPS_ROLE, 2), (Reg.SCH_STAT_PSTATE, 2)], 0, 1, by decide +kernel⟩,
   ⟨st [(Reg.SYS_PROPS_ROLE, 2), (Reg.SCH_STAT_PSTATE, 2)] (fun d => { d with k := 20 }), by decide +kernel⟩,
   ⟨st [(Reg.SYS_PROPS_ROLE, 2), (Reg.SCH_STAT_PSTATE, 2)] (fun d => { d with k := 20, sch := { d.sch with digests := some (0, [(1, 2)], []) } }), 0, [(1, 2)], [(1, 2)], [], [], by decide +kernel⟩,
   ⟨st [(Reg.SCH_CFG_PAIR_EN, 1), (Reg.SYS_PROPS_ROLE, 1)], 255, by decide +kernel⟩,
   ⟨st [(Reg.SCH_CFG_PAIR_EN, 1)], by decide +kernel⟩,
   ⟨st [(Reg.SYS_PROPS_ROLE, 2), (Reg.SCH_STAT_PSTATE, 2)], 2, 255, 2 ^ 32 - 1, [], by decide +kernel⟩⟩

theorem witness_PairRoles :
    (∃ (s : State), mayClaim (wrB s.d Reg.SCH_STAT_PEER false) = true) ∧
    (∃ (s : State), mayClaim (wrB s.d Reg.SCH_STAT_PEER false) = false) ∧
    (∃ (s : State), s.d.sch.claim = true ∧ s.d.sch.start = false ∧ isStandby s.d = true ∧ pstate s.d = psENGAGED ∧ s.d.sch.tko.isSome = true) ∧
    (∃ (s : State), s.d.sch.claim = true ∧ paired s.d = true ∧ rd s.d Reg.SCH_STAT_RANK = 1 ∧ s.d.sch.start = false) ∧
    (∃ (s : State), s.d.sch.claim = false) ∧
    (∃ (s : State), isStandby s.d = true ∧ pstate s.d = psENGAGED ∧ s.d.sch.tko = none ∧ inSafe s.d = false ∧ s.d.sch.peer.safe = true) ∧
    (∃ (s : State), isStandby s.d = true ∧ pstate s.d = psENGAGED ∧ s.d.sch.tko = none ∧ inSafe s.d = false ∧ s.d.sch.peer.safe = false ∧ statusSafe s.d = false ∧ hbOk s.d = false) ∧
    (∃ (s : State), s.d.sch.start = true ∧ s.d.sch.up = false ∧ s.d.sch.startK + 20 * rd s.d Reg.SCH_CFG_WAIT_MS ≤ s.d.k ∧ isCalved s.d = false) ∧
    (∃ (s : State), s.d.sch.start = true ∧ s.d.sch.up = false ∧ s.d.sch.startK + 20 * rd s.d Reg.SCH_CFG_WAIT_MS ≤ s.d.k ∧ isCalved s.d = true) ∧
    (∃ (s : State), isStandby s.d = true ∧ pstate s.d = psJOINING ∧ s.d.sch.failK = none ∧ s.d.sch.toEng = false ∧ s.d.sch.joinK + 200000 ≤ s.d.k) ∧
    (∃ (s : State) (at_ : Nat), s.d.sch.failK = some at_ ∧ at_ + 20000 ≤ s.d.k ∧ rdB s.d Reg.SCH_CTRL_JOIN_EN = true ∧ isStandby s.d = true ∧ pstate s.d = psJOINING) ∧
    (∃ (s : State) (req : Requester) (w : Nat), accessErr s.d req 0x100C0000 true = 0 ∧ bit w 2 = false ∧ isStandby s.d = true ∧ pstate s.d = psENGAGED) ∧
    (∃ (s : State) (req : Requester) (w : Nat), accessErr s.d req 0x100C0000 true = 0 ∧ bit w 1 = false) :=
  ⟨⟨st [(Reg.SCH_CFG_PAIR_EN, 1)], by decide +kernel⟩,
   ⟨st [], by decide +kernel⟩,
   ⟨st [(Reg.SYS_PROPS_ROLE, 2), (Reg.SCH_STAT_PSTATE, 2)] (fun d => { d with sch := { d.sch with claim := true, tko := some 0 } }), by decide +kernel⟩,
   ⟨st [(Reg.SCH_CFG_PAIR_EN, 1), (Reg.SCH_STAT_RANK, 1)] (fun d => { d with sch := { d.sch with claim := true } }), by decide +kernel⟩,
   ⟨st [], by decide +kernel⟩,
   ⟨st [(Reg.SYS_PROPS_ROLE, 2), (Reg.SCH_STAT_PSTATE, 2)] (fun d => { d with sch := { d.sch with peer := { d.sch.peer with safe := true } } }), by decide +kernel⟩,
   ⟨st [(Reg.SYS_PROPS_ROLE, 2), (Reg.SCH_STAT_PSTATE, 2)], by decide +kernel⟩,
   ⟨st [(Reg.SCH_CFG_WAIT_MS, 1)] (fun d => { d with k := 20, sch := { d.sch with start := true } }), by decide +kernel⟩,
   ⟨st [(Reg.SCH_CFG_WAIT_MS, 1), (Reg.SYS_PROPS_TRIAD, 2)] (fun d => { d with k := 20, sch := { d.sch with start := true } }), by decide +kernel⟩,
   ⟨st [(Reg.SYS_PROPS_ROLE, 2), (Reg.SCH_STAT_PSTATE, 1)] (fun d => { d with k := 200000 }), by decide +kernel⟩,
   ⟨st [(Reg.SYS_PROPS_ROLE, 2), (Reg.SCH_STAT_PSTATE, 1), (Reg.SCH_CTRL_JOIN_EN, 1)] (fun d => { d with k := 20000, sch := { d.sch with failK := some 0 } }), 0, by decide +kernel⟩,
   ⟨st [(Reg.SYS_PROPS_ROLE, 2), (Reg.SCH_STAT_PSTATE, 2)], .host, 0xFB, by decide +kernel⟩,
   ⟨st [], .host, 0xFD, by decide +kernel⟩⟩

theorem witness_SafeInputs :
    (∃ (i : Nat), i < 24) ∧
    (∃ (s : State) (i : Nat) (src : Nat) (high : Nat) (f : SafeFuncRec), ((img s.d).safeIns.filter (fun r => (r.typ == 0 || r.typ == 2) && r.tp == src)).map (·.input) = [i] ∧ bit high i =
      true ∧ i ∉ s.d.safe.xshort ∧ fnsOfIn s.d i = [f] ∧ f.func < 32 ∧ fnState s.d f.func ≠ 0) ∧
    (∃ (s : State) (i : Nat) (src : Nat) (high : Nat) (low : Nat) (f : SafeFuncRec), ((img s.d).safeIns.filter (fun r => (r.typ == 0 || r.typ == 2) && r.tp == src)).map (·.input) = [i] ∧ bit
      high i = false ∧ bit low i = true ∧ SMap.get 0 s.d.safe.low i = 2 ∧ fnsOfIn s.d i = [f] ∧ f.func < 32 ∧ fnState s.d f.func ≠ 0 ∧ ((fnIns f).filter (· != i)).all (fun j => bit
      s.d.safe.filt j) = true) ∧
    (∃ (s : State) (i : Nat) (src : Nat) (high : Nat) (low : Nat), ((img s.d).safeIns.filter (fun r => (r.typ == 0 || r.typ == 2) && r.tp == src)).map (·.input) = [i] ∧ bit high i = false ∧
      bit low i = false) ∧
    (∃ (s : State) (f : SafeFuncRec) (kind : _), fnRec s.d f.func = some f ∧ f.func < 32 ∧ fnState s.d f.func ≠ 0 ∧ discStands s.d f kind = true) ∧
    (∃ (s : State) (f : SafeFuncRec) (kind : _), fnRec s.d f.func = some f ∧ f.func < 32 ∧ fnState s.d f.func ≠ 0 ∧ discStands s.d f kind = false) ∧
    (∃ (src : Nat), src < 4) ∧
    (∃ (s : State) (i : Nat) (gap : Nat), (img s.d).safeIns.any (fun r => r.input == i && r.typ == 3) = true ∧ gap < 100000) ∧
    (∃ (s : State) (i : Nat) (us : Nat) (gap : Nat), (img s.d).safeIns.any (fun r => r.input == i && r.typ == 3) = true ∧ 100000 ≤ gap ∧ 100000 ≤ us ∧ us ≤ 2500000 ∧ (img s.d).creset ≠ i) ∧
    (∃ (s : State) (i : Nat) (us : Nat) (gap : Nat), (img s.d).safeIns.any (fun r => r.input == i && r.typ == 3) = true ∧ 100000 ≤ gap ∧ (us < 100000 ∨ 2500000 < us) ∧ (img s.d).creset ≠ i) ∧
    (∃ (s : State) (i : Nat) (us : Nat) (gap : Nat) (subt : Nat), (img s.d).safeIns.any (fun r => r.input == i && r.typ == 3) = true ∧ 100000 ≤ gap ∧ 100000 ≤ us ∧ us ≤ 2500000 ∧ (img
      s.d).creset = i ∧ rd s.d Reg.SAFE_STAT_CONF = 1 ∧ confirmsElsewhere s.d = false ∧ s.d.safe.armT + us * 1000 ≤ tickNs s.d + subt ∧ tickNs s.d + subt ≤ s.d.safe.armT + 30000000000 ∧
      s.d.safe.step1 = none) ∧
    (∃ (s : State) (i : Nat) (us : Nat) (gap : Nat) (subt : Nat) (u : _), (img s.d).safeIns.any (fun r => r.input == i && r.typ == 3) = true ∧ 100000 ≤ gap ∧ 100000 ≤ us ∧ us ≤ 2500000 ∧
      (img s.d).creset = i ∧ rd s.d Reg.SAFE_STAT_CONF = 1 ∧ confirmsElsewhere s.d = false ∧ s.d.safe.armT + us * 1000 ≤ tickNs s.d + subt ∧ tickNs s.d + subt ≤ s.d.safe.armT + 30000000000 ∧
      s.d.safe.step1 = some u ∧ isActive s.d = false ∧ u + 1000000000 + us * 1000 ≤ tickNs s.d + subt ∧ tickNs s.d + subt ≤ u + 5000000000 + us * 1000) :=
  ⟨⟨23, by decide +kernel⟩,
   ⟨sti { bay with safeIns := [⟨0, 23, 0, 3, 0⟩], safeFuncs := [⟨0, 31, 0, [23, 22, 0xFF, 0xFF], 0xFF, 0xFF, 1, 0⟩] } [(Reg.SAFE_FUNC_STATE 31, 2)], 23, 3, 2 ^ 23, ⟨0, 31, 0, [23, 22, 0xFF, 0xFF], 0xFF, 0xFF, 1, 0⟩, by decide +kernel⟩,
   ⟨sti { bay with safeIns := [⟨0, 23, 0, 3, 0⟩], safeFuncs := [⟨0, 31, 0, [23, 22, 0xFF, 0xFF], 0xFF, 0xFF, 1, 0⟩] } [(Reg.SAFE_FUNC_STATE 31, 2)] (fun d => { d with safe := { d.safe with low := [(23, 2)], filt := 2 ^ 22 } }), 23, 3, 0, 2 ^ 23, ⟨0, 31, 0, [23, 22, 0xFF, 0xFF], 0xFF, 0xFF, 1, 0⟩, by decide +kernel⟩,
   ⟨sti { bay with safeIns := [⟨0, 23, 0, 3, 0⟩], safeFuncs := [⟨0, 31, 0, [23, 22, 0xFF, 0xFF], 0xFF, 0xFF, 1, 0⟩] } [(Reg.SAFE_FUNC_STATE 31, 2)], 23, 3, 0, 0, by decide +kernel⟩,
   ⟨sti { bay with safeFuncs := [⟨0, 31, 0, [23, 22, 0xFF, 0xFF], 0xFF, 0xFF, 1, 0⟩] } [(Reg.SAFE_FUNC_STATE 31, 2)] (fun d => { d with safe := { d.safe with filt := 2 ^ 22 } }), ⟨0, 31, 0, [23, 22, 0xFF, 0xFF], 0xFF, 0xFF, 1, 0⟩, 0, by decide +kernel⟩,
   ⟨sti { bay with safeFuncs := [⟨0, 31, 0, [23, 22, 0xFF, 0xFF], 0xFF, 0xFF, 1, 0⟩] } [(Reg.SAFE_FUNC_STATE 31, 2)], ⟨0, 31, 0, [23, 22, 0xFF, 0xFF], 0xFF, 0xFF, 1, 0⟩, 0, by decide +kernel⟩,
   ⟨3, by decide +kernel⟩,
   ⟨sti { bay with safeIns := [⟨0, 23, 3, 3, 0⟩] } [], 23, 99999, by decide +kernel⟩,
   ⟨sti { bay with safeIns := [⟨0, 23, 3, 3, 0⟩] } [], 23, 2500000, 100000, by decide +kernel⟩,
   ⟨sti { bay with safeIns := [⟨0, 23, 3, 3, 0⟩] } [], 23, 2500001, 100000, by decide +kernel⟩,
   ⟨sti { bay with safeIns := [⟨0, 23, 3, 3, 0⟩], creset := 23 } [(Reg.SAFE_STAT_CONF, 1)] (fun d => { d with k := 600000 }), 23, 100000, 100000, 0, by decide +kernel⟩,
   ⟨sti { bay with safeIns := [⟨0, 23, 3, 3, 0⟩], creset := 23 } [(Reg.SAFE_STAT_CONF, 1)] (fun d => { d with k := 600000, safe := { d.safe with step1 := some 28900000000 } }), 23, 100000, 100000, 0, 28900000000, by decide +kernel⟩⟩

theorem witness_SafetyVerdict :
    (∃ (s : State), evalRuns s.d = false) ∧
    (∃ (s : State), evalRuns s.d = true) ∧
    (∃ (s : State), inBoot s.d = false ∧ isCalved s.d = false ∧ s.d.safe.evalK ≠ some s.d.k) ∧
    (∃ (s : State), s.d.safe.evalK = some s.d.k) :=
  ⟨⟨st [(Reg.SYS_PROPS_TRIAD, 2)], by decide +kernel⟩,
   ⟨st [], by decide +kernel⟩,
   ⟨st [], by decide +kernel⟩,
   ⟨st [] (fun d => { d with safe := { d.safe with evalK := some 0 } }), by decide +kernel⟩⟩

theorem witness_SafeOutputsAndBrakes :
    (∃ (s : State) (n : Nat) (o : SafeOutRec), n < 8 ∧ (img s.d).safeOuts.find? (fun o => o.out == n) = some o ∧ (sout s.d n).on = true ∧ (∀ m, m < 8 → (sout s.d m).test = 0) ∧ (sout s.d
      n).onK + 20000 * o.testS ≤ s.d.k) ∧
    (∃ (s : State) (n : Nat), n < 8 ∧ (sout s.d n).test = 1 ∨ (sout s.d n).test = 2) ∧
    (∃ (s : State) (n : Nat), n < 8 ∧ rdFBit s.d Reg.SAFE_OUT_LOCKOUT n = false) ∧
    (∃ (s : State) (n : Nat) (b : BrakeRec), n < 8 ∧ brakeRec s.d n = some b ∧ rdB s.d (Reg.SAFE_BRAKE_LOCKOUT n) = false ∧ SMap.get 0 s.d.safe.brakeDue n = 0 ∧ SMap.get 0 s.d.safe.brakePass
      n + 72000000 * b.testH ≤ s.d.k) ∧
    (∃ (s : State) (n : Nat) (b : BrakeRec), n < 8 ∧ brakeRec s.d n = some b ∧ rdB s.d (Reg.SAFE_BRAKE_LOCKOUT n) = false ∧ s.d.k < SMap.get 0 s.d.safe.brakePass n + 72000000 * b.testH) ∧
    (∃ (s : State) (n : Nat) (b : BrakeRec), n < 8 ∧ brakeRec s.d n = some b ∧ rdB s.d (Reg.SAFE_BRAKE_LOCKOUT n) = false ∧ axState s.d n = axTEST ∧ b.moveLim * 256 ≤ ((axis s.d n).pos -
      (SMap.find s.d.safe.brakePos n).getD 0).natAbs) ∧
    (∃ (s : State) (n : Nat) (b : BrakeRec), n < 8 ∧ brakeRec s.d n = some b ∧ rdB s.d (Reg.SAFE_BRAKE_LOCKOUT n) = false ∧ axState s.d n = axTEST ∧ ((axis s.d n).pos - (SMap.find
      s.d.safe.brakePos n).getD 0).natAbs < b.moveLim * 256 ∧ SMap.get 0 s.d.safe.brakeT n + 20000 ≤ s.d.k) ∧
    (∃ (s : State) (n : Nat) (b : BrakeRec), n < 8 ∧ brakeRec s.d n = some b ∧ rdB s.d (Reg.SAFE_BRAKE_LOCKOUT n) = false ∧ axState s.d n = axTEST ∧ ((axis s.d n).pos - (SMap.find
      s.d.safe.brakePos n).getD 0).natAbs < b.moveLim * 256 ∧ s.d.k < SMap.get 0 s.d.safe.brakeT n + 20000) ∧
    (∃ (s : State) (n : Nat), n < 8 ∧ 0 < SMap.get 0 s.d.safe.brakeDue n ∧ SMap.get 0 s.d.safe.brakeDue n - 1 + 72000000 ≤ s.d.k) ∧
    (∃ (s : State) (req : Requester) (w : Nat) (n : Nat) (b : BrakeRec), n < 8 ∧ s.served req 0x100D0008 ∧ forwards s.d req = false ∧ bits w 1 3 = n ∧ bit w 8 = false ∧ bit w 9 = false ∧
      brakeRec s.d n = some b ∧ rdB s.d (Reg.SAFE_BRAKE_LOCKOUT n) = false ∧ SMap.get 0 s.d.safe.brakeDue n = 0) ∧
    (∃ (s : State) (req : Requester) (w : Nat) (n : Nat) (f : SafeFuncRec), n < 8 ∧ s.served req 0x100D0008 ∧ forwards s.d req = false ∧ bit w 0 = false ∧ bit w 9 = false ∧ fnRec s.d (bits w
      10 5) = some f ∧ f.kind = 2 ∧ f.lockOut ≠ 0xFF ∧ confirmed s.d = true ∧ evalRuns s.d = true) ∧
    (∃ (s : State) (req : Requester) (w : Nat) (n : Nat) (f : SafeFuncRec), n < 8 ∧ s.served req 0x100D0008 ∧ forwards s.d req = false ∧ bit w 0 = false ∧ bit w 8 = false ∧ bits w 10 5 ∈
      s.d.safe.unlocked ∧ fnRec s.d (bits w 10 5) = some f ∧ f.lockOut < 8) :=
  ⟨⟨sti { bay with safeOuts := [⟨0, 7, 1, 0⟩] } [] (fun d => { d with k := 20000, safe := { d.safe with out := [(7, { on := true })] } }), 7, ⟨0, 7, 1, 0⟩, by decide +kernel⟩,
   ⟨st [] (fun d => { d with safe := { d.safe with out := [(7, { test := 2 })] } }), 7, by decide +kernel⟩,
   ⟨st [], 7, by decide +kernel⟩,
   ⟨sti { bay with brakes := [⟨0, 7, 1, 0, 1⟩] } [] (fun d => { d with k := 72000000 }), 7, ⟨0, 7, 1, 0, 1⟩, by decide +kernel⟩,
   ⟨sti { bay with brakes := [⟨0, 7, 1, 0, 1⟩] } [] (fun d => { d with k := 71999999 }), 7, ⟨0, 7, 1, 0, 1⟩, by decide +kernel⟩,
   ⟨sti { bay with brakes := [⟨0, 7, 1, 0, 1⟩] } [(Reg.AXIS_STAT_STATE 7, axTEST)] (fun d => { d with axis := [(7, { pos := 256 })] }), 7, ⟨0, 7, 1, 0, 1⟩, by decide +kernel⟩,
   ⟨sti { bay with brakes := [⟨0, 7, 1, 0, 1⟩] } [(Reg.AXIS_STAT_STATE 7, axTEST)] (fun d => { d with k := 20000, axis := [(7, { pos := 255 })] }), 7, ⟨0, 7, 1, 0, 1⟩, by decide +kernel⟩,
   ⟨sti { bay with brakes := [⟨0, 7, 1, 0, 1⟩] } [(Reg.AXIS_STAT_STATE 7, axTEST)] (fun d => { d with k := 19999, axis := [(7, { pos := 255 })] }), 7, ⟨0, 7, 1, 0, 1⟩, by decide +kernel⟩,
   ⟨st [] (fun d => { d with k := 72000000, safe := { d.safe with brakeDue := [(7, 1)] } }), 7, by decide +kernel⟩,
   ⟨sti { bay with brakes := [⟨0, 7, 1, 0, 1⟩] } [], .host, 0xE, 7, ⟨0, 7, 1, 0, 1⟩, by decide +kernel⟩,
   ⟨sti { bay with safeFuncs := [⟨0, 31, 2, [], 0xFF, 7, 1, 0⟩] } [(Reg.SAFE_STAT_CONF, 2)], .host, 0x7C00, 7, ⟨0, 31, 2, [], 0xFF, 7, 1, 0⟩, by decide +kernel⟩,
   ⟨sti { bay with safeFuncs := [⟨0, 31, 2, [], 0xFF, 7, 1, 0⟩] } [] (fun d => { d with safe := { d.safe with unlocked := [31] } }), .host, 0x7C00, 7, ⟨0, 31, 2, [], 0xFF, 7, 1, 0⟩, by decide +kernel⟩⟩

theorem witness_AxisCommands :
    (∃ (s : State) (req : Requester) (w : Nat) (n : Nat) (r : AxisRec), n < 8 ∧ s.served req (0x100E0000 + 0x100 * n) ∧ axisRec s.d n = some r ∧ (zmode s.d r.zone = modeCommission ∨ zmode
      s.d r.zone = modeProduction ∨ zmode s.d r.zone = modeService) ∧ zoneDemanded s.d r.zone = false ∧ axState s.d n ≠ axTEST ∧ axState s.d n ≠ axSTOPPING ∧ axState s.d n ≠ axLOCKED ∧ rdB
      s.d (Reg.AXIS_STAT_ABNORMAL_KE n) = false ∧ rdB s.d (Reg.AXIS_STAT_FAULT n) = false ∧ rd s.d (Reg.AXIS_GAIN_I_KP n) ≠ 0 ∧ rd s.d (Reg.AXIS_GAIN_S_KP n) ≠ 0 ∧ bits w 4 2 ≠ 0 ∧ (bits w 4
      2 = 3 → r.ainF ≠ 0xFF) ∧ ownsGate s.d = true ∧ axState s.d n = axOFF) ∧
    (∃ (s : State) (req : Requester) (w : Nat) (n : Nat) (r : AxisRec), n < 8 ∧ s.served req (0x100E0000 + 0x100 * n) ∧ axisRec s.d n = some r ∧ (zmode s.d r.zone ≠ modeCommission ∧ zmode
      s.d r.zone ≠ modeProduction ∧ zmode s.d r.zone ≠ modeService) ∨ zoneDemanded s.d r.zone = true ∨ axState s.d n = axTEST ∨ axState s.d n = axSTOPPING ∨ axState s.d n = axLOCKED ∨ rdB
      s.d (Reg.AXIS_STAT_ABNORMAL_KE n) = true ∨ rdB s.d (Reg.AXIS_STAT_FAULT n) = true ∨ rd s.d (Reg.AXIS_GAIN_I_KP n) = 0 ∨ rd s.d (Reg.AXIS_GAIN_S_KP n) = 0 ∨ bits w 4 2 = 0 ∨ (bits w 4 2
      = 3 ∧ r.ainF = 0xFF)) ∧
    (∃ (s : State) (req : Requester) (n : Nat) (r : AxisRec), n < 8 ∧ s.served req (0x100E0000 + 0x100 * n) ∧ axisRec s.d n = some r ∧ (axState s.d n = axRUN ∨ axState s.d n = axARMING ∨
      axState s.d n = axMEASURE ∨ axState s.d n = axSHORT)) ∧
    (∃ (s : State) (req : Requester) (n : Nat) (r : AxisRec), n < 8 ∧ s.served req (0x100E0000 + 0x100 * n) ∧ axisRec s.d n = some r ∧ isMaint (zmode s.d r.zone) = true ∧ axState s.d n =
      axOFF) ∧
    (∃ (s : State) (req : Requester) (n : Nat) (r : AxisRec), n < 8 ∧ s.served req (0x100E0000 + 0x100 * n) ∧ axisRec s.d n = some r ∧ (isMaint (zmode s.d r.zone) = false ∨ axState s.d n ≠
      axOFF)) :=
  ⟨⟨sti { bay with axes := [axis7] } [(Reg.AXIS_GAIN_I_KP 7, 1), (Reg.AXIS_GAIN_S_KP 7, 1), (Reg.AXIS_STAT_STATE 7, 0)], .host, 0x30, 7, axis7, by decide +kernel⟩,
   ⟨sti { bay with axes := [axis7] } [(Reg.AXIS_STAT_STATE 7, axLOCKED)], .host, 0x10, 7, axis7, by decide +kernel⟩,
   ⟨sti { bay with axes := [axis7] } [(Reg.AXIS_STAT_STATE 7, axRUN)], .host, 7, axis7, by decide +kernel⟩,
   ⟨sti { bay with axes := [axis7] } [(Reg.AXIS_STAT_FAULT 7, 1)], .host, 7, axis7, by decide +kernel⟩,
   ⟨sti { bay with axes := [axis7] } [(Reg.AXIS_STAT_STATE 7, 1)], .host, 7, axis7, by decide +kernel⟩⟩

theorem witness_AxisEvents :
    (∃ (s : State) (n : Nat) (enc : List Byte) (r : AxisRec), n < 8 ∧ axisRec s.d n = some r ∧ axState s.d n = axOFF ∧ (∀ c, c < 8 → (conv s.d c).trig ≠ 3) ∧ enc.length = 4 ∧ encCrc
      (enc.take 3) = beAt enc 3 1 ∧ (axis s.d n).encOk = true) ∧
    (∃ (s : State) (n : Nat) (enc : List Byte) (r : AxisRec), n < 8 ∧ axisRec s.d n = some r ∧ axState s.d n = axOFF ∧ (∀ c, c < 8 → (conv s.d c).trig ≠ 3) ∧ enc.length ≠ 4) ∧
    (∃ (s : State) (n : Nat) (r : AxisRec), n < 8 ∧ axisRec s.d n = some r ∧ axState s.d n = axMEASURE) ∧
    (∃ (s : State) (n : Nat) (r : AxisRec), n < 8 ∧ axisRec s.d n = some r ∧ (axis s.d n).spd.natAbs < 10 * r.stillRpm ∧ hasBrake s.d n = true ∧ axState s.d n = axSHORT ∧ ownsGate s.d = true
      ∧ rdB s.d (Reg.SAFE_BRAKE_LOCKOUT n) = false) ∧
    (∃ (s : State) (n : Nat) (r : AxisRec), n < 8 ∧ axisRec s.d n = some r ∧ (axis s.d n).spd.natAbs < 10 * r.stillRpm ∧ hasBrake s.d n = true ∧ axState s.d n = axSTOPPING) ∧
    (∃ (s : State) (n : Nat) (r : AxisRec), n < 8 ∧ axisRec s.d n = some r ∧ 10 * r.stillRpm ≤ (axis s.d n).spd.natAbs) ∧
    (∃ (s : State) (n : Nat) (r : AxisRec), n < 8 ∧ axisRec s.d n = some r ∧ axState s.d n = axARMING ∧ brakeOn s.d n = true) ∧
    (∃ (s : State) (n : Nat) (r : AxisRec), n < 8 ∧ axisRec s.d n = some r ∧ axState s.d n = axSTOPPING ∧ (axis s.d n).fbWait = true ∧ brakeOn s.d n = false) ∧
    (∃ (s : State) (n : Nat) (r : AxisRec), n < 8 ∧ axisRec s.d n = some r ∧ axState s.d n = axSTOPPING ∧ (axis s.d n).slow = false ∧ (axis s.d n).fbWait = false ∧ (axis s.d n).stopK + 20 *
      r.stopMs ≤ s.d.k) ∧
    (∃ (s : State) (n : Nat) (r : AxisRec) (x : _) (t0 : _), n < 8 ∧ axisRec s.d n = some r ∧ r.ainF ≠ 0xFF ∧ SMap.find s.d.aux.latest r.ainF = some (x, t0) ∧ t0 + 1000000 ≤ tickNs s.d ∧
      axState s.d n = axRUN) :=
  ⟨⟨sti { bay with axes := [axis7] } [] (fun d => { d with axis := [(7, { encOk := true })] }), 7, [1, 2, 3, BitVec.ofNat 8 (encCrc [1, 2, 3])], axis7, by decide +kernel⟩,
   ⟨sti { bay with axes := [axis7] } [], 7, [], axis7, by decide +kernel⟩,
   ⟨sti { bay with axes := [axis7] } [(Reg.AXIS_STAT_STATE 7, axMEASURE)], 7, axis7, by decide +kernel⟩,
   ⟨sti { bay with axes := [axis7], brakes := [⟨0, 7, 1, 0, 1⟩] } [(Reg.AXIS_STAT_STATE 7, axSHORT)] (fun d => { d with axis := [(7, { spd := -9 })] }), 7, axis7, by decide +kernel⟩,
   ⟨sti { bay with axes := [axis7], brakes := [⟨0, 7, 1, 0, 1⟩] } [(Reg.AXIS_STAT_STATE 7, axSTOPPING)] (fun d => { d with axis := [(7, { spd := 9 })] }), 7, axis7, by decide +kernel⟩,
   ⟨sti { bay with axes := [axis7] } [] (fun d => { d with axis := [(7, { spd := -10 })] }), 7, axis7, by decide +kernel⟩,
   ⟨sti { bay with axes := [axis7] } [(Reg.AXIS_STAT_STATE 7, axARMING)] (fun d => { d with safe := { d.safe with brake := 128 } }), 7, axis7, by decide +kernel⟩,
   ⟨sti { bay with axes := [axis7] } [(Reg.AXIS_STAT_STATE 7, axSTOPPING)] (fun d => { d with axis := [(7, { fbWait := true })] }), 7, axis7, by decide +kernel⟩,
   ⟨sti { bay with axes := [axis7] } [(Reg.AXIS_STAT_STATE 7, axSTOPPING)] (fun d => { d with k := 20 }), 7, axis7, by decide +kernel⟩,
   ⟨sti { bay with axes := [axis7] } [(Reg.AXIS_STAT_STATE 7, axRUN)] (fun d => { d with k := 20, aux := { d.aux with latest := [(63, 5, 0)] } }), 7, axis7, 5, 0, by decide +kernel⟩⟩

theorem witness_AuxConverters :
    (∃ (s : State) (c : Nat), c < 8 ∧ rdB s.d (Reg.AUX_CONV_STAT_APPLY_PEND c) = false ∧ (conv s.d c).words ≠ [] ∧ (conv s.d c).trig = 2 ∧ convBusy s.d c = false) ∧
    (∃ (s : State) (c : Nat), c < 8 ∧ rdB s.d (Reg.AUX_CONV_STAT_APPLY_PEND c) = false ∧ (conv s.d c).words ≠ [] ∧ (conv s.d c).trig = 2 ∧ convBusy s.d c = true ∧ (conv s.d c).late = false) ∧
    (∃ (s : State) (req : Requester) (c : Nat) (w : Nat), c < 8 ∧ rdB s.d (Reg.AUX_CONV_STAT_APPLY_PEND c) = false ∧ (conv s.d c).words ≠ [] ∧ accessErr s.d req (0x100F0100 + 0x20 * c) true
      = 0 ∧ (conv s.d c).trig = 0 ∧ bit w 30 = false ∧ bits w 8 6 ≤ 44 ∧ bits w 16 5 ≤ 16 ∧ convBusy s.d c = false) ∧
    (∃ (s : State) (req : Requester) (c : Nat) (w : Nat), c < 8 ∧ rdB s.d (Reg.AUX_CONV_STAT_APPLY_PEND c) = false ∧ (conv s.d c).words ≠ [] ∧ accessErr s.d req (0x100F0100 + 0x20 * c) true
      = 0 ∧ (conv s.d c).trig = 0 ∧ bit w 30 = false ∧ bits w 8 6 ≤ 44 ∧ bits w 16 5 ≤ 16 ∧ convBusy s.d c = true ∧ rdB s.d (Reg.AUX_CONV_STAT_PEND c) = false) ∧
    (∃ (s : State) (req : Requester) (c : Nat) (w : Nat), c < 8 ∧ rdB s.d (Reg.AUX_CONV_STAT_APPLY_PEND c) = false ∧ (conv s.d c).words ≠ [] ∧ accessErr s.d req (0x100F0100 + 0x20 * c) true
      = 0 ∧ (conv s.d c).trig = 0 ∧ bit w 30 = false ∧ bits w 8 6 ≤ 44 ∧ bits w 16 5 ≤ 16 ∧ convBusy s.d c = true ∧ rdB s.d (Reg.AUX_CONV_STAT_PEND c) = true) ∧
    (∃ (s : State) (c : Nat), c < 8 ∧ convBusy s.d c = true ∧ s.d.aux.run = none ∧ (img s.d).axes = [] ∧ (img s.d).bus = none ∧ (auxEnt ((conv s.d c).words.getD (convEntry s.d c) 0)).ilv =
      false ∧ (conv s.d c).cnt + 1 ≠ (auxEnt ((conv s.d c).words.getD (convEntry s.d c) 0)).count) ∧
    (∃ (s : State) (c : Nat), c < 8 ∧ convBusy s.d c = true ∧ s.d.aux.run = none ∧ (img s.d).axes = [] ∧ (img s.d).bus = none ∧ (auxEnt ((conv s.d c).words.getD (convEntry s.d c) 0)).ilv =
      false ∧ (conv s.d c).cnt + 1 = (auxEnt ((conv s.d c).words.getD (convEntry s.d c) 0)).count ∧ (conv s.d c).trig = 2 ∧ (conv s.d c).words.length = convEntry s.d c + 1 ∧ convEntry s.d c
      < 16 ∧ rdB s.d (Reg.AUX_CONV_STAT_PEND c) = false) ∧
    (∃ (s : State) (req : Requester) (c : Nat) (w : Nat) (u : _), c < 8 ∧ accessErr s.d req (0x100F0100 + 0x20 * c) true = 0 ∧ bit w 31 = false ∧ bits w 8 6 ≤ 44 ∧ bits w 16 5 ≤ 16 ∧
      writeFields s.d req (0x100F0100 + 0x20 * c) (setBit w 30 true) = u ∧ stagedBad u c = true) ∧
    (∃ (s : State) (req : Requester) (c : Nat) (w : Nat) (u : _), c < 8 ∧ accessErr s.d req (0x100F0100 + 0x20 * c) true = 0 ∧ bit w 31 = false ∧ bits w 8 6 ≤ 44 ∧ bits w 16 5 ≤ 16 ∧
      writeFields s.d req (0x100F0100 + 0x20 * c) (setBit w 30 true) = u ∧ stagedBad u c = false ∧ convBusy s.d c = true) ∧
    (∃ (s : State) (req : Requester) (c : Nat) (w : Nat) (u : _), c < 8 ∧ accessErr s.d req (0x100F0100 + 0x20 * c) true = 0 ∧ bit w 31 = false ∧ bits w 8 6 ≤ 44 ∧ bits w 16 5 ≤ 16 ∧
      writeFields s.d req (0x100F0100 + 0x20 * c) (setBit w 30 true) = u ∧ stagedBad u c = false ∧ convBusy s.d c = false ∧ rdB s.d (Reg.AUX_CONV_STAT_PEND c) = false ∧ (stagedRec u c).trig
      ≠ 1) :=
  ⟨⟨st [] (fun d => { d with aux := { d.aux with conv := [(7, { trig := 2, words := [0] })] } }), 7, by decide +kernel⟩,
   ⟨st [(Reg.AUX_CONV_STAT_BUSY 7, 1)] (fun d => { d with aux := { d.aux with conv := [(7, { trig := 2, words := [0] })] } }), 7, by decide +kernel⟩,
   ⟨st [] (fun d => { d with aux := { d.aux with conv := [(7, { words := [0] })] } }), .host, 7, 0x102C00, by decide +kernel⟩,
   ⟨st [(Reg.AUX_CONV_STAT_BUSY 7, 1)] (fun d => { d with aux := { d.aux with conv := [(7, { words := [0] })] } }), .host, 7, 0x102C00, by decide +kernel⟩,
   ⟨st [(Reg.AUX_CONV_STAT_BUSY 7, 1), (Reg.AUX_CONV_STAT_PEND 7, 1)] (fun d => { d with aux := { d.aux with conv := [(7, { words := [0] })] } }), .host, 7, 0x102C00, by decide +kernel⟩,
   ⟨st [(Reg.AUX_CONV_STAT_BUSY 7, 1)] (fun d => { d with aux := { d.aux with conv := [(7, { words := [0x1000] })] } }), 7, by decide +kernel⟩,
   ⟨st [(Reg.AUX_CONV_STAT_BUSY 7, 1)] (fun d => { d with aux := { d.aux with conv := [(7, { trig := 2, words := [0x1000], cnt := 1 })] } }), 7, by decide +kernel⟩,
   ⟨st [], .host, 7, 1, writeFields (dev bay []) .host 0x100F01E0 (setBit 1 30 true), by decide +kernel⟩,
   ⟨st [(Reg.AUX_CONV_STAT_BUSY 7, 1)], .host, 7, 0, writeFields (dev bay [(Reg.AUX_CONV_STAT_BUSY 7, 1)]) .host 0x100F01E0 (setBit 0 30 true), by decide +kernel⟩,
   ⟨st [], .host, 7, 0, writeFields (dev bay []) .host 0x100F01E0 (setBit 0 30 true), by decide +kernel⟩⟩

theorem witness_AuxCalibration :
    (∃ (s : State) (req : Requester) (w : Nat), accessErr s.d req 0x100F0000 true = 0 ∧ allMaint s.d = true ∧ bits w 16 3 < 7 ∧ 4 ≤ bits w 20 4 ∧ bits w 20 4 ≤ 12 ∧ bit w 4 = false ∧ rdB s.d
      Reg.AUX_CAL_STAT_BUSY = false ∧ s.d.aux.zero = none) ∧
    (∃ (s : State) (req : Requester) (w : Nat) (g : Nat) (z : AuxCap) (f : AuxCap), accessErr s.d req 0x100F0000 true = 0 ∧ allMaint s.d = true ∧ bits w 16 3 < 7 ∧ 4 ≤ bits w 20 4 ∧ bits w
      20 4 ≤ 12 ∧ bit w 4 = false ∧ rdB s.d Reg.AUX_CAL_STAT_BUSY = false ∧ s.d.aux.zero = some z ∧ s.d.aux.full = some f ∧ z.input = f.input ∧ z.gain = f.gain ∧ z.trim = false ∧ f.trim =
      false ∧ z.input < 64 ∧ z.gain < 7 ∧ auxEntry s.d z.s0 f.s0 z.n0 f.n0 = (0, (g : Int), 0) ∧ g < 2 ^ 16) ∧
    (∃ (s : State) (req : Requester) (w : Nat), accessErr s.d req 0x100F0000 true = 0 ∧ allMaint s.d = true ∧ bits w 16 3 < 7 ∧ 4 ≤ bits w 20 4 ∧ bits w 20 4 ≤ 12 ∧ bit w 4 = false ∧ rdB s.d
      Reg.AUX_CAL_STAT_BUSY = true) ∧
    (∃ (s : State) (req : Requester) (w : Nat) (r : AuxCap), accessErr s.d req 0x100F0000 true = 0 ∧ allMaint s.d = true ∧ bits w 16 3 < 7 ∧ 4 ≤ bits w 20 4 ∧ bits w 20 4 ≤ 12 ∧ bit w 4 =
      false ∧ s.d.aux.run = some r) ∧
    (∃ (s : State) (req : Requester), accessErr s.d req 0x100F0000 true = 0 ∧ allMaint s.d = false) ∧
    (∃ (s : State) (req : Requester) (r : AuxCap), accessErr s.d req 0x100F0000 true = 0 ∧ s.d.aux.run = some r ∧ r.startK + 2000 ≤ s.d.k) ∧
    (∃ (s : State) (req : Requester), accessErr s.d req 0x100F0000 true = 0 ∧ s.d.aux.run = none) :=
  ⟨⟨st [], .host, 0x460000, by decide +kernel⟩,
   ⟨st [(Reg.AUX_CAL_REF_REFF, 0x4000)] (fun d => { d with aux := { d.aux with zero := some (auxCap true 0), full := some (auxCap false 16384) } }), .host, 0x460000, 0x4000, (auxCap true 0), (auxCap false 16384), by decide +kernel⟩,
   ⟨st [(Reg.AUX_CAL_STAT_BUSY, 1)], .host, 0x460000, by decide +kernel⟩,
   ⟨st [] (fun d => { d with aux := { d.aux with run := some (auxCap true 0) } }), .host, 0x460000, (auxCap true 0), by decide +kernel⟩,
   ⟨st [(Reg.SYS_ZMODE 0, 2)], .host, by decide +kernel⟩,
   ⟨st [] (fun d => { d with k := 2000, aux := { d.aux with run := some (auxCap true 0) } }), .host, (auxCap true 0), by decide +kernel⟩,
   ⟨st [], .host, by decide +kernel⟩⟩

theorem witness_MailboxCommands :
    (∃ (s : State) (req : Requester) (v : Nat), accessErr s.d req 0x10110010 true = 0 ∧ rdB s.d Reg.HOST_MBX_STAT_BUSY = false ∧ 1 ≤ rd s.d Reg.HOST_STAT_MBX_VER ∧ byteAt (mbxReq s.d) 4 = v
      ∧ 1 ≤ v) ∧
    (∃ (s : State) (req : Requester) (v : Nat), accessErr s.d req 0x10110010 true = 0 ∧ rdB s.d Reg.HOST_MBX_STAT_BUSY = false ∧ 1 ≤ rd s.d Reg.HOST_STAT_MBX_VER ∧ byteAt (mbxReq s.d) 4 = v
      ∧ v = 0) ∧
    (∃ (s : State) (req : Requester) (z : Nat) (m : Nat) (at_ : Nat) (d : Nat), accessErr s.d req 0x10110010 true = 0 ∧ rdB s.d Reg.HOST_MBX_STAT_BUSY = false ∧ 1 ≤ rd s.d
      Reg.HOST_STAT_MBX_VER ∧ byteAt (mbxReq s.d) 4 = z ∧ byteAt (mbxReq s.d) 5 = m ∧ (if 4 ≤ rd s.d Reg.HOST_STAT_MBX_VER then leAt (mbxReq s.d) 8 3 else 0) = at_ ∧ (at_ + 2 ^ 24 - cyc24
      s.d) % 2 ^ 24 = d ∧ (15 < z ∨ m < 1 ∨ 5 < m ∨ at_ ≠ 0 ∧ (d < 2 ∨ 65535 < d))) ∧
    (∃ (s : State) (req : Requester) (z : Nat) (m : Nat) (at_ : Nat) (d : Nat), accessErr s.d req 0x10110010 true = 0 ∧ rdB s.d Reg.HOST_MBX_STAT_BUSY = false ∧ 1 ≤ rd s.d
      Reg.HOST_STAT_MBX_VER ∧ byteAt (mbxReq s.d) 4 = z ∧ byteAt (mbxReq s.d) 5 = m ∧ (if 4 ≤ rd s.d Reg.HOST_STAT_MBX_VER then leAt (mbxReq s.d) 8 3 else 0) = at_ ∧ (at_ + 2 ^ 24 - cyc24
      s.d) % 2 ^ 24 = d ∧ z < 16 ∧ 1 ≤ m ∧ m ≤ 5 ∧ (at_ = 0 ∨ 2 ≤ d ∧ d ≤ 65535) ∧ (zoneMay s.d z m = false ∨ isStandby s.d = true)) ∧
    (∃ (s : State) (req : Requester) (z : Nat) (m : Nat) (at_ : Nat) (d : Nat), accessErr s.d req 0x10110010 true = 0 ∧ rdB s.d Reg.HOST_MBX_STAT_BUSY = false ∧ 1 ≤ rd s.d
      Reg.HOST_STAT_MBX_VER ∧ byteAt (mbxReq s.d) 4 = z ∧ byteAt (mbxReq s.d) 5 = m ∧ (if 4 ≤ rd s.d Reg.HOST_STAT_MBX_VER then leAt (mbxReq s.d) 8 3 else 0) = at_ ∧ (at_ + 2 ^ 24 - cyc24
      s.d) % 2 ^ 24 = d ∧ z < 16 ∧ 1 ≤ m ∧ m ≤ 5 ∧ (at_ = 0 ∨ 2 ≤ d ∧ d ≤ 65535) ∧ zoneMay s.d z m = true ∧ isStandby s.d = false) ∧
    (∃ (s : State) (req : Requester) (r : Nat), accessErr s.d req 0x10110010 true = 0 ∧ rdB s.d Reg.HOST_MBX_STAT_BUSY = false ∧ byteAt (mbxReq s.d) 4 = r ∧ 2 ≤ rd s.d Reg.HOST_STAT_MBX_VER
      ∧ (r < 2 ∨ r < 10 ∧ 3 ≤ rd s.d Reg.HOST_STAT_MBX_VER) ∧ bit (byteAt (mbxReq s.d) 5) 0 = false) ∧
    (∃ (s : State) (req : Requester) (r : Nat) (i : _), accessErr s.d req 0x10110010 true = 0 ∧ rdB s.d Reg.HOST_MBX_STAT_BUSY = false ∧ byteAt (mbxReq s.d) 4 = r ∧ 2 ≤ rd s.d
      Reg.HOST_STAT_MBX_VER ∧ (r < 2 ∨ r < 10 ∧ 3 ≤ rd s.d Reg.HOST_STAT_MBX_VER) ∧ i < 13 ∧ bit (byteAt (mbxReq s.d) 5) 0 = true ∧ leAt (mbxReq s.d) 16 4 = 2 ^ (16 + i) ∧ leAt (mbxReq s.d)
      8 8 % 2 ^ (16 + i) = 0) ∧
    (∃ (s : State) (req : Requester) (r : Nat), accessErr s.d req 0x10110010 true = 0 ∧ rdB s.d Reg.HOST_MBX_STAT_BUSY = false ∧ byteAt (mbxReq s.d) 4 = r ∧ 2 ≤ rd s.d Reg.HOST_STAT_MBX_VER
      ∧ (r < 2 ∨ r < 10 ∧ 3 ≤ rd s.d Reg.HOST_STAT_MBX_VER) ∧ bit (byteAt (mbxReq s.d) 5) 0 = true ∧ (∀ i, i < 13 → leAt (mbxReq s.d) 16 4 = 2 ^ (16 + i) → leAt (mbxReq s.d) 8 8 % 2 ^ (16 +
      i) ≠ 0)) ∧
    (∃ (s : State) (req : Requester) (r : Nat), accessErr s.d req 0x10110010 true = 0 ∧ rdB s.d Reg.HOST_MBX_STAT_BUSY = false ∧ byteAt (mbxReq s.d) 4 = r ∧ (rd s.d Reg.HOST_STAT_MBX_VER < 2
      ∨ rd s.d Reg.HOST_STAT_MBX_VER = 2 ∧ 2 ≤ r ∧ r < 10)) ∧
    (∃ (s : State) (req : Requester) (r : Nat), accessErr s.d req 0x10110010 true = 0 ∧ rdB s.d Reg.HOST_MBX_STAT_BUSY = false ∧ byteAt (mbxReq s.d) 4 = r ∧ 9 < r ∧ 2 ≤ rd s.d
      Reg.HOST_STAT_MBX_VER) ∧
    (∃ (s : State) (req : Requester), accessErr s.d req 0x10110010 true = 0 ∧ rdB s.d Reg.HOST_MBX_STAT_BUSY = true) ∧
    (∃ (s : State) (req : Requester) (cmd : Nat), accessErr s.d req 0x10110010 true = 0 ∧ rdB s.d Reg.HOST_MBX_STAT_BUSY = false ∧ byteAt (mbxReq s.d) 0 = cmd ∧ (cmd = 0 ∨ 4 < cmd ∧ cmd ≠
      0x10)) :=
  ⟨⟨st [(Reg.HOST_STAT_MBX_VER, 1), (Reg.HOST_MBX_REQ_DATA 1, 1), (Reg.HOST_MBX_REQ_DATA 0, 0xABCD0000)], .host, 1, by decide +kernel⟩,
   ⟨st [(Reg.HOST_STAT_MBX_VER, 4)], .host, 0, by decide +kernel⟩,
   ⟨st [(Reg.HOST_STAT_MBX_VER, 4), (Reg.HOST_MBX_REQ_DATA 1, 0x0500), (Reg.HOST_MBX_REQ_DATA 2, 1)], .host, 0, 5, 1, 1, by decide +kernel⟩,
   ⟨st [(Reg.HOST_STAT_MBX_VER, 4), (Reg.HOST_MBX_REQ_DATA 1, 0x050F), (Reg.HOST_MBX_REQ_DATA 2, 65535)], .host, 15, 5, 65535, 65535, by decide +kernel⟩,
   ⟨st [(Reg.HOST_STAT_MBX_VER, 4), (Reg.HOST_MBX_REQ_DATA 1, 0x0500), (Reg.HOST_MBX_REQ_DATA 2, 2)], .host, 0, 5, 2, 2, by decide +kernel⟩,
   ⟨st [(Reg.HOST_STAT_MBX_VER, 3), (Reg.HOST_MBX_REQ_DATA 1, 9)], .host, 9, by decide +kernel⟩,
   ⟨st [(Reg.HOST_STAT_MBX_VER, 3), (Reg.HOST_MBX_REQ_DATA 1, 0x0109), (Reg.HOST_MBX_REQ_DATA 2, 0x10000000), (Reg.HOST_MBX_REQ_DATA 4, 0x10000000)], .host, 9, 12, by decide +kernel⟩,
   ⟨st [(Reg.HOST_STAT_MBX_VER, 2), (Reg.HOST_MBX_REQ_DATA 1, 0x0101), (Reg.HOST_MBX_REQ_DATA 2, 0x8000), (Reg.HOST_MBX_REQ_DATA 4, 0x10000)], .host, 1, by decide +kernel⟩,
   ⟨st [(Reg.HOST_STAT_MBX_VER, 2), (Reg.HOST_MBX_REQ_DATA 1, 9)], .host, 9, by decide +kernel⟩,
   ⟨st [(Reg.HOST_STAT_MBX_VER, 4), (Reg.HOST_MBX_REQ_DATA 1, 10)], .host, 10, by decide +kernel⟩,
   ⟨st [(Reg.HOST_STAT_MBX_VER, 1), (Reg.HOST_MBX_STAT_BUSY, 1)], .host, by decide +kernel⟩,
   ⟨st [(Reg.HOST_STAT_MBX_VER, 1), (Reg.HOST_MBX_REQ_DATA 0, 0x0F)], .host, 15, by decide +kernel⟩⟩

theorem witness_RingsAndLink :
    (∃ (s : State) (n : Nat) (b : List Byte) (rest : List (List Byte)), n < 10 ∧ ringQueue s.d n = b :: rest ∧ (hring s.d n).en = false) ∧
    (∃ (s : State) (n : Nat) (o : Nat) (b : List Byte) (rest : List (List Byte)), n < 10 ∧ ringQueue s.d n = b :: rest ∧ (hring s.d n).en = true ∧ ringFits s.d n (padded b).length = true ∧
      (rd s.d (Reg.HOST_RING_HEAD_HEAD n) + ringFill s.d n (padded b).length) % 2 ^ 32 % (hring s.d n).size = o ∧ ((hring s.d n).wb + 8 ≤ (hring s.d n).base + o ∨ (hring s.d n).base + o +
      (padded b).length ≤ (hring s.d n).wb)) ∧
    (∃ (s : State) (n : Nat) (b : List Byte) (rest : List (List Byte)), n < 10 ∧ ringQueue s.d n = b :: rest ∧ (hring s.d n).en = true ∧ ringFits s.d n (padded b).length = false ∧ n < 2) ∧
    (∃ (s : State) (n : Nat) (b : List Byte) (rest : List (List Byte)), n < 10 ∧ ringQueue s.d n = b :: rest ∧ (hring s.d n).en = true ∧ ringFits s.d n (padded b).length = false ∧ 2 ≤ n) ∧
    (∃ (s : State) (req : Requester) (n : Nat), n < 10 ∧ accessErr s.d req (0x10110204 + 0x10 * n) true = 0) ∧
    (∃ (s : State) (n : Nat), n < 10 ∧ 0 < (hring s.d n).unsig) ∧
    (∃ (s : State) (n : Nat), (hring s.d n).unsig = 0) ∧
    (∃ (s : State), domOn s.d 12 = true) ∧
    (∃ (s : State), domOn s.d 12 = false) ∧
    (∃ (s : State) (req : Requester) (w : Nat) (z : Nat) (m : Nat), accessErr s.d req 0x10000014 true = 0 ∧ bits w 0 4 = z ∧ bits w 4 3 = m ∧ req ≠ .host ∧ zoneMay s.d z m = true ∧ isStandby
      s.d = false ∧ m ≠ modeDormant) ∧
    (∃ (s : State) (req : Requester) (w : Nat) (z : Nat) (m : Nat), accessErr s.d req 0x10000014 true = 0 ∧ bits w 0 4 = z ∧ bits w 4 3 = m ∧ req ≠ .host ∧ (zoneMay s.d z m = false ∨
      isStandby s.d = true ∨ m = modeDormant)) ∧
    (∃ (s : State) (req : Requester) (w : Nat) (z : Nat) (m : Nat), accessErr s.d req 0x10000014 true = 0 ∧ bits w 0 4 = z ∧ bits w 4 3 = m ∧ req = .host) :=
  ⟨⟨st [] (fun d => { d with host := { d.host with rings := [(9, { queue := [[1]] })] } }), 9, [1], [], by decide +kernel⟩,
   ⟨st [(Reg.HOST_RING_HEAD_HEAD 0, 16), (Reg.HOST_RING_TAIL_TAIL 0, 16)] (fun d => { d with host := { d.host with rings := [(0, { en := true, size := 16, wb := 16, queue := [List.replicate 16 1] })] } }), 0, 0, List.replicate 16 1, [], by decide +kernel⟩,
   ⟨st [(Reg.HOST_RING_HEAD_HEAD 0, 8)] (fun d => { d with host := { d.host with rings := [(0, { en := true, size := 8, queue := [[1]] })] } }), 0, [1], [], by decide +kernel⟩,
   ⟨st [(Reg.HOST_RING_HEAD_HEAD 2, 8)] (fun d => { d with host := { d.host with rings := [(2, { en := true, size := 8, queue := [[1]] })] } }), 2, [1], [], by decide +kernel⟩,
   ⟨st [], .host, 9, by decide +kernel⟩,
   ⟨st [] (fun d => { d with host := { d.host with rings := [(9, { unsig := 1 })] } }), 9, by decide +kernel⟩,
   ⟨st [], 9, by decide +kernel⟩,
   ⟨st [], by decide +kernel⟩,
   ⟨st [(Reg.PWR_STAT_DOM_ON, 0)], by decide +kernel⟩,
   ⟨st [] (fun d => { d with zreq := [⟨0, 4, 1, 0, 1⟩] }), .triad, 0x40, 0, 4, by decide +kernel⟩,
   ⟨st [], .triad, 0x51, 1, 5, by decide +kernel⟩,
   ⟨st [], .host, 0x40, 0, 4, by decide +kernel⟩⟩

theorem witness_FlashAndDram :
    (∃ (s : State) (req : Requester) (a : Nat) (n : Nat), accessErr s.d req 0x10110400 true = 0 ∧ s.d.host.qspi = none ∧ rd s.d Reg.HOST_QSPI_ADDR_ADDR = a ∧ rd s.d Reg.HOST_QSPI_LEN_LEN = n
      ∧ 1 ≤ n ∧ n ≤ 256) ∧
    (∃ (s : State) (req : Requester) (a : Nat) (n : Nat), accessErr s.d req 0x10110400 true = 0 ∧ s.d.host.qspi = none ∧ rd s.d Reg.HOST_QSPI_ADDR_ADDR = a ∧ rd s.d Reg.HOST_QSPI_LEN_LEN = n
      ∧ 1 ≤ n ∧ a % 256 + n ≤ 256 ∧ 0x802000 ≤ a) ∧
    (∃ (s : State) (req : Requester) (a : Nat) (n : Nat), accessErr s.d req 0x10110400 true = 0 ∧ s.d.host.qspi = none ∧ rd s.d Reg.HOST_QSPI_ADDR_ADDR = a ∧ rd s.d Reg.HOST_QSPI_LEN_LEN = n
      ∧ 0x810000 ≤ a) ∧
    (∃ (s : State) (req : Requester) (a : Nat) (n : Nat), accessErr s.d req 0x10110400 true = 0 ∧ s.d.host.qspi = none ∧ rd s.d Reg.HOST_QSPI_ADDR_ADDR = a ∧ rd s.d Reg.HOST_QSPI_LEN_LEN = n
      ∧ 0x800000 ≤ a ∧ a < 0x810000) ∧
    (∃ (s : State) (a : Nat) (n : Nat) (data : List Byte), s.d.safe.recWait = false ∧ s.d.host.qspi = some (1, a, n, data) ∧ n ≤ 256 ∧ (a + n ≤ 0x800000 ∨ 0x802000 ≤ a)) ∧
    (∃ (s : State) (a : Nat) (n : Nat) (data : List Byte), s.d.safe.recWait = false ∧ s.d.host.qspi = some (2, a, n, data)) ∧
    (∃ (s : State) (a : Nat) (n : Nat) (data : List Byte), s.d.safe.recWait = false ∧ (s.d.host.qspi = some (3, a, n, data) ∨ s.d.host.qspi = some (4, a, n, data))) ∧
    (∃ (s : State) (c : Nat) (g : List Byte), s.d.safe.recWait = true ∧ s.d.safe.recDue = true ∧ s.d.safe.conf = some (c, g)) ∧
    (∃ (s : State) (a : Nat), (a < ledgerBase s.d ∨ ledgerBase s.d + 0x02000000 ≤ a)) :=
  ⟨⟨st [(Reg.HOST_QSPI_ADDR_ADDR, 0), (Reg.HOST_QSPI_LEN_LEN, 256)], .host, 0, 256, by decide +kernel⟩,
   ⟨st [(Reg.HOST_QSPI_ADDR_ADDR, 0x802000), (Reg.HOST_QSPI_LEN_LEN, 256)], .host, 0x802000, 256, by decide +kernel⟩,
   ⟨st [(Reg.HOST_QSPI_ADDR_ADDR, 0x810000), (Reg.HOST_QSPI_LEN_LEN, 1)], .host, 0x810000, 1, by decide +kernel⟩,
   ⟨st [(Reg.HOST_QSPI_ADDR_ADDR, 0x80FFFF), (Reg.HOST_QSPI_LEN_LEN, 1)], .host, 0x80FFFF, 1, by decide +kernel⟩,
   ⟨st [] (fun d => { d with host := { d.host with qspi := some (1, 0x7FFF00, 256, []) } }), 0x7FFF00, 256, [], by decide +kernel⟩,
   ⟨st [] (fun d => { d with host := { d.host with qspi := some (2, 0x802000, 256, []) } }), 0x802000, 256, [], by decide +kernel⟩,
   ⟨st [] (fun d => { d with host := { d.host with qspi := some (4, 0x810000, 1, []) } }), 0x810000, 1, [], by decide +kernel⟩,
   ⟨st [] (fun d => { d with safe := { d.safe with recWait := true, recDue := true, conf := some (5, []) } }), 5, [], by decide +kernel⟩,
   ⟨st [(Reg.LEDGER_BASE_LO_ADDR, 1)], 2 ^ 25 - 1, by decide +kernel⟩⟩

theorem witness_TickTimeline :
    (∃ (s : State) (tj : Int), ticking s.d = true ∧ s.d.rime.move = none ∧ s.d.pwr.offPend = 0 ∧ tj < 1350) ∧
    (∃ (s : State) (tj : Int), ticking s.d = true ∧ 1350 ≤ tj) ∧
    (∃ (s : State), ticking s.d = false) ∧
    (∃ (s : State), ticking s.d = true ∧ s.d.phase ≤ 1) ∧
    (∃ (s : State), 1 < s.d.phase) ∧
    (∃ (s : State), s.d.phase = 2) ∧
    (∃ (s : State), inBoot s.d = false ∧ (s.d.phase = 2 ∨ s.d.phase = 3)) ∧
    (∃ (s : State), inBoot s.d = false ∧ s.d.phase = 4) ∧
    (∃ (s : State), s.d.phase ≠ 2 ∧ s.d.phase ≠ 3) ∧
    (∃ (s : State), s.d.phase ≠ 4) :=
  ⟨⟨st [], 1349, by decide +kernel⟩,
   ⟨st [], 1350, by decide +kernel⟩,
   ⟨st [(Reg.PWR_STAT_STATE, 2)], by decide +kernel⟩,
   ⟨st [] (fun d => { d with phase := 1 }), by decide +kernel⟩,
   ⟨st [] (fun d => { d with phase := 2 }), by decide +kernel⟩,
   ⟨st [] (fun d => { d with phase := 2 }), by decide +kernel⟩,
   ⟨st [] (fun d => { d with phase := 3 }), by decide +kernel⟩,
   ⟨st [] (fun d => { d with phase := 4 }), by decide +kernel⟩,
   ⟨st [] (fun d => { d with phase := 4 }), by decide +kernel⟩,
   ⟨st [] (fun d => { d with phase := 5 }), by decide +kernel⟩⟩

theorem witness_StepOfTheQueue :
    (∃ (s : State) (c : Instr) (q : List Instr), s.pending = c :: q) ∧
    (∃ (s : State), s.pending = []) :=
  ⟨⟨{ st [] with pending := [.commitPoint] }, .commitPoint, [], by decide +kernel⟩,
   ⟨st [], by decide +kernel⟩⟩

theorem witness_QueueDrains :
    ∃ (s : State) (q : List Instr), s.pending = q :=
  ⟨{ st [] with pending := [.tickEdge 0 0, .commitPoint] }, [.tickEdge 0 0, .commitPoint], by decide +kernel⟩

theorem witness_FusesAreBlownOnce :
    (∃ (s : State) (t : State) (i : _), FuseInv s.nv.fuse ∧ step s = .next t ∧ bit s.nv.fuse.bootRev i = true) ∧
    (∃ (s : State) (t : State) (i : _), FuseInv s.nv.fuse ∧ step s = .next t ∧ bit s.nv.fuse.firnRev i = true) ∧
    (∃ (s : State) (t : State), FuseInv s.nv.fuse ∧ step s = .next t ∧ s.nv.fuse.calve = true) ∧
    (∃ (s : State) (t : State), FuseInv s.nv.fuse ∧ step s = .next t ∧ s.nv.fuse.calveRev = true) ∧
    (∃ (s : State) (t : State), FuseInv s.nv.fuse ∧ step s = .next t ∧ s.nv.fuse.dbg = true) ∧
    (∃ (s : State) (t : State), FuseInv s.nv.fuse ∧ step s = .next t ∧ s.nv.fuse.dbgRev = true) ∧
    (∃ (s : State) (t : State), FuseInv s.nv.fuse ∧ step s = .next t ∧ s.nv.fuse.state ≠ 0) :=
  ⟨⟨{ st [] with nv := { fuse := { bootRev := 8 } }, pending := [.fuseStepDone true false false] }, _, 3, ⟨by decide, .inl rfl⟩, rfl, by decide⟩,
   ⟨{ st [] with nv := { fuse := { firnRev := 8 } }, pending := [.fuseStepDone true false false] }, _, 3, ⟨by decide, .inl rfl⟩, rfl, by decide⟩,
   ⟨{ st [] with nv := { fuse := { calve := true } }, pending := [.fuseStepDone true false false] }, _, ⟨by decide, .inl rfl⟩, rfl, by decide⟩,
   ⟨{ st [] with nv := { fuse := { calveRev := true } }, pending := [.fuseStepDone true false false] }, _, ⟨by decide, .inl rfl⟩, rfl, by decide⟩,
   ⟨{ st [] with nv := { fuse := { dbg := true } }, pending := [.fuseStepDone true false false] }, _, ⟨by decide, .inl rfl⟩, rfl, by decide⟩,
   ⟨{ st [] with nv := { fuse := { dbgRev := true } }, pending := [.fuseStepDone true false false] }, _, ⟨by decide, .inl rfl⟩, rfl, by decide⟩,
   ⟨{ st [] with nv := { fuse := { state := 3 } }, pending := [.fuseStepDone true false false] }, _, ⟨by decide, .inl rfl⟩, rfl, by decide⟩⟩

theorem witness_FlashKept :
    ∃ (s : State) (t : State), Memory.wf s.nv.flash = true ∧ step s = .next t ∧ s.pending.head? ≠ some .qspiDone :=
  ⟨{ st [] with nv := { flash := [(0, 5)] }, pending := [.commitPoint] }, _, by decide, rfl, by decide⟩

end Sys2Proof.Tests
end

section
/-!
PROOFS. The engine memories (R214): an engine's X, Y and program memories as one word-addressed window, the window's laws of
a read after a write, what a served access of the device space does there, and from these the statement about access.
-/
namespace Sys2Proof.Machine

/-! ### Little-endian numbers in byte memories -/

/-- A number reads as it was written, cut to its bytes. -/
theorem Memory.readLE_writeLE_same (m : Memory) (a n v : Nat) :
    Memory.readLE (Memory.writeLE m a n v) a n = v % 256 ^ n := by
  induction n generalizing m a v with
  | zero => rw [Memory.readLE, Nat.pow_zero, Nat.mod_one]
  | succ n ih =>
    have hlow : Memory.readByte (Memory.writeLE m a (n + 1) v) a = BitVec.ofNat 8 v := by
      simp only [Memory.writeLE]
      rw [Memory.read_writeLE_outside _ _ _ _ _ (by omega), Memory.read_write_same]
    rw [Memory.readLE, hlow, Memory.writeLE, ih, BitVec.toNat_ofNat]
    rw [show 256 ^ (n + 1) = 256 * 256 ^ n from Nat.pow_succ', Nat.mod_mul]

/-- A word reads as it was written, cut to its 32 bits. -/
theorem Memory.readLE_writeLE_word (m : Memory) (a v : Nat) : Memory.readLE (Memory.writeLE m a 4 v) a 4 = v % 2 ^ 32 :=
  Memory.readLE_writeLE_same m a 4 v

/-- A number reads as before after a write of other bytes. -/
theorem Memory.readLE_writeLE_disjoint (m : Memory) {a n b k : Nat} (v : Nat) (h : b + k ≤ a ∨ a + n ≤ b) :
    Memory.readLE (Memory.writeLE m a n v) b k = Memory.readLE m b k := by
  induction k generalizing b with
  | zero => rfl
  | succ k ih =>
    simp only [Memory.readLE]
    rw [ih (by omega), Memory.read_writeLE_outside _ _ _ _ _ (by omega)]

/-! ### An engine's window -/

/-- The word that an engine's memories hold at an offset of its window, whatever the device shows there outside BOOT. -/
def engHeld (g : Eng) (off : Nat) : Option Nat :=
  if off < 0x10000 then some (Memory.readLE g.x off 4)
  else if off < 0x20000 then some (Memory.readLE g.y (off - 0x10000) 4)
  else if off < 0x28000 then some (Memory.readLE g.p (off - 0x20000) 4)
  else none

/-- An engine with a word stored at an offset of its window. -/
def engStore (off w : Nat) (g : Eng) : Eng :=
  if off < 0x10000 then { g with x := Memory.writeLE g.x off 4 w }
  else if off < 0x20000 then { g with y := Memory.writeLE g.y (off - 0x10000) 4 w }
  else { g with p := Memory.writeLE g.p (off - 0x20000) 4 w }

theorem engHeld_x (g : Eng) {off : Nat} (hx : off < 0x10000) : engHeld g off = some (Memory.readLE g.x off 4) := if_pos hx

theorem engHeld_y (g : Eng) {off : Nat} (hx : ¬ off < 0x10000) (hy : off < 0x20000) :
    engHeld g off = some (Memory.readLE g.y (off - 0x10000) 4) := by
  rw [engHeld, if_neg hx, if_pos hy]

theorem engHeld_p (g : Eng) {off : Nat} (hy : ¬ off < 0x20000) (hp : off < 0x28000) :
    engHeld g off = some (Memory.readLE g.p (off - 0x20000) 4) := by
  rw [engHeld, if_neg (by omega), if_neg hy, if_pos hp]

theorem engHeld_outside (g : Eng) {off : Nat} (hp : ¬ off < 0x28000) : engHeld g off = none := by
  rw [engHeld, if_neg (by omega), if_neg (by omega), if_neg hp]

theorem engStore_x (g : Eng) {off : Nat} (w : Nat) (hx : off < 0x10000) :
    engStore off w g = { g with x := Memory.writeLE g.x off 4 w } := if_pos hx

theorem engStore_y (g : Eng) {off : Nat} (w : Nat) (hx : ¬ off < 0x10000) (hy : off < 0x20000) :
    engStore off w g = { g with y := Memory.writeLE g.y (off - 0x10000) 4 w } := by
  rw [engStore, if_neg hx, if_pos hy]

theorem engStore_p (g : Eng) {off : Nat} (w : Nat) (hy : ¬ off < 0x20000) :
    engStore off w g = { g with p := Memory.writeLE g.p (off - 0x20000) 4 w } := by
  rw [engStore, if_neg (by omega), if_neg hy]

theorem engHeld_engStore_same (g : Eng) {off : Nat} (w : Nat) (h : off < 0x28000) :
    engHeld (engStore off w g) off = some (w % 2 ^ 32) := by
  by_cases hx : off < 0x10000
  · rw [engHeld_x _ hx, engStore_x g w hx, Memory.readLE_writeLE_word]
  by_cases hy : off < 0x20000
  · rw [engHeld_y _ hx hy, engStore_y g w hx hy, Memory.readLE_writeLE_word]
  · rw [engHeld_p _ hy h, engStore_p g w hy, Memory.readLE_writeLE_word]

/-- Outside its own four bytes a stored word leaves X alone. -/
theorem readLE_engStore_x (g : Eng) {off off' : Nat} (w : Nat) (hd : off' + 4 ≤ off ∨ off + 4 ≤ off') :
    Memory.readLE (engStore off w g).x off' 4 = Memory.readLE g.x off' 4 := by
  by_cases hx : off < 0x10000
  · rw [engStore_x g w hx, Memory.readLE_writeLE_disjoint _ _ hd]
  by_cases hy : off < 0x20000
  · rw [engStore_y g w hx hy]
  · rw [engStore_p g w hy]

/-- Outside its own four bytes a stored word leaves Y alone. -/
theorem readLE_engStore_y (g : Eng) {off off' : Nat} (w : Nat) (hlo : 0x10000 ≤ off')
    (hd : off' + 4 ≤ off ∨ off + 4 ≤ off') :
    Memory.readLE (engStore off w g).y (off' - 0x10000) 4 = Memory.readLE g.y (off' - 0x10000) 4 := by
  by_cases hx : off < 0x10000
  · rw [engStore_x g w hx]
  by_cases hy : off < 0x20000
  · rw [engStore_y g w hx hy, Memory.readLE_writeLE_disjoint _ _ (by omega)]
  · rw [engStore_p g w hy]

/-- Outside its own four bytes a stored word leaves the program memory alone. -/
theorem readLE_engStore_p (g : Eng) {off off' : Nat} (w : Nat) (hlo : 0x20000 ≤ off')
    (hd : off' + 4 ≤ off ∨ off + 4 ≤ off') :
    Memory.readLE (engStore off w g).p (off' - 0x20000) 4 = Memory.readLE g.p (off' - 0x20000) 4 := by
  by_cases hx : off < 0x10000
  · rw [engStore_x g w hx]
  by_cases hy : off < 0x20000
  · rw [engStore_y g w hx hy]
  · rw [engStore_p g w hy, Memory.readLE_writeLE_disjoint _ _ (by omega)]

theorem engHeld_engStore_ne (g : Eng) {off off' : Nat} (w : Nat) (ha : off % 4 = 0) (ha' : off' % 4 = 0) (hne : off' ≠ off) :
    engHeld (engStore off w g) off' = engHeld g off' := by
  have hd : off' + 4 ≤ off ∨ off + 4 ≤ off' := by omega
  by_cases hx : off' < 0x10000
  · rw [engHeld_x _ hx, engHeld_x _ hx, readLE_engStore_x g w hd]
  by_cases hy : off' < 0x20000
  · rw [engHeld_y _ hx hy, engHeld_y _ hx hy, readLE_engStore_y g w (by omega) hd]
  by_cases hp : off' < 0x28000
  · rw [engHeld_p _ hy hp, engHeld_p _ hy hp, readLE_engStore_p g w (by omega) hd]
  · rw [engHeld_outside _ hp, engHeld_outside _ hp]

/-- In BOOT a byte of X is what the memory holds: no descriptor stands in its place (R213). -/
theorem xByte_of_inBoot (d : Dev) (e a : Nat) (hb : inBoot d = true) (hlt : a < 0x10000) :
    xByte d e a = (Memory.readByte (eng d e).x a).toNat := by
  simp only [xByte, Nat.mod_eq_of_lt hlt, hb, Bool.true_eq_false, and_false, ↓reduceIte]

theorem gX32_of_inBoot (d : Dev) (e : Nat) {a : Nat} (hb : inBoot d = true) (ha : a % 4 = 0) (hlt : a < 0x10000) :
    gX32 d e a = Memory.readLE (eng d e).x a 4 := by
  rw [gX32, xByte_of_inBoot d e a hb hlt, xByte_of_inBoot d e (a + 1) hb (by omega),
    xByte_of_inBoot d e (a + 2) hb (by omega), xByte_of_inBoot d e (a + 3) hb (by omega)]
  rfl

/-- In BOOT a byte of Y is what the memory holds: no ROM kernel works in it (R213). -/
theorem yByte_of_inBoot (d : Dev) (e a : Nat) (hb : inBoot d = true) (hlt : a < 0x10000) :
    yByte d e a = (Memory.readByte (eng d e).y a).toNat := by
  simp only [yByte, Nat.mod_eq_of_lt hlt, hb, Bool.true_eq_false, and_false, ↓reduceIte]

theorem gY32_of_inBoot (d : Dev) (e : Nat) {a : Nat} (hb : inBoot d = true) (ha : a % 4 = 0) (hlt : a < 0x10000) :
    gY32 d e a = Memory.readLE (eng d e).y a 4 := by
  rw [gY32, yByte_of_inBoot d e a hb hlt, yByte_of_inBoot d e (a + 1) hb (by omega),
    yByte_of_inBoot d e (a + 2) hb (by omega), yByte_of_inBoot d e (a + 3) hb (by omega)]
  rfl

/-- In BOOT a word of an engine is the one its memories hold. -/
theorem engWord_of_inBoot (d : Dev) (e : Nat) {off : Nat} (hb : inBoot d = true) (ha : off % 4 = 0) :
    engWord d e off = engHeld (eng d e) off := by
  by_cases hx : off < 0x10000
  · rw [engWord, if_pos hx, engHeld_x _ hx, gX32_of_inBoot d e hb ha hx]
  by_cases hy : off < 0x20000
  · rw [engWord, if_neg hx, if_pos hy, engHeld_y _ hx hy, gY32_of_inBoot d e hb (by omega) (by omega)]
  by_cases hp : off < 0x28000
  · rw [engWord, if_neg hx, if_neg hy, if_pos hp, engHeld_p _ hy hp]
  · rw [engWord, if_neg hx, if_neg hy, if_neg hp, engHeld_outside _ hp]

/-! ### One engine among the others -/

theorem eng_setEng_same (d : Dev) (e : Nat) (f : Eng → Eng) : eng (setEng d e f) e = f (eng d e) :=
  SMap.get_mod_same _ _ _ _

theorem eng_setEng_ne (d : Dev) {e e' : Nat} (f : Eng → Eng) (h : e' ≠ e) : eng (setEng d e f) e' = eng d e' :=
  SMap.get_mod_ne _ _ _ h

@[simp] theorem eng_okResp (d : Dev) (v e : Nat) : eng (okResp d v) e = eng d e := rfl
/-- A store to an engine's memories does not end BOOT. -/
theorem inBoot_setEng_okResp {d : Dev} (e v : Nat) (f : Eng → Eng) (hb : inBoot d = true) :
    inBoot (okResp (setEng d e f) v) = true := hb

/-- After a word is stored in BOOT, that word of that engine reads as stored. -/
theorem engWord_setEng_engStore_same (d : Dev) (e : Nat) {off : Nat} (w v : Nat) (hb : inBoot d = true) (ha : off % 4 = 0)
    (hlt : off < 0x28000) : engWord (okResp (setEng d e (engStore off w)) v) e off = some (w % 2 ^ 32) := by
  rw [engWord_of_inBoot _ _ (inBoot_setEng_okResp e v _ hb) ha, eng_okResp, eng_setEng_same,
    engHeld_engStore_same _ w hlt]

/-- After a word is stored in BOOT, every other word of every engine reads as before. -/
theorem engWord_setEng_engStore_ne (d : Dev) {e e' off off' : Nat} (w v : Nat) (hb : inBoot d = true) (ha : off % 4 = 0)
    (ha' : off' % 4 = 0) (hne : e' ≠ e ∨ off' ≠ off) :
    engWord (okResp (setEng d e (engStore off w)) v) e' off' = engWord d e' off' := by
  rw [engWord_of_inBoot _ _ (inBoot_setEng_okResp e v _ hb) ha', engWord_of_inBoot d _ hb ha', eng_okResp]
  by_cases he : e' = e
  · subst he
    rw [eng_setEng_same, engHeld_engStore_ne _ w ha ha' (hne.resolve_left (not_not_intro rfl))]
  · rw [eng_setEng_ne d _ he]

/-! ### Access to the device space -/

/-- A served access is aligned (R9). -/
theorem aligned_of_accessErr {d : Dev} {req : Requester} {addr : Nat} {write : Bool}
    (h : accessErr d req addr write = 0) : addr % 4 = 0 := by
  refine Decidable.byContradiction fun hne => ?_
  simp only [accessErr, if_pos hne] at h
  split at h
  · exact absurd h (by decide)
  split at h
  · exact absurd h (by decide)
  split at h
  · exact absurd h (by decide)
  split at h
  · exact absurd h (by decide)
  · exact absurd h (by decide)

/-- No access of 32 bits is refused for its size. -/
@[simp] theorem sizeErr_four (d : Dev) (req : Requester) (addr : Nat) (write : Bool) :
    sizeErr d req addr 4 write = 0 := by
  rw [sizeErr, if_pos rfl]

/-- MULTIWORD_READ of 32 bits that meets no ECC error is one read of the bus. -/
theorem exec_multiwordRead_word (s : State) (req : Requester) (addr : Nat) :
    exec (.multiwordRead ⟨req, 4, 0⟩ addr) s = .next (s.withDev (busRead s.d req addr 0)) := by
  change execMultiwordRead ⟨req, 4, 0⟩ addr s = _
  simp only [execMultiwordRead, busReadSz, sizeErr_four, ne_eq, not_true_eq_false, ↓reduceIte]

/-- REGISTER_WRITE of 32 bits is one write of the bus. -/
theorem exec_registerWrite_word (s : State) (req : Requester) (addr w : Nat) :
    exec (.registerWrite ⟨req, 4, 0⟩ addr w) s = .next (busWrite s req addr w) := by
  change execRegisterWrite ⟨req, 4, 0⟩ addr w s = _
  simp only [execRegisterWrite, sizeErr_four, ne_eq, not_true_eq_false, ↓reduceIte]

/-- A served read of an engine memory gives its word. -/
theorem busRead_engWord {d : Dev} {req : Requester} {addr v : Nat} (hlo : 0x02000000 ≤ addr) (hhi : addr < 0x02600000)
    (ht : inTest d addr = false) (hacc : accessErr d req addr false = 0)
    (hv : engWord d (engAt addr).1 (engAt addr).2 = some v) : busRead d req addr 0 = okResp d v := by
  have htcm : ¬ addr < 0x400000 := by omega
  have hneve : ¬ (0x01000000 ≤ addr ∧ addr < 0x01200000) := by omega
  simp only [busRead, eccMet, hacc, ht, htcm, hneve, hlo, hhi, hv, and_self, ne_eq, not_true_eq_false, decide_false,
    Bool.or_self, Bool.false_eq_true, ↓reduceIte]

/-- A served write of an engine memory is left to `engMemWrite`. -/
theorem busWrite_engMem {s : State} {req : Requester} {addr : Nat} (w : Nat) (hlo : 0x02000000 ≤ addr)
    (hhi : addr < 0x02600000) (hoff : addr % 0x40000 < 0x28000) (ht : inTest s.d addr = false)
    (hacc : accessErr s.d req addr true = 0) : busWrite s req addr w = s.withDev (engMemWrite s.d req addr w) := by
  have hcmd : addr ≠ 0x10108004 := by omega
  have hrst : addr ≠ 0x1010801C := by omega
  have htcm : ¬ addr < 0x400000 := by omega
  have hneve : ¬ (0x01000000 ≤ addr ∧ addr < 0x01200000) := by omega
  simp only [busWrite, devWrite, hcmd, hrst, htcm, hneve, hacc, ht, hlo, hhi, hoff, false_and, and_self, ne_eq,
    not_true_eq_false, Bool.false_eq_true, ↓reduceIte]

/-- In BOOT a write of an engine memory is performed. -/
theorem engMemWrite_of_inBoot {d : Dev} (req : Requester) (addr w : Nat) (hb : inBoot d = true) :
    engMemWrite d req addr w = okResp (setEng d (engAt addr).1 (engStore (engAt addr).2 w)) := by
  rw [engMemWrite, hb]
  rfl

/-- Outside BOOT it is refused (R12). -/
theorem engMemWrite_of_not_inBoot {d : Dev} (req : Requester) (addr w : Nat) (hb : inBoot d = false) :
    engMemWrite d req addr w = refuseW d req addr := by
  simp only [engMemWrite, hb, Bool.not_false, ↓reduceIte]

/-- Settles O13: a served access of an engine memory reaches that memory alone, and in BOOT a word read is the word held. -/
theorem engineMemoryAccess : Obligations.EngineMemoryAccess := by
  unfold Obligations.EngineMemoryAccess
  intro s req addr w v hlo hhi hoff ht
  refine ⟨fun hacc hv => ?read, fun hacc hb => ?performed, fun hacc hb => ?refused⟩
  case read => rw [exec_multiwordRead_word, busRead_engWord hlo hhi ht hacc hv]
  case performed =>
    have hoff4 : addr % 0x40000 % 4 = 0 := by
      have := aligned_of_accessErr hacc
      omega
    refine ⟨_, exec_registerWrite_word s req addr w, ?_⟩
    rw [busWrite_engMem w hlo hhi hoff ht hacc, engMemWrite_of_inBoot req addr w hb]
    exact ⟨rfl, engWord_setEng_engStore_same _ _ w 0 hb hoff4 hoff,
      fun e off ha hne => engWord_setEng_engStore_ne _ w 0 hb hoff4 ha hne⟩
  case refused =>
    rw [exec_registerWrite_word, busWrite_engMem w hlo hhi hoff ht hacc, engMemWrite_of_not_inBoot req addr w hb]

end Sys2Proof.Machine
end

section
/-!
PROOFS. The fuses (R484, R491 to R495): a write of `LCY_CMD` as the state it acts in, what one command can do to the fuse
map, and from these the statements about the rollback counter and about the life-cycle moves.
-/
namespace Sys2Proof.Machine

/-! ### A write of `LCY_CMD` -/

/-- The state in which a life-cycle command acts whose write is served and carries the key: the operand fields stand in
`LCY_CMD`. -/
def lcyTaken (s : State) (w : Nat) : State := s.withDev (okResp (lcyArgs s.d w))

@[simp] theorem lcyTaken_nv (s : State) (w : Nat) : (lcyTaken s w).nv = s.nv := rfl

@[simp] theorem lcyTaken_bootOk (s : State) (w : Nat) : (lcyTaken s w).d.bootOk = s.d.bootOk := rfl

@[simp] theorem lcyTaken_boot (s : State) (w : Nat) : (lcyTaken s w).d.boot = s.d.boot := rfl

@[simp] theorem zones_lcyTaken (s : State) (w : Nat) : zones (lcyTaken s w).d = zones s.d := rfl

/-- The operand fields are those of `LCY_CMD`: a field elsewhere reads as before. -/
theorem rd_lcyTaken (s : State) (w : Nat) {f : Fld} (h : f.addr ≠ 0x10108004) (hlo : f.lo < 32) :
    rd (lcyTaken s w).d f = rd s.d f := by
  have htarget : f.key ≠ Reg.LCY_CMD_TARGET.key := by simp only [Fld.key, Reg.LCY_CMD_TARGET]; omega
  have harg : f.key ≠ Reg.LCY_CMD_ARG.key := by simp only [Fld.key, Reg.LCY_CMD_ARG]; omega
  rw [lcyTaken, rd_okResp, lcyArgs, rd_wr_ne _ _ _ _ harg, rd_wr_ne _ _ _ _ htarget]

@[simp] theorem role_lcyTaken (s : State) (w : Nat) : role (lcyTaken s w).d = role s.d :=
  rd_lcyTaken s w (by decide) (by decide)

@[simp] theorem zmode_lcyTaken (s : State) (w z : Nat) : zmode (lcyTaken s w).d z = zmode s.d z := by
  refine rd_lcyTaken s w ?_ ?_
  · simp only [Reg.SYS_ZMODE]
    split <;> decide
  · simp only [Reg.SYS_ZMODE]
    omega

/-- The token is judged by registers, memory and fuses that the write leaves alone. -/
@[simp] theorem tokenOk_lcyTaken (s : State) (w t : Nat) : tokenOk (lcyTaken s w) t = tokenOk s t := by
  simp only [tokenOk, rd_lcyTaken s w (f := Reg.LCY_AUTH_ADDR) (by decide) (by decide),
    rd_lcyTaken s w (f := Reg.LCY_NONCE_LO_NONCE) (by decide) (by decide),
    rd_lcyTaken s w (f := Reg.LCY_NONCE_HI_NONCE) (by decide) (by decide)]
  rfl

/-- A served write with the key acts where the block is not locked, or where R499 leaves the command. -/
theorem lcyWrite_served {s : State} {req : Requester} {w cmd : Nat} (act : State → State)
    (hacc : accessErr s.d req 0x10108004 true = 0) (hkey : bits w 16 16 = 0x7C1F)
    (hlock : (rdB s.d Reg.LCY_LOCK_LOCK && !([2, 3, 7, 8].contains cmd)) = false) :
    lcyWrite s req w cmd act = act (lcyTaken s w) := by
  simp only [lcyWrite, hacc, hkey, hlock, ne_eq, not_true_eq_false, Bool.false_eq_true, ↓reduceIte]
  rfl

/-- A write of `LCY_CMD` acts, and then it carries the key, or it changes the device alone. -/
theorem lcyWrite_cases (s : State) (req : Requester) (w cmd : Nat) (act : State → State) :
    (lcyWrite s req w cmd act = act (lcyTaken s w) ∧ bits w 16 16 = 0x7C1F) ∨
      ∃ d, lcyWrite s req w cmd act = s.withDev d := by
  by_cases hacc : accessErr s.d req 0x10108004 true = 0
  case neg => exact .inr ⟨_, by rw [lcyWrite, if_pos hacc]⟩
  by_cases hkey : bits w 16 16 = 0x7C1F
  case neg => exact .inr ⟨_, by rw [lcyWrite, if_neg (not_not_intro hacc), if_pos hkey]⟩
  cases hlock : rdB s.d Reg.LCY_LOCK_LOCK && !([2, 3, 7, 8].contains cmd) with
  | false => exact .inl ⟨lcyWrite_served act hacc hkey hlock, hkey⟩
  | true => exact .inr ⟨_, by rw [lcyWrite, if_neg (not_not_intro hacc), if_neg (not_not_intro hkey), if_pos hlock]⟩

/-! ### The judgement of a TRANSITION -/

/-- The code that a TRANSITION to `t` is refused with; 0 where it is accepted (R493). -/
def transitionCode (s : State) (t : Nat) : Nat :=
  if (zones s.d).any (fun z => zmode s.d z == modeProduction) || role s.d != 0 then 1
  else if !movePermitted s.nv.fuse.state t || s.nv.fuse.target != 0 then 2
  else if t == 3 && !tokenOk s t then 3
  else 0

theorem movePermitted_iff (st t : Nat) : movePermitted st t = true ↔
    (st = 0 ∧ t = 1) ∨ (st = 1 ∧ t = 2) ∨ ((st = 1 ∨ st = 2) ∧ t = 3) := by
  simp only [movePermitted, Bool.or_eq_true, Bool.and_eq_true, beq_iff_eq, or_assoc]

/-- A TRANSITION is accepted exactly where it meets every condition of R493. -/
theorem transitionCode_eq_zero_iff (s : State) (t : Nat) : transitionCode s t = 0 ↔
    (∀ z ∈ zones s.d, zmode s.d z ≠ modeProduction) ∧ role s.d = 0 ∧ movePermitted s.nv.fuse.state t = true ∧
      s.nv.fuse.target = 0 ∧ (t = 3 → tokenOk s t = true) := by
  have hzone : ((zones s.d).any fun z => zmode s.d z == modeProduction) = false ↔
      ∀ z ∈ zones s.d, zmode s.d z ≠ modeProduction := by
    simp only [List.any_eq_false, beq_iff_eq, ne_eq]
  rw [← hzone]
  cases hz : (zones s.d).any fun z => zmode s.d z == modeProduction
  case true => simp [transitionCode, hz]
  cases hm : movePermitted s.nv.fuse.state t
  case false => by_cases hr : role s.d = 0 <;> simp [transitionCode, hz, hm, hr]
  by_cases hr : role s.d = 0
  case neg => simp [transitionCode, hz, hr]
  by_cases ht : s.nv.fuse.target = 0
  case neg => simp [transitionCode, hz, hm, hr, ht]
  cases hk : tokenOk s t <;> simp [transitionCode, hz, hm, hr, ht, hk]

@[simp] theorem transitionCode_lcyTaken (s : State) (w t : Nat) : transitionCode (lcyTaken s w) t = transitionCode s t := by
  simp only [transitionCode, zones_lcyTaken, zmode_lcyTaken, role_lcyTaken, lcyTaken_nv, tokenOk_lcyTaken]

/-- A refused TRANSITION leaves what survives resets alone. -/
theorem lcyTransition_refused {s : State} {t : Nat} (bk fk : List (Option (Nat × Nat))) (h : transitionCode s t ≠ 0) :
    (lcyTransition s t bk fk).nv = s.nv := by
  have : lcyTransition s t bk fk = s.withDev (lcyErr s.d (transitionCode s t)) := if_pos h
  rw [this]

/-- An accepted one records its target and the keys of the provisioning image. -/
theorem lcyTransition_accepted {s : State} {t : Nat} (bk fk : List (Option (Nat × Nat))) (h : transitionCode s t = 0) :
    (lcyTransition s t bk fk).nv.fuse = { s.nv.fuse with
      target := t, newBoot := if t = 1 then bk.take 4 else [], newFirn := if t = 1 then fk.take 4 else [] } := by
  rw [lcyTransition]
  exact congrArg (fun x : State => x.nv.fuse) (if_neg (not_not_intro h))

/-! ### What one command can do to the fuses -/

/-- What one command can make of a fuse map. -/
inductive FuseBlow (f : Fuses) : Fuses → Prop
  /-- No fuse is blown. -/
  | keep : FuseBlow f f
  /-- A permitted move is requested (R493). -/
  | request (t : Nat) (bk fk : List (Option (Nat × Nat))) : f.target = 0 → movePermitted f.state t = true →
      FuseBlow f { f with target := t, newBoot := bk, newFirn := fk }
  /-- The move under way completes (R494, R495). -/
  | finish (seed : Nat) : f.target ≠ 0 → FuseBlow f (finishFuses f seed)
  /-- The move under way stops with `LCY_E_FUSE` (R494). -/
  | stop : FuseBlow f { f with target := 0, newBoot := [], newFirn := [] }
  /-- The rollback counter is raised, within its 64 bits (R484). -/
  | advance (v : Nat) : v ≤ 64 → FuseBlow f { f with rollback := max f.rollback v }
  /-- Key slots are revoked. -/
  | revoke (b k : Nat) : FuseBlow f { f with bootRev := f.bootRev ||| b, firnRev := f.firnRev ||| k }
  /-- A grant is made, in PROVISIONED alone (R492). -/
  | grantCalve : f.state = 1 → FuseBlow f { f with calve := true }
  | grantDbg : f.state = 1 → FuseBlow f { f with dbg := true }
  /-- A grant is revoked. -/
  | revokeCalve : FuseBlow f { f with calveRev := true }
  | revokeDbg : FuseBlow f { f with dbgRev := true }

theorem finishFuses_rollback (f : Fuses) (seed : Nat) : (finishFuses f seed).rollback = f.rollback := by
  unfold finishFuses
  dsimp only
  split <;> rfl

/-- No fuse write lowers the rollback counter. -/
theorem FuseBlow.rollback_le {f g : Fuses} (h : FuseBlow f g) : f.rollback ≤ g.rollback := by
  cases h with
  | advance v hv => exact Nat.le_max_left _ _
  | finish seed ht => exact Nat.le_of_eq (finishFuses_rollback f seed).symm
  | _ => exact Nat.le_refl _

/-- No fuse write takes the rollback counter out of its 64 bits. -/
theorem FuseBlow.rollback_le_64 {f g : Fuses} (h : FuseBlow f g) (hf : f.rollback ≤ 64) : g.rollback ≤ 64 := by
  cases h with
  | advance v hv => exact Nat.max_le.2 ⟨hf, hv⟩
  | finish seed ht => rwa [finishFuses_rollback]
  | _ => exact hf

/-- The outcome is a next state, whose fuses come of at most one such write. -/
def Blows (s : State) (o : Host.Outcome State Fault Refusal) : Prop := ∃ t, o = .next t ∧ FuseBlow s.nv.fuse t.nv.fuse

theorem blows_next {s t : State} (h : FuseBlow s.nv.fuse t.nv.fuse) : Blows s (.next t) := ⟨t, rfl, h⟩

theorem fuseBlow_ite {f : Fuses} {p : Prop} [Decidable p] {t u : State} (ht : FuseBlow f t.nv.fuse)
    (hu : FuseBlow f u.nv.fuse) : FuseBlow f (if p then t else u).nv.fuse := by
  split
  · exact ht
  · exact hu

theorem Blows.outState {s : State} {o : Host.Outcome State Fault Refusal} (h : Blows s o) :
    FuseBlow s.nv.fuse (outState o s).nv.fuse := by
  obtain ⟨t, rfl, ht⟩ := h
  exact ht

/-! ### The life-cycle commands -/

/-- A life-cycle command blows what its action blows, or nothing. -/
theorem lcyWrite_fuseBlow {s : State} (req : Requester) {w : Nat} (cmd : Nat) {act : State → State}
    (h : FuseBlow s.nv.fuse (act (lcyTaken s w)).nv.fuse) : FuseBlow s.nv.fuse (lcyWrite s req w cmd act).nv.fuse := by
  obtain ⟨hact, -⟩ | ⟨d, hd⟩ := lcyWrite_cases s req w cmd act
  · rwa [hact]
  · rw [hd]
    exact .keep

theorem lcyTransition_fuseBlow (s : State) (t : Nat) (bk fk : List (Option (Nat × Nat))) :
    FuseBlow s.nv.fuse (lcyTransition s t bk fk).nv.fuse := by
  by_cases h : transitionCode s t = 0
  · obtain ⟨-, -, hmove, htarget, -⟩ := (transitionCode_eq_zero_iff s t).1 h
    rw [lcyTransition_accepted bk fk h]
    exact .request t _ _ htarget hmove
  · rw [lcyTransition_refused bk fk h]
    exact .keep

theorem lcyGrant_fuseBlow {s : State} {f : Fuses} (h : s.nv.fuse.state = 1 → FuseBlow s.nv.fuse f) :
    FuseBlow s.nv.fuse (lcyGrant s f).nv.fuse := by
  unfold lcyGrant
  split
  · next hstate => exact h hstate
  · exact .keep

/-- HOSTBOOT starts an image in the device and blows no fuse. -/
theorem lcyHostboot_nv (s : State) (at_ : Nat) : (lcyHostboot s at_).nv = s.nv := by
  unfold lcyHostboot
  dsimp only
  split
  · rfl
  · split <;> rfl

theorem execTransition_blows (s : State) (req : Requester) (w : Nat) (bk fk : List (Option (Nat × Nat))) :
    Blows s (execTransition req w bk fk s) :=
  blows_next (lcyWrite_fuseBlow req 1 (lcyTransition_fuseBlow (lcyTaken s w) _ bk fk))

theorem execRollbackAdv_blows (s : State) (req : Requester) (w : Nat) : Blows s (execRollbackAdv req w s) := by
  refine blows_next (lcyWrite_fuseBlow req 2 (.advance _ ?_))
  split
  · exact Nat.min_le_left _ _
  · exact Nat.zero_le _

theorem execRevoke_blows (s : State) (req : Requester) (w : Nat) : Blows s (execRevoke req w s) :=
  blows_next (lcyWrite_fuseBlow req 3 (.revoke _ _))

theorem execGrantCalve_blows (s : State) (req : Requester) (w : Nat) : Blows s (execGrantCalve req w s) :=
  blows_next (lcyWrite_fuseBlow req 4 (lcyGrant_fuseBlow (s := lcyTaken s w) .grantCalve))

theorem execGrantDbg_blows (s : State) (req : Requester) (w : Nat) : Blows s (execGrantDbg req w s) :=
  blows_next (lcyWrite_fuseBlow req 5 (lcyGrant_fuseBlow (s := lcyTaken s w) .grantDbg))

theorem execHostboot_blows (s : State) (req : Requester) (w at_ : Nat) : Blows s (execHostboot req w at_ s) := by
  refine blows_next (lcyWrite_fuseBlow req 6 ?_)
  rw [lcyHostboot_nv]
  exact .keep

theorem execRevokeCalve_blows (s : State) (req : Requester) (w : Nat) : Blows s (execRevokeCalve req w s) :=
  blows_next (lcyWrite_fuseBlow req 7 .revokeCalve)

theorem execRevokeDbg_blows (s : State) (req : Requester) (w : Nat) : Blows s (execRevokeDbg req w s) :=
  blows_next (lcyWrite_fuseBlow req 8 .revokeDbg)

/-- A write of `LCY_CMD`, whichever command stands in it. -/
theorem lcyCmd_fuseBlow (s : State) (req : Requester) (w : Nat) : FuseBlow s.nv.fuse (lcyCmd s req w).nv.fuse := by
  unfold lcyCmd
  split
  · exact (execTransition_blows s req w [] []).outState
  · exact (execRollbackAdv_blows s req w).outState
  · exact (execRevoke_blows s req w).outState
  · exact (execGrantCalve_blows s req w).outState
  · exact (execGrantDbg_blows s req w).outState
  · exact (execHostboot_blows s req w 0).outState
  · exact (execRevokeCalve_blows s req w).outState
  · exact (execRevokeDbg_blows s req w).outState
  · exact lcyWrite_fuseBlow req 0 .keep

/-! ### Resets -/

/-- A start-up completes the move that it finds under way. -/
theorem startUp_fuseBlow (s : State) (cause : Nat) (calve rank : Bool) :
    FuseBlow s.nv.fuse (startUp s cause calve rank).nv.fuse := by
  unfold startUp
  dsimp only
  split
  · exact .keep
  split
  · next htarget => exact .finish _ htarget
  split
  · exact .keep
  · exact .keep

theorem execLcyReset_blows (s : State) (req : Requester) (w : Nat) (calve rank : Bool) :
    Blows s (execLcyReset req w calve rank s) := by
  refine blows_next ?_
  split
  · exact .keep
  split
  · exact startUp_fuseBlow s 2 calve rank
  · exact .keep

/-- The end of a move's fuse writes: the move is complete, or it stops (R494). -/
theorem execFuseStepDone_blows (s : State) (ok calve rank : Bool) : Blows s (execFuseStepDone ok calve rank s) := by
  refine blows_next ?_
  split
  · exact .keep
  cases ok with
  | true => exact startUp_fuseBlow s 3 calve rank
  | false => exact .stop

/-! ### Writes of the bus -/

theorem busWrite_fuseBlow (s : State) (req : Requester) (addr w : Nat) :
    FuseBlow s.nv.fuse (busWrite s req addr w).nv.fuse := by
  unfold busWrite
  split
  · exact lcyCmd_fuseBlow s req w
  split
  · exact (execLcyReset_blows s req w _ _).outState
  · exact .keep

/-- A write anywhere but in the two life-cycle registers changes the device alone. -/
theorem busWrite_device {s : State} (req : Requester) {addr : Nat} (w : Nat) (hcmd : addr ≠ 0x10108004)
    (hreset : addr ≠ 0x1010801C) : busWrite s req addr w = s.withDev (devWrite s.d req addr w) := by
  rw [busWrite, if_neg hcmd, if_neg hreset]

/-- A transaction of at most 32 bits is one write of the bus, or changes the device alone. -/
theorem busWord_cases (s : State) (req : Requester) (x : BusOp) (ecc : Nat) :
    (∃ w, busWord s req x ecc = busWrite s req x.addr w) ∨ ∃ d, busWord s req x ecc = s.withDev d := by
  unfold busWord
  dsimp only
  split
  · exact .inr ⟨_, rfl⟩
  split
  · split
    · exact .inl ⟨_, rfl⟩
    split
    · exact .inl ⟨_, rfl⟩
    · exact .inr ⟨_, rfl⟩
  split
  · exact .inr ⟨_, rfl⟩
  · exact .inr ⟨_, rfl⟩

theorem busWord_fuseBlow (s : State) (req : Requester) (x : BusOp) (ecc : Nat) :
    FuseBlow s.nv.fuse (busWord s req x ecc).nv.fuse := by
  obtain ⟨w, hw⟩ | ⟨d, hd⟩ := busWord_cases s req x ecc
  · rw [hw]
    exact busWrite_fuseBlow s req x.addr w
  · rw [hd]
    exact .keep

/-- The life-cycle registers lie in no memory, and no word of a memory stands before them. -/
theorem byteMem_ne {addr : Nat} (h : byteMem addr = true) :
    addr ≠ 0x10108004 ∧ addr ≠ 0x1010801C ∧ addr + 4 ≠ 0x10108004 ∧ addr + 4 ≠ 0x1010801C := by
  simp only [byteMem, inWindow, Bool.or_eq_true, decide_eq_true_eq] at h
  omega

theorem busWord_nv {s : State} (req : Requester) {x : BusOp} (ecc : Nat) (hcmd : x.addr ≠ 0x10108004)
    (hreset : x.addr ≠ 0x1010801C) : (busWord s req x ecc).nv = s.nv := by
  obtain ⟨w, hw⟩ | ⟨d, hd⟩ := busWord_cases s req x ecc
  · rw [hw, busWrite_device req w hcmd hreset]
  · rw [hd]

/-- A transaction of 64 bits with a memory leaves what survives resets alone. -/
theorem busWide_nv {s : State} (req : Requester) {x : BusOp} (ecc : Nat) (h : byteMem x.addr = true) :
    (busWide s req x ecc (fun s y e => busWord s req y e)).nv = s.nv := by
  obtain ⟨hcmd, hreset, hcmd4, hreset4⟩ := byteMem_ne h
  unfold busWide
  extract_lets lo hi
  have hlo : (busWord s req lo ecc).nv = s.nv := busWord_nv req ecc hcmd hreset
  have hboth : (busWord (busWord s req lo ecc) req hi 0).nv = s.nv := (busWord_nv req 0 hcmd4 hreset4).trans hlo
  split
  · rfl
  split
  · exact hlo
  split
  · exact hboth
  split
  · split
    · exact hboth
    · exact hboth
  · exact hboth

theorem busDo_fuseBlow (s : State) (req : Requester) (x : BusOp) (ecc : Nat) :
    FuseBlow s.nv.fuse (busDo s req x ecc).nv.fuse := by
  unfold busDo
  split
  · next h =>
    rw [busWide_nv req ecc h.1]
    exact .keep
  · exact busWord_fuseBlow s req x ecc

theorem busJudged_fuseBlow (s : State) (req : Requester) (x : BusOp) (ecc : Nat) :
    FuseBlow s.nv.fuse (busJudged s req x ecc).nv.fuse :=
  busDo_fuseBlow s.judgedIn req x ecc

/-- A triad transaction changes the device alone, or is performed as one that the MPU has judged. -/
theorem triadTransaction_cases (s : State) (copies : List (Option BusOp)) (voterOk : Bool) (core ecc : Nat) :
    (∃ d, triadTransaction s copies voterOk core ecc = s.withDev d) ∨
      ∃ d req x, triadTransaction s copies voterOk core ecc = busJudged (s.withDev d) req x ecc := by
  unfold triadTransaction
  extract_lets d
  split
  · exact .inl ⟨s.d, rfl⟩
  split
  · exact .inl ⟨_, rfl⟩
  split
  · exact .inl ⟨_, rfl⟩
  · exact .inr ⟨_, _, _, rfl⟩

theorem execTriadTransaction_blows (s : State) (copies : List (Option BusOp)) (voterOk : Bool) (core ecc : Nat) :
    Blows s (execTriadTransaction copies voterOk core ecc s) := by
  refine blows_next ?_
  obtain ⟨d, hd⟩ | ⟨d, req, x, hd⟩ := triadTransaction_cases s copies voterOk core ecc
  · rw [hd]
    exact .keep
  · rw [hd]
    exact busJudged_fuseBlow (s.withDev d) req x ecc

theorem execRegisterWrite_blows (s : State) (a : Access) (addr w : Nat) : Blows s (execRegisterWrite a addr w s) := by
  refine blows_next ?_
  split
  · exact .keep
  · exact busWrite_fuseBlow s a.req addr w

/-! ### The flash -/

/-- A confirmation record is written to the flash, not to the fuses. -/
theorem recordWrite_fuse (s : State) : (recordWrite s).nv.fuse = s.nv.fuse := by
  unfold recordWrite
  split <;> rfl

theorem recordWaiting_fuse (s : State) : (recordWaiting s).nv.fuse = s.nv.fuse := by
  unfold recordWaiting
  split
  · exact recordWrite_fuse _
  · rfl

theorem qspiDone_fuse (s : State) : (qspiDone s).nv.fuse = s.nv.fuse := by
  unfold qspiDone
  split
  · rfl
  · dsimp only
    split <;> rfl

theorem execQspiDone_blows (s : State) : Blows s (execQspiDone s) := by
  refine blows_next ?_
  rw [recordWaiting_fuse, qspiDone_fuse]
  exact .keep

theorem execConfirmationRecordWrite_blows (s : State) : Blows s (execConfirmationRecordWrite s) := by
  refine blows_next ?_
  split
  · exact .keep
  · rw [recordWrite_fuse]
    exact .keep

/-! ### Every command -/

/-- The commands that can change more than the device: those that reach a life-cycle register or a reset, and those that
write the flash. -/
def reachesNv : Instr → Bool
  | .transition .. | .fuseStepDone .. | .rollbackAdv .. | .revoke .. | .grantCalve .. | .grantDbg .. | .hostboot ..
  | .revokeCalve .. | .revokeDbg .. | .powerOnReset .. | .rstNReset .. | .lcyReset .. | .tjHoldRelease ..
  | .registerWrite .. | .morPendClear .. | .blockLock .. | .triadTransaction .. | .qspiDone
  | .confirmationRecordWrite => true
  | _ => false

/-- A command that acts under a condition changes the device alone, whether the condition holds or not. -/
theorem ite_next_device (s : State) (d : Dev) (p : Prop) [Decidable p] :
    ∃ e, (if p then .next (s.withDev d) else .next s : Host.Outcome State Fault Refusal) = .next (s.withDev e) := by
  split
  · exact ⟨d, rfl⟩
  · exact ⟨s.d, rfl⟩

/-- A command that acts on a record of the image changes the device alone, and without the record nothing. -/
theorem execSafeDiscrepancy_device (s : State) (func kind : Nat) :
    ∃ d, execSafeDiscrepancy func kind s = .next (s.withDev d) := by
  unfold execSafeDiscrepancy
  split
  · exact ⟨_, rfl⟩
  · exact ⟨s.d, rfl⟩

theorem execBrakeTestDue_device (s : State) (axis : Nat) : ∃ d, execBrakeTestDue axis s = .next (s.withDev d) := by
  unfold execBrakeTestDue
  split
  · exact ⟨_, rfl⟩
  · exact ⟨s.d, rfl⟩

/-- A command that is not among them changes the device alone. -/
theorem exec_device {c : Instr} (s : State) (h : reachesNv c = false) : ∃ d, exec c s = .next (s.withDev d) := by
  cases c
  case transition | fuseStepDone | rollbackAdv | revoke | grantCalve | grantDbg | hostboot | revokeCalve | revokeDbg
      | powerOnReset | rstNReset | lcyReset | tjHoldRelease | registerWrite | morPendClear | blockLock
      | triadTransaction | qspiDone | confirmationRecordWrite => nomatch h
  case remoteBarrierRelease => exact ite_next_device s _ _
  case variantSwitch => exact ite_next_device s _ _
  case safeDiscrepancy func kind => exact execSafeDiscrepancy_device s func kind
  case brakeTestDue axis => exact execBrakeTestDue_device s axis
  all_goals exact ⟨_, rfl⟩

/-- Every command answers a next state and makes at most one write of the fuses. -/
theorem exec_blows (c : Instr) (s : State) : Blows s (exec c s) := by
  cases hc : reachesNv c
  case false =>
    obtain ⟨d, hd⟩ := exec_device s hc
    rw [hd]
    exact blows_next .keep
  cases c
  case transition req w bk fk => exact execTransition_blows s req w bk fk
  case fuseStepDone ok calve rank => exact execFuseStepDone_blows s ok calve rank
  case rollbackAdv req w => exact execRollbackAdv_blows s req w
  case revoke req w => exact execRevoke_blows s req w
  case grantCalve req w => exact execGrantCalve_blows s req w
  case grantDbg req w => exact execGrantDbg_blows s req w
  case hostboot req w at_ => exact execHostboot_blows s req w at_
  case revokeCalve req w => exact execRevokeCalve_blows s req w
  case revokeDbg req w => exact execRevokeDbg_blows s req w
  case powerOnReset calve rank => exact blows_next (fuseBlow_ite .keep (startUp_fuseBlow s 0 calve rank))
  case rstNReset calve rank => exact blows_next (fuseBlow_ite .keep (startUp_fuseBlow s 1 calve rank))
  case tjHoldRelease calve rank => exact blows_next (fuseBlow_ite (startUp_fuseBlow s 0 calve rank) .keep)
  case lcyReset req w calve rank => exact execLcyReset_blows s req w calve rank
  case registerWrite a addr w => exact execRegisterWrite_blows s a addr w
  case morPendClear req i w => exact blows_next (busWrite_fuseBlow s req _ w)
  case blockLock req addr w => exact blows_next (fuseBlow_ite (busWrite_fuseBlow s req addr _) .keep)
  case triadTransaction copies voterOk core ecc => exact execTriadTransaction_blows s copies voterOk core ecc
  case qspiDone => exact execQspiDone_blows s
  case confirmationRecordWrite => exact execConfirmationRecordWrite_blows s
  all_goals nomatch hc

/-- A step makes at most one write of the fuses. -/
theorem step_fuseBlow {s t : State} (h : step s = .next t) : FuseBlow s.nv.fuse t.nv.fuse := by
  unfold step at h
  split at h
  · cases h
    exact .keep
  · next c q hq =>
    obtain ⟨u, hu, hblow⟩ := exec_blows c { s with pending := q }
    cases hu.symm.trans h
    exact hblow

/-! ### The statements -/

/-- A served ROLLBACK_ADV with the key raises the counter to the running image's version, locked or not (R484, R499). -/
theorem exec_rollbackAdv_served {s : State} {req : Requester} {w : Nat} (hacc : accessErr s.d req 0x10108004 true = 0)
    (hkey : bits w 16 16 = 0x7C1F) (hboot : s.d.bootOk = true) :
    exec (.rollbackAdv req w) s = .next (lcyFuse (lcyTaken s w)
      { s.nv.fuse with rollback := max s.nv.fuse.rollback (min 64 s.d.boot.version) }) := by
  change execRollbackAdv req w s = _
  rw [execRollbackAdv, lcyWrite_served _ hacc hkey (Bool.and_false _)]
  simp only [lcyTaken_bootOk, lcyTaken_boot, lcyTaken_nv, hboot, ↓reduceIte]

/-- Settles O8: the rollback counter rises to the running image's version, and no step lowers it or takes it past 64. -/
theorem rollbackAdvance : Obligations.RollbackAdvance := by
  unfold Obligations.RollbackAdvance
  refine ⟨fun s req w hacc hkey hboot hversion => ?raised, fun s t hle hstep => ?kept⟩
  case raised =>
    refine ⟨_, exec_rollbackAdv_served hacc hkey hboot, rfl, fun hle => ?_, fun hle => ?_⟩
    · change max s.nv.fuse.rollback (min 64 s.d.boot.version) = s.d.boot.version
      rw [Nat.min_eq_right hversion, Nat.max_eq_right hle]
    · change max s.nv.fuse.rollback (min 64 s.d.boot.version) = s.nv.fuse.rollback
      rw [Nat.min_eq_right hversion, Nat.max_eq_left hle]
  case kept =>
    have hblow := step_fuseBlow hstep
    exact ⟨hblow.rollback_le, hblow.rollback_le_64 hle⟩

/-- A served TRANSITION with the key and no lock is judged. -/
theorem exec_transition_served {s : State} {req : Requester} {w : Nat} (bk fk : List (Option (Nat × Nat)))
    (hacc : accessErr s.d req 0x10108004 true = 0) (hkey : bits w 16 16 = 0x7C1F)
    (hlock : rdB s.d Reg.LCY_LOCK_LOCK = false) :
    exec (.transition req w bk fk) s = .next (lcyTransition (lcyTaken s w) (bits w 4 2) bk fk) := by
  change execTransition req w bk fk s = _
  rw [execTransition, lcyWrite_served _ hacc hkey (by rw [hlock, Bool.false_and])]

/-- A TRANSITION without the key, or to a target that is not permitted, leaves what survives resets alone. -/
theorem lcyWrite_transition_nv {s : State} (req : Requester) {w : Nat} (bk fk : List (Option (Nat × Nat)))
    (h : movePermitted s.nv.fuse.state (bits w 4 2) = false ∨ bits w 16 16 ≠ 0x7C1F) :
    (lcyWrite s req w 1 (fun s => lcyTransition s (bits w 4 2) bk fk)).nv = s.nv := by
  obtain ⟨hact, hkey⟩ | ⟨d, hd⟩ := lcyWrite_cases s req w 1 (fun s => lcyTransition s (bits w 4 2) bk fk)
  · have hmove := h.resolve_right (not_not_intro hkey)
    rw [hact, lcyTransition_refused, lcyTaken_nv]
    rw [transitionCode_lcyTaken, ne_eq, transitionCode_eq_zero_iff, hmove]
    rintro ⟨-, -, hfalse, -⟩
    exact absurd hfalse Bool.false_ne_true
  · rw [hd]

/-- With no move under way no command changes the life-cycle state: the end of the fuse writes does (R494). -/
theorem FuseBlow.state_eq {f g : Fuses} (h : FuseBlow f g) (ht : f.target = 0) : g.state = f.state := by
  cases h with
  | finish seed hne => exact absurd ht hne
  | _ => rfl

/-- Settles O9: a permitted move that no other rule refuses is requested, and no other move is. -/
theorem permittedMoves : Obligations.PermittedMoves := by
  unfold Obligations.PermittedMoves
  intro s req w bk fk htarget
  simp only [← movePermitted_iff, Bool.not_eq_true]
  obtain ⟨t, ht, hblow⟩ := exec_blows (.transition req w bk fk) s
  refine ⟨fun hacc hkey hlock hzone hrole htoken hmove => ?requested, t, ht, hblow.state_eq htarget, fun hno => ?refused⟩
  case requested =>
    have hcode : transitionCode (lcyTaken s w) (bits w 4 2) = 0 := by
      rw [transitionCode_lcyTaken, transitionCode_eq_zero_iff]
      exact ⟨hzone, hrole, hmove, htarget, fun h3 => h3 ▸ htoken h3⟩
    refine ⟨t, ht, ?_, hblow.state_eq htarget⟩
    rw [exec_transition_served bk fk hacc hkey hlock] at ht
    cases ht
    rw [lcyTransition_accepted bk fk hcode]
  case refused =>
    cases ht
    exact lcyWrite_transition_nv req bk fk hno

end Sys2Proof.Machine
end

section
/-!
PROOFS. Fuses are blown once (R484, R491 to R495): what one write of the fuses keeps of a fuse map, field by field, and from
these what every step keeps.
-/
namespace Sys2Proof.Machine

theorem bit_eq_testBit (w i : Nat) : bit w i = w.testBit i := by
  rw [bit, Nat.testBit_eq_decide_div_mod_eq]
  rfl

/-- A bit that is set stays set when bits are added. -/
theorem bit_or_left {a : Nat} (b : Nat) {i : Nat} (h : bit a i = true) : bit (a ||| b) i = true := by
  rw [bit_eq_testBit] at h ⊢
  rw [Nat.testBit_or, h, Bool.true_or]

/-! ### The completed move -/

/-- A completed move counts one transition, up to the 16 bits of the count, and takes the state it was for. -/
theorem finishFuses_move (f : Fuses) (seed : Nat) : (finishFuses f seed).state = f.target ∧
    (finishFuses f seed).target = 0 ∧ (finishFuses f seed).trans = min 16 (f.trans + 1) := by
  unfold finishFuses
  dsimp only
  split <;> exact ⟨rfl, rfl, rfl⟩

/-- A completed move revokes and grants nothing, and leaves the serial number alone. -/
theorem finishFuses_marks (f : Fuses) (seed : Nat) : (finishFuses f seed).bootRev = f.bootRev ∧
    (finishFuses f seed).firnRev = f.firnRev ∧ (finishFuses f seed).calve = f.calve ∧
    (finishFuses f seed).calveRev = f.calveRev ∧ (finishFuses f seed).dbg = f.dbg ∧
    (finishFuses f seed).dbgRev = f.dbgRev ∧ (finishFuses f seed).serial = f.serial := by
  unfold finishFuses
  dsimp only
  split <;> exact ⟨rfl, rfl, rfl, rfl, rfl, rfl, rfl⟩

/-- Only the move to PROVISIONED writes keys and the seed. -/
theorem finishFuses_keys {f : Fuses} (seed : Nat) (h : f.target ≠ 1) :
    (finishFuses f seed).bootKeys = f.bootKeys ∧ (finishFuses f seed).firnKeys = f.firnKeys ∧
    (finishFuses f seed).seed = f.seed := by
  unfold finishFuses
  rw [if_neg h]
  exact ⟨rfl, rfl, rfl⟩

/-! ### What a fuse write keeps -/

theorem FuseBlow.trans_le {f g : Fuses} (h : FuseBlow f g) (hf : f.trans ≤ 16) : f.trans ≤ g.trans := by
  cases h with
  | finish seed ht =>
    obtain ⟨-, -, htrans⟩ := finishFuses_move f seed
    omega
  | _ => exact Nat.le_refl _

theorem FuseBlow.inv {f g : Fuses} (h : FuseBlow f g) (hf : FuseInv f) : FuseInv g := by
  obtain ⟨htrans, hmove⟩ := hf
  cases h with
  | request t bk fk ht hp => exact ⟨htrans, .inr hp⟩
  | finish seed ht =>
    obtain ⟨-, htarget, hcount⟩ := finishFuses_move f seed
    exact ⟨by omega, .inl htarget⟩
  | stop => exact ⟨htrans, .inl rfl⟩
  | _ => exact ⟨htrans, hmove⟩

theorem FuseBlow.bootRev_kept {f g : Fuses} (h : FuseBlow f g) {i : Nat} (hi : bit f.bootRev i = true) :
    bit g.bootRev i = true := by
  cases h with
  | revoke b k => exact bit_or_left b hi
  | finish seed ht => rwa [(finishFuses_marks f seed).1]
  | _ => exact hi

theorem FuseBlow.firnRev_kept {f g : Fuses} (h : FuseBlow f g) {i : Nat} (hi : bit f.firnRev i = true) :
    bit g.firnRev i = true := by
  cases h with
  | revoke b k => exact bit_or_left k hi
  | finish seed ht => rwa [(finishFuses_marks f seed).2.1]
  | _ => exact hi

/-- No grant and no revocation of a grant is taken back, and the serial number stays. -/
theorem FuseBlow.marks_kept {f g : Fuses} (h : FuseBlow f g) : (f.calve = true → g.calve = true) ∧
    (f.calveRev = true → g.calveRev = true) ∧ (f.dbg = true → g.dbg = true) ∧ (f.dbgRev = true → g.dbgRev = true) ∧
    g.serial = f.serial := by
  cases h with
  | finish seed ht =>
    obtain ⟨-, -, hcalve, hcalveRev, hdbg, hdbgRev, hserial⟩ := finishFuses_marks f seed
    rw [hcalve, hcalveRev, hdbg, hdbgRev]
    exact ⟨id, id, id, id, hserial⟩
  | grantCalve _ => exact ⟨fun _ => rfl, id, id, id, rfl⟩
  | grantDbg _ => exact ⟨id, id, fun _ => rfl, id, rfl⟩
  | revokeCalve => exact ⟨id, fun _ => rfl, id, id, rfl⟩
  | revokeDbg => exact ⟨id, id, id, fun _ => rfl, rfl⟩
  | _ => exact ⟨id, id, id, id, rfl⟩

/-- The life-cycle state moves only where a permitted move completes (R493). -/
theorem FuseBlow.state_move {f g : Fuses} (h : FuseBlow f g) (hf : FuseInv f) :
    g.state = f.state ∨ movePermitted f.state g.state = true := by
  cases h with
  | finish seed ht =>
    rw [(finishFuses_move f seed).1]
    exact .inr (hf.2.resolve_left ht)
  | _ => exact .inl rfl

/-- No permitted move leads to PROVISIONED but from BLANK. -/
theorem target_ne_one_of_permitted {st t : Nat} (h : movePermitted st t = true) (hst : st ≠ 0) : t ≠ 1 := by
  rw [movePermitted_iff] at h
  omega

/-- Outside BLANK the keys and the seed stay (R484, R495). -/
theorem FuseBlow.keys_kept {f g : Fuses} (h : FuseBlow f g) (hf : FuseInv f) (hst : f.state ≠ 0) :
    g.bootKeys = f.bootKeys ∧ g.firnKeys = f.firnKeys ∧ g.seed = f.seed := by
  cases h with
  | finish seed ht => exact finishFuses_keys seed (target_ne_one_of_permitted (hf.2.resolve_left ht) hst)
  | _ => exact ⟨rfl, rfl, rfl⟩

/-- Settles O58: a step makes at most one write of the fuses, and a write keeps what the statement names. -/
theorem fusesAreBlownOnce : Obligations.FusesAreBlownOnce := by
  unfold Obligations.FusesAreBlownOnce
  intro s t hinv hstep
  have hblow : FuseBlow s.nv.fuse t.nv.fuse := step_fuseBlow hstep
  obtain ⟨hcalve, hcalveRev, hdbg, hdbgRev, hserial⟩ := hblow.marks_kept
  exact ⟨hblow.inv hinv, hblow.rollback_le, hblow.trans_le hinv.1, fun _ => hblow.bootRev_kept,
    fun _ => hblow.firnRev_kept, hcalve, hcalveRev, hdbg, hdbgRev, hserial, hblow.state_move hinv, hblow.keys_kept hinv⟩

end Sys2Proof.Machine
end

section
/-!
PROOFS. The flash and the queue (R517, R518): what every command leaves of both, and from these that a queue drains, one
command a step, and that only the end of a flash command changes the flash.
-/
namespace Sys2Proof.Machine

/-- A command has left the queue and the flash alone. -/
def QueueAndFlashKept (s t : State) : Prop := t.pending = s.pending ∧ t.nv.flash = s.nv.flash

theorem queueAndFlashKept_withDev (s : State) (d : Dev) : QueueAndFlashKept s (s.withDev d) := ⟨rfl, rfl⟩

theorem queueAndFlashKept_rfl (s : State) : QueueAndFlashKept s s := ⟨rfl, rfl⟩

theorem QueueAndFlashKept.trans {s t u : State} (hst : QueueAndFlashKept s t) (htu : QueueAndFlashKept t u) :
    QueueAndFlashKept s u := ⟨htu.1.trans hst.1, htu.2.trans hst.2⟩

theorem queueAndFlashKept_ite {s t u : State} {p : Prop} [Decidable p] (ht : QueueAndFlashKept s t)
    (hu : QueueAndFlashKept s u) : QueueAndFlashKept s (if p then t else u) := by
  split
  · exact ht
  · exact hu

/-! ### The life-cycle commands and resets -/

theorem lcyWrite_kept {s : State} (req : Requester) {w : Nat} (cmd : Nat) {act : State → State}
    (h : QueueAndFlashKept s (act (lcyTaken s w))) : QueueAndFlashKept s (lcyWrite s req w cmd act) := by
  obtain ⟨hact, -⟩ | ⟨d, hd⟩ := lcyWrite_cases s req w cmd act
  · rwa [hact]
  · rw [hd]
    exact queueAndFlashKept_withDev s d

theorem lcyFuse_kept (s : State) (f : Fuses) : QueueAndFlashKept s (lcyFuse s f) := ⟨rfl, rfl⟩

theorem lcyTransition_kept (s : State) (t : Nat) (bk fk : List (Option (Nat × Nat))) :
    QueueAndFlashKept s (lcyTransition s t bk fk) := queueAndFlashKept_ite ⟨rfl, rfl⟩ ⟨rfl, rfl⟩

theorem lcyGrant_kept (s : State) (f : Fuses) : QueueAndFlashKept s (lcyGrant s f) :=
  queueAndFlashKept_ite ⟨rfl, rfl⟩ ⟨rfl, rfl⟩

theorem lcyHostboot_kept (s : State) (at_ : Nat) : QueueAndFlashKept s (lcyHostboot s at_) := by
  unfold lcyHostboot
  dsimp only
  split
  · exact ⟨rfl, rfl⟩
  · split <;> exact ⟨rfl, rfl⟩

/-- The outcome is a next state, with the queue and the flash as they were. -/
def Keeps (s : State) (o : Host.Outcome State Fault Refusal) : Prop := ∃ t, o = .next t ∧ QueueAndFlashKept s t

theorem keeps_next {s t : State} (h : QueueAndFlashKept s t) : Keeps s (.next t) := ⟨t, rfl, h⟩

theorem Keeps.outState {s : State} {o : Host.Outcome State Fault Refusal} (h : Keeps s o) :
    QueueAndFlashKept s (outState o s) := by
  obtain ⟨t, rfl, ht⟩ := h
  exact ht

theorem execTransition_keeps (s : State) (req : Requester) (w : Nat) (bk fk : List (Option (Nat × Nat))) :
    Keeps s (execTransition req w bk fk s) :=
  keeps_next (lcyWrite_kept req 1 (lcyTransition_kept (lcyTaken s w) _ bk fk))

theorem execRollbackAdv_keeps (s : State) (req : Requester) (w : Nat) : Keeps s (execRollbackAdv req w s) :=
  keeps_next (lcyWrite_kept req 2 (lcyFuse_kept (lcyTaken s w) _))

theorem execRevoke_keeps (s : State) (req : Requester) (w : Nat) : Keeps s (execRevoke req w s) :=
  keeps_next (lcyWrite_kept req 3 (lcyFuse_kept (lcyTaken s w) _))

theorem execGrantCalve_keeps (s : State) (req : Requester) (w : Nat) : Keeps s (execGrantCalve req w s) :=
  keeps_next (lcyWrite_kept req 4 (lcyGrant_kept (lcyTaken s w) _))

theorem execGrantDbg_keeps (s : State) (req : Requester) (w : Nat) : Keeps s (execGrantDbg req w s) :=
  keeps_next (lcyWrite_kept req 5 (lcyGrant_kept (lcyTaken s w) _))

theorem execHostboot_keeps (s : State) (req : Requester) (w at_ : Nat) : Keeps s (execHostboot req w at_ s) :=
  keeps_next (lcyWrite_kept req 6 (lcyHostboot_kept (lcyTaken s w) at_))

theorem execRevokeCalve_keeps (s : State) (req : Requester) (w : Nat) : Keeps s (execRevokeCalve req w s) :=
  keeps_next (lcyWrite_kept req 7 (lcyFuse_kept (lcyTaken s w) _))

theorem execRevokeDbg_keeps (s : State) (req : Requester) (w : Nat) : Keeps s (execRevokeDbg req w s) :=
  keeps_next (lcyWrite_kept req 8 (lcyFuse_kept (lcyTaken s w) _))

/-- A write of `LCY_CMD`, whichever command stands in it. -/
theorem lcyCmd_kept (s : State) (req : Requester) (w : Nat) : QueueAndFlashKept s (lcyCmd s req w) := by
  unfold lcyCmd
  split
  · exact (execTransition_keeps s req w [] []).outState
  · exact (execRollbackAdv_keeps s req w).outState
  · exact (execRevoke_keeps s req w).outState
  · exact (execGrantCalve_keeps s req w).outState
  · exact (execGrantDbg_keeps s req w).outState
  · exact (execHostboot_keeps s req w 0).outState
  · exact (execRevokeCalve_keeps s req w).outState
  · exact (execRevokeDbg_keeps s req w).outState
  · exact lcyWrite_kept req 0 (queueAndFlashKept_withDev s _)

theorem startUp_kept (s : State) (cause : Nat) (calve rank : Bool) :
    QueueAndFlashKept s (startUp s cause calve rank) := by
  unfold startUp
  dsimp only
  split
  · exact ⟨rfl, rfl⟩
  split
  · exact ⟨rfl, rfl⟩
  split
  · exact ⟨rfl, rfl⟩
  · exact ⟨rfl, rfl⟩

/-- The end of a move's fuse writes is a reset, or stops the move. -/
theorem execFuseStepDone_keeps (s : State) (ok calve rank : Bool) : Keeps s (execFuseStepDone ok calve rank s) :=
  keeps_next (queueAndFlashKept_ite (queueAndFlashKept_rfl s)
    (queueAndFlashKept_ite (startUp_kept s 3 calve rank) ⟨rfl, rfl⟩))

theorem execLcyReset_keeps (s : State) (req : Requester) (w : Nat) (calve rank : Bool) :
    Keeps s (execLcyReset req w calve rank s) :=
  keeps_next (queueAndFlashKept_ite ⟨rfl, rfl⟩ (queueAndFlashKept_ite (startUp_kept s 2 calve rank) ⟨rfl, rfl⟩))

/-! ### Transactions of the bus and of the triad -/

theorem busWrite_kept (s : State) (req : Requester) (addr w : Nat) : QueueAndFlashKept s (busWrite s req addr w) :=
  queueAndFlashKept_ite (lcyCmd_kept s req w)
    (queueAndFlashKept_ite (execLcyReset_keeps s req w _ _).outState (queueAndFlashKept_withDev s _))

theorem busWord_kept (s : State) (req : Requester) (x : BusOp) (ecc : Nat) :
    QueueAndFlashKept s (busWord s req x ecc) := by
  obtain ⟨w, hw⟩ | ⟨d, hd⟩ := busWord_cases s req x ecc
  · rw [hw]
    exact busWrite_kept s req x.addr w
  · rw [hd]
    exact queueAndFlashKept_withDev s d

theorem busWide_kept (s : State) (req : Requester) (x : BusOp) (ecc : Nat) :
    QueueAndFlashKept s (busWide s req x ecc (fun s y e => busWord s req y e)) := by
  unfold busWide
  extract_lets lo hi
  have hlo := busWord_kept s req lo ecc
  have hboth := hlo.trans (busWord_kept (busWord s req lo ecc) req hi 0)
  exact queueAndFlashKept_ite ⟨rfl, rfl⟩ (queueAndFlashKept_ite hlo (queueAndFlashKept_ite hboth
    (queueAndFlashKept_ite (queueAndFlashKept_ite hboth hboth) hboth)))

theorem busDo_kept (s : State) (req : Requester) (x : BusOp) (ecc : Nat) : QueueAndFlashKept s (busDo s req x ecc) :=
  queueAndFlashKept_ite (busWide_kept s req x ecc) (busWord_kept s req x ecc)

theorem triadTransaction_kept (s : State) (copies : List (Option BusOp)) (voterOk : Bool) (core ecc : Nat) :
    QueueAndFlashKept s (triadTransaction s copies voterOk core ecc) := by
  obtain ⟨d, hd⟩ | ⟨d, req, x, hd⟩ := triadTransaction_cases s copies voterOk core ecc
  · rw [hd]
    exact queueAndFlashKept_withDev s d
  · rw [hd]
    exact busDo_kept (s.withDev d).judgedIn req x ecc

/-! ### The flash -/

theorem recordWrite_kept (s : State) : QueueAndFlashKept s (recordWrite s) := by
  unfold recordWrite
  split <;> exact ⟨rfl, rfl⟩

theorem recordWaiting_kept (s : State) : QueueAndFlashKept s (recordWaiting s) :=
  queueAndFlashKept_ite (recordWrite_kept _) (queueAndFlashKept_rfl s)

/-- Programming keeps the canonical form, byte by byte. -/
theorem Memory.wf_foldl_writeByte (l : List Nat) (at_ : Nat → Nat) (v : Memory → Nat → BitVec 8) (m : Memory)
    (h : Memory.wf m = true) : Memory.wf (l.foldl (fun m i => Memory.writeByte m (at_ i) (v m i)) m) = true := by
  induction l generalizing m with
  | nil => exact h
  | cons i l ih => exact ih _ (Memory.wf_writeByte _ _ _ h)

theorem qspiDone_wf {s : State} (h : Memory.wf s.nv.flash = true) : Memory.wf (qspiDone s).nv.flash = true := by
  unfold qspiDone
  split
  · exact h
  · dsimp only
    split
    · exact h
    · exact Memory.wf_foldl_writeByte _ _ _ _ h
    · exact SMap.wf_filter _ _ _ h

theorem qspiDone_pending (s : State) : (qspiDone s).pending = s.pending := by
  unfold qspiDone
  split
  · rfl
  · dsimp only
    split <;> rfl

/-! ### Every command -/

/-- Every command but the end of a flash command leaves the queue and the flash alone. -/
theorem exec_keeps {c : Instr} (s : State) (h : c ≠ .qspiDone) : Keeps s (exec c s) := by
  cases hc : reachesNv c
  case false =>
    obtain ⟨d, hd⟩ := exec_device s hc
    exact ⟨_, hd, queueAndFlashKept_withDev s d⟩
  cases c
  case qspiDone => exact absurd rfl h
  case transition req w bk fk => exact execTransition_keeps s req w bk fk
  case fuseStepDone ok calve rank => exact execFuseStepDone_keeps s ok calve rank
  case rollbackAdv req w => exact execRollbackAdv_keeps s req w
  case revoke req w => exact execRevoke_keeps s req w
  case grantCalve req w => exact execGrantCalve_keeps s req w
  case grantDbg req w => exact execGrantDbg_keeps s req w
  case hostboot req w at_ => exact execHostboot_keeps s req w at_
  case revokeCalve req w => exact execRevokeCalve_keeps s req w
  case revokeDbg req w => exact execRevokeDbg_keeps s req w
  case powerOnReset calve rank =>
    exact keeps_next (queueAndFlashKept_ite (queueAndFlashKept_rfl s) (startUp_kept s 0 calve rank))
  case rstNReset calve rank =>
    exact keeps_next (queueAndFlashKept_ite (queueAndFlashKept_rfl s) (startUp_kept s 1 calve rank))
  case tjHoldRelease calve rank =>
    exact keeps_next (queueAndFlashKept_ite (startUp_kept s 0 calve rank) (queueAndFlashKept_rfl s))
  case lcyReset req w calve rank => exact execLcyReset_keeps s req w calve rank
  case registerWrite a addr w => exact keeps_next (queueAndFlashKept_ite ⟨rfl, rfl⟩ (busWrite_kept s a.req addr w))
  case morPendClear req i w => exact keeps_next (busWrite_kept s req _ w)
  case blockLock req addr w =>
    exact keeps_next (queueAndFlashKept_ite (busWrite_kept s req addr _) (queueAndFlashKept_rfl s))
  case triadTransaction copies voterOk core ecc => exact keeps_next (triadTransaction_kept s copies voterOk core ecc)
  case confirmationRecordWrite => exact keeps_next (queueAndFlashKept_ite ⟨rfl, rfl⟩ (recordWrite_kept s))
  all_goals nomatch hc

/-- Every command answers a next state and takes no part in the queue. -/
theorem exec_pending (c : Instr) (s : State) : ∃ t, exec c s = .next t ∧ t.pending = s.pending := by
  by_cases hc : c = .qspiDone
  · subst hc
    exact ⟨_, rfl, (recordWaiting_kept _).1.trans (qspiDone_pending s)⟩
  · obtain ⟨t, ht, hkept⟩ := exec_keeps s hc
    exact ⟨t, ht, hkept.1⟩

theorem step_cons {s : State} {c : Instr} {q : List Instr} (h : s.pending = c :: q) :
    step s = exec c { s with pending := q } := by
  rw [step, h]

theorem step_nil {s : State} (h : s.pending = []) : step s = .next s := by
  rw [step, h]

/-- Settles O56. -/
theorem stepOfTheQueue : Obligations.StepOfTheQueue := ⟨fun _ _ _ => step_cons, fun _ => step_nil⟩

/-- Every command keeps the canonical form of the flash. -/
theorem exec_flash_wf {c : Instr} {s t : State} (hwf : Memory.wf s.nv.flash = true) (h : exec c s = .next t) :
    Memory.wf t.nv.flash = true := by
  by_cases hc : c = .qspiDone
  · subst hc
    cases h
    rw [(recordWaiting_kept (qspiDone s)).2]
    exact qspiDone_wf hwf
  · obtain ⟨u, hu, hkept⟩ := exec_keeps s hc
    cases hu.symm.trans h
    rw [hkept.2]
    exact hwf

/-- Settles O59: the command at the front of the queue keeps the flash, or is the end of a flash command. -/
theorem flashKept : Obligations.FlashKept := by
  unfold Obligations.FlashKept
  intro s t hwf hstep
  cases hq : s.pending with
  | nil =>
    cases (step_nil hq).symm.trans hstep
    exact ⟨hwf, fun _ => rfl⟩
  | cons c q =>
    rw [step_cons hq] at hstep
    refine ⟨exec_flash_wf (s := { s with pending := q }) hwf hstep, fun hne => ?_⟩
    obtain ⟨u, hu, hkept⟩ := exec_keeps { s with pending := q } (c := c) fun hc => hne (hc ▸ rfl)
    cases hu.symm.trans hstep
    exact hkept.2

/-! ### The drained queue -/

/-- The state after a step: where a step stops, the state before it. -/
def stepState (s : State) : State := outState (step s) s

theorem step_eq_stepState {s : State} {c : Instr} {q : List Instr} (h : s.pending = c :: q) :
    step s = .next (stepState s) ∧ (stepState s).pending = q := by
  obtain ⟨t, ht, hpending⟩ := exec_pending c { s with pending := q }
  rw [stepState, step_cons h, ht]
  exact ⟨rfl, hpending⟩

/-- The states that the steps run through from a state. -/
def stateAfter (s : State) : Nat → State
  | 0 => s
  | i + 1 => stepState (stateAfter s i)

/-- After `i` steps the first `i` commands of the queue have run. -/
theorem pending_stateAfter (s : State) {i : Nat} (hi : i ≤ s.pending.length) :
    (stateAfter s i).pending = s.pending.drop i := by
  induction i with
  | zero => rfl
  | succ i ih =>
    have hdrop : (stateAfter s i).pending = s.pending[i] :: s.pending.drop (i + 1) := by
      rw [ih (by omega), List.drop_eq_getElem_cons]
    exact (step_eq_stepState hdrop).2

/-- Settles O57: a step takes one command off the queue, and no command puts one there. -/
theorem queueDrains : Obligations.QueueDrains := by
  unfold Obligations.QueueDrains
  refine ⟨fun s c => exec_pending c s, fun s q hq => ⟨stateAfter s, rfl, ?empty, fun i hi => ?stepped⟩⟩
  case empty =>
    subst hq
    rw [pending_stateAfter s (Nat.le_refl _), List.drop_length]
  case stepped =>
    subst hq
    have hpending := pending_stateAfter s (Nat.le_of_lt hi)
    refine ⟨?_, hpending⟩
    rw [List.drop_eq_getElem_cons hi] at hpending
    exact (step_eq_stepState hpending).1

end Sys2Proof.Machine
end

section
/-!
PROOFS. The resets (R473, R475, R534): what the start-up sequence begins with, and from this what each reset source does.
-/
namespace Sys2Proof.Machine

/-! ### Changes of registers and events alone -/

/-- Nothing but registers, events and the counter of free values differs. -/
def RegsAndEventsOf (d e : Dev) : Prop := ∃ r m f, e = { d with regs := r, mor := m, free := f }

theorem RegsAndEventsOf.refl (d : Dev) : RegsAndEventsOf d d := ⟨_, _, _, rfl⟩

theorem RegsAndEventsOf.trans {d e g : Dev} (hde : RegsAndEventsOf d e) (heg : RegsAndEventsOf e g) :
    RegsAndEventsOf d g := by
  obtain ⟨_, _, _, rfl⟩ := hde
  obtain ⟨r, m, f, rfl⟩ := heg
  exact ⟨r, m, f, rfl⟩

theorem RegsAndEventsOf.wr {d e : Dev} (h : RegsAndEventsOf d e) (f : Fld) (v : Nat) : RegsAndEventsOf d (wr e f v) :=
  h.trans ⟨_, _, _, rfl⟩

theorem RegsAndEventsOf.wrB {d e : Dev} (h : RegsAndEventsOf d e) (f : Fld) (b : Bool) : RegsAndEventsOf d (wrB e f b) :=
  h.trans ⟨_, _, _, rfl⟩

theorem RegsAndEventsOf.useFree {d e : Dev} (h : RegsAndEventsOf d e) : RegsAndEventsOf d (useFree e) :=
  h.trans ⟨_, _, _, rfl⟩

theorem RegsAndEventsOf.raise {d e : Dev} (h : RegsAndEventsOf d e) (src ut ui d0 d1 : Nat) :
    RegsAndEventsOf d (raise e src ut ui d0 d1) :=
  h.trans ⟨_, _, _, rfl⟩

/-! ### What the start-up sequence begins with -/

theorem fuseRegs_regs (d : Dev) (f : Fuses) : RegsAndEventsOf d (fuseRegs d f) := ⟨_, _, _, rfl⟩

theorem ringRegs_regs (d : Dev) : RegsAndEventsOf d (ringRegs d) :=
  ((((RegsAndEventsOf.refl d).wr _ _).wr _ _).wr _ _).wr _ _

theorem drawNonce_regs (d : Dev) : RegsAndEventsOf d (drawNonce d) :=
  ((((RegsAndEventsOf.refl d).wr _ _).useFree).wr _ _).useFree

theorem triadConfig_regs (d : Dev) (calve : Bool) : RegsAndEventsOf d (triadConfig d calve) := by
  unfold triadConfig
  dsimp only
  split <;> exact ⟨_, _, _, rfl⟩

theorem triadWake_regs (d : Dev) (calve calved : Bool) : RegsAndEventsOf d (triadWake d calve calved) := ⟨_, _, _, rfl⟩

/-- The registers that a start-up writes before the domains come up. -/
def beginRegs (d : Dev) (f : Fuses) (cause : Nat) (calve rank calved : Bool) : Dev :=
  let d := wr (drawNonce (ringRegs (fuseRegs d f))) Reg.BIST_RESET_CAUSE_CAUSE cause
  wrB (if cause = 4 then triadWake d calve calved else triadConfig d calve) Reg.SCH_STAT_RANK rank

theorem beginRegs_regs (d : Dev) (f : Fuses) (cause : Nat) (calve rank calved : Bool) :
    RegsAndEventsOf d (beginRegs d f cause calve rank calved) := by
  have hregs := (((fuseRegs_regs d f).trans (ringRegs_regs _)).trans (drawNonce_regs _)).wr
    Reg.BIST_RESET_CAUSE_CAUSE cause
  refine RegsAndEventsOf.wrB ?_ _ rank
  split
  · exact hregs.trans (triadWake_regs _ calve calved)
  · exact hregs.trans (triadConfig_regs _ calve)

/-- The start-up sequence begins at step 2, with its cause and the straps as sampled; everything but the start-up's own
state, registers and events stays. -/
theorem beginUp_eq (d : Dev) (f : Fuses) (cause : Nat) (calve rank : Bool) (old : BootSt) :
    ∃ r m n b, beginUp d f cause calve rank old = { d with regs := r, mor := m, free := n, boot := b } ∧
      b.step = 2 ∧ b.cause = cause ∧ b.strapCalve = calve ∧ b.strapRank = rank ∧ b.tjHold = false := by
  obtain ⟨r, m, n, h⟩ := beginRegs_regs d f cause calve rank old.calved
  unfold beginRegs at h
  unfold beginUp
  dsimp only at h ⊢
  rw [h]
  split <;> exact ⟨_, _, _, _, rfl, rfl, rfl, rfl, rfl, rfl⟩

/-- A state in which a start-up of a cause has begun, with the straps as sampled and no tick counted. -/
def State.startsUp (s t : State) (cause : Nat) (calve rank : Bool) : Prop :=
  t.nv = s.nv ∧ t.pending = s.pending ∧ t.d.k = 0 ∧ t.d.bootOk = false ∧ t.d.boot.step = 2 ∧ t.d.boot.cause = cause ∧
    t.d.boot.strapCalve = calve ∧ t.d.boot.strapRank = rank ∧ t.d.boot.tjHold = false ∧ t.d.staged = [] ∧ t.d.led.mem = []

theorem startsUp_beginUp (s : State) {d : Dev} (cause : Nat) (calve rank : Bool) (hk : d.k = 0)
    (hboot : d.bootOk = false) (hstaged : d.staged = []) (hled : d.led.mem = []) :
    s.startsUp (s.withDev (beginUp d s.nv.fuse cause calve rank {})) cause calve rank := by
  obtain ⟨_, _, _, b, hbegin, hstep, hcause, hcalve, hrank, htj⟩ := beginUp_eq d s.nv.fuse cause calve rank {}
  rw [hbegin]
  exact ⟨rfl, rfl, hk, hboot, hstep, hcause, hcalve, hrank, htj, hstaged, hled⟩

/-- With no move interrupted, power-on reset begins the start-up with nothing kept but the world outside. -/
theorem startUp_powerOn {s : State} (calve rank : Bool) (htarget : s.nv.fuse.target = 0) :
    s.startsUp (startUp s 0 calve rank) 0 calve rank := by
  simp only [startUp, htarget, ne_eq, not_true_eq_false, and_false, ↓reduceIte]
  exact startsUp_beginUp s 0 calve rank rfl rfl rfl rfl

/-- So does a reset by another source outside internal scan, with the registers of PD_AON kept. -/
theorem startUp_warm {s : State} {cause : Nat} (calve rank : Bool) (htarget : s.nv.fuse.target = 0)
    (hscan : s.d.boot.scan = false) (hcause : cause ≠ 0) :
    s.startsUp (startUp s cause calve rank) cause calve rank := by
  simp only [startUp, htarget, hscan, hcause, ne_eq, not_true_eq_false, Bool.false_eq_true, false_and, ↓reduceIte]
  exact startsUp_beginUp s cause calve rank rfl rfl rfl rfl

/-- In internal scan no other source than power-on resets the device (R497). -/
theorem startUp_scan {s : State} {cause : Nat} (calve rank : Bool) (hscan : s.d.boot.scan = true) (hcause : cause ≠ 0) :
    startUp s cause calve rank = s := if_pos ⟨hscan, hcause⟩

theorem bits_zero (w n : Nat) : bits w 0 n = w % 2 ^ n := by
  rw [bits, Nat.pow_zero, Nat.div_one]

/-! ### The reset sources -/

theorem exec_powerOnReset {s : State} (calve rank : Bool) (h : s.d.boot.tjHold = false) :
    exec (.powerOnReset calve rank) s = .next (startUp s 0 calve rank) := by
  change execPowerOnReset calve rank s = _
  rw [execPowerOnReset, h]
  rfl

theorem exec_tjHoldRelease {s : State} (calve rank : Bool) (h : s.d.boot.tjHold = true) :
    exec (.tjHoldRelease calve rank) s = .next (startUp s 0 calve rank) := by
  change execTjHoldRelease calve rank s = _
  rw [execTjHoldRelease, h]
  rfl

theorem exec_rstNReset {s : State} (calve rank : Bool) (h : inPor s.d = false) :
    exec (.rstNReset calve rank) s = .next (startUp s 1 calve rank) := by
  change execRstNReset calve rank s = _
  rw [execRstNReset, h]
  rfl

theorem exec_rstNReset_scan {s : State} (calve rank : Bool) (h : s.d.boot.scan = true) :
    exec (.rstNReset calve rank) s = .next s := by
  change execRstNReset calve rank s = _
  rw [execRstNReset, startUp_scan calve rank h Nat.one_ne_zero, ite_self]

theorem exec_lcyReset_served {s : State} {req : Requester} (w : Nat) (calve rank : Bool)
    (h : accessErr s.d req 0x1010801C true = 0) : exec (.lcyReset req w calve rank) s =
      .next (if w % 65536 = 0xD1E5 then startUp s 2 calve rank else s.withDev (okResp s.d)) := by
  change execLcyReset req w calve rank s = _
  simp only [execLcyReset, h, bits_zero, ne_eq, not_true_eq_false, ↓reduceIte, Nat.reducePow]

/-- Settles O1: each reset source takes the branch of `startUp` that begins the sequence anew. -/
theorem resetsBeginTheStartUp : Obligations.ResetsBeginTheStartUp := by
  unfold Obligations.ResetsBeginTheStartUp
  intro s calve rank req w htarget
  obtain ⟨hnv, hpending, hk, hboot, hstep, hcause, hcalve, hrank, htj, hstaged, hled⟩ :=
    startUp_powerOn calve rank htarget
  refine ⟨fun h => ?powerOn, fun h => ?tjHold, fun hpor hscan => ?rstN, fun hscan => ?scan, fun hacc hscan hkey => ?lcy,
    fun hacc hkey => ?noKey, ?supply⟩
  case powerOn =>
    exact ⟨_, exec_powerOnReset calve rank h, hnv, hpending, hk, hboot, hstep, hcause, hcalve, hrank, hstaged, hled⟩
  case tjHold => exact ⟨_, exec_tjHoldRelease calve rank h, hnv, hpending, hk, hstep, hcause, htj⟩
  case rstN =>
    obtain ⟨hnv, hpending, hk, hboot, hstep, hcause, hcalve, hrank, -⟩ :=
      startUp_warm calve rank htarget hscan Nat.one_ne_zero
    exact ⟨_, exec_rstNReset calve rank hpor, hnv, hpending, hk, hboot, hstep, hcause, hcalve, hrank⟩
  case scan => exact exec_rstNReset_scan calve rank hscan
  case lcy =>
    obtain ⟨hnv, hpending, hk, -, hstep, hcause, -⟩ := startUp_warm calve rank htarget hscan (cause := 2) (by decide)
    refine ⟨_, exec_lcyReset_served w calve rank hacc, ?_⟩
    rw [if_pos hkey]
    exact ⟨hnv, hpending, hk, hstep, hcause⟩
  case noKey => rw [exec_lcyReset_served w calve rank hacc, if_neg hkey]
  case supply => exact ⟨_, rfl, rfl, rfl, rfl, rfl, rfl, rfl, rfl, rfl⟩

/-- Settles O60: the state after reset is the state record with every field at its first value. -/
theorem resetState : Obligations.ResetState := by
  unfold Obligations.ResetState
  refine ⟨rfl, ⟨Nat.zero_le _, .inl rfl⟩, ?memories, ?por, rfl, rfl, rfl, rfl⟩
  case memories => decide
  case por => decide

end Sys2Proof.Machine
end

section
/-!
PROOFS. The life-cycle commands (R484, R492, R493) and the words of Névé (R8, R9).
-/
namespace Sys2Proof.Machine

/-! ### The life-cycle commands -/

/-- A command that changes the fuses completes: DONE with code 0 (R493). -/
theorem lcyFuse_done (s : State) (f : Fuses) : rd (lcyFuse s f).d Reg.LCY_STAT_DONE = 1 ∧
    rd (lcyFuse s f).d Reg.LCY_STAT_CODE = 0 := by
  simp only [lcyFuse, lcyDone]
  rw [rd_wrB_same, rd_wrB_ne _ _ _ _ (by decide), rd_wr_same]
  exact ⟨rfl, rfl⟩

theorem lcyFuse_nv (s : State) (f : Fuses) : (lcyFuse s f).nv = { s.nv with fuse := f } := rfl

/-- A refused command shows its code. -/
theorem lcyErr_shown (d : Dev) {code : Nat} (h : code < 256) : rd (lcyErr d code) Reg.LCY_STAT_ERR = 1 ∧
    rd (lcyErr d code) Reg.LCY_STAT_CODE = code := by
  simp only [lcyErr]
  rw [rd_wrB_same, rd_wrB_ne _ _ _ _ (by decide), rd_wr_same]
  exact ⟨rfl, Nat.mod_eq_of_lt h⟩

theorem lcyGrant_provisioned {s : State} (f : Fuses) (h : s.nv.fuse.state = 1) : lcyGrant s f = lcyFuse s f := if_pos h

theorem lcyGrant_elsewhere {s : State} (f : Fuses) (h : s.nv.fuse.state ≠ 1) :
    lcyGrant s f = s.withDev (lcyErr s.d 2) := if_neg h

section
variable {s : State} {req : Requester} {w : Nat} (hacc : accessErr s.d req 0x10108004 true = 0)
  (hkey : bits w 16 16 = 0x7C1F) (hlock : rdB s.d Reg.LCY_LOCK_LOCK = false)
include hacc hkey hlock

/-- With its key, a served write of `LCY_CMD` with the block not locked acts. -/
theorem lcyWrite_acts (cmd : Nat) (act : State → State) : lcyWrite s req w cmd act = act (lcyTaken s w) :=
  lcyWrite_served act hacc hkey (by rw [hlock, Bool.false_and])

theorem exec_rollbackAdv_acts : exec (.rollbackAdv req w) s = .next (lcyFuse (lcyTaken s w)
    { s.nv.fuse with rollback := max s.nv.fuse.rollback (if s.d.bootOk then min 64 s.d.boot.version else 0) }) :=
  congrArg Host.Outcome.next (lcyWrite_acts hacc hkey hlock 2 _)

theorem exec_revoke_acts : exec (.revoke req w) s = .next (lcyFuse (lcyTaken s w)
    { s.nv.fuse with bootRev := s.nv.fuse.bootRev ||| bits w 8 4, firnRev := s.nv.fuse.firnRev ||| bits w 12 4 }) :=
  congrArg Host.Outcome.next (lcyWrite_acts hacc hkey hlock 3 _)

theorem exec_grantCalve_acts : exec (.grantCalve req w) s =
    .next (lcyGrant (lcyTaken s w) { s.nv.fuse with calve := true }) :=
  congrArg Host.Outcome.next (lcyWrite_acts hacc hkey hlock 4 _)

theorem exec_grantDbg_acts : exec (.grantDbg req w) s =
    .next (lcyGrant (lcyTaken s w) { s.nv.fuse with dbg := true }) :=
  congrArg Host.Outcome.next (lcyWrite_acts hacc hkey hlock 5 _)

theorem exec_revokeCalve_acts : exec (.revokeCalve req w) s =
    .next (lcyFuse (lcyTaken s w) { s.nv.fuse with calveRev := true }) :=
  congrArg Host.Outcome.next (lcyWrite_acts hacc hkey hlock 7 _)

theorem exec_revokeDbg_acts : exec (.revokeDbg req w) s =
    .next (lcyFuse (lcyTaken s w) { s.nv.fuse with dbgRev := true }) :=
  congrArg Host.Outcome.next (lcyWrite_acts hacc hkey hlock 8 _)

end

/-- Settles O5: each command acts on the state with its operands taken, and changes the fuses it names. -/
theorem lifeCycleCommands : Obligations.LifeCycleCommands := by
  unfold Obligations.LifeCycleCommands
  intro s req w hacc hkey hlock
  have hdone (f : Fuses) : rd (lcyFuse (lcyTaken s w) f).d Reg.LCY_STAT_DONE = 1 := (lcyFuse_done _ f).1
  refine ⟨?rollback, ?revoke, fun hstate => ⟨?calve, ?dbg⟩, fun hstate => ?refused, ?revokeCalve, ?revokeDbg⟩
  case rollback =>
    exact ⟨_, exec_rollbackAdv_acts hacc hkey hlock, hdone _, (lcyFuse_done _ _).2, rfl⟩
  case revoke => exact ⟨_, exec_revoke_acts hacc hkey hlock, hdone _, rfl⟩
  case calve =>
    refine ⟨_, exec_grantCalve_acts hacc hkey hlock, ?_⟩
    rw [lcyGrant_provisioned (s := lcyTaken s w) _ hstate]
    exact ⟨hdone _, rfl⟩
  case dbg =>
    refine ⟨_, exec_grantDbg_acts hacc hkey hlock, ?_⟩
    rw [lcyGrant_provisioned (s := lcyTaken s w) _ hstate]
    exact ⟨hdone _, rfl⟩
  case refused =>
    refine ⟨_, exec_grantCalve_acts hacc hkey hlock, ?_⟩
    rw [lcyGrant_elsewhere (s := lcyTaken s w) _ hstate]
    exact ⟨rfl, lcyErr_shown _ (by decide)⟩
  case revokeCalve => exact ⟨_, exec_revokeCalve_acts hacc hkey hlock, hdone _, rfl⟩
  case revokeDbg => exact ⟨_, exec_revokeDbg_acts hacc hkey hlock, hdone _, rfl⟩

/-! ### Névé -/

/-- A served write of Névé outside the event ring stores its word. -/
theorem busWrite_neve {s : State} {req : Requester} {addr : Nat} (w : Nat) (hacc : accessErr s.d req addr true = 0)
    (ht : inTest s.d addr = false) (hlo : 0x01080000 ≤ addr) (hhi : addr < 0x01200000) :
    busWrite s req addr w = s.withDev (okResp { s.d with neve := Memory.writeLE s.d.neve (addr - 0x01000000) 4 w }) := by
  have hcmd : addr ≠ 0x10108004 := by omega
  have hrst : addr ≠ 0x1010801C := by omega
  have htcm : ¬ addr < 0x400000 := by omega
  have hneve : 0x01000000 ≤ addr := by omega
  have hring : ¬ addr < 0x01080000 := by omega
  simp only [busWrite, devWrite, hcmd, hrst, htcm, hneve, hhi, hring, hacc, ht, and_false, false_and, and_self, ne_eq,
    not_true_eq_false, Bool.false_eq_true, ↓reduceIte]

/-- A served read of Névé that meets no ECC error gives its word. -/
theorem busRead_neve {d : Dev} {req : Requester} {addr : Nat} (hacc : accessErr d req addr false = 0)
    (ht : inTest d addr = false) (hlo : 0x01000000 ≤ addr) (hhi : addr < 0x01200000) :
    busRead d req addr 0 = okResp d (Memory.readLE d.neve (addr - 0x01000000) 4) := by
  have htcm : ¬ addr < 0x400000 := by omega
  simp only [busRead, eccMet, hacc, ht, htcm, hlo, hhi, and_self, ne_eq, not_true_eq_false, decide_false,
    Bool.or_self, Bool.false_eq_true, ↓reduceIte]

/-- Settles O10: the four bytes of the word are written, and the read finds them. -/
theorem neveWordsReadBack : Obligations.NeveWordsReadBack := by
  unfold Obligations.NeveWordsReadBack
  intro s req addr w hacc ht hlo hhi
  refine ⟨_, exec_registerWrite_word s req addr w, busWrite_neve w hacc ht hlo hhi, ?_⟩
  rw [busWrite_neve w hacc ht hlo hhi]
  have hword := Memory.readLE_writeLE_word s.d.neve (addr - 0x01000000) w
  refine ⟨hword, fun a ha => Memory.read_writeLE_outside _ _ 4 w a ha, _, exec_multiwordRead_word _ req addr,
    fun hread => ?_⟩
  rw [busRead_neve hread ht (by omega) hhi]
  simp only [okResp_neve, hword]

end Sys2Proof.Machine
end

section
/-!
PROOFS. The engines' instructions (R215 to R222, R226): an instruction word as its opcode's effect on the issued device,
the registers and accumulators as they are read after a write, and from these the accumulator instructions.
-/
namespace Sys2Proof.Machine

/-! ### Two's complement -/

theorem two_pow_pos_int (n : Nat) : (0 : Int) < (2 : Int) ^ n := Int.pow_pos (by decide)

theorem toS_bounds (n w : Nat) : -(2 : Int) ^ n ≤ toS (n + 1) w ∧ toS (n + 1) w < (2 : Int) ^ n := by
  have hpow : (2 : Int) ^ (n + 1) = 2 * (2 : Int) ^ n := by rw [Int.pow_succ]; omega
  have hcast : ((2 ^ (n + 1) : Nat) : Int) = (2 : Int) ^ (n + 1) := by push_cast; rfl
  have hlt : w % 2 ^ (n + 1) < 2 ^ (n + 1) := Nat.mod_lt _ (Nat.two_pow_pos _)
  unfold toS
  dsimp only
  split <;> omega

theorem ofS_lt (n : Nat) (x : Int) : ofS n x < 2 ^ n := by
  have h := Int.emod_lt_of_pos x (two_pow_pos_int n)
  have h0 := Int.emod_nonneg x (Int.ne_of_gt (two_pow_pos_int n))
  have hcast : ((2 ^ n : Nat) : Int) = (2 : Int) ^ n := by push_cast; rfl
  unfold ofS
  omega

theorem ofS_mod (n : Nat) (x : Int) : ofS n x % 2 ^ n = ofS n x := Nat.mod_eq_of_lt (ofS_lt n x)

/-- A number within a format is read as it was written. -/
theorem toS_ofS {n : Nat} {x : Int} (hlo : -(2 : Int) ^ n ≤ x) (hhi : x < (2 : Int) ^ n) :
    toS (n + 1) (ofS (n + 1) x) = x := by
  have hpow : (2 : Int) ^ (n + 1) = 2 * (2 : Int) ^ n := by rw [Int.pow_succ]; omega
  have hcast : ((2 ^ (n + 1) : Nat) : Int) = (2 : Int) ^ (n + 1) := by push_cast; rfl
  unfold toS
  dsimp only
  rw [ofS_mod]
  unfold ofS
  rcases Int.lt_or_le x 0 with hneg | hpos
  · have hmod : x % (2 : Int) ^ (n + 1) = x + (2 : Int) ^ (n + 1) := by
      rw [← Int.add_emod_right, Int.emod_eq_of_lt] <;> omega
    rw [hmod]
    split <;> omega
  · have hmod : x % (2 : Int) ^ (n + 1) = x := Int.emod_eq_of_lt hpos (by omega)
    rw [hmod]
    split <;> omega

/-- A number within a format stays in it when it is shifted right. -/
theorem asr_bounds {n : Nat} {x : Int} (k : Nat) (hlo : -(2 : Int) ^ n ≤ x) (hhi : x < (2 : Int) ^ n) :
    -(2 : Int) ^ n ≤ asr x k ∧ asr x k < (2 : Int) ^ n := by
  have hk := two_pow_pos_int k
  have hn := two_pow_pos_int n
  have hgrows : (2 : Int) ^ n ≤ (2 : Int) ^ n * (2 : Int) ^ k := by
    have h := Int.mul_le_mul_of_nonneg_left (show (1 : Int) ≤ (2 : Int) ^ k by omega) (Int.le_of_lt hn)
    rwa [Int.mul_one] at h
  rw [asr, Int.fdiv_eq_ediv_of_nonneg _ (Int.le_of_lt hk)]
  constructor
  · rw [Int.le_ediv_iff_mul_le hk, Int.neg_mul]
    omega
  · rw [Int.ediv_lt_iff_lt_mul hk]
    omega

theorem satS_eq_self {n : Nat} {x : Int} (hlo : -(2 : Int) ^ n ≤ x) (hhi : x < (2 : Int) ^ n) : satS (n + 1) x = x := by
  unfold satS
  dsimp only
  rw [Nat.add_sub_cancel, if_neg (by omega), if_neg (by omega)]

/-- A saturated number lies within its format. -/
theorem satS_bounds (n : Nat) (x : Int) : -(2 : Int) ^ n ≤ satS (n + 1) x ∧ satS (n + 1) x < (2 : Int) ^ n := by
  have hn := two_pow_pos_int n
  unfold satS
  dsimp only
  rw [Nat.add_sub_cancel]
  split
  · omega
  · split <;> omega

/-! ### Instruction words -/

theorem bits_gWith {lo n : Nat} (opc w : Nat) (h : lo + n ≤ 56) : bits (gWith opc w) lo n = bits w lo n := by
  have hsplit : 2 ^ 56 = 2 ^ lo * 2 ^ (56 - lo) := by rw [← Nat.pow_add]; congr 1; omega
  have hsplit' : 2 ^ (56 - lo) = 2 ^ n * 2 ^ (56 - lo - n) := by rw [← Nat.pow_add]; congr 1; omega
  unfold bits gWith
  rw [hsplit, Nat.mul_left_comm, Nat.add_mul_div_left _ _ (Nat.two_pow_pos _), Nat.mod_mul_right_div_self, hsplit',
    Nat.mul_left_comm, Nat.add_mul_mod_self_left, Nat.mod_mul_right_mod]

@[simp] theorem gFields_gWith (opc w : Nat) : gFields (gWith opc w) = gFields w := by
  simp only [gFields, bits_gWith opc w (show 50 + 6 ≤ 56 by decide), bits_gWith opc w (show 44 + 6 ≤ 56 by decide),
    bits_gWith opc w (show 38 + 6 ≤ 56 by decide), bits_gWith opc w (show 32 + 6 ≤ 56 by decide),
    bits_gWith opc w (show 16 + 16 ≤ 56 by decide), bits_gWith opc w (show 0 + 16 ≤ 56 by decide)]

theorem gOpc_gWith {opc : Nat} (w : Nat) (h : opc < 256) : gOpc (gWith opc w) = opc := by
  unfold gOpc bits gWith
  omega

/-! ### Issue -/

/-- What an instruction of a task acts on. -/
def gCtx (d : Dev) (e : Nat) (smp : Bool) (w : Nat) : GCtx :=
  { e := e, smp := smp, f := gFields w, pc := (eng d e).run.pc }

/-- The device as an instruction's operation finds it: its cycles are counted, and the next instruction of a window task
stands. -/
def gIssued (d : Dev) (e : Nat) (smp : Bool) (opc w : Nat) : Dev :=
  let f := gFields w
  let xm := if ((gRow opc).map (·.imm)).getD false then 0 else f.x
  let r := (eng d e).run
  let uses := gUses opc f ++ gMoveUses xm false ++ gMoveUses f.y true
  let at_ := if smp then 0 else uses.foldl (fun t c => max t (SMap.get 0 r.ready c)) r.cyc
  let cost := if gTaken (gCtx d e smp w) d opc then 3 else ((gRow opc).map (·.cyc)).getD 1
  let lat := ((gRow opc).map (·.lat)).getD 0
  let total := if smp then cost else at_ - r.cyc + cost
  let d := gCount d e smp total
  let d := if smp then d else
    let nx := gLoop r.reps r.pc
    setEng d e (fun x => { x with run := { x.run with
      pc := nx.1, reps := nx.2, cyc := r.cyc + total,
      ready := (gMoveDefs xm ++ gMoveDefs f.y).foldl (fun m c => SMap.set 0 m c (at_ + 1))
        ((gDefs opc f).foldl (fun m c => SMap.set 0 m c (at_ + lat)) x.run.ready) } })
  if opc = 0x48 ∨ opc = 0x49 then setEng d e (fun x => { x with run := { x.run with reps := r.reps } }) else d

theorem gMove_none (d0 d : Dev) (e : Nat) (smp y : Bool) {m : Nat} (h : bit m 15 = false) : gMove d0 d e smp y m = d := by
  rw [gMove, h]
  rfl

/-- A word with no move slot is its opcode's operation on the issued device, and the branch that it takes. -/
theorem gExec_gWith {d : Dev} {e : Nat} {smp : Bool} {opc w : Nat} {row : GRow} (hrow : gRow opc = some row)
    (hopc : opc < 256) (hx : row.imm = true ∨ bit (gFields w).x 15 = false) (hy : bit (gFields w).y 15 = false) :
    gExec d e smp (gWith opc w) = gBranch (gCtx d e smp w) (gEff opc (gCtx d e smp w) (gIssued d e smp opc w))
      (gTaken (gCtx d e smp w) d opc) := by
  have hxm : bit (if ((gRow opc).map (·.imm)).getD false then 0 else (gFields w).x) 15 = false := by
    rw [hrow]
    dsimp only [Option.map_some, Option.getD_some]
    rcases hx with himm | hx
    · rw [if_pos himm]
      rfl
    · split
      · rfl
      · exact hx
  have hmoves (d' : Dev) : gMove d (gMove d d' e smp false
      (if ((gRow opc).map (·.imm)).getD false then 0 else (gFields w).x)) e smp true (gFields w).y = d' := by
    rw [gMove_none d d' e smp false hxm, gMove_none d d' e smp true hy]
  unfold gExec
  rw [gOpc_gWith w hopc, gFields_gWith]
  exact hmoves _

/-- A word that is no branch is its opcode's operation. -/
theorem gExec_operation {d : Dev} {e : Nat} {smp : Bool} {opc w : Nat} {row : GRow} (hrow : gRow opc = some row)
    (hopc : opc < 0x40) (hx : row.imm = true ∨ bit (gFields w).x 15 = false) (hy : bit (gFields w).y 15 = false) :
    gExec d e smp (gWith opc w) = gEff opc (gCtx d e smp w) (gIssued d e smp opc w) := by
  have hnot : gTaken (gCtx d e smp w) d opc = false := by
    unfold gTaken
    split
    case h_7 => rfl
    all_goals omega
  rw [gExec_gWith hrow (by omega) hx hy, hnot]
  rfl

/-! ### What an issue leaves alone -/

/-- Nothing but an engine's cycle counts and the course of its run has changed. -/
def EngIssued (d d1 : Dev) (e : Nat) : Prop :=
  (∃ m, d1 = { d with eng := m }) ∧ ∃ pc cyc ready reps f c n,
    eng d1 e = { eng d e with run := { (eng d e).run with pc := pc, cyc := cyc, ready := ready, reps := reps },
                              cycF := f, cycC := c, cycS := n }

theorem EngIssued.refl (d : Dev) (e : Nat) : EngIssued d d e := ⟨⟨_, rfl⟩, _, _, _, _, _, _, _, rfl⟩

theorem EngIssued.setEng {d d1 : Dev} {e : Nat} (h : EngIssued d d1 e) {g : Eng → Eng}
    (hg : ∀ x, ∃ pc cyc ready reps f c n, g x = { x with
      run := { x.run with pc := pc, cyc := cyc, ready := ready, reps := reps }, cycF := f, cycC := c, cycS := n }) :
    EngIssued d (setEng d1 e g) e := by
  obtain ⟨⟨m, rfl⟩, _, _, _, _, _, _, _, heng⟩ := h
  refine ⟨⟨_, rfl⟩, ?_⟩
  rw [eng_setEng_same]
  obtain ⟨_, _, _, _, _, _, _, hx⟩ := hg (eng { d with eng := m } e)
  rw [hx, heng]
  exact ⟨_, _, _, _, _, _, _, rfl⟩

theorem engIssued_gCount (d : Dev) (e : Nat) (smp : Bool) (n : Nat) : EngIssued d (gCount d e smp n) e := by
  refine (EngIssued.refl d e).setEng fun x => ?_
  split
  · exact ⟨_, _, _, _, _, _, _, rfl⟩
  · split <;> exact ⟨_, _, _, _, _, _, _, rfl⟩

theorem engIssued_gIssued (d : Dev) (e : Nat) (smp : Bool) (opc w : Nat) : EngIssued d (gIssued d e smp opc w) e := by
  unfold gIssued
  extract_lets f xm r uses at_ cost lat total d1 nx d2
  have h1 : EngIssued d d1 e := engIssued_gCount d e smp total
  have h2 : EngIssued d d2 e := by
    unfold d2
    split
    · exact h1
    · exact h1.setEng fun x => ⟨_, _, _, _, _, _, _, rfl⟩
  split
  · exact h2.setEng fun x => ⟨_, _, _, _, _, _, _, rfl⟩
  · exact h2

section
variable {d d1 : Dev} {e : Nat} (h : EngIssued d d1 e)
include h

theorem EngIssued.regs : d1.regs = d.regs := by obtain ⟨⟨m, rfl⟩, -⟩ := h; rfl
theorem EngIssued.led : d1.led = d.led := by obtain ⟨⟨m, rfl⟩, -⟩ := h; rfl
theorem EngIssued.mor : d1.mor = d.mor := by obtain ⟨⟨m, rfl⟩, -⟩ := h; rfl
theorem EngIssued.phase : d1.phase = d.phase := by obtain ⟨⟨m, rfl⟩, -⟩ := h; rfl
theorem EngIssued.k : d1.k = d.k := by obtain ⟨⟨m, rfl⟩, -⟩ := h; rfl
theorem EngIssued.x : (eng d1 e).x = (eng d e).x := by obtain ⟨-, _, _, _, _, _, _, _, heng⟩ := h; rw [heng]
theorem EngIssued.y : (eng d1 e).y = (eng d e).y := by obtain ⟨-, _, _, _, _, _, _, _, heng⟩ := h; rw [heng]
theorem EngIssued.jn : (eng d1 e).jn = (eng d e).jn := by obtain ⟨-, _, _, _, _, _, _, _, heng⟩ := h; rw [heng]
theorem EngIssued.cls : (eng d1 e).run.cls = (eng d e).run.cls := by obtain ⟨-, _, _, _, _, _, _, _, heng⟩ := h; rw [heng]

theorem EngIssued.gr (smp : Bool) (c : Nat) : gr d1 e smp c = gr d e smp c := by
  obtain ⟨⟨m, rfl⟩, _, _, _, _, _, _, _, heng⟩ := h
  simp only [Machine.gr, heng]

theorem EngIssued.grS (smp : Bool) (c : Nat) : grS d1 e smp c = grS d e smp c := by
  simp only [Machine.grS, h.gr smp c]

theorem EngIssued.grA (smp : Bool) (c : Nat) : grA d1 e smp c = grA d e smp c := by
  simp only [Machine.grA, h.gr smp c]

theorem EngIssued.gUser (smp : Bool) : gUser d1 e smp = gUser d e smp := by
  simp only [Machine.gUser, h.cls]

theorem EngIssued.gSlot (a : Nat) : gSlot d1 e a = gSlot d e a := by
  simp only [Machine.gSlot, h.y]

end

/-! ### Reading a register after a write -/

/-- The sequencer's and an instruction's write of a register reads back cut to the register's width. -/
theorem gr_gwSeq_same (d : Dev) (e : Nat) (smp : Bool) {c : Nat} (v : Nat) (hc : c < 0x33 ∨ 0x35 < c) :
    gr (gwSeq d e smp c v) e smp c = v % 2 ^ gRegWidth c := by
  unfold gr gwSeq
  rw [if_neg (by omega), if_neg (by omega), if_neg (by omega), eng_setEng_same]
  cases smp
  · simp only [Bool.false_eq_true, ↓reduceIte, SMap.get_set_same]
  · simp only [↓reduceIte, SMap.get_set_same]

theorem gr_gwSeq_ne (d : Dev) (e : Nat) (smp : Bool) {c c' : Nat} (v : Nat) (hne : c' ≠ c) :
    gr (gwSeq d e smp c v) e smp c' = gr d e smp c' := by
  unfold gr gwSeq
  rw [eng_setEng_same]
  cases smp
  · simp only [Bool.false_eq_true, ↓reduceIte, SMap.get_set_ne 0 0 _ _ hne]
    rfl
  · simp only [↓reduceIte, SMap.get_set_ne 0 0 _ _ hne]
    rfl

/-- A register that an instruction may write. -/
def gWritable (c : Nat) : Bool := gRegOk c && !gRegReadOnly c

theorem not_tick_of_gWritable {c : Nat} (h : gWritable c = true) : c < 0x33 ∨ 0x35 < c := by
  refine Decidable.byContradiction fun hc => ?_
  have : c = 0x33 ∨ c = 0x34 ∨ c = 0x35 := by omega
  rcases this with rfl | rfl | rfl <;> exact absurd h (by decide)

theorem gw_writable {c : Nat} (d : Dev) (e : Nat) (smp : Bool) (v : Nat) (h : gWritable c = true) :
    gw d e smp c v = gwSeq d e smp c v := if_pos h

theorem gr_gw_same {c : Nat} (d : Dev) (e : Nat) (smp : Bool) (v : Nat) (h : gWritable c = true) :
    gr (gw d e smp c v) e smp c = v % 2 ^ gRegWidth c := by
  rw [gw_writable d e smp v h, gr_gwSeq_same d e smp v (not_tick_of_gWritable h)]

theorem gr_gw_ne (d : Dev) (e : Nat) (smp : Bool) {c c' : Nat} (v : Nat) (hne : c' ≠ c) :
    gr (gw d e smp c v) e smp c' = gr d e smp c' := by
  unfold gw
  split
  · exact gr_gwSeq_ne d e smp v hne
  · rfl

/-! ### What a write of a register leaves alone -/

/-- On an engine, nothing but registers and its run has changed: of the task's registers none but those listed. -/
def EngKeeps (d t : Dev) (e : Nat) (smp : Bool) (rs : List Nat) : Prop :=
  t.regs = d.regs ∧ t.led = d.led ∧ t.mor = d.mor ∧ (eng t e).x = (eng d e).x ∧ (eng t e).y = (eng d e).y ∧
    ∀ c, c ∉ rs → gr t e smp c = gr d e smp c

theorem EngIssued.keeps {d d1 : Dev} {e : Nat} (h : EngIssued d d1 e) (smp : Bool) : EngKeeps d d1 e smp [] :=
  ⟨h.regs, h.led, h.mor, h.x, h.y, fun c _ => h.gr smp c⟩

theorem EngKeeps.trans {d t u : Dev} {e : Nat} {smp : Bool} {rs rs' : List Nat} (h : EngKeeps d t e smp rs)
    (h' : EngKeeps t u e smp rs') : EngKeeps d u e smp (rs ++ rs') := by
  obtain ⟨hregs, hled, hmor, hx, hy, hgr⟩ := h
  obtain ⟨hregs', hled', hmor', hx', hy', hgr'⟩ := h'
  refine ⟨hregs'.trans hregs, hled'.trans hled, hmor'.trans hmor, hx'.trans hx, hy'.trans hy, fun c hc => ?_⟩
  rw [List.mem_append, not_or] at hc
  exact (hgr' c hc.2).trans (hgr c hc.1)

theorem gwSeq_keeps (d : Dev) (e : Nat) (smp : Bool) (c v : Nat) : EngKeeps d (gwSeq d e smp c v) e smp [c] := by
  refine ⟨rfl, rfl, rfl, ?_, ?_, fun c' hc => gr_gwSeq_ne d e smp v fun h => hc (h ▸ List.mem_singleton_self c')⟩
  · rw [gwSeq, eng_setEng_same]
    split <;> rfl
  · rw [gwSeq, eng_setEng_same]
    split <;> rfl

theorem gw_keeps (d : Dev) (e : Nat) (smp : Bool) (c v : Nat) : EngKeeps d (gw d e smp c v) e smp [c] := by
  unfold gw
  split
  · exact gwSeq_keeps d e smp c v
  · exact ⟨rfl, rfl, rfl, rfl, rfl, fun _ _ => rfl⟩

/-- The statements' words for it. -/
theorem EngKeeps.engKeeps {s : State} {t : Dev} {e : Nat} {smp : Bool} {rs : List Nat} (h : EngKeeps s.d t e smp rs) :
    s.engKeeps (s.withDev t) e smp rs := ⟨rfl, rfl, h⟩

/-- After its issue an instruction writes one register. -/
theorem EngIssued.gw_keeps {d d1 : Dev} {e : Nat} (h : EngIssued d d1 e) (smp : Bool) (c v : Nat) :
    EngKeeps d (gw d1 e smp c v) e smp [c] := (h.keeps smp).trans (Machine.gw_keeps d1 e smp c v)

/-- After its issue an instruction puts a signed value in its destination register. -/
theorem EngIssued.engPut {s : State} {d1 : Dev} {e : Nat} (h : EngIssued s.d d1 e) (smp : Bool) (c : Nat) (x : Int) :
    s.engPut (s.withDev (gwS d1 e smp c x)) e smp c x := by
  refine ⟨(h.gw_keeps smp c _).engKeeps, ?_⟩
  change Machine.gr (gw d1 e smp c (ofS (gRegWidth c) x)) e smp c = _
  split
  · next hw =>
    rw [gr_gw_same d1 e smp _ (by rw [gWritable, hw.1, hw.2]; rfl), ofS_mod]
  · next hw =>
    have hnot : ¬ (gRegOk c && !gRegReadOnly c) = true := by
      rw [Bool.and_eq_true, Bool.not_eq_true']
      exact hw
    rw [gw, if_neg hnot, h.gr smp c]

/-! ### Accumulators -/

/-- The codes of the accumulators. -/
theorem acc_cases {c : Nat} (hlo : 0x10 ≤ c) (hhi : c ≤ 0x13) : c = 0x10 ∨ c = 0x11 ∨ c = 0x12 ∨ c = 0x13 := by omega

theorem gWritable_acc {c : Nat} (hlo : 0x10 ≤ c) (hhi : c ≤ 0x13) : gWritable c = true := by
  rcases acc_cases hlo hhi with rfl | rfl | rfl | rfl <;> decide

theorem gRegWidth_acc {c : Nat} (hlo : 0x10 ≤ c) (hhi : c ≤ 0x13) : gRegWidth c = 80 := by
  rcases acc_cases hlo hhi with rfl | rfl | rfl | rfl <;> rfl

theorem grA_bounds (d : Dev) (e : Nat) (smp : Bool) (c : Nat) : fits80 (grA d e smp c) := toS_bounds 79 _

theorem gSlot_bounds (d : Dev) (e a : Nat) : fits80 (gSlot d e a) := toS_bounds 79 _

/-- An accumulator reads as it was written. -/
theorem grA_gw_same {c : Nat} (d : Dev) (e : Nat) (smp : Bool) {x : Int} (hlo : 0x10 ≤ c) (hhi : c ≤ 0x13)
    (hx : fits80 x) : grA (gw d e smp c (ofS 80 x)) e smp c = x := by
  rw [grA, gr_gw_same d e smp _ (gWritable_acc hlo hhi), gRegWidth_acc hlo hhi, ofS_mod]
  exact toS_ofS hx.1 hx.2

theorem grA_gw_ne (d : Dev) (e : Nat) (smp : Bool) {c c' : Nat} (v : Nat) (hne : c' ≠ c) :
    grA (gw d e smp c v) e smp c' = grA d e smp c' := by
  rw [grA, gr_gw_ne d e smp v hne, grA]

/-- A result within 80 bits is written as it is (R218). -/
theorem gwA_fits (d : Dev) (e : Nat) (smp : Bool) (c : Nat) {x : Int} (hx : fits80 x) :
    gwA d e smp c x = gw d e smp c (ofS 80 x) := by
  rw [gwA, gAcc, if_pos hx]

/-- After its issue an instruction puts a result within 80 bits in an accumulator. -/
theorem EngIssued.engAcc {s : State} {d1 : Dev} {e : Nat} (h : EngIssued s.d d1 e) (smp : Bool) {c : Nat} {x : Int}
    (hlo : 0x10 ≤ c) (hhi : c ≤ 0x13) (hx : fits80 x) : s.engAcc (s.withDev (gwA d1 e smp c x)) e smp c x := by
  rw [gwA_fits d1 e smp c hx]
  exact ⟨(h.gw_keeps smp c _).engKeeps, grA_gw_same d1 e smp hlo hhi hx⟩

end Sys2Proof.Machine
end

section
/-!
PROOFS. The accumulator instructions (R218, R220): the guard overflow, each instruction as one write of a register, of an
accumulator or of a Y slot, and the statement about them.
-/
namespace Sys2Proof.Machine

/-! ### The guard overflow -/

theorem bit_setBit (w i : Nat) (b : Bool) : bit (setBit w i b) i = b := by
  have hpos : 0 < 2 ^ i := Nat.two_pow_pos i
  unfold setBit
  split
  · next h => exact beq_iff_eq.mp h
  · next h =>
    split
    · next hb =>
      have hold : w / 2 ^ i % 2 ≠ 1 := by simpa [bit, hb] using h
      have hnew : (w + 2 ^ i) / 2 ^ i = w / 2 ^ i + 1 := Nat.add_div_right _ hpos
      rw [hb, bit, hnew, beq_iff_eq]
      omega
    · next hb =>
      have hold : w / 2 ^ i % 2 = 1 := by simpa [bit, hb] using h
      have hle : 2 ^ i ≤ w := by
        refine Decidable.byContradiction fun hlt => ?_
        rw [Nat.div_eq_of_lt (by omega)] at hold
        exact absurd hold (by decide)
      have hnew : (w - 2 ^ i) / 2 ^ i = w / 2 ^ i - 1 := by
        simpa using Nat.sub_mul_div_of_le w (2 ^ i) 1 (by simpa using hle)
      rw [bit, hnew, Bool.eq_false_iff.mpr hb, beq_eq_false_iff_ne]
      omega

theorem bit_mod_two_pow (w : Nat) {i n : Nat} (h : i < n) : bit (w % 2 ^ n) i = bit w i := by
  rw [bit_eq_testBit, bit_eq_testBit, Nat.testBit_mod_two_pow]
  simp [h]

/-- An engine's event bit reads set once the event has been marked. -/
theorem rdB_engEv_same (d : Dev) (e : Nat) {f : Nat → Fld} (hwd : 0 < (f e).wd)
    (hkey : (f e).key ≠ Reg.CHAN_ENG_SUM_ENG.key) : rdB (engEv d e f) (f e) = true := by
  rw [engEv, engSum, wrFBit, rdB_wr_ne _ _ _ _ hkey, rdB_wrB_same _ _ _ hwd]

theorem key_accOv_ne_sum {e : Nat} (he : e < 24) : (Reg.CHAN_ENG_STAT_ACC_OV e).key ≠ Reg.CHAN_ENG_SUM_ENG.key := by
  simp only [Fld.key, Reg.CHAN_ENG_STAT_ACC_OV, Reg.CHAN_ENG_SUM_ENG]
  omega

/-- A guard overflow with `WRAP` clear saturates, sets `SR.ACC_OV` and the engine's flag, and raises the event (R218). -/
theorem gAcc_overflow {d : Dev} {e : Nat} (smp : Bool) {x : Int} (he : e < 24) (hx : ¬ fits80 x)
    (hwrap : rdB d (Reg.CHAN_ENG_CTRL_WRAP e) = false) : ∃ d2, gAcc d e smp x = (satS 80 x, d2) ∧ d2.led = d.led ∧
      bit (gr d2 e smp gSR) 2 = true ∧ rdB d2 (Reg.CHAN_ENG_STAT_ACC_OV e) = true ∧
      d2.mor.raised.map (·.src) = d.mor.raised.map (·.src) ++ [Src.ENG_ACC_OV] := by
  have hsr : bit (gr (gSetSr d e smp 2 true) e smp gSR) 2 = true := by
    rw [gSetSr, gr_gwSeq_same d e smp _ (by decide)]
    change bit (_ % 2 ^ 32) 2 = true
    rw [bit_mod_two_pow _ (by decide), bit_setBit]
  have hov : rdB (engEv (gSetSr d e smp 2 true) e Reg.CHAN_ENG_STAT_ACC_OV) (Reg.CHAN_ENG_STAT_ACC_OV e) = true :=
    rdB_engEv_same _ e (f := Reg.CHAN_ENG_STAT_ACC_OV) Nat.one_pos (key_accOv_ne_sum he)
  unfold gAcc
  rw [if_neg hx, hwrap]
  refine ⟨_, rfl, rfl, hsr, ?_, ?_⟩
  · change rdB (wr (wr _ (Reg.CHAN_ENG_OV_CH e) _) (Reg.CHAN_ENG_OV_KERNEL e) _) (Reg.CHAN_ENG_STAT_ACC_OV e) = true
    rw [rdB_wr_ne, rdB_wr_ne, hov]
    · simp only [Fld.key, Reg.CHAN_ENG_STAT_ACC_OV, Reg.CHAN_ENG_OV_CH]
      omega
    · simp only [Fld.key, Reg.CHAN_ENG_STAT_ACC_OV, Reg.CHAN_ENG_OV_KERNEL]
      omega
  · rw [raise_raised, List.map_append]
    rfl

/-! ### The instructions -/

/-- A command that issues a word of an opcode below the branches has the effect of the opcode. -/
theorem exec_of_gEff {i : Instr} {s : State} {e opc w : Nat} {smp : Bool} {row : GRow} {d2 : Dev}
    (hi : exec i s = .next (s.withDev (gExec s.d e smp (gWith opc w)))) (hrow : gRow opc = some row) (hopc : opc < 0x40)
    (hx : row.imm = true ∨ bit (gFields w).x 15 = false) (hy : bit (gFields w).y 15 = false)
    (heff : gEff opc (gCtx s.d e smp w) (gIssued s.d e smp opc w) = d2) : exec i s = .next (s.withDev d2) := by
  rw [hi, gExec_operation hrow hopc hx hy, heff]

/-- An extraction within the format does not saturate (R218). -/
theorem gExt_fits (d : Dev) (e : Nat) (smp : Bool) {n : Nat} {x : Int} (hlo : -(2 : Int) ^ n ≤ x) (hhi : x < (2 : Int) ^ n) :
    gExt d e smp (n + 1) x = (x, d) := if_pos (satS_eq_self hlo hhi)

section
variable {d d1 : Dev} {e : Nat} (h : EngIssued d d1 e) (smp : Bool) (w : Nat)
include h

theorem gMpy_issued : gMpy (gCtx d e smp w) d1 =
    gwA d1 e smp (gFields w).a (grS d e smp (gFields w).b * grS d e smp (gFields w).c) := by
  simp only [gMpy, GCtx.b, GCtx.c, gCtx, h.grS]

theorem gMac_issued : gMac (gCtx d e smp w) d1 = gwA d1 e smp (gFields w).a
    (grA d e smp (gFields w).a + grS d e smp (gFields w).b * grS d e smp (gFields w).c) := by
  simp only [gMac, GCtx.b, GCtx.c, gCtx, h.grS, h.grA]

theorem gMsu_issued : gMsu (gCtx d e smp w) d1 = gwA d1 e smp (gFields w).a
    (grA d e smp (gFields w).a - grS d e smp (gFields w).b * grS d e smp (gFields w).c) := by
  simp only [gMsu, GCtx.b, GCtx.c, gCtx, h.grS, h.grA]

theorem gMac2_issued : gMac2 (gCtx d e smp w) d1 =
    gwA (gwA d1 e smp (gFields w).a (grA d e smp (gFields w).a + grS d e smp (gFields w).b * grS d e smp (gFields w).c))
      e smp ((gFields w).a + 1) (grA d e smp ((gFields w).a + 1) +
        grS d e smp ((gFields w).b + 1) * grS d e smp ((gFields w).c + 1)) := by
  simp only [gMac2, GCtx.b, GCtx.c, gCtx, h.grS, h.grA]

theorem gAdda_issued : gAdda (gCtx d e smp w) d1 =
    gwA d1 e smp (gFields w).a (grA d e smp (gFields w).a + grA d e smp (gFields w).b) := by
  simp only [gAdda, gCtx, h.grA]

theorem gSha_issued : gSha (gCtx d e smp w) d1 = gwA d1 e smp (gFields w).a
    (if 0 ≤ grS d e smp (gFields w).b then grA d e smp (gFields w).a * (2 : Int) ^ (min (grS d e smp (gFields w).b).toNat 200)
     else asr (grA d e smp (gFields w).a) (min (-grS d e smp (gFields w).b).toNat 200)) := by
  simp only [gSha, GCtx.b, gCtx, h.grS, h.grA]

theorem gRnd_issued (hlo : 1 ≤ grS d e smp (gFields w).c) (hhi : grS d e smp (gFields w).c ≤ 63)
    (hfit : fits32 (asr (grA d e smp (gFields w).b + (2 : Int) ^ ((grS d e smp (gFields w).c).toNat - 1))
      (grS d e smp (gFields w).c).toNat)) :
    gRnd (gCtx d e smp w) d1 = gwS d1 e smp (gFields w).a
      (asr (grA d e smp (gFields w).b + (2 : Int) ^ ((grS d e smp (gFields w).c).toNat - 1))
        (grS d e smp (gFields w).c).toNat) := by
  simp only [gRnd, GCtx.c, GCtx.put, gCtx, h.grS, h.grA, gExt_fits d1 e smp hfit.1 hfit.2, hlo, hhi, and_self, ↓reduceIte]

/-- The sample task and the ROM kernels reach all of Y. -/
theorem gYOk_issued (hu : gUser d e smp = false) (a n : Nat) : gYOk d1 e smp a n = true := by
  rw [gYOk, h.gUser, hu]
  rfl

theorem gLda_issued (hu : gUser d e smp = false) : gLda (gCtx d e smp w) d1 =
    gwA d1 e smp (gFields w).a (gSlot d e (gr d e smp (gFields w).b)) := by
  simp only [gLda, gCtx, h.gr, gYOk_issued h smp hu, h.gSlot, ↓reduceIte]

theorem gSta_issued (hu : gUser d e smp = false) : gSta (gCtx d e smp w) d1 =
    gSlotW d1 e (gr d e smp (gFields w).a) (grA d e smp (gFields w).b) := by
  simp only [gSta, gCtx, h.gr, gYOk_issued h smp hu, h.grA, ↓reduceIte]

end

/-- A Y slot that is written leaves every register alone. -/
theorem gr_gSlotW (d : Dev) (e a : Nat) (v : Int) (smp : Bool) (c : Nat) : gr (gSlotW d e a v) e smp c = gr d e smp c := by
  simp only [gr, gSlotW, eng_setEng_same]
  rfl

/-- After its issue a pair of results within 80 bits is put in two accumulators. -/
theorem EngIssued.engAcc_pair {s : State} {d1 : Dev} {e : Nat} (h : EngIssued s.d d1 e) (smp : Bool) {c : Nat} {x y : Int}
    (hlo : 0x10 ≤ c) (hhi : c + 1 ≤ 0x13) (hx : fits80 x) (hy : fits80 y) :
    s.engKeeps (s.withDev (gwA (gwA d1 e smp c x) e smp (c + 1) y)) e smp [c, c + 1] ∧
      Machine.grA (gwA (gwA d1 e smp c x) e smp (c + 1) y) e smp c = x ∧
      Machine.grA (gwA (gwA d1 e smp c x) e smp (c + 1) y) e smp (c + 1) = y := by
  rw [gwA_fits d1 e smp c hx, gwA_fits _ e smp (c + 1) hy]
  refine ⟨((h.gw_keeps smp c _).trans (Machine.gw_keeps _ e smp (c + 1) _)).engKeeps, ?_, ?_⟩
  · rw [grA_gw_ne _ e smp _ (Nat.ne_of_lt (Nat.lt_succ_self c)), grA_gw_same d1 e smp hlo (by omega) hx]
  · exact grA_gw_same _ e smp (by omega) hhi hy

/-- The accumulator that overflows is written with the saturated value, and the overflow shows (R218). -/
theorem gwA_overflow {d : Dev} {e : Nat} (smp : Bool) {c : Nat} {x : Int} (he : e < 24) (hlo : 0x10 ≤ c) (hhi : c ≤ 0x13)
    (hx : ¬ fits80 x) (hwrap : rdB d (Reg.CHAN_ENG_CTRL_WRAP e) = false) :
    ∃ d2, gwA d e smp c x = d2 ∧ d2.led = d.led ∧ grA d2 e smp c = satS 80 x ∧ bit (gr d2 e smp gSR) 2 = true ∧
      rdB d2 (Reg.CHAN_ENG_STAT_ACC_OV e) = true ∧
      d2.mor.raised.map (·.src) = d.mor.raised.map (·.src) ++ [Src.ENG_ACC_OV] := by
  obtain ⟨d2, hacc, hled, hsr, hov, hraised⟩ := gAcc_overflow smp he hx hwrap
  obtain ⟨hregs, hled', hmor, -, -, hgr⟩ := Machine.gw_keeps d2 e smp c (ofS 80 (satS 80 x))
  refine ⟨gw d2 e smp c (ofS 80 (satS 80 x)), ?_, hled'.trans hled, ?_, ?_, ?_, ?_⟩
  · rw [gwA, hacc]
  · exact grA_gw_same d2 e smp hlo hhi (satS_bounds 79 x)
  · rw [hgr gSR fun hmem => by simp only [List.mem_singleton, gSR] at hmem; omega]
    exact hsr
  · rw [rdB, rd, hregs]
    exact hov
  · rw [hmor]
    exact hraised

/-- Settles O34: each instruction is one operation on the issued device, whose operands are those before it. -/
theorem engineAccumulatorOps : Obligations.EngineAccumulatorOps := by
  unfold Obligations.EngineAccumulatorOps
  intro s e smp w he
  have h (opc : Nat) : EngIssued s.d (gIssued s.d e smp opc w) e := engIssued_gIssued s.d e smp opc w
  refine ⟨fun hlo hhi => ⟨fun hp hfit => ?mpy, fun hp hfit => ?mac, fun hp hfit => ?msu, fun hp hwrap hover => ?overflow,
    fun hp ha hfit hfit' => ?mac2, fun hp => ?clra, fun hp hfit => ?adda, fun hp hn hn' hfit => ?shl,
    fun hp hn hn' => ?shr, fun hp hu => ?lda⟩, fun hp hn hn' hfit => ?rnd, fun hp hu => ?sta⟩
  case mpy =>
    exact ⟨_, exec_of_gEff (opc := 0x20) rfl rfl (by decide) (.inr hp.1) hp.2 (gMpy_issued (h 0x20) smp w),
      (h 0x20).engAcc smp hlo hhi hfit⟩
  case mac =>
    exact ⟨_, exec_of_gEff (opc := 0x21) rfl rfl (by decide) (.inr hp.1) hp.2 (gMac_issued (h 0x21) smp w),
      (h 0x21).engAcc smp hlo hhi hfit⟩
  case msu =>
    exact ⟨_, exec_of_gEff (opc := 0x22) rfl rfl (by decide) (.inr hp.1) hp.2 (gMsu_issued (h 0x22) smp w),
      (h 0x22).engAcc smp hlo hhi hfit⟩
  case overflow =>
    have hwrap' : rdB (gIssued s.d e smp 0x21 w) (Reg.CHAN_ENG_CTRL_WRAP e) = false := by
      rw [rdB, rd, (h 0x21).regs]
      exact hwrap
    obtain ⟨d2, hd2, hled, hacc, hsr, hov, hraised⟩ := gwA_overflow smp he hlo hhi hover hwrap'
    refine ⟨s.withDev d2, exec_of_gEff (opc := 0x21) rfl rfl (by decide) (.inr hp.1) hp.2
      ((gMac_issued (h 0x21) smp w).trans hd2), rfl, hled.trans (h 0x21).led, hacc, hsr, hov, ?_⟩
    rw [hraised, (h 0x21).mor]
  case mac2 =>
    exact ⟨_, exec_of_gEff (opc := 0x23) rfl rfl (by decide) (.inr hp.1) hp.2 (gMac2_issued (h 0x23) smp w),
      (h 0x23).engAcc_pair smp hlo (by omega) hfit hfit'⟩
  case clra =>
    exact ⟨_, exec_of_gEff (opc := 0x28) rfl rfl (by decide) (.inr hp.1) hp.2 rfl,
      (h 0x28).engAcc smp hlo hhi (by decide)⟩
  case adda =>
    exact ⟨_, exec_of_gEff (opc := 0x29) rfl rfl (by decide) (.inr hp.1) hp.2 (gAdda_issued (h 0x29) smp w),
      (h 0x29).engAcc smp hlo hhi hfit⟩
  case shl =>
    refine ⟨_, exec_of_gEff (opc := 0x2A) rfl rfl (by decide) (.inr hp.1) hp.2 (gSha_issued (h 0x2A) smp w), ?_⟩
    rw [if_pos hn, Nat.min_eq_left (by omega)]
    exact (h 0x2A).engAcc smp hlo hhi hfit
  case shr =>
    refine ⟨_, exec_of_gEff (opc := 0x2A) rfl rfl (by decide) (.inr hp.1) hp.2 (gSha_issued (h 0x2A) smp w), ?_⟩
    rw [if_neg (by omega), Nat.min_eq_left (by omega)]
    obtain ⟨hmin, hmax⟩ := grA_bounds s.d e smp (gFields w).a
    exact (h 0x2A).engAcc smp hlo hhi (asr_bounds _ hmin hmax)
  case lda =>
    exact ⟨_, exec_of_gEff (opc := 0x2C) rfl rfl (by decide) (.inr hp.1) hp.2 (gLda_issued (h 0x2C) smp w hu),
      (h 0x2C).engAcc smp hlo hhi (gSlot_bounds s.d e _)⟩
  case rnd =>
    exact ⟨_, exec_of_gEff (opc := 0x2B) rfl rfl (by decide) (.inr hp.1) hp.2 (gRnd_issued (h 0x2B) smp w hn hn' hfit),
      (h 0x2B).engPut smp _ _⟩
  case sta =>
    refine ⟨_, exec_of_gEff (opc := 0x2D) rfl rfl (by decide) (.inr hp.1) hp.2 (gSta_issued (h 0x2D) smp w hu), rfl,
      (h 0x2D).regs, (h 0x2D).led, ?_, fun r => (gr_gSlotW _ e _ _ smp r).trans ((h 0x2D).gr smp r), ?_⟩
    · rw [gSlotW, eng_setEng_same, ← (h 0x2D).x]
    · rw [gSlotW, eng_setEng_same, ← (h 0x2D).y]

end Sys2Proof.Machine
end

section
/-!
PROOFS. The ledger as bytes (R124, R133), the undo journal (R227), a suppressed access (R226), and the HOT instructions of
the engines.
-/
namespace Sys2Proof.Machine

/-! ### The ledger as bytes -/

theorem ledByte_ledPut_same (d : Dev) (a : Nat) (b : BitVec 8) : ledByte (ledPut d a b) a = b := by
  rw [ledByte, ledPut]
  dsimp only
  rw [Memory.read_write_same, BitVec.xor_assoc, BitVec.xor_self, BitVec.xor_zero]

theorem ledByte_ledPut_ne (d : Dev) {a a' : Nat} (b : BitVec 8) (h : a' ≠ a) : ledByte (ledPut d a b) a' = ledByte d a' := by
  rw [ledByte, ledPut]
  dsimp only
  rw [Memory.read_write_ne _ _ h, ledByte]

theorem ledByte_ledWr_outside (d : Dev) (a n v : Nat) {x : Nat} (h : x < a ∨ a + n ≤ x) :
    ledByte (ledWr d a n v) x = ledByte d x := by
  induction n generalizing d a v with
  | zero => rfl
  | succ n ih =>
    rw [ledWr, ih _ _ _ (by omega), ledByte_ledPut_ne _ _ (by omega)]

/-- A number in the ledger reads as it was written, cut to its bytes. -/
theorem ledRd_ledWr_same (d : Dev) (a n v : Nat) : ledRd (ledWr d a n v) a n = v % 256 ^ n := by
  induction n generalizing d a v with
  | zero => rw [ledRd, Nat.pow_zero, Nat.mod_one]
  | succ n ih =>
    have hlow : ledByte (ledWr d a (n + 1) v) a = BitVec.ofNat 8 v := by
      rw [ledWr, ledByte_ledWr_outside _ _ _ _ (by omega), ledByte_ledPut_same]
    rw [ledRd, hlow, ledWr, ih, BitVec.toNat_ofNat]
    rw [show 256 ^ (n + 1) = 256 * 256 ^ n from Nat.pow_succ', Nat.mod_mul]

theorem ledRd_lt (d : Dev) (a n : Nat) : ledRd d a n < 256 ^ n := by
  induction n generalizing a with
  | zero => exact Nat.one_pos
  | succ n ih =>
    have hbyte : (ledByte d a).toNat < 256 := (ledByte d a).isLt
    have := ih (a + 1)
    rw [ledRd, show 256 ^ (n + 1) = 256 * 256 ^ n from Nat.pow_succ']
    omega

/-- A read of the ledger finds the ledger alone. -/
theorem ledRd_congr {d d1 : Dev} (h : d1.led = d.led) (a n : Nat) : ledRd d1 a n = ledRd d a n := by
  induction n generalizing a with
  | zero => rfl
  | succ n ih => rw [ledRd, ih, ledRd, ledByte, ledByte, h]

/-- A write of the ledger changes the ledger alone. -/
theorem ledWr_eq (d : Dev) (a n v : Nat) : ledWr d a n v = { d with led := (ledWr d a n v).led } := by
  induction n generalizing d a v with
  | zero => rfl
  | succ n ih =>
    rw [ledWr, ih]
    rfl

theorem ledWr_led_congr {d d1 : Dev} (h : d1.led = d.led) (a n v : Nat) : (ledWr d1 a n v).led = (ledWr d a n v).led := by
  induction n generalizing d d1 a v with
  | zero => exact h
  | succ n ih =>
    rw [ledWr, ledWr]
    refine ih ?_ _ _
    simp only [ledPut, h]

theorem hot_congr {d d1 : Dev} (h : d1.led = d.led) (c off n : Nat) : hot d1 c off n = hot d c off n := ledRd_congr h _ n

theorem hotW_led_congr {d d1 : Dev} (h : d1.led = d.led) (c off n v : Nat) :
    (hotW d1 c off n v).led = (hotW d c off n v).led := ledWr_led_congr h _ n v

theorem hotW_eq (d : Dev) (c off n v : Nat) : hotW d c off n v = { d with led := (hotW d c off n v).led } := ledWr_eq d _ n v

theorem hot_hotW_same (d : Dev) (c off n v : Nat) : hot (hotW d c off n v) c off n = v % 256 ^ n := ledRd_ledWr_same d _ n v

theorem hot_word_lt (d : Dev) (c off : Nat) : hot d c off 4 < 2 ^ 32 := ledRd_lt d _ 4

@[simp] theorem hotW_regs (d : Dev) (c off n v : Nat) : (hotW d c off n v).regs = d.regs := by rw [hotW_eq]
@[simp] theorem eng_hotW (d : Dev) (c off n v e : Nat) : eng (hotW d c off n v) e = eng d e := by rw [hotW_eq]; rfl
@[simp] theorem gr_hotW (d : Dev) (c off n v e : Nat) (smp : Bool) (r : Nat) :
    gr (hotW d c off n v) e smp r = gr d e smp r := by rw [hotW_eq]; rfl

/-! ### The undo journal -/

theorem readByte_wrWrap_outside (m : Memory) (a n v : Nat) {x : Nat} (ha : a + n ≤ 65536) (hx : x < a ∨ a + n ≤ x) :
    Memory.readByte (wrWrap m a n v) x = Memory.readByte m x := by
  induction n generalizing m a v with
  | zero => rfl
  | succ n ih =>
    rw [wrWrap, ih _ _ _ (by omega) (by omega), Nat.mod_eq_of_lt (by omega), Memory.read_write_ne _ _ (by omega)]

/-- A number reads as it was written to a memory of 64 KiB, where it does not wrap. -/
theorem rdWrap_wrWrap_same (m : Memory) (a n v : Nat) (ha : a + n ≤ 65536) :
    rdWrap (wrWrap m a n v) a n = v % 256 ^ n := by
  induction n generalizing m a v with
  | zero => rw [rdWrap, Nat.pow_zero, Nat.mod_one]
  | succ n ih =>
    have hlow : Memory.readByte (wrWrap m a (n + 1) v) a = BitVec.ofNat 8 v := by
      rw [wrWrap, readByte_wrWrap_outside _ _ _ _ (by omega) (by omega), Nat.mod_eq_of_lt (by omega),
        Memory.read_write_same]
    rw [rdWrap, Nat.mod_eq_of_lt (show a < 65536 by omega), hlow, wrWrap, ih _ _ _ (by omega), BitVec.toNat_ofNat]
    rw [show 256 ^ (n + 1) = 256 * 256 ^ n from Nat.pow_succ', Nat.mod_mul]

/-- The undo entry of a journaled word: its channel, its offset and its old value. -/
theorem undoEntry_gJournal (d : Dev) {e c off old : Nat} (hc : c < 4096) (hlo : 0x40 ≤ off) (hhi : off < 0x1F0)
    (ha : off % 4 = 0) (hold : old < 2 ^ 32) (hn : (eng d e).jn < 4096) :
    undoEntry (gJournal d e c off old) e (eng d e).jn = (c, off, old) := by
  have hentry : rdWrap (eng (gJournal d e c off old) e).x (0x4000 + 8 * (eng d e).jn) 8 =
      old % 2 ^ 32 + 2 ^ 32 * ((off - 0x40) / 4) + 2 ^ 39 * c := by
    rw [gJournal, eng_setEng_same]
    dsimp only
    rw [rdWrap_wrWrap_same _ _ _ _ (by omega)]
    omega
  rw [undoEntry, hentry]
  refine Prod.ext ?_ (Prod.ext ?_ ?_)
  · change bits _ 39 12 = c
    rw [bits]
    omega
  · change 0x40 + 4 * bits _ 32 7 = off
    rw [bits]
    omega
  · change bits _ 0 32 = old
    rw [bits]
    omega

/-! ### A suppressed access -/

theorem markIncCh_eq (d : Dev) (c e why : Nat) : ∃ i, markIncCh d c e why = { d with inc := i } := by
  unfold markIncCh
  split
  · unfold markInc
    split
    · exact ⟨_, rfl⟩
    · exact ⟨_, rfl⟩
  · exact ⟨_, rfl⟩

theorem key_memViol_ne {e : Nat} (he : e < 24) : (Reg.CHAN_ENG_STAT_MEM_VIOL e).key ≠ Reg.CHAN_ENG_SUM_ENG.key ∧
    (Reg.CHAN_ENG_STAT_MEM_VIOL e).key ≠ (Reg.CHAN_ENG_VIOL_ADDR e).key ∧
    (Reg.CHAN_ENG_STAT_MEM_VIOL e).key ≠ (Reg.CHAN_ENG_VIOL_SPACE e).key ∧
    (Reg.CHAN_ENG_STAT_MEM_VIOL e).key ≠ (Reg.CHAN_ENG_VIOL_CH e).key := by
  simp only [Fld.key, Reg.CHAN_ENG_STAT_MEM_VIOL, Reg.CHAN_ENG_SUM_ENG, Reg.CHAN_ENG_VIOL_ADDR, Reg.CHAN_ENG_VIOL_SPACE,
    Reg.CHAN_ENG_VIOL_CH]
  omega

/-- A suppressed access changes no ledger, stops the run and is reported (R226). -/
theorem gViol_reported (d : Dev) {e : Nat} (addr space : Nat) (he : e < 24) :
    (gViol d e addr space).led = d.led ∧ (eng (gViol d e addr space) e).run.live = false ∧
      rdB (gViol d e addr space) (Reg.CHAN_ENG_STAT_MEM_VIOL e) = true ∧
      (gViol d e addr space).mor.raised.map (·.src) = d.mor.raised.map (·.src) ++ [Src.ENG_MEM_VIOL] := by
  obtain ⟨hsum, haddr, hspace, hch⟩ := key_memViol_ne he
  have hflag := rdB_engEv_same d e (f := Reg.CHAN_ENG_STAT_MEM_VIOL) Nat.one_pos hsum
  unfold gViol
  extract_lets ch d1 d2 d3 d4 d5
  obtain ⟨i, hi⟩ := markIncCh_eq (gStop d5 e) ch e 2
  rw [hi]
  refine ⟨rfl, ?_, ?_, ?_⟩
  · change (eng (gStop d5 e) e).run.live = false
    rw [gStop, eng_setEng_same]
  · change rdB d4 (Reg.CHAN_ENG_STAT_MEM_VIOL e) = true
    rw [rdB_wr_ne d3 _ _ _ hch, rdB_wr_ne d2 _ _ _ hspace, rdB_wr_ne d1 _ _ _ haddr]
    exact hflag
  · change d5.mor.raised.map (·.src) = _
    rw [raise_raised, List.map_append]
    rfl

/-! ### The HOT instructions -/

section
variable {d d1 : Dev} {e : Nat} (h : EngIssued d d1 e) (smp : Bool) (w : Nat)
include h

theorem gHotOff_issued (imm sz : Nat) : gHotOff d1 e smp imm sz = gHotOff d e smp imm sz := by
  simp only [gHotOff, h.gr]

theorem gHotOk_issued (off n : Nat) : gHotOk d1 e smp off n = gHotOk d e smp off n := by
  simp only [gHotOk, h.gUser, h.cls]

theorem inControl_issued : inControl d1 = inControl d := by
  simp only [inControl, h.phase]

theorem gLdh_issued : gLdh (gCtx d e smp w) d1 = gwS d1 e smp (gFields w).a
    (toS 32 (hot d (gr d e smp gCH) (gHotOff d e smp (gFields w).x 4) 4)) := by
  simp only [gLdh, GCtx.put, GCtx.ch, gCtx, h.gr, gHotOff_issued h, hot_congr h.led]

theorem gLdhq_issued : gLdhq (gCtx d e smp w) d1 =
    gw (gw d1 e smp (gFields w).a (hot d (gr d e smp gCH) (gHotOff d e smp (gFields w).x 8) 4)) e smp ((gFields w).a + 1)
      (hot d (gr d e smp gCH) (gHotOff d e smp (gFields w).x 8 + 4) 4) := by
  simp only [gLdhq, GCtx.ch, gCtx, h.gr, gHotOff_issued h, hot_congr h.led]

theorem gLdha_issued : gLdha (gCtx d e smp w) d1 = gwA d1 e smp (gFields w).a
    (hotS d (gr d e smp gCH) (gHotOff d e smp (gFields w).x 8) 8) := by
  simp only [gLdha, GCtx.ch, gCtx, h.gr, gHotOff_issued h, hotS, hot_congr h.led]

/-- Outside the CONTROL window a write is not journaled (R227). -/
theorem gHotWrite_outside {d2 : Dev} (hp : d2.phase = d1.phase) (hc : inControl d = false) (c off n v : Nat) :
    gHotWrite d2 e c off n v = hotW d2 c off (4 * n) v := by
  have hc2 : inControl d2 = false := by
    rw [inControl, hp]
    exact (inControl_issued h).trans hc
  rw [gHotWrite, hc2]
  exact if_neg fun hcon => absurd hcon.1 (by decide)

theorem gSth_issued (hok : gHotOk d e smp (gHotOff d e smp (gFields w).x 4) 4 = true) : gSth (gCtx d e smp w) d1 =
    gHotWrite d1 e (gr d e smp gCH) (gHotOff d e smp (gFields w).x 4) 1 (ofS 32 (grS d e smp (gFields w).a)) := by
  simp only [gSth, GCtx.ch, GCtx.a, gCtx, h.gr, h.grS, gHotOff_issued h, gHotOk_issued h, hok, ↓reduceIte]

theorem gSth_suppressed (hok : gHotOk d e smp (gHotOff d e smp (gFields w).x 4) 4 = false) : gSth (gCtx d e smp w) d1 =
    gViol d1 e (gHotOff d e smp (gFields w).x 4) 2 := by
  simp only [gSth, gCtx, gHotOff_issued h, gHotOk_issued h, hok, Bool.false_eq_true, ↓reduceIte]

theorem gSthq_issued (hok : gHotOk d e smp (gHotOff d e smp (gFields w).x 8) 8 = true) : gSthq (gCtx d e smp w) d1 =
    gHotWrite d1 e (gr d e smp gCH) (gHotOff d e smp (gFields w).x 8) 2
      (ofS 32 (grS d e smp (gFields w).a) + 2 ^ 32 * ofS 32 (grS d e smp ((gFields w).a + 1))) := by
  simp only [gSthq, GCtx.ch, GCtx.a, gCtx, h.gr, h.grS, gHotOff_issued h, gHotOk_issued h, hok, ↓reduceIte]

theorem gStha_issued (hok : gHotOk d e smp (gHotOff d e smp (gFields w).x 8) 8 = true) : gStha (gCtx d e smp w) d1 =
    gHotWrite (gExt d1 e smp 64 (grA d e smp (gFields w).a)).2 e
      (gr (gExt d1 e smp 64 (grA d e smp (gFields w).a)).2 e smp gCH) (gHotOff d e smp (gFields w).x 8) 2
      (ofS 64 (gExt d1 e smp 64 (grA d e smp (gFields w).a)).1) := by
  simp only [gStha, GCtx.ch, gCtx, h.grA, gHotOff_issued h, gHotOk_issued h, hok, ↓reduceIte]

theorem gSincos_issued : gSincos (gCtx d e smp w) d1 =
    gwS (gwS d1 e smp (gFields w).a (trigRound 32767 (ofS 32 (grS d e smp (gFields w).b))).1) e smp ((gFields w).a + 1)
      (trigRound 32767 (ofS 32 (grS d e smp (gFields w).b))).2 := by
  simp only [gSincos, GCtx.b, gCtx, h.grS]

end

/-- An extraction gives the saturated value and changes `SR` alone (R218). -/
theorem gExt_saturates (d : Dev) (e : Nat) (smp : Bool) (n : Nat) (x : Int) : (gExt d e smp n x).1 = satS n x ∧
    (gExt d e smp n x).2.phase = d.phase ∧ EngKeeps d (gExt d e smp n x).2 e smp [gSR] := by
  unfold gExt
  split
  · next hsat => exact ⟨hsat.symm, rfl, rfl, rfl, rfl, rfl, rfl, fun _ _ => rfl⟩
  · exact ⟨rfl, rfl, gwSeq_keeps d e smp gSR _⟩

theorem gWritable_data {c : Nat} (h : c ≤ 15) : gWritable c = true := by
  have hok : gRegOk c = true := by
    simp only [gRegOk, Bool.or_eq_true, decide_eq_true_eq]
    omega
  have hro : gRegReadOnly c = false := by
    simp [gRegReadOnly]
    omega
  rw [gWritable, hok, hro]
  rfl

theorem gRegWidth_data {c : Nat} (h : c ≤ 15) : gRegWidth c = 32 := if_pos h

/-- After its issue an instruction puts two words in a pair of data registers. -/
theorem EngIssued.gw_pair {s : State} {d1 : Dev} {e : Nat} (h : EngIssued s.d d1 e) (smp : Bool) {c lo hi : Nat}
    (hc : c < 15) (hlo : lo < 2 ^ 32) (hhi : hi < 2 ^ 32) :
    s.engKeeps (s.withDev (gw (gw d1 e smp c lo) e smp (c + 1) hi)) e smp [c, c + 1] ∧
      Machine.gr (gw (gw d1 e smp c lo) e smp (c + 1) hi) e smp c = lo ∧
      Machine.gr (gw (gw d1 e smp c lo) e smp (c + 1) hi) e smp (c + 1) = hi := by
  refine ⟨((h.gw_keeps smp c _).trans (Machine.gw_keeps _ e smp (c + 1) _)).engKeeps, ?_, ?_⟩
  · rw [gr_gw_ne _ e smp _ (Nat.ne_of_lt (Nat.lt_succ_self c)), gr_gw_same _ e smp _ (gWritable_data (by omega)),
      gRegWidth_data (by omega), Nat.mod_eq_of_lt hlo]
  · rw [gr_gw_same _ e smp _ (gWritable_data (by omega)), gRegWidth_data (by omega), Nat.mod_eq_of_lt hhi]

/-- Settles O35: a load is a write of registers from the ledger, a store a write of the ledger or a reported violation. -/
theorem engineHotOps : Obligations.EngineHotOps := by
  unfold Obligations.EngineHotOps
  intro s e smp w he hy hch
  have h (opc : Nat) : EngIssued s.d (gIssued s.d e smp opc w) e := engIssued_gIssued s.d e smp opc w
  refine ⟨?ldh, fun ha => ?ldhq, fun hlo hhi => ?ldha, fun hcon => ⟨fun hok => ?sth, fun hok => ?sthq, fun hok => ?stha⟩,
    fun hcon hok hjn hlo hhi => ?journal, fun hok => ?suppressed, fun hx ha => ?sincos⟩
  case ldh =>
    exact ⟨_, exec_of_gEff (opc := 0x30) rfl rfl (by decide) (.inl rfl) hy (gLdh_issued (h 0x30) smp w),
      (h 0x30).engPut smp _ _⟩
  case ldhq =>
    exact ⟨_, exec_of_gEff (opc := 0x31) rfl rfl (by decide) (.inl rfl) hy (gLdhq_issued (h 0x31) smp w),
      (h 0x31).gw_pair smp ha (hot_word_lt _ _ _) (hot_word_lt _ _ _)⟩
  case ldha =>
    obtain ⟨hmin, hmax⟩ := toS_bounds 63 (hot s.d (gr s.d e smp gCH) (gHotOff s.d e smp (gFields w).x 8) 8)
    exact ⟨_, exec_of_gEff (opc := 0x34) rfl rfl (by decide) (.inl rfl) hy (gLdha_issued (h 0x34) smp w),
      (h 0x34).engAcc smp hlo hhi ⟨Int.le_trans (by decide) hmin, Int.lt_of_lt_of_le hmax (by decide)⟩⟩
  case sth =>
    refine ⟨_, exec_of_gEff (opc := 0x32) rfl rfl (by decide) (.inl rfl) hy ((gSth_issued (h 0x32) smp w hok).trans
      (gHotWrite_outside (h 0x32) rfl hcon _ _ _ _)), rfl, ?_, fun r => ?_, hotW_led_congr (h 0x32).led _ _ _ _⟩
    · exact (hotW_regs _ _ _ _ _).trans (h 0x32).regs
    · exact (gr_hotW _ _ _ _ _ _ _ _).trans ((h 0x32).gr smp r)
  case sthq =>
    refine ⟨_, exec_of_gEff (opc := 0x33) rfl rfl (by decide) (.inl rfl) hy ((gSthq_issued (h 0x33) smp w hok).trans
      (gHotWrite_outside (h 0x33) rfl hcon _ _ _ _)), rfl, ?_, fun r => ?_, hotW_led_congr (h 0x33).led _ _ _ _⟩
    · exact (hotW_regs _ _ _ _ _).trans (h 0x33).regs
    · exact (gr_hotW _ _ _ _ _ _ _ _).trans ((h 0x33).gr smp r)
  case stha =>
    obtain ⟨hval, hphase, hregs, hled, -, -, -, hgr⟩ :=
      gExt_saturates (gIssued s.d e smp 0x35 w) e smp 64 (grA s.d e smp (gFields w).a)
    have hgr' (r : Nat) (hr : r ≠ gSR) := (hgr r fun hmem => hr (List.mem_singleton.mp hmem)).trans ((h 0x35).gr smp r)
    refine ⟨_, exec_of_gEff (opc := 0x35) rfl rfl (by decide) (.inl rfl) hy ((gStha_issued (h 0x35) smp w hok).trans
      (gHotWrite_outside (h 0x35) hphase hcon _ _ _ _)), rfl, ?_, fun r hr => ?_, ?_⟩
    · exact (hotW_regs _ _ _ _ _).trans (hregs.trans (h 0x35).regs)
    · exact (gr_hotW _ _ _ _ _ _ _ _).trans (hgr' r hr)
    · rw [hval, hgr' gCH (by decide)]
      exact hotW_led_congr (hled.trans (h 0x35).led) _ _ _ _
  case journal =>
    have hjn' : (eng (gIssued s.d e smp 0x32 w) e).jn = (eng s.d e).jn := (h 0x32).jn
    have hcon' : inControl (gIssued s.d e smp 0x32 w) = true := (inControl_issued (h 0x32)).trans hcon
    have halign : gHotOff s.d e smp (gFields w).x 4 % 4 = 0 := Nat.mul_mod_left _ 4
    have hwrite (v : Nat) : gHotWrite (gIssued s.d e smp 0x32 w) e (gr s.d e smp gCH)
        (gHotOff s.d e smp (gFields w).x 4) 1 v = hotW (gJournal (gIssued s.d e smp 0x32 w) e (gr s.d e smp gCH)
          (gHotOff s.d e smp (gFields w).x 4) (hot s.d (gr s.d e smp gCH) (gHotOff s.d e smp (gFields w).x 4) 4))
          (gr s.d e smp gCH) (gHotOff s.d e smp (gFields w).x 4) 4 v := by
      rw [gHotWrite, if_pos ⟨hcon', hlo, hhi⟩, hjn', if_neg (by omega), hot_congr (h 0x32).led]
      rfl
    refine ⟨_, exec_of_gEff (opc := 0x32) rfl rfl (by decide) (.inl rfl) hy ((gSth_issued (h 0x32) smp w hok).trans
      (hwrite _)), rfl, ?_, ?_, ?_⟩
    · change (eng (hotW _ _ _ _ _) e).jn = _
      rw [eng_hotW, gJournal, eng_setEng_same]
      exact congrArg (· + 1) hjn'
    · change undoEntry (hotW _ _ _ _ _) e _ = _
      rw [undoEntry, eng_hotW, ← undoEntry, ← hjn']
      exact undoEntry_gJournal _ hch hlo hhi halign (hot_word_lt _ _ _) (hjn' ▸ hjn)
    · exact (hot_hotW_same _ _ _ 4 _).trans (ofS_mod 32 _)
  case suppressed =>
    obtain ⟨hled, hlive, hflag, hraised⟩ :=
      gViol_reported (gIssued s.d e smp 0x32 w) (gHotOff s.d e smp (gFields w).x 4) 2 he
    refine ⟨_, exec_of_gEff (opc := 0x32) rfl rfl (by decide) (.inl rfl) hy (gSth_suppressed (h 0x32) smp w hok), rfl,
      hled.trans (h 0x32).led, hlive, hflag, ?_⟩
    rw [hraised, (h 0x32).mor]
  case sincos =>
    refine ⟨_, exec_of_gEff (opc := 0x38) rfl rfl (by decide) (.inr hx) hy (gSincos_issued (h 0x38) smp w), ?_⟩
    rw [gwS, gwS, gRegWidth_data (by omega), gRegWidth_data (by omega)]
    exact (h 0x38).gw_pair smp ha (ofS_lt 32 _) (ofS_lt 32 _)

end Sys2Proof.Machine
end

section
/-!
PROOFS. Two statements about the engines that fail: that of the register instructions at `LDC`, and that of the control
instructions at the line form of `TAPM`.
-/
namespace Sys2Proof.Machine

/-! ### `LDC` with bank 1 active -/

/-- A device whose engine 0 runs from bank 1: a run's constant base already lies in the bank (R216, R226), so that its
constant 0, which is 5, lies at word 0. -/
def ldcState : State :=
  { d := { regs := [((Reg.CHAN_ENG_STAT_BANK 0).key, 1)], eng := [(0, { p := [(0, 5)], run := { nconst := 1 } })] } }

/-- `LDC` of constant 0 to register 1. -/
def ldcWord : Nat := 1 * 2 ^ 50

/-- Refutes O33: the statement counts the program bank into the address of a constant once more, where `LDC` reads at the
run's constant base. With bank 1 active the constant 5 comes to the register, where the statement asks for the word 0 that
lies 0x4000 bytes on. -/
theorem not_engineRegisterOps : ¬ Obligations.EngineRegisterOps := by
  unfold Obligations.EngineRegisterOps
  intro h
  obtain ⟨-, -, -, hldc, -⟩ := h ldcState 0 false ldcWord (by decide)
  obtain ⟨t, ht, -, hreg⟩ := hldc (by decide +kernel) (by decide +kernel)
  have hstate : t = outState (exec (.engLdc 0 false ldcWord) ldcState) ldcState := by rw [ht]; rfl
  rw [hstate] at hreg
  exact absurd hreg (by decide +kernel)

/-! ### `TAPM` on a delay line that meets the descriptors -/

/-- A device outside BOOT whose engine 0 binds channel 0: the channel's descriptor stands at 0x2000 of X (R213). The sample
task's pointer is the last word before it, which holds `v`. -/
def lineState (v : BitVec 8) : State :=
  { d := { regs := [(Reg.SYS_PROPS_BOOT.key, 0)],
           firn := { act := some { sched := [{ (default : SchedRec) with num := 1 }] } },
           eng := [(0, { x := [(0x1FFC, v)], sreg := [(0x18, 0x1FFC)] })] } }

/-- `TAPM` on the line at X pointer 0 with the coefficients at Y pointer 0, into accumulator 0. -/
def lineWord : Nat := 0x18 * 2 ^ 50 + 0x1C * 2 ^ 44 + 0x10 * 2 ^ 38

/-- The device after it. -/
def lineAfter (v : BitVec 8) : Dev := (outState (exec (.engTapmLine 0 true lineWord) (lineState v)) (lineState v)).d

/-- Outside BOOT a byte of a bound channel's descriptor is what the loader wrote, whatever X holds (R213). -/
theorem xByte_descriptor {d : Dev} {e c : Nat} {i : Nat} (hboot : inBoot d = false) (hchans : firChans d e = [c])
    (hi : i < 16) : xByte d e (0x2000 + i) = Config.descriptorByte (img d).bytes e c i % 256 := by
  have hplace : (0x2000 + i) % 65536 = 0x2000 + i := Nat.mod_eq_of_lt (by omega)
  have hzero : (0x2000 + i - 0x2000) / 16 = 0 := by omega
  have hoff : (0x2000 + i) % 16 = i := by omega
  rw [xByte, hplace, hzero, hoff, hboot, hchans, if_pos ⟨by omega, by omega, rfl⟩]
  rfl

/-- The first word of that descriptor. -/
theorem gX32_descriptor {d d' : Dev} {e c : Nat} (hboot : inBoot d = false) (hboot' : inBoot d' = false)
    (hchans : firChans d e = [c]) (hchans' : firChans d' e = [c]) (hbytes : (img d).bytes = (img d').bytes) :
    gX32 d e 0x2000 = gX32 d' e 0x2000 := by
  have hbyte (i : Nat) (hi : i < 16) : xByte d e (0x2000 + i) = xByte d' e (0x2000 + i) := by
    rw [xByte_descriptor hboot hchans hi, xByte_descriptor hboot' hchans' hi, hbytes]
  rw [gX32, hbyte 1 (by decide), hbyte 2 (by decide), hbyte 3 (by decide), show xByte d e 0x2000 = xByte d' e 0x2000 from
    hbyte 0 (by decide), ← gX32]

/-- What the statement asks for on the line: the word after the pointer reads the sample. -/
theorem lineAfter_sample (h : Obligations.EngineControlOps) {v : BitVec 8} (huser : gUser (lineState v).d 0 true = false)
    (hlow : 4 ≤ gr (lineState v).d 0 true 0x18) (hhigh : gr (lineState v).d 0 true 0x18 < 65528)
    (hfits : fits80 (grA (lineState v).d 0 true 0x10 +
      toS 32 (gX32 (lineState v).d 0 (gr (lineState v).d 0 true 0x18)) *
        toS 32 (gY32 (lineState v).d 0 (gr (lineState v).d 0 true 0x1C)) +
      toS 32 (gX32 (lineState v).d 0 (gr (lineState v).d 0 true 0x18 - 4)) *
        toS 32 (gY32 (lineState v).d 0 (gr (lineState v).d 0 true 0x1C + 4)))) :
    gX32 (lineAfter v) 0 (gr (lineState v).d 0 true 0x18 + 4) =
      gX32 (lineState v).d 0 (gr (lineState v).d 0 true 0x18) := by
  unfold Obligations.EngineControlOps at h
  obtain ⟨-, -, -, -, -, -, -, -, hline⟩ := h (lineState v) 0 true lineWord 0 (by decide) (by decide +kernel)
  obtain ⟨t, ht, -, -, -, -, -, hnext, -⟩ := hline (by decide +kernel) huser (by decide) (by decide)
    (by decide) (by decide) (by decide) (by decide) hlow hhigh hfits
  rw [show t.d = lineAfter v by rw [lineAfter, ht]; rfl] at hnext
  exact hnext

/-- Refutes O36: the line form of `TAPM` writes the delayed sample where the next word of the line stands, but outside BOOT a
bound channel's descriptor reads there as the loader wrote it. Two devices that differ in the sample alone read the same
word of the descriptor after it, where the statement asks for their samples. -/
theorem not_engineControlOps : ¬ Obligations.EngineControlOps := by
  intro h
  have hone := lineAfter_sample h (v := 1) (by decide +kernel) (by decide +kernel) (by decide +kernel) (by decide +kernel)
  have htwo := lineAfter_sample h (v := 2) (by decide +kernel) (by decide +kernel) (by decide +kernel) (by decide +kernel)
  have hsame : gX32 (lineAfter 1) 0 0x2000 = gX32 (lineAfter 2) 0 0x2000 :=
    gX32_descriptor (c := 0) (by decide +kernel) (by decide +kernel) (by decide +kernel) (by decide +kernel)
      (by decide +kernel)
  have hdiffer : gX32 (lineState 1).d 0 (gr (lineState 1).d 0 true 0x18) ≠
      gX32 (lineState 2).d 0 (gr (lineState 2).d 0 true 0x18) := by decide +kernel
  exact hdiffer (hone.symm.trans (hsame.trans htwo))

end Sys2Proof.Machine
end

section
/-!
PROOFS. A layer about the register space: when a write reaches its block, which registers a change of the device leaves
alone, and the bits of a register.
-/
namespace Sys2Proof.Machine

/-! ### When a write reaches its block -/

/-- A command that answers another device answers the state with that device. -/
theorem next_withDev {s : State} {d e : Dev} (h : d = e) :
    (Host.Outcome.next (s.withDev d) : Host.Outcome State Fault Refusal) = .next (s.withDev e) := by rw [h]

/-- A write that is served, on a page that no safe state closes, acts (R314). -/
theorem regAccess_open {d : Dev} {req : Requester} {addr : Nat} (w : Nat) (act : Dev → Dev)
    (hacc : accessErr d req addr true = 0) (hopen : inSafe d = false ∨ safeClosed addr = false) :
    regAccess d req addr w act = act d := by
  have hshut : (inSafe d && safeClosed addr) = false := by rcases hopen with h | h <;> simp [h]
  unfold regAccess
  simp only [hacc, ne_eq, not_true_eq_false, if_false]
  split
  · rfl
  · next r l _ => simp [hshut]

/-- A write that `State.served` allows acts. -/
theorem regAccess_served {s : State} {req : Requester} {addr : Nat} (w : Nat) (act : Dev → Dev) (h : s.served req addr) :
    regAccess s.d req addr w act = act s.d :=
  regAccess_open w act h.1 (.inl h.2)

/-- The fields a write sets in a register of the table, where it is refused nothing. -/
theorem writeFields_row {d : Dev} (req : Requester) {addr : Nat} (w : Nat) {r : RegRow} {l : List Nat}
    (hrow : regFind addr = some (r, l)) (hin : r.flds.any (fldOutside w l) = false) (hcross : crossFault d addr w = false)
    (hfree : r.flds.any (fldRefused d r l addr w) = false) :
    writeFields d req addr w = okResp (r.flds.foldl (fun d f => fldWrite d r l addr w f) d) := by
  simp [writeFields, hrow, hin, hcross, hfree]

/-- The fields that a write sets change the registers alone, and no other register than its own. -/
theorem foldl_fldWrite (fs : List FldRow) (d : Dev) (r : RegRow) (l : List Nat) (addr w : Nat) :
    ∃ m, fs.foldl (fun d f => fldWrite d r l addr w f) d = { d with regs := m } := by
  induction fs generalizing d with
  | nil => exact ⟨d.regs, rfl⟩
  | cons f fs ih =>
    have hone : ∃ m, fldWrite d r l addr w f = { d with regs := m } := by
      unfold fldWrite
      dsimp only
      split
      · exact ⟨_, rfl⟩
      · exact ⟨_, rfl⟩
      · split
        · exact ⟨_, rfl⟩
        · exact ⟨d.regs, rfl⟩
    obtain ⟨m, hm⟩ := hone
    obtain ⟨m', hm'⟩ := ih { d with regs := m }
    exact ⟨m', by rw [List.foldl_cons, hm, hm']⟩

/-- A write puts no field outside its limits where its register has none and no rule joins it to others. -/
theorem limitsBad_row {d : Dev} {addr : Nat} (w : Nat) {r : RegRow} {l : List Nat} (hrow : regFind addr = some (r, l)) :
    limitsBad d addr w = (r.flds.any (fldOutside w l) || crossFault d addr w) := by
  simp [limitsBad, hrow]

/-! ### Registers of a numbered family -/

/-- What holds of the first `n` members of a family. -/
def HoldsBelow (P : Nat → Prop) (n : Nat) : Prop := ∀ i, i < n → P i

theorem HoldsBelow.zero {P : Nat → Prop} : HoldsBelow P 0 := fun _ hi => absurd hi (Nat.not_lt_zero _)

theorem HoldsBelow.succ {P : Nat → Prop} {n : Nat} (h : HoldsBelow P n) (hn : P n) : HoldsBelow P (n + 1) := fun i hi =>
  (Nat.lt_succ_iff_lt_or_eq.mp hi).elim (h i) fun heq => heq ▸ hn

/-! ### Which registers a change of the device leaves alone -/

/-- Every register field whose key does not satisfy `R` reads as before. -/
def RegsWithin (R : Nat → Prop) (d e : Dev) : Prop := ∀ f : Fld, ¬ R f.key → rd e f = rd d f

variable {R R' : Nat → Prop} {d e g : Dev}

theorem RegsWithin.refl (R : Nat → Prop) (d : Dev) : RegsWithin R d d := fun _ _ => rfl

theorem RegsWithin.of_regs (h : e.regs = d.regs) : RegsWithin R d e := fun f _ => by simp [rd, h]

theorem RegsWithin.trans (h : RegsWithin R d e) (h' : RegsWithin R e g) : RegsWithin R d g :=
  fun f hf => (h' f hf).trans (h f hf)

theorem RegsWithin.mono (h : RegsWithin R d e) (hR : ∀ a, R a → R' a) : RegsWithin R' d e :=
  fun f hf => h f (fun ha => hf (hR _ ha))

theorem RegsWithin.rdB (h : RegsWithin R d e) {f : Fld} (hf : ¬ R f.key) : Machine.rdB e f = Machine.rdB d f := by
  simp only [Machine.rdB, h f hf]

/-- A write of one field. -/
theorem RegsWithin.wr (h : RegsWithin R d e) {f : Fld} (v : Nat) (hf : R f.key) : RegsWithin R d (wr e f v) := by
  intro f' hf'
  rw [rd_wr_ne e f f' v fun heq => hf' (by rwa [heq])]
  exact h f' hf'

theorem RegsWithin.wrB (h : RegsWithin R d e) {f : Fld} (b : Bool) (hf : R f.key) : RegsWithin R d (wrB e f b) := h.wr _ hf

/-- A change of the device that leaves its registers alone. -/
theorem RegsWithin.regs (h : RegsWithin R d e) (heq : g.regs = e.regs) : RegsWithin R d g := h.trans (.of_regs heq)

theorem RegsWithin.mor (h : RegsWithin R d e) (m : MorSt) : RegsWithin R d { e with mor := m } := h
theorem RegsWithin.hdrPut (h : RegsWithin R d e) (off v : Nat) : RegsWithin R d (hdrPut e off v) := h
theorem RegsWithin.safe (h : RegsWithin R d e) (m : SafeSt) : RegsWithin R d { e with safe := m } := h
theorem RegsWithin.ser (h : RegsWithin R d e) (m : SerSt) : RegsWithin R d { e with ser := m } := h
theorem RegsWithin.sch (h : RegsWithin R d e) (m : SchSt) : RegsWithin R d { e with sch := m } := h
theorem RegsWithin.setAxis (h : RegsWithin R d e) (n : Nat) (f : AxisSt → AxisSt) : RegsWithin R d (setAxis e n f) := h
theorem RegsWithin.setSout (h : RegsWithin R d e) (n : Nat) (f : SafeOut → SafeOut) : RegsWithin R d (setSout e n f) := h
theorem RegsWithin.irq (h : RegsWithin R d e) (v : Nat) (hf : R Reg.HOST_IRQ_STAT_CAUSE.key) : RegsWithin R d (irq e v) := h.wr _ hf
theorem RegsWithin.raise (h : RegsWithin R d e) (src ut ui d0 d1 : Nat) : RegsWithin R d (raise e src ut ui d0 d1) := h

theorem RegsWithin.ite {p : Prop} [Decidable p] (h : RegsWithin R d e) (h' : RegsWithin R d g) :
    RegsWithin R d (if p then e else g) := by
  split
  · exact h
  · exact h'

theorem RegsWithin.foldl {α : Type} (l : List α) (step : Dev → α → Dev) (hstep : ∀ e x, x ∈ l → RegsWithin R e (step e x)) :
    ∀ d, RegsWithin R d (l.foldl step d) := by
  induction l with
  | nil => exact fun d => .refl R d
  | cons x l ih =>
    exact fun d => (hstep d x (by simp)).trans (ih (fun e y hy => hstep e y (by simp [hy])) _)

/-- A write leaves every register alone but the fields of its own. -/
theorem foldl_fldWrite_within (d : Dev) (r : RegRow) (l : List Nat) (addr w : Nat) (fs : List FldRow)
    (hR : ∀ f ∈ fs, R (f.at l).key) : RegsWithin R d (fs.foldl (fun d f => fldWrite d r l addr w f) d) := by
  refine RegsWithin.foldl fs _ (fun e f hf => ?_) d
  unfold fldWrite
  dsimp only
  split
  · exact (RegsWithin.refl _ _).wr _ (hR f hf)
  · exact (RegsWithin.refl _ _).wr _ (hR f hf)
  · exact .ite ((RegsWithin.refl _ _).wr _ (hR f hf)) (.refl _ _)

/-- A write that is refused nothing changes no register but its own, and beside the registers the answer alone. -/
theorem writeFields_takes {d : Dev} (req : Requester) {addr : Nat} (w : Nat) {row : RegRow} {l : List Nat}
    (hrow : regFind addr = some (row, l)) (hin : row.flds.any (fldOutside w l) = false) (hcross : crossFault d addr w = false)
    (hfree : row.flds.any (fldRefused d row l addr w) = false) :
    ∃ m, writeFields d req addr w = okResp { d with regs := m } ∧
      ∀ R : Nat → Prop, (∀ f ∈ row.flds, R (f.at l).key) → RegsWithin R d (writeFields d req addr w) := by
  obtain ⟨m, hm⟩ := foldl_fldWrite row.flds d row l addr w
  refine ⟨m, ?_, fun R hR => ?_⟩
  · rw [writeFields_row req w hrow hin hcross hfree, hm]
  · rw [writeFields_row req w hrow hin hcross hfree]
    exact foldl_fldWrite_within d row l addr w row.flds hR

/-- A served write of the register space is a register write. -/
theorem devWrite_register {d : Dev} {req : Requester} {addr : Nat} (w : Nat) (hacc : accessErr d req addr true = 0)
    (hlo : 0x10000000 ≤ addr) (hhi : addr < 0x10200000) : devWrite d req addr w = regWrite d req addr w := by
  have htcm : ¬ addr < 0x400000 := by omega
  have hneve : ¬ addr < 0x01200000 := by omega
  have heng : ¬ addr < 0x02600000 := by omega
  have hled : ledOffset addr = none := by
    rw [ledOffset, if_neg (by omega), if_neg (by omega)]
  have hwin : inWindow addr = false := decide_eq_false (by omega)
  have hmem : memAt addr = none := by
    rw [memAt, if_neg htcm, if_neg (by omega), if_neg (by omega), if_neg (by omega), if_neg (by simp [hled, hwin])]
  have htest : inTest d addr = false := by
    simp only [inTest, testMem, startTest, hmem, Option.getD_none, Bool.or_false, Bool.and_eq_false_iff, bne_eq_false_iff_eq,
      beq_eq_false_iff_ne]
    omega
  simp only [devWrite, htcm, hneve, heng, hled, hwin, htest, hacc, false_and, and_false, if_false, ne_eq, not_true_eq_false,
    Option.isSome_none, Bool.false_eq_true]

/-- A fold over a list whose steps agree on its members. -/
theorem foldl_congr_of_mem {α β : Type} {f g : β → α → β} {b : β} {l : List α} (h : ∀ b, ∀ a ∈ l, f b a = g b a) :
    l.foldl f b = l.foldl g b := by
  induction l generalizing b with
  | nil => rfl
  | cons a l ih => rw [List.foldl_cons, List.foldl_cons, h b a (by simp), ih fun b x hx => h b x (by simp [hx])]

theorem flatMap_congr_of_mem {α β : Type} {f g : α → List β} {l : List α} (h : ∀ a ∈ l, f a = g a) : l.flatMap f = l.flatMap g := by
  induction l with
  | nil => rfl
  | cons a l ih => rw [List.flatMap_cons, List.flatMap_cons, h a (by simp), ih fun x hx => h x (by simp [hx])]

theorem find?_congr_of_mem {α : Type} {p q : α → Bool} {l : List α} (h : ∀ a ∈ l, p a = q a) : l.find? p = l.find? q := by
  induction l with
  | nil => rfl
  | cons a l ih => rw [List.find?_cons, List.find?_cons, h a (by simp), ih fun x hx => h x (by simp [hx])]

/-- What every step of a fold leaves alone, the fold leaves alone. -/
theorem foldl_keeps {α β : Type} (view : Dev → β) (l : List α) (step : Dev → α → Dev)
    (hstep : ∀ e x, view (step e x) = view e) (d : Dev) : view (l.foldl step d) = view d := by
  induction l generalizing d with
  | nil => rfl
  | cons x l ih => rw [List.foldl_cons, ih, hstep]

/-! ### The bits of a register -/

/-- What setting a bit leaves below and above it. -/
theorem setBit_mod_div (w i : Nat) (b : Bool) :
    setBit w i b % 2 ^ i = w % 2 ^ i ∧ setBit w i b / 2 ^ (i + 1) = w / 2 ^ (i + 1) := by
  have hpos : 0 < 2 ^ i := Nat.two_pow_pos i
  have hhigh (x : Nat) : x / 2 ^ (i + 1) = x / 2 ^ i / 2 := by rw [Nat.pow_succ, Nat.div_div_eq_div_mul]
  unfold setBit
  split
  · exact ⟨rfl, rfl⟩
  · next h =>
    split
    · next hb =>
      have hold : w / 2 ^ i % 2 ≠ 1 := by simpa [bit, hb] using h
      rw [hhigh, hhigh, Nat.add_div_right _ hpos]
      exact ⟨Nat.add_mod_right _ _, by omega⟩
    · next hb =>
      have hold : w / 2 ^ i % 2 = 1 := by simpa [bit, hb] using h
      have hle : 2 ^ i ≤ w := by
        refine Decidable.byContradiction fun hlt => ?_
        rw [Nat.div_eq_of_lt (by omega)] at hold
        exact absurd hold (by decide)
      obtain ⟨v, rfl⟩ := Nat.exists_eq_add_of_le hle
      rw [Nat.add_div_left _ hpos] at hold
      rw [Nat.add_sub_cancel_left, hhigh, hhigh, Nat.add_div_left _ hpos]
      exact ⟨(Nat.add_mod_left _ _).symm, by omega⟩

/-- Setting a bit leaves every other bit as it was. -/
theorem bit_setBit_ne (w : Nat) {i j : Nat} (b : Bool) (h : j ≠ i) : bit (setBit w i b) j = bit w j := by
  obtain ⟨hlow, hhigh⟩ := setBit_mod_div w i b
  rcases Nat.lt_or_gt_of_ne h with hlt | hgt
  · rw [← bit_mod_two_pow _ hlt, hlow, bit_mod_two_pow _ hlt]
  · have hsplit (x : Nat) : x / 2 ^ j = x / 2 ^ (i + 1) / 2 ^ (j - (i + 1)) := by
      rw [Nat.div_div_eq_div_mul, ← Nat.pow_add, Nat.add_sub_cancel' hgt]
    rw [bit, bit, hsplit, hhigh, ← hsplit]

/-- Setting a bit leaves the bits from `lo` on as they were where it lies outside them. -/
theorem bits_setBit_outside (w : Nat) {i lo n : Nat} (b : Bool) (h : i < lo ∨ lo + n ≤ i) :
    bits (setBit w i b) lo n = bits w lo n := by
  refine Nat.eq_of_testBit_eq fun k => ?_
  rw [bits, bits, Nat.testBit_mod_two_pow, Nat.testBit_mod_two_pow, Nat.testBit_div_two_pow, Nat.testBit_div_two_pow,
    ← bit_eq_testBit, ← bit_eq_testBit]
  by_cases hk : k < n
  · rw [bit_setBit_ne _ _ (by omega)]
  · simp [hk]

/-- The bit that was set in a register array reads as set. -/
theorem rdBit_wrBit_same (d : Dev) (f : Nat → Fld) (i : Nat) (b : Bool) (hwd : (f (i / 32)).wd = 32) :
    rdBit (wrBit d f i b) f i = b := by
  simp only [rdBit, wrBit, rd_wr_same, hwd]
  rw [bit_mod_two_pow _ (Nat.mod_lt _ (by decide)), bit_setBit]

theorem rdFBit_wrFBit_same (d : Dev) (f : Fld) (i : Nat) (b : Bool) (hi : i < f.wd) : rdFBit (wrFBit d f i b) f i = b := by
  simp only [rdFBit, wrFBit, rd_wr_same]
  rw [bit_mod_two_pow _ hi, bit_setBit]

theorem rdFBit_wrFBit_ne (d : Dev) (f : Fld) {i j : Nat} (b : Bool) (hj : j < f.wd) (h : j ≠ i) :
    rdFBit (wrFBit d f i b) f j = rdFBit d f j := by
  simp only [rdFBit, wrFBit, rd_wr_same]
  rw [bit_mod_two_pow _ hj, bit_setBit_ne _ _ h]

end Sys2Proof.Machine
end

section
/-!
PROOFS. `FAULT_N`, the closing of shadows and the brakes after an icefall (R314, R316, R319).
-/
namespace Sys2Proof.Machine

/-- The row of `MOR_CTRL`. -/
theorem regFind_morCtrl : regFind 0x10020000 = some (⟨0x10020000, [], .device,
    [⟨fun _ _ _ => Reg.MOR_CTRL_FAULT_REL, .wo, none⟩, ⟨fun _ _ _ => Reg.MOR_CTRL_FAULT_HOLD, .wo, none⟩,
     ⟨fun _ _ _ => Reg.MOR_CTRL_FAULT_CLASS, .rws, some (1, 3)⟩]⟩, []) := rfl

/-- A write of `MOR_CTRL` breaks a limit just where its `FAULT_CLASS` is 0. -/
theorem limitsBad_morCtrl (d : Dev) (w : Nat) : limitsBad d 0x10020000 w = decide (bits w 4 2 = 0) := by
  have hcut : bits w 4 2 < 4 := Nat.mod_lt _ (by decide)
  have hcross : crossFault d 0x10020000 w = false := rfl
  have hlim : fldOutside w [] ⟨fun _ _ _ => Reg.MOR_CTRL_FAULT_CLASS, .rws, some (1, 3)⟩ =
      decide (bits w 4 2 < 1 ∨ 3 < bits w 4 2) := rfl
  rw [limitsBad_row w regFind_morCtrl, hcross, Bool.or_false, List.any_cons, List.any_cons, List.any_cons, hlim,
    List.any_nil, Bool.or_false, show fldOutside w [] ⟨fun _ _ _ => Reg.MOR_CTRL_FAULT_REL, .wo, none⟩ = false from rfl,
    show fldOutside w [] ⟨fun _ _ _ => Reg.MOR_CTRL_FAULT_HOLD, .wo, none⟩ = false from rfl, Bool.false_or, Bool.false_or]
  exact decide_eq_decide.mpr (by omega)

/-- A served write of `MOR_CTRL` that leaves `FAULT_CLASS` as it is performs its commands alone. -/
theorem morCtrlWrite_commands {s : State} {req : Requester} {w : Nat} (h : s.served req 0x10020000)
    (hclass : bits w 4 2 = rd s.d Reg.MOR_CTRL_FAULT_CLASS) (hne : rd s.d Reg.MOR_CTRL_FAULT_CLASS ≠ 0) :
    morCtrlWrite s.d req w = morCtrlAct (okResp s.d) req w := by
  have hlim : decide (bits w 4 2 = 0) = false := decide_eq_false (hclass ▸ hne)
  rw [morCtrlWrite, regAccess_served w _ h, limitsBad_morCtrl, hlim, if_neg Bool.false_ne_true, if_pos hclass]

/-- `FAULT_REL` alone, outside safe state: a release, at once or at the end of the pulse. -/
theorem morCtrlAct_release {d : Dev} (req : Requester) {w : Nat} (hrel : bit w 0 = true) (hhold : bit w 1 = false)
    (hsafe : inSafe d = false) : morCtrlAct d req w =
      if rdB d Reg.MOR_STAT_PULSE then { d with mor := { d.mor with relPend := true } } else wrB d Reg.MOR_STAT_FAULT false := by
  simp [morCtrlAct, hrel, hhold, hsafe]

/-- `FAULT_HOLD` alone drives `FAULT_N` low. -/
theorem morCtrlAct_hold (d : Dev) (req : Requester) {w : Nat} (hrel : bit w 0 = false) (hhold : bit w 1 = true) :
    morCtrlAct d req w = wrB { d with mor := { d.mor with relPend := false } } Reg.MOR_STAT_FAULT true := by
  simp [morCtrlAct, hrel, hhold]

/-- The end of a pulse with no release waiting. -/
theorem faultPulseEnd_alone {d : Dev} (hpulse : rdB d Reg.MOR_STAT_PULSE = true) (hover : d.mor.pulseK + 20 ≤ d.k)
    (hrel : d.mor.relPend = false) : faultPulseEnd d = wrB d Reg.MOR_STAT_PULSE false := by
  simp [faultPulseEnd, hpulse, hover, hrel]

/-- The end of a pulse with a release waiting, outside safe state. -/
theorem faultPulseEnd_release {d : Dev} (hpulse : rdB d Reg.MOR_STAT_PULSE = true) (hover : d.mor.pulseK + 20 ≤ d.k)
    (hrel : d.mor.relPend = true) (hsafe : inSafe d = false) : faultPulseEnd d =
      wrB { wrB d Reg.MOR_STAT_PULSE false with mor := { d.mor with relPend := false } } Reg.MOR_STAT_FAULT false := by
  have hstill : inSafe (wrB d Reg.MOR_STAT_PULSE false) = false := by
    rw [inSafe, rdB_wrB_ne _ _ _ _ (by decide)]
    exact hsafe
  simp [faultPulseEnd, hpulse, hover, hrel, hstill]

/-- A shadow stays exactly while its ticks are not over. -/
theorem mem_closeShadows (d : Dev) (x : Shadow) : x ∈ (closeShadows d).mor.shadows ↔
    x ∈ d.mor.shadows ∧ ∀ c, x.close = some c → d.k < c := by
  simp only [closeShadows, List.mem_filter]
  refine and_congr_right fun _ => ?_
  cases x.close with
  | none => simp
  | some c => simp

/-- Settles O17. -/
theorem faultNAndShadows : Obligations.FaultNAndShadows := by
  unfold Obligations.FaultNAndShadows
  intro s req w n
  refine ⟨fun hpulse hover hrel => ?_, fun hpulse hover hrel hsafe => ?_, fun hserved hclass hne hhold => ⟨fun hp => ?_,
    fun hp => ?_⟩, fun hserved hclass hne hrel => ?_, fun hk => ?_, ⟨_, rfl, rfl, mem_closeShadows s.d⟩, fun hdue haxes hice => ?_⟩
  · exact next_withDev (faultPulseEnd_alone hpulse hover hrel)
  · refine ⟨_, next_withDev (faultPulseEnd_release hpulse hover hrel hsafe), ?_, ?_,
      rfl, rfl⟩
    · rw [rdB_wrB_ne _ _ _ _ (by decide)]
      exact rdB_wrB_same s.d Reg.MOR_STAT_PULSE false (by decide)
    · exact rdB_wrB_same _ Reg.MOR_STAT_FAULT false (by decide)
  · refine next_withDev ?_
    rw [morCtrlWrite_commands hserved hclass hne, morCtrlAct_release (d := okResp s.d) req (bit_setBit w 0 true) hhold hserved.2, if_neg]
    exact Bool.eq_false_iff.mp hp
  · refine next_withDev ?_
    rw [morCtrlWrite_commands hserved hclass hne, morCtrlAct_release (d := okResp s.d) req (bit_setBit w 0 true) hhold hserved.2, if_pos]
    · rfl
    · exact hp
  · refine next_withDev ?_
    rw [morCtrlWrite_commands hserved hclass hne, morCtrlAct_hold _ req hrel (bit_setBit w 1 true)]
    rfl
  · refine next_withDev ?_
    simp [faultPulseEnd, Nat.not_le.mpr hk]
  · refine next_withDev ?_
    simp [icefallBrakes, hdue, haxes, hice]

end Sys2Proof.Machine
end

section
/-!
PROOFS. One pass of Moraine (R302, R307 to R321, R326): a judged event outside every shadow, the icefall, and the statement
about a NOTE, a SEVERE and a FATAL event.
-/
namespace Sys2Proof.Machine

/-! ### Judging one event that no shadow covers -/

/-- The device once an event is counted and its source pending. -/
def counted (d : Dev) (e : MorEv) : Dev := wrBit (incWrap d Reg.MOR_EVT_CNT_CNT 1) Reg.MOR_PEND_SRC e.src true

/-- Counting an event leaves every register alone but the count and the pending bits. -/
theorem counted_within {R : Nat → Prop} (d : Dev) (e : MorEv) (hcnt : R Reg.MOR_EVT_CNT_CNT.key)
    (hpend : R (Reg.MOR_PEND_SRC (e.src / 32)).key) : RegsWithin R d (counted d e) :=
  ((RegsWithin.refl R d).wr _ hcnt).wr _ hpend

/-- The registers of a source's configuration are not among those. -/
theorem counted_srcCfg (d : Dev) (e : MorEv) (he : e.src < 384) (f : Fld) (hf : 0x10021000 * 32 ≤ f.key) :
    rd (counted d e) f = rd d f :=
  counted_within (R := fun k => k < 0x10021000 * 32) d e (by decide)
    (by simp only [Fld.key, Reg.MOR_PEND_SRC]; omega) f (by simpa using hf)

/-- No shadow is open. -/
theorem shadowOver_nil {d : Dev} (ut ui : Nat) (h : d.mor.shadows = []) : shadowOver d ut ui = none := by
  simp [shadowOver, h]

/-- What the end of judging an event does: `FAULT_N`, and the entry of the ring. -/
def judged (d : Dev) (e : MorEv) (cls r : Nat) : Dev :=
  enqueue (if r ≠ 5 ∧ rd d Reg.MOR_CTRL_FAULT_CLASS ≤ cls then faultPulse d else d) ⟨e, cls, false, false, r⟩

/-- An event of a source that does not escalate, with no shadow open. -/
theorem judge_uncovered {d : Dev} {e : MorEv} {c r : Nat} (he : e.src < 384) (hopen : d.mor.shadows = [])
    (hcls : rd d (Reg.MOR_SRC_CFG_CLASS e.src) = c) (hc : c ≠ 1)
    (hr : admitReact (counted d e) (rd d (Reg.MOR_SRC_CFG_REACT e.src)) e.ut e.ui = r) :
    judge d e = judged (react (noteLast (counted d e) e c r) e.src e.ut e.ui r) e c r := by
  have hcls' : rd (counted d e) (Reg.MOR_SRC_CFG_CLASS e.src) = c := by
    rw [counted_srcCfg d e he _ (by simp only [Fld.key, Reg.MOR_SRC_CFG_CLASS]; omega), hcls]
  have hreact : rd (counted d e) (Reg.MOR_SRC_CFG_REACT e.src) = rd d (Reg.MOR_SRC_CFG_REACT e.src) :=
    counted_srcCfg d e he _ (by simp only [Fld.key, Reg.MOR_SRC_CFG_REACT]; omega)
  have hnone : shadowOver (counted d e) e.ut e.ui = none := shadowOver_nil _ _ hopen
  have hbeq : (c == 1) = false := by simpa using hc
  unfold judge
  dsimp only
  rw [← counted, hcls', hnone, hbeq]
  simp only [Bool.false_and, Bool.false_eq_true, if_false, hc, false_and, Bool.or_self, hreact, hr]
  rfl

/-- The device with the events that a pass has taken up no longer waiting. -/
def takenUp (d : Dev) : Dev := { d with mor := { d.mor with raised := [] } }

/-- A pass over one event. -/
theorem morainePass_single {d : Dev} {e : MorEv} (h : d.mor.raised = [e]) :
    morainePass d none = judge (takenUp d) e := by
  simp [morainePass, h, insEv, takenUp]

/-- Recording the last event leaves every register alone but `MOR_LAST`. -/
theorem noteLast_within {R : Nat → Prop} (d : Dev) (e : MorEv) (c r : Nat)
    (hR : ∀ k, Reg.MOR_LAST_SRC.key ≤ k → k ≤ Reg.MOR_LAST_UINDEX.key → R k) : RegsWithin R d (noteLast d e c r) := by
  refine (((((RegsWithin.refl R d).wr _ ?_).wr _ ?_).wr _ ?_).wr _ ?_).wr _ ?_
  all_goals exact hR _ (by decide) (by decide)

/-- What `MOR_LAST` shows. -/
theorem noteLast_shows (d : Dev) (e : MorEv) (c r : Nat) (he : e.src < 384) (hc : c < 4) (hr : r < 8) :
    rd (noteLast d e c r) Reg.MOR_LAST_SRC = e.src ∧ rd (noteLast d e c r) Reg.MOR_LAST_CLASS = c ∧
    rd (noteLast d e c r) Reg.MOR_LAST_REACT = r := by
  refine ⟨?_, ?_, ?_⟩
  · simp (disch := decide) only [noteLast, rd_wr_ne, rd_wr_same, Reg.MOR_LAST_SRC]
    omega
  · simp (disch := decide) only [noteLast, rd_wr_ne, rd_wr_same, Reg.MOR_LAST_CLASS]
    omega
  · simp (disch := decide) only [noteLast, rd_wr_ne, rd_wr_same, Reg.MOR_LAST_REACT]
    omega

/-- An entry goes to the end of a queue that has room. -/
theorem enqueue_room {d : Dev} {x : MorEntry} (h : d.mor.queue.length < 512) :
    enqueue d x = { d with mor := { d.mor with queue := d.mor.queue ++ [x] } } := if_pos h

/-! ### A NOTE -/

theorem pass_note {d : Dev} {e : MorEv} (hone : d.mor.raised = [e]) (hopen : d.mor.shadows = []) (he : e.src < 384)
    (hroom : d.mor.queue.length < 512) (hcls : rd d (Reg.MOR_SRC_CFG_CLASS e.src) = 0)
    (hreact : rd d (Reg.MOR_SRC_CFG_REACT e.src) = 0) (hfault : 0 < rd d Reg.MOR_CTRL_FAULT_CLASS) :
    morainePass d none = { noteLast (counted (takenUp d) e) e 0 0 with
      mor := { d.mor with raised := [], queue := d.mor.queue ++ [⟨e, 0, false, false, 0⟩] } } := by
  have hkeep : rd (noteLast (counted (takenUp d) e) e 0 0) Reg.MOR_CTRL_FAULT_CLASS = rd d Reg.MOR_CTRL_FAULT_CLASS :=
    ((counted_within (R := fun k => k ≠ Reg.MOR_CTRL_FAULT_CLASS.key) (takenUp d) e (by decide)
      (by simp only [Fld.key, Reg.MOR_PEND_SRC, Reg.MOR_CTRL_FAULT_CLASS]; omega)).trans
      (noteLast_within _ e 0 0 (by simp only [Fld.key, Reg.MOR_LAST_SRC, Reg.MOR_CTRL_FAULT_CLASS]; omega))) _ (by simp)
  rw [morainePass_single hone, judge_uncovered (d := takenUp d) (c := 0) (r := 0) he hopen hcls (by decide) (by
    rw [show rd (takenUp d) (Reg.MOR_SRC_CFG_REACT e.src) = 0 from hreact]; rfl)]
  rw [show react (noteLast (counted (takenUp d) e) e 0 0) e.src e.ut e.ui 0 = noteLast (counted (takenUp d) e) e 0 0 from
    rfl, judged, hkeep, if_neg (by omega)]
  exact enqueue_room (d := noteLast (counted (takenUp d) e) e 0 0) hroom

/-! ### A SEVERE event on a group -/

/-- A list of fencers with a source in it. -/
def withFencer (src : Nat) (l : List Nat) : List Nat := if l.contains src then l else l ++ [src]

theorem mem_withFencer (src : Nat) (l : List Nat) : src ∈ withFencer src l := by
  unfold withFencer
  split
  · next h => simpa using h
  · simp

/-- Fencing a group sets its bit, remembers the source and orders the partner. -/
theorem fenceUnit_group (d : Dev) (src g : Nat) : fenceUnit d src 4 g =
    orderPartner { wrBit d Reg.MOR_FENCED_GRP_UNITS g true with
      mor := { d.mor with fencers := SMap.mod [] d.mor.fencers (4 * 4096 + g) (withFencer src) } } 1 4 g := by
  unfold fenceUnit
  dsimp only
  split <;> rfl

/-- An order for the partner changes neither registers nor what Moraine knows beyond the orders. -/
theorem orderPartner_keeps (d : Dev) (kind ut ui : Nat) : (orderPartner d kind ut ui).regs = d.regs ∧
    (orderPartner d kind ut ui).k = d.k ∧ ∃ o, (orderPartner d kind ut ui).mor = { d.mor with orders := o } := by
  unfold orderPartner
  split
  · exact ⟨rfl, rfl, _, rfl⟩
  · exact ⟨rfl, rfl, _, rfl⟩

/-- The one shadow over a unit where none is open. -/
theorem openShadow_alone {d : Dev} (ut ui r : Nat) {n : Nat} (hn : 0 < n) (hopen : d.mor.shadows = []) :
    openShadow d ut ui r n = { d with mor := { d.mor with shadows := [⟨ut, ui, r, some (d.k + n)⟩] } } := by
  simp [openShadow, hopen, Nat.ne_of_gt hn]

/-- A device that has fenced a group for a source: what changes beside the registers. -/
theorem fenceUnit_group_mor (d : Dev) (src g : Nat) : ∃ o, (fenceUnit d src 4 g).mor =
    { d.mor with fencers := SMap.mod [] d.mor.fencers (4 * 4096 + g) (withFencer src), orders := o } := by
  rw [fenceUnit_group]
  exact (orderPartner_keeps _ 1 4 g).2.2

theorem fenceUnit_group_regs (d : Dev) (src g : Nat) :
    (fenceUnit d src 4 g).regs = (wrBit d Reg.MOR_FENCED_GRP_UNITS g true).regs := by
  rw [fenceUnit_group]
  exact (orderPartner_keeps _ 1 4 g).1

/-- The registers that stay as they are until a SEVERE event has been dealt with: the configuration of the sources, and
`FAULT_CLASS`. -/
def severeKey (k : Nat) : Prop := k ≠ Reg.MOR_CTRL_FAULT_CLASS.key ∧ k < 0x10021000 * 32 ∨ 0x10080000 * 32 ≤ k

/-- What a pass does with the event before it fences. -/
def severeNoted (d : Dev) (e : MorEv) : Dev :=
  irq (wrB (noteLast (counted (takenUp d) e) e 2 2) Reg.MOR_STAT_IRQ_EV true) 0

theorem severeNoted_within (d : Dev) (e : MorEv) (he : e.src < 384) : RegsWithin severeKey d (severeNoted d e) := by
  refine RegsWithin.wr (RegsWithin.wrB ((RegsWithin.of_regs rfl).trans ((counted_within (takenUp d) e ?_ ?_).trans
    (noteLast_within _ e 2 2 ?_))) _ ?_) _ ?_
  · exact .inl (by decide)
  · simp only [severeKey, Fld.key, Reg.MOR_PEND_SRC, Reg.MOR_CTRL_FAULT_CLASS]; omega
  · simp only [severeKey, Fld.key, Reg.MOR_LAST_SRC, Reg.MOR_LAST_UINDEX, Reg.MOR_CTRL_FAULT_CLASS]; omega
  · exact .inl (by decide)
  · exact .inr (by decide)

/-- The device once the event has fenced its group. -/
def severeFenced (d : Dev) (e : MorEv) : Dev := fenceUnit (severeNoted d e) e.src 4 e.ui

theorem severeFenced_within (d : Dev) (e : MorEv) (he : e.src < 384) (hu : e.ui < 256) :
    RegsWithin severeKey d (severeFenced d e) := by
  refine RegsWithin.regs (RegsWithin.wr (severeNoted_within d e he) _ ?_) (fenceUnit_group_regs _ e.src e.ui)
  simp only [severeKey, Fld.key, Reg.MOR_FENCED_GRP_UNITS, Reg.MOR_CTRL_FAULT_CLASS]
  omega

/-- What Moraine knows after a pass over such an event, but for the orders to the partner. -/
def severeMor (d : Dev) (e : MorEv) (orders : List (Nat × Nat × Nat)) : MorSt :=
  { d.mor with
    raised := [], fencers := SMap.mod [] d.mor.fencers (4 * 4096 + e.ui) (withFencer e.src), orders := orders,
    shadows := [⟨4, e.ui, 2, some (d.k + rd d (Reg.MOR_SRC_CFG_SHADOW e.src))⟩], relPend := false, pulseK := d.k,
    queue := d.mor.queue ++ [⟨e, 2, false, false, 2⟩] }

/-- A pass over a SEVERE event on a group whose source is set to FENCE. -/
theorem pass_severe {d : Dev} {e : MorEv} (hone : d.mor.raised = [e]) (hopen : d.mor.shadows = []) (he : e.src < 384)
    (hut : e.ut = 4) (hu : e.ui < 256) (hroom : d.mor.queue.length < 512)
    (hcls : rd d (Reg.MOR_SRC_CFG_CLASS e.src) = 2) (hreact : rd d (Reg.MOR_SRC_CFG_REACT e.src) = 2)
    (hshadow : 0 < rd d (Reg.MOR_SRC_CFG_SHADOW e.src)) (hfault : rd d Reg.MOR_CTRL_FAULT_CLASS ≤ 2) :
    ∃ o, (morainePass d none).mor = severeMor d e o ∧ (morainePass d none).regs = (faultPulse (severeFenced d e)).regs := by
  obtain ⟨o, ho⟩ := fenceUnit_group_mor (severeNoted d e) e.src e.ui
  have hsh : rd (severeNoted d e) (Reg.MOR_SRC_CFG_SHADOW e.src) = rd d (Reg.MOR_SRC_CFG_SHADOW e.src) :=
    severeNoted_within d e he _ (by
      simp only [severeKey, Fld.key, Reg.MOR_SRC_CFG_SHADOW, Reg.MOR_CTRL_FAULT_CLASS]; omega)
  have hclass : rd (severeFenced d e) Reg.MOR_CTRL_FAULT_CLASS = rd d Reg.MOR_CTRL_FAULT_CLASS :=
    severeFenced_within d e he hu _ (by
      simp only [severeKey, Fld.key, Reg.MOR_CTRL_FAULT_CLASS]; omega)
  have hmor : (severeFenced d e).mor = { d.mor with
      raised := [], fencers := SMap.mod [] d.mor.fencers (4 * 4096 + e.ui) (withFencer e.src), orders := o } := ho
  have hk : (severeFenced d e).k = d.k := by
    rw [severeFenced, fenceUnit_group]
    exact (orderPartner_keeps _ 1 4 e.ui).2.1
  have hfenced : react (noteLast (counted (takenUp d) e) e 2 2) e.src e.ut e.ui 2 =
      openShadow (severeFenced d e) 4 e.ui 2 (rd d (Reg.MOR_SRC_CFG_SHADOW e.src)) := by
    rw [← hsh, hut]
    rfl
  rw [morainePass_single hone, judge_uncovered (d := takenUp d) (c := 2) (r := 2) he hopen hcls (by decide) (by
    rw [show rd (takenUp d) (Reg.MOR_SRC_CFG_REACT e.src) = 2 from hreact, hut]; rfl), hfenced,
    openShadow_alone 4 e.ui 2 hshadow (by rw [hmor]; exact hopen), judged, if_pos ⟨by decide, Nat.le_trans (Nat.le_of_eq hclass) hfault⟩,
    enqueue_room (by
      show (severeFenced d e).mor.queue.length < 512
      rw [hmor]; exact hroom)]
  refine ⟨o, ?_, rfl⟩
  simp only [faultPulse, wrB_mor, hmor, hk, severeMor]
  rfl

/-- What the registers show after it. -/
theorem severe_shows (d : Dev) (e : MorEv) : rdBit (faultPulse (severeFenced d e)) Reg.MOR_FENCED_GRP_UNITS e.ui = true ∧
    rdB (faultPulse (severeFenced d e)) Reg.MOR_STAT_FAULT = true ∧
    rdB (faultPulse (severeFenced d e)) Reg.MOR_STAT_PULSE = true ∧ rd (faultPulse (severeFenced d e)) Reg.MOR_LAST_REACT = 2 := by
  have hpulse : RegsWithin (fun k => k = Reg.MOR_STAT_FAULT.key ∨ k = Reg.MOR_STAT_PULSE.key) (severeFenced d e)
      (faultPulse (severeFenced d e)) := (((RegsWithin.refl _ _).wrB _ (.inl rfl)).wrB _ (.inr rfl)).mor _
  have hfence : rdBit (severeFenced d e) Reg.MOR_FENCED_GRP_UNITS e.ui = true := by
    have hset := rdBit_wrBit_same (severeNoted d e) Reg.MOR_FENCED_GRP_UNITS e.ui true rfl
    simpa only [rdBit, rd, fenceUnit_group_regs, severeFenced] using hset
  refine ⟨?_, ?_, rdB_wrB_same _ Reg.MOR_STAT_PULSE true (by decide), ?_⟩
  · rw [rdBit, hpulse _ (by
      simp only [Fld.key, Reg.MOR_FENCED_GRP_UNITS, Reg.MOR_STAT_FAULT, Reg.MOR_STAT_PULSE]; omega)]
    exact hfence
  · exact (rdB_wrB_ne (wrB (severeFenced d e) Reg.MOR_STAT_FAULT true) Reg.MOR_STAT_PULSE Reg.MOR_STAT_FAULT true
      (by decide)).trans (rdB_wrB_same _ Reg.MOR_STAT_FAULT true (by decide))
  · have hgroup : RegsWithin (fun k => k ≠ Reg.MOR_LAST_REACT.key) (severeNoted d e) (severeFenced d e) :=
      ((RegsWithin.refl _ _).wr _ (by
        simp only [Fld.key, Reg.MOR_FENCED_GRP_UNITS, Reg.MOR_LAST_REACT]; omega)).regs (fenceUnit_group_regs _ _ _)
    have hnoted : RegsWithin (fun k => k ≠ Reg.MOR_LAST_REACT.key) (noteLast (counted (takenUp d) e) e 2 2) (severeNoted d e) :=
      ((RegsWithin.refl _ _).wrB _ (by decide)).wr _ (by decide)
    rw [hpulse _ (by decide), hgroup _ (by simp), hnoted _ (by simp)]
    simp (disch := decide) only [noteLast, rd_wr_ne, rd_wr_same]
    rfl

/-! ### The icefall -/

/-- The registers of the safe outputs, the brakes and the axes. -/
def fixtureKey (k : Nat) : Prop := 0x100D0000 * 32 ≤ k

theorem outOff_within (d : Dev) (n : Nat) : RegsWithin fixtureKey d (outOff d n) := by
  unfold outOff
  exact ((RegsWithin.ite ((RegsWithin.refl _ _).wr _ (by unfold fixtureKey; decide)) (.refl _ _)).setSout n _ |>.wr _
    (by unfold fixtureKey; decide)).wr _ (by unfold fixtureKey; decide)

theorem allOutsOff_within (d : Dev) : RegsWithin fixtureKey d (allOutsOff d) :=
  .foldl _ _ (fun e n _ => outOff_within e n) d

theorem discardBrakeTest_within (d : Dev) (n : Nat) : RegsWithin fixtureKey d (discardBrakeTest d n) := by
  unfold discardBrakeTest
  refine (((RegsWithin.refl _ _).wr _ ?_).wr _ ?_ |>.wr _ ?_).wr _ ?_
  all_goals simp only [fixtureKey, Fld.key, Reg.SAFE_BRAKE_RESULT, Reg.SAFE_BRAKE_STATE, Reg.SAFE_TEST_CNT_DISCARDED, Reg.AXIS_STAT_STATE]
  all_goals omega

theorem axisStop_within (d : Dev) (n cause : Nat) : RegsWithin fixtureKey d (axisStop d n cause) := by
  unfold axisStop
  refine .ite (.ite (discardBrakeTest_within d n) (.refl _ _)) (.ite ?_ (.refl _ _))
  dsimp only
  refine (((((RegsWithin.refl _ _).wr _ ?_).wrB _ ?_).wrB _ ?_).setAxis _ _).wr _ ?_
  all_goals simp only [fixtureKey, Fld.key, Reg.AXIS_STAT_CAUSE, Reg.AXIS_STAT_HOLDING, Reg.AXIS_STAT_AT_VLIM, Reg.AXIS_STAT_STATE]
  all_goals omega

theorem axesIcefall_within (d : Dev) : RegsWithin fixtureKey d (axesIcefall d) := by
  unfold axesIcefall
  exact ((RegsWithin.foldl _ _ (fun e n _ => axisStop_within e n 4) d).trans
    (.foldl _ _ (fun e n _ => .ite ((RegsWithin.refl _ _).setAxis _ _) (.refl _ _)) _)).mor _

/-- Safe state with its source recorded and the bay quench ordered (R313, R314). -/
def IceStarted (src : Nat) (d : Dev) : Prop :=
  inSafe d = true ∧ rd d Reg.MOR_SAFE_SRC_SRC = src ∧ rd d Reg.SERAC_QUENCH_BQ = 1

/-- The registers that tell it, and the one that tells a difference of the configuration's copies. -/
def iceKey (k : Nat) : Prop :=
  k = Reg.MOR_STAT_SAFE.key ∨ k = Reg.MOR_SAFE_SRC_SRC.key ∨ k = Reg.SERAC_QUENCH_BQ.key ∨ k = Reg.MOR_STAT_CFG_PARITY.key

theorem IceStarted.within {src : Nat} {d e : Dev} (h : IceStarted src d) (hw : RegsWithin (fun k => ¬ iceKey k) d e) :
    IceStarted src e := by
  obtain ⟨hsafe, hsrc, hbq⟩ := h
  refine ⟨?_, ?_, ?_⟩
  · rw [inSafe, hw.rdB (by simp [iceKey])]
    exact hsafe
  · rw [hw _ (by simp [iceKey]), hsrc]
  · rw [hw _ (by simp [iceKey]), hbq]

theorem not_iceKey_of_fixtureKey {k : Nat} (h : fixtureKey k) : ¬ iceKey k := by
  simp only [fixtureKey, iceKey, Fld.key, Reg.MOR_STAT_SAFE, Reg.MOR_SAFE_SRC_SRC, Reg.SERAC_QUENCH_BQ,
    Reg.MOR_STAT_CFG_PARITY] at *
  omega

theorem icefallEnd_within (d : Dev) : RegsWithin (fun k => ¬ iceKey k) d (icefallEnd d) := by
  unfold icefallEnd
  dsimp only
  refine .ite ((((((RegsWithin.refl _ _).wrB _ ?_).wr _ ?_).wrB _ ?_).mor _).irq _ ?_) (.refl _ _)
  all_goals simp only [iceKey, Fld.key, Reg.MOR_STAT_SAFE, Reg.MOR_SAFE_SRC_SRC, Reg.SERAC_QUENCH_BQ, Reg.MOR_STAT_CFG_PARITY, Reg.MOR_STAT_FAULT,
    Reg.MOR_STAT_ICE_STEP, Reg.MOR_STAT_ICE_BUSY, Reg.HOST_IRQ_STAT_CAUSE]
  all_goals omega

/-- The registers that the icefall writes first. -/
theorem iceStarted_written (d : Dev) {src : Nat} (hsrc : src < 512) (hbq : rd d Reg.SERAC_QUENCH_BQ = 1) :
    IceStarted src (wr (wrB (wrB d Reg.MOR_STAT_SAFE true) Reg.SYS_PROPS_SAFE true) Reg.MOR_SAFE_SRC_SRC src) := by
  refine ⟨?_, ?_, ?_⟩
  · rw [inSafe, rdB_wr_ne _ _ _ _ (by decide), rdB_wrB_ne _ _ _ _ (by decide)]
    exact rdB_wrB_same _ Reg.MOR_STAT_SAFE true (by decide)
  · rw [rd_wr_same]
    exact Nat.mod_eq_of_lt hsrc
  · simp (disch := decide) only [rd_wr_ne, rd_wrB_ne, hbq]

theorem sendExpress_mor (d : Dev) (p : Nat) (quench : Bool) (mask : Nat) : (sendExpress d p quench mask).mor = d.mor := by
  unfold sendExpress
  split <;> rfl

theorem sendExpressAll_mor (d : Dev) (ps : List Nat) (trips : List (Nat × Nat)) : (sendExpressAll d ps trips).mor = d.mor := by
  unfold sendExpressAll
  split
  · rfl
  · refine foldl_keeps Dev.mor _ _ (fun e p => ?_) d
    dsimp only
    split
    · rfl
    · split
      · exact sendExpress_mor _ _ _ _
      · split
        · exact sendExpress_mor _ _ _ _
        · rfl

theorem markSent_mor (d : Dev) (cs : List Nat) : (markSent d cs).mor = d.mor := by
  refine foldl_keeps Dev.mor cs _ (fun e c => ?_) d
  rfl

theorem allOutsOff_mor (d : Dev) : (allOutsOff d).mor = d.mor := by
  refine foldl_keeps Dev.mor _ _ (fun e n => ?_) d
  unfold outOff
  dsimp only
  split <;> rfl

theorem axisStop_mor (d : Dev) (n cause : Nat) : (axisStop d n cause).mor = d.mor := by
  unfold axisStop
  dsimp only
  split
  · split <;> rfl
  · split <;> rfl

/-- Marking the brakes that are still energised. -/
theorem iceBrakes_mor (l : List Nat) (d : Dev) :
    (l.foldl (fun d n => if brakeOn d n then setAxis d n (fun a => { a with ice := true }) else d) d).mor = d.mor := by
  refine foldl_keeps Dev.mor l _ (fun e n => ?_) d
  split
  · rfl
  · rfl

theorem axesIcefall_raised (d : Dev) : (axesIcefall d).mor.raised = d.mor.raised := by
  unfold axesIcefall
  lift_lets
  extract_lets d1 d2 d3
  have h1 : d1.mor = d.mor := foldl_keeps Dev.mor _ _ (fun e n => axisStop_mor e n 4) d
  have h2 : d2.mor = d1.mor := iceBrakes_mor _ d1
  rw [← h1, ← h2]

theorem icefallEnd_raised (d : Dev) : (icefallEnd d).mor.raised = d.mor.raised := by
  unfold icefallEnd
  split <;> rfl

/-- The icefall begins safe state, with its source, orders the bay quench and raises no event. -/
theorem icefall_started {d : Dev} {src : Nat} (hsrc : src < 512) (hsafe : inSafe d = false) :
    IceStarted src (icefall d src) ∧ (icefall d src).mor.raised = d.mor.raised := by
  unfold icefall
  rw [if_neg (by simp [hsafe])]
  lift_lets
  extract_lets ps sent marked ordered _ bay _ _ begun axes _ stepped _ framed _ quiet
  have hbegun : IceStarted src begun ∧ begun.mor.raised = d.mor.raised :=
    ⟨iceStarted_written bay hsrc (rd_wrB_same marked Reg.SERAC_QUENCH_BQ true),
      congrArg MorSt.raised ((markSent_mor sent _).trans (sendExpressAll_mor d ps []))⟩
  clear_value begun
  have haxes : RegsWithin (fun k => ¬ iceKey k) begun axes ∧ axes.mor.raised = begun.mor.raised :=
    ⟨((allOutsOff_within begun).trans (axesIcefall_within _)).mono fun _ => not_iceKey_of_fixtureKey,
      (axesIcefall_raised _).trans (congrArg MorSt.raised (allOutsOff_mor begun))⟩
  clear_value axes
  have hstepped : RegsWithin (fun k => ¬ iceKey k) begun stepped :=
    (haxes.1.wrB _ (by unfold iceKey; decide)).wr _ (by unfold iceKey; decide)
  have hraised : stepped.mor.raised = begun.mor.raised := haxes.2
  clear_value stepped
  have hframed : framed.regs = stepped.regs ∧ framed.mor.raised = stepped.mor.raised := ⟨rfl, rfl⟩
  clear_value framed
  have hquiet : quiet.regs = framed.regs ∧ quiet.mor = framed.mor := by
    unfold quiet
    split <;> exact ⟨rfl, rfl⟩
  clear_value quiet
  have hstarted : IceStarted src quiet := hbegun.1.within (hstepped.regs (hquiet.1.trans hframed.1))
  have hnone : quiet.mor.raised = d.mor.raised := by rw [hquiet.2, hframed.2, hraised, hbegun.2]
  split
  · exact ⟨hstarted.within (icefallEnd_within _), (icefallEnd_raised _).trans hnone⟩
  · exact ⟨hstarted, hnone⟩

/-! ### Events judged in safe state -/

theorem enqueue_within (d : Dev) (x : MorEntry) : RegsWithin (fun k => ¬ iceKey k) d (enqueue d x) := by
  unfold enqueue
  refine .ite ((RegsWithin.refl _ _).mor _) ?_
  exact ((((RegsWithin.refl _ _).wr _ (by unfold iceKey; decide)).hdrPut _ _).wrB _ (by unfold iceKey; decide)).raise _ _ _ _ _

theorem faultPulse_within (d : Dev) : RegsWithin (fun k => ¬ iceKey k) d (faultPulse d) :=
  (((RegsWithin.refl _ _).wrB _ (by unfold iceKey; decide)).wrB _ (by unfold iceKey; decide)).mor _

theorem judged_within (d : Dev) (e : MorEv) (c r : Nat) : RegsWithin (fun k => ¬ iceKey k) d (judged d e c r) :=
  (RegsWithin.ite (faultPulse_within d) (.refl _ _)).trans (enqueue_within _ _)

theorem noteLast_iceKey (d : Dev) (e : MorEv) (c r : Nat) : RegsWithin (fun k => ¬ iceKey k) d (noteLast d e c r) :=
  noteLast_within d e c r (by
    simp only [iceKey, Fld.key, Reg.MOR_LAST_SRC, Reg.MOR_LAST_UINDEX, Reg.MOR_STAT_SAFE, Reg.MOR_SAFE_SRC_SRC,
      Reg.SERAC_QUENCH_BQ, Reg.MOR_STAT_CFG_PARITY]
    omega)

theorem counted_iceKey (d : Dev) (e : MorEv) : RegsWithin (fun k => ¬ iceKey k) d (counted d e) :=
  counted_within d e (by unfold iceKey; decide) (by
    simp only [iceKey, Fld.key, Reg.MOR_PEND_SRC, Reg.MOR_STAT_SAFE, Reg.MOR_SAFE_SRC_SRC, Reg.SERAC_QUENCH_BQ,
      Reg.MOR_STAT_CFG_PARITY]
    omega)

/-- A pass over a FATAL event whose source is set to SAFE, outside safe state. -/
theorem pass_fatal {d : Dev} {e : MorEv} (hone : d.mor.raised = [e]) (hopen : d.mor.shadows = []) (he : e.src < 384)
    (hsafe : inSafe d = false) (hcls : rd d (Reg.MOR_SRC_CFG_CLASS e.src) = 3)
    (hreact : rd d (Reg.MOR_SRC_CFG_REACT e.src) = 5) : IceStarted e.src (morainePass d none) := by
  have hnote : RegsWithin (fun k => ¬ iceKey k) d
      (irq (wrB (noteLast (counted (takenUp d) e) e 3 5) Reg.MOR_STAT_IRQ_EV true) 0) :=
    ((((RegsWithin.refl _ d).mor _).trans ((counted_iceKey (takenUp d) e).trans (noteLast_iceKey _ e 3 5))).wrB _
      (by unfold iceKey; decide)).irq 0 (by unfold iceKey; decide)
  have hstill : inSafe (irq (wrB (noteLast (counted (takenUp d) e) e 3 5) Reg.MOR_STAT_IRQ_EV true) 0) = false :=
    (hnote.rdB (f := Reg.MOR_STAT_SAFE) (by simp [iceKey])).trans hsafe
  rw [morainePass_single hone, judge_uncovered (d := takenUp d) (c := 3) (r := 5) he hopen hcls (by decide) (by
    rw [show rd (takenUp d) (Reg.MOR_SRC_CFG_REACT e.src) = 5 from hreact]; rfl)]
  exact ((icefall_started (by omega) hstill).1.within ((RegsWithin.refl _ _).mor _)).within (judged_within _ e 3 5)

/-- Safe state after a difference of the configuration's copies. -/
def IceHeld (src : Nat) (d : Dev) : Prop := IceStarted src d ∧ rdB d Reg.MOR_STAT_CFG_PARITY = true

theorem IceHeld.within {src : Nat} {d e : Dev} (h : IceHeld src d) (hw : RegsWithin (fun k => ¬ iceKey k) d e) :
    IceHeld src e :=
  ⟨h.1.within hw, (hw.rdB (by simp [iceKey])).trans h.2⟩

theorem IceHeld.ite {src : Nat} {d e : Dev} {p : Prop} [Decidable p] (h : IceHeld src d) (h' : IceHeld src e) :
    IceHeld src (if p then d else e) := by
  split
  · exact h
  · exact h'

/-- The event of a device as a whole is answered with neither FENCE nor the quench of a zone. -/
theorem admitReact_device (d : Dev) (r ui : Nat) : admitReact d r 0 ui ≠ 2 ∧ admitReact d r 0 ui ≠ 3 := by
  unfold admitReact
  split
  · decide
  · split
    · decide
    · next h2 h3 => exact ⟨fun h => h2 ⟨h, rfl⟩, fun h => h3 ⟨h, rfl⟩⟩

theorem openShadow_regs (d : Dev) (ut ui r n : Nat) : (openShadow d ut ui r n).regs = d.regs := by
  unfold openShadow
  split <;> rfl

/-- In safe state the bay quench sends no express frame (R314). -/
theorem orderBayQuench_held {src : Nat} {d : Dev} (cause : Nat) (h : IceHeld src d) : IceHeld src (orderBayQuench d cause) := by
  have hmark (e : Dev) (cs : List Nat) : (markSent e cs).regs = e.regs := by
    refine foldl_keeps Dev.regs cs _ (fun _ _ => ?_) e
    rfl
  obtain ⟨⟨hsafe, hsrc, -⟩, hparity⟩ := h
  have hordered : IceHeld src (wrB d Reg.SERAC_QUENCH_BQ true) := by
    refine ⟨⟨?_, ?_, rd_wrB_same _ _ true⟩, ?_⟩
    · rw [inSafe, rdB_wrB_ne _ _ _ _ (by decide)]
      exact hsafe
    · rw [rd_wrB_ne _ _ _ _ (by decide), hsrc]
    · rw [rdB_wrB_ne _ _ _ _ (by decide), hparity]
  have hsilent (e : Dev) (he : inSafe e = true) (l : List Nat) : sendExpressAll e l [] = e := if_pos he
  unfold orderBayQuench
  lift_lets
  extract_lets ordered _ bay sent
  have hbay : IceHeld src bay := hordered.within ((RegsWithin.refl _ ordered).ser _)
  have hsent : sent = bay := hsilent _ hbay.1.1 _
  rw [hsent]
  exact hbay.within (.of_regs (hmark _ _))

/-- Whatever reaction follows an event of the whole device, the safe state stands as it began. -/
theorem react_held {src : Nat} {d : Dev} (s ui : Nat) {r : Nat} (h : IceHeld src d) (hr : r ≠ 2 ∧ r ≠ 3) :
    IceHeld src (react d s 0 ui r) := by
  have hirq : IceHeld src (if r = 0 then d else irq (wrB d Reg.MOR_STAT_IRQ_EV true) 0) :=
    h.within (.ite (.refl _ _) (((RegsWithin.refl _ _).wrB _ (by unfold iceKey; decide)).irq 0 (by unfold iceKey; decide)))
  unfold react
  dsimp only
  generalize (if r = 0 then d else irq (wrB d Reg.MOR_STAT_IRQ_EV true) 0) = noted at hirq ⊢
  split
  · exact absurd rfl hr.1
  · exact absurd rfl hr.2
  · exact (orderBayQuench_held cMor hirq).within ((RegsWithin.of_regs (orderPartner_keeps _ 4 0 0).1).trans
      (.of_regs (openShadow_regs _ _ _ _ _)))
  · rw [icefall, if_pos hirq.1.1]
    exact hirq.within ((RegsWithin.refl _ _).mor _)
  · exact hirq

/-- Counting an event of a source writes no other register than its escalation bit. -/
theorem countEvent_within (d : Dev) (src now : Nat) :
    RegsWithin (fun k => ¬ iceKey k) d (countEvent d src now).2 := by
  unfold countEvent
  lift_lets
  extract_lets n w ts m d1 hit
  have h1 : RegsWithin (fun k => ¬ iceKey k) d d1 := (RegsWithin.refl _ _).mor _
  clear_value d1
  refine .ite (h1.wr _ ?_) h1
  simp only [iceKey, Fld.key, Reg.MOR_ESC_SRC, Reg.MOR_STAT_SAFE, Reg.MOR_SAFE_SRC_SRC, Reg.SERAC_QUENCH_BQ,
    Reg.MOR_STAT_CFG_PARITY]
  omega

/-- Judging an event of the whole device in safe state. -/
theorem judge_held {src : Nat} {d : Dev} {e : MorEv} (hut : e.ut = 0) (h : IceHeld src d) : IceHeld src (judge d e) := by
  have hcounted : IceHeld src (counted d e) := h.within (counted_iceKey d e)
  have hconseq (d : Dev) : RegsWithin (fun k => ¬ iceKey k) d (incSat d Reg.MOR_CONSEQ_CNT_CNT 1) :=
    (RegsWithin.refl _ _).wr _ (by unfold iceKey; decide)
  unfold judge
  dsimp only
  rw [← counted, hut]
  generalize counted d e = noted at hcounted ⊢
  refine .ite ((hcounted.within (hconseq noted)).within (enqueue_within _ _)) ?_
  generalize hcount : (if rd noted (Reg.MOR_SRC_CFG_CLASS e.src) = 1 ∧
    (rd noted (Reg.MOR_SRC_CFG_CLASS e.src) == 1 && rdBit noted Reg.MOR_ESC_SRC e.src) = false then
    countEvent noted e.src (e.k * 50000 + e.subt) else (false, noted)) = p
  have hp : IceHeld src p.2 := by
    rw [← hcount]
    split
    · exact hcounted.within (countEvent_within _ _ _)
    · exact hcounted
  have hreact (cls r : Nat) (hr : r ≠ 2 ∧ r ≠ 3) := react_held e.src e.ui (hp.within (noteLast_iceKey p.2 e cls r)) hr
  exact ((hreact _ _ (admitReact_device _ _ _)).within (.ite (faultPulse_within _) (.refl _ _))).within (enqueue_within _ _)

/-- A pass that finds a difference of the configuration's copies, outside safe state. -/
theorem pass_parity {d : Dev} (w : Nat) (hnone : d.mor.raised = []) (hsafe : inSafe d = false) :
    IceHeld Src.MOR_CFG_PARITY (morainePass d (some w)) := by
  obtain ⟨hstarted, hraised⟩ := icefall_started (d := d) (src := Src.MOR_CFG_PARITY) (by decide) hsafe
  have hflag : RegsWithin (fun k => k = Reg.MOR_STAT_CFG_PARITY.key) (icefall d Src.MOR_CFG_PARITY)
      (wrB (icefall d Src.MOR_CFG_PARITY) Reg.MOR_STAT_CFG_PARITY true) := (RegsWithin.refl _ _).wrB _ rfl
  obtain ⟨hin, hsrc, hbq⟩ := hstarted
  have hheld : IceHeld Src.MOR_CFG_PARITY (wrB (icefall d Src.MOR_CFG_PARITY) Reg.MOR_STAT_CFG_PARITY true) := by
    refine ⟨⟨?_, ?_, ?_⟩, rdB_wrB_same _ Reg.MOR_STAT_CFG_PARITY true (by decide)⟩
    · rw [inSafe, hflag.rdB (by decide)]
      exact hin
    · rw [hflag _ (by decide), hsrc]
    · rw [hflag _ (by decide), hbq]
  have hpass : morainePass d (some w) =
      morainePass (raise (wrB (icefall d Src.MOR_CFG_PARITY) Reg.MOR_STAT_CFG_PARITY true) Src.MOR_CFG_PARITY 0 0 w 0) none := rfl
  rw [hpass]
  generalize icefall d Src.MOR_CFG_PARITY = i at hraised hheld ⊢
  have hone : (raise (wrB i Reg.MOR_STAT_CFG_PARITY true) Src.MOR_CFG_PARITY 0 0 w 0).mor.raised =
      [⟨Src.MOR_CFG_PARITY, 0, 0, w % 2 ^ 32, 0, i.k, freeVal i % 50000, false⟩] := by
    rw [raise_raised, wrB_mor, hraised, hnone]
    rfl
  rw [morainePass_single hone]
  exact judge_held rfl (hheld.within (((RegsWithin.refl _ _).raise _ _ _ _ _).mor _))

/-- Settles O16: each of the three kinds of event is judged outside every shadow; the icefall keeps the registers that show
it, whatever is judged after it. -/
theorem morainePassJudges : Obligations.MorainePass := by
  unfold Obligations.MorainePass
  refine ⟨fun s e hone hopen he hroom hcls hreact hfault => ?_,
    fun s e hone hopen he hut hu hroom hcls hreact hshadow hfault => ?_, fun s e w => ⟨fun hone hopen he hsafe hcls hreact => ?_,
    fun hnone hsafe => ?_⟩⟩
  · have hpass := pass_note hone hopen he hroom hcls hreact hfault
    have hlast := noteLast_shows (counted (takenUp s.d) e) e 0 0 he (by decide) (by decide)
    have hkeep : RegsWithin (fun k => Reg.MOR_LAST_SRC.key ≤ k ∧ k ≤ Reg.MOR_LAST_UINDEX.key) (counted (takenUp s.d) e)
        (noteLast (counted (takenUp s.d) e) e 0 0) := noteLast_within _ e 0 0 fun k hlo hhi => ⟨hlo, hhi⟩
    refine ⟨s.withDev (morainePass s.d none), rfl, rfl, ?_⟩
    show _ ∧ _
    rw [hpass]
    refine ⟨rfl, rfl, ?_, ?_, hlast.1, hlast.2.1, ?_, rfl, rfl⟩
    · refine (hkeep Reg.MOR_EVT_CNT_CNT (by decide)).trans ?_
      rw [counted, wrBit, rd_wr_ne _ _ _ _ (by simp only [Fld.key, Reg.MOR_EVT_CNT_CNT, Reg.MOR_PEND_SRC]; omega)]
      exact rd_wr_same _ _ _
    · have hpend := rdBit_wrBit_same (incWrap (takenUp s.d) Reg.MOR_EVT_CNT_CNT 1) Reg.MOR_PEND_SRC e.src true rfl
      rw [← counted, rdBit, ← hkeep (Reg.MOR_PEND_SRC (e.src / 32)) (by
        simp only [Fld.key, Reg.MOR_PEND_SRC, Reg.MOR_LAST_SRC, Reg.MOR_LAST_UINDEX]; omega)] at hpend
      exact hpend
    · refine (hkeep.rdB (f := Reg.MOR_STAT_FAULT) (by decide)).trans ?_
      exact (counted_within (R := fun k => Reg.MOR_STAT_FAULT.key < k) (takenUp s.d) e (by decide)
        (by simp only [Fld.key, Reg.MOR_PEND_SRC, Reg.MOR_STAT_FAULT]; omega)).rdB (by decide)
  · obtain ⟨o, hmor, hregs⟩ := pass_severe hone hopen he hut hu hroom hcls hreact hshadow hfault
    obtain ⟨hfence, hlow, hpulse, hlast⟩ := severe_shows s.d e
    have hrd (f : Fld) : rd (morainePass s.d none) f = rd (faultPulse (severeFenced s.d e)) f := by rw [rd, rd, hregs]
    refine ⟨_, rfl, rfl, ?_, ?_, ?_, ?_, ?_, ?_, ?_⟩
    · exact (congrArg (fun x => bit x (e.ui % 32)) (hrd _)).trans hfence
    · show e.src ∈ SMap.get [] (morainePass s.d none).mor.fencers (4 * 4096 + e.ui)
      rw [hmor, severeMor, SMap.get_mod_same]
      exact mem_withFencer _ _
    · exact congrArg MorSt.shadows hmor
    · exact (congrArg (fun x => x % 2 == 1) (hrd Reg.MOR_STAT_FAULT)).trans hlow
    · exact (congrArg (fun x => x % 2 == 1) (hrd Reg.MOR_STAT_PULSE)).trans hpulse
    · exact (hrd _).trans hlast
    · exact congrArg MorSt.queue hmor
  · have h := pass_fatal hone hopen he hsafe hcls hreact
    exact ⟨_, rfl, rfl, h⟩
  · obtain ⟨h, hparity⟩ := pass_parity w hnone hsafe
    exact ⟨_, rfl, rfl, h.1, h.2.1, h.2.2, hparity⟩

end Sys2Proof.Machine
end

section
/-!
PROOFS. Software and injected events, unfences, the pending bits and the event ring (R303, R311, R320, R322 to R324).
-/
namespace Sys2Proof.Machine

/-! ### The registers of the commands -/

theorem regFind_morInj : regFind 0x10020020 = some (⟨0x10020020, [], .device,
    [⟨fun _ _ _ => Reg.MOR_INJ_SRC, .rws, none⟩, ⟨fun _ _ _ => Reg.MOR_INJ_UTYPE, .rws, none⟩,
     ⟨fun _ _ _ => Reg.MOR_INJ_UINDEX, .rws, none⟩, ⟨fun _ _ _ => Reg.MOR_INJ_GO, .wo, none⟩]⟩, []) := rfl

theorem regFind_morRaise : regFind 0x10020024 = some (⟨0x10020024, [], .device,
    [⟨fun _ _ _ => Reg.MOR_RAISE_SW, .rw, none⟩, ⟨fun _ _ _ => Reg.MOR_RAISE_UTYPE, .rw, none⟩,
     ⟨fun _ _ _ => Reg.MOR_RAISE_UINDEX, .rw, none⟩, ⟨fun _ _ _ => Reg.MOR_RAISE_GO, .wo, none⟩]⟩, []) := rfl

theorem regFind_morUnfence : regFind 0x1002002C = some (⟨0x1002002C, [], .device,
    [⟨fun _ _ _ => Reg.MOR_UNFENCE_UTYPE, .rw, none⟩, ⟨fun _ _ _ => Reg.MOR_UNFENCE_UINDEX, .rw, none⟩,
     ⟨fun _ _ _ => Reg.MOR_UNFENCE_GO, .wo, none⟩]⟩, []) := rfl

theorem regFind_morLogRd : regFind 0x10020030 = some (⟨0x10020030, [], .device,
    [⟨fun _ _ _ => Reg.MOR_LOG_RD_RD, .rw, none⟩]⟩, []) := rfl

theorem regFind_morPend {i : Nat} (hi : i < 12) : regFind (0x10020080 + 4 * i) = some (⟨0x10020080, [(12, 4)], .device,
    [⟨fun n _ _ => Reg.MOR_PEND_SRC n, .w1c, none⟩]⟩, [i]) := by
  revert i
  show HoldsBelow _ _
  iterate 12 refine .succ ?_ rfl
  exact .zero

/-- A bit that is set already is as setting it leaves it. -/
theorem setBit_of_bit {w i : Nat} (h : bit w i = true) : setBit w i true = w := by simp [setBit, h]

/-- A write with the GO of `MOR_RAISE`. -/
theorem exec_morRaise {s : State} {req : Requester} {w : Nat} (hgo : bit w 31 = true) (h : s.served req 0x10020024) :
    exec (.morRaise req w) s = .next (s.withDev (
      if !unitOk (bits w 12 4) (bits w 16 12) then refuseW s.d req 0x10020024
      else raise (writeFields s.d req 0x10020024 w) (8 + bits w 0 3) (bits w 12 4) (bits w 16 12)
        (rd s.d Reg.MOR_RAISE_DATA_DATA) 0)) := by
  refine next_withDev ?_
  rw [setBit_of_bit hgo]
  unfold morRaise
  exact regAccess_served w _ h

/-- A write with the GO of `MOR_INJ`. -/
theorem exec_morInj {s : State} {req : Requester} {w : Nat} (hgo : bit w 31 = true) (h : s.served req 0x10020020) :
    exec (.morInj req w) s = .next (s.withDev (
      if !allMaint s.d || !morAssigned (bits w 0 9) || (morUnit (bits w 0 9) != 0xF && morUnit (bits w 0 9) != bits w 12 4) ||
        !unitOk (bits w 12 4) (bits w 16 12) then refuseW s.d req 0x10020020
      else inject (writeFields s.d req 0x10020020 w) (bits w 0 9) (bits w 12 4) (bits w 16 12))) := by
  refine next_withDev ?_
  rw [setBit_of_bit hgo]
  unfold morInj
  exact regAccess_served w _ h

/-- A write with the GO of `MOR_UNFENCE`. -/
theorem exec_morUnfence {s : State} {req : Requester} {w : Nat} (hgo : bit w 31 = true) (h : s.served req 0x1002002C) :
    exec (.morUnfence req w) s = .next (s.withDev (
      if unfenceRefused (writeFields s.d req 0x1002002C w) (bits w 0 4) (bits w 4 12) then
        refuseW (wrB (writeFields s.d req 0x1002002C w) Reg.MOR_STAT_UNFENCE_REF true) req 0x1002002C
      else { writeFields s.d req 0x1002002C w with
        mor := { (writeFields s.d req 0x1002002C w).mor with
          unfence := (writeFields s.d req 0x1002002C w).mor.unfence ++ [bits w 0 4 * 4096 + bits w 4 12] } })) := by
  refine next_withDev ?_
  rw [setBit_of_bit hgo]
  unfold morUnfence
  exact regAccess_served w _ h

/-- `MOR_RAISE` and its kin write their fields and change nothing else before they act. -/
theorem writeFields_morRaise (d : Dev) (req : Requester) (w : Nat) :
    ∃ m, writeFields d req 0x10020024 w = okResp { d with regs := m } := by
  obtain ⟨m, hm, -⟩ := writeFields_takes (d := d) req w regFind_morRaise rfl rfl rfl
  exact ⟨m, hm⟩

theorem writeFields_morInj {d : Dev} (req : Requester) (w : Nat) (h : allMaint d = true) :
    ∃ m, writeFields d req 0x10020020 w = okResp { d with regs := m } := by
  have hopen : rwsOpen d ⟨0x10020020, [], .device,
    [⟨fun _ _ _ => Reg.MOR_INJ_SRC, .rws, none⟩, ⟨fun _ _ _ => Reg.MOR_INJ_UTYPE, .rws, none⟩,
     ⟨fun _ _ _ => Reg.MOR_INJ_UINDEX, .rws, none⟩, ⟨fun _ _ _ => Reg.MOR_INJ_GO, .wo, none⟩]⟩ [] = true := h
  obtain ⟨m, hm, -⟩ := writeFields_takes (d := d) req w regFind_morInj rfl rfl (by
    simp [fldRefused, fldOpen, hopen])
  exact ⟨m, hm⟩

/-- A field takes a written value as its width cuts it. -/
theorem wr_mod (d : Dev) (f : Fld) (v : Nat) : wr d f (v % 2 ^ f.wd) = wr d f v := by rw [wr, wr, Nat.mod_mod]

theorem writeFields_morLogRd (d : Dev) (req : Requester) (w : Nat) :
    writeFields d req 0x10020030 w = okResp (wr d Reg.MOR_LOG_RD_RD w) := by
  have hval : fldVal Reg.MOR_LOG_RD_RD w = w % 2 ^ 32 := by
    simp only [fldVal, bits, Reg.MOR_LOG_RD_RD, Nat.pow_zero, Nat.div_one]
  rw [writeFields_row req w regFind_morLogRd rfl rfl rfl, ← wr_mod d Reg.MOR_LOG_RD_RD w]
  exact congrArg (fun v => okResp (wr d Reg.MOR_LOG_RD_RD v)) hval

theorem writeFields_morUnfence (d : Dev) (req : Requester) (w : Nat) :
    (∃ m, writeFields d req 0x1002002C w = okResp { d with regs := m }) ∧
    RegsWithin (fun k => k / 32 = 0x1002002C) d (writeFields d req 0x1002002C w) := by
  obtain ⟨m, hm, hkeep⟩ := writeFields_takes (d := d) req w regFind_morUnfence rfl rfl rfl
  exact ⟨⟨m, hm⟩, hkeep _ (by decide)⟩

/-! ### The pending bits -/

/-- A write of a pending register carries no command. -/
theorem regWrite_morPend (d : Dev) (req : Requester) {i : Nat} (w : Nat) (hi : i < 12) :
    regWrite d req (0x10020080 + 4 * i) w = plainWrite d req (0x10020080 + 4 * i) w := by
  revert i
  show HoldsBelow _ _
  iterate 12 refine .succ ?_ rfl
  exact .zero

/-- The keys of the pending bits. -/
def pendKey (k : Nat) : Prop := 0x10020080 * 32 ≤ k ∧ k < 0x10020100 * 32

/-- The causes that stand are told by other registers than the pending bits. -/
theorem standing_congr {d e : Dev} (hrd : RegsWithin pendKey d e) (hnet : e.net = d.net) (hfirn : e.firn = d.firn)
    (hhost : e.host = d.host) (haux : e.aux = d.aux) (hrime : e.rime = d.rime) (hk : e.k = d.k) (hfree : e.free = d.free)
    (src : Nat) : standing e src = standing d src := by
  have hread (f : Fld) (h : 0x10020100 * 32 ≤ f.key ∨ f.key < 0x10020080 * 32) : rd e f = rd d f :=
    hrd f (by simp only [pendKey]; omega)
  have hke (n : Nat) : rd e (Reg.AXIS_STAT_ABNORMAL_KE n) = rd d (Reg.AXIS_STAT_ABNORMAL_KE n) :=
    hread _ (.inl (by simp only [Fld.key, Reg.AXIS_STAT_ABNORMAL_KE]; omega))
  simp only [standing, openInputs, conv, senseUs, nowNs, tickNs, freeVal, axesOf, img, netLevel, rdB, rdFBit, hnet, hfirn,
    hhost, haux, hrime, hk, hfree, hke, hread Reg.NET_BUS_MV_SAMPLE (by decide), hread Reg.NET_THR_LOW_MV (by decide),
    hread Reg.NET_BUS_MEAN_MEAN (by decide), hread Reg.NET_STAT_LEVEL (by decide), hread Reg.PWR_STAT_CLK_RC (by decide),
    hread Reg.PWR_STAT_REFCLK_OK (by decide), hread Reg.DRC_SCRUB_PASS (by decide), hread Reg.AUX_OPEN_LO_INPUTS (by decide),
    hread Reg.AUX_OPEN_HI_INPUTS (by decide), hread Reg.RIMEL_STAT_GCLK_FAIL (by decide)]
  rfl

/-- With no cause of the word's sources standing, no pending bit sets again. -/
theorem pendSet_quiet {was d : Dev} {i : Nat} (h : ∀ n < 32, standing d (32 * i + n) = []) : pendSet was d i = d := by
  unfold pendSet
  refine List.foldlRecOn (List.range 32) _ (motive := fun e => e = d) rfl fun e he n hn => ?_
  rw [he]
  simp [h n (List.mem_range.mp hn)]

/-- No rule of the page stops a write of a pending register, and what follows it is the causes that stand. -/
theorem morPend_rules (d was e : Dev) (req : Requester) {i : Nat} (w : Nat) (hi : i < 12) :
    wholeRefused d req (0x10020080 + 4 * i) = false ∧ writeIgnored d (0x10020080 + 4 * i) = false ∧
    pageBad d (0x10020080 + 4 * i) w = false ∧ morConfig (0x10020080 + 4 * i) = false ∧
    groupState (0x10020080 + 4 * i) = false ∧ pairState (0x10020080 + 4 * i) = false ∧
    ruleFault d (0x10020080 + 4 * i) w = false ∧ crossFault d (0x10020080 + 4 * i) w = false ∧
    afterWrite was e (0x10020080 + 4 * i) w = pendSet was e i := by
  revert i
  show HoldsBelow _ _
  iterate 12 refine .succ ?_ ⟨rfl, rfl, rfl, rfl, rfl, rfl, rfl, rfl, rfl⟩
  exact .zero

/-- A served write of a pending register, its causes over, clears the bits written 1. -/
theorem plainWrite_morPend {s : State} {req : Requester} {i : Nat} (w : Nat) (hi : i < 12)
    (h : s.served req (0x10020080 + 4 * i)) (hquiet : ∀ n < 32, standing s.d (32 * i + n) = []) :
    plainWrite s.d req (0x10020080 + 4 * i) w = okResp (wr s.d (Reg.MOR_PEND_SRC i)
      (rd s.d (Reg.MOR_PEND_SRC i) - (rd s.d (Reg.MOR_PEND_SRC i) &&& w % 2 ^ 32))) := by
  obtain ⟨hwhole, hignored, hpage, hconf, hgroup, hpair, hrule, hcross, hafter⟩ :=
    morPend_rules s.d s.d (writeFields s.d req (0x10020080 + 4 * i) w) req w hi
  have hlow : ¬ 0x10030100 ≤ 0x10020080 + 4 * i := by omega
  have hwritten : writeFields s.d req (0x10020080 + 4 * i) w = okResp (wr s.d (Reg.MOR_PEND_SRC i)
      (rd s.d (Reg.MOR_PEND_SRC i) - (rd s.d (Reg.MOR_PEND_SRC i) &&& w % 2 ^ 32))) := by
    rw [writeFields_row req w (regFind_morPend hi) rfl hcross rfl]
    simp only [List.foldl_cons, List.foldl_nil, fldWrite, fldVal, FldRow.at, List.getD_cons_zero, Reg.MOR_PEND_SRC, bits,
      Nat.pow_zero, Nat.div_one]
  have hkeep : RegsWithin pendKey s.d (okResp (wr s.d (Reg.MOR_PEND_SRC i)
      (rd s.d (Reg.MOR_PEND_SRC i) - (rd s.d (Reg.MOR_PEND_SRC i) &&& w % 2 ^ 32)))) :=
    (RegsWithin.refl _ _).wr (f := Reg.MOR_PEND_SRC i) _ (by simp only [pendKey, Fld.key, Reg.MOR_PEND_SRC]; omega)
  rw [plainWrite, regAccess_served w _ h]
  simp only [hwhole, hignored, hpage, hconf, hgroup, hpair, hrule, hlow, Bool.and_false, Bool.or_false, false_and, Bool.false_eq_true,
    if_false, hafter]
  rw [hwritten]
  refine pendSet_quiet fun n hn => ?_
  rw [standing_congr hkeep rfl rfl rfl rfl rfl rfl rfl, hquiet n hn]

/-! ### The event ring -/

@[simp] theorem natLE_length (n v : Nat) : (natLE n v).length = n := by
  induction n generalizing v with
  | zero => rfl
  | succ n ih => rw [natLE, List.length_cons, ih]

theorem entryBytes_length (x : MorEntry) (seq : Nat) : (entryBytes x seq).length = 32 := by
  simp [entryBytes]

/-- A list of bytes reads as it was written. -/
theorem Memory.readList_writeList_same (m : Memory) (a : Nat) (bs : List (BitVec 8)) :
    Memory.readList (Memory.writeList m a bs) a bs.length = bs := by
  induction bs generalizing m a with
  | nil => rfl
  | cons b bs ih =>
    rw [Memory.writeList, List.length_cons, Memory.readList, ih, Memory.read_writeList_outside _ _ _ _ (.inl (by omega)),
      Memory.read_write_same]

/-- A list of bytes reads as before where every one of its bytes does. -/
theorem Memory.readList_congr {m m' : Memory} {a n : Nat}
    (h : ∀ x, a ≤ x → x < a + n → Memory.readByte m' x = Memory.readByte m x) : Memory.readList m' a n = Memory.readList m a n := by
  induction n generalizing a with
  | zero => rfl
  | succ n ih =>
    rw [Memory.readList, Memory.readList, h a (by omega) (by omega), ih fun x hlo hhi => h x (by omega) (by omega)]

/-- The four words of the ring's header, written in order. -/
def headerWritten (m : Memory) (v0 v1 v2 v4 : Nat) : Memory :=
  Memory.writeLE (Memory.writeLE (Memory.writeLE (Memory.writeLE m 0x77FC0 4 v0) 0x77FC4 4 v1) 0x77FC8 4 v2) 0x77FD0 4 v4

theorem readByte_headerWritten (m : Memory) (v0 v1 v2 v4 : Nat) {a : Nat} (h : a < 0x77FC0 ∨ 0x78000 ≤ a) :
    Memory.readByte (headerWritten m v0 v1 v2 v4) a = Memory.readByte m a := by
  unfold headerWritten
  rw [Memory.read_writeLE_outside _ _ _ _ _ (by omega), Memory.read_writeLE_outside _ _ _ _ _ (by omega),
    Memory.read_writeLE_outside _ _ _ _ _ (by omega), Memory.read_writeLE_outside _ _ _ _ _ (by omega)]

/-- The oldest entry written to a ring that has room, with host ring 0 off. -/
theorem eventRingWrite_room {d : Dev} {x : MorEntry} {q : List MorEntry} (hq : d.mor.queue = x :: q)
    (hoff : (hring d 0).en = false)
    (hroom : (rd d Reg.MOR_LOG_WRITTEN_CNT + 2 ^ 32 - rd d Reg.MOR_LOG_RD_RD) % 2 ^ 32 ≠ 1024) : ∃ v0 v1 v2 v4,
    eventRingWrite d = { incWrap d Reg.MOR_LOG_WRITTEN_CNT 1 with
      mor := { d.mor with queue := q }
      neve := headerWritten (Memory.writeList d.neve (0x78000 + 32 * (rd d Reg.MOR_LOG_WRITTEN_CNT % 1024))
        (entryBytes x (rd d Reg.MOR_LOG_WRITTEN_CNT))) v0 v1 v2 v4 } := by
  have hput (e : Dev) (b : List Byte) (he : e.host = d.host) : ring0Put e b = e := by
    rw [ring0Put, if_pos]
    simpa [hring, he] using hoff
  unfold eventRingWrite
  split
  · next h => exact absurd (hq.symm.trans h) (by simp)
  · next y p h =>
    obtain ⟨rfl, rfl⟩ : x = y ∧ q = p := by simpa using hq.symm.trans h
    lift_lets
    extract_lets mor taken wn full counted b entered written h0 h4 h8 h16 after
    have hcounted : counted = taken := if_neg fun h => hroom (of_decide_eq_true h)
    clear_value counted
    subst hcounted
    refine ⟨(wn + 1) % 1024, rd h0 Reg.MOR_LOG_WRITTEN_CNT, rd h4 Reg.MOR_LOG_LOST_CNT, rd h8 Reg.MOR_LOG_RD_RD,
      (hput h16 b rfl).trans ?_⟩
    simp only [h16, h8, h4, h0, written, entered, after, taken, b, wn, mor, hdrPut, headerWritten, incWrap, wr, rd,
      ringHdr, ringBase, Nat.reduceAdd]

/-- Settles O18: each command is judged in its own write; the ring's entry lies apart from its header. -/
theorem moraineCommandsAndRing : Obligations.MoraineCommandsAndRing := by
  unfold Obligations.MoraineCommandsAndRing
  refine ⟨fun s req w hgo => ⟨fun hserved hunit => ?raise, fun hserved hunit => ?raiseRefused,
    fun hserved hmaint hsrc hfit hunit => ?inject, fun hserved hut hown hclear => ?unfence⟩,
    fun s req w i x q => ⟨fun hi hserved hquiet => ?pending, fun hserved => ?read, fun hq hoff hroom => ?ring⟩⟩
  case raise =>
    obtain ⟨m, hm⟩ := writeFields_morRaise s.d req w
    refine ⟨_, exec_morRaise hgo hserved, ?_, rfl⟩
    rw [hunit, hm]
    rfl
  case raiseRefused =>
    rw [exec_morRaise hgo hserved, hunit]
    rfl
  case inject =>
    obtain ⟨m, hm⟩ := writeFields_morInj req w hmaint
    refine ⟨_, exec_morInj hgo hserved, ?_⟩
    rw [hmaint, hsrc, hfit, hunit, hm]
    simp only [bne_self_eq_false, Bool.and_false, Bool.not_true, Bool.or_self, Bool.false_eq_true, if_false]
    rfl
  case unfence =>
    obtain ⟨⟨m, hm⟩, hkeep⟩ := writeFields_morUnfence s.d req w
    have hown' : ownFence (writeFields s.d req 0x1002002C w) 4 (bits w 4 12) = true := by
      refine (congrArg (fun v => bit v (bits w 4 12 % 32)) (hkeep _ ?_)).trans hown
      simp only [Fld.key, Reg.MOR_FENCED_GRP_UNITS]
      omega
    have hsafe : inSafe (writeFields s.d req 0x1002002C w) = false := (hkeep.rdB (by decide)).trans hserved.2
    have hmor : (writeFields s.d req 0x1002002C w).mor = s.d.mor := by rw [hm]; rfl
    have hallowed : unfenceRefused (writeFields s.d req 0x1002002C w) (bits w 0 4) (bits w 4 12) = false := by
      simp [unfenceRefused, hut, hown', hsafe, hmor, hclear]
    refine ⟨_, exec_morUnfence hgo hserved, ?_⟩
    rw [if_neg (by simp [hallowed])]
    exact ⟨by rw [hut, hmor], hown'⟩
  case pending =>
    have hdev : devWrite s.d req (0x10020080 + 4 * i) w = okResp (wr s.d (Reg.MOR_PEND_SRC i)
        (rd s.d (Reg.MOR_PEND_SRC i) - (rd s.d (Reg.MOR_PEND_SRC i) &&& w % 2 ^ 32))) := by
      rw [devWrite_register w hserved.1 (by omega) (by omega), regWrite_morPend _ _ _ hi, plainWrite_morPend w hi hserved hquiet]
    exact congrArg Host.Outcome.next ((busWrite_device req w (by omega) (by omega)).trans (by rw [hdev]))
  case read =>
    refine next_withDev ?_
    rw [morLogRd, regAccess_served w _ hserved, writeFields_morLogRd]
    dsimp only
    rw [rd_okResp, rd_wr_same]
    rfl
  case ring =>
    obtain ⟨v0, v1, v2, v4, hring⟩ := eventRingWrite_room hq hoff hroom
    refine ⟨_, next_withDev hring, rfl, rfl, ?_, ?_, ?_, fun a hhdr hentry => ?_⟩
    · exact rd_wr_same s.d Reg.MOR_LOG_WRITTEN_CNT _
    · exact rd_wr_ne s.d Reg.MOR_LOG_WRITTEN_CNT Reg.MOR_LOG_LOST_CNT _ (by decide)
    · rw [Memory.readList_congr fun a hlo hhi => readByte_headerWritten _ v0 v1 v2 v4 (by omega),
        ← entryBytes_length x (rd s.d Reg.MOR_LOG_WRITTEN_CNT), Memory.readList_writeList_same]
    · rw [readByte_headerWritten _ v0 v1 v2 v4 hhdr, Memory.read_writeList_outside _ _ _ _ (by rw [entryBytes_length]; exact hentry)]

end Sys2Proof.Machine
end

section
/-!
PROOFS. Writes of the ledger's segments, FLUSH and the clear (R128, R131, R140).
-/
namespace Sys2Proof.Machine

/-! ### Segment writes (R128) -/

section
variable {d : Dev} {req : Requester} {addr off : Nat} (w : Nat) (hacc : accessErr d req addr true = 0)
  (hoff : ledOffset addr = some off)
include hacc hoff

/-- HOT, GRADE, HIST and LOG take no writes. -/
theorem segWrite_closed (hctrl : segOf off ≠ 1) (hcal : segOf off ≠ 5) : segWrite d req addr w = refuseW d req addr := by
  simp only [segWrite, hacc, hoff, ne_eq, not_true_eq_false, if_false]

theorem segWrite_ctrl (hseg : segOf off = 1) :
    segWrite d req addr w = if isStandby d then refuseW d req addr else ctrlWrite d req addr off w := by
  simp only [segWrite, hacc, hoff, hseg, ne_eq, not_true_eq_false, if_false]

theorem segWrite_cal (hseg : segOf off = 5) : segWrite d req addr w = calSegWrite d req addr w := by
  simp only [segWrite, hacc, hoff, hseg, ne_eq, not_true_eq_false, if_false]

end

/-- A write that does not travel to the partner is staged for the next commit point (R17). -/
theorem stage_here {d : Dev} {req : Requester} (x : Staged) (h : forwards d req = false) :
    stage d req x = { d with staged := d.staged ++ [x] } := by
  simp [stage, h]

theorem stage_local {d : Dev} (req : Requester) (x : Staged) (h : isActive d = false) :
    stage d req x = { d with staged := d.staged ++ [x] } := stage_here x (by simp [forwards, h])

/-- The role says whether writes travel. -/
theorem forwards_congr {d e : Dev} (req : Requester) (h : rd e Reg.SYS_PROPS_ROLE = rd d Reg.SYS_PROPS_ROLE) :
    forwards e req = forwards d req := by
  simp only [forwards, isActive, role, h]

/-! ### FLUSH and CLR_GO (R131, R140) -/

theorem regFind_ledgerCtrl : regFind 0x04200000 = some (⟨0x04200000, [], .device,
    [⟨fun _ _ _ => Reg.LEDGER_CTRL_FLUSH, .wo, none⟩, ⟨fun _ _ _ => Reg.LEDGER_CTRL_CLR_GO, .wo, none⟩,
     ⟨fun _ _ _ => Reg.LEDGER_CTRL_CLR_SEG, .rw, none⟩]⟩, []) := rfl

/-- A write of `LEDGER_CTRL` sets its own register alone. -/
theorem writeFields_ledgerCtrl (d : Dev) (req : Requester) (w : Nat) :
    ∃ m, writeFields d req 0x04200000 w = okResp { d with regs := m } ∧
      RegsWithin (fun k => k / 32 = 0x04200000) d (writeFields d req 0x04200000 w) := by
  obtain ⟨m, hm, hkeep⟩ := writeFields_takes (d := d) req w regFind_ledgerCtrl rfl rfl rfl
  exact ⟨m, hm, hkeep _ (by decide)⟩

/-- A served write of `LEDGER_CTRL` that orders no clear starts a flush where it orders one. -/
theorem ledCtrlWrite_flush {d : Dev} {req : Requester} {w : Nat} (hacc : accessErr d req 0x04200000 true = 0)
    (hflush : bit w 0 = true) (hclr : bit w 1 = false) :
    ledCtrlWrite d req w = wrB (writeFields d req 0x04200000 w) Reg.LEDGER_RSTAT_FLUSH_BUSY true := by
  unfold ledCtrlWrite
  rw [regAccess_open w _ hacc (.inr (by decide))]
  simp [hflush, hclr]

/-- What refuses a clear lies outside `LEDGER_CTRL`. -/
theorem clrRefused_congr {d e : Dev} (hrd : RegsWithin (fun k => k / 32 = 0x04200000) d e) (hfirn : e.firn = d.firn) :
    clrRefused e = clrRefused d := by
  have hmode (z : Nat) : rd e (Reg.SYS_ZMODE z) = rd d (Reg.SYS_ZMODE z) :=
    hrd _ (by simp only [Fld.key, Reg.SYS_ZMODE]; split <;> omega)
  simp only [clrRefused, chanMode, zoneOf, img, zmode, hmode, isStandby, role, rdB, hfirn, hrd Reg.LEDGER_CLR_CH_FIRST (by decide),
    hrd Reg.LEDGER_CLR_CH_NUM (by decide), hrd Reg.LEDGER_RSTAT_CLR_BUSY (by decide), hrd Reg.SYS_PROPS_ROLE (by decide)]

/-- A served write of `LEDGER_CTRL` that orders a clear which nothing refuses stages it. -/
theorem ledCtrlWrite_clear {d : Dev} {req : Requester} {w : Nat} (hacc : accessErr d req 0x04200000 true = 0)
    (hflush : bit w 0 = false) (hclr : bit w 1 = true) (hfree : clrRefused d = false) :
    ledCtrlWrite d req w = stage (wrB (writeFields d req 0x04200000 w) Reg.LEDGER_RSTAT_CLR_BUSY true) req
      (.ledgerClear (bits w 9 4) (rd d Reg.LEDGER_CLR_CH_FIRST) (rd d Reg.LEDGER_CLR_CH_NUM)) := by
  obtain ⟨m, hm, hkeep⟩ := writeFields_ledgerCtrl d req w
  have hallowed : clrRefused (writeFields d req 0x04200000 w) = false :=
    (clrRefused_congr hkeep (by rw [hm]; rfl)).trans hfree
  have hfirst := rd_wr_ne (writeFields d req 0x04200000 w) Reg.LEDGER_RSTAT_CLR_BUSY Reg.LEDGER_CLR_CH_FIRST 1 (by decide)
  have hnum := rd_wr_ne (writeFields d req 0x04200000 w) Reg.LEDGER_RSTAT_CLR_BUSY Reg.LEDGER_CLR_CH_NUM 1 (by decide)
  unfold ledCtrlWrite
  rw [regAccess_open w _ hacc (.inr (by decide))]
  simp only [hflush, hclr, hallowed, Bool.not_true, Bool.false_eq_true, if_false, hkeep Reg.LEDGER_CLR_CH_FIRST (by decide),
    hkeep Reg.LEDGER_CLR_CH_NUM (by decide)]

/-- Settles O28: each write is judged in its segment, and the command in the device its fields leave. -/
theorem ledgerWrites : Obligations.LedgerWrites := by
  unfold Obligations.LedgerWrites
  intro s req addr off w
  refine ⟨fun hacc hoff => ⟨fun hctrl hcal => ?closed, fun hseg hstandby => ?standby,
    fun hseg hstandby hlocal hword => ?staged, fun hseg => ?cal⟩, fun hacc hclr => ?flush, fun hbusy => ?done,
    fun hacc hflush hlocal hfree => ?clear⟩
  case closed => exact next_withDev (segWrite_closed w hacc hoff hctrl hcal)
  case standby => exact next_withDev ((segWrite_ctrl w hacc hoff hseg).trans (if_pos hstandby))
  case staged =>
    refine next_withDev ((segWrite_ctrl w hacc hoff hseg).trans ?_)
    simp only [hstandby, ctrlWrite, hword, Bool.false_eq_true, if_false]
    exact stage_local req _ hlocal
  case cal => exact next_withDev (segWrite_cal w hacc hoff hseg)
  case flush =>
    obtain ⟨m, hm, -⟩ := writeFields_ledgerCtrl s.d req (setBit w 0 true)
    have hflush := ledCtrlWrite_flush hacc (bit_setBit w 0 true) ((bit_setBit_ne w true (by decide)).trans hclr)
    rw [hm] at hflush
    exact ⟨_, next_withDev hflush, rfl, rfl, rdB_wrB_same _ Reg.LEDGER_RSTAT_FLUSH_BUSY true (by decide)⟩
  case done => exact next_withDev (if_pos hbusy)
  case clear =>
    obtain ⟨m, hm, hkeep⟩ := writeFields_ledgerCtrl s.d req (setBit w 1 true)
    have hrole : isActive (wrB (writeFields s.d req 0x04200000 (setBit w 1 true)) Reg.LEDGER_RSTAT_CLR_BUSY true) = false := by
      rw [isActive, role, rd_wrB_ne _ _ _ _ (by decide), hkeep Reg.SYS_PROPS_ROLE (by decide)]
      exact hlocal
    have hclr := ledCtrlWrite_clear hacc ((bit_setBit_ne w true (by decide)).trans hflush) (bit_setBit w 1 true) hfree
    rw [stage_local _ _ hrole, bits_setBit_outside w true (by decide), hm] at hclr
    exact ⟨_, next_withDev hclr, rfl, rfl, rdB_wrB_same _ Reg.LEDGER_RSTAT_CLR_BUSY true (by decide), rfl⟩

end Sys2Proof.Machine
end

section
/-!
PROOFS. The SERAC commands (R269 to R272).
-/
namespace Sys2Proof.Machine

theorem regFind_seracCmd : regFind 0x10080008 = some (⟨0x10080008, [], .device,
    [⟨fun _ _ _ => Reg.SERAC_CMD_CMD, .wo, none⟩, ⟨fun _ _ _ => Reg.SERAC_CMD_SEL, .rw, none⟩]⟩, []) := rfl

/-- A SERAC command over a set that lies within the device shows `CMD_PEND` and waits for its commit point. -/
theorem seracCmdWrite_staged {s : State} {req : Requester} {w : Nat} (cmd : Nat) (hserved : s.served req 0x10080008)
    (hlocal : forwards s.d req = false) (hstandby : isStandby s.d = false) (hset : seracSetBad s.d (bits w 4 2) = false) :
    ∃ m, seracCmdWrite s.d req w cmd = { wrB (okResp { s.d with regs := m }) Reg.SERAC_STAT_CMD_PEND true with
      staged := s.d.staged ++
        [.serac cmd (bits w 4 2) (rd s.d Reg.SERAC_CMD_SET_FIRST) (rd s.d Reg.SERAC_CMD_SET_NUM)] } := by
  obtain ⟨m, hm, hframe⟩ := writeFields_takes (d := s.d) req w regFind_seracCmd rfl rfl rfl
  have hkeep : RegsWithin (fun k => k / 32 = 0x10080008 ∨ k = Reg.SERAC_STAT_CMD_PEND.key) s.d
      (wrB (writeFields s.d req 0x10080008 w) Reg.SERAC_STAT_CMD_PEND true) :=
    (hframe _ (by decide)).wrB true (.inr rfl)
  have hact : seracCmdWrite s.d req w cmd = stage (wrB (writeFields s.d req 0x10080008 w) Reg.SERAC_STAT_CMD_PEND true) req
      (.serac cmd (bits w 4 2) (rd s.d Reg.SERAC_CMD_SET_FIRST) (rd s.d Reg.SERAC_CMD_SET_NUM)) := by
    unfold seracCmdWrite
    rw [regAccess_served w _ hserved]
    simp only [hstandby, hset, Bool.or_self, Bool.false_eq_true, if_false, hkeep Reg.SERAC_CMD_SET_FIRST (by decide),
      hkeep Reg.SERAC_CMD_SET_NUM (by decide)]
  refine ⟨m, ?_⟩
  rw [hact, stage_here _ ((forwards_congr req (hkeep _ (by decide))).trans hlocal), hm]
  rfl

/-- One whose set does not lie within the device is refused. -/
theorem seracCmdWrite_refused {s : State} {req : Requester} {w : Nat} (cmd : Nat) (hserved : s.served req 0x10080008)
    (hset : seracSetBad s.d (bits w 4 2) = true) : seracCmdWrite s.d req w cmd = refuseW s.d req 0x10080008 := by
  unfold seracCmdWrite
  rw [regAccess_served w _ hserved]
  simp [hset]

/-- FIRE_CLR clears `FIRE` where its zones are in maintenance and no check fired in the last verdict. -/
theorem fireClr_clears {s : State} {req : Requester} (w : Nat) (hserved : s.served req 0x10080000)
    (hlocal : forwards s.d req = false) (hstandby : isStandby s.d = false) (hquiet : s.d.ser.fireLast = false)
    (hmaint : ∀ z < 16, rdFBit s.d Reg.SERAC_FIRE_ZONES_ZONES z = true → isMaint (zmode s.d z) = true) :
    fireClr s.d req w = okResp (wr (wrB s.d Reg.SERAC_STAT_FIRE false) Reg.SERAC_FIRE_ZONES_ZONES 0) := by
  have hzones : (sel 16 (rdFBit s.d Reg.SERAC_FIRE_ZONES_ZONES)).all (fun z => isMaint (zmode s.d z)) = true := by
    simp only [sel, List.all_filter, List.all_eq_true, List.mem_range, Bool.or_eq_true, Bool.not_eq_eq_eq_not, Bool.not_true]
    exact fun z hz => (Bool.eq_false_or_eq_true _).symm.imp_right (hmaint z hz)
  unfold fireClr
  rw [regAccess_served w _ hserved]
  simp [hzones, hquiet, hstandby, hlocal]

theorem fireClr_refused {s : State} {req : Requester} (w : Nat) (hserved : s.served req 0x10080000)
    (hfired : s.d.ser.fireLast = true) : fireClr s.d req w = refuseW s.d req 0x10080000 := by
  unfold fireClr
  rw [regAccess_served w _ hserved]
  simp [hfired]

/-- INJ_GO acts for a channel whose zone is in SELFTEST and for no other. -/
theorem injGo_judges {s : State} {req : Requester} (w : Nat) (hserved : s.served req 0x10080000) : injGo s.d req w =
    if chanMode s.d (rd s.d Reg.SERAC_INJ_CH) (· == modeSelftest) then okResp { s.d with ser := { s.d.ser with
      inj := some (rd s.d Reg.SERAC_INJ_CH, rd s.d Reg.SERAC_INJ_PLANE) } }
    else refuseW s.d req 0x10080000 := by
  unfold injGo
  rw [regAccess_served w _ hserved]

/-- Settles O39: each command is judged in its own write. -/
theorem seracCommands : Obligations.SeracCommands := by
  unfold Obligations.SeracCommands
  intro s req w
  refine ⟨fun hserved hlocal hstandby => ⟨fun hset => ?staged,
    fun hset => next_withDev (seracCmdWrite_refused 2 hserved hset)⟩, fun hserved =>
    ⟨fun hlocal hstandby hquiet hmaint => next_withDev (fireClr_clears _ hserved hlocal hstandby hquiet hmaint),
      fun hfired => next_withDev (fireClr_refused _ hserved hfired),
      fun hmode => next_withDev ((injGo_judges _ hserved).trans (if_pos hmode)),
      fun hmode => next_withDev ((injGo_judges _ hserved).trans (if_neg (by simp [hmode])))⟩⟩
  case staged =>
    have hpend (d : Dev) : rdB (wrB d Reg.SERAC_STAT_CMD_PEND true) Reg.SERAC_STAT_CMD_PEND = true :=
      rdB_wrB_same d _ true (by decide)
    obtain ⟨m, hrelease⟩ := seracCmdWrite_staged 1 hserved hlocal hstandby hset
    obtain ⟨m', htrip⟩ := seracCmdWrite_staged 2 hserved hlocal hstandby hset
    obtain ⟨m'', hqclr⟩ := seracCmdWrite_staged 3 hserved hlocal hstandby hset
    exact ⟨⟨_, next_withDev hrelease, rfl, rfl, rfl, hpend _, rfl⟩, ⟨_, next_withDev htrip, rfl, rfl, rfl, hpend _, rfl⟩,
      ⟨_, next_withDev hqclr, rfl, rfl, rfl, hpend _, rfl⟩⟩

end Sys2Proof.Machine
end

section
/-!
PROOFS. The commands of `FIRN_CTRL` (R55).
-/
namespace Sys2Proof.Machine

/-- A command of `FIRN_CTRL` on a device that is not STANDBY acts unless a verification runs. -/
theorem firnCtrl_acts {d : Dev} {req : Requester} (w : Nat) (act : Dev → Dev) (hacc : accessErr d req 0x10040000 true = 0)
    (hstandby : isStandby d = false) :
    firnCtrl d req w act = if d.firn.verif.isSome then firnRefuse d req 0x18 0xFFFFFFFF else act d := by
  unfold firnCtrl
  rw [regAccess_open w _ hacc (.inr (by decide))]
  simp only [hstandby, Bool.false_and, Bool.false_eq_true, if_false]

/-- The command code leaves the slot that a command names. -/
theorem bits_withFirn_slot (w : Nat) {cmd : Nat} (h : cmd < 16) : bits (withFirn w cmd) 4 2 = bits w 4 2 := by
  simp only [bits, withFirn]
  omega

/-- An emptied slot is empty, and is shown so. -/
theorem setSlot_none (d : Dev) {v : Nat} (hv : v < 4) : SMap.find (setSlot d v none).firn.slots v = none ∧
    rdFBit (setSlot d v none) Reg.FIRN_STAT_SLOT_VALID v = false := by
  refine ⟨SMap.find_del_same d.firn.slots v, ?_⟩
  unfold setSlot
  dsimp only
  rw [rdFBit, rd_wr_ne _ _ _ _ (by simp only [Fld.key, Reg.FIRN_STAT_SLOT_VALID, Reg.FIRN_SLOT_SERIAL_SERIAL]; omega)]
  exact rdFBit_wrFBit_same _ Reg.FIRN_STAT_SLOT_VALID v false hv

/-- Settles O22: with no verification running each command is judged by its own rule. -/
theorem firnCommands : Obligations.FirnCommands := by
  unfold Obligations.FirnCommands
  intro s req w hacc hstandby
  refine ⟨fun hidle => ⟨fun hmode => ?load, fun hboot hprod => ?loadRefused, fun hformat => ?preload,
    fun hfree hlocal => ?discard⟩, fun hbusy => ?busy⟩
  case busy =>
    have hrefused (w : Nat) (act : Dev → Dev) : firnCtrl s.d req w act = firnRefuse s.d req 0x18 0xFFFFFFFF :=
      (firnCtrl_acts w act hacc hstandby).trans (if_pos hbusy)
    exact ⟨next_withDev (hrefused _ _), next_withDev (hrefused _ _), next_withDev (hrefused _ _)⟩
  all_goals
    have hacts (w : Nat) (act : Dev → Dev) : firnCtrl s.d req w act = act s.d :=
      (firnCtrl_acts w act hacc hstandby).trans (if_neg (by simp [hidle]))
  case load =>
    refine next_withDev ((hacts _ _).trans (if_neg ?_))
    rcases hmode with h | h
    · simp [h]
    · simpa using fun _ => h
  case loadRefused =>
    refine next_withDev ((hacts _ _).trans (if_pos ?_))
    simpa [hboot] using hprod
  case preload => exact next_withDev ((hacts _ _).trans (if_neg (by omega)))
  case discard =>
    have hdiscard : discard s.d req (withFirn w 3) = okResp (setSlot s.d (bits w 4 2) none) := by
      unfold discard
      rw [hacts, bits_withFirn_slot w (by decide)]
      simp [hfree, hlocal]
    obtain ⟨hempty, hshown⟩ := setSlot_none s.d (v := bits w 4 2) (Nat.mod_lt _ (by decide))
    exact ⟨_, next_withDev hdiscard, rfl, rfl, hempty, rfl, hshown, rfl⟩

end Sys2Proof.Machine
end

section
/-!
PROOFS. The calibration commands (R113 to R115).
-/
namespace Sys2Proof.Machine

/-! ### The parameters of a command -/

/-- A calibration command is judged by R113, and its parameters are taken where they lie within their limits. -/
theorem calCtrl_judges {d : Dev} {req : Requester} (w cmd : Nat) (act : Dev → Dev) (hacc : accessErr d req 0x10060008 true = 0) :
    calCtrl d req w cmd act =
      if calRefusal d cmd (bits w 4 3) (bits w 8 4) (bits w 12 8) ≠ 0 then
        calRefuse (if calOutside (bits w 4 3) (bits w 8 4) (bits w 12 8) then d
          else calParams d (bits w 4 3) (bits w 8 4) (bits w 12 8)) req
          (calRefusal d cmd (bits w 4 3) (bits w 8 4) (bits w 12 8))
      else act (okResp (if calOutside (bits w 4 3) (bits w 8 4) (bits w 12 8) then d
        else calParams d (bits w 4 3) (bits w 8 4) (bits w 12 8))) := by
  unfold calCtrl
  exact regAccess_open w _ hacc (.inr (by decide))

/-- A command whose parameters lie outside their limits is refused. -/
theorem calOutside_of_accepted {d : Dev} {cmd stream log2n settle : Nat} (h : calRefusal d cmd stream log2n settle = 0) :
    calOutside stream log2n settle = false := by
  refine Bool.eq_false_iff.mpr fun hout => ?_
  have hlimit : 5 < stream ∨ log2n < 4 ∨ 14 < log2n ∨ settle < 4 := of_decide_eq_true hout
  unfold calRefusal at h
  dsimp only at h
  split at h
  · exact absurd h (by decide)
  split at h
  · exact absurd h (by decide)
  next hrange =>
  split at h
  · exact absurd h (by decide)
  next hlim =>
    rcases hlimit with h | h | h | h
    · exact hrange (.inl h)
    · exact hlim (.inl h)
    · exact hlim (.inr (.inl h))
    · exact hlim (.inr (.inr (.inl h)))

/-- A command that no case refuses acts on the device with its parameters taken. -/
theorem calCtrl_acts {d : Dev} {req : Requester} (w cmd : Nat) (act : Dev → Dev) (hacc : accessErr d req 0x10060008 true = 0)
    (hfree : calRefusal d cmd (bits w 4 3) (bits w 8 4) (bits w 12 8) = 0) :
    calCtrl d req w cmd act = act (okResp (calParams d (bits w 4 3) (bits w 8 4) (bits w 12 8))) := by
  rw [calCtrl_judges w cmd act hacc, calOutside_of_accepted hfree, if_neg (by simp [hfree])]
  rfl

/-- The parameters stand in `MEAS_CAL_CTRL`, and every other register is as it was. -/
theorem calParams_read (d : Dev) {stream log2n settle : Nat} (hs : stream < 8) (hl : log2n < 16) (ht : settle < 256) :
    rd (okResp (calParams d stream log2n settle)) Reg.MEAS_CAL_CTRL_STREAM = stream ∧
    rd (okResp (calParams d stream log2n settle)) Reg.MEAS_CAL_CTRL_LOG2N = log2n ∧
    rd (okResp (calParams d stream log2n settle)) Reg.MEAS_CAL_CTRL_SETTLE = settle ∧
    RegsWithin (fun k => k / 32 = 0x10060008) d (okResp (calParams d stream log2n settle)) := by
  refine ⟨?_, ?_, ?_, ?_⟩
  · exact (rd_wr_ne _ _ _ _ (by decide)).trans ((rd_wr_ne _ _ _ _ (by decide)).trans
      ((rd_wr_same _ _ _).trans (Nat.mod_eq_of_lt hs)))
  · exact (rd_wr_ne _ _ _ _ (by decide)).trans ((rd_wr_same _ _ _).trans (Nat.mod_eq_of_lt hl))
  · exact (rd_wr_same _ _ _).trans (Nat.mod_eq_of_lt ht)
  · exact (((RegsWithin.refl (fun k => k / 32 = 0x10060008) d).wr (f := Reg.MEAS_CAL_CTRL_STREAM) stream (by decide)).wr
      (f := Reg.MEAS_CAL_CTRL_LOG2N) log2n (by decide)).wr (f := Reg.MEAS_CAL_CTRL_SETTLE) settle (by decide)

/-! ### Captures -/

/-- Locking and unlocking ranges changes the ranges alone. -/
theorem foldl_setRng {α : Type} (l : List α) (chan : α → Nat) (f : RngSt → RngSt) (d : Dev) :
    ∃ m, l.foldl (fun d c => setRng d (chan c) f) d = { d with meas := { d.meas with rng := m } } := by
  induction l generalizing d with
  | nil => exact ⟨d.meas.rng, rfl⟩
  | cons x l ih =>
    obtain ⟨m, hm⟩ := ih (setRng d (chan x) f)
    exact ⟨m, hm⟩

/-- The capture that a command starts on a device: its set, its stream and its readings. -/
def capRunOf (d : Dev) (zero : Bool) : CapRun :=
  { zero := zero, first := rd d Reg.MEAS_CAL_CH_FIRST, num := rd d Reg.MEAS_CAL_CH_NUM, stream := rd d Reg.MEAS_CAL_CTRL_STREAM,
    settle := rd d Reg.MEAS_CAL_CTRL_SETTLE, n := rd d Reg.MEAS_CAL_CTRL_LOG2N }

/-- A capture starts: `CAL_BUSY` with code 0. -/
theorem startCapture_runs (d : Dev) (zero : Bool) : (startCapture d zero).meas.run = some (capRunOf d zero) ∧
    (startCapture d zero).regs = (wrB (wr d Reg.MEAS_STAT_CAL_CODE 0) Reg.MEAS_STAT_CAL_BUSY true).regs := by
  unfold startCapture
  lift_lets
  extract_lets first num stream r run started coded busy
  split
  · exact ⟨rfl, rfl⟩
  · obtain ⟨m, hm⟩ := foldl_setRng (setChans first num) id (fun x => { x with locks := 5 :: x.locks.erase 5 }) busy
    simp only [id] at hm
    rw [hm]
    exact ⟨rfl, rfl⟩

/-- A capture that no case of R113 refuses starts over the set and the stream that it names. -/
theorem capture_starts {s : State} {req : Requester} {w cmd : Nat} (zero : Bool) (hacc : accessErr s.d req 0x10060008 true = 0)
    (hfree : calRefusal s.d cmd (bits w 4 3) (bits w 8 4) (bits w 12 8) = 0) : ∃ e : Dev,
    calCtrl s.d req w cmd (fun d => startCapture d zero) = e ∧ rdB e Reg.MEAS_STAT_CAL_BUSY = true ∧
    rd e Reg.MEAS_STAT_CAL_CODE = 0 ∧ e.meas.run = some
      { zero := zero, first := rd s.d Reg.MEAS_CAL_CH_FIRST, num := rd s.d Reg.MEAS_CAL_CH_NUM, stream := bits w 4 3,
        settle := bits w 12 8, n := bits w 8 4 } := by
  obtain ⟨hstream, hlog, hsettle, hkeep⟩ := calParams_read s.d (stream := bits w 4 3) (log2n := bits w 8 4)
    (settle := bits w 12 8) (Nat.mod_lt _ (by decide)) (Nat.mod_lt _ (by decide)) (Nat.mod_lt _ (by decide))
  refine ⟨_, calCtrl_acts w cmd _ hacc hfree, ?_⟩
  generalize okResp (calParams s.d (bits w 4 3) (bits w 8 4) (bits w 12 8)) = e at *
  obtain ⟨hrun, hregs⟩ := startCapture_runs e zero
  have hread (f : Fld) : rd (startCapture e zero) f = rd (wrB (wr e Reg.MEAS_STAT_CAL_CODE 0) Reg.MEAS_STAT_CAL_BUSY true) f := by
    simp only [rd, hregs]
  refine ⟨?_, ?_, ?_⟩
  · rw [rdB, hread]
    exact rdB_wrB_same _ Reg.MEAS_STAT_CAL_BUSY true (by decide)
  · rw [hread, rd_wrB_ne _ _ _ _ (by decide), rd_wr_same]
    rfl
  · rw [hrun, capRunOf, hstream, hlog, hsettle, hkeep Reg.MEAS_CAL_CH_FIRST (by decide), hkeep Reg.MEAS_CAL_CH_NUM (by decide)]

/-- An abandoned capture leaves nothing running and nothing held, and reports code 7. -/
theorem calAbandon_drops {d : Dev} {r : CapRun} (h : d.meas.run = some r) : (calAbandon d).meas.run = none ∧
    (calAbandon d).meas.zero = none ∧ (calAbandon d).meas.full = none ∧ rd (calAbandon d) Reg.MEAS_STAT_CAL_CODE = 7 ∧
    rdB (calAbandon d) Reg.MEAS_STAT_CAL_BUSY = false ∧ rdB (calAbandon d) Reg.MEAS_STAT_ZERO_HELD = false ∧
    rdB (calAbandon d) Reg.MEAS_STAT_FULL_HELD = false := by
  unfold calAbandon
  rw [h]
  dsimp only
  obtain ⟨m, hm⟩ := foldl_setRng (List.range r.num) (r.first + ·) (fun x => { x with locks := x.locks.erase 5 })
    { d with meas := { d.meas with run := none, zero := none, full := none } }
  rw [hm]
  refine ⟨rfl, rfl, rfl, ?_, ?_, ?_, ?_⟩
  · rw [rd_wrB_ne _ _ _ _ (by decide), rd_wrB_ne _ _ _ _ (by decide), rd_wrB_ne _ _ _ _ (by decide), rd_wr_same]
    rfl
  · rw [rdB_wrB_ne _ _ _ _ (by decide), rdB_wrB_ne _ _ _ _ (by decide), rdB_wrB_same _ _ _ (by decide)]
  · rw [rdB_wrB_ne _ _ _ _ (by decide), rdB_wrB_same _ _ _ (by decide)]
  · rw [rdB_wrB_same _ _ _ (by decide)]

/-! ### SET_NOMINAL -/

/-- On a device that is not ACTIVE the entries of a list of channels are staged in order. -/
theorem foldl_stageEntry {d : Dev} (h : isActive d = false) (cs : List Nat) (stream : Fld) (words : List Nat) :
    cs.foldl (fun d c => stageEntry d c (rd d stream) words) d =
      { d with
        staged := d.staged ++ cs.map (fun c => Staged.calEntry (entryOf c + 0x1E00 + 0x20 * rd d stream) words) } := by
  induction cs generalizing d with
  | nil => simp
  | cons c cs ih =>
    rw [List.foldl_cons, stageEntry, if_neg (by simp [h])]
    refine (ih (d := { d with staged := d.staged ++ [_] }) h).trans ?_
    simp [rd]

/-- Settles O25: a command that nothing refuses acts with its parameters taken, a refused one reports its code. -/
theorem calibrationCommands : Obligations.CalibrationCommands := by
  unfold Obligations.CalibrationCommands
  intro s req w r hacc
  refine ⟨fun hfree => ?zero, fun hfree => ?full, fun hfree hrun => ?abort, fun hfree hrun hlocal => ?nominal,
    fun hcode hout => ?outside, fun hcode hin => ?inside⟩
  case zero =>
    obtain ⟨e, he, hbusy, hcode, hrun⟩ := capture_starts true hacc hfree
    exact ⟨_, _, next_withDev he, rfl, rfl, hbusy, hcode, hrun, rfl, rfl, rfl, rfl, rfl, rfl, rfl⟩
  case full =>
    obtain ⟨e, he, hbusy, hcode, hrun⟩ := capture_starts false hacc hfree
    exact ⟨_, _, next_withDev he, rfl, rfl, hbusy, hcode, hrun, rfl, rfl, rfl, rfl, rfl, rfl, rfl⟩
  case abort =>
    have hparams : (okResp (calParams s.d (bits w 4 3) (bits w 8 4) (bits w 12 8))).meas.run = some r := hrun
    exact ⟨_, next_withDev (calCtrl_acts w 4 _ hacc hfree), rfl, calAbandon_drops hparams⟩
  case nominal =>
    obtain ⟨hstream, -, -, hkeep⟩ := calParams_read s.d (stream := bits w 4 3) (log2n := bits w 8 4)
      (settle := bits w 12 8) (Nat.mod_lt _ (by decide)) (Nat.mod_lt _ (by decide)) (Nat.mod_lt _ (by decide))
    have hled : (okResp (calParams s.d (bits w 4 3) (bits w 8 4) (bits w 12 8))).led = s.d.led := rfl
    have hstaged : (okResp (calParams s.d (bits w 4 3) (bits w 8 4) (bits w 12 8))).staged = s.d.staged := rfl
    have hrole : isActive (okResp (calParams s.d (bits w 4 3) (bits w 8 4) (bits w 12 8))) = false := by
      rw [isActive, role, hkeep _ (by decide)]
      exact hlocal
    have hacts := calCtrl_acts w 5 calNominal hacc hfree
    generalize okResp (calParams s.d (bits w 4 3) (bits w 8 4) (bits w 12 8)) = e at *
    rw [calNominal, foldl_stageEntry hrole _ Reg.MEAS_CAL_CTRL_STREAM, hstream, hkeep Reg.MEAS_CAL_CH_FIRST (by decide),
      hkeep Reg.MEAS_CAL_CH_NUM (by decide), hstaged] at hacts
    refine ⟨_, next_withDev hacts, rfl, ?_, rd_wr_same _ _ _, hled, rfl⟩
    exact (rdB_wr_ne _ _ _ _ (by decide)).trans (rdB_wrB_same _ _ _ (by decide))
  case outside =>
    refine next_withDev ((calCtrl_judges w 1 _ hacc).trans ((if_pos hcode).trans ?_))
    rw [hout]
    rfl
  case inside =>
    refine next_withDev ((calCtrl_judges w 3 _ hacc).trans ((if_pos hcode).trans ?_))
    rw [hin]
    rfl

end Sys2Proof.Machine
end

section
/-!
PROOFS. The safety confirmation: arming, its timer and its record (R58, R417).
-/
namespace Sys2Proof.Machine

set_option maxRecDepth 4000 in
theorem regFind_safeConfirm : regFind 0x100D0000 = some (⟨0x100D0000, [], .device,
    [⟨fun _ _ _ => Reg.SAFE_CONFIRM_CHECK, .rws, none⟩]⟩, []) := rfl

/-- With every zone in maintenance a write of `SAFE_CONFIRM` sets its register and nothing else (R12, R13). -/
theorem writeFields_safeConfirm {d : Dev} (req : Requester) (w : Nat) (h : allMaint d = true) :
    ∃ m, writeFields d req 0x100D0000 w = okResp { d with regs := m } ∧
      RegsWithin (fun k => k / 32 = 0x100D0000) d (writeFields d req 0x100D0000 w) := by
  have hopen : rwsOpen d ⟨0x100D0000, [], .device, [⟨fun _ _ _ => Reg.SAFE_CONFIRM_CHECK, .rws, none⟩]⟩ [] = true := h
  obtain ⟨m, hm, hkeep⟩ := writeFields_takes (d := d) req w regFind_safeConfirm rfl rfl (by
    simp [fldRefused, fldOpen, hopen])
  exact ⟨m, hm, hkeep _ (by decide)⟩

section
variable {s : State} {req : Requester} (w : Nat) (hserved : s.served req 0x100D0000)
include hserved

/-- A write outside maintenance is refused, with no note. -/
theorem safeConfirm_refused (hmaint : allMaint s.d = false) : safeConfirm s.d req w = refuseW s.d req 0x100D0000 := by
  unfold safeConfirm
  rw [regAccess_served w _ hserved, hmaint]
  simp

/-- With every zone in maintenance a write that does not travel acts at once. -/
theorem safeConfirm_acts (hvoted : isCalved s.d = false) (hmaint : allMaint s.d = true) (hlocal : forwards s.d req = false) :
    safeConfirm s.d req w = confirmWrite s.d req w := by
  unfold safeConfirm
  rw [regAccess_served w _ hserved]
  simp [hvoted, hmaint, safeStage, hlocal]

end

/-- A write while CONFIRMED is refused and noted. -/
theorem confirmWrite_confirmed {d : Dev} (req : Requester) (w : Nat) (h : rd d Reg.SAFE_STAT_CONF = 2) :
    confirmWrite d req w = confirmNote (refuseW d req 0x100D0000) := if_pos h

/-- A write while UNCONFIRMED arms the confirmation where it brings the check value, and is noted where it does not. -/
theorem confirmWrite_unconfirmed {d : Dev} (req : Requester) {w : Nat} (hmaint : allMaint d = true)
    (h : rd d Reg.SAFE_STAT_CONF = 0) (hw : w < 2 ^ 32) : ∃ m, confirmWrite d req w =
      (if w = rd d Reg.FIRN_SAFE_CRC_CHECK then wr { useFree (okResp { d with regs := m }) with
        safe := { d.safe with armT := nowNs d, step1 := none } } Reg.SAFE_STAT_CONF 1
      else confirmNote (okResp { d with regs := m })) ∧
    rd (okResp { d with regs := m }) Reg.SAFE_STAT_CONF = 0 := by
  obtain ⟨m, hm, hkeep⟩ := writeFields_safeConfirm req w hmaint
  have hconf := (hkeep Reg.SAFE_STAT_CONF (by decide)).trans h
  have hcheck := hkeep Reg.FIRN_SAFE_CRC_CHECK (by decide)
  rw [hm] at hconf hcheck
  refine ⟨m, ?_, hconf⟩
  unfold confirmWrite
  simp only [h, hm, hcheck, Nat.mod_eq_of_lt hw, Nat.reduceEqDiff, if_false]
  rfl

/-- A time within the tick lies less than a tick after its edge. -/
theorem nowNs_within (d : Dev) : tickNs d ≤ nowNs d ∧ nowNs d < tickNs d + 50000 := by
  unfold nowNs
  omega

/-- 30 s in ARMED end the arming where the partner does not decide it. -/
theorem confirmTimeout_elapsed {d : Dev} (hconf : rd d Reg.SAFE_STAT_CONF = 1) (ht : d.safe.armT + 30000000000 ≤ tickNs d)
    (here : confirmsElsewhere d = false) : confirmTimeout d = armFail d := if_pos ⟨hconf, here, by omega⟩

/-- An arming that ends is UNCONFIRMED with no step kept. -/
theorem disarm_armed {d : Dev} (h : rd d Reg.SAFE_STAT_CONF = 1) :
    disarm d = wr { d with safe := { d.safe with step1 := none } } Reg.SAFE_STAT_CONF 0 := if_pos h

theorem armFail_active {d : Dev} (h : isActive d = true) : armFail d = { d with hostCyc := d.hostCyc ++ [.disarm] } := by
  simp [armFail, h, stage, forwards]

/-- A due record is written to both copies. -/
theorem recordWrite_due {s : State} {c : Nat} {g : List Byte} (hdue : s.d.safe.recDue = true) (hconf : s.d.safe.conf = some (c, g)) :
    ∃ r, recordWrite s = { s with
      nv := { s.nv with conf := [some r, some r] }
      d := { s.d with safe := { s.d.safe with recDue := false } } } ∧
      r.check = c ∧ r.digest = g ∧ r.count = s.d.safe.count := by
  unfold recordWrite
  rw [hdue, hconf]
  exact ⟨_, rfl, rfl, rfl, rfl⟩

/-- Settles O24: a write is judged by the confirmation's state, the timer by its owner, the record by the flash. -/
theorem safetyConfirmation : Obligations.SafetyConfirmation := by
  unfold Obligations.SafetyConfirmation
  intro s req w
  refine ⟨fun hserved hvoted hmaint hlocal => ⟨fun hconf hvalue hw => ?arm, fun hconf hw hvalue => ?wrong,
    fun hconf => ?confirmed⟩, fun hserved hmaint => next_withDev (safeConfirm_refused w hserved hmaint),
    fun hconf ht here => ?timeout, fun c g hdue hconf hidle => ?record, fun hdue hbusy => ?waits⟩
  case arm =>
    obtain ⟨m, hm, -⟩ := confirmWrite_unconfirmed req hmaint hconf hw
    exact ⟨_, next_withDev ((safeConfirm_acts w hserved hvoted hmaint hlocal).trans (hm.trans (if_pos hvalue))), rfl,
      rd_wr_same _ Reg.SAFE_STAT_CONF 1, rfl, nowNs_within s.d⟩
  case wrong =>
    obtain ⟨m, hm, hstill⟩ := confirmWrite_unconfirmed req hmaint hconf hw
    exact ⟨_, next_withDev ((safeConfirm_acts w hserved hvoted hmaint hlocal).trans (hm.trans (if_neg hvalue))), rfl, hstill⟩
  case confirmed =>
    exact next_withDev ((safeConfirm_acts w hserved hvoted hmaint hlocal).trans (confirmWrite_confirmed req w hconf))
  case timeout =>
    refine ⟨_, next_withDev (confirmTimeout_elapsed hconf ht here), rfl, ?_⟩
    split
    · next h =>
      have hstaged := armFail_active h
      exact ⟨by rw [hstaged], by rw [hstaged]⟩
    · next h =>
      have hended : armFail s.d = confirmNote (wr { s.d with safe := { s.d.safe with step1 := none } } Reg.SAFE_STAT_CONF 0) := by
        rw [armFail, if_neg h, disarm_armed hconf]
      dsimp only
      rw [hended]
      exact ⟨rd_wr_same _ Reg.SAFE_STAT_CONF 0, rfl⟩
  case record =>
    obtain ⟨r, hwritten, hcheck, hdigest, hcount⟩ := recordWrite_due hdue hconf
    refine ⟨_, r, congrArg Host.Outcome.next ((if_neg ?_).trans hwritten), rfl, hcheck, hdigest, hcount, rfl⟩
    simp [hidle]
  case waits =>
    refine congrArg Host.Outcome.next (if_pos ?_)
    simp [hdue, Option.isSome_iff_ne_none, hbusy]

end Sys2Proof.Machine
end

section
/-!
PROOFS. The flash commands and the errors of the DRAM (R513 to R518).
-/
namespace Sys2Proof.Machine

/-! ### Bytes and register arrays -/

/-- A byte of a little-endian number. -/
theorem leNat_byte (bs : List Byte) (j : Nat) : bits (leNat bs) (8 * j) 8 = (bs.getD j 0).toNat := by
  induction bs generalizing j with
  | nil => simp [leNat, bits]
  | cons b bs ih =>
    have hcons : leNat (b :: bs) = b.toNat + 256 * leNat bs := rfl
    have hb := b.isLt
    cases j with
    | zero =>
      simp only [hcons, bits, Nat.mul_zero, Nat.pow_zero, Nat.div_one, List.getD_cons_zero]
      omega
    | succ j =>
      have hsplit : 2 ^ (8 * (j + 1)) = 256 * 2 ^ (8 * j) := by rw [Nat.mul_succ, Nat.pow_add, Nat.mul_comm]
      rw [List.getD_cons_succ, ← ih, hcons, bits, bits, hsplit, ← Nat.div_div_eq_div_mul]
      congr 2
      omega

theorem leAt_byte (bs : List Byte) (o n : Nat) {j : Nat} (h : j < n) :
    bits (leAt bs o n) (8 * j) 8 = (bs.getD (o + j) 0).toNat := by
  rw [leAt, leNat_byte, sub, List.getD_eq_getElem?_getD, List.getD_eq_getElem?_getD, List.getElem?_take_of_lt h,
    List.getElem?_drop]

/-- A register array written in a row holds the values written. -/
theorem rd_foldl_wr_same {f : Nat → Fld} (v : Nat → Nat) (hf : ∀ i j, i ≠ j → (f i).key ≠ (f j).key) (d : Dev) {n i : Nat}
    (hi : i < n) : rd ((List.range n).foldl (fun d i => wr d (f i) (v i)) d) (f i) = v i % 2 ^ (f i).wd := by
  induction n with
  | zero => omega
  | succ n ih =>
    rw [List.range_succ, List.foldl_append, List.foldl_cons, List.foldl_nil]
    by_cases h : i = n
    · rw [h, rd_wr_same]
    · rw [rd_wr_ne _ _ _ _ (hf i n h), ih (by omega)]

/-- Writing a register array leaves every other register alone. -/
theorem rd_foldl_wr_ne {f : Nat → Fld} (v : Nat → Nat) {g : Fld} (l : List Nat) (h : ∀ i ∈ l, g.key ≠ (f i).key) (d : Dev) :
    rd (l.foldl (fun d i => wr d (f i) (v i)) d) g = rd d g := by
  refine RegsWithin.foldl (R := fun k => g.key ≠ k) l _ (fun e i hi => (RegsWithin.refl _ e).wr _ (h i hi)) d g (by simp)

/-- What a filter of the keys leaves of a map. -/
theorem SMap.find_filter {α : Type} (m : SMap α) (p : Nat → Bool) (k : Nat) :
    SMap.find (m.filter (fun e => p e.1)) k = if p k then SMap.find m k else none := by
  induction m with
  | nil => simp [SMap.find]
  | cons e m ih =>
    obtain ⟨k', v⟩ := e
    by_cases hk : k' = k
    · by_cases hp : p k
      · simp [SMap.find, hk, hp]
      · simp [hk, hp, ih]
    · by_cases hp : p k'
      · simp [SMap.find, hk, hp, ih]
      · simp [SMap.find, hk, hp, ih]

/-! ### Commands of the flash (R517) -/

set_option maxRecDepth 4000 in
theorem regFind_qspiCmd : regFind 0x10110400 = some (⟨0x10110400, [], .device,
    [⟨fun _ _ _ => Reg.HOST_QSPI_CMD_CMD, .wo, none⟩, ⟨fun _ _ _ => Reg.HOST_QSPI_CMD_QBUSY, .ro, none⟩,
     ⟨fun _ _ _ => Reg.HOST_QSPI_CMD_QDONE, .w1c, none⟩]⟩, []) := rfl

/-- The first bytes of the flash buffer. -/
def qspiBuffer (d : Dev) (n : Nat) : List Byte :=
  ((List.range 64).flatMap (fun i => natLE 4 (rd d (Reg.HOST_QSPI_BUF_DATA i)))).take n

/-- A flash command whose range R517 allows starts to run, and one whose range it forbids is answered FIREWALL. -/
theorem qspiCmd_judges {d : Dev} {req : Requester} (w : Nat) {cmd a n : Nat} (hacc : accessErr d req 0x10110400 true = 0)
    (hidle : d.host.qspi = none) (hrange : qspiRange d cmd = (a, n))
    (hsize : ¬(cmd < 3 ∧ (n = 0 ∨ 256 < n) ∨ cmd = 2 ∧ a / 256 ≠ (a + n - 1) / 256)) : ∃ m,
    (qspiForbidden d cmd = false → qspiCmd d req w cmd = wrB { okResp { d with regs := m } with
      host := { d.host with qspi := some (cmd, a, n, qspiBuffer { d with regs := m } n) } } Reg.HOST_QSPI_CMD_QBUSY true) ∧
    (qspiForbidden d cmd = true → qspiCmd d req w cmd = errResp (okResp { d with regs := m }) req 0x10110400 errFirewall true) := by
  obtain ⟨m, hm, hkeep⟩ := writeFields_takes (d := d) req w regFind_qspiCmd rfl rfl rfl
  replace hkeep : RegsWithin (fun k => k / 32 = 0x10110400) d (okResp { d with regs := m }) := hm ▸ hkeep _ (by decide)
  have hsame : qspiRange (okResp { d with regs := m }) cmd = qspiRange d cmd := by
    unfold qspiRange
    rw [hkeep Reg.HOST_QSPI_ADDR_ADDR (by decide), hkeep Reg.HOST_QSPI_LEN_LEN (by decide)]
  have hforbidden : qspiForbidden (okResp { d with regs := m }) cmd = qspiForbidden d cmd := by
    simp only [qspiForbidden, hsame, rdB, hkeep Reg.HOST_LOCK_BOOTW (by decide)]
  have hfree : (okResp { d with regs := m }).host.qspi = none := hidle
  have hacts : qspiCmd d req w cmd =
      if qspiForbidden d cmd then errResp (okResp { d with regs := m }) req 0x10110400 errFirewall true
      else wrB { okResp { d with regs := m } with
        host := { d.host with qspi := some (cmd, a, n, qspiBuffer { d with regs := m } n) } } Reg.HOST_QSPI_CMD_QBUSY true := by
    unfold qspiCmd
    rw [regAccess_open w _ hacc (.inr (by decide))]
    simp only [hrange, hm, hfree, hsize, hforbidden, Option.isSome_none, Bool.false_eq_true, if_false]
    rfl
  exact ⟨m, fun h => hacts.trans (if_neg (by simp [h])), fun h => hacts.trans (if_pos h)⟩

theorem qspiRange_data (d : Dev) {cmd : Nat} (h3 : cmd ≠ 3) (h4 : cmd ≠ 4) :
    qspiRange d cmd = (rd d Reg.HOST_QSPI_ADDR_ADDR, rd d Reg.HOST_QSPI_LEN_LEN) := by
  unfold qspiRange
  split
  · exact absurd rfl h3
  · exact absurd rfl h4
  · rfl

/-- Reading is allowed everywhere, programming and erasing beyond the boot copies and the confirmation records. -/
theorem qspiForbidden_read (d : Dev) : qspiForbidden d 1 = false := rfl

theorem qspiForbidden_beyond {d : Dev} {cmd a n : Nat} (hrange : qspiRange d cmd = (a, n)) (h : 0x802000 ≤ a) :
    qspiForbidden d cmd = false := by
  have hboot : ¬ a < 0x800000 := by omega
  have hrec : ¬ a < 0x802000 := by omega
  simp [qspiForbidden, hrange, hboot, hrec]

/-! ### The end of a flash command (R518) -/

/-- The device as a flash command that ends leaves it. -/
def qspiEnded (d : Dev) : Dev :=
  irq (wrB (wrB { d with host := { d.host with qspi := none } } Reg.HOST_QSPI_CMD_QBUSY false) Reg.HOST_QSPI_CMD_QDONE true) 13

theorem qspiEnded_shown (d : Dev) : rdB (qspiEnded d) Reg.HOST_QSPI_CMD_QDONE = true ∧
    rdB (qspiEnded d) Reg.HOST_QSPI_CMD_QBUSY = false := by
  have hirq : RegsWithin (fun k => k = Reg.HOST_IRQ_STAT_CAUSE.key) _ (qspiEnded d) :=
    (RegsWithin.refl _ _).irq 13 rfl
  exact ⟨(hirq.rdB (by decide)).trans (rdB_wrB_same _ _ _ (by decide)),
    (hirq.rdB (by decide)).trans ((rdB_wrB_ne _ _ _ _ (by decide)).trans (rdB_wrB_same _ _ _ (by decide)))⟩

/-- The bytes that a READ leaves in the buffer. -/
def qspiSeen (s : State) (a n : Nat) : List Byte :=
  (List.range n).map (fun i => BitVec.ofNat 8 (flashSeen s.nv (qspiEnded s.d) (a + i))) ++
    ((List.range 64).flatMap (fun i => natLE 4 (rd (qspiEnded s.d) (Reg.HOST_QSPI_BUF_DATA i)))).drop n

/-- The buffer filled with the bytes of a READ. -/
def qspiFilled (d : Dev) (bs : List Byte) : Dev :=
  (List.range 64).foldl (fun d i => wr d (Reg.HOST_QSPI_BUF_DATA i) (leAt bs (4 * i) 4)) d

theorem qspiFilled_host (d : Dev) (bs : List Byte) : (qspiFilled d bs).host = d.host := by
  unfold qspiFilled
  refine foldl_keeps (fun e => e.host) (List.range 64) _ (fun e i => ?_) d
  rfl

theorem qspiFilled_safe (d : Dev) (bs : List Byte) : (qspiFilled d bs).safe = d.safe := by
  unfold qspiFilled
  refine foldl_keeps (fun e => e.safe) (List.range 64) _ (fun e i => ?_) d
  rfl

theorem qspiFilled_within (d : Dev) (bs : List Byte) : RegsWithin (fun k => 0x10110500 * 32 ≤ k) d (qspiFilled d bs) :=
  RegsWithin.foldl (List.range 64) _ (fun e i _ => (RegsWithin.refl _ e).wr (f := Reg.HOST_QSPI_BUF_DATA i) _ (by
    simp only [Fld.key, Reg.HOST_QSPI_BUF_DATA]
    omega)) d

/-- A byte of a word is one of its 32 bits. -/
theorem bits_byte_of_word (v : Nat) {j : Nat} (hj : j < 4) : bits (v % 2 ^ 32) (8 * j) 8 = bits v (8 * j) 8 := by
  rcases (by omega : j = 0 ∨ j = 1 ∨ j = 2 ∨ j = 3) with rfl | rfl | rfl | rfl <;> simp only [bits] <;> omega

/-- The filled buffer holds the bytes in their order. -/
theorem qspiFilled_byte (d : Dev) (bs : List Byte) {i j : Nat} (hi : i < 64) (hj : j < 4) :
    bits (rd (qspiFilled d bs) (Reg.HOST_QSPI_BUF_DATA i)) (8 * j) 8 = (bs.getD (4 * i + j) 0).toNat := by
  have hkey (i j : Nat) (hij : i ≠ j) : (Reg.HOST_QSPI_BUF_DATA i).key ≠ (Reg.HOST_QSPI_BUF_DATA j).key := by
    simp only [Fld.key, Reg.HOST_QSPI_BUF_DATA]
    omega
  have hword : rd (qspiFilled d bs) (Reg.HOST_QSPI_BUF_DATA i) = leAt bs (4 * i) 4 % 2 ^ 32 :=
    rd_foldl_wr_same (fun i => leAt bs (4 * i) 4) hkey d hi
  rw [hword, bits_byte_of_word _ hj, leAt_byte _ _ _ hj]

theorem qspiDone_read {s : State} {a n : Nat} {data : List Byte} (h : s.d.host.qspi = some (1, a, n, data)) :
    qspiDone s = s.withDev (useFree (qspiFilled (qspiEnded s.d) (qspiSeen s a n))) := by
  unfold qspiDone
  rw [h]
  rfl

/-- The flash after a PROG of a list of bytes. -/
def flashProg (f : Memory) (a n : Nat) (data : List Byte) : Memory :=
  (List.range n).foldl (fun f i => Memory.writeByte f (a + i) (Memory.readByte f (a + i) ||| ~~~ (data.getD i 0))) f

theorem qspiDone_prog {s : State} {a n : Nat} {data : List Byte} (h : s.d.host.qspi = some (2, a, n, data)) :
    qspiDone s = { s with d := qspiEnded s.d, nv := { s.nv with flash := flashProg s.nv.flash a n data } } := by
  unfold qspiDone
  rw [h]
  rfl

theorem qspiDone_erase {s : State} {cmd a n : Nat} {data : List Byte} (h : s.d.host.qspi = some (cmd, a, n, data))
    (hread : cmd ≠ 1) (hprog : cmd ≠ 2) : qspiDone s = { s with
      d := qspiEnded s.d
      nv := { s.nv with flash := Memory.clearRange s.nv.flash a n } } := by
  unfold qspiDone
  rw [h]
  dsimp only
  split
  · exact absurd rfl hread
  · exact absurd rfl hprog
  · rfl

theorem recordWaiting_none {s : State} (h : s.d.safe.recWait = false) : recordWaiting s = s := by simp [recordWaiting, h]

theorem recordWaiting_writes {s : State} (h : s.d.safe.recWait = true) :
    recordWaiting s = recordWrite (s.withDev { s.d with safe := { s.d.safe with recWait := false } }) := if_pos h

/-- The end of a flash command leaves the safety block alone. -/
theorem qspiDone_safe (s : State) : (qspiDone s).d.safe = s.d.safe := by
  cases h : s.d.host.qspi with
  | none => simp [qspiDone, h]
  | some q =>
    obtain ⟨cmd, a, n, data⟩ := q
    by_cases hread : cmd = 1
    · rw [qspiDone_read (hread ▸ h)]
      have hfilled := qspiFilled_safe (qspiEnded s.d) (qspiSeen s a n)
      generalize qspiFilled (qspiEnded s.d) (qspiSeen s a n) = e at hfilled ⊢
      exact hfilled
    by_cases hprog : cmd = 2
    · rw [qspiDone_prog (hprog ▸ h)]
      rfl
    · rw [qspiDone_erase h hread hprog]
      rfl

/-- Outside the confirmation records a READ sees the byte of the flash. -/
theorem qspiSeen_byte {s : State} {a n i : Nat} (hi : i < n) (hrec : a + n ≤ 0x800000 ∨ 0x802000 ≤ a) :
    (qspiSeen s a n).getD i 0 = flashByte s.nv (a + i) := by
  have hout : ¬(0x800000 ≤ a + i ∧ a + i < 0x802000) := by omega
  rw [qspiSeen, List.getD_eq_getElem?_getD, List.getElem?_append_left (by simpa using hi), List.getElem?_map,
    List.getElem?_range hi]
  simp only [Option.map_some, Option.getD_some, flashSeen, hout, if_false, BitVec.ofNat_toNat, BitVec.setWidth_eq]

/-- A PROG clears the bits that are 0 in the data, and leaves every other byte. -/
theorem flashProg_byte (f : Memory) (a n : Nat) (data : List Byte) :
    (∀ i < n, Memory.readByte (flashProg f a n data) (a + i) = Memory.readByte f (a + i) ||| ~~~ (data.getD i 0)) ∧
    ∀ x, x < a ∨ a + n ≤ x → Memory.readByte (flashProg f a n data) x = Memory.readByte f x := by
  induction n with
  | zero => exact ⟨fun i hi => absurd hi (by omega), fun x _ => rfl⟩
  | succ n ih =>
    obtain ⟨hin, hout⟩ := ih
    have hlast : flashProg f a (n + 1) data = Memory.writeByte (flashProg f a n data) (a + n)
        (Memory.readByte (flashProg f a n data) (a + n) ||| ~~~ (data.getD n 0)) := by
      simp only [flashProg, List.range_succ, List.foldl_append, List.foldl_cons, List.foldl_nil]
    refine ⟨fun i hi => ?_, fun x hx => ?_⟩
    · rw [hlast]
      by_cases h : i = n
      · rw [h, Memory.read_write_same, hout _ (by omega)]
      · rw [Memory.read_write_ne _ _ (by omega), hin i (by omega)]
    · rw [hlast, Memory.read_write_ne _ _ (by omega), hout x (by omega)]

/-- Clearing a range unlists its bytes, and leaves every other byte. -/
theorem readByte_clearRange (m : Memory) (a n x : Nat) : Memory.readByte (Memory.clearRange m a n) x =
    if x < a ∨ a + n ≤ x then Memory.readByte m x else 0 := by
  rw [Memory.readByte, SMap.get, Memory.clearRange, SMap.find_filter m (fun k => decide (k < a ∨ a + n ≤ k))]
  by_cases h : x < a ∨ a + n ≤ x
  · simp [h, Memory.readByte, SMap.get]
  · simp [h, Memory.unlisted]

/-! ### Errors of the DRAM (R513 to R515) -/

theorem satAdd_lt (n a b : Nat) : satAdd n a b < 2 ^ n := by
  have hpos : 0 < 2 ^ n := Nat.two_pow_pos n
  unfold satAdd
  split
  · assumption
  · omega

/-- The two counters of a register that holds two. -/
theorem rd_incSatPart_high (d : Dev) (f : Fld) (a : Nat) (hwd : f.wd = 32) :
    rd (incSatPart d f 16 16 a) f / 2 ^ 16 = satAdd 16 (bits (rd d f) 16 16) a := by
  have hlt := satAdd_lt 16 (bits (rd d f) 16 16) a
  simp only [incSatPart, rd_wr_same, hwd]
  generalize satAdd 16 (bits (rd d f) 16 16) a = c at *
  simp only [bits]
  omega

theorem rd_incSatPart_low (d : Dev) (f : Fld) (a : Nat) (hwd : f.wd = 32) :
    rd (incSatPart d f 0 16 a) f % 2 ^ 16 = satAdd 16 (rd d f % 2 ^ 16) a := by
  have hlt := satAdd_lt 16 (rd d f % 2 ^ 16) a
  have hlow : bits (rd d f) 0 16 = rd d f % 2 ^ 16 := by simp only [bits, Nat.pow_zero, Nat.div_one]
  simp only [incSatPart, rd_wr_same, hwd, hlow]
  generalize satAdd 16 (rd d f % 2 ^ 16) a = c at *
  omega

/-- An uncorrectable error outside the ledger's home marks its word, and is counted and raised. -/
theorem dramUe_marks {d : Dev} {a : Nat} (h : a < ledgerBase d ∨ ledgerBase d + 0x02000000 ≤ a) :
    a / 8 * 8 ∈ (dramUe d a).host.bad ∧ (dramUe d a).dram = d.dram ∧
    rd (dramUe d a) Reg.DRC_ECC_CNT_CNT / 2 ^ 16 = satAdd 16 (bits (rd d Reg.DRC_ECC_CNT_CNT) 16 16) 1 ∧
    rd (dramUe d a) Reg.DRC_UE_ADDR_LO_ADDR = a % 2 ^ 32 ∧
    (dramUe d a).mor.raised.map (·.src) = d.mor.raised.map (·.src) ++ [Src.DRC_UE] := by
  unfold dramUe
  extract_lets b word counted addressed marked
  rw [if_neg (by omega)]
  refine ⟨List.mem_cons_self, rfl, ?_, ?_, List.map_append⟩
  · rw [← rd_incSatPart_high d Reg.DRC_ECC_CNT_CNT 1 rfl]
    exact congrArg (· / 2 ^ 16) ((rd_wr_ne _ Reg.DRC_UE_ADDR_HI_ADDR _ _ (by decide)).trans
      (rd_wr_ne counted Reg.DRC_UE_ADDR_LO_ADDR Reg.DRC_ECC_CNT_CNT a (by decide)))
  · exact (rd_wr_ne _ Reg.DRC_UE_ADDR_HI_ADDR _ _ (by decide)).trans (rd_wr_same counted Reg.DRC_UE_ADDR_LO_ADDR a)

/-- A corrected error on the scrubber's last word is counted, and ends the pass. -/
theorem patrolScrub_ends (d : Dev) (a : Nat) : ∃ m, patrolScrub d a 1 true =
    { d with host := { d.host with scrubLate := false }, regs := m } ∧
    rd (patrolScrub d a 1 true) Reg.DRC_SCRUB_PASS = (rd d Reg.DRC_SCRUB_PASS + 1) % 2 ^ 16 ∧
    rd (patrolScrub d a 1 true) Reg.DRC_ECC_CNT_CNT % 2 ^ 16 = satAdd 16 (rd d Reg.DRC_ECC_CNT_CNT % 2 ^ 16) 1 := by
  refine ⟨_, rfl, ?_, ?_⟩
  · exact (rd_wr_same _ Reg.DRC_SCRUB_PASS _).trans (congrArg (fun v => (v + 1) % 2 ^ 16)
      (rd_wr_ne d Reg.DRC_ECC_CNT_CNT Reg.DRC_SCRUB_PASS _ (by decide)))
  · rw [← rd_incSatPart_low d Reg.DRC_ECC_CNT_CNT 1 rfl]
    exact congrArg (· % 2 ^ 16) (rd_wr_ne _ Reg.DRC_SCRUB_PASS Reg.DRC_ECC_CNT_CNT _ (by decide))

section
variable {s : State} {req : Requester} {a n : Nat} (w : Nat) (hacc : accessErr s.d req 0x10110400 true = 0)
  (hidle : s.d.host.qspi = none)
include hacc hidle

theorem exec_qspiRead_runs (ha : rd s.d Reg.HOST_QSPI_ADDR_ADDR = a) (hn : rd s.d Reg.HOST_QSPI_LEN_LEN = n) (hlo : 1 ≤ n)
    (hhi : n ≤ 256) : ∃ t, exec (.qspiRead req w) s = .next t ∧ t.nv = s.nv ∧ rdB t.d Reg.HOST_QSPI_CMD_QBUSY = true ∧
      t.d.host.qspi.map (fun q => (q.1, q.2.1, q.2.2.1)) = some (1, a, n) ∧ t.d.resp.err = 0 := by
  have hrange : qspiRange s.d 1 = (a, n) := by rw [qspiRange_data _ (by decide) (by decide), ha, hn]
  obtain ⟨m, hruns, -⟩ := qspiCmd_judges (w / 16 * 16 + 1) hacc hidle hrange (by omega)
  exact ⟨_, next_withDev (hruns (qspiForbidden_read _)), rfl, rdB_wrB_same _ Reg.HOST_QSPI_CMD_QBUSY true (by decide), rfl, rfl⟩

theorem exec_qspiProg_runs (ha : rd s.d Reg.HOST_QSPI_ADDR_ADDR = a) (hn : rd s.d Reg.HOST_QSPI_LEN_LEN = n) (hlo : 1 ≤ n)
    (hpage : a % 256 + n ≤ 256) (hbeyond : 0x802000 ≤ a) : ∃ t, exec (.qspiProg req w) s = .next t ∧ t.nv = s.nv ∧
      rdB t.d Reg.HOST_QSPI_CMD_QBUSY = true ∧ t.d.host.qspi.map (fun q => (q.1, q.2.1, q.2.2.1)) = some (2, a, n) := by
  have hrange : qspiRange s.d 2 = (a, n) := by rw [qspiRange_data _ (by decide) (by decide), ha, hn]
  obtain ⟨m, hruns, -⟩ := qspiCmd_judges (w / 16 * 16 + 2) hacc hidle hrange (by omega)
  exact ⟨_, next_withDev (hruns (qspiForbidden_beyond hrange hbeyond)), rfl,
    rdB_wrB_same _ Reg.HOST_QSPI_CMD_QBUSY true (by decide), rfl⟩

theorem exec_erase4k_runs (ha : rd s.d Reg.HOST_QSPI_ADDR_ADDR = a) (hbeyond : 0x802000 ≤ a) : ∃ t,
    exec (.erase4k req w) s = .next t ∧ t.nv = s.nv ∧
      t.d.host.qspi.map (fun q => (q.1, q.2.1, q.2.2.1)) = some (3, a / 0x1000 * 0x1000, 0x1000) := by
  have hrange : qspiRange s.d 3 = (a / 0x1000 * 0x1000, 0x1000) := by rw [← ha]; rfl
  obtain ⟨m, hruns, -⟩ := qspiCmd_judges (w / 16 * 16 + 3) hacc hidle hrange (by omega)
  exact ⟨_, next_withDev (hruns (qspiForbidden_beyond hrange (by omega))), rfl, rfl⟩

theorem exec_erase64k_runs (ha : rd s.d Reg.HOST_QSPI_ADDR_ADDR = a) (hbeyond : 0x810000 ≤ a) : ∃ t,
    exec (.erase64k req w) s = .next t ∧ t.nv = s.nv ∧
      t.d.host.qspi.map (fun q => (q.1, q.2.1, q.2.2.1)) = some (4, a / 0x10000 * 0x10000, 0x10000) := by
  have hrange : qspiRange s.d 4 = (a / 0x10000 * 0x10000, 0x10000) := by rw [← ha]; rfl
  obtain ⟨m, hruns, -⟩ := qspiCmd_judges (w / 16 * 16 + 4) hacc hidle hrange (by omega)
  exact ⟨_, next_withDev (hruns (qspiForbidden_beyond hrange (by omega))), rfl, rfl⟩

theorem exec_erase64k_forbidden (ha : rd s.d Reg.HOST_QSPI_ADDR_ADDR = a) (hlo : 0x800000 ≤ a) (hhi : a < 0x810000) : ∃ t,
    exec (.erase64k req w) s = .next t ∧ t.nv = s.nv ∧ t.d.host.qspi = none ∧ t.d.resp.err = errFirewall := by
  have hrange : qspiRange s.d 4 = (a / 0x10000 * 0x10000, 0x10000) := by rw [← ha]; rfl
  have hshut : qspiForbidden s.d 4 = true := by
    have hover : a / 0x10000 * 0x10000 < 0x802000 ∧ 0x800000 < a / 0x10000 * 0x10000 + 0x10000 := by omega
    simp [qspiForbidden, hrange, hover]
  obtain ⟨m, -, hanswers⟩ := qspiCmd_judges (w / 16 * 16 + 4) hacc hidle hrange (by omega)
  exact ⟨_, next_withDev (hanswers hshut), rfl, hidle, rfl⟩

end

section
variable {s : State} {cmd a n : Nat} {data : List Byte} (hwait : s.d.safe.recWait = false)
include hwait

/-- The end of a READ fills the buffer with the bytes of the flash. -/
theorem exec_qspiDone_read (hrun : s.d.host.qspi = some (1, a, n, data)) (hrec : a + n ≤ 0x800000 ∨ 0x802000 ≤ a) : ∃ t,
    exec .qspiDone s = .next t ∧ t.nv = s.nv ∧ t.d.host.qspi = none ∧ rdB t.d Reg.HOST_QSPI_CMD_QDONE = true ∧
    rdB t.d Reg.HOST_QSPI_CMD_QBUSY = false ∧ ∀ i j, i < 64 → j < 4 → 4 * i + j < n →
      bits (rd t.d (Reg.HOST_QSPI_BUF_DATA i)) (8 * j) 8 = (flashByte s.nv (a + (4 * i + j))).toNat := by
  have hother (f : Fld) (hf : f.key < 0x10110500 * 32) :
      rd (qspiFilled (qspiEnded s.d) (qspiSeen s a n)) f = rd (qspiEnded s.d) f := qspiFilled_within _ _ f (by omega)
  obtain ⟨hdone, hbusy⟩ := qspiEnded_shown s.d
  have hhost := qspiFilled_host (qspiEnded s.d) (qspiSeen s a n)
  have hbytes (i j : Nat) (hi : i < 64) (hj : j < 4) := qspiFilled_byte (qspiEnded s.d) (qspiSeen s a n) hi hj
  have hended := (recordWaiting_none (by rw [qspiDone_safe]; exact hwait)).trans (qspiDone_read hrun)
  generalize qspiFilled (qspiEnded s.d) (qspiSeen s a n) = e at *
  refine ⟨_, congrArg Host.Outcome.next hended, rfl, congrArg HostSt.qspi hhost,
    (congrArg (fun v => v % 2 == 1) (hother Reg.HOST_QSPI_CMD_QDONE (by decide))).trans hdone,
    (congrArg (fun v => v % 2 == 1) (hother Reg.HOST_QSPI_CMD_QBUSY (by decide))).trans hbusy, fun i j hi hj hbyte => ?_⟩
  exact (hbytes i j hi hj).trans (congrArg BitVec.toNat (qspiSeen_byte hbyte hrec))

/-- The end of a PROG. -/
theorem exec_qspiDone_prog (hrun : s.d.host.qspi = some (2, a, n, data)) : exec .qspiDone s = .next { s with
    d := qspiEnded s.d
    nv := { s.nv with flash := flashProg s.nv.flash a n data } } :=
  congrArg Host.Outcome.next ((recordWaiting_none (by rw [qspiDone_safe]; exact hwait)).trans (qspiDone_prog hrun))

/-- The end of an erase. -/
theorem exec_qspiDone_erase (hrun : s.d.host.qspi = some (3, a, n, data) ∨ s.d.host.qspi = some (4, a, n, data)) :
    exec .qspiDone s = .next { s with
      d := qspiEnded s.d
      nv := { s.nv with flash := Memory.clearRange s.nv.flash a n } } := by
  refine congrArg Host.Outcome.next ((recordWaiting_none (by rw [qspiDone_safe]; exact hwait)).trans ?_)
  rcases hrun with h | h
  · exact qspiDone_erase h (by decide) (by decide)
  · exact qspiDone_erase h (by decide) (by decide)

end

/-- A confirmation record that waited for a flash command is written when it ends. -/
theorem exec_qspiDone_record {s : State} {c : Nat} {g : List Byte} (hwait : s.d.safe.recWait = true)
    (hdue : s.d.safe.recDue = true) (hconf : s.d.safe.conf = some (c, g)) : ∃ t r, exec .qspiDone s = .next t ∧
    t.nv.conf = [some r, some r] ∧ r.check = c ∧ r.digest = g ∧ t.d.safe.recDue = false ∧ t.d.safe.recWait = false := by
  have hsafe := qspiDone_safe s
  have hended : exec .qspiDone s = .next (recordWaiting (qspiDone s)) := rfl
  generalize qspiDone s = e at *
  obtain ⟨r, hwritten, hcheck, hdigest, -⟩ := recordWrite_due (c := c) (g := g)
    (s := e.withDev { e.d with safe := { e.d.safe with recWait := false } })
    (by simpa [hsafe] using hdue) (by simpa [hsafe] using hconf)
  rw [recordWaiting_writes (by rw [hsafe]; exact hwait), hwritten] at hended
  exact ⟨_, r, hended, rfl, hcheck, hdigest, rfl, rfl⟩

/-- Settles O54: a command is judged by its range, its end by the command that runs, an error by its place. -/
theorem flashAndDram : Obligations.FlashAndDram := by
  unfold Obligations.FlashAndDram
  intro s req w a n rank cause data
  refine ⟨fun hacc hidle ha hn => ⟨exec_qspiRead_runs w hacc hidle ha hn, exec_qspiProg_runs w hacc hidle ha hn,
    exec_erase4k_runs w hacc hidle ha, exec_erase64k_runs w hacc hidle ha, exec_erase64k_forbidden w hacc hidle ha⟩,
    fun hwait hrun _ hrec => exec_qspiDone_read hwait hrun hrec, fun hwait hrun => ?prog,
    fun hwait hrun => ?erase, fun c g hwait hdue hconf => exec_qspiDone_record hwait hdue hconf, fun hplace => ⟨?ue, ?ueRead⟩,
    rfl, ?rank, rfl, ?scrub⟩
  case prog =>
    obtain ⟨hin, hout⟩ := flashProg_byte s.nv.flash a n data
    refine ⟨_, exec_qspiDone_prog hwait hrun, rfl, rfl, fun i hi => ?_, fun x hx => ?_⟩
    · simp only [flashByte, hin i hi, BitVec.not_or, BitVec.not_not]
    · simp only [flashByte, hout x hx]
  case erase =>
    refine ⟨_, exec_qspiDone_erase hwait hrun, rfl, rfl, fun x hlo hhi => ?_, fun x hx => ?_⟩
    · simp only [flashByte, readByte_clearRange, if_neg (by omega : ¬(x < a ∨ a + n ≤ x))]
      rfl
    · simp only [flashByte, readByte_clearRange, if_pos hx]
  case ue =>
    obtain ⟨hbad, hdram, hcount, haddr, hraised⟩ := dramUe_marks hplace
    exact ⟨_, rfl, rfl, hbad, hdram, hcount, haddr, hraised⟩
  case ueRead =>
    obtain ⟨hbad, -⟩ := dramUe_marks hplace
    exact ⟨_, rfl, rfl, (congrArg (fun h : HostSt => a / 8 * 8 ∈ h.bad) (errResp_host _ _ _ _ _)).mpr hbad, rfl⟩
  case rank =>
    exact ⟨_, rfl, rfl, rdFBit_wrFBit_same s.d Reg.DRC_STAT_RANK_FAIL (rank % 2) true (Nat.mod_lt _ (by decide)), List.map_append⟩
  case scrub =>
    obtain ⟨m, hm, hpass, hcount⟩ := patrolScrub_ends s.d a
    exact ⟨_, rfl, rfl, by rw [hm], by rw [hm], hpass, hcount⟩

end Sys2Proof.Machine
end

section
/-!
PROOFS. The host rings, the host link and the triad's zone requests (R503, R509 to R512, R526).
-/
namespace Sys2Proof.Machine

/-! ### One ring -/

@[simp] theorem hring_setHring_same (d : Dev) (r : Nat) (f : HostRing → HostRing) : hring (setHring d r f) r = f (hring d r) :=
  SMap.get_mod_same _ _ _ _

theorem hring_setHring_ne (d : Dev) {r q : Nat} (f : HostRing → HostRing) (h : q ≠ r) : hring (setHring d r f) q = hring d q :=
  SMap.get_mod_ne _ _ _ h

/-- A ring's oldest record has been taken from it. -/
def ringPop (d : Dev) (r : Nat) (rest : List (List Byte)) : Dev :=
  if r = 1 then { d with recq := rest } else setHring d r (fun x => { x with queue := rest })

/-- A capture of a stream that is not delivered is counted. -/
def ringDropped (d : Dev) (r : Nat) : Dev :=
  if 2 ≤ r ∧ r < 10 then incSatPart d (Reg.LEDGER_STRM_LOSS_CNT (r - 2)) 16 16 1 else d

/-- What becomes of the oldest record of a ring (R510). -/
theorem hostRingWrite_record {d : Dev} {r : Nat} {b : List Byte} {rest : List (List Byte)} (h : ringQueue d r = b :: rest) :
    hostRingWrite d r =
      if !(hring d r).en then ringDropped (ringPop d r rest) r
      else if ringFits d r (padded b).length then
        if 2 ≤ r ∧ r < 10 then incWrap (ringPut (ringPop d r rest) r b) (Reg.LEDGER_STRM_CNT_CNT (r - 2)) 1
        else ringPut (ringPop d r rest) r b
      else if 2 ≤ r ∧ r < 10 then ringDropped (ringPop d r rest) r else d := by
  unfold hostRingWrite
  rw [h]
  rfl

theorem ringPop_shown (d : Dev) (r : Nat) (rest : List (List Byte)) : ringQueue (ringPop d r rest) r = rest ∧
    (ringPop d r rest).regs = d.regs ∧ (ringPop d r rest).host.mem = d.host.mem ∧
    (hring (ringPop d r rest) r).base = (hring d r).base ∧ (hring (ringPop d r rest) r).size = (hring d r).size ∧
    (hring (ringPop d r rest) r).wb = (hring d r).wb := by
  unfold ringPop ringQueue
  by_cases h : r = 1
  · rw [if_pos h, if_pos h]
    exact ⟨rfl, rfl, rfl, rfl, rfl, rfl⟩
  · rw [if_neg h, if_neg h, hring_setHring_same]
    exact ⟨rfl, rfl, rfl, rfl, rfl, rfl⟩

/-- What tells a ring's place in host memory. -/
theorem ringFill_congr {d e : Dev} {r : Nat} (n : Nat) (hsize : (hring e r).size = (hring d r).size) (hregs : e.regs = d.regs) :
    ringFill e r n = ringFill d r n := by
  unfold ringFill rd
  rw [hsize, hregs]

theorem ringDropped_shown (d : Dev) (r : Nat) : ringQueue (ringDropped d r) r = ringQueue d r ∧
    (ringDropped d r).host.mem = d.host.mem ∧
    rd (ringDropped d r) (Reg.HOST_RING_HEAD_HEAD r) = rd d (Reg.HOST_RING_HEAD_HEAD r) := by
  unfold ringDropped
  split
  · next h =>
    refine ⟨rfl, rfl, rd_wr_ne _ _ _ _ ?_⟩
    simp only [Fld.key, Reg.HOST_RING_HEAD_HEAD, Reg.LEDGER_STRM_LOSS_CNT]
    omega
  · exact ⟨rfl, rfl, rfl⟩

/-- Signalling a ring leaves its records, its memory and its head count alone. -/
theorem ringSignal_shown (d : Dev) (r : Nat) : ringQueue (ringSignal d r) r = ringQueue d r ∧
    (ringSignal d r).host.mem = d.host.mem ∧
    rd (ringSignal d r) (Reg.HOST_RING_HEAD_HEAD r) = rd d (Reg.HOST_RING_HEAD_HEAD r) := by
  refine ⟨?_, rfl, rd_wr_ne _ _ _ _ ?_⟩
  · have hrings : hring (ringSignal d r) r = { hring d r with unsig := 0 } := hring_setHring_same d r _
    unfold ringQueue
    rw [hrings]
    rfl
  · simp only [Fld.key, Reg.HOST_RING_HEAD_HEAD, Reg.HOST_IRQ_STAT_CAUSE]
    omega

/-- A record that fits goes behind its fill, and the head count behind it is written back. -/
theorem ringPut_writes (d : Dev) (r : Nat) (b : List Byte) (o : Nat)
    (ho : (rd d (Reg.HOST_RING_HEAD_HEAD r) + ringFill d r (padded b).length) % 2 ^ 32 % (hring d r).size = o)
    (hapart : (hring d r).wb + 8 ≤ (hring d r).base + o ∨ (hring d r).base + o + (padded b).length ≤ (hring d r).wb) :
    ringQueue (ringPut d r b) r = ringQueue d r ∧ rd (ringPut d r b) (Reg.HOST_RING_HEAD_HEAD r) =
      (rd d (Reg.HOST_RING_HEAD_HEAD r) + ringFill d r (padded b).length + (padded b).length) % 2 ^ 32 ∧
    Memory.readLE (ringPut d r b).host.mem (hring d r).wb 8 =
      (rd d (Reg.HOST_RING_HEAD_HEAD r) + ringFill d r (padded b).length + (padded b).length) % 2 ^ 32 ∧
    Memory.readList (ringPut d r b).host.mem ((hring d r).base + o) (padded b).length = padded b := by
  unfold ringPut
  lift_lets
  extract_lets bytes ring head fill filled place stored next written host put shown queued
  have hplace : place = o := ho
  have hdisjoint : ring.wb + 8 ≤ ring.base + place ∨ ring.base + place + bytes.length ≤ ring.wb := by
    rw [hplace]
    exact hapart
  have hqueue : ringQueue queued r = ringQueue d r := by
    have hrings : hring queued r = { hring d r with unsig := (hring d r).unsig + 1 } := hring_setHring_same shown r _
    unfold ringQueue
    rw [hrings]
    rfl
  have hhead : rd queued (Reg.HOST_RING_HEAD_HEAD r) = next :=
    (rd_wr_same put (Reg.HOST_RING_HEAD_HEAD r) next).trans (Nat.mod_mod _ _)
  have hcount : Memory.readLE queued.host.mem ring.wb 8 = next :=
    (Memory.readLE_writeLE_same stored ring.wb 8 next).trans (Nat.mod_eq_of_lt (by omega))
  have hrec : Memory.readList queued.host.mem (ring.base + place) bytes.length = bytes := by
    have hkept : Memory.readList written (ring.base + place) bytes.length = Memory.readList stored (ring.base + place) bytes.length :=
      Memory.readList_congr fun a hlo hhi => Memory.read_writeLE_outside _ _ _ _ _ (by omega)
    exact hkept.trans (Memory.readList_writeList_same _ _ _)
  clear_value queued
  split
  · obtain ⟨hkeptQueue, hkeptMem, hkeptHead⟩ := ringSignal_shown queued r
    rw [hkeptQueue, hkeptMem, hkeptHead, ← hplace]
    exact ⟨hqueue, hhead, hcount, hrec⟩
  · rw [← hplace]
    exact ⟨hqueue, hhead, hcount, hrec⟩

/-! ### The registers of the rings -/

set_option maxRecDepth 4000 in
theorem regFind_ringTail {n : Nat} (hn : n < 10) : regFind (0x10110204 + 0x10 * n) = some (⟨0x10110204, [(10, 16)], .device,
    [⟨fun n _ _ => Reg.HOST_RING_TAIL_TAIL n, .rw, none⟩]⟩, [n]) := by
  revert n
  show HoldsBelow _ _
  iterate 10 refine .succ ?_ rfl
  exact .zero

theorem writeFields_ringTail (d : Dev) (req : Requester) {n : Nat} (w : Nat) (hn : n < 10) :
    writeFields d req (0x10110204 + 0x10 * n) w = okResp (wr d (Reg.HOST_RING_TAIL_TAIL n) w) := by
  have hval : fldVal (Reg.HOST_RING_TAIL_TAIL n) w = w % 2 ^ 32 := by
    simp only [fldVal, bits, Reg.HOST_RING_TAIL_TAIL, Nat.pow_zero, Nat.div_one]
  have hcross : crossFault d (0x10110204 + 0x10 * n) w = false := by
    clear hval
    revert n
    show HoldsBelow _ _
    iterate 10 refine .succ ?_ rfl
    exact .zero
  rw [writeFields_row req w (regFind_ringTail hn) rfl hcross rfl, ← wr_mod d (Reg.HOST_RING_TAIL_TAIL n) w]
  exact congrArg (fun v => okResp (wr d (Reg.HOST_RING_TAIL_TAIL n) v)) hval

/-- The tail is the host's. -/
theorem exec_hostRingTail {s : State} {req : Requester} {n : Nat} (w : Nat) (hn : n < 10)
    (hacc : accessErr s.d req (0x10110204 + 0x10 * n) true = 0) :
    exec (.hostRingTail req n w) s = .next (s.withDev (okResp (wr s.d (Reg.HOST_RING_TAIL_TAIL n) w))) := by
  have hopen : safeClosed (0x10110204 + 0x10 * n) = false := by
    clear hacc
    revert n
    show HoldsBelow _ _
    iterate 10 refine .succ ?_ rfl
    exact .zero
  refine next_withDev ?_
  rw [Nat.mod_eq_of_lt hn, regAccess_open w _ hacc (.inr hopen), writeFields_ringTail s.d req w hn]

/-! ### The link -/

/-- The first rings are disabled, their records kept. -/
def ringsOff (d : Dev) (n : Nat) : Dev :=
  (List.range n).foldl (fun d r => setHring d r (fun x => { x with en := false, unsig := 0 })) d

theorem hring_ringsOff (d : Dev) (n r : Nat) :
    hring (ringsOff d n) r = if r < n then { hring d r with en := false, unsig := 0 } else hring d r := by
  induction n with
  | zero => rfl
  | succ n ih =>
    have hsucc : ringsOff d (n + 1) = setHring (ringsOff d n) n (fun x => { x with en := false, unsig := 0 }) := by
      simp only [ringsOff, List.range_succ, List.foldl_append, List.foldl_cons, List.foldl_nil]
    rw [hsucc]
    by_cases h : r = n
    · subst h
      rw [hring_setHring_same, ih, if_neg (by omega), if_pos (by omega)]
    · rw [hring_setHring_ne _ _ h, ih]
      exact ite_congr (propext (by omega)) (fun _ => rfl) (fun _ => rfl)

theorem ringsOff_mor (d : Dev) (n : Nat) : (ringsOff d n).mor = d.mor := by
  unfold ringsOff
  refine foldl_keeps (fun e => e.mor) (List.range n) _ (fun e r => ?_) d
  rfl

/-- The link's registers show that it is down. -/
def linkOff (d : Dev) (fundamental : Bool) : Dev :=
  irq (raise (wrB (wr (wr (wr (wrB d Reg.HOST_STAT_LINK_UP false) Reg.HOST_STAT_SPEED 0) Reg.HOST_STAT_WIDTH 0)
    Reg.HOST_STAT_MBX_VER 1) Reg.HOST_STAT_LINK_DOWN_EV true) Src.HOST_LINK_DOWN 0 0 (b2n fundamental) 0) 13

theorem linkDown_eq (d : Dev) (fundamental : Bool) : linkDown d fundamental = linkOff (ringsOff d 10) fundamental := rfl

theorem linkOff_shown (d : Dev) (fundamental : Bool) : rdB (linkOff d fundamental) Reg.HOST_STAT_LINK_UP = false ∧
    rd (linkOff d fundamental) Reg.HOST_STAT_SPEED = 0 ∧ rd (linkOff d fundamental) Reg.HOST_STAT_WIDTH = 0 ∧
    rd (linkOff d fundamental) Reg.HOST_STAT_MBX_VER = 1 ∧ rdB (linkOff d fundamental) Reg.HOST_STAT_LINK_DOWN_EV = true ∧
    rdFBit (linkOff d fundamental) Reg.HOST_IRQ_STAT_CAUSE 13 = true := by
  refine ⟨?_, ?_, ?_, ?_, ?_, rdFBit_wrFBit_same _ Reg.HOST_IRQ_STAT_CAUSE 13 true (by decide)⟩
  all_goals
    simp (disch := decide) only [linkOff, irq, wrFBit, rdB, rd_wr_ne, rd_raise, rd_wrB_ne, rd_wrB_same, rd_wr_same, b2n]
    rfl

/-! ### Zone requests of the triad (R526) -/

set_option maxRecDepth 4000 in
theorem regFind_sysZoneReq : regFind 0x10000014 = some (⟨0x10000014, [], .device,
    [⟨fun _ _ _ => Reg.SYS_ZONE_REQ_ZONE, .rw, none⟩, ⟨fun _ _ _ => Reg.SYS_ZONE_REQ_MODE, .rw, none⟩,
     ⟨fun _ _ _ => Reg.SYS_ZONE_REQ_GO, .wo, none⟩, ⟨fun _ _ _ => Reg.SYS_ZONE_REQ_PEND, .ro, none⟩,
     ⟨fun _ _ _ => Reg.SYS_ZONE_REQ_DONE, .w1c, none⟩, ⟨fun _ _ _ => Reg.SYS_ZONE_REQ_REFUSED, .w1c, none⟩]⟩, []) := rfl

/-- A write of `SYS_ZONE_REQ` sets its own register alone, and leaves `PEND`. -/
theorem writeFields_sysZoneReq (d : Dev) (req : Requester) (w : Nat) :
    ∃ m, writeFields d req 0x10000014 w = okResp { d with regs := m } ∧
      RegsWithin (fun k => k / 32 = 0x10000014) d (okResp { d with regs := m }) ∧
      rdB (okResp { d with regs := m }) Reg.SYS_ZONE_REQ_PEND = rdB d Reg.SYS_ZONE_REQ_PEND := by
  obtain ⟨m, hm, hkeep⟩ := writeFields_takes (d := d) req w regFind_sysZoneReq rfl rfl rfl
  refine ⟨m, hm, hm ▸ hkeep _ (by decide), ?_⟩
  rw [← hm, writeFields_row req w regFind_sysZoneReq rfl rfl rfl]
  simp only [List.foldl_cons, List.foldl_nil, fldWrite, fldOpen, FldRow.at, Bool.false_eq_true, if_false, if_true]
  simp (disch := decide) only [rdB, rd_okResp, rd_wr_ne]

/-- What a zone's request is judged by lies outside `SYS_ZONE_REQ`. -/
theorem zoneMay_congr {d e : Dev} (hrd : RegsWithin (fun k => k / 32 = 0x10000014) d e) (hfirn : e.firn = d.firn) (z m : Nat) :
    zoneMay e z m = zoneMay d z m ∧ isStandby e = isStandby d := by
  have hrole := hrd Reg.SYS_PROPS_ROLE (by decide)
  refine ⟨?_, by simp only [isStandby, role, hrole]⟩
  simp only [zoneMay, inBoot, inSafe, zones, img, mayProduce, triCfg, confirmed, rimeState, rdB, hfirn,
    hrd Reg.SYS_PROPS_BOOT (by decide), hrd Reg.MOR_STAT_SAFE (by decide), hrd Reg.SYS_PROPS_TRIAD (by decide),
    hrd Reg.SAFE_STAT_CONF (by decide), hrd Reg.SYS_PROPS_RIME (by decide), hrd Reg.PWR_STAT_WAKE_DEGRADED (by decide),
    hrd Reg.LCY_STATE_STATE (by decide)]
  rfl

/-- The triad's waiting request has been answered: a request that comes takes its place. -/
def zoneReplaced (d : Dev) : Dev :=
  if d.zreq.any (fun x => x.src == 1) then
    { wrB (wrB d Reg.SYS_ZONE_REQ_REFUSED true) Reg.SYS_ZONE_REQ_PEND false with zreq := d.zreq.filter (fun x => x.src != 1) }
  else d

theorem zoneReplaced_shown (d : Dev) : (zoneReplaced d).zreq = d.zreq.filter (fun x => x.src != 1) ∧
    (zoneReplaced d).firn = d.firn ∧ (zoneReplaced d).k = d.k ∧ RegsWithin (fun k => k / 32 = 0x10000014) d (zoneReplaced d) ∧
    ((∃ x ∈ d.zreq, x.src = 1) → rdB (zoneReplaced d) Reg.SYS_ZONE_REQ_REFUSED = true) := by
  unfold zoneReplaced
  split
  · refine ⟨rfl, rfl, rfl, ?_, fun _ => ?_⟩
    · exact ((RegsWithin.refl (fun k => k / 32 = 0x10000014) d).wrB (f := Reg.SYS_ZONE_REQ_REFUSED) true (by decide)).wrB
        (f := Reg.SYS_ZONE_REQ_PEND) false (by decide)
    · exact (rdB_wrB_ne _ Reg.SYS_ZONE_REQ_PEND _ false (by decide)).trans (rdB_wrB_same d Reg.SYS_ZONE_REQ_REFUSED true (by decide))
  · next h =>
    have hnone : ∀ x ∈ d.zreq, x.src ≠ 1 := by simpa using h
    exact ⟨(List.filter_eq_self.mpr (by simpa using hnone)).symm, rfl, rfl, .refl _ _, fun ⟨x, hx, hsrc⟩ => absurd hsrc (hnone x hx)⟩

/-- A request of the triad takes the place of one that waits, and is accepted where its zone may enter the mode. -/
theorem sysZoneReq_judges {d : Dev} {req : Requester} (w : Nat) (hacc : accessErr d req 0x10000014 true = 0) (hreq : req ≠ .host) :
    sysZoneReq d req w =
      if zoneMay d (bits w 0 4) (bits w 4 3) && bits w 4 3 != modeDormant && !isStandby d then
        okResp (wrB { zoneReplaced (writeFields d req 0x10000014 w) with
          zreq := d.zreq.filter (fun x => x.src != 1) ++ [⟨bits w 0 4, bits w 4 3, 1, 0, cycNo d + 1⟩] } Reg.SYS_ZONE_REQ_PEND true)
      else okResp (wrB (zoneReplaced (writeFields d req 0x10000014 w)) Reg.SYS_ZONE_REQ_REFUSED true) := by
  obtain ⟨m, hm, hkeep, -⟩ := writeFields_sysZoneReq d req w
  obtain ⟨hzreq, hfirn, hk, hwithin, -⟩ := zoneReplaced_shown (okResp { d with regs := m })
  obtain ⟨hmay, hstandby⟩ := zoneMay_congr (hkeep.trans hwithin) hfirn (bits w 0 4) (bits w 4 3)
  have hacts : sysZoneReq d req w =
      if zoneMay (zoneReplaced (writeFields d req 0x10000014 w)) (bits w 0 4) (bits w 4 3) && bits w 4 3 != modeDormant &&
        !isStandby (zoneReplaced (writeFields d req 0x10000014 w)) then
        okResp (wrB { zoneReplaced (writeFields d req 0x10000014 w) with
          zreq := (zoneReplaced (writeFields d req 0x10000014 w)).zreq ++
            [⟨bits w 0 4, bits w 4 3, 1, 0, cycNo (zoneReplaced (writeFields d req 0x10000014 w)) + 1⟩] } Reg.SYS_ZONE_REQ_PEND true)
      else okResp (wrB (zoneReplaced (writeFields d req 0x10000014 w)) Reg.SYS_ZONE_REQ_REFUSED true) := by
    unfold sysZoneReq
    rw [regAccess_open w _ hacc (.inr (by decide))]
    exact if_neg hreq
  rw [hacts, hm, hmay, hstandby, hzreq, cycNo, hk]
  rfl

/-- A host's `GO` is refused. -/
theorem sysZoneReq_host {d : Dev} (w : Nat) (hacc : accessErr d .host 0x10000014 true = 0) :
    sysZoneReq d .host w = refuseW (writeFields d .host 0x10000014 w) .host 0x10000014 := by
  unfold sysZoneReq
  rw [regAccess_open w _ hacc (.inr (by decide))]
  rfl

/-- An error response names its address and leaves the registers of other blocks alone. -/
theorem errResp_logged (d : Dev) (req : Requester) (addr code : Nat) (write : Bool) :
    rd (errResp d req addr code write) Reg.FWL_VADDR_ADDR = addr % 2 ^ 32 ∧
    RegsWithin (fun k => 0x10110000 * 32 ≤ k) d (errResp d req addr code write) := by
  refine ⟨?_, ?_⟩
  · have hlog : rd (fwlLog d req addr code write) Reg.FWL_VADDR_ADDR = addr % 2 ^ Reg.FWL_VADDR_ADDR.wd := by
      simp (disch := decide) only [fwlLog, irq, wrFBit, incSat, rd_wr_ne, rd_raise, rd_wrB_ne, rd_wr_same]
    exact hlog
  · unfold errResp fwlLog
    exact (((((((((RegsWithin.refl (fun k => 0x10110000 * 32 ≤ k) d).wr (f := Reg.FWL_VADDR_ADDR) _ (by decide)).wr
      (f := Reg.FWL_VREQ_REQ) _ (by decide)).wr (f := Reg.FWL_VREQ_CODE) _ (by decide)).wrB (f := Reg.FWL_VREQ_WRITE) _
      (by decide)).wr (f := Reg.FWL_VPAGE_PAGE) _ (by decide)).wrB (f := Reg.FWL_VPAGE_WIN) _ (by decide)).wr
      (f := Reg.FWL_VCNT_CNT) _ (by decide)).raise _ _ _ _ _).irq 13 (by decide)

section
variable {s : State} {req : Requester} {w z m : Nat} (hacc : accessErr s.d req 0x10000014 true = 0) (hz : bits w 0 4 = z)
  (hm : bits w 4 3 = m)
include hacc

theorem exec_sysZoneReq_host (hreq : req = .host) : ∃ t, exec (.sysZoneReq req w) s = .next t ∧ t.nv = s.nv ∧
    t.d.resp.err = errRefused ∧ t.d.zreq = s.d.zreq ∧ rd t.d Reg.FWL_VADDR_ADDR = 0x10000014 ∧
    rdB t.d Reg.SYS_ZONE_REQ_PEND = rdB s.d Reg.SYS_ZONE_REQ_PEND := by
  subst hreq
  obtain ⟨m, hm, -, hpend⟩ := writeFields_sysZoneReq s.d .host (setBit w 8 true)
  have hrefused := sysZoneReq_host (setBit w 8 true) hacc
  rw [hm] at hrefused
  obtain ⟨haddr, hkeep⟩ := errResp_logged (okResp { s.d with regs := m }) .host 0x10000014 errRefused true
  exact ⟨_, next_withDev hrefused, rfl, rfl, rfl, haddr, (hkeep.rdB (f := Reg.SYS_ZONE_REQ_PEND) (by decide)).trans hpend⟩

include hz hm

theorem exec_sysZoneReq_accepted (hreq : req ≠ .host) (hmay : zoneMay s.d z m = true) (hstandby : isStandby s.d = false)
    (hmode : m ≠ modeDormant) : ∃ t, exec (.sysZoneReq req w) s = .next t ∧ t.nv = s.nv ∧ t.d.resp.err = 0 ∧
      t.d.zreq = s.d.zreq.filter (fun x => x.src != 1) ++ [⟨z, m, 1, 0, cycNo s.d + 1⟩] ∧
      rdB t.d Reg.SYS_ZONE_REQ_PEND = true ∧ ((∃ x ∈ s.d.zreq, x.src = 1) → rdB t.d Reg.SYS_ZONE_REQ_REFUSED = true) := by
  have hjudged := sysZoneReq_judges (setBit w 8 true) hacc hreq
  rw [bits_setBit_outside w true (by decide), bits_setBit_outside w true (by decide), hz, hm,
    if_pos (by simp [hmay, hstandby, hmode])] at hjudged
  obtain ⟨m, hm, -, -⟩ := writeFields_sysZoneReq s.d req (setBit w 8 true)
  obtain ⟨-, -, -, -, hflag⟩ := zoneReplaced_shown (okResp { s.d with regs := m })
  rw [hm] at hjudged
  refine ⟨_, next_withDev hjudged, rfl, rfl, rfl, rdB_wrB_same _ Reg.SYS_ZONE_REQ_PEND true (by decide), fun hwaits => ?_⟩
  exact (rdB_wrB_ne _ Reg.SYS_ZONE_REQ_PEND Reg.SYS_ZONE_REQ_REFUSED true (by decide)).trans (hflag hwaits)

theorem exec_sysZoneReq_flagged (hreq : req ≠ .host)
    (hnot : zoneMay s.d z m = false ∨ isStandby s.d = true ∨ m = modeDormant) : ∃ t, exec (.sysZoneReq req w) s = .next t ∧
      t.nv = s.nv ∧ t.d.resp.err = 0 ∧ t.d.zreq = s.d.zreq.filter (fun x => x.src != 1) ∧
      rdB t.d Reg.SYS_ZONE_REQ_REFUSED = true := by
  have hjudged := sysZoneReq_judges (setBit w 8 true) hacc hreq
  rw [bits_setBit_outside w true (by decide), bits_setBit_outside w true (by decide), hz, hm,
    if_neg (by rcases hnot with h | h | h <;> simp [h])] at hjudged
  obtain ⟨m, hm, -, -⟩ := writeFields_sysZoneReq s.d req (setBit w 8 true)
  obtain ⟨hzreq, -, -, -, -⟩ := zoneReplaced_shown (okResp { s.d with regs := m })
  rw [hm] at hjudged
  exact ⟨_, next_withDev hjudged, rfl, rfl, hzreq, rdB_wrB_same _ Reg.SYS_ZONE_REQ_REFUSED true (by decide)⟩

end

/-! ### The oldest record of a ring (R510) -/

theorem satAdd_one {n v : Nat} (h : v < 2 ^ n) : satAdd n v 1 = min (v + 1) (2 ^ n - 1) := by
  unfold satAdd
  generalize 2 ^ n = m at *
  by_cases hm : v + 1 < m
  · rw [if_pos hm]
    omega
  · rw [if_neg hm]
    omega

section
variable {s : State} {n : Nat} {b : List Byte} {rest : List (List Byte)}

/-- A disabled ring discards its record, and a capture that does not fit is dropped. -/
theorem exec_hostRingWrite_dropped (hwrite : hostRingWrite s.d n = ringDropped (ringPop s.d n rest) n) : ∃ t,
    exec (.hostRingWrite n) s = .next t ∧ t.nv = s.nv ∧ ringQueue t.d n = rest ∧ t.d.host.mem = s.d.host.mem ∧
    rd t.d (Reg.HOST_RING_HEAD_HEAD n) = rd s.d (Reg.HOST_RING_HEAD_HEAD n) ∧ (2 ≤ n → n < 10 →
      bits (rd t.d (Reg.LEDGER_STRM_LOSS_CNT (n - 2))) 16 16 =
        min (bits (rd s.d (Reg.LEDGER_STRM_LOSS_CNT (n - 2))) 16 16 + 1) 0xFFFF) := by
  obtain ⟨hqueue, hregs, hmem, -, -, -⟩ := ringPop_shown s.d n rest
  have hsame (f : Fld) : rd (ringPop s.d n rest) f = rd s.d f := by simp only [rd, hregs]
  obtain ⟨hqueue', hmem', hhead⟩ := ringDropped_shown (ringPop s.d n rest) n
  refine ⟨_, next_withDev hwrite, rfl, hqueue'.trans hqueue, hmem'.trans hmem, hhead.trans (hsame _), fun hlo hhi => ?_⟩
  have hcount := rd_incSatPart_high (ringPop s.d n rest) (Reg.LEDGER_STRM_LOSS_CNT (n - 2)) 1 rfl
  rw [hsame] at hcount
  have hdropped : ringDropped (ringPop s.d n rest) n =
      incSatPart (ringPop s.d n rest) (Reg.LEDGER_STRM_LOSS_CNT (n - 2)) 16 16 1 := if_pos ⟨hlo, hhi⟩
  rw [satAdd_one (show bits _ 16 16 < 2 ^ 16 from Nat.mod_lt _ (by decide))] at hcount
  dsimp only
  rw [hdropped, bits, hcount]
  exact Nat.mod_eq_of_lt (Nat.lt_of_le_of_lt (Nat.min_le_right _ _) (by decide))

/-- A record that fits an enabled ring is written behind the head and its fill. -/
theorem exec_hostRingWrite_fits (hq : ringQueue s.d n = b :: rest) (hen : (hring s.d n).en = true)
    (hfits : ringFits s.d n (padded b).length = true) {o : Nat}
    (ho : (rd s.d (Reg.HOST_RING_HEAD_HEAD n) + ringFill s.d n (padded b).length) % 2 ^ 32 % (hring s.d n).size = o)
    (hapart : (hring s.d n).wb + 8 ≤ (hring s.d n).base + o ∨ (hring s.d n).base + o + (padded b).length ≤ (hring s.d n).wb) :
    ∃ t, exec (.hostRingWrite n) s = .next t ∧ t.nv = s.nv ∧ ringQueue t.d n = rest ∧
      rd t.d (Reg.HOST_RING_HEAD_HEAD n) =
        (rd s.d (Reg.HOST_RING_HEAD_HEAD n) + ringFill s.d n (padded b).length + (padded b).length) % 2 ^ 32 ∧
      Memory.readLE t.d.host.mem (hring s.d n).wb 8 = rd t.d (Reg.HOST_RING_HEAD_HEAD n) ∧
      Memory.readList t.d.host.mem ((hring s.d n).base + o) (padded b).length = padded b := by
  obtain ⟨hqueue, hregs, -, hbase, hsize, hwb⟩ := ringPop_shown s.d n rest
  have hfill := ringFill_congr (r := n) (padded b).length hsize hregs
  have hsame (f : Fld) : rd (ringPop s.d n rest) f = rd s.d f := by simp only [rd, hregs]
  obtain ⟨hqueue', hhead, hcount, hrec⟩ := ringPut_writes (ringPop s.d n rest) n b o (by rw [hsame, hfill, hsize]; exact ho)
    (by rw [hwb, hbase]; exact hapart)
  rw [hsame, hfill] at hhead hcount
  rw [hwb] at hcount
  rw [hbase] at hrec
  have hwrite := hostRingWrite_record hq
  rw [if_neg (by simp [hen]), if_pos hfits] at hwrite
  generalize ringPut (ringPop s.d n rest) n b = e at *
  by_cases hstream : 2 ≤ n ∧ n < 10
  · rw [if_pos hstream] at hwrite
    have hkept : rd (incWrap e (Reg.LEDGER_STRM_CNT_CNT (n - 2)) 1) (Reg.HOST_RING_HEAD_HEAD n) = rd e (Reg.HOST_RING_HEAD_HEAD n) :=
      rd_wr_ne _ _ _ _ (by simp only [Fld.key, Reg.HOST_RING_HEAD_HEAD, Reg.LEDGER_STRM_CNT_CNT]; omega)
    exact ⟨_, next_withDev hwrite, rfl, hqueue'.trans hqueue, hkept.trans hhead, hcount.trans (hkept.trans hhead).symm, hrec⟩
  · rw [if_neg hstream] at hwrite
    exact ⟨_, next_withDev hwrite, rfl, hqueue'.trans hqueue, hhead, hcount.trans hhead.symm, hrec⟩

end

/-- Settles O53: a record is judged by its ring, the link by its partner, a request by who makes it. -/
theorem ringsAndLink : Obligations.RingsAndLink := by
  unfold Obligations.RingsAndLink
  refine ⟨fun s n o b rest hn hq => ⟨fun hen => ?disabled,
    fun hen hfits ho hapart => exec_hostRingWrite_fits hq hen hfits ho hapart, fun hen hfits =>
    ⟨fun hlow => ?waits, fun hhigh => ?dropped⟩⟩, fun s req w n speed width fund => ⟨fun hn hacc => exec_hostRingTail w hn hacc,
    fun hn hunsig => ?holdoff, fun hunsig => ?signalled, ?down, fun hdom => next_withDev (if_pos hdom),
    fun hdom => next_withDev (if_neg (by simp [hdom]))⟩, fun s req w z m hacc hz hm =>
    ⟨exec_sysZoneReq_accepted hacc hz hm, exec_sysZoneReq_flagged hacc hz hm, exec_sysZoneReq_host hacc⟩⟩
  case disabled =>
    obtain ⟨t, ht, hnv, hqueue, hmem, hhead, -⟩ := exec_hostRingWrite_dropped
      ((hostRingWrite_record hq).trans (if_pos (by simp [hen])))
    exact ⟨t, ht, hnv, hqueue, hmem, hhead⟩
  case waits =>
    have hkept : hostRingWrite s.d n = s.d := by
      rw [hostRingWrite_record hq, if_neg (by simp [hen]), if_neg (by simp [hfits]), if_neg (by omega)]
    exact next_withDev hkept
  case dropped =>
    have hdropped : hostRingWrite s.d n = ringDropped (ringPop s.d n rest) n := by
      rw [hostRingWrite_record hq, if_neg (by simp [hen]), if_neg (by simp [hfits]), if_pos ⟨hhigh, hn⟩]
    obtain ⟨t, ht, hnv, hqueue, hmem, -, hloss⟩ := exec_hostRingWrite_dropped hdropped
    exact ⟨t, ht, hnv, hqueue, hmem, hloss hhigh hn⟩
  case holdoff =>
    exact ⟨_, next_withDev (if_pos hunsig), rfl, hring_setHring_same s.d n _,
      rdFBit_wrFBit_same _ Reg.HOST_IRQ_STAT_CAUSE (2 + n) true (by simp only [Reg.HOST_IRQ_STAT_CAUSE]; omega)⟩
  case signalled => exact next_withDev (if_neg (by omega))
  case down =>
    obtain ⟨hup, hspeed, hwidth, hver, hev, hirq⟩ := linkOff_shown (ringsOff s.d 10) fund
    have hmor := ringsOff_mor s.d 10
    have hrings (r : Nat) (hr : r < 10) : (hring (ringsOff s.d 10) r).en = false ∧
        (hring (ringsOff s.d 10) r).queue = (hring s.d r).queue := by
      rw [hring_ringsOff, if_pos hr]
      exact ⟨rfl, rfl⟩
    have hdown := linkDown_eq s.d fund
    generalize ringsOff s.d 10 = e at *
    refine ⟨_, next_withDev hdown, rfl, rfl, hrings, hup, hspeed, hwidth, hver, hev, hirq, ?_⟩
    rw [← hmor]
    exact List.map_append

end Sys2Proof.Machine
end

section
/-!
PROOFS. The host mailbox and its commands (R505 to R509, R462).
-/
namespace Sys2Proof.Machine

/-! ### Accesses are judged by other registers than the mailbox's -/

/-- The keys of the host block's registers. -/
def hostKey (k : Nat) : Prop := 0x10110000 * 32 ≤ k ∧ k < 0x10120000 * 32

theorem mpuFld_key (core a lo wd rst : Nat) : (mpuFld core ⟨a, lo, wd, rst⟩).key = (a + core * 2 ^ 40) * 32 + lo := by
  dsimp only [mpuFld, Fld.key]

/-- No register of an MPU bank lies in the host block. -/
theorem mpuFld_not_hostKey (core : Nat) {a lo wd rst : Nat} (ha : a < 0x10110000) (hlo : lo < 32) :
    ¬ hostKey (mpuFld core ⟨a, lo, wd, rst⟩).key := by
  have hbank : core * 2 ^ 40 = 0 ∨ 0x10120000 ≤ core * 2 ^ 40 := by
    rcases Nat.eq_zero_or_pos core with h | h
    · exact .inl (by rw [h, Nat.zero_mul])
    · exact .inr (Nat.le_trans (by decide : 0x10120000 ≤ 2 ^ 40) (Nat.le_mul_of_pos_left _ h))
  rw [mpuFld_key, hostKey]
  generalize core * 2 ^ 40 = b at hbank
  omega

/-- What the MPU permits is told by the registers of its bank. -/
theorem mpuAllows_of_bank {d e : Dev} {core : Nat} (x : BusOp) (hread : ∀ {a lo wd rst : Nat}, 0x10030100 ≤ a → a < 0x10030180 →
      lo < 32 → rd e (mpuFld core ⟨a, lo, wd, rst⟩) = rd d (mpuFld core ⟨a, lo, wd, rst⟩)) :
    mpuAllows e core x = mpuAllows d core x := by
  have hcovers (r : Nat) (hr : r < 16) : mpuCovers e core r x.addr = mpuCovers d core r x.addr := by
    unfold mpuCovers rdB Reg.TRI_MPU_ATTR_SIZE Reg.TRI_MPU_BASE_BASE Reg.TRI_MPU_BASE_EN
    rw [hread (by omega) (by omega) (by decide), hread (by omega) (by omega) (by decide),
      hread (by omega) (by omega) (by decide)]
  have hregion : mpuRegion e core x.addr = mpuRegion d core x.addr :=
    find?_congr_of_mem fun r hr => hcovers r (by simpa using hr)
  unfold mpuAllows
  rw [hregion]
  cases hr : mpuRegion d core x.addr with
  | none => rfl
  | some r =>
    have hlt : r < 16 := by simpa using List.mem_of_find?_eq_some hr
    have hperm (f : Nat → Fld) (hf : f = Reg.TRI_MPU_ATTR_UX ∨ f = Reg.TRI_MPU_ATTR_UW ∨ f = Reg.TRI_MPU_ATTR_UR ∨
        f = Reg.TRI_MPU_ATTR_SX ∨ f = Reg.TRI_MPU_ATTR_SW ∨ f = Reg.TRI_MPU_ATTR_SR) :
        rdB e (mpuFld core (f r)) = rdB d (mpuFld core (f r)) := by
      unfold rdB
      rcases hf with rfl | rfl | rfl | rfl | rfl | rfl
      all_goals exact congrArg (fun v => v % 2 == 1) (hread (by omega) (by omega) (by decide))
    refine hperm _ ?_
    cases x.user <;> cases x.fetch <;> cases x.write <;> simp

theorem mpuAllows_congr {d e : Dev} (hrd : RegsWithin hostKey d e) (core : Nat) (x : BusOp) :
    mpuAllows e core x = mpuAllows d core x :=
  mpuAllows_of_bank x fun _ ha hlo => hrd _ (mpuFld_not_hostKey core (by omega) hlo)

/-- What judges an access is not changed by a write of the host block's registers. -/
theorem accessErr_congr {d e : Dev} (hrd : RegsWithin hostKey d e) (happly : e.apply = d.apply) (hmor : e.mor = d.mor)
    (htri : e.tri = d.tri) (hboot : e.bootOk = d.bootOk) (hpwr : e.pwr = d.pwr) (req : Requester) (addr : Nat) (write : Bool) :
    accessErr e req addr write = accessErr d req addr write := by
  have hsilent : silenced e req = silenced d req := by
    simp only [silenced, isCalved, triCfg, rdFBit, debugPermitted, rdB, hmor,
      hrd Reg.SYS_PROPS_TRIAD (by simp only [hostKey]; decide), hrd Reg.TRI_STAT_FENCED (by simp only [hostKey]; decide),
      hrd Reg.LCY_STATE_STATE (by simp only [hostKey]; decide), hrd Reg.LCY_STATE_DBG (by simp only [hostKey]; decide)]
  have hmpu : mpuBars e req addr write = mpuBars d req addr write := by
    simp only [mpuBars, htri, mpuAllows_congr hrd]
  have hdebug : debugBars e req addr write = debugBars d req addr write := by
    simp only [debugBars, rdFBit, hrd Reg.TRI_STAT_FENCED (by simp only [hostKey]; decide)]
  unfold accessErr rdFBit
  rw [hsilent, hmpu, hdebug, happly, hboot, hpwr, hrd Reg.PWR_STAT_DOM_ON (by simp only [hostKey]; decide)]

/-! ### The request -/

/-- The device with a command in the first byte of its request. -/
def mbxAsked (d : Dev) (cmd : Nat) : Dev :=
  wr d (Reg.HOST_MBX_REQ_DATA 0) (rd d (Reg.HOST_MBX_REQ_DATA 0) / 256 * 256 + cmd)

theorem mbxAsked_within (d : Dev) (cmd : Nat) : RegsWithin (fun k => k = (Reg.HOST_MBX_REQ_DATA 0).key) d (mbxAsked d cmd) :=
  (RegsWithin.refl _ d).wr _ rfl

theorem mbxAsked_served {d : Dev} {req : Requester} (cmd : Nat) (hacc : accessErr d req 0x10110010 true = 0) :
    accessErr (mbxAsked d cmd) req 0x10110010 true = 0 := by
  rw [accessErr_congr ((mbxAsked_within d cmd).mono fun k hk => by subst hk; simp only [hostKey]; decide) rfl rfl rfl rfl rfl]
  exact hacc

/-- The command is the request's first byte, and every other byte of the request is as it was. -/
theorem mbxReq_asked (d : Dev) {cmd : Nat} (hcmd : cmd < 256) :
    mbxReq (mbxAsked d cmd) = BitVec.ofNat 8 cmd :: (mbxReq d).drop 1 := by
  have hother (i : Nat) (hi : i ≠ 0) : rd (mbxAsked d cmd) (Reg.HOST_MBX_REQ_DATA i) = rd d (Reg.HOST_MBX_REQ_DATA i) :=
    mbxAsked_within d cmd _ (by simp only [Fld.key, Reg.HOST_MBX_REQ_DATA]; omega)
  have hfirst : rd (mbxAsked d cmd) (Reg.HOST_MBX_REQ_DATA 0) =
      (rd d (Reg.HOST_MBX_REQ_DATA 0) / 256 * 256 + cmd) % 2 ^ 32 := rd_wr_same _ _ _
  have hword (e : Dev) : mbxReq e = natLE 4 (rd e (Reg.HOST_MBX_REQ_DATA 0)) ++
      (List.range' 1 15).flatMap (fun i => natLE 4 (rd e (Reg.HOST_MBX_REQ_DATA i))) := rfl
  rw [hword, hword]
  have htail : (List.range' 1 15).flatMap (fun i => natLE 4 (rd (mbxAsked d cmd) (Reg.HOST_MBX_REQ_DATA i))) =
      (List.range' 1 15).flatMap (fun i => natLE 4 (rd d (Reg.HOST_MBX_REQ_DATA i))) :=
    flatMap_congr_of_mem fun i hi => by rw [hother i (by have := List.mem_range'.mp hi; omega)]
  rw [htail, hfirst]
  simp only [natLE, List.cons_append, List.nil_append, List.drop_succ_cons, List.drop_zero, List.cons.injEq, and_true]
  refine ⟨?_, ?_, ?_, ?_⟩
  all_goals
    apply BitVec.eq_of_toNat_eq
    simp only [BitVec.toNat_ofNat]
    omega

theorem byteAt_asked_zero (d : Dev) {cmd : Nat} (hcmd : cmd < 256) : byteAt (mbxReq (mbxAsked d cmd)) 0 = cmd := by
  rw [mbxReq_asked d hcmd]
  exact Nat.mod_eq_of_lt hcmd

theorem getD_asked_succ (d : Dev) {cmd : Nat} (hcmd : cmd < 256) (i : Nat) :
    (mbxReq (mbxAsked d cmd)).getD (i + 1) 0 = (mbxReq d).getD (i + 1) 0 := by
  rw [mbxReq_asked d hcmd, List.getD_cons_succ, List.getD_eq_getElem?_getD, List.getD_eq_getElem?_getD, List.getElem?_drop,
    Nat.add_comm]

theorem byteAt_asked_succ (d : Dev) {cmd : Nat} (hcmd : cmd < 256) (i : Nat) :
    byteAt (mbxReq (mbxAsked d cmd)) (i + 1) = byteAt (mbxReq d) (i + 1) := congrArg BitVec.toNat (getD_asked_succ d hcmd i)

theorem leAt_asked_succ (d : Dev) {cmd : Nat} (hcmd : cmd < 256) (o n : Nat) :
    leAt (mbxReq (mbxAsked d cmd)) (o + 1) n = leAt (mbxReq d) (o + 1) n := by
  rw [mbxReq_asked d hcmd, leAt, leAt, sub, sub, List.drop_succ_cons, List.drop_drop, Nat.add_comm 1 o]

/-! ### The answer -/

/-- The response registers with the bytes of a response. -/
def rspWritten (d : Dev) (rsp : List Byte) : Dev :=
  (List.range 16).foldl (fun d i => wr d (Reg.HOST_MBX_RSP_DATA i) (leAt rsp (4 * i) 4)) d

/-- The answer to a request: its command, its status, its tag and the data, `DONE` and vector 1. -/
def mbxAnswer (d : Dev) (q : List Byte) (st : Nat) (data : List Byte) : Dev :=
  irq (wrB (rspWritten d ([q.getD 0 0, BitVec.ofNat 8 st, q.getD 2 0, q.getD 3 0] ++ data)) Reg.HOST_MBX_STAT_DONE true) 1

/-- A doorbell with the mailbox free runs the request and answers it. -/
theorem mailbox_answers {d e : Dev} {req : Requester} (w : Nat) {st : Nat} {data : List Byte}
    (hacc : accessErr d req 0x10110010 true = 0) (hfree : rdB d Reg.HOST_MBX_STAT_BUSY = false)
    (hrun : mbxRun (okResp d) (mbxReq d) = (st, data, e)) : mailbox d req w = mbxAnswer e (mbxReq d) st data := by
  have hreq : mbxReq (okResp d) = mbxReq d := rfl
  have hbusy : rdB (okResp d) Reg.HOST_MBX_STAT_BUSY = false := hfree
  unfold mailbox
  rw [regAccess_open w _ hacc (.inr (by decide))]
  dsimp only
  rw [if_neg (by rw [hbusy]; decide), hreq, hrun]
  rfl

theorem mailbox_busy {d : Dev} {req : Requester} (w : Nat) (hacc : accessErr d req 0x10110010 true = 0)
    (hbusy : rdB d Reg.HOST_MBX_STAT_BUSY = true) : mailbox d req w = wrB (okResp d) Reg.HOST_MBX_STAT_OVR true := by
  unfold mailbox
  rw [regAccess_open w _ hacc (.inr (by decide))]
  exact if_pos hbusy

theorem rspWritten_within (d : Dev) (rsp : List Byte) :
    RegsWithin (fun k => 0x10110140 * 32 ≤ k ∧ k < 0x10110180 * 32) d (rspWritten d rsp) :=
  RegsWithin.foldl (List.range 16) _ (fun e i hi => (RegsWithin.refl _ e).wr (f := Reg.HOST_MBX_RSP_DATA i) _ (by
    have hlt : i < 16 := by simpa using hi
    simp only [Fld.key, Reg.HOST_MBX_RSP_DATA]
    omega)) d

/-- An answer writes the registers of the mailbox and the cause register alone. -/
theorem mbxAnswer_within (d : Dev) (q : List Byte) (st : Nat) (data : List Byte) : RegsWithin (fun k =>
    0x10110140 * 32 ≤ k ∧ k < 0x10110180 * 32 ∨ k = Reg.HOST_MBX_STAT_DONE.key ∨ k = Reg.HOST_IRQ_STAT_CAUSE.key) d
    (mbxAnswer d q st data) :=
  ((((rspWritten_within d _).mono fun _ h => .inl h).wrB (f := Reg.HOST_MBX_STAT_DONE) true (.inr (.inl rfl))).irq 1
    (.inr (.inr rfl)))

theorem rspWritten_keeps {β : Type} (view : Dev → β) (hview : ∀ (e : Dev) m, view { e with regs := m } = view e) (d : Dev)
    (rsp : List Byte) : view (rspWritten d rsp) = view d := by
  unfold rspWritten
  refine foldl_keeps view (List.range 16) _ (fun e i => ?_) d
  exact hview e _

/-- What an answer leaves of the device beside its registers. -/
theorem mbxAnswer_keeps {β : Type} (view : Dev → β) (hview : ∀ (e : Dev) m, view { e with regs := m } = view e) (d : Dev)
    (q : List Byte) (st : Nat) (data : List Byte) : view (mbxAnswer d q st data) = view d :=
  (hview _ _).trans ((hview _ _).trans (rspWritten_keeps view hview d _))

theorem leNat_lt (bs : List Byte) : leNat bs < 256 ^ bs.length := by
  induction bs with
  | nil => decide
  | cons b bs ih =>
    have hb := b.isLt
    rw [List.length_cons, Nat.pow_succ]
    show b.toNat + 256 * leNat bs < _
    omega

theorem leAt_word_lt (bs : List Byte) (o : Nat) : leAt bs o 4 < 2 ^ 32 := by
  have hlen : (sub bs o 4).length ≤ 4 := by
    rw [sub, List.length_take]
    omega
  have hpow : 256 ^ (sub bs o 4).length ≤ 256 ^ 4 := Nat.pow_le_pow_right (by decide) hlen
  exact Nat.lt_of_lt_of_le (leNat_lt (sub bs o 4)) hpow

/-- A response register holds its four bytes of the response. -/
theorem rd_mbxAnswer_rsp (d : Dev) (q : List Byte) (st : Nat) (data : List Byte) {i : Nat} (hi : i < 16) :
    rd (mbxAnswer d q st data) (Reg.HOST_MBX_RSP_DATA i) =
      leAt ([q.getD 0 0, BitVec.ofNat 8 st, q.getD 2 0, q.getD 3 0] ++ data) (4 * i) 4 := by
  have hkey (i j : Nat) (hij : i ≠ j) : (Reg.HOST_MBX_RSP_DATA i).key ≠ (Reg.HOST_MBX_RSP_DATA j).key := by
    simp only [Fld.key, Reg.HOST_MBX_RSP_DATA]
    omega
  have hdone : (Reg.HOST_MBX_RSP_DATA i).key ≠ Reg.HOST_MBX_STAT_DONE.key := by
    simp only [Fld.key, Reg.HOST_MBX_RSP_DATA, Reg.HOST_MBX_STAT_DONE]
    omega
  have hcause : (Reg.HOST_MBX_RSP_DATA i).key ≠ Reg.HOST_IRQ_STAT_CAUSE.key := by
    simp only [Fld.key, Reg.HOST_MBX_RSP_DATA, Reg.HOST_IRQ_STAT_CAUSE]
    omega
  unfold mbxAnswer irq wrFBit
  rw [rd_wr_ne _ _ _ _ hcause, rd_wrB_ne _ _ _ _ hdone, rspWritten, rd_foldl_wr_same _ hkey _ hi]
  exact Nat.mod_eq_of_lt (leAt_word_lt _ _)

/-- Behind the first word the response holds the data. -/
theorem rd_mbxAnswer_data (d : Dev) (q : List Byte) (st : Nat) (data : List Byte) {i : Nat} (hi : i < 15) :
    rd (mbxAnswer d q st data) (Reg.HOST_MBX_RSP_DATA (i + 1)) = leAt data (4 * i) 4 := by
  rw [rd_mbxAnswer_rsp d q st data (by omega), leAt, leAt, sub, sub, Nat.mul_succ, Nat.add_comm, ← List.drop_drop]
  rfl

/-- The first word of a response names the command, its status and its tag. -/
theorem rd_mbxAnswer_head (d e : Dev) {cmd st : Nat} (data : List Byte) (hcmd : cmd < 256) (hst : st < 256) :
    rd (mbxAnswer e (mbxReq (mbxAsked d cmd)) st data) (Reg.HOST_MBX_RSP_DATA 0) =
      cmd + 2 ^ 8 * st + 2 ^ 16 * bits (rd d (Reg.HOST_MBX_REQ_DATA 0)) 16 16 := by
  have hbytes (v : Nat) (l : List Byte) : ((natLE 4 v ++ l).getD 2 0).toNat = v / 65536 % 256 ∧
      ((natLE 4 v ++ l).getD 3 0).toNat = v / 16777216 % 256 := by
    simp only [natLE, List.cons_append, List.getD_cons_succ, List.getD_cons_zero, BitVec.toNat_ofNat]
    omega
  obtain ⟨hthird, hfourth⟩ := hbytes (rd d (Reg.HOST_MBX_REQ_DATA 0))
    ((List.range' 1 15).flatMap (fun i => natLE 4 (rd d (Reg.HOST_MBX_REQ_DATA i))))
  have hcmd0 : ((mbxReq (mbxAsked d cmd)).getD 0 0).toNat = cmd := byteAt_asked_zero d hcmd
  have htag2 : ((mbxReq (mbxAsked d cmd)).getD 2 0).toNat = rd d (Reg.HOST_MBX_REQ_DATA 0) / 65536 % 256 := by
    rw [getD_asked_succ d hcmd 1]
    exact hthird
  have htag3 : ((mbxReq (mbxAsked d cmd)).getD 3 0).toNat = rd d (Reg.HOST_MBX_REQ_DATA 0) / 16777216 % 256 := by
    rw [getD_asked_succ d hcmd 2]
    exact hfourth
  have hstatus : (BitVec.ofNat 8 st).toNat = st := Nat.mod_eq_of_lt hst
  have hword (a b c x : Byte) (l : List Byte) : leAt ([a, b, c, x] ++ l) 0 4 =
      a.toNat + 256 * (b.toNat + 256 * (c.toNat + 256 * (x.toNat + 256 * 0))) := rfl
  rw [rd_mbxAnswer_rsp _ _ _ _ (by decide), Nat.mul_zero, hword, hcmd0, htag2, htag3, hstatus, bits]
  omega

/-- An answer to a command answers it as R505 says. -/
theorem answered_of {s : State} {e : Dev} {cmd st : Nat} (data : List Byte) (hcmd : cmd < 256) (hst : st < 256)
    (hserved : e.resp.err = 0) : s.answered (s.withDev (mbxAnswer e (mbxReq (mbxAsked s.d cmd)) st data)) cmd st := by
  refine ⟨rfl, rfl, ?_, rd_mbxAnswer_head s.d e data hcmd hst, ?_, ?_⟩
  · exact (congrArg Resp.err (mbxAnswer_keeps (fun d => d.resp) (fun _ _ => rfl) e _ st data)).trans hserved
  · exact (rdB_wr_ne _ Reg.HOST_IRQ_STAT_CAUSE _ _ (by decide)).trans (rdB_wrB_same _ Reg.HOST_MBX_STAT_DONE true (by decide))
  · exact rdFBit_wrFBit_same _ Reg.HOST_IRQ_STAT_CAUSE 1 true (by decide)

section
variable {s : State} {req : Requester} (w : Nat) (hacc : accessErr s.d req 0x10110010 true = 0)
include hacc

/-- A command written with the mailbox free is answered as it runs. -/
theorem mbxCmd_answers {e : Dev} {cmd st : Nat} {data : List Byte} (hfree : rdB s.d Reg.HOST_MBX_STAT_BUSY = false)
    (hcmd : cmd < 256) (hst : st < 256)
    (hrun : mbxRun (okResp (mbxAsked s.d cmd)) (mbxReq (mbxAsked s.d cmd)) = (st, data, e)) (hserved : e.resp.err = 0) :
    mbxCmd s.d req w cmd = mbxAnswer e (mbxReq (mbxAsked s.d cmd)) st data ∧
    s.answered (s.withDev (mbxAnswer e (mbxReq (mbxAsked s.d cmd)) st data)) cmd st :=
  ⟨mailbox_answers w (mbxAsked_served cmd hacc) (((mbxAsked_within s.d cmd).rdB (by decide)).trans hfree) hrun,
    answered_of data hcmd hst hserved⟩

end

/-- What a command of an agreed version does. -/
def mbxPerformed (d : Dev) (q : List Byte) (cmd : Nat) : Nat × List Byte × Dev :=
  match cmd with
  | 1 => mbxHello d q
  | 2 => (0, mbxStatus d, d)
  | 3 => mbxZone d q
  | 4 => mbxSleep d q
  | _ => mbxRing d q

/-- The version that a command needs is agreed. -/
theorem mbxRun_versioned (d : Dev) (q : List Byte) {v : Nat} (hcmd : mbxVersion (byteAt q 0) = some v)
    (hver : v ≤ rd d Reg.HOST_STAT_MBX_VER) : mbxRun d q = mbxPerformed d q (byteAt q 0) := by
  unfold mbxRun
  rw [hcmd]
  exact if_neg (by omega)

/-- A command of a later version than the agreed one. -/
theorem mbxRun_unversioned (d : Dev) (q : List Byte) {v : Nat} (hcmd : mbxVersion (byteAt q 0) = some v)
    (hver : rd d Reg.HOST_STAT_MBX_VER < v) : mbxRun d q = (2, [], d) := by
  unfold mbxRun
  rw [hcmd]
  exact if_pos hver

theorem mbxRun_undefined (d : Dev) (q : List Byte) (hcmd : mbxVersion (byteAt q 0) = none) : mbxRun d q = (1, [], d) := by
  unfold mbxRun
  rw [hcmd]

/-! ### HELLO -/

theorem mbxHello_names {d : Dev} {q : List Byte} {v : Nat} (hv : byteAt q 4 = v) (h : 1 ≤ v) : mbxHello d q =
    (0, [BitVec.ofNat 8 (min v 4), 0x01, 0x96, 0x40, BitVec.ofNat 8 (rd (wr d Reg.HOST_STAT_MBX_VER (min v 4)) Reg.LCY_STATE_STATE)],
      wr d Reg.HOST_STAT_MBX_VER (min v 4)) := by
  unfold mbxHello
  dsimp only
  rw [hv, if_neg (by omega)]

theorem mbxHello_nameless {d : Dev} {q : List Byte} (hv : byteAt q 4 = 0) : mbxHello d q = (3, [], d) := by
  unfold mbxHello
  dsimp only
  rw [hv, if_pos (by decide)]

/-- A command whose version is agreed runs. -/
theorem mbxRun_agreed {s : State} {cmd v : Nat} (hcmd : cmd < 256) (hv : mbxVersion cmd = some v)
    (hver : v ≤ rd s.d Reg.HOST_STAT_MBX_VER) : mbxRun (okResp (mbxAsked s.d cmd)) (mbxReq (mbxAsked s.d cmd)) =
      mbxPerformed (okResp (mbxAsked s.d cmd)) (mbxReq (mbxAsked s.d cmd)) cmd := by
  have hagreed : v ≤ rd (okResp (mbxAsked s.d cmd)) Reg.HOST_STAT_MBX_VER := by
    rw [rd_okResp, mbxAsked_within s.d cmd _ (by decide)]
    exact hver
  have hbyte := byteAt_asked_zero s.d hcmd
  have hrun := mbxRun_versioned (okResp (mbxAsked s.d cmd)) (mbxReq (mbxAsked s.d cmd)) (by rw [hbyte]; exact hv) hagreed
  rw [hbyte] at hrun
  exact hrun

/-- The agreed version of a device that has taken a request. -/
theorem version_asked (d : Dev) (cmd : Nat) : rd (okResp (mbxAsked d cmd)) Reg.HOST_STAT_MBX_VER = rd d Reg.HOST_STAT_MBX_VER :=
  mbxAsked_within d cmd _ (by decide)

/-- Registers outside the mailbox as an answer leaves them. -/
theorem rd_mbxAnswer_other (d : Dev) (q : List Byte) (st : Nat) (data : List Byte) {f : Fld}
    (hf : f.key < 0x10110000 * 32 ∨ 0x10110008 * 32 ≤ f.key ∧ f.key < 0x10110014 * 32) : rd (mbxAnswer d q st data) f = rd d f :=
  mbxAnswer_within d q st data f (by
    simp only [Fld.key, Reg.HOST_MBX_STAT_DONE, Reg.HOST_IRQ_STAT_CAUSE] at hf ⊢
    omega)

section
variable {s : State} {req : Requester} {w v : Nat} (hacc : accessErr s.d req 0x10110010 true = 0)
  (hfree : rdB s.d Reg.HOST_MBX_STAT_BUSY = false) (hver : 1 ≤ rd s.d Reg.HOST_STAT_MBX_VER)
include hacc hfree hver

theorem exec_hello_agrees (hv : byteAt (mbxReq s.d) 4 = v) (h : 1 ≤ v) : ∃ t, exec (.hello req w) s = .next t ∧
    s.answered t 1 0 ∧ rd t.d Reg.HOST_STAT_MBX_VER = min v 4 ∧
    rd t.d (Reg.HOST_MBX_RSP_DATA 1) = min v 4 + 0x40960100 := by
  have hrun := (mbxRun_agreed (cmd := 1) (by decide) rfl hver).trans
    (mbxHello_names ((byteAt_asked_succ s.d (by decide) 3).trans hv) h)
  obtain ⟨hdev, hanswered⟩ := mbxCmd_answers w hacc hfree (by decide) (by decide) hrun rfl
  refine ⟨_, next_withDev hdev, hanswered, ?_, ?_⟩
  · refine (rd_mbxAnswer_other _ _ _ _ (.inr (by decide))).trans ((rd_wr_same _ Reg.HOST_STAT_MBX_VER _).trans ?_)
    exact Nat.mod_eq_of_lt (by simp only [Reg.HOST_STAT_MBX_VER]; omega)
  · have hword (a b c x : Byte) (l : List Byte) : leAt ([a, b, c, x] ++ l) 0 4 =
        a.toNat + 256 * (b.toNat + 256 * (c.toNat + 256 * (x.toNat + 256 * 0))) := rfl
    refine (rd_mbxAnswer_data _ _ _ _ (i := 0) (by decide)).trans ((hword _ _ _ _ _).trans ?_)
    rw [BitVec.toNat_ofNat, Nat.mod_eq_of_lt (by omega)]
    rfl

theorem exec_hello_nameless (hv : byteAt (mbxReq s.d) 4 = 0) : ∃ t, exec (.hello req w) s = .next t ∧ s.answered t 1 3 ∧
    rd t.d Reg.HOST_STAT_MBX_VER = rd s.d Reg.HOST_STAT_MBX_VER := by
  have hrun := (mbxRun_agreed (cmd := 1) (by decide) rfl hver).trans
    (mbxHello_nameless ((byteAt_asked_succ s.d (by decide) 3).trans hv))
  obtain ⟨hdev, hanswered⟩ := mbxCmd_answers w hacc hfree (by decide) (by decide) hrun rfl
  exact ⟨_, next_withDev hdev, hanswered, (rd_mbxAnswer_other _ _ _ _ (.inr (by decide))).trans (version_asked s.d 1)⟩

end

/-! ### SLEEP -/

/-- The sleep code is judged by other registers than the request's and the retain mask. -/
theorem sleepCode_congr {d e : Dev} (hrd : RegsWithin (fun k => k = (Reg.HOST_MBX_REQ_DATA 0).key ∨ k = Reg.PWR_RETAIN_BANKS.key) d e)
    (hfirn : e.firn = d.firn) (hseq : e.seq = d.seq) (hpwr : e.pwr = d.pwr) : sleepCode e false = sleepCode d false := by
  have hzone (z : Nat) : zmode e z = zmode d z :=
    hrd _ (by simp only [Fld.key, Reg.SYS_ZMODE, Reg.HOST_MBX_REQ_DATA, Reg.PWR_RETAIN_BANKS]; split <;> omega)
  simp only [sleepCode, isStandby, role, inBoot, zones, img, rdB, hfirn, hseq, hpwr, hzone,
    hrd Reg.PWR_STAT_STATE (by decide), hrd Reg.SYS_PROPS_ROLE (by decide), hrd Reg.SYS_PROPS_BOOT (by decide),
    hrd Reg.PWR_WAKE_EN_THAW (by decide), hrd Reg.PWR_WAKE_EN_WAKE_N (by decide), hrd Reg.PWR_WAKE_EN_TIMER (by decide),
    hrd Reg.MEAS_STAT_CAL_BUSY (by decide), hrd Reg.AUX_CAL_STAT_BUSY (by decide),
    hrd Reg.LEDGER_RSTAT_FLUSH_BUSY (by decide), hrd Reg.SERAC_STAT_FIRE (by decide)]
  rfl

theorem sleepCode_le (d : Dev) (own : Bool) : sleepCode d own ≤ 6 := by
  unfold sleepCode
  iterate 7
    split
    · decide
  decide

/-- A request for dormancy takes its mask, answers the code its state gives, and waits for its boundary where that is 0. -/
theorem sleepRequest_answers (d : Dev) (mask : Nat) : ∃ e, sleepRequest d mask = (sleepCode d false, e) ∧ e.resp = d.resp ∧
    rd e Reg.PWR_RETAIN_BANKS = mask % 2 ^ 4 ∧
    e.pwr.req = if sleepCode d false = 0 then some (cycNo d + 1) else d.pwr.req := by
  have hcode : sleepCode (wr d Reg.PWR_RETAIN_BANKS mask) false = sleepCode d false :=
    sleepCode_congr ((RegsWithin.refl _ d).wr _ (.inr rfl)) rfl rfl rfl
  have hmask (n : Nat) : rd (wr (wr d Reg.PWR_RETAIN_BANKS mask) Reg.PWR_STAT_SLEEP_CODE n) Reg.PWR_RETAIN_BANKS = mask % 2 ^ 4 :=
    (rd_wr_ne _ Reg.PWR_STAT_SLEEP_CODE _ _ (by decide)).trans (rd_wr_same _ _ _)
  unfold sleepRequest
  dsimp only
  rw [hcode]
  by_cases h : sleepCode d false = 0
  · rw [if_pos h, if_pos h, h]
    exact ⟨_, rfl, rfl, hmask 0, rfl⟩
  · rw [if_neg h, if_neg h]
    exact ⟨_, rfl, rfl, hmask _, rfl⟩

/-! ### STATUS -/

/-- The modes of the first zones, three bits for each. -/
def zoneModes (d : Dev) (n : Nat) : Nat := (List.range n).foldl (fun a z => a + zmode d z * 2 ^ (3 * z)) 0

theorem zoneModes_succ (d : Dev) (n : Nat) : zoneModes d (n + 1) = zoneModes d n + zmode d n * 2 ^ (3 * n) := by
  rw [zoneModes, List.range_succ, List.foldl_append]
  rfl

theorem zoneModes_lt {d : Dev} {n : Nat} (h : ∀ z, z < n → zmode d z < 8) : zoneModes d n < 2 ^ (3 * n) := by
  induction n with
  | zero => exact Nat.one_pos
  | succ n ih =>
    have hlower := ih fun z hz => h z (by omega)
    have hmode := h n (by omega)
    have hshift : 2 ^ (3 * (n + 1)) = 8 * 2 ^ (3 * n) := by rw [Nat.mul_add, Nat.pow_add, Nat.mul_comm]
    have hterm : zmode d n * 2 ^ (3 * n) ≤ 7 * 2 ^ (3 * n) := Nat.mul_le_mul_right _ (by omega)
    rw [zoneModes_succ, hshift]
    omega

theorem bits_zoneModes {d : Dev} {n z : Nat} (h : ∀ z, z < n → zmode d z < 8) (hz : z < n) :
    bits (zoneModes d n) (3 * z) 3 = zmode d z := by
  induction n with
  | zero => omega
  | succ n ih =>
    have hlower := zoneModes_lt (d := d) (n := n) fun z hz => h z (by omega)
    rw [zoneModes_succ]
    rcases Nat.lt_succ_iff_lt_or_eq.mp hz with hlt | rfl
    · have hsplit : 2 ^ (3 * n) = 2 ^ (3 * z) * (2 ^ 3 * 2 ^ (3 * n - 3 * z - 3)) := by
        rw [← Nat.pow_add, ← Nat.pow_add]
        congr 1
        omega
      have hrest : zoneModes d n + zmode d n * 2 ^ (3 * n) =
          zoneModes d n + 2 ^ (3 * z) * (2 ^ 3 * (zmode d n * 2 ^ (3 * n - 3 * z - 3))) := by
        rw [hsplit, Nat.mul_left_comm (zmode d n), Nat.mul_left_comm (zmode d n)]
      rw [hrest, bits, Nat.add_mul_div_left _ _ (Nat.two_pow_pos _), Nat.add_mul_mod_self_left]
      exact ih (fun z hz => h z (by omega)) hlt
    · rw [bits, Nat.add_mul_div_right _ _ (Nat.two_pow_pos _), Nat.div_eq_of_lt hlower, Nat.zero_add]
      exact Nat.mod_eq_of_lt (h z (by omega))

/-- The first two words of six bytes of a number and two further bytes. -/
theorem words_of_bytes (zm r c : Nat) (rest : List Byte) :
    leAt (natLE 6 zm ++ BitVec.ofNat 8 r :: BitVec.ofNat 8 c :: rest) 0 4 = zm % 2 ^ 32 ∧
    bits (leAt (natLE 6 zm ++ BitVec.ofNat 8 r :: BitVec.ofNat 8 c :: rest) 4 4) 16 8 = r % 256 ∧
    bits (leAt (natLE 6 zm ++ BitVec.ofNat 8 r :: BitVec.ofNat 8 c :: rest) 4 4) 24 8 = c % 256 := by
  have hfirst : leAt (natLE 6 zm ++ BitVec.ofNat 8 r :: BitVec.ofNat 8 c :: rest) 0 4 = zm % 256 + 256 * (zm / 256 % 256 +
      256 * (zm / 256 / 256 % 256 + 256 * (zm / 256 / 256 / 256 % 256 + 256 * 0))) := rfl
  have hsecond : leAt (natLE 6 zm ++ BitVec.ofNat 8 r :: BitVec.ofNat 8 c :: rest) 4 4 = zm / 256 / 256 / 256 / 256 % 256 +
      256 * (zm / 256 / 256 / 256 / 256 / 256 % 256 + 256 * (r % 256 + 256 * (c % 256 + 256 * 0))) := rfl
  rw [hfirst, hsecond, bits, bits]
  omega

/-- The words of a STATUS answer: the low 32 bits of the zones' modes, and the role and the triad's configuration. -/
theorem mbxStatus_words (d : Dev) : leAt (mbxStatus d) 0 4 = zoneModes d 16 % 2 ^ 32 ∧
    bits (leAt (mbxStatus d) 4 4) 16 8 = role d % 256 ∧ bits (leAt (mbxStatus d) 4 4) 24 8 = triCfg d % 256 := by
  unfold mbxStatus
  extract_lets zm stat
  have hzm : zoneModes d 16 = zm := rfl
  rw [hzm]
  clear_value zm stat
  simp only [List.append_assoc, List.cons_append]
  exact words_of_bytes zm (role d) (triCfg d) _

/-- What a device answers of itself does not depend on the request it has taken. -/
theorem status_asked (d : Dev) (cmd : Nat) : zoneModes (okResp (mbxAsked d cmd)) 16 = zoneModes d 16 ∧
    role (okResp (mbxAsked d cmd)) = role d ∧ triCfg (okResp (mbxAsked d cmd)) = triCfg d := by
  refine ⟨?_, mbxAsked_within d cmd _ (by decide), mbxAsked_within d cmd _ (by decide)⟩
  have hmode (z : Nat) (hz : z < 16) : zmode (okResp (mbxAsked d cmd)) z = zmode d z :=
    mbxAsked_within d cmd _ (by simp only [Fld.key, Reg.SYS_ZMODE, Reg.HOST_MBX_REQ_DATA]; split <;> omega)
  exact foldl_congr_of_mem fun a z hz => by rw [hmode z (by simpa using hz)]

section
variable {s : State} {req : Requester} {w v : Nat} (hacc : accessErr s.d req 0x10110010 true = 0)
  (hfree : rdB s.d Reg.HOST_MBX_STAT_BUSY = false)
include hacc hfree

theorem exec_mbxStatus (hver : 1 ≤ rd s.d Reg.HOST_STAT_MBX_VER) : ∃ t, exec (.mbxStatus req w) s = .next t ∧
    s.answered t 2 0 ∧ t.d.zreq = s.d.zreq ∧
    ((∀ z, z < 16 → zmode s.d z < 8) → ∀ z, z < 10 → bits (rd t.d (Reg.HOST_MBX_RSP_DATA 1)) (3 * z) 3 = zmode s.d z) ∧
    bits (rd t.d (Reg.HOST_MBX_RSP_DATA 2)) 16 8 = role s.d % 256 ∧
    bits (rd t.d (Reg.HOST_MBX_RSP_DATA 2)) 24 8 = triCfg s.d % 256 := by
  obtain ⟨hdev, hanswered⟩ := mbxCmd_answers w hacc hfree (by decide) (by decide)
    (mbxRun_agreed (cmd := 2) (by decide) rfl hver) rfl
  obtain ⟨hmodes, hrole, hcfg⟩ := status_asked s.d 2
  obtain ⟨hfirst, hroleByte, hcfgByte⟩ := mbxStatus_words (okResp (mbxAsked s.d 2))
  refine ⟨_, next_withDev hdev, hanswered, mbxAnswer_keeps (fun d => d.zreq) (fun _ _ => rfl) _ _ _ _, fun hz z hlt => ?_, ?_, ?_⟩
  · refine (congrArg (bits · (3 * z) 3) ((rd_mbxAnswer_data _ _ _ _ (i := 0) (by decide)).trans hfirst)).trans ?_
    rw [hmodes]
    refine Eq.trans ?_ (bits_zoneModes hz (by omega))
    have hsplit : 2 ^ 32 = 2 ^ (3 * z) * (2 ^ 3 * 2 ^ (29 - 3 * z)) := by
      rw [← Nat.pow_add, ← Nat.pow_add]
      congr 1
      omega
    rw [bits, bits, hsplit, Nat.mod_mul_right_div_self, Nat.mod_mul_right_mod]
  · exact (congrArg (bits · 16 8) (rd_mbxAnswer_data _ _ _ _ (i := 1) (by decide))).trans (hroleByte.trans (by rw [hrole]))
  · exact (congrArg (bits · 24 8) (rd_mbxAnswer_data _ _ _ _ (i := 1) (by decide))).trans (hcfgByte.trans (by rw [hcfg]))

theorem exec_mbxSleep (hver : 1 ≤ rd s.d Reg.HOST_STAT_MBX_VER) (hv : byteAt (mbxReq s.d) 4 = v) :
    ∃ t, exec (.mbxSleep req w) s = .next t ∧ s.answered t 4 0 ∧
      rd t.d (Reg.HOST_MBX_RSP_DATA 1) % 256 = sleepCode s.d false ∧ rd t.d Reg.PWR_RETAIN_BANKS = v % 16 ∧
      t.d.pwr.req = if sleepCode s.d false = 0 then some (cycNo s.d + 1) else s.d.pwr.req := by
  have hmask : byteAt (mbxReq (mbxAsked s.d 4)) 4 = v := (byteAt_asked_succ s.d (by decide) 3).trans hv
  obtain ⟨e, hsleep, hserved, hmasked, hreq⟩ := sleepRequest_answers (okResp (mbxAsked s.d 4)) (v % 16)
  have hcode : sleepCode (okResp (mbxAsked s.d 4)) false = sleepCode s.d false :=
    sleepCode_congr (d := s.d) (fun f hf => mbxAsked_within s.d 4 f fun hk => hf (.inl hk)) rfl rfl rfl
  have hruns : mbxPerformed (okResp (mbxAsked s.d 4)) (mbxReq (mbxAsked s.d 4)) 4 =
      (0, [BitVec.ofNat 8 (sleepCode s.d false)], e) := by
    show mbxSleep _ _ = _
    rw [mbxSleep, hmask, hsleep, hcode]
  obtain ⟨hdev, hanswered⟩ := mbxCmd_answers w hacc hfree (by decide) (by decide)
    ((mbxRun_agreed (cmd := 4) (by decide) rfl hver).trans hruns) (by rw [hserved]; rfl)
  refine ⟨_, next_withDev hdev, hanswered, ?_, ?_, ?_⟩
  · refine (congrArg (· % 256) (rd_mbxAnswer_data _ _ _ _ (i := 0) (by decide))).trans ?_
    have hword (a : Byte) : leAt [a] 0 4 = a.toNat + 256 * 0 := rfl
    rw [Nat.mul_zero, hword, BitVec.toNat_ofNat, Nat.mul_zero, Nat.add_zero, Nat.mod_mod]
    exact Nat.mod_eq_of_lt (Nat.lt_of_le_of_lt (sleepCode_le s.d false) (by decide))
  · refine (rd_mbxAnswer_other _ _ _ _ (.inl (by decide))).trans (hmasked.trans ?_)
    exact Nat.mod_mod _ _
  · refine (mbxAnswer_keeps (fun d => d.pwr.req) (fun _ _ => rfl) _ _ _ _).trans (hreq.trans ?_)
    rw [hcode]
    rfl

end

/-! ### ZONE_MODE -/

/-- The outcome of a request, told to its sender, leaves the waiting requests, the image, the response and the registers of
other blocks alone. -/
theorem zoneOutcome_keeps (d : Dev) (r : ZReq) (ok : Bool) : (zoneOutcome d r ok).zreq = d.zreq ∧
    (zoneOutcome d r ok).resp = d.resp ∧
    RegsWithin (fun k => k = Reg.HOST_IRQ_STAT_CAUSE.key ∨ k / 32 = 0x10000014) d (zoneOutcome d r ok) := by
  have hpend := (RegsWithin.refl (fun k => k = Reg.HOST_IRQ_STAT_CAUSE.key ∨ k / 32 = 0x10000014) d).wrB
    (f := Reg.SYS_ZONE_REQ_PEND) false (.inr (by decide))
  unfold zoneOutcome
  dsimp only
  split
  · exact ⟨rfl, rfl, (RegsWithin.of_regs (R := fun k => k = Reg.HOST_IRQ_STAT_CAUSE.key ∨ k / 32 = 0x10000014) rfl).irq 1 (.inl rfl)⟩
  · split
    · exact ⟨rfl, rfl, hpend.wrB (f := Reg.SYS_ZONE_REQ_DONE) true (.inr (by decide))⟩
    · exact ⟨rfl, rfl, hpend.wrB (f := Reg.SYS_ZONE_REQ_REFUSED) true (.inr (by decide))⟩
  · exact ⟨rfl, rfl, .of_regs rfl⟩
  · exact ⟨rfl, rfl, .refl _ d⟩

/-- An accepted request waits, and changes no zone's mode yet. -/
theorem zoneQueue_waits (d : Dev) (r : ZReq) : r ∈ (zoneQueue d r).zreq ∧ (zoneQueue d r).resp = d.resp ∧
    RegsWithin (fun k => k = Reg.HOST_IRQ_STAT_CAUSE.key ∨ k / 32 = 0x10000014) d (zoneQueue d r) := by
  refine ⟨List.mem_append_right _ (List.mem_singleton_self r), ?_, ?_⟩
  · refine foldl_keeps (fun e => e.resp) _ _ (fun e x => ?_) d
    exact (zoneOutcome_keeps e x false).2.1
  · exact RegsWithin.foldl _ _ (fun e x _ => (zoneOutcome_keeps e x false).2.2) d

section
variable {s : State} {req : Requester} {w z m at_ dist : Nat} (hacc : accessErr s.d req 0x10110010 true = 0)
  (hfree : rdB s.d Reg.HOST_MBX_STAT_BUSY = false) (hver : 1 ≤ rd s.d Reg.HOST_STAT_MBX_VER)
  (hz : byteAt (mbxReq s.d) 4 = z) (hm : byteAt (mbxReq s.d) 5 = m)
  (hat : (if 4 ≤ rd s.d Reg.HOST_STAT_MBX_VER then leAt (mbxReq s.d) 8 3 else 0) = at_)
  (hdist : (at_ + 2 ^ 24 - cyc24 s.d) % 2 ^ 24 = dist)
include hz hm hat hdist

/-- How a ZONE_MODE request is judged. -/
theorem mbxZone_judges : mbxPerformed (okResp (mbxAsked s.d 3)) (mbxReq (mbxAsked s.d 3)) 3 =
    if 15 < z ∨ m < 1 ∨ 5 < m then (3, [], okResp (mbxAsked s.d 3))
    else if at_ ≠ 0 ∧ (dist < 2 ∨ 65535 < dist) then (3, [], okResp (mbxAsked s.d 3))
    else if !zoneMay s.d z m || isStandby s.d then (4, [], okResp (mbxAsked s.d 3))
    else (0, natLE 3 ((cycNo s.d + (if at_ = 0 then 1 else dist)) % 2 ^ 24), zoneQueue (okResp (mbxAsked s.d 3))
      ⟨z, m, 0, leAt (mbxReq s.d) 2 2, cycNo s.d + (if at_ = 0 then 1 else dist)⟩) := by
  have hasked : RegsWithin (fun k => k = (Reg.HOST_MBX_REQ_DATA 0).key) s.d (okResp (mbxAsked s.d 3)) := mbxAsked_within s.d 3
  have hmay : zoneMay (okResp (mbxAsked s.d 3)) z m = zoneMay s.d z m := by
    simp only [zoneMay, inBoot, inSafe, zones, img, mayProduce, triCfg, confirmed, rimeState, rdB,
      hasked Reg.SYS_PROPS_BOOT (by decide), hasked Reg.MOR_STAT_SAFE (by decide), hasked Reg.SYS_PROPS_TRIAD (by decide),
      hasked Reg.SAFE_STAT_CONF (by decide), hasked Reg.SYS_PROPS_RIME (by decide),
      hasked Reg.PWR_STAT_WAKE_DEGRADED (by decide), hasked Reg.LCY_STATE_STATE (by decide)]
    rfl
  have hstandby : isStandby (okResp (mbxAsked s.d 3)) = isStandby s.d := by
    simp only [isStandby, role, hasked Reg.SYS_PROPS_ROLE (by decide)]
  have hcyc : cycNo (okResp (mbxAsked s.d 3)) = cycNo s.d := rfl
  have hcyc24 : cyc24 (okResp (mbxAsked s.d 3)) = cyc24 s.d := rfl
  show mbxZone _ _ = _
  unfold mbxZone
  dsimp only
  rw [byteAt_asked_succ s.d (by decide) 3, byteAt_asked_succ s.d (by decide) 4, leAt_asked_succ s.d (by decide) 7,
    leAt_asked_succ s.d (by decide) 1, version_asked, hz, hm, hat, hcyc, hcyc24, hdist, hmay, hstandby]

include hacc hfree hver

omit hz hm hat hdist in
/-- A request that is refused leaves the waiting requests. -/
theorem exec_zoneMode_refused {st : Nat} (hst : st < 256) (hruns : mbxPerformed (okResp (mbxAsked s.d 3)) (mbxReq (mbxAsked s.d 3)) 3 =
    (st, [], okResp (mbxAsked s.d 3))) : ∃ t, exec (.zoneMode req w) s = .next t ∧ s.answered t 3 st ∧ t.d.zreq = s.d.zreq := by
  obtain ⟨hdev, hanswered⟩ := mbxCmd_answers w hacc hfree (by decide) hst
    ((mbxRun_agreed (cmd := 3) (by decide) rfl hver).trans hruns) rfl
  exact ⟨_, next_withDev hdev, hanswered, mbxAnswer_keeps (fun d => d.zreq) (fun _ _ => rfl) _ _ _ _⟩

theorem exec_zoneMode_parameter (h : 15 < z ∨ m < 1 ∨ 5 < m ∨ at_ ≠ 0 ∧ (dist < 2 ∨ 65535 < dist)) :
    ∃ t, exec (.zoneMode req w) s = .next t ∧ s.answered t 3 3 ∧ t.d.zreq = s.d.zreq := by
  refine exec_zoneMode_refused hacc hfree hver (by decide) ((mbxZone_judges hz hm hat hdist).trans ?_)
  by_cases hp : 15 < z ∨ m < 1 ∨ 5 < m
  · exact if_pos hp
  · rw [if_neg hp, if_pos (by omega)]

section
variable (hzlt : z < 16) (hm1 : 1 ≤ m) (hm5 : m ≤ 5) (hwhen : at_ = 0 ∨ 2 ≤ dist ∧ dist ≤ 65535)
include hzlt hm1 hm5 hwhen

theorem exec_zoneMode_state (h : zoneMay s.d z m = false ∨ isStandby s.d = true) :
    ∃ t, exec (.zoneMode req w) s = .next t ∧ s.answered t 3 4 ∧ t.d.zreq = s.d.zreq := by
  refine exec_zoneMode_refused hacc hfree hver (by decide) ((mbxZone_judges hz hm hat hdist).trans ?_)
  rw [if_neg (by omega), if_neg (by omega), if_pos (by rcases h with h | h <;> simp [h])]

theorem exec_zoneMode_accepted (hmay : zoneMay s.d z m = true) (hstandby : isStandby s.d = false) :
    ∃ t c, exec (.zoneMode req w) s = .next t ∧ s.answered t 3 0 ∧
      c = cycNo s.d + (if at_ = 0 then 1 else dist) ∧ rd t.d (Reg.HOST_MBX_RSP_DATA 1) % 2 ^ 24 = c % 2 ^ 24 ∧
      ⟨z, m, 0, leAt (mbxReq s.d) 2 2, c⟩ ∈ t.d.zreq ∧ zmode t.d z = zmode s.d z := by
  have hruns := mbxZone_judges hz hm hat hdist
  rw [if_neg (by omega), if_neg (by omega), if_neg (by simp [hmay, hstandby])] at hruns
  obtain ⟨c, hc⟩ : ∃ c, c = cycNo s.d + (if at_ = 0 then 1 else dist) := ⟨_, rfl⟩
  rw [← hc] at hruns
  obtain ⟨hwaits, hresp, hregs⟩ := zoneQueue_waits (okResp (mbxAsked s.d 3)) ⟨z, m, 0, leAt (mbxReq s.d) 2 2, c⟩
  generalize hqueued : zoneQueue (okResp (mbxAsked s.d 3)) ⟨z, m, 0, leAt (mbxReq s.d) 2 2, c⟩ = e at hruns hwaits hresp hregs
  obtain ⟨hdev, hanswered⟩ := mbxCmd_answers w hacc hfree (by decide) (by decide)
    ((mbxRun_agreed (cmd := 3) (by decide) rfl hver).trans hruns) (by rw [hresp]; rfl)
  refine ⟨_, c, next_withDev hdev, hanswered, hc, ?_, ?_, ?_⟩
  · refine (congrArg (· % 2 ^ 24) (rd_mbxAnswer_data _ _ _ _ (i := 0) (by decide))).trans ?_
    have hword (v : Nat) : leAt (natLE 3 v) 0 4 = v % 256 + 256 * (v / 256 % 256 + 256 * (v / 256 / 256 % 256 + 256 * 0)) := rfl
    rw [Nat.mul_zero, hword]
    omega
  · exact (mbxAnswer_keeps (fun d => d.zreq) (fun _ _ => rfl) e _ 0 _).symm ▸ hwaits
  · have hkey : (Reg.SYS_ZMODE z).key / 32 ≠ 0x10000014 ∧ (Reg.SYS_ZMODE z).key ≠ Reg.HOST_IRQ_STAT_CAUSE.key ∧
        (Reg.SYS_ZMODE z).key ≠ (Reg.HOST_MBX_REQ_DATA 0).key ∧ (Reg.SYS_ZMODE z).key < 0x10110000 * 32 := by
      simp only [Fld.key, Reg.SYS_ZMODE, Reg.HOST_MBX_REQ_DATA, Reg.HOST_IRQ_STAT_CAUSE]
      split <;> omega
    obtain ⟨hpage, hcause, hreq, hlow⟩ := hkey
    exact (rd_mbxAnswer_other _ _ _ _ (.inl hlow)).trans
      ((hregs _ (by omega)).trans (mbxAsked_within s.d 3 _ hreq))

end
end

/-! ### RING -/

section
variable {s : State} {req : Requester} {w r : Nat} (hacc : accessErr s.d req 0x10110010 true = 0)
  (hfree : rdB s.d Reg.HOST_MBX_STAT_BUSY = false) (hr : byteAt (mbxReq s.d) 4 = r)

section
include hr

/-- How a RING request is judged. -/
theorem mbxRing_judges : mbxPerformed (okResp (mbxAsked s.d 0x10)) (mbxReq (mbxAsked s.d 0x10)) 0x10 =
    if 9 < r then (3, [], okResp (mbxAsked s.d 0x10))
    else if 2 ≤ r ∧ rd s.d Reg.HOST_STAT_MBX_VER < 3 then (2, [], okResp (mbxAsked s.d 0x10))
    else if !bit (byteAt (mbxReq s.d) 5) 0 then (0, [], setHring (okResp (mbxAsked s.d 0x10)) r (fun x => { x with en := false }))
    else if !((List.range 13).any (fun i => leAt (mbxReq s.d) 16 4 == 2 ^ (16 + i))) ||
      leAt (mbxReq s.d) 8 8 % leAt (mbxReq s.d) 16 4 != 0 then (3, [], okResp (mbxAsked s.d 0x10))
    else (0, [], setHring (okResp (mbxAsked s.d 0x10)) r (fun x =>
      { x with en := true, base := leAt (mbxReq s.d) 8 8, size := leAt (mbxReq s.d) 16 4, wb := leAt (mbxReq s.d) 20 8 })) := by
  show mbxRing _ _ = _
  unfold mbxRing
  dsimp only
  rw [byteAt_asked_succ s.d (by decide) 3, byteAt_asked_succ s.d (by decide) 4, leAt_asked_succ s.d (by decide) 7,
    leAt_asked_succ s.d (by decide) 15, leAt_asked_succ s.d (by decide) 19, version_asked, hr]

end

include hacc hfree

/-- A ring as an answer leaves it. -/
theorem exec_ring_answers {st : Nat} {e : Dev} (hst : st < 256)
    (hruns : mbxRun (okResp (mbxAsked s.d 0x10)) (mbxReq (mbxAsked s.d 0x10)) = (st, [], e)) (hserved : e.resp.err = 0) :
    ∃ t, exec (.ring req w) s = .next t ∧ s.answered t 0x10 st ∧ t.d.host = e.host := by
  obtain ⟨hdev, hanswered⟩ := mbxCmd_answers w hacc hfree (by decide) hst hruns hserved
  exact ⟨_, next_withDev hdev, hanswered, mbxAnswer_keeps (fun d => d.host) (fun _ _ => rfl) _ _ _ _⟩

theorem exec_ring_versionless (hver : rd s.d Reg.HOST_STAT_MBX_VER < 2) :
    ∃ t, exec (.ring req w) s = .next t ∧ s.answered t 0x10 2 ∧ t.d.host = s.d.host := by
  have hbyte := byteAt_asked_zero s.d (cmd := 0x10) (by decide)
  exact exec_ring_answers hacc hfree (by decide)
    (e := okResp (mbxAsked s.d 0x10))
    (mbxRun_unversioned _ (mbxReq (mbxAsked s.d 0x10)) (v := 2) (by rw [hbyte]; rfl) (by rw [version_asked]; exact hver)) rfl

theorem exec_ring_refused (hver : 2 ≤ rd s.d Reg.HOST_STAT_MBX_VER) {st : Nat} (hst : st < 256)
    (hruns : mbxPerformed (okResp (mbxAsked s.d 0x10)) (mbxReq (mbxAsked s.d 0x10)) 0x10 = (st, [], okResp (mbxAsked s.d 0x10))) :
    ∃ t, exec (.ring req w) s = .next t ∧ s.answered t 0x10 st ∧ t.d.host = s.d.host :=
  exec_ring_answers hacc hfree (e := okResp (mbxAsked s.d 0x10)) hst ((mbxRun_agreed (cmd := 0x10) (by decide) rfl hver).trans hruns) rfl

include hr

theorem exec_ring_later (hver : rd s.d Reg.HOST_STAT_MBX_VER = 2) (h : 2 ≤ r ∧ r < 10) :
    ∃ t, exec (.ring req w) s = .next t ∧ s.answered t 0x10 2 ∧ t.d.host = s.d.host :=
  exec_ring_refused hacc hfree (by omega) (by decide)
    ((mbxRing_judges hr).trans (by rw [if_neg (by omega), if_pos (by omega)]))

theorem exec_ring_nameless (hver : 2 ≤ rd s.d Reg.HOST_STAT_MBX_VER) (h : 9 < r) :
    ∃ t, exec (.ring req w) s = .next t ∧ s.answered t 0x10 3 ∧ t.d.host = s.d.host :=
  exec_ring_refused hacc hfree hver (by decide) ((mbxRing_judges hr).trans (if_pos h))

section
variable (hver : 2 ≤ rd s.d Reg.HOST_STAT_MBX_VER) (hnamed : r < 2 ∨ r < 10 ∧ 3 ≤ rd s.d Reg.HOST_STAT_MBX_VER)
include hver hnamed

omit hr hnamed in
/-- A ring that a request sets. -/
theorem exec_ring_sets (f : HostRing → HostRing) (hruns : mbxPerformed (okResp (mbxAsked s.d 0x10)) (mbxReq (mbxAsked s.d 0x10)) 0x10 =
    (0, [], setHring (okResp (mbxAsked s.d 0x10)) r f)) :
    ∃ t, exec (.ring req w) s = .next t ∧ s.answered t 0x10 0 ∧ hring t.d r = f (hring s.d r) := by
  obtain ⟨t, hexec, hanswered, hhost⟩ := exec_ring_answers (w := w) hacc hfree (by decide)
    ((mbxRun_agreed (cmd := 0x10) (by decide) rfl hver).trans hruns) rfl
  refine ⟨t, hexec, hanswered, ?_⟩
  have hring' : hring t.d r = hring (setHring (okResp (mbxAsked s.d 0x10)) r f) r := by rw [hring, hring, hhost]
  exact hring'.trans (hring_setHring_same _ r f)

theorem exec_ring_disables (hen : bit (byteAt (mbxReq s.d) 5) 0 = false) : ∃ t, exec (.ring req w) s = .next t ∧
    s.answered t 0x10 0 ∧ hring t.d r = { hring s.d r with en := false } :=
  exec_ring_sets hacc hfree hver _
    ((mbxRing_judges hr).trans (by rw [if_neg (by omega), if_neg (by omega), if_pos (by rw [hen]; rfl)]))

theorem exec_ring_enables {i : Nat} (hi : i < 13) (hen : bit (byteAt (mbxReq s.d) 5) 0 = true)
    (hsize : leAt (mbxReq s.d) 16 4 = 2 ^ (16 + i)) (hbase : leAt (mbxReq s.d) 8 8 % 2 ^ (16 + i) = 0) :
    ∃ t, exec (.ring req w) s = .next t ∧ s.answered t 0x10 0 ∧ hring t.d r = { hring s.d r with
      en := true, base := leAt (mbxReq s.d) 8 8, size := 2 ^ (16 + i), wb := leAt (mbxReq s.d) 20 8 } := by
  have hlimits : (!((List.range 13).any (fun i => leAt (mbxReq s.d) 16 4 == 2 ^ (16 + i))) ||
      leAt (mbxReq s.d) 8 8 % leAt (mbxReq s.d) 16 4 != 0) = false := by
    have hany : (List.range 13).any (fun i => leAt (mbxReq s.d) 16 4 == 2 ^ (16 + i)) = true :=
      List.any_eq_true.mpr ⟨i, List.mem_range.mpr hi, beq_iff_eq.mpr hsize⟩
    rw [hany, hsize, hbase]
    rfl
  refine exec_ring_sets hacc hfree hver (fun x => { x with
    en := true, base := leAt (mbxReq s.d) 8 8, size := 2 ^ (16 + i), wb := leAt (mbxReq s.d) 20 8 }) ((mbxRing_judges hr).trans ?_)
  rw [if_neg (by omega), if_neg (by omega), if_neg (by rw [hen]; decide), if_neg (by rw [hlimits]; decide), hsize]

theorem exec_ring_limits (hen : bit (byteAt (mbxReq s.d) 5) 0 = true) (hbad : ∀ i, i < 13 → leAt (mbxReq s.d) 16 4 = 2 ^ (16 + i) →
    leAt (mbxReq s.d) 8 8 % 2 ^ (16 + i) ≠ 0) :
    ∃ t, exec (.ring req w) s = .next t ∧ s.answered t 0x10 3 ∧ t.d.host = s.d.host := by
  have hlimits : (!((List.range 13).any (fun i => leAt (mbxReq s.d) 16 4 == 2 ^ (16 + i))) ||
      leAt (mbxReq s.d) 8 8 % leAt (mbxReq s.d) 16 4 != 0) = true := by
    cases hany : (List.range 13).any (fun i => leAt (mbxReq s.d) 16 4 == 2 ^ (16 + i)) with
    | false => rfl
    | true =>
      obtain ⟨i, hi, hsize⟩ := List.any_eq_true.mp hany
      have hsize := beq_iff_eq.mp hsize
      rw [hsize]
      simpa using hbad i (List.mem_range.mp hi) hsize
  refine exec_ring_refused hacc hfree hver (by decide) ((mbxRing_judges hr).trans ?_)
  rw [if_neg (by omega), if_neg (by omega), if_neg (by rw [hen]; decide), if_pos hlimits]

end
end

/-! ### A busy mailbox, and undefined commands -/

theorem exec_hello_overrun {s : State} {req : Requester} (w : Nat) (hacc : accessErr s.d req 0x10110010 true = 0)
    (hbusy : rdB s.d Reg.HOST_MBX_STAT_BUSY = true) : ∃ t, exec (.hello req w) s = .next t ∧ t.nv = s.nv ∧
    rdB t.d Reg.HOST_MBX_STAT_OVR = true ∧ rd t.d Reg.HOST_STAT_MBX_VER = rd s.d Reg.HOST_STAT_MBX_VER ∧
    t.d.zreq = s.d.zreq ∧ t.d.host = s.d.host := by
  have hdev : mbxCmd s.d req w 1 = wrB (okResp (mbxAsked s.d 1)) Reg.HOST_MBX_STAT_OVR true :=
    mailbox_busy w (mbxAsked_served 1 hacc) (((mbxAsked_within s.d 1).rdB (by decide)).trans hbusy)
  refine ⟨_, next_withDev hdev, rfl, rdB_wrB_same _ Reg.HOST_MBX_STAT_OVR true (by decide), ?_, rfl, rfl⟩
  exact (rd_wrB_ne _ Reg.HOST_MBX_STAT_OVR _ true (by decide)).trans (version_asked s.d 1)

theorem mailbox_undefined {d : Dev} {req : Requester} (w : Nat) {cmd : Nat} (hacc : accessErr d req 0x10110010 true = 0)
    (hfree : rdB d Reg.HOST_MBX_STAT_BUSY = false) (hcmd : byteAt (mbxReq d) 0 = cmd) (h : cmd = 0 ∨ 4 < cmd ∧ cmd ≠ 0x10) :
    bits (rd (mailbox d req w) (Reg.HOST_MBX_RSP_DATA 0)) 8 8 = 1 := by
  have hundefined : mbxVersion cmd = none := by
    unfold mbxVersion
    rw [if_neg (by omega), if_neg (by omega)]
  rw [mailbox_answers w hacc hfree (mbxRun_undefined _ _ (by rw [hcmd]; exact hundefined)), rd_mbxAnswer_rsp _ _ _ _ (by decide)]
  have hword (a b c x : Byte) (l : List Byte) : leAt ([a, b, c, x] ++ l) 0 4 =
      a.toNat + 256 * (b.toNat + 256 * (c.toNat + 256 * (x.toNat + 256 * 0))) := rfl
  have hstatus : (BitVec.ofNat 8 1).toNat = 1 := rfl
  have hfirst := ((mbxReq d).getD 0 0).isLt
  rw [Nat.mul_zero, hword, hstatus, bits]
  omega

/-- Settles O52: a command of an agreed version runs and is answered as R505 says, and each command answers what it gives. -/
theorem mailboxCommands : Obligations.MailboxCommands := by
  unfold Obligations.MailboxCommands
  refine ⟨fun s req w v hacc hfree hver hv => ⟨exec_hello_agrees hacc hfree hver hv,
      fun h => exec_hello_nameless hacc hfree hver (hv.trans h), exec_mbxStatus hacc hfree hver, exec_mbxSleep hacc hfree hver hv⟩,
    fun s req w z m at_ dist hacc hfree hver hz hm hat hdist =>
      ⟨exec_zoneMode_parameter hacc hfree hver hz hm hat hdist, fun hzlt hm1 hm5 hwhen =>
        ⟨exec_zoneMode_state hacc hfree hver hz hm hat hdist hzlt hm1 hm5 hwhen,
          exec_zoneMode_accepted hacc hfree hver hz hm hat hdist hzlt hm1 hm5 hwhen⟩⟩,
    fun s req w r hacc hfree hr => ⟨fun hver hnamed => ⟨exec_ring_disables hacc hfree hr hver hnamed,
        fun i hi => exec_ring_enables hacc hfree hr hver hnamed hi, exec_ring_limits hacc hfree hr hver hnamed⟩,
      fun h => h.elim (exec_ring_versionless hacc hfree) fun ⟨hver, hnamed⟩ => exec_ring_later hacc hfree hr hver hnamed,
      fun h hver => exec_ring_nameless hacc hfree hr hver h⟩,
    fun s req w cmd hacc => ⟨fun hbusy => ⟨mailbox_busy w hacc hbusy, exec_hello_overrun w hacc hbusy⟩,
      fun hfree hcmd h => mailbox_undefined w hacc hfree hcmd h⟩⟩

end Sys2Proof.Machine
end

section
/-!
PROOFS. What the safety functions' actions on zones and outputs leave alone, and the state a function enters (R409, R410,
R413).
-/
namespace Sys2Proof.Machine

/-! ### Safe outputs -/

theorem sout_setSout_same (d : Dev) (n : Nat) (f : SafeOut → SafeOut) : sout (setSout d n f) n = f (sout d n) :=
  SMap.get_mod_same _ _ _ _

theorem sout_setSout_ne (d : Dev) {n m : Nat} (f : SafeOut → SafeOut) (h : m ≠ n) : sout (setSout d n f) m = sout d m :=
  SMap.get_mod_ne _ _ _ h

/-- The registers that the actions on a function's zones and outputs write. -/
def actKey (k : Nat) : Prop :=
  0x10050000 * 32 ≤ k ∧ k < 0x10058000 * 32 ∨ k = Reg.SERAC_QUENCH_ZQ.key ∨ k = Reg.SAFE_OUT_DEMAND.key ∨
  k = Reg.SAFE_OUT_READBACK.key ∨ k = Reg.SAFE_TEST_CNT_DISCARDED.key ∨ 0x100D0200 * 32 ≤ k

theorem actKey_of_high {k : Nat} (h : 0x100D0200 * 32 ≤ k) : actKey k := .inr (.inr (.inr (.inr (.inr h))))

/-- Only zones, axes, brakes and safe outputs have been acted on. -/
structure Acted (d e : Dev) : Prop where
  regs : RegsWithin actKey d e
  firn : e.firn = d.firn
  k : e.k = d.k
  sch : e.sch = d.sch
  mor : e.mor = d.mor
  safe : e.safe = { d.safe with out := e.safe.out }

theorem Acted.refl (d : Dev) : Acted d d := ⟨.refl _ _, rfl, rfl, rfl, rfl, rfl⟩

theorem Acted.trans {d e g : Dev} (h : Acted d e) (h' : Acted e g) : Acted d g :=
  ⟨h.regs.trans h'.regs, h'.firn.trans h.firn, h'.k.trans h.k, h'.sch.trans h.sch, h'.mor.trans h.mor,
    h'.safe.trans (by rw [h.safe])⟩

/-- A write of one of their registers. -/
theorem Acted.wr {d e : Dev} (h : Acted d e) {f : Fld} (v : Nat) (hf : actKey f.key) : Acted d (wr e f v) :=
  ⟨h.regs.wr v hf, h.firn, h.k, h.sch, h.mor, h.safe⟩

theorem Acted.ite {d e g : Dev} {p : Prop} [Decidable p] (h : Acted d e) (h' : Acted d g) : Acted d (if p then e else g) := by
  split
  · exact h
  · exact h'

theorem Acted.foldl {α : Type} (l : List α) (step : Dev → α → Dev) (hstep : ∀ e x, x ∈ l → Acted e (step e x)) (d : Dev) :
    Acted d (l.foldl step d) := by
  induction l generalizing d with
  | nil => exact .refl d
  | cons x l ih => exact (hstep d x (by simp)).trans (ih (fun e y hy => hstep e y (by simp [hy])) _)

/-- What changes neither registers nor the parts that the safety functions are judged by. -/
theorem Acted.of_parts {d e g : Dev} (h : Acted d e) (hregs : g.regs = e.regs) (hfirn : g.firn = e.firn) (hk : g.k = e.k)
    (hsch : g.sch = e.sch) (hmor : g.mor = e.mor) (hsafe : g.safe = { e.safe with out := g.safe.out }) : Acted d g :=
  h.trans ⟨.of_regs hregs, hfirn, hk, hsch, hmor, hsafe⟩

theorem Acted.setSout {d e : Dev} (h : Acted d e) (n : Nat) (f : SafeOut → SafeOut) : Acted d (setSout e n f) :=
  h.of_parts rfl rfl rfl rfl rfl rfl

theorem Acted.setAxis {d e : Dev} (h : Acted d e) (n : Nat) (f : AxisSt → AxisSt) : Acted d (setAxis e n f) :=
  h.of_parts rfl rfl rfl rfl rfl rfl

theorem Acted.setPort {d e : Dev} (h : Acted d e) (p : Nat) (f : FloePort → FloePort) : Acted d (setPort e p f) :=
  h.of_parts rfl rfl rfl rfl rfl rfl

theorem Acted.setSerCh {d e : Dev} (h : Acted d e) (c : Nat) (f : SerCh → SerCh) : Acted d (setSerCh e c f) :=
  h.of_parts rfl rfl rfl rfl rfl rfl

theorem outOff_acted (d : Dev) (n : Nat) : Acted d (outOff d n) := by
  have hdiscard : Acted d (if (sout d n).test = 1 ∨ (sout d n).test = 2 then incSat d Reg.SAFE_TEST_CNT_DISCARDED 1 else d) :=
    .ite ((Acted.refl d).wr _ (by unfold actKey; decide)) (.refl d)
  unfold outOff
  dsimp only
  generalize (if (sout d n).test = 1 ∨ (sout d n).test = 2 then incSat d Reg.SAFE_TEST_CNT_DISCARDED 1 else d) = e at *
  exact ((hdiscard.setSout n _).wr (f := Reg.SAFE_OUT_DEMAND) _ (by unfold actKey; decide)).wr (f := Reg.SAFE_OUT_READBACK) _
    (by unfold actKey; decide)

/-- An output that is turned off, and the others. -/
theorem sout_outOff (d : Dev) (n : Nat) : (sout (outOff d n) n).on = false ∧ (sout (outOff d n) n).want = false ∧
    ∀ m, m ≠ n → sout (outOff d n) m = sout d m := by
  unfold outOff
  dsimp only
  generalize he : (if (sout d n).test = 1 ∨ (sout d n).test = 2 then incSat d Reg.SAFE_TEST_CNT_DISCARDED 1 else d) = e
  have hsout (m : Nat) : sout e m = sout d m := by
    rw [← he]
    split <;> rfl
  refine ⟨congrArg SafeOut.on (sout_setSout_same e n _), congrArg SafeOut.want (sout_setSout_same e n _), fun m hm => ?_⟩
  exact (sout_setSout_ne e _ hm).trans (hsout m)

theorem outOn_acted (d : Dev) (n : Nat) : Acted d (outOn d n) := by
  have hwanted : Acted d (wrFBit (setSout d n (fun o => { o with want := true })) Reg.SAFE_OUT_DEMAND n true) :=
    ((Acted.refl d).setSout n _).wr (f := Reg.SAFE_OUT_DEMAND) _ (by unfold actKey; decide)
  unfold outOn
  exact .ite hwanted ((hwanted.setSout n _).wr (f := Reg.SAFE_OUT_READBACK) _ (by unfold actKey; decide))

/-- An output that is turned on is wanted, whether or not a test pulse delays it, and the others are as they were. -/
theorem sout_outOn (d : Dev) (n : Nat) : (sout (outOn d n) n).want = true ∧ ∀ m, m ≠ n → sout (outOn d n) m = sout d m := by
  have hwanted : (sout (wrFBit (setSout d n (fun o => { o with want := true })) Reg.SAFE_OUT_DEMAND n true) n).want = true :=
    congrArg SafeOut.want (sout_setSout_same d n _)
  have hother (m : Nat) (hm : m ≠ n) :
      sout (wrFBit (setSout d n (fun o => { o with want := true })) Reg.SAFE_OUT_DEMAND n true) m = sout d m := sout_setSout_ne d _ hm
  unfold outOn
  dsimp only
  split
  · exact ⟨hwanted, hother⟩
  · refine ⟨?_, fun m hm => (sout_setSout_ne _ _ hm).trans (hother m hm)⟩
    exact (congrArg SafeOut.want (sout_setSout_same _ n _)).trans hwanted

theorem sout_allOutsOff (d : Dev) {n : Nat} (hn : n < 8) : (sout (allOutsOff d) n).on = false ∧ (sout (allOutsOff d) n).want = false := by
  have hoff (m : Nat) : ∀ i, i < m → (sout ((List.range m).foldl outOff d) i).on = false ∧
      (sout ((List.range m).foldl outOff d) i).want = false := by
    induction m with
    | zero => exact fun i hi => absurd hi (by omega)
    | succ m ih =>
      intro i hi
      rw [List.range_succ, List.foldl_append]
      obtain ⟨hon, hwant, hother⟩ := sout_outOff ((List.range m).foldl outOff d) m
      by_cases him : i = m
      · subst him
        exact ⟨hon, hwant⟩
      · have hkept : sout ([m].foldl outOff ((List.range m).foldl outOff d)) i = sout ((List.range m).foldl outOff d) i := hother i him
        rw [hkept]
        exact ih i (by omega)
  exact hoff 8 n hn

theorem allOutsOff_acted (d : Dev) : Acted d (allOutsOff d) := .foldl _ _ (fun e n _ => outOff_acted e n) d

/-! ### Axes and quenches -/

theorem discardBrakeTest_acted (d : Dev) (n : Nat) : Acted d (discardBrakeTest d n) := by
  unfold discardBrakeTest
  refine ((((Acted.refl d).wr _ (actKey_of_high ?_)).wr _ (actKey_of_high ?_)).wr _ (by unfold actKey; decide)).wr _ (actKey_of_high ?_)
  all_goals simp only [Fld.key, Reg.SAFE_BRAKE_RESULT, Reg.SAFE_BRAKE_STATE, Reg.AXIS_STAT_STATE]
  all_goals omega

theorem axisStop_acted (d : Dev) (n cause : Nat) : Acted d (axisStop d n cause) := by
  unfold axisStop
  refine .ite (.ite (discardBrakeTest_acted d n) (.refl d)) (.ite ?_ (.refl d))
  dsimp only
  refine (((((Acted.refl d).wr _ (actKey_of_high ?_)).wr _ (actKey_of_high ?_)).wr _ (actKey_of_high ?_)).setAxis _ _).wr _
    (actKey_of_high ?_)
  all_goals simp only [Fld.key, Reg.AXIS_STAT_CAUSE, Reg.AXIS_STAT_HOLDING, Reg.AXIS_STAT_AT_VLIM, Reg.AXIS_STAT_STATE]
  all_goals omega

theorem sendExpressAll_acted (d : Dev) (ps : List Nat) (trips : List (Nat × Nat)) : Acted d (sendExpressAll d ps trips) := by
  have hsend (e : Dev) {p : Nat} (hp : p < 128) (quench : Bool) (mask : Nat) : Acted e (sendExpress e p quench mask) := by
    unfold sendExpress
    dsimp only
    refine .ite (.refl e) (((Acted.refl e).setPort p _).wr (f := Reg.FLOE_EXP_ID p) _ ?_)
    simp only [actKey, Fld.key, Reg.FLOE_EXP_ID]
    omega
  unfold sendExpressAll
  refine .ite (.refl d) (.foldl _ _ (fun e p hp => ?_) d)
  have hlt : p < 128 := by simpa using hp
  exact .ite (.refl e) (.ite (hsend e hlt true _) (.ite (hsend e hlt false _) (.refl e)))

theorem orderZoneQuench_acted (d : Dev) (z cause : Nat) : Acted d (orderZoneQuench d z cause) := by
  have hmark (e : Dev) (cs : List Nat) : Acted e (markSent e cs) :=
    .foldl cs _ (fun e c _ => (Acted.refl e).setSerCh c _) e
  have hkey : actKey Reg.SERAC_QUENCH_ZQ.key := Or.inr (Or.inl rfl)
  have hordered : Acted d (wrFBit d Reg.SERAC_QUENCH_ZQ z true) := (Acted.refl d).wr _ hkey
  unfold orderZoneQuench
  lift_lets
  extract_lets ordered _ quench sent
  have hquench : Acted d quench := hordered.of_parts rfl rfl rfl rfl rfl rfl
  have hsent : Acted d sent := hquench.trans (sendExpressAll_acted quench _ _)
  exact hsent.trans (hmark sent _)

/-! ### A function enters a state -/

theorem zoneActions_acted (d : Dev) (r : SafeFuncRec) : Acted d (zoneActions d r) := by
  refine .foldl _ _ (fun e z _ => ?_) d
  have htests : Acted e ((zoneAxes e z).foldl (fun d n => if axState d n = axTEST then discardBrakeTest d n else d) e) :=
    .foldl _ _ (fun e n _ => .ite (discardBrakeTest_acted e n) (.refl e)) e
  dsimp only
  generalize (zoneAxes e z).foldl (fun d n => if axState d n = axTEST then discardBrakeTest d n else d) e = e1 at *
  have hstops : Acted e1 ((zoneAxes e1 z).foldl (fun d n => axisStop d n 3) e1) :=
    .foldl _ _ (fun e n _ => axisStop_acted e n 3) e1
  generalize (zoneAxes e1 z).foldl (fun d n => axisStop d n 3) e1 = e2 at *
  exact .ite htests (.ite (htests.trans hstops) ((htests.trans hstops).trans (orderZoneQuench_acted e2 z cSafe)))

theorem fnOutsOff_acted (d : Dev) (f : Nat) : Acted d (fnOutsOff d f) :=
  .foldl _ _ (fun e o _ => .ite (outOff_acted e o.out) (.refl e)) d

/-- A function in the state it has entered, its actions apart. -/
def fnEntered (d : Dev) (r : SafeFuncRec) (st cause : Nat) : Dev :=
  let d := wr d (Reg.SAFE_FUNC_STATE r.func) st
  let d := wr d (Reg.SAFE_FUNC_CAUSE r.func) cause
  let d := wrB d (if st = fnLOCKED then Reg.SAFE_STAT_FAULT_EV else Reg.SAFE_STAT_DEMAND_EV) true
  { d with safe := { d.safe with fn := SMap.mod {} d.safe.fn r.func (fun x => { x with openK := none }) } }

theorem enterFn_acted (d : Dev) (r : SafeFuncRec) (st cause : Nat) : Acted (fnEntered d r st cause) (enterFn d r st cause) :=
  (fnOutsOff_acted _ _).trans (zoneActions_acted _ _)

/-- The actions on zones and outputs write no function's register. -/
theorem not_actKey_func {f : Nat} (hf : f < 32) :
    ¬ actKey (Reg.SAFE_FUNC_STATE f).key ∧ ¬ actKey (Reg.SAFE_FUNC_CAUSE f).key := by
  simp only [actKey, Fld.key, Reg.SAFE_FUNC_STATE, Reg.SAFE_FUNC_CAUSE, Reg.SERAC_QUENCH_ZQ, Reg.SAFE_OUT_DEMAND,
    Reg.SAFE_OUT_READBACK, Reg.SAFE_TEST_CNT_DISCARDED]
  omega

theorem fnState_entered (d : Dev) (r : SafeFuncRec) {st : Nat} (cause : Nat) (hst : st < 8) :
    fnState (fnEntered d r st cause) r.func = st := by
  have hev (b : Bool) (e : Dev) :
      rd (wrB e (if st = fnLOCKED then Reg.SAFE_STAT_FAULT_EV else Reg.SAFE_STAT_DEMAND_EV) b) (Reg.SAFE_FUNC_STATE r.func) =
        rd e (Reg.SAFE_FUNC_STATE r.func) := rd_wrB_ne _ _ _ _ (by
      split
      all_goals simp only [Fld.key, Reg.SAFE_FUNC_STATE, Reg.SAFE_STAT_FAULT_EV, Reg.SAFE_STAT_DEMAND_EV]
      all_goals omega)
  refine (hev true _).trans ((rd_wr_ne _ (Reg.SAFE_FUNC_CAUSE r.func) _ _ ?_).trans ((rd_wr_same _ _ _).trans (Nat.mod_eq_of_lt hst)))
  simp [Fld.key, Reg.SAFE_FUNC_STATE, Reg.SAFE_FUNC_CAUSE]

theorem fnCause_entered (d : Dev) (r : SafeFuncRec) (st : Nat) {cause : Nat} (hcause : cause < 16) :
    rd (fnEntered d r st cause) (Reg.SAFE_FUNC_CAUSE r.func) = cause := by
  refine (rd_wrB_ne _ (if st = fnLOCKED then Reg.SAFE_STAT_FAULT_EV else Reg.SAFE_STAT_DEMAND_EV) _ true ?_).trans
    ((rd_wr_same _ _ _).trans (Nat.mod_eq_of_lt hcause))
  split
  all_goals simp only [Fld.key, Reg.SAFE_FUNC_CAUSE, Reg.SAFE_STAT_FAULT_EV, Reg.SAFE_STAT_DEMAND_EV]
  all_goals omega

section
variable (d : Dev) {r : SafeFuncRec} (hr : r.func < 32)
include hr

/-- A function that enters a state is in it, with its cause. -/
theorem fnState_enterFn {st : Nat} (cause : Nat) (hst : st < 8) : fnState (enterFn d r st cause) r.func = st :=
  ((enterFn_acted d r st cause).regs (Reg.SAFE_FUNC_STATE r.func) (not_actKey_func hr).1).trans (fnState_entered d r cause hst)

theorem fnCause_enterFn (st : Nat) {cause : Nat} (hcause : cause < 16) :
    rd (enterFn d r st cause) (Reg.SAFE_FUNC_CAUSE r.func) = cause :=
  ((enterFn_acted d r st cause).regs (Reg.SAFE_FUNC_CAUSE r.func) (not_actKey_func hr).2).trans (fnCause_entered d r st hcause)

end

/-- A function's entry touches no event, and of the SAFE block the outputs and its own record alone. -/
theorem enterFn_keeps (d : Dev) (r : SafeFuncRec) (st cause : Nat) : (enterFn d r st cause).mor = d.mor ∧
    (enterFn d r st cause).firn = d.firn ∧ (enterFn d r st cause).k = d.k ∧ (enterFn d r st cause).sch = d.sch ∧
    (enterFn d r st cause).safe = { d.safe with
      out := (enterFn d r st cause).safe.out, fn := SMap.mod {} d.safe.fn r.func (fun x => { x with openK := none }) } := by
  obtain ⟨-, hfirn, hk, hsch, hmor, hsafe⟩ := enterFn_acted d r st cause
  exact ⟨hmor, hfirn, hk, hsch, hsafe⟩

/-- A function that an input fault locks out: its state and cause, and its two events. -/
theorem fnFault_locks {d : Dev} {r : SafeFuncRec} {cause : Nat} (hr : r.func < 32) (hstate : fnState d r.func ≠ 0) (hcause : cause < 16) :
    fnState (fnFault d r cause) r.func = fnLOCKED ∧ rd (fnFault d r cause) (Reg.SAFE_FUNC_CAUSE r.func) = cause ∧
    rdB (fnFault d r cause) Reg.SAFE_STAT_FAULT_EV = true ∧
    (fnFault d r cause).mor.raised.map (·.src) = d.mor.raised.map (·.src) ++ [Src.SAFE_DEMAND, Src.SAFE_IN_FAULT] ∧
    (fnFault d r cause).safe = { d.safe with
      out := (fnFault d r cause).safe.out, fn := SMap.mod {} d.safe.fn r.func (fun x => { x with openK := none }) } := by
  obtain ⟨hmor, -, -, -, hsafe⟩ := enterFn_keeps d r fnLOCKED cause
  have hfault : rdB (enterFn d r fnLOCKED cause) Reg.SAFE_STAT_FAULT_EV = true := by
    rw [(enterFn_acted d r fnLOCKED cause).regs.rdB (by unfold actKey; decide)]
    exact rdB_wrB_same _ Reg.SAFE_STAT_FAULT_EV true (by decide)
  have hstate' := fnState_enterFn d hr cause (st := fnLOCKED) (by decide)
  have hcause' := fnCause_enterFn d hr fnLOCKED hcause
  unfold fnFault
  rw [if_neg hstate]
  generalize enterFn d r fnLOCKED cause = e at *
  refine ⟨hstate', hcause', hfault, ?_, hsafe⟩
  rw [← hmor]
  simp only [raise, useFree, List.map_append, List.map_cons, List.map_nil, List.append_assoc, List.cons_append, List.nil_append]

end Sys2Proof.Machine
end

section
/-!
PROOFS. The safety verdict (R407, R409, R413).
-/
namespace Sys2Proof.Machine

/-! ### What one function's update leaves to the others -/

/-- The registers that a verdict may write beside function `f`'s. -/
def tickKey (f k : Nat) : Prop :=
  actKey k ∨ Reg.SAFE_STAT_DEMAND_EV.key ≤ k ∧ k ≤ Reg.SAFE_STAT_RESET_REJ.key ∨
  Reg.SAFE_CNT_DEMANDS.key ≤ k ∧ k ≤ Reg.SAFE_CNT_RESET_REJ.key ∨
  0x100D0100 * 32 ≤ k ∧ k < 0x100D0180 * 32 ∧ k / 32 ≠ 0x100D0100 + 4 * f

/-- What function `f` is judged by is as it was. -/
structure OthersTicked (f : Nat) (d e : Dev) : Prop where
  regs : RegsWithin (tickKey f) d e
  firn : e.firn = d.firn
  k : e.k = d.k
  sch : e.sch = d.sch
  safe : e.safe = { d.safe with out := e.safe.out, fn := e.safe.fn }
  fn : SMap.get {} e.safe.fn f = SMap.get {} d.safe.fn f

theorem OthersTicked.refl (f : Nat) (d : Dev) : OthersTicked f d d := ⟨.refl _ _, rfl, rfl, rfl, rfl, rfl⟩

theorem OthersTicked.trans {f : Nat} {d e g : Dev} (h : OthersTicked f d e) (h' : OthersTicked f e g) : OthersTicked f d g :=
  ⟨h.regs.trans h'.regs, h'.firn.trans h.firn, h'.k.trans h.k, h'.sch.trans h.sch, h'.safe.trans (by rw [h.safe]),
    h'.fn.trans h.fn⟩

theorem OthersTicked.of_acted {f : Nat} {d e : Dev} (h : Acted d e) : OthersTicked f d e :=
  ⟨h.regs.mono fun _ hk => .inl hk, h.firn, h.k, h.sch, h.safe.trans (by rw [h.safe]), by rw [h.safe]⟩

theorem OthersTicked.wr {f : Nat} {d e : Dev} (h : OthersTicked f d e) {g : Fld} (v : Nat) (hg : tickKey f g.key) :
    OthersTicked f d (wr e g v) := ⟨h.regs.wr v hg, h.firn, h.k, h.sch, h.safe, h.fn⟩

theorem OthersTicked.raise {f : Nat} {d e : Dev} (h : OthersTicked f d e) (src ut ui d0 d1 : Nat) :
    OthersTicked f d (raise e src ut ui d0 d1) := ⟨h.regs, h.firn, h.k, h.sch, h.safe, h.fn⟩

/-- Another function's record changes. -/
theorem OthersTicked.setFn {f g : Nat} {d e : Dev} (h : OthersTicked f d e) (hfg : f ≠ g) (change : SafeFn → SafeFn) :
    OthersTicked f d { e with safe := { e.safe with fn := SMap.mod {} e.safe.fn g change } } :=
  ⟨h.regs, h.firn, h.k, h.sch, by rw [h.safe], (SMap.get_mod_ne _ _ _ hfg).trans h.fn⟩

theorem OthersTicked.ite {f : Nat} {d e g : Dev} {p : Prop} [Decidable p] (h : OthersTicked f d e) (h' : OthersTicked f d g) :
    OthersTicked f d (if p then e else g) := by
  split
  · exact h
  · exact h'

/-- The registers of another function. -/
theorem tickKey_func {f g : Nat} (hg : g < 32) (hfg : f ≠ g) :
    tickKey f (Reg.SAFE_FUNC_STATE g).key ∧ tickKey f (Reg.SAFE_FUNC_CAUSE g).key := by
  have hstate : 0x100D0100 * 32 ≤ (Reg.SAFE_FUNC_STATE g).key ∧ (Reg.SAFE_FUNC_STATE g).key < 0x100D0180 * 32 ∧
      (Reg.SAFE_FUNC_STATE g).key / 32 ≠ 0x100D0100 + 4 * f := by
    simp only [Fld.key, Reg.SAFE_FUNC_STATE]
    omega
  have hcause : 0x100D0100 * 32 ≤ (Reg.SAFE_FUNC_CAUSE g).key ∧ (Reg.SAFE_FUNC_CAUSE g).key < 0x100D0180 * 32 ∧
      (Reg.SAFE_FUNC_CAUSE g).key / 32 ≠ 0x100D0100 + 4 * f := by
    simp only [Fld.key, Reg.SAFE_FUNC_CAUSE]
    omega
  exact ⟨.inr (.inr (.inr hstate)), .inr (.inr (.inr hcause))⟩

theorem tickKey_counts (f : Nat) : tickKey f Reg.SAFE_CNT_DEMANDS.key ∧ tickKey f Reg.SAFE_CNT_RESET_REJ.key ∧
    tickKey f Reg.SAFE_STAT_DEMAND_EV.key ∧ tickKey f Reg.SAFE_STAT_FAULT_EV.key ∧ tickKey f Reg.SAFE_STAT_RESET_REJ.key :=
  ⟨.inr (.inr (.inl (by decide))), .inr (.inr (.inl (by decide))), .inr (.inl (by decide)), .inr (.inl (by decide)),
    .inr (.inl (by decide))⟩

/-- The device with the hands' times of a function noted. -/
def handsNoted (d : Dev) (r : SafeFuncRec) : Dev :=
  { d with safe := { d.safe with fn := SMap.mod {} d.safe.fn r.func (fun x => { x with handK := handTimes d r }) } }

/-- A function's update once the times of its hands are noted, and whether it rejects the pending reset press. -/
def fnJudged (d : Dev) (r : SafeFuncRec) (h : List (Option Nat)) : Dev × Bool :=
  if fnState d r.func = fnRUN then (if fnSatisfied d r then d else fnRunDemand d r, false)
  else if fnState d r.func = fnDEMAND then
    (if (if r.kind = 3 then !handOn d r 0 && !handOn d r 1 else fnSatisfied d r) then wr d (Reg.SAFE_FUNC_STATE r.func) fnWAIT
      else d, false)
  else if fnState d r.func = fnWAIT then
    if d.safe.resets.any (fun p => p.1 == r.reset) && fnSatisfied d r && !fnFaulty d r then
      (wr d (Reg.SAFE_FUNC_STATE r.func) fnRUN, false)
    else if r.kind = 3 then (handsTick d r h, d.safe.resets.any (fun p => p.1 == r.reset))
    else if !fnSatisfied d r then
      (incSat (enterFn d r fnDEMAND 1) Reg.SAFE_CNT_DEMANDS 1, d.safe.resets.any (fun p => p.1 == r.reset))
    else (d, d.safe.resets.any (fun p => p.1 == r.reset))
  else if fnState d r.func = fnLOCKED then (lockedTick d r, false)
  else (d, false)

theorem fnTick_judged (d : Dev) (r : SafeFuncRec) : fnTick d r = fnJudged (handsNoted d r) r (handTimes d r) := rfl

section
variable {f : Nat} {r : SafeFuncRec} (hr : r.func < 32) (hfr : f ≠ r.func)
include hr hfr

theorem enterFn_others (d : Dev) (st cause : Nat) : OthersTicked f d (enterFn d r st cause) := by
  obtain ⟨hstate, hcause⟩ := tickKey_func hr hfr
  obtain ⟨-, -, hdemand, hfault, -⟩ := tickKey_counts f
  have hev : tickKey f (if st = fnLOCKED then Reg.SAFE_STAT_FAULT_EV else Reg.SAFE_STAT_DEMAND_EV).key := by
    split
    · exact hfault
    · exact hdemand
  have hentered : OthersTicked f d (fnEntered d r st cause) :=
    ((((OthersTicked.refl f d).wr st hstate).wr cause hcause).wr _ hev).setFn hfr _
  exact hentered.trans (.of_acted (enterFn_acted d r st cause))

theorem fnRunDemand_others (d : Dev) : OthersTicked f d (fnRunDemand d r) :=
  ((enterFn_others hr hfr d fnDEMAND 1).wr _ (tickKey_counts f).1).raise _ _ _ _ _

theorem lockedTick_others (d : Dev) : OthersTicked f d (lockedTick d r) := by
  unfold lockedTick
  exact .ite ((OthersTicked.refl f d).setFn hfr _) (.ite (enterFn_others hr hfr d _ _) ((OthersTicked.refl f d).setFn hfr _))

theorem handsTick_others (d : Dev) (h : List (Option Nat)) : OthersTicked f d (handsTick d r h) := by
  obtain ⟨hstate, hcause⟩ := tickKey_func hr hfr
  unfold handsTick
  exact .ite (.refl f d) (.ite ((OthersTicked.refl f d).wr _ hstate) ((OthersTicked.refl f d).wr _ hcause))

/-- A function's update leaves what every other function is judged by as it was. -/
theorem fnJudged_others (d : Dev) (h : List (Option Nat)) : OthersTicked f d (fnJudged d r h).1 := by
  obtain ⟨hstate, -⟩ := tickKey_func hr hfr
  have hself := OthersTicked.refl f d
  unfold fnJudged
  split
  · exact .ite hself (fnRunDemand_others hr hfr d)
  · split
    · exact .ite (hself.wr _ hstate) hself
    · split
      · split
        · exact hself.wr _ hstate
        · split
          · exact handsTick_others hr hfr d _
          · split
            · exact (enterFn_others hr hfr d fnDEMAND 1).wr _ (tickKey_counts f).1
            · exact hself
      · split
        · exact lockedTick_others hr hfr d
        · exact hself

theorem fnTick_others (d : Dev) : OthersTicked f d (fnTick d r).1 :=
  ((OthersTicked.refl f d).setFn hfr _).trans (fnJudged_others hr hfr (handsNoted d r) (handTimes d r))

end

/-! ### The table of R409 -/

/-- The state that the table of R409 gives a function, by what it is judged by and the times of its hands. -/
def FnTable (d : Dev) (r : SafeFuncRec) (h : List (Option Nat)) (st : Nat) : Prop :=
  (fnState d r.func = fnRUN → st = if fnSatisfied d r then fnRUN else fnDEMAND) ∧
  (fnState d r.func = fnDEMAND → r.kind ≠ 3 → st = if fnSatisfied d r then fnWAIT else fnDEMAND) ∧
  (fnState d r.func = fnDEMAND → r.kind = 3 → st = if !handOn d r 0 && !handOn d r 1 then fnWAIT else fnDEMAND) ∧
  (fnState d r.func = fnWAIT → (∃ p ∈ d.safe.resets, p.1 = r.reset) → fnSatisfied d r = true → fnFaulty d r = false → st = fnRUN) ∧
  (fnState d r.func = fnWAIT → r.kind ≠ 3 → fnSatisfied d r = false → st = fnDEMAND) ∧
  (fnState d r.func = fnWAIT → r.kind ≠ 3 → fnSatisfied d r = true → (∀ p ∈ d.safe.resets, p.1 ≠ r.reset) → st = fnWAIT) ∧
  (fnState d r.func = fnWAIT → r.kind = 3 → fnSatisfied d r = true → (∀ p ∈ d.safe.resets, p.1 ≠ r.reset) →
    st = if handSync h then fnRUN else fnWAIT)

/-- What a function is judged by, the same on two devices. -/
structure SameJudged (r : SafeFuncRec) (d e : Dev) : Prop where
  state : fnState e r.func = fnState d r.func
  closed : ∀ i, inClosed e i = inClosed d i
  resets : e.safe.resets = d.safe.resets
  faulty : fnFaulty e r = fnFaulty d r
  k : e.k = d.k
  fn : SMap.get {} e.safe.fn r.func = SMap.get {} d.safe.fn r.func

/-- No other function's update writes a function's state, and none writes the inputs. -/
theorem not_tickKey {f : Nat} (hf : f < 32) :
    ¬ tickKey f (Reg.SAFE_FUNC_STATE f).key ∧ ¬ tickKey f Reg.SAFE_IN_STATE.key := by
  have hact := (not_actKey_func hf).1
  have hin : ¬ actKey Reg.SAFE_IN_STATE.key := by unfold actKey; decide
  refine ⟨?_, ?_⟩
  · rintro (h | h | h | h)
    · exact hact h
    all_goals
      simp only [Fld.key, Reg.SAFE_FUNC_STATE, Reg.SAFE_STAT_DEMAND_EV, Reg.SAFE_STAT_RESET_REJ, Reg.SAFE_CNT_DEMANDS,
        Reg.SAFE_CNT_RESET_REJ] at h
      omega
  · rintro (h | h | h | h)
    · exact hin h
    all_goals
      simp only [Fld.key, Reg.SAFE_IN_STATE, Reg.SAFE_STAT_DEMAND_EV, Reg.SAFE_STAT_RESET_REJ, Reg.SAFE_CNT_DEMANDS,
        Reg.SAFE_CNT_RESET_REJ] at h
      omega

theorem OthersTicked.judged {d e : Dev} {r : SafeFuncRec} (hr : r.func < 32) (h : OthersTicked r.func d e) : SameJudged r d e := by
  obtain ⟨hown, hin⟩ := not_tickKey hr
  refine ⟨h.regs _ hown, fun i => ?_, by rw [h.safe], ?_, h.k, h.fn⟩
  · rw [inClosed, inClosed, rdFBit, rdFBit, h.regs _ hin]
  · rw [fnFaulty, fnFaulty, h.safe]

theorem FnTable.congr {d e : Dev} {r : SafeFuncRec} {st : Nat} (h : SameJudged r d e)
    (ht : FnTable e r (handTimes e r) st) : FnTable d r (handTimes d r) st := by
  obtain ⟨hstate, hin, hresets, hfaulty, hk, hfn⟩ := h
  have hhand (n : Nat) : handOn e r n = handOn d r n := by rw [handOn, handOn, hin, hin]
  have hsat : fnSatisfied e r = fnSatisfied d r := by simp only [fnSatisfied, hhand, funext hin]
  have htimes : handTimes e r = handTimes d r := by simp only [handTimes, hhand, hk, hfn]
  simpa only [FnTable, hstate, hsat, hhand, hresets, hfaulty, htimes] using ht

theorem fnState_written (d : Dev) (f : Nat) {st : Nat} (hst : st < 8) : fnState (wr d (Reg.SAFE_FUNC_STATE f) st) f = st :=
  (rd_wr_same _ _ _).trans (Nat.mod_eq_of_lt hst)

theorem fnState_counted (d : Dev) (f n : Nat) : fnState (incSat d Reg.SAFE_CNT_DEMANDS n) f = fnState d f :=
  rd_wr_ne _ _ _ _ (by simp only [Fld.key, Reg.SAFE_FUNC_STATE, Reg.SAFE_CNT_DEMANDS]; omega)

/-- A function in `WAIT_RESET` of a kind that is left by its reset: its own press, with its inputs satisfied and no fault. -/
theorem fnJudged_wait {d : Dev} {r : SafeFuncRec} (h : List (Option Nat)) (hwait : fnState d r.func = fnWAIT)
    (hpress : (d.safe.resets.any (fun p => p.1 == r.reset) && fnSatisfied d r && !fnFaulty d r) = false) :
    (fnJudged d r h).1 = if r.kind = 3 then handsTick d r h
      else if !fnSatisfied d r then incSat (enterFn d r fnDEMAND 1) Reg.SAFE_CNT_DEMANDS 1 else d := by
  unfold fnJudged
  rw [if_neg (by rw [hwait]; decide), if_neg (by rw [hwait]; decide), if_pos hwait, if_neg (by rw [hpress]; decide)]
  split
  · rfl
  · split <;> rfl

/-- One function's update takes it through the table. -/
theorem fnJudged_table (d : Dev) {r : SafeFuncRec} (h : List (Option Nat)) (hr : r.func < 32) :
    FnTable d r h (fnState (fnJudged d r h).1 r.func) := by
  have hunpressed (hno : ∀ p ∈ d.safe.resets, p.1 ≠ r.reset) :
      (d.safe.resets.any (fun p => p.1 == r.reset) && fnSatisfied d r && !fnFaulty d r) = false := by
    rw [List.any_eq_false.mpr fun p hp => by simpa using hno p hp]
    rfl
  refine ⟨fun hrun => ?_, fun hdemand hkind => ?_, fun hdemand hkind => ?_, fun hwait ⟨p, hp, hown⟩ hsat hfault => ?_,
    fun hwait hkind hsat => ?_, fun hwait hkind hsat hno => ?_, fun hwait hkind hsat hno => ?_⟩
  · rw [fnJudged, if_pos hrun]
    dsimp only
    split
    · exact hrun
    · exact (fnState_counted _ _ _).trans (fnState_enterFn d hr 1 (by decide))
  · rw [fnJudged, if_neg (by rw [hdemand]; decide), if_pos hdemand, if_neg hkind]
    dsimp only
    split
    · exact fnState_written d r.func (by decide)
    · exact hdemand
  · rw [fnJudged, if_neg (by rw [hdemand]; decide), if_pos hdemand, if_pos hkind]
    dsimp only
    split
    · exact fnState_written d r.func (by decide)
    · exact hdemand
  · have hpress : d.safe.resets.any (fun p => p.1 == r.reset) = true := List.any_eq_true.mpr ⟨p, hp, by simpa using hown⟩
    rw [fnJudged, if_neg (by rw [hwait]; decide), if_neg (by rw [hwait]; decide), if_pos hwait,
      if_pos (by rw [hpress, hsat, hfault]; rfl)]
    exact fnState_written d r.func (by decide)
  · rw [fnJudged_wait h hwait (by rw [hsat, Bool.and_false]; rfl), if_neg hkind, if_pos (by rw [hsat]; rfl)]
    exact (fnState_counted _ _ _).trans (fnState_enterFn d hr 1 (by decide))
  · rw [fnJudged_wait h hwait (hunpressed hno), if_neg hkind, if_neg (by rw [hsat]; decide)]
    exact hwait
  · rw [fnJudged_wait h hwait (hunpressed hno), if_pos hkind, handsTick, if_neg (by rw [hsat]; decide)]
    split
    · exact fnState_written d r.func (by decide)
    · refine (rd_wr_ne _ (Reg.SAFE_FUNC_CAUSE r.func) _ _ ?_).trans hwait
      simp [Fld.key, Reg.SAFE_FUNC_STATE, Reg.SAFE_FUNC_CAUSE]

theorem fnTick_table (d : Dev) {r : SafeFuncRec} (hr : r.func < 32) :
    FnTable d r (handTimes d r) (fnState (fnTick d r).1 r.func) :=
  fnJudged_table (handsNoted d r) (handTimes d r) hr

/-! ### Every function -/

/-- One function of the round: its update, and its reset input where it rejects the press. -/
def fnRound (a : Dev × List Nat) (f : Nat) : Dev × List Nat :=
  match fnRec a.1 f with
  | some r => ((fnTick a.1 r).1, if (fnTick a.1 r).2 then a.2 ++ [r.reset] else a.2)
  | none => a

theorem fnRec_func {d : Dev} {f : Nat} {r : SafeFuncRec} (h : fnRec d f = some r) : r.func = f := by
  have := List.find?_some h
  simpa using this

theorem fnRound_others {f g : Nat} (hg : g < 32) (hfg : f ≠ g) (a : Dev × List Nat) : OthersTicked f a.1 (fnRound a g).1 := by
  unfold fnRound
  split
  · next r hrec =>
    have hfunc := fnRec_func hrec
    exact fnTick_others (hfunc ▸ hg) (hfunc ▸ hfg) a.1
  · exact .refl f a.1

theorem fnRounds_others {f : Nat} (l : List Nat) (hl : ∀ g ∈ l, g < 32 ∧ f ≠ g) (a : Dev × List Nat) :
    OthersTicked f a.1 (l.foldl fnRound a).1 := by
  induction l generalizing a with
  | nil => exact .refl f a.1
  | cons g l ih =>
    obtain ⟨hg, hfg⟩ := hl g (by simp)
    exact (fnRound_others hg hfg a).trans (ih (fun x hx => hl x (by simp [hx])) _)

/-- Every function of the round goes through the table from the state before the verdict. -/
theorem fnRounds_table (d : Dev) {r : SafeFuncRec} (hr : r.func < 32) (hrec : fnRec d r.func = some r) :
    FnTable d r (handTimes d r) (fnState ((List.range 32).foldl fnRound (d, [])).1 r.func) := by
  obtain ⟨before, after, hsplit⟩ := List.append_of_mem (List.mem_range.mpr hr)
  have hnodup : (before ++ r.func :: after).Nodup := hsplit ▸ List.nodup_range
  have hmem (g : Nat) (hg : g ∈ before ∨ g ∈ after) : g < 32 ∧ r.func ≠ g := by
    refine ⟨List.mem_range.mp (hsplit ▸ by simp only [List.mem_append, List.mem_cons]; exact hg.imp id .inr), ?_⟩
    rintro rfl
    rcases hg with hg | hg
    · exact (List.nodup_append.mp hnodup).2.2 _ hg _ (by simp) rfl
    · exact (List.nodup_cons.mp (List.nodup_append.mp hnodup).2.1).1 hg
  rw [hsplit, List.foldl_append, List.foldl_cons]
  have hbefore := fnRounds_others before (fun g hg => hmem g (.inl hg)) (d, [])
  generalize before.foldl fnRound (d, []) = a at *
  have hrec' : fnRec a.1 r.func = some r := by
    rw [fnRec, img, hbefore.firn]
    exact hrec
  have hown : (fnRound a r.func).1 = (fnTick a.1 r).1 := by rw [fnRound, hrec']
  have hafter := fnRounds_others after (fun g hg => hmem g (.inr hg)) (fnRound a r.func)
  have hstate := (hafter.judged hr).state
  rw [hstate, hown]
  exact (fnTick_table a.1 hr).congr (hbefore.judged hr)

theorem resetReject_others (f : Nat) (d : Dev) (input us : Nat) : OthersTicked f d (resetReject d input us) := by
  obtain ⟨-, hcount, -, -, hrej⟩ := tickKey_counts f
  have hcounted : OthersTicked f d (incSat (wrB d Reg.SAFE_STAT_RESET_REJ true) Reg.SAFE_CNT_RESET_REJ 1) :=
    ((OthersTicked.refl f d).wr _ hrej).wr _ hcount
  unfold resetReject
  dsimp only
  split
  · exact hcounted.raise _ _ _ _ _
  · exact hcounted

theorem OthersTicked.foldl {α : Type} {f : Nat} (l : List α) (step : Dev → α → Dev) (hstep : ∀ e x, OthersTicked f e (step e x))
    (d : Dev) : OthersTicked f d (l.foldl step d) := by
  induction l generalizing d with
  | nil => exact .refl f d
  | cons x l ih => exact (hstep d x).trans (ih _)

/-- The presses that the functions have rejected. -/
def pressesRejected (a : Dev × List Nat) : Dev :=
  a.1.safe.resets.foldl (fun d p => if a.2.contains p.1 then resetReject d p.1 p.2 else d) a.1

theorem pressesRejected_others (f : Nat) (a : Dev × List Nat) : OthersTicked f a.1 (pressesRejected a) :=
  .foldl a.1.safe.resets _ (fun e p => .ite (resetReject_others f e p.1 p.2) (.refl f e)) _

theorem fnsTick_eq (d : Dev) : fnsTick d = pressesRejected ((List.range 32).foldl fnRound (d, [])) := by
  unfold fnsTick
  extract_lets go
  have hgo : go = fnRound := by
    funext a f
    unfold fnRound
    show (match fnRec a.1 f with
      | some r => ((fnTick a.1 r).1, if (fnTick a.1 r).2 then a.2 ++ [r.reset] else a.2)
      | none => a) = _
    cases fnRec a.1 f <;> rfl
  rw [hgo]
  generalize (List.range 32).foldl fnRound (d, []) = a
  rfl

theorem fnsTick_table (d : Dev) {r : SafeFuncRec} (hr : r.func < 32) (hrec : fnRec d r.func = some r) :
    FnTable d r (handTimes d r) (fnState (fnsTick d) r.func) := by
  rw [fnsTick_eq, ((pressesRejected_others r.func _).judged hr).state]
  exact fnRounds_table d hr hrec

/-- The round of all functions. -/
theorem fnsTick_others (d : Dev) : OthersTicked 32 d (fnsTick d) := by
  rw [fnsTick_eq]
  exact (fnRounds_others (List.range 32) (fun g hg => by have := List.mem_range.mp hg; omega) (d, [])).trans
    (pressesRejected_others 32 _)

/-! ### What follows the functions -/

/-- What the rest of the verdict leaves alone. -/
structure Followed (d e : Dev) : Prop where
  regs : RegsWithin actKey d e
  evalK : e.safe.evalK = d.safe.evalK
  unlockReq : e.safe.unlockReq = d.safe.unlockReq

theorem Followed.refl (d : Dev) : Followed d d := ⟨.refl _ _, rfl, rfl⟩

theorem Followed.trans {d e g : Dev} (h : Followed d e) (h' : Followed e g) : Followed d g :=
  ⟨h.regs.trans h'.regs, h'.evalK.trans h.evalK, h'.unlockReq.trans h.unlockReq⟩

theorem Followed.of_acted {d e : Dev} (h : Acted d e) : Followed d e := ⟨h.regs, by rw [h.safe], by rw [h.safe]⟩

theorem Followed.of_parts {d e : Dev} (hregs : e.regs = d.regs) (hevalK : e.safe.evalK = d.safe.evalK)
    (hunlock : e.safe.unlockReq = d.safe.unlockReq) : Followed d e := ⟨.of_regs hregs, hevalK, hunlock⟩

theorem Followed.foldl {α : Type} (l : List α) (step : Dev → α → Dev) (hstep : ∀ e x, Followed e (step e x)) (d : Dev) :
    Followed d (l.foldl step d) := by
  induction l generalizing d with
  | nil => exact .refl d
  | cons x l ih => exact (hstep d x).trans (ih _)

theorem allowWatch_followed (d : Dev) : Followed d (allowWatch d) := by
  unfold allowWatch
  have hfresh : Followed d { d with safe := { d.safe with overs := [] } } := .of_parts rfl rfl rfl
  refine hfresh.trans (.foldl _ _ (fun e z => ?_) _)
  split
  · exact .refl e
  · next a _ =>
    dsimp only
    have hcounted (l : List Nat) : Followed e (l.foldl (fun e c =>
        { e with safe := { e.safe with overs := SMap.set 0 e.safe.overs c (min 2 (SMap.get 0 d.safe.overs c + 1)) } }) e) := by
      refine .foldl l _ (fun e c => ?_) e
      exact .of_parts rfl rfl rfl
    split
    · exact (hcounted _).trans (.of_acted (orderZoneQuench_acted _ _ _))
    · exact hcounted _

theorem quietTick_followed (d : Dev) : Followed d (quietTick d) := by
  refine .foldl _ _ (fun e r => ?_) d
  exact .of_parts rfl rfl rfl

/-- The registers that a function's entry writes all lie behind the evaluator's state. -/
theorem enterFn_within (d : Dev) (r : SafeFuncRec) (st cause : Nat) :
    RegsWithin (fun k => actKey k ∨ Reg.SAFE_STAT_DEMAND_EV.key ≤ k) d (enterFn d r st cause) := by
  have hstate : Reg.SAFE_STAT_DEMAND_EV.key ≤ (Reg.SAFE_FUNC_STATE r.func).key := by
    simp only [Fld.key, Reg.SAFE_FUNC_STATE, Reg.SAFE_STAT_DEMAND_EV]
    omega
  have hcause : Reg.SAFE_STAT_DEMAND_EV.key ≤ (Reg.SAFE_FUNC_CAUSE r.func).key := by
    simp only [Fld.key, Reg.SAFE_FUNC_CAUSE, Reg.SAFE_STAT_DEMAND_EV]
    omega
  have hev : Reg.SAFE_STAT_DEMAND_EV.key ≤ (if st = fnLOCKED then Reg.SAFE_STAT_FAULT_EV else Reg.SAFE_STAT_DEMAND_EV).key := by
    split <;> decide
  have hentered : RegsWithin (fun k => actKey k ∨ Reg.SAFE_STAT_DEMAND_EV.key ≤ k) d (fnEntered d r st cause) :=
    ((((RegsWithin.refl _ d).wr st (Or.inr hstate)).wr cause (Or.inr hcause)).wrB true (Or.inr hev)).safe _
  exact hentered.trans ((enterFn_acted d r st cause).regs.mono fun _ => Or.inl)

/-- An unlock request that waits is granted or refused, and the verdict's tick stays. -/
theorem unlockTick_within (d : Dev) : RegsWithin (fun k => actKey k ∨ Reg.SAFE_STAT_DEMAND_EV.key ≤ k) d (unlockTick d) ∧
    (unlockTick d).safe.evalK = d.safe.evalK := by
  have hrefuse (e : Dev) (req : Requester) (hregs : e.regs = d.regs) :
      RegsWithin (fun k => actKey k ∨ Reg.SAFE_STAT_DEMAND_EV.key ≤ k) d (refuseW e req 0x100D0008) :=
    (RegsWithin.of_regs hregs).trans ((errResp_logged e req 0x100D0008 errRefused true).2.mono
      fun k hk => .inr (Nat.le_trans (by decide : Reg.SAFE_STAT_DEMAND_EV.key ≤ 0x10110000 * 32) hk))
  unfold unlockTick
  split
  · exact ⟨.refl _ _, rfl⟩
  · next f req _ =>
    dsimp only
    split
    · exact ⟨hrefuse _ _ rfl, rfl⟩
    · next r _ =>
      split
      · obtain ⟨-, -, -, -, hsafe⟩ := enterFn_keeps { d with safe := { d.safe with
          unlockReq := none, unlocked := d.safe.unlocked.filter (· != f) ++ [f] } } r fnDEMAND 1
        exact ⟨(RegsWithin.of_regs rfl).trans (enterFn_within _ r fnDEMAND 1), by rw [hsafe]⟩
      · exact ⟨hrefuse _ _ rfl, rfl⟩

/-! ### The outputs -/

/-- What demands an output is not what turning outputs on and off changes. -/
theorem outDemand_congr {d e : Dev} (hregs : RegsWithin actKey d e) (hfirn : e.firn = d.firn) (hsch : e.sch = d.sch)
    (hbarred : e.safe.barred = d.safe.barred) (hunlocked : e.safe.unlocked = d.safe.unlocked) (n : Nat) :
    outDemand e n = outDemand d n := by
  have hfree (f : Fld) (hlow : f.key < 0x10050000 * 32 ∨ 0x100C0000 * 32 ≤ f.key ∧ f.key < 0x100D0010 * 32) : ¬ actKey f.key := by
    simp only [actKey, Fld.key, Reg.SERAC_QUENCH_ZQ, Reg.SAFE_OUT_DEMAND, Reg.SAFE_OUT_READBACK, Reg.SAFE_TEST_CNT_DISCARDED] at *
    omega
  have hlock : rd e Reg.SAFE_OUT_LOCKOUT = rd d Reg.SAFE_OUT_LOCKOUT := hregs _ (by unfold actKey; decide)
  have hrun (o : SafeOutRec) : (sel 32 (bit o.funcs)).all (fun f => fnState e f == fnRUN) =
      (sel 32 (bit o.funcs)).all (fun f => fnState d f == fnRUN) := by
    rw [Bool.eq_iff_iff, List.all_eq_true, List.all_eq_true]
    refine forall₂_congr fun f hf => ?_
    have hlt : f < 32 := List.mem_range.mp (List.mem_filter.mp hf).1
    rw [fnState, fnState, hregs _ (not_actKey_func hlt).1]
  simp only [outDemand, confirmed, ownsGate, inSafe, rdB, rdFBit, hlock, hbarred, hunlocked, hsch, hfirn, img, hrun,
    hregs Reg.SAFE_STAT_CONF (hfree _ (by decide)), hregs Reg.SCH_CFG_PAIR_EN (hfree _ (by decide)),
    hregs Reg.SCH_STAT_OWN (hfree _ (by decide)), hregs Reg.MOR_STAT_SAFE (hfree _ (by decide))]

/-- One output follows its demand. -/
def outFollows (d : Dev) (n : Nat) : Dev :=
  if outDemand d n ∧ (sout d n).want = false then outOn d n
  else if outDemand d n = false ∧ (sout d n).want then outOff d n
  else d

theorem outFollows_acted (d : Dev) (n : Nat) : Acted d (outFollows d n) := .ite (outOn_acted d n) (.ite (outOff_acted d n) (.refl d))

theorem sout_outFollows (d : Dev) (n : Nat) : (sout (outFollows d n) n).want = outDemand d n ∧
    ∀ m, m ≠ n → sout (outFollows d n) m = sout d m := by
  unfold outFollows
  split
  · next h =>
    obtain ⟨hwant, hother⟩ := sout_outOn d n
    exact ⟨hwant.trans h.1.symm, hother⟩
  · next hon =>
    split
    · next h =>
      obtain ⟨-, hwant, hother⟩ := sout_outOff d n
      exact ⟨hwant.trans h.1.symm, hother⟩
    · next hoff =>
      refine ⟨?_, fun _ _ => rfl⟩
      cases hd : outDemand d n <;> cases hw : (sout d n).want <;> simp_all

theorem outsTick_follows (d : Dev) (m : Nat) : Acted d ((List.range m).foldl outFollows d) ∧
    ∀ n, n < m → (sout ((List.range m).foldl outFollows d) n).want = outDemand d n := by
  induction m with
  | zero => exact ⟨.refl d, fun n hn => absurd hn (by omega)⟩
  | succ m ih =>
    obtain ⟨hacted, hwant⟩ := ih
    rw [List.range_succ, List.foldl_append]
    generalize (List.range m).foldl outFollows d = e at *
    obtain ⟨hown, hother⟩ := sout_outFollows e m
    have hdemand (n : Nat) : outDemand e n = outDemand d n :=
      outDemand_congr hacted.regs hacted.firn hacted.sch (by rw [hacted.safe]) (by rw [hacted.safe]) n
    refine ⟨hacted.trans (outFollows_acted e m), fun n hn => ?_⟩
    show (sout (outFollows e m) n).want = _
    by_cases hnm : n = m
    · rw [hnm, hown, hdemand]
    · rw [hother n hnm]
      exact hwant n (by omega)

/-- A brake test begins. -/
def brakeTestBegun (d : Dev) (n : Nat) : Dev :=
  let d := wr (setAxState (setAxis d n axisClear) n axTEST) (Reg.SAFE_BRAKE_STATE n) 2
  { d with safe := { d.safe with
      brakePos := SMap.put d.safe.brakePos n (axis d n).pos, brakeT := SMap.put d.safe.brakeT n d.k } }

theorem brakeTestBegun_within (d : Dev) (n : Nat) : RegsWithin actKey d (brakeTestBegun d n) := by
  refine ((((RegsWithin.refl actKey d).setAxis n axisClear).wr (f := Reg.AXIS_STAT_STATE n) axTEST (actKey_of_high ?_)).wr
    (f := Reg.SAFE_BRAKE_STATE n) 2 (actKey_of_high ?_)).safe _
  all_goals simp only [Fld.key, Reg.AXIS_STAT_STATE, Reg.SAFE_BRAKE_STATE]
  all_goals omega

/-- One axis whose brake test is due. -/
def brakeTestStep (d : Dev) (n : Nat) : Dev :=
  match axisRec d n with
  | some r =>
    if axisAtRest d n && ownsGate d && !zoneDemanded d r.zone && !inSafe d && !rdB d (Reg.SAFE_BRAKE_LOCKOUT n) then
      brakeTestBegun d n
    else d
  | none => d

theorem brakeTests_eq (d : Dev) : brakeTests d = d.safe.brakeDue.foldl (fun d e => brakeTestStep d e.1) d := rfl

/-- Starting brake tests changes no output, no function and no demand. -/
theorem brakeTests_keeps (d : Dev) : RegsWithin actKey d (brakeTests d) ∧
    ((brakeTests d).firn, (brakeTests d).sch, { (brakeTests d).safe with brakePos := [], brakeT := [] }) =
      (d.firn, d.sch, { d.safe with brakePos := [], brakeT := [] }) := by
  rw [brakeTests_eq]
  refine ⟨.foldl _ _ (fun e x _ => ?_) d, ?_⟩
  · unfold brakeTestStep
    split
    · exact .ite (brakeTestBegun_within e x.1) (.refl _ _)
    · exact .refl _ _
  · refine foldl_keeps (fun e => (e.firn, e.sch, { e.safe with brakePos := [], brakeT := [] })) _ _ (fun e x => ?_) d
    unfold brakeTestStep
    split
    · split <;> rfl
    · rfl

/-! ### The verdict -/

/-- The device with the verdict's tick and its register. -/
def evaluated (d : Dev) : Dev := wrB { d with safe := { d.safe with evalK := some d.k } } Reg.SAFE_STAT_EVAL (confirmed d)

/-- The part of the verdict that a confirmed section's functions take. -/
def functionsJudged (d : Dev) : Dev := if confirmed d then unlockTick (quietTick (allowWatch (fnsTick d))) else d

/-- A difference of the block's copy of the wiring is told (R418). -/
def parityTold (d : Dev) : Option Nat → Dev
  | some w => raise d Src.SAFE_CFG_PARITY 0 0 w 0
  | none => d

/-- It is told by an event alone. -/
theorem parityTold_event (d : Dev) (cfg : Option Nat) :
    ∃ raised free, parityTold d cfg = { d with mor := { d.mor with raised := raised }, free := free } := by
  cases cfg with
  | none => exact ⟨d.mor.raised, d.free, rfl⟩
  | some w => exact ⟨_, _, rfl⟩

theorem safetyEval_eq (d : Dev) (cfg : Option Nat) : safetyEval d cfg =
    if !evalRuns (parityTold d cfg) then
      allOutsOff (wrB { parityTold d cfg with safe := { (parityTold d cfg).safe with resets := [] } } Reg.SAFE_STAT_EVAL false)
    else brakeTests (outsTick (unbar (functionsJudged (evaluated (parityTold d cfg))))) := by
  cases cfg <;> rfl

section
variable {s : State} {cfg : Option Nat}

theorem exec_safetyEvaluation_off (h : evalRuns s.d = false) : ∃ t, exec (.safetyEvaluation cfg) s = .next t ∧ t.nv = s.nv ∧
    t.pending = s.pending ∧ rdB t.d Reg.SAFE_STAT_EVAL = false ∧
    ∀ n, n < 8 → (sout t.d n).on = false ∧ (sout t.d n).want = false := by
  obtain ⟨raised, free, htold⟩ := parityTold_event s.d cfg
  have hoff : evalRuns (parityTold s.d cfg) = false := by rw [htold]; exact h
  have hdev := (safetyEval_eq s.d cfg).trans (if_pos (by rw [hoff]; rfl))
  refine ⟨_, next_withDev hdev, rfl, rfl, ?_, fun n hn => sout_allOutsOff _ hn⟩
  exact ((allOutsOff_acted _).regs.rdB (by unfold actKey; decide)).trans (rdB_wrB_same _ Reg.SAFE_STAT_EVAL false (by decide))

/-- The functions' part of the verdict leaves the evaluator's state, and what else lies before the events. -/
theorem functionsJudged_within (d : Dev) :
    RegsWithin (fun k => tickKey 32 k ∨ Reg.SAFE_STAT_DEMAND_EV.key ≤ k) d (functionsJudged d) ∧
    (functionsJudged d).safe.evalK = d.safe.evalK := by
  have hfns := fnsTick_others d
  have hfollow := (allowWatch_followed (fnsTick d)).trans (quietTick_followed (allowWatch (fnsTick d)))
  obtain ⟨hregs, hevalK⟩ := unlockTick_within (quietTick (allowWatch (fnsTick d)))
  unfold functionsJudged
  split
  · refine ⟨(((hfns.regs.mono fun _ => Or.inl).trans (hfollow.regs.mono fun _ h => Or.inl (Or.inl h))).trans
      (hregs.mono fun k h => h.elim (fun h => Or.inl (Or.inl h)) Or.inr)), ?_⟩
    rw [hevalK, hfollow.evalK, hfns.safe]
  · exact ⟨.refl _ _, rfl⟩

/-- With no unlock asked for, a function's state after its part of the verdict is what the table gives. -/
theorem functionsJudged_table {d : Dev} {r : SafeFuncRec} (hconf : confirmed d = true) (hunlock : d.safe.unlockReq = none)
    (hr : r.func < 32) (hrec : fnRec d r.func = some r) :
    FnTable d r (handTimes d r) (fnState (functionsJudged d) r.func) := by
  have hfollow := (allowWatch_followed (fnsTick d)).trans (quietTick_followed (allowWatch (fnsTick d)))
  have hnone : (quietTick (allowWatch (fnsTick d))).safe.unlockReq = none := by
    rw [hfollow.unlockReq, (fnsTick_others d).safe]
    exact hunlock
  have hidle : unlockTick (quietTick (allowWatch (fnsTick d))) = quietTick (allowWatch (fnsTick d)) := by
    rw [unlockTick, hnone]
  have hstate : fnState (quietTick (allowWatch (fnsTick d))) r.func = fnState (fnsTick d) r.func :=
    hfollow.regs _ (not_actKey_func hr).1
  rw [functionsJudged, if_pos hconf, hidle, hstate]
  exact fnsTick_table d hr hrec

/-- What follows the functions' part: presses are spent, every output follows its demand, and brake tests begin. -/
theorem outputsJudged (d : Dev) : RegsWithin actKey d (brakeTests (outsTick (unbar d))) ∧
    (brakeTests (outsTick (unbar d))).safe.evalK = d.safe.evalK ∧ (brakeTests (outsTick (unbar d))).safe.resets = [] ∧
    ∀ n, n < 8 → (sout (brakeTests (outsTick (unbar d))) n).want = outDemand (brakeTests (outsTick (unbar d))) n := by
  obtain ⟨hacted, hwant⟩ := outsTick_follows (unbar d) 8
  have houts : outsTick (unbar d) = (List.range 8).foldl outFollows (unbar d) := rfl
  rw [← houts] at hacted hwant
  have hunbar : RegsWithin actKey d (unbar d) ∧ (unbar d).safe.evalK = d.safe.evalK ∧ (unbar d).safe.resets = [] := ⟨.of_regs rfl, rfl, rfl⟩
  obtain ⟨hregs, hevalK, hresets⟩ := hunbar
  generalize unbar d = e at *
  generalize outsTick e = g at *
  obtain ⟨hbrakes, hkept⟩ := brakeTests_keeps g
  have hfirn : (brakeTests g).firn = g.firn := congrArg (fun x => x.1) hkept
  have hsch : (brakeTests g).sch = g.sch := congrArg (fun x => x.2.1) hkept
  have hsafe {β : Type} (view : SafeSt → β) (hview : ∀ x p t, view { x with brakePos := p, brakeT := t } = view x) :
      view (brakeTests g).safe = view g.safe :=
    (hview _ [] []).symm.trans ((congrArg (fun x => view x.2.2) hkept).trans (hview _ [] []))
  refine ⟨(hregs.trans hacted.regs).trans hbrakes, ?_, ?_, fun n hn => ?_⟩
  · rw [hsafe SafeSt.evalK (fun _ _ _ => rfl), hacted.safe]
    exact hevalK
  · rw [hsafe SafeSt.resets (fun _ _ _ => rfl), hacted.safe]
    exact hresets
  · have hout : sout (brakeTests g) n = sout g n := hsafe (fun x => SMap.get ({} : SafeOut) x.out n) (fun _ _ _ => rfl)
    rw [hout, hwant n hn, outDemand_congr hbrakes hfirn hsch (hsafe SafeSt.barred (fun _ _ _ => rfl))
      (hsafe SafeSt.unlocked (fun _ _ _ => rfl)), outDemand_congr hacted.regs hacted.firn hacted.sch (by rw [hacted.safe])
      (by rw [hacted.safe])]

/-- A verdict judges a function as the device before it stood. -/
theorem evaluated_judged (d : Dev) (cfg : Option Nat) {r : SafeFuncRec} (hr : r.func < 32) :
    SameJudged r d (evaluated (parityTold d cfg)) := by
  obtain ⟨raised, free, htold⟩ := parityTold_event d cfg
  rw [htold]
  refine ⟨rd_wrB_ne _ Reg.SAFE_STAT_EVAL _ _ ?_, fun i => ?_, rfl, rfl, rfl, rfl⟩
  · simp only [Fld.key, Reg.SAFE_FUNC_STATE, Reg.SAFE_STAT_EVAL]
    omega
  · exact congrArg (bit · i) (rd_wrB_ne _ Reg.SAFE_STAT_EVAL Reg.SAFE_IN_STATE _ (by decide))

theorem exec_safetyEvaluation_runs (r : SafeFuncRec) (h : evalRuns s.d = true) : ∃ t, exec (.safetyEvaluation cfg) s = .next t ∧
    t.nv = s.nv ∧ t.pending = s.pending ∧ rdB t.d Reg.SAFE_STAT_EVAL = confirmed s.d ∧ t.d.safe.evalK = some s.d.k ∧
    t.d.safe.resets = [] ∧ (∀ n, n < 8 → (sout t.d n).want = outDemand t.d n) ∧
    (confirmed s.d = true → s.d.safe.unlockReq = none → r.func < 32 → fnRec s.d r.func = some r →
      FnTable s.d r (handTimes s.d r) (fnState t.d r.func)) := by
  obtain ⟨raised, free, htold⟩ := parityTold_event s.d cfg
  have hruns : evalRuns (parityTold s.d cfg) = true := by rw [htold]; exact h
  have hdev := (safetyEval_eq s.d cfg).trans (if_neg (by rw [hruns]; decide))
  have hconf : confirmed (evaluated (parityTold s.d cfg)) = confirmed s.d := by
    rw [htold]
    exact congrArg (· == 2) (rd_wrB_ne _ Reg.SAFE_STAT_EVAL Reg.SAFE_STAT_CONF _ (by decide))
  have heval : rdB (evaluated (parityTold s.d cfg)) Reg.SAFE_STAT_EVAL = confirmed s.d := by
    rw [htold]
    exact rdB_wrB_same _ Reg.SAFE_STAT_EVAL _ (by decide)
  have hevalK : (evaluated (parityTold s.d cfg)).safe.evalK = some s.d.k := by rw [htold]; rfl
  have hunlock : (evaluated (parityTold s.d cfg)).safe.unlockReq = s.d.safe.unlockReq := by rw [htold]; rfl
  have hrec (f : Nat) : fnRec (evaluated (parityTold s.d cfg)) f = fnRec s.d f := by rw [htold]; rfl
  have hjudged := evaluated_judged s.d cfg (r := r)
  generalize evaluated (parityTold s.d cfg) = e at *
  obtain ⟨hfnRegs, hfnK⟩ := functionsJudged_within e
  have htable := functionsJudged_table (d := e) (r := r)
  generalize functionsJudged e = g at *
  obtain ⟨hregs, hk, hresets, hwant⟩ := outputsJudged g
  generalize brakeTests (outsTick (unbar g)) = out at *
  refine ⟨_, next_withDev hdev, rfl, rfl, ?_, hk.trans (hfnK.trans hevalK), hresets, hwant, fun hc hnone hr hf => ?_⟩
  · have hout : rdB out Reg.SAFE_STAT_EVAL = rdB g Reg.SAFE_STAT_EVAL :=
      hregs.rdB (by unfold actKey; decide)
    have hkey : ¬ (tickKey 32 Reg.SAFE_STAT_EVAL.key ∨ Reg.SAFE_STAT_DEMAND_EV.key ≤ Reg.SAFE_STAT_EVAL.key) := by
      unfold tickKey actKey
      decide
    exact hout.trans ((hfnRegs.rdB hkey).trans heval)
  · have hstate : fnState out r.func = fnState g r.func := hregs _ (not_actKey_func hr).1
    show FnTable s.d r (handTimes s.d r) (fnState out r.func)
    rw [hstate]
    exact (htable (hconf.trans hc) (hunlock.trans hnone) hr ((hrec _).trans hf)).congr (hjudged hr)

theorem exec_safeEvalLate (hboot : inBoot s.d = false) (hvoted : isCalved s.d = false) (hmissing : s.d.safe.evalK ≠ some s.d.k) :
    ∃ t, exec .safeEvalLate s = .next t ∧ t.nv = s.nv ∧ rdB t.d Reg.SAFE_STAT_LATE_EV = true ∧
      (∀ n, n < 8 → (sout t.d n).on = false) ∧
      t.d.mor.raised.map (·.src) = s.d.mor.raised.map (·.src) ++ [Src.SAFE_EVAL_LATE] := by
  have hlate : (inBoot s.d || isCalved s.d || s.d.safe.evalK == some s.d.k) = false := by
    rw [hboot, hvoted, beq_eq_false_iff_ne.mpr hmissing]
    rfl
  have hoff (n : Nat) (hn : n < 8) := (sout_allOutsOff s.d hn).1
  have hmor := (allOutsOff_acted s.d).mor
  have hdev : evalLate s.d = raise (wrB (allOutsOff s.d) Reg.SAFE_STAT_LATE_EV true) Src.SAFE_EVAL_LATE 0 0
      (wrB (allOutsOff s.d) Reg.SAFE_STAT_LATE_EV true).k 0 := by
    unfold evalLate
    exact if_neg (by rw [hlate]; decide)
  generalize allOutsOff s.d = e at *
  refine ⟨_, next_withDev hdev, rfl, rdB_wrB_same _ Reg.SAFE_STAT_LATE_EV true (by decide), hoff, ?_⟩
  show (e.mor.raised ++ _).map _ = _
  rw [hmor, List.map_append]
  rfl

end

/-- Settles O46: an evaluation that runs takes every function through R409's table and commands each output where it is
demanded; one that does not, or is late, turns every output off. -/
theorem safetyVerdict : Obligations.SafetyVerdict := by
  unfold Obligations.SafetyVerdict
  refine fun s cfg r => ⟨exec_safetyEvaluation_off, exec_safetyEvaluation_runs r, exec_safeEvalLate, fun h => ?_⟩
  have hdone : (inBoot s.d || isCalved s.d || s.d.safe.evalK == some s.d.k) = true := by rw [h]; simp
  exact next_withDev (if_pos hdone)

end Sys2Proof.Machine
end

section
/-!
PROOFS. Safe inputs, their test pulses, discrepancies, and reset presses (R404 to R406, R411, R58, R418).
-/
namespace Sys2Proof.Machine

/-! ### An input's check at its source's off-pulse -/

/-- The device with what one off-pulse shows of an input: `n` on-phases low, high in the pulse or not. -/
def pulseNoted (d : Dev) (i n : Nat) (high : Bool) : Dev :=
  { d with safe := { d.safe with
      low := SMap.set 0 d.safe.low i (min n 4),
      xshort := if high then d.safe.xshort.filter (· != i) ++ [i] else d.safe.xshort.filter (· != i),
      stuck := if 3 ≤ n then d.safe.stuck.filter (· != i) ++ [i] else d.safe.stuck.filter (· != i) } }

/-- The on-phases that an input has been low through, with this one. -/
def lowPhases (d : Dev) (i : Nat) (low : Bool) : Nat :=
  if low && (fnsOfIn d i).all (fun r => ((fnIns r).filter (· != i)).all (fun j => bit d.safe.filt j)) &&
    !(fnsOfIn d i).isEmpty then SMap.get 0 d.safe.low i + 1 else 0

theorem pulseCheck_eq (d : Dev) (i : Nat) (high low : Bool) : pulseCheck d i high low =
    if high && !d.safe.xshort.contains i then
      (fnsOfIn d i).foldl (fun d r => fnFault d r 3) (pulseNoted d i (lowPhases d i low) high)
    else if decide (lowPhases d i low = 3) then
      (fnsOfIn d i).foldl (fun d r => fnFault d r 4) (pulseNoted d i (lowPhases d i low) high)
    else pulseNoted d i (lowPhases d i low) high := rfl

theorem mem_filter_ne (l : List Nat) (i : Nat) : i ∉ l.filter (· != i) := fun h => by
  simpa using (List.mem_filter.mp h).2

section
variable {d : Dev} {i : Nat} {f : SafeFuncRec} (hone : fnsOfIn d i = [f])

section
include hone

/-- An input that newly reads high in its source's off-pulse locks its function out. -/
theorem pulseCheck_short (low : Bool) (hnew : i ∉ d.safe.xshort) :
    pulseCheck d i true low = fnFault (pulseNoted d i (lowPhases d i low) true) f 3 := by
  rw [pulseCheck_eq, if_pos (by simpa using hnew), hone]
  rfl

/-- So does one that has been low through a third on-phase while its partners read closed. -/
theorem pulseCheck_stuck (hlow : SMap.get 0 d.safe.low i = 2)
    (hothers : ((fnIns f).filter (· != i)).all (fun j => bit d.safe.filt j) = true) :
    pulseCheck d i false true = fnFault (pulseNoted d i 3 false) f 4 := by
  have hphases : lowPhases d i true = 3 := by
    rw [lowPhases, hone, if_pos (by simp only [List.all_cons, List.all_nil, hothers]; rfl), hlow]
  rw [pulseCheck_eq, hphases, hone]
  rfl

end

/-- One that follows its source clears both findings. -/
theorem pulseCheck_follows (d : Dev) (i : Nat) : pulseCheck d i false false = pulseNoted d i 0 false := rfl

end

/-- The device with the test-pulse schedule's phase noted. -/
def pulseTimed (d : Dev) (src : Nat) : Dev :=
  { d with safe := { d.safe with tp := (d.k, 5 * rd d Reg.SAFE_TP_CFG_TP_MS * (src % 4)) } }

section
variable {s : State} {i src high low : Nat}
  (honly : ((img s.d).safeIns.filter (fun r => (r.typ == 0 || r.typ == 2) && r.tp == src)).map (·.input) = [i])
include honly

/-- The off-pulse of a source of one input checks that input. -/
theorem exec_offPulse {e : Dev} (hcheck : pulseCheck (pulseTimed s.d src) i (bit high i) (bit low i) = e) :
    exec (.tpulseOffPulse src high low) s = .next (s.withDev e) := by
  refine next_withDev ?_
  have hfold : tpulse s.d src high low =
      ((img s.d).safeIns.filter (fun r => (r.typ == 0 || r.typ == 2) && r.tp == src)).foldl
        (fun d r => pulseCheck d r.input (bit high r.input) (bit low r.input)) (pulseTimed s.d src) := rfl
  have hmap (l : List SafeInRec) (d : Dev) : l.foldl (fun d r => pulseCheck d r.input (bit high r.input) (bit low r.input)) d =
      (l.map (·.input)).foldl (fun d i => pulseCheck d i (bit high i) (bit low i)) d := by rw [List.foldl_map]
  rw [hfold, hmap, honly]
  exact hcheck

variable {f : SafeFuncRec}

theorem exec_offPulse_short (hhigh : bit high i = true) (hnew : i ∉ s.d.safe.xshort) (hone : fnsOfIn s.d i = [f])
    (hf : f.func < 32) (hstate : fnState s.d f.func ≠ 0) : ∃ t, exec (.tpulseOffPulse src high low) s = .next t ∧ t.nv = s.nv ∧
    i ∈ t.d.safe.xshort ∧ fnState t.d f.func = fnLOCKED ∧ rd t.d (Reg.SAFE_FUNC_CAUSE f.func) = 3 := by
  obtain ⟨hlocked, hcause, -, -, hsafe⟩ := fnFault_locks
    (d := pulseNoted (pulseTimed s.d src) i (lowPhases (pulseTimed s.d src) i (bit low i)) true) (cause := 3) hf hstate (by decide)
  have hcheck : pulseCheck (pulseTimed s.d src) i true (bit low i) = _ := pulseCheck_short (d := pulseTimed s.d src) hone _ hnew
  refine ⟨_, exec_offPulse honly ((congrArg (pulseCheck _ i · _) hhigh).trans hcheck), rfl, ?_, hlocked, hcause⟩
  rw [State.withDev, hsafe]
  exact List.mem_append_right _ (List.mem_singleton_self i)

theorem exec_offPulse_stuck (hhigh : bit high i = false) (hlow : bit low i = true) (hphases : SMap.get 0 s.d.safe.low i = 2)
    (hone : fnsOfIn s.d i = [f]) (hf : f.func < 32) (hstate : fnState s.d f.func ≠ 0)
    (hothers : ((fnIns f).filter (· != i)).all (fun j => bit s.d.safe.filt j) = true) :
    ∃ t, exec (.tpulseOffPulse src high low) s = .next t ∧ t.nv = s.nv ∧ i ∈ t.d.safe.stuck ∧ i ∉ t.d.safe.xshort ∧
    fnState t.d f.func = fnLOCKED ∧ rd t.d (Reg.SAFE_FUNC_CAUSE f.func) = 4 := by
  obtain ⟨hlocked, hcause, -, -, hsafe⟩ := fnFault_locks (d := pulseNoted (pulseTimed s.d src) i 3 false) (cause := 4) hf hstate
    (by decide)
  have hcheck : pulseCheck (pulseTimed s.d src) i false true = _ := pulseCheck_stuck (d := pulseTimed s.d src) hone hphases hothers
  refine ⟨_, exec_offPulse honly ((congr (congrArg (pulseCheck _ i) hhigh) hlow).trans hcheck), rfl, ?_, ?_, hlocked, hcause⟩
  · rw [State.withDev, hsafe]
    exact List.mem_append_right _ (List.mem_singleton_self i)
  · rw [State.withDev, hsafe]
    exact mem_filter_ne _ i

theorem exec_offPulse_follows (hhigh : bit high i = false) (hlow : bit low i = false) :
    ∃ t, exec (.tpulseOffPulse src high low) s = .next t ∧ t.nv = s.nv ∧ t.d.regs = s.d.regs ∧ i ∉ t.d.safe.xshort ∧
    i ∉ t.d.safe.stuck ∧ SMap.get 0 t.d.safe.low i = 0 :=
  ⟨_, exec_offPulse honly ((congr (congrArg (pulseCheck _ i) hhigh) hlow).trans (pulseCheck_follows _ i)), rfl, rfl, mem_filter_ne _ i, mem_filter_ne _ i,
    SMap.get_set_same 0 s.d.safe.low i 0⟩

end

/-! ### Faults of a test-pulse source -/

/-- A function locked out by its source stays so. -/
def TpLocked (g : Nat) (d : Dev) : Prop := fnState d g = fnLOCKED ∧ rd d (Reg.SAFE_FUNC_CAUSE g) = 7

/-- A lock-out writes of the functions' registers the state and the cause of its own function alone. -/
theorem enterFn_func_ne (d : Dev) (r : SafeFuncRec) (st cause : Nat) {g : Nat} (hg : g < 32) (hne : r.func ≠ g) :
    fnState (enterFn d r st cause) g = fnState d g ∧
    rd (enterFn d r st cause) (Reg.SAFE_FUNC_CAUSE g) = rd d (Reg.SAFE_FUNC_CAUSE g) := by
  have hact := enterFn_acted d r st cause
  have hother (f : Fld) (hf : f = Reg.SAFE_FUNC_STATE g ∨ f = Reg.SAFE_FUNC_CAUSE g) : rd (fnEntered d r st cause) f = rd d f := by
    refine (rd_wrB_ne _ (if st = fnLOCKED then Reg.SAFE_STAT_FAULT_EV else Reg.SAFE_STAT_DEMAND_EV) f true ?_).trans
      ((rd_wr_ne _ (Reg.SAFE_FUNC_CAUSE r.func) f _ ?_).trans (rd_wr_ne _ (Reg.SAFE_FUNC_STATE r.func) f _ ?_))
    · rcases hf with rfl | rfl <;> split
      all_goals simp only [Fld.key, Reg.SAFE_FUNC_STATE, Reg.SAFE_FUNC_CAUSE, Reg.SAFE_STAT_FAULT_EV, Reg.SAFE_STAT_DEMAND_EV]
      all_goals omega
    all_goals
      rcases hf with rfl | rfl
      all_goals simp only [Fld.key, Reg.SAFE_FUNC_STATE, Reg.SAFE_FUNC_CAUSE]
      all_goals omega
  obtain ⟨hstate, hcause⟩ := not_actKey_func hg
  exact ⟨(hact.regs _ hstate).trans (hother _ (.inl rfl)), (hact.regs _ hcause).trans (hother _ (.inr rfl))⟩

theorem tpLock_locks {d : Dev} {r : SafeFuncRec} (hr : r.func < 32) (hstate : fnState d r.func ≠ 0) : TpLocked r.func (tpLock d r) := by
  rw [tpLock, if_neg hstate]
  exact ⟨fnState_enterFn d hr 7 (by decide), fnCause_enterFn d hr fnLOCKED (by decide)⟩

/-- Another function's lock-out leaves a function's state and cause; its own locks it. -/
theorem tpLock_func (d : Dev) (r : SafeFuncRec) {g : Nat} (hg : g < 32) :
    (fnState d g ≠ 0 → fnState (tpLock d r) g ≠ 0) ∧ (TpLocked g d → TpLocked g (tpLock d r)) := by
  by_cases hstate : fnState d r.func = 0
  · rw [tpLock, if_pos hstate]
    exact ⟨id, id⟩
  · by_cases hne : r.func = g
    · subst hne
      have hlocked := tpLock_locks hg hstate
      exact ⟨fun _ => by rw [hlocked.1]; decide, fun _ => hlocked⟩
    · obtain ⟨hsame, hcause⟩ := enterFn_func_ne d r fnLOCKED 7 hg hne
      rw [tpLock, if_neg hstate, TpLocked, TpLocked, hsame, hcause]
      exact ⟨id, id⟩

/-- Every evaluated function of a list that is locked out is in LOCKED with cause 7. -/
theorem tpLocks_lock (l : List SafeFuncRec) {r : SafeFuncRec} (hr : r.func < 32) (d : Dev) :
    (TpLocked r.func d → TpLocked r.func (l.foldl tpLock d)) ∧
    (r ∈ l → fnState d r.func ≠ 0 → TpLocked r.func (l.foldl tpLock d)) := by
  induction l generalizing d with
  | nil => exact ⟨id, fun h => absurd h (by simp)⟩
  | cons x l ih =>
    obtain ⟨hkept, hlocked⟩ := tpLock_func d x hr
    refine ⟨fun h => (ih _).1 (hlocked h), fun hmem hstate => ?_⟩
    rcases List.mem_cons.mp hmem with rfl | hmem
    · exact (ih _).1 (tpLock_locks hr hstate)
    · exact (ih _).2 hmem (hkept hstate)

theorem tpLocks_mor (l : List SafeFuncRec) (d : Dev) : (l.foldl tpLock d).mor = d.mor := by
  refine foldl_keeps Dev.mor l tpLock (fun e r => ?_) d
  unfold tpLock
  split
  · rfl
  · exact (enterFn_keeps e r fnLOCKED 7).1

theorem exec_readbackFault {s : State} {src : Nat} (hsrc : src < 4) : ∃ t, exec (.tpulseReadbackFault src) s = .next t ∧ t.nv = s.nv ∧
    t.d.mor.raised.map (·.src) = s.d.mor.raised.map (·.src) ++ [Src.SAFE_TP_FAULT] ∧
    ∀ g ∈ (img s.d).safeFuncs, g.func < 32 → fnState s.d g.func ≠ 0 →
      (∃ r ∈ (img s.d).safeIns, r.tp = src ∧ r.input ∈ fnIns g) →
      fnState t.d g.func = fnLOCKED ∧ rd t.d (Reg.SAFE_FUNC_CAUSE g.func) = 7 := by
  have hmod : src % 4 = src := Nat.mod_eq_of_lt hsrc
  refine ⟨s.withDev (tpulseFault s.d (src % 4)), rfl, rfl, ?_, fun g hg hfunc hstate ⟨r, hr, htp, hin⟩ => ?_⟩
  · have hmor : (tpulseFault s.d (src % 4)).mor = (raise s.d Src.SAFE_TP_FAULT 0 0 (src % 4) 0).mor := tpLocks_mor _ _
    show (tpulseFault s.d (src % 4)).mor.raised.map _ = _
    rw [hmor]
    exact List.map_append
  · refine (tpLocks_lock _ hfunc _).2 (List.mem_filter.mpr ⟨hg, List.any_eq_true.mpr ⟨r.input, hin, ?_⟩⟩) hstate
    exact List.contains_iff_mem.mpr (List.mem_map.mpr ⟨r, List.mem_filter.mpr ⟨hr, by rw [htp, hmod]; exact beq_self_eq_true src⟩, rfl⟩)

/-! ### Reset presses -/

section
variable {s : State} {i us gap subt : Nat} (hin : (img s.d).safeIns.any (fun r => r.input == i && r.typ == 3) = true)
theorem resetAction_short (hgap : gap < 100000) : exec (.safeResetAction i us gap subt) s = .next s :=
  next_withDev (if_pos (.inr hgap))

include hin

section
variable (hgap : 100000 ≤ gap)
include hgap

/-- A press of 0.1 s to 2.5 s waits for the verdict. -/
theorem resetAction_good (hmin : 100000 ≤ us) (hmax : us ≤ 2500000) : resetAction s.d i us gap subt =
    if (img s.d).creset = i then
      confirmStep { s.d with safe := { s.d.safe with resets := s.d.safe.resets ++ [(i, us)] } } us (tickNs s.d + subt) true
    else { s.d with safe := { s.d.safe with resets := s.d.safe.resets ++ [(i, us)] } } := by
  have hgood : decide (100000 ≤ us ∧ us ≤ 2500000) = true := decide_eq_true ⟨hmin, hmax⟩
  unfold resetAction
  rw [if_neg (by rw [hin]; simp; omega)]
  dsimp only
  rw [hgood]
  rfl

/-- Any other is rejected. -/
theorem resetAction_bad (hlength : us < 100000 ∨ 2500000 < us) (hother : (img s.d).creset ≠ i) :
    resetAction s.d i us gap subt = resetReject s.d i us := by
  have hgood : decide (100000 ≤ us ∧ us ≤ 2500000) = false := decide_eq_false (by omega)
  have himg : (img (resetReject s.d i us)).creset ≠ i := by
    rw [img, (resetReject_others 32 s.d i us).firn]
    exact hother
  unfold resetAction
  rw [if_neg (by rw [hin]; simp; omega)]
  dsimp only
  rw [hgood]
  exact if_neg himg

end
end

/-- A rejected press shows in its bit and its count, and changes nothing of the SAFE block beside. -/
theorem resetReject_shows (d : Dev) (input us : Nat) : (resetReject d input us).safe = d.safe ∧
    rdB (resetReject d input us) Reg.SAFE_STAT_RESET_REJ = true ∧
    rd (resetReject d input us) Reg.SAFE_CNT_RESET_REJ = satAdd 16 (rd d Reg.SAFE_CNT_RESET_REJ) 1 := by
  have hcounted : (incSat (wrB d Reg.SAFE_STAT_RESET_REJ true) Reg.SAFE_CNT_RESET_REJ 1).safe = d.safe ∧
      rdB (incSat (wrB d Reg.SAFE_STAT_RESET_REJ true) Reg.SAFE_CNT_RESET_REJ 1) Reg.SAFE_STAT_RESET_REJ = true ∧
      rd (incSat (wrB d Reg.SAFE_STAT_RESET_REJ true) Reg.SAFE_CNT_RESET_REJ 1) Reg.SAFE_CNT_RESET_REJ =
        satAdd 16 (rd d Reg.SAFE_CNT_RESET_REJ) 1 := by
    refine ⟨rfl, ?_, ?_⟩
    · exact (rdB_wr_ne _ Reg.SAFE_CNT_RESET_REJ _ _ (by decide)).trans (rdB_wrB_same d Reg.SAFE_STAT_RESET_REJ true (by decide))
    · rw [incSat, rd_wr_same, rd_wrB_ne _ _ _ _ (by decide)]
      exact Nat.mod_eq_of_lt (satAdd_lt _ _ _)
  unfold resetReject
  dsimp only
  split
  · exact hcounted
  · exact hcounted

/-! ### Confirming by the commissioning input -/

/-- Starting the functions writes their registers and acts on their zones; of the SAFE block it changes the outputs alone. -/
theorem startFns_keeps (d : Dev) : RegsWithin (fun k => actKey k ∨ 0x100D0100 * 32 ≤ k) d (startFns d) ∧
    { (startFns d).safe with out := [] } = { d.safe with out := [] } := by
  unfold startFns
  split
  · exact ⟨.refl _ _, rfl⟩
  · refine ⟨.foldl _ _ (fun e r _ => ?_) d, ?_⟩
    · have hkind : 0x100D0100 * 32 ≤ (Reg.SAFE_FUNC_KIND r.func).key ∧ 0x100D0100 * 32 ≤ (Reg.SAFE_FUNC_STATE r.func).key := by
        simp only [Fld.key, Reg.SAFE_FUNC_KIND, Reg.SAFE_FUNC_STATE]
        omega
      exact (((RegsWithin.refl _ e).wr r.kind (Or.inr hkind.1)).wr fnDEMAND (Or.inr hkind.2)).trans
        ((zoneActions_acted _ r).regs.mono fun _ => Or.inl)
    · refine foldl_keeps (fun e => { e.safe with out := [] }) _ _ (fun e r => ?_) d
      have hsafe := (zoneActions_acted (wr (wr e (Reg.SAFE_FUNC_KIND r.func) r.kind) (Reg.SAFE_FUNC_STATE r.func) fnDEMAND) r).safe
      dsimp only
      rw [hsafe]
      rfl

/-- A confirmation completes: the pair is recorded, and a record is due. -/
theorem confirmDone_confirms {d : Dev} (hconf : rd d Reg.SAFE_STAT_CONF = 1) : rd (confirmDone d) Reg.SAFE_STAT_CONF = 2 ∧
    (confirmDone d).safe.recDue = true ∧ (confirmDone d).safe.step1 = none ∧
    (confirmDone d).safe.conf = some (rd d Reg.FIRN_SAFE_CRC_CHECK, sectDigest (img d)) := by
  unfold confirmDone
  rw [if_neg (by omega)]
  lift_lets
  extract_lets now d1 d2 d3 pair _ d4
  obtain ⟨hregs, hsafe⟩ := startFns_keeps d4
  have hconfirmed : rd d4 Reg.SAFE_STAT_CONF = 2 :=
    (rd_wr_ne d2 Reg.SAFE_CONF_TIME_HI_NS _ _ (by decide)).trans ((rd_wr_ne d1 Reg.SAFE_CONF_TIME_LO_NS _ _ (by decide)).trans
      (rd_wr_same _ Reg.SAFE_STAT_CONF 2))
  have hcheck : rd d3 Reg.FIRN_SAFE_CRC_CHECK = rd d Reg.FIRN_SAFE_CRC_CHECK :=
    (rd_wr_ne d2 Reg.SAFE_CONF_TIME_HI_NS _ _ (by decide)).trans ((rd_wr_ne d1 Reg.SAFE_CONF_TIME_LO_NS _ _ (by decide)).trans
      (rd_wr_ne _ Reg.SAFE_STAT_CONF _ _ (by decide)))
  have hpair : pair = (rd d Reg.FIRN_SAFE_CRC_CHECK, sectDigest (img d)) := Prod.ext hcheck rfl
  have hparts : d4.safe.recDue = true ∧ d4.safe.step1 = none ∧ d4.safe.conf = some pair := ⟨rfl, rfl, rfl⟩
  obtain ⟨hdue, hstep, hpaired⟩ := hparts
  clear_value d4
  refine ⟨(hregs _ ?_).trans hconfirmed, (congrArg SafeSt.recDue hsafe).trans hdue, (congrArg SafeSt.step1 hsafe).trans hstep,
    (congrArg SafeSt.conf hsafe).trans (hpaired.trans (congrArg some hpair))⟩
  rintro (h | h)
  · revert h
    unfold actKey
    decide
  · revert h
    decide

section
variable {d : Dev} {us t : Nat} (hconf : rd d Reg.SAFE_STAT_CONF = 1) (hhere : confirmsElsewhere d = false)
  (hafter : d.safe.armT + us * 1000 ≤ t) (hbefore : t ≤ d.safe.armT + 30000000000)
include hconf hhere hafter hbefore

/-- The first press in time is kept. -/
theorem confirmStep_first (hstep : d.safe.step1 = none) :
    confirmStep d us t true = { d with safe := { d.safe with step1 := some t } } := by
  have htime : decide (d.safe.armT ≤ t - us * 1000 ∧ t ≤ d.safe.armT + 30000000000) = true := decide_eq_true ⟨by omega, hbefore⟩
  unfold confirmStep
  rw [if_neg (by rw [hconf, hhere]; decide)]
  dsimp only
  rw [htime, hstep]
  rfl

/-- The second confirms where it begins 1 s to 5 s after the first. -/
theorem confirmStep_second {u : Nat} (hstep : d.safe.step1 = some u) (hactive : isActive d = false)
    (hmin : u + 1000000000 + us * 1000 ≤ t) (hmax : t ≤ u + 5000000000 + us * 1000) : confirmStep d us t true = confirmDone d := by
  have htime : decide (d.safe.armT ≤ t - us * 1000 ∧ t ≤ d.safe.armT + 30000000000) = true := decide_eq_true ⟨by omega, hbefore⟩
  unfold confirmStep
  rw [if_neg (by rw [hconf, hhere]; decide)]
  dsimp only
  rw [htime, hstep]
  dsimp only
  rw [if_neg (by decide), if_pos (by omega), if_neg (by rw [hactive]; decide)]

end

/-! ### The statement -/

theorem exec_safeDiscrepancy {s : State} {f : SafeFuncRec} (kind : Nat) (hrec : fnRec s.d f.func = some f) :
    exec (.safeDiscrepancy f.func kind) s =
      .next (s.withDev (if discStands s.d f kind then fnFault s.d f (if kind = 4 then 6 else 2) else s.d)) := by
  show execSafeDiscrepancy f.func kind s = _
  unfold execSafeDiscrepancy
  rw [hrec]

/-- Settles O45: what a safe input's level, its source's pulses, a discrepancy and a reset press do. -/
theorem safeInputs : Obligations.SafeInputs := by
  unfold Obligations.SafeInputs
  intro s i src high low us gap subt level f
  refine ⟨fun hi => ?_, fun honly => ⟨exec_offPulse_short honly, exec_offPulse_stuck honly, exec_offPulse_follows honly⟩,
    fun kind hrec hf hstate => ⟨fun hstands => ?_, fun hno => ?_⟩, exec_readbackFault, fun hin =>
    ⟨resetAction_short, fun hgap hmin hmax hother => ?_, fun hgap hlength hother => ?_,
      fun hgap hmin hmax hown hconf hhere hafter hbefore => ⟨fun hstep => ?_, fun u hstep hactive hfrom hto => ?_⟩⟩⟩
  · have hmod : i % 24 = i := Nat.mod_eq_of_lt hi
    refine ⟨_, rfl, rfl, ?_, fun j hj => ?_⟩
    · exact (congrArg (fun n => bit (setBit s.d.safe.filt n level) i) hmod).trans (bit_setBit _ _ _)
    · exact (congrArg (fun n => bit (setBit s.d.safe.filt n level) j) hmod).trans (bit_setBit_ne _ _ hj)
  · have hcause : (if kind = 4 then 6 else 2) < 16 := by split <;> decide
    obtain ⟨hlocked, hwhy, hev, hraised, -⟩ := fnFault_locks hf hstate hcause
    exact ⟨s.withDev (fnFault s.d f (if kind = 4 then 6 else 2)), (exec_safeDiscrepancy kind hrec).trans (by rw [if_pos hstands]), rfl, hlocked, hwhy, hev, hraised⟩
  · rw [exec_safeDiscrepancy kind hrec, hno]
    rfl
  · exact next_withDev ((resetAction_good hin hgap hmin hmax).trans (if_neg hother))
  · obtain ⟨hsafe, hrej, hcount⟩ := resetReject_shows s.d i us
    exact ⟨_, next_withDev (resetAction_bad hin hgap hlength hother), rfl, hsafe, hrej, hcount⟩
  · have hdev := (resetAction_good (subt := subt) hin hgap hmin hmax).trans (if_pos hown)
    exact ⟨_, next_withDev (hdev.trans (confirmStep_first hconf hhere hafter hbefore hstep)), rfl, rfl⟩
  · have hdev := (resetAction_good (subt := subt) hin hgap hmin hmax).trans (if_pos hown)
    obtain ⟨hconfirmed, hdue, hdone, hpair⟩ := confirmDone_confirms
      (d := { s.d with safe := { s.d.safe with resets := s.d.safe.resets ++ [(i, us)] } }) hconf
    exact ⟨_, next_withDev (hdev.trans (confirmStep_second hconf hhere hafter hbefore hstep hactive hfrom hto)), rfl, hconfirmed,
      hdue, hdone, hpair⟩

end Sys2Proof.Machine
end

section
/-!
PROOFS. Tests of safe outputs and brakes, lock-outs, and guard unlocking (R412 to R416).
-/
namespace Sys2Proof.Machine

/-! ### Tests of outputs -/

/-- A test falls due where the output is on, none is tested and `TEST_S` has passed. -/
theorem outTest_due {d : Dev} {n : Nat} {o : SafeOutRec} (hn : n < 8)
    (hrec : (img d).safeOuts.find? (fun o => o.out == n) = some o) (hon : (sout d n).on = true)
    (hidle : ∀ m, m < 8 → (sout d m).test = 0) (hdue : (sout d n).onK + 20000 * o.testS ≤ d.k) :
    outTest d n = wrFBit (setSout d n (fun x => { x with test := x.next })) Reg.SAFE_OUT_READBACK n false := by
  have hall : (List.range 8).all (fun m => (sout d m).test == 0) = true :=
    List.all_eq_true.mpr fun m hm => beq_iff_eq.mpr (hidle m (List.mem_range.mp hm))
  unfold outTest
  rw [hrec]
  exact if_pos (by rw [hon, hidle n hn, hall, decide_eq_true hdue]; rfl)

/-- An output whose lock-out is ordered. -/
theorem outLock_shows (d : Dev) {n : Nat} (why : Nat) (hn : n < 8) : rdFBit (outLock d n why) Reg.SAFE_OUT_LOCKOUT n = true ∧
    rdFBit (outLock d n why) Reg.SAFE_OUT_DEMAND n = false ∧ (sout (outLock d n why) n).on = false ∧
    (sout (outLock d n why) n).want = false ∧ rdB (outLock d n why) Reg.SAFE_STAT_OUT_FAULT_EV = true ∧
    (outLock d n why).mor.raised.map (·.src) = d.mor.raised.map (·.src) ++ [Src.SAFE_OUT_FAULT] ∧
    rd (outLock d n why) Reg.SAFE_TEST_CNT_FAILED = rd d Reg.SAFE_TEST_CNT_FAILED := by
  obtain ⟨hon, hwant, -⟩ := sout_outOff d n
  have hacted := outOff_acted d n
  have hdemand : rdFBit (outOff d n) Reg.SAFE_OUT_DEMAND n = false := by
    have hkept (e : Dev) : rdFBit (wrFBit e Reg.SAFE_OUT_READBACK n false) Reg.SAFE_OUT_DEMAND n = rdFBit e Reg.SAFE_OUT_DEMAND n :=
      congrArg (bit · n) (rd_wr_ne e Reg.SAFE_OUT_READBACK Reg.SAFE_OUT_DEMAND _ (by decide))
    exact (hkept _).trans (rdFBit_wrFBit_same _ Reg.SAFE_OUT_DEMAND n false hn)
  have hfailed : rd (outOff d n) Reg.SAFE_TEST_CNT_FAILED = rd d Reg.SAFE_TEST_CNT_FAILED := hacted.regs _ (by unfold actKey; decide)
  have hraised : (outOff d n).mor.raised.map (·.src) = d.mor.raised.map (·.src) := by rw [hacted.mor]
  unfold outLock
  generalize outOff d n = e at *
  refine ⟨?_, ?_, hon, hwant, rdB_wrB_same _ Reg.SAFE_STAT_OUT_FAULT_EV true (by decide), ?_, ?_⟩
  · exact (congrArg (bit · n) (rd_wrB_ne _ Reg.SAFE_STAT_OUT_FAULT_EV Reg.SAFE_OUT_LOCKOUT true (by decide))).trans
      (rdFBit_wrFBit_same e Reg.SAFE_OUT_LOCKOUT n true hn)
  · exact (congrArg (bit · n) ((rd_wrB_ne _ Reg.SAFE_STAT_OUT_FAULT_EV Reg.SAFE_OUT_DEMAND true (by decide)).trans
      (rd_wr_ne e Reg.SAFE_OUT_LOCKOUT _ _ (by decide)))).trans hdemand
  · exact List.map_append.trans (congrArg (· ++ _) hraised)
  · exact ((rd_wrB_ne _ Reg.SAFE_STAT_OUT_FAULT_EV Reg.SAFE_TEST_CNT_FAILED true (by decide)).trans
      (rd_wr_ne e Reg.SAFE_OUT_LOCKOUT _ _ (by decide))).trans hfailed

section
variable {s : State} {n : Nat} (hn : n < 8)
include hn

theorem exec_safeOutputTest {o : SafeOutRec} (hrec : (img s.d).safeOuts.find? (fun o => o.out == n) = some o)
    (hon : (sout s.d n).on = true) (hidle : ∀ m, m < 8 → (sout s.d m).test = 0)
    (hdue : (sout s.d n).onK + 20000 * o.testS ≤ s.d.k) : ∃ t, exec (.safeOutputTest n) s = .next t ∧ t.nv = s.nv ∧
    (sout t.d n).test = (sout s.d n).next ∧ (sout t.d n).on = true ∧ rdFBit t.d Reg.SAFE_OUT_READBACK n = false ∧
    rd t.d Reg.SAFE_OUT_DEMAND = rd s.d Reg.SAFE_OUT_DEMAND ∧ ∀ m, m ≠ n → sout t.d m = sout s.d m := by
  have hown := sout_setSout_same s.d n (fun x => { x with test := x.next })
  refine ⟨_, next_withDev (outTest_due hn hrec hon hidle hdue), rfl, congrArg SafeOut.test hown,
    (congrArg SafeOut.on hown).trans hon, rdFBit_wrFBit_same _ Reg.SAFE_OUT_READBACK n false hn, ?_,
    fun m hm => sout_setSout_ne s.d _ hm⟩
  exact rd_wr_ne _ Reg.SAFE_OUT_READBACK _ _ (by decide)

theorem exec_outputTestEnd_off (htest : (sout s.d n).test = 1 ∨ (sout s.d n).test = 2) :
    ∃ t, exec (.safeOutputTestEnd n true) s = .next t ∧ t.nv = s.nv ∧ (sout t.d n).test = 0 ∧
      (sout t.d n).next = 3 - (sout s.d n).test ∧ rdFBit t.d Reg.SAFE_OUT_READBACK n = true ∧ t.d.mor = s.d.mor ∧
      rd t.d Reg.SAFE_TEST_CNT_FAILED = rd s.d Reg.SAFE_TEST_CNT_FAILED := by
  have hdev : outTestEnd s.d n true = wrFBit (setSout s.d n (fun x =>
      { x with test := 0, onK := s.d.k, next := 3 - (sout s.d n).test })) Reg.SAFE_OUT_READBACK n true := by
    unfold outTestEnd
    dsimp only
    rw [if_neg (by omega), if_neg (by omega)]
    rfl
  have hown := sout_setSout_same s.d n (fun x => { x with test := 0, onK := s.d.k, next := 3 - (sout s.d n).test })
  refine ⟨_, next_withDev hdev, rfl, congrArg SafeOut.test hown, congrArg SafeOut.next hown,
    rdFBit_wrFBit_same _ Reg.SAFE_OUT_READBACK n true hn, rfl, ?_⟩
  exact rd_wr_ne _ Reg.SAFE_OUT_READBACK _ _ (by decide)

theorem exec_outputTestEnd_on (htest : (sout s.d n).test = 1 ∨ (sout s.d n).test = 2) :
    ∃ t, exec (.safeOutputTestEnd n false) s = .next t ∧ t.nv = s.nv ∧ rdFBit t.d Reg.SAFE_OUT_LOCKOUT n = true ∧
      (sout t.d n).on = false ∧ (sout t.d n).want = false ∧
      rd t.d Reg.SAFE_TEST_CNT_FAILED = satAdd 16 (rd s.d Reg.SAFE_TEST_CNT_FAILED) 1 ∧
      t.d.mor.raised.map (·.src) = s.d.mor.raised.map (·.src) ++ [Src.SAFE_OUT_FAULT] := by
  have hdev : outTestEnd s.d n false = outLock (incSat (setSout s.d n (fun x =>
      { x with test := 0, next := 3 - (sout s.d n).test })) Reg.SAFE_TEST_CNT_FAILED 1) n 3 := by
    unfold outTestEnd
    dsimp only
    rw [if_neg (by omega), if_neg (by omega)]
    rfl
  have hcount : rd (incSat (setSout s.d n (fun x => { x with test := 0, next := 3 - (sout s.d n).test })) Reg.SAFE_TEST_CNT_FAILED 1)
      Reg.SAFE_TEST_CNT_FAILED = satAdd 16 (rd s.d Reg.SAFE_TEST_CNT_FAILED) 1 :=
    (rd_wr_same _ _ _).trans (Nat.mod_eq_of_lt (satAdd_lt _ _ _))
  have hmor : (incSat (setSout s.d n (fun x => { x with test := 0, next := 3 - (sout s.d n).test }))
      Reg.SAFE_TEST_CNT_FAILED 1).mor = s.d.mor := rfl
  generalize incSat (setSout s.d n (fun x => { x with test := 0, next := 3 - (sout s.d n).test })) Reg.SAFE_TEST_CNT_FAILED 1 = e at *
  obtain ⟨hlock, -, hon, hwant, -, hraised, hfailed⟩ := outLock_shows e 3 hn
  exact ⟨_, next_withDev hdev, rfl, hlock, hon, hwant, hfailed.trans hcount, hraised.trans (by rw [hmor])⟩

theorem exec_safeReadbackFault (sw : Nat) (hfree : rdFBit s.d Reg.SAFE_OUT_LOCKOUT n = false) :
    ∃ t, exec (.safeReadbackFault n sw) s = .next t ∧ t.nv = s.nv ∧ rdFBit t.d Reg.SAFE_OUT_LOCKOUT n = true ∧
      rdFBit t.d Reg.SAFE_OUT_DEMAND n = false ∧ (sout t.d n).on = false ∧ rdB t.d Reg.SAFE_STAT_OUT_FAULT_EV = true := by
  have hmod : n % 8 = n := Nat.mod_eq_of_lt hn
  have hdev : (if rdFBit s.d Reg.SAFE_OUT_LOCKOUT (n % 8) then s.d else outLock s.d (n % 8) (2 - sw % 2)) =
      outLock s.d n (2 - sw % 2) := by rw [hmod, if_neg (by rw [hfree]; decide)]
  obtain ⟨hlock, hdemand, hon, -, hev, -, -⟩ := outLock_shows s.d (2 - sw % 2) hn
  exact ⟨_, next_withDev hdev, rfl, hlock, hdemand, hon, hev⟩

end

/-! ### Brakes -/

/-- Dropping a brake writes its shown state and the driven bit. -/
theorem driveBrake_off (d : Dev) (n : Nat) : RegsWithin (fun k => k = (Reg.SAFE_BRAKE_STATE n).key) d (driveBrake d n false) ∧
    brakeOn (driveBrake d n false) n = false ∧ (driveBrake d n false).mor = d.mor := by
  have hbit : bit (setBit d.safe.brake n false) n = false := bit_setBit _ _ _
  unfold driveBrake
  simp only [Bool.false_and, Bool.and_false]
  generalize he : setAxis { d with safe := { d.safe with brake := setBit d.safe.brake n false } } n
    (fun a => { a with ice := false }) = e
  have hregs : RegsWithin (fun k => k = (Reg.SAFE_BRAKE_STATE n).key) d e := .of_regs (by rw [← he]; rfl)
  have hbrake : brakeOn e n = false := by
    rw [← he]
    exact hbit
  have hmor : e.mor = d.mor := by rw [← he]; rfl
  split
  · exact ⟨hregs, hbrake, hmor⟩
  · exact ⟨hregs.wr _ rfl, hbrake, hmor⟩

/-- An axis with its lock-out and the cause shown. -/
def lockShown (d : Dev) (n cause : Nat) : Dev := wr (wrB d (Reg.SAFE_BRAKE_LOCKOUT n) true) (Reg.SAFE_BRAKE_CAUSE n) cause

theorem lockShown_shows (d : Dev) (n : Nat) {cause : Nat} (hcause : cause < 8) :
    rdB (lockShown d n cause) (Reg.SAFE_BRAKE_LOCKOUT n) = true ∧ rd (lockShown d n cause) (Reg.SAFE_BRAKE_CAUSE n) = cause ∧
    rd (lockShown d n cause) (Reg.SAFE_BRAKE_RESULT n) = rd d (Reg.SAFE_BRAKE_RESULT n) := by
  refine ⟨?_, (rd_wr_same _ _ _).trans (Nat.mod_eq_of_lt hcause), ?_⟩
  · exact (rdB_wr_ne _ (Reg.SAFE_BRAKE_CAUSE n) _ _ (by simp [Fld.key, Reg.SAFE_BRAKE_CAUSE, Reg.SAFE_BRAKE_LOCKOUT])).trans
      (rdB_wrB_same d (Reg.SAFE_BRAKE_LOCKOUT n) true (by simp [Reg.SAFE_BRAKE_LOCKOUT]))
  · refine (rd_wr_ne _ (Reg.SAFE_BRAKE_CAUSE n) _ _ ?_).trans (rd_wrB_ne d (Reg.SAFE_BRAKE_LOCKOUT n) _ true ?_)
    · simp [Fld.key, Reg.SAFE_BRAKE_CAUSE, Reg.SAFE_BRAKE_RESULT]
    · simp [Fld.key, Reg.SAFE_BRAKE_LOCKOUT, Reg.SAFE_BRAKE_RESULT]

/-- The axis of a lock-out with its brake off, before it is cleared. -/
def lockDropped (d : Dev) (n cause : Nat) : Dev :=
  driveBrake (wrB (wr (lockShown d n cause) (Reg.SAFE_BRAKE_STATE n) 0) Reg.SAFE_STAT_BRAKE_FAIL_EV true) n false

/-- A cleared axis in LOCKED, its due test gone. -/
def lockSettled (d : Dev) (n : Nat) : Dev :=
  setAxState { setAxis d n axisClear with safe := { d.safe with brakeDue := SMap.del d.safe.brakeDue n } } n axLOCKED

theorem axisLock_eq (d : Dev) (n cause : Nat) : axisLock d n cause =
    raise (lockSettled (lockDropped d n cause) n) Src.SAFE_BRAKE_FAIL 0 0 n cause := rfl

/-- The registers that a lock-out writes beside the lock-out's own. -/
def lockKey (n k : Nat) : Prop :=
  k = (Reg.SAFE_BRAKE_STATE n).key ∨ k = Reg.SAFE_STAT_BRAKE_FAIL_EV.key ∨ k = (Reg.AXIS_STAT_STATE n).key

theorem lockDropped_within (d : Dev) (n cause : Nat) : RegsWithin (lockKey n) (lockShown d n cause) (lockDropped d n cause) :=
  (((RegsWithin.refl (lockKey n) _).wr (f := Reg.SAFE_BRAKE_STATE n) 0 (Or.inl rfl)).wrB (f := Reg.SAFE_STAT_BRAKE_FAIL_EV) true
    (Or.inr (Or.inl rfl))).trans ((driveBrake_off _ n).1.mono fun _ => Or.inl)

theorem lockSettled_within (d : Dev) (n : Nat) : RegsWithin (lockKey n) d (lockSettled d n) :=
  (RegsWithin.of_regs rfl : RegsWithin (lockKey n) d
    { setAxis d n axisClear with safe := { d.safe with brakeDue := SMap.del d.safe.brakeDue n } }).wr _ (Or.inr (Or.inr rfl))

/-- An axis that is locked out. -/
theorem axisLock_shows (d : Dev) {n cause : Nat} (hn : n < 8) (hcause : cause < 8) : axState (axisLock d n cause) n = axLOCKED ∧
    brakeOn (axisLock d n cause) n = false ∧ rdB (axisLock d n cause) (Reg.SAFE_BRAKE_LOCKOUT n) = true ∧
    rd (axisLock d n cause) (Reg.SAFE_BRAKE_CAUSE n) = cause ∧
    rd (axisLock d n cause) (Reg.SAFE_BRAKE_RESULT n) = rd d (Reg.SAFE_BRAKE_RESULT n) ∧
    (axisLock d n cause).mor.raised.map (·.src) = d.mor.raised.map (·.src) ++ [Src.SAFE_BRAKE_FAIL] := by
  obtain ⟨hlockout, hcaused, hresult⟩ := lockShown_shows d n hcause
  have hdropped := lockDropped_within d n cause
  obtain ⟨-, hbrake, hmor⟩ := driveBrake_off (wrB (wr (lockShown d n cause) (Reg.SAFE_BRAKE_STATE n) 0) Reg.SAFE_STAT_BRAKE_FAIL_EV true) n
  have hmor' : (lockDropped d n cause).mor = d.mor := hmor
  rw [axisLock_eq]
  change brakeOn (lockDropped d n cause) n = false at hbrake
  generalize lockShown d n cause = shown at *
  generalize lockDropped d n cause = e at *
  have hregs := hdropped.trans (lockSettled_within e n)
  have hstate : axState (lockSettled e n) n = axLOCKED := rd_wr_same _ (Reg.AXIS_STAT_STATE n) axLOCKED
  have hparts : brakeOn (lockSettled e n) n = brakeOn e n ∧ (lockSettled e n).mor = e.mor := ⟨rfl, rfl⟩
  obtain ⟨hbrake', hmorSettled⟩ := hparts
  generalize lockSettled e n = g at *
  have hkey (lo : Nat) (hlo : lo < 32 ∧ lo ≠ 0) : ¬ lockKey n ((0x100D0200 + 4 * n) * 32 + lo) := by
    simp only [lockKey, Fld.key, Reg.SAFE_BRAKE_STATE, Reg.SAFE_STAT_BRAKE_FAIL_EV, Reg.AXIS_STAT_STATE]
    omega
  refine ⟨hstate, hbrake'.trans hbrake, ?_, ?_, ?_, ?_⟩
  · exact (hregs.rdB (f := Reg.SAFE_BRAKE_LOCKOUT n) (hkey 4 (by decide))).trans hlockout
  · exact (hregs (Reg.SAFE_BRAKE_CAUSE n) (hkey 5 (by decide))).trans hcaused
  · exact (hregs (Reg.SAFE_BRAKE_RESULT n) (hkey 2 (by decide))).trans hresult
  · show (g.mor.raised ++ _).map _ = _
    rw [hmorSettled, hmor', List.map_append]
    rfl

section
variable {s : State} {n : Nat} {b : BrakeRec} (hn : n < 8)

section
variable (hrec : brakeRec s.d n = some b)
include hrec

theorem exec_brakeTestDue_falls (hfree : rdB s.d (Reg.SAFE_BRAKE_LOCKOUT n) = false) (hnone : SMap.get 0 s.d.safe.brakeDue n = 0)
    (hdue : SMap.get 0 s.d.safe.brakePass n + 72000000 * b.testH ≤ s.d.k) : exec (.brakeTestDue n) s = .next (s.withDev
      { s.d with safe := { s.d.safe with brakeDue := SMap.set 0 s.d.safe.brakeDue n (s.d.k + 1) } }) := by
  show execBrakeTestDue n s = _
  unfold execBrakeTestDue brakeTestDue
  rw [hrec]
  dsimp only
  rw [if_pos hdue, hfree, hnone]
  rfl

theorem exec_brakeTestDue_early (hearly : s.d.k < SMap.get 0 s.d.safe.brakePass n + 72000000 * b.testH) :
    exec (.brakeTestDue n) s = .next s := by
  show execBrakeTestDue n s = _
  unfold execBrakeTestDue
  rw [hrec]
  dsimp only
  rw [if_neg (by omega)]

include hn

theorem exec_brakeFeedbackFault (hfree : rdB s.d (Reg.SAFE_BRAKE_LOCKOUT n) = false) :
    ∃ t, exec (.brakeFeedbackFault n) s = .next t ∧ t.nv = s.nv ∧ axState t.d n = axLOCKED ∧ brakeOn t.d n = false ∧
      rdB t.d (Reg.SAFE_BRAKE_LOCKOUT n) = true ∧ rd t.d (Reg.SAFE_BRAKE_CAUSE n) = 1 ∧
      t.d.mor.raised.map (·.src) = s.d.mor.raised.map (·.src) ++ [Src.SAFE_BRAKE_FAIL] := by
  have hdev : (if (brakeRec s.d n).isNone || rdB s.d (Reg.SAFE_BRAKE_LOCKOUT n) then s.d else axisLock s.d n 1) = axisLock s.d n 1 :=
    if_neg (by rw [hrec, hfree]; simp)
  obtain ⟨hstate, hbrake, hlock, hcause, -, hraised⟩ := axisLock_shows s.d (cause := 1) hn (by decide)
  exact ⟨_, next_withDev hdev, rfl, hstate, hbrake, hlock, hcause, hraised⟩

section
variable (htest : axState s.d n = axTEST)
include htest

/-- A test ends as failed where the axis has moved by the limit. -/
theorem exec_brakeTestEnd_moved
    (hmoved : b.moveLim * 256 ≤ ((axis s.d n).pos - (SMap.find s.d.safe.brakePos n).getD 0).natAbs) :
    ∃ t, exec (.brakeTestEnd n) s = .next t ∧ t.nv = s.nv ∧ axState t.d n = axLOCKED ∧ rd t.d (Reg.SAFE_BRAKE_RESULT n) = 2 ∧
      rd t.d (Reg.SAFE_BRAKE_CAUSE n) = 2 ∧ rdB t.d (Reg.SAFE_BRAKE_LOCKOUT n) = true := by
  have hdev : brakeTestEnd s.d n =
      axisLock (incSat (wr s.d (Reg.SAFE_BRAKE_RESULT n) 2) Reg.SAFE_TEST_CNT_FAILED 1) n 2 := by
    unfold brakeTestEnd
    rw [if_neg (by rw [htest]; decide), hrec]
    exact if_pos hmoved
  have hresult : rd (incSat (wr s.d (Reg.SAFE_BRAKE_RESULT n) 2) Reg.SAFE_TEST_CNT_FAILED 1) (Reg.SAFE_BRAKE_RESULT n) = 2 :=
    (rd_wr_ne _ Reg.SAFE_TEST_CNT_FAILED _ _ (by simp only [Fld.key, Reg.SAFE_BRAKE_RESULT, Reg.SAFE_TEST_CNT_FAILED]; omega)).trans
      (rd_wr_same _ _ _)
  obtain ⟨hstate, -, hlock, hcause, hkept, -⟩ := axisLock_shows
    (incSat (wr s.d (Reg.SAFE_BRAKE_RESULT n) 2) Reg.SAFE_TEST_CNT_FAILED 1) (cause := 2) hn (by decide)
  exact ⟨_, next_withDev hdev, rfl, hstate, hkept.trans hresult, hcause, hlock⟩

variable (hstill : ((axis s.d n).pos - (SMap.find s.d.safe.brakePos n).getD 0).natAbs < b.moveLim * 256)
include hstill

omit hn in
/-- A test passes after a second without. -/
theorem exec_brakeTestEnd_passes (hover : SMap.get 0 s.d.safe.brakeT n + 20000 ≤ s.d.k) :
    ∃ t, exec (.brakeTestEnd n) s = .next t ∧ t.nv = s.nv ∧
      axState t.d n = axOFF ∧ rd t.d (Reg.SAFE_BRAKE_RESULT n) = 1 ∧ rd t.d (Reg.SAFE_BRAKE_STATE n) = 0 ∧
      SMap.get 0 t.d.safe.brakeDue n = 0 ∧ SMap.get 0 t.d.safe.brakePass n = s.d.k ∧ t.d.axis = s.d.axis := by
  have hdev : brakeTestEnd s.d n = setAxState { wr (wr (wr s.d (Reg.SAFE_BRAKE_RESULT n) 1) (Reg.SAFE_BRAKE_STATE n) 0)
      (Reg.SAFE_BRAKE_HOURS n) 0 with safe := { s.d.safe with
        brakeDue := SMap.del s.d.safe.brakeDue n, brakePass := SMap.set 0 s.d.safe.brakePass n s.d.k } } n axOFF := by
    unfold brakeTestEnd
    rw [if_neg (by rw [htest]; decide), hrec]
    exact (if_neg (Nat.not_le.mpr hstill)).trans (if_pos hover)
  have hhours (f : Fld) (hf : f.key = (Reg.SAFE_BRAKE_RESULT n).key ∨ f.key = (Reg.SAFE_BRAKE_STATE n).key) (e : Dev) (m : SafeSt) :
      rd (setAxState { wr e (Reg.SAFE_BRAKE_HOURS n) 0 with safe := m } n axOFF) f = rd e f := by
    refine (rd_wr_ne { wr e (Reg.SAFE_BRAKE_HOURS n) 0 with safe := m } (Reg.AXIS_STAT_STATE n) f _ ?_).trans
      (rd_wr_ne e (Reg.SAFE_BRAKE_HOURS n) f 0 ?_)
    all_goals simp only [Fld.key, Reg.SAFE_BRAKE_RESULT, Reg.SAFE_BRAKE_STATE, Reg.AXIS_STAT_STATE, Reg.SAFE_BRAKE_HOURS] at *
    all_goals omega
  refine ⟨_, next_withDev hdev, rfl, rd_wr_same _ (Reg.AXIS_STAT_STATE n) axOFF, ?_, ?_, ?_, SMap.get_set_same 0 s.d.safe.brakePass n s.d.k, rfl⟩
  · refine (hhours (Reg.SAFE_BRAKE_RESULT n) (.inl rfl) _ _).trans ((rd_wr_ne _ (Reg.SAFE_BRAKE_STATE n) _ _ ?_).trans (rd_wr_same _ _ _))
    simp [Fld.key, Reg.SAFE_BRAKE_RESULT, Reg.SAFE_BRAKE_STATE]
  · exact (hhours (Reg.SAFE_BRAKE_STATE n) (.inr rfl) _ _).trans (rd_wr_same _ _ _)
  · exact congrArg (fun x => Option.getD x 0) (SMap.find_del_same s.d.safe.brakeDue n)

omit hn in
theorem exec_brakeTestEnd_runs (hearly : s.d.k < SMap.get 0 s.d.safe.brakeT n + 20000) : exec (.brakeTestEnd n) s = .next s := by
  refine next_withDev (e := s.d) ?_
  unfold brakeTestEnd
  rw [if_neg (by rw [htest]; decide), hrec]
  exact (if_neg (Nat.not_le.mpr hstill)).trans (if_neg (by omega))

end
end

theorem exec_brakeTestOverdue (hn : n < 8) (hdue : 0 < SMap.get 0 s.d.safe.brakeDue n)
    (hover : SMap.get 0 s.d.safe.brakeDue n - 1 + 72000000 ≤ s.d.k) : ∃ t, exec (.brakeTestOverdue n) s = .next t ∧ t.nv = s.nv ∧
    axState t.d n = axLOCKED ∧ brakeOn t.d n = false ∧ rdB t.d (Reg.SAFE_BRAKE_LOCKOUT n) = true ∧
    rd t.d (Reg.SAFE_BRAKE_CAUSE n) = 3 := by
  obtain ⟨hstate, hbrake, hlock, hcause, -, -⟩ := axisLock_shows s.d (cause := 3) hn (by decide)
  exact ⟨_, next_withDev (if_pos ⟨by omega, hover⟩), rfl, hstate, hbrake, hlock, hcause⟩

end

/-! ### `SAFE_CTRL` -/

set_option maxRecDepth 4000 in
theorem regFind_safeCtrl : regFind 0x100D0008 = some (⟨0x100D0008, [], .device,
    [⟨fun _ _ _ => Reg.SAFE_CTRL_BRAKE_GO, .wo, none⟩,
     ⟨fun _ _ _ => Reg.SAFE_CTRL_AXIS, .rw, none⟩,
     ⟨fun _ _ _ => Reg.SAFE_CTRL_UNLOCK_GO, .wo, none⟩,
     ⟨fun _ _ _ => Reg.SAFE_CTRL_RELOCK, .wo, none⟩,
     ⟨fun _ _ _ => Reg.SAFE_CTRL_FUNC, .rw, none⟩]⟩, []) := rfl

/-- A write of `SAFE_CTRL` sets its axis and function, and no other register. -/
theorem writeFields_safeCtrl (d : Dev) (req : Requester) (w : Nat) : ∃ m, writeFields d req 0x100D0008 w = okResp { d with regs := m } ∧
    RegsWithin (fun k => k / 32 = 0x100D0008) d (okResp { d with regs := m }) ∧
    rd (okResp { d with regs := m }) Reg.SAFE_CTRL_AXIS = bits w 1 3 := by
  obtain ⟨m, hm, hkeep⟩ := writeFields_takes (d := d) req w regFind_safeCtrl rfl rfl rfl
  have hwithin := hkeep (fun k => k / 32 = 0x100D0008) (by decide)
  refine ⟨m, hm, by rw [← hm]; exact hwithin, ?_⟩
  rw [← hm, writeFields_row req w regFind_safeCtrl rfl rfl rfl]
  simp only [List.foldl_cons, List.foldl_nil, fldWrite, fldOpen, FldRow.at, Bool.false_eq_true, if_false, if_true]
  rw [rd_okResp, rd_wr_ne _ Reg.SAFE_CTRL_FUNC _ _ (by decide), rd_wr_same]
  exact Nat.mod_eq_of_lt (Nat.mod_lt _ (by decide))

/-- A relock of an unlocked door takes its lock output's demand away. -/
theorem relock_closes {d : Dev} {f : Nat} {r : SafeFuncRec} (hopen : f ∈ d.safe.unlocked) (hrec : fnRec d f = some r) :
    f ∉ (relock d f).safe.unlocked ∧ (sout (relock d f) r.lockOut).want = false ∧ (sout (relock d f) r.lockOut).on = false := by
  unfold relock
  rw [if_pos (List.contains_iff_mem.mpr hopen)]
  extract_lets _ e
  have hrec' : fnRec e f = some r := hrec
  have hgone : f ∉ e.safe.unlocked := mem_filter_ne _ f
  rw [hrec']
  obtain ⟨hon, hwant, -⟩ := sout_outOff e r.lockOut
  refine ⟨?_, hwant, hon⟩
  rw [(outOff_acted e r.lockOut).safe]
  exact hgone

/-- The commands of a write of `SAFE_CTRL` whose fields are set. -/
def safeCommands (d : Dev) (req : Requester) (w : Nat) : Dev :=
  let d := if bit w 0 then brakeTestDue d (bits w 1 3) else d
  let d := if bit w 8 then unlockReq d req (bits w 10 5) else d
  if bit w 9 then relock d (bits w 10 5) else d

section
variable {s : State} {req : Requester} {w : Nat} (hserved : s.served req 0x100D0008) (hlocal : forwards s.d req = false)
include hserved hlocal

/-- A write that does not travel sets its fields and runs its commands. -/
theorem safeCtrl_acts : ∃ m, RegsWithin (fun k => k / 32 = 0x100D0008) s.d (okResp { s.d with regs := m }) ∧
    rd (okResp { s.d with regs := m }) Reg.SAFE_CTRL_AXIS = bits w 1 3 ∧
    safeCtrl s.d req w = safeCommands (okResp { s.d with regs := m }) req w := by
  obtain ⟨m, hm, hwithin, haxis⟩ := writeFields_safeCtrl s.d req w
  refine ⟨m, hwithin, haxis, ?_⟩
  unfold safeCtrl
  rw [regAccess_served w _ hserved]
  unfold safeStage
  rw [if_neg (by rw [hlocal]; simp)]
  exact congrArg (safeCommands · req w) hm

theorem exec_brakeGo {n : Nat} {b : BrakeRec} (haxis : bits w 1 3 = n) (hunlock : bit w 8 = false) (hrelock : bit w 9 = false)
    (hrec : brakeRec s.d n = some b) (hfree : rdB s.d (Reg.SAFE_BRAKE_LOCKOUT n) = false)
    (hnone : SMap.get 0 s.d.safe.brakeDue n = 0) : ∃ t, exec (.brakeGo req w) s = .next t ∧ t.nv = s.nv ∧
    SMap.get 0 t.d.safe.brakeDue n = s.d.k + 1 ∧ t.d.resp.err = 0 ∧ rd t.d Reg.SAFE_CTRL_AXIS = n := by
  obtain ⟨m, hwithin, hshown, hacts⟩ := safeCtrl_acts (w := setBit w 0 true) hserved hlocal
  rw [safeCommands, bit_setBit, bit_setBit_ne w true (by decide : (8 : Nat) ≠ 0), bit_setBit_ne w true (by decide : (9 : Nat) ≠ 0),
    bits_setBit_outside w true (.inl (by decide) : 0 < 1 ∨ 1 + 3 ≤ 0), hunlock, hrelock, haxis] at hacts
  rw [bits_setBit_outside w true (.inl (by decide) : 0 < 1 ∨ 1 + 3 ≤ 0), haxis] at hshown
  have hlock : rdB (okResp { s.d with regs := m }) (Reg.SAFE_BRAKE_LOCKOUT n) = false := by
    rw [hwithin.rdB (by simp only [Fld.key, Reg.SAFE_BRAKE_LOCKOUT]; omega)]
    exact hfree
  have hrec' : brakeRec (okResp { s.d with regs := m }) n = some b := hrec
  have hdue : brakeTestDue (okResp { s.d with regs := m }) n = { okResp { s.d with regs := m } with
      safe := { s.d.safe with brakeDue := SMap.set 0 s.d.safe.brakeDue n (s.d.k + 1) } } := by
    unfold brakeTestDue
    rw [hrec', hlock]
    exact if_neg (by simpa using hnone)
  have hdev : safeCtrl s.d req (setBit w 0 true) = { okResp { s.d with regs := m } with
      safe := { s.d.safe with brakeDue := SMap.set 0 s.d.safe.brakeDue n (s.d.k + 1) } } := hacts.trans hdue
  exact ⟨_, next_withDev hdev, rfl, SMap.get_set_same 0 s.d.safe.brakeDue n (s.d.k + 1), rfl, hshown⟩

theorem exec_unlockGo {f : SafeFuncRec} (hbrake : bit w 0 = false) (hrelock : bit w 9 = false)
    (hrec : fnRec s.d (bits w 10 5) = some f) (hkind : f.kind = 2) (hlocked : f.lockOut ≠ 0xFF) (hconf : confirmed s.d = true)
    (hruns : evalRuns s.d = true) : ∃ t, exec (.unlockGo req w) s = .next t ∧ t.nv = s.nv ∧
    t.d.safe = { s.d.safe with unlockReq := some (bits w 10 5, req) } ∧ t.d.resp.err = 0 := by
  obtain ⟨m, hwithin, -, hacts⟩ := safeCtrl_acts (w := setBit w 8 true) hserved hlocal
  rw [safeCommands, bit_setBit, bit_setBit_ne w true (by decide : (0 : Nat) ≠ 8), bit_setBit_ne w true (by decide : (9 : Nat) ≠ 8),
    bits_setBit_outside w true (.inl (by decide) : 8 < 10 ∨ 10 + 5 ≤ 8), hbrake, hrelock] at hacts
  have hconf' : confirmed (okResp { s.d with regs := m }) = true :=
    (congrArg (· == 2) (hwithin Reg.SAFE_STAT_CONF (by decide))).trans hconf
  have hruns' : evalRuns (okResp { s.d with regs := m }) = true := by
    rw [← hruns]
    simp only [evalRuns, inBoot, isCalved, triCfg, hwithin Reg.SYS_PROPS_TRIAD (by decide),
      hwithin.rdB (f := Reg.SYS_PROPS_BOOT) (by decide)]
    rfl
  have hrec' : fnRec (okResp { s.d with regs := m }) (bits w 10 5) = some f := hrec
  have hasked : unlockReq (okResp { s.d with regs := m }) req (bits w 10 5) =
      { okResp { s.d with regs := m } with safe := { s.d.safe with unlockReq := some (bits w 10 5, req) } } := by
    unfold unlockReq
    rw [hrec']
    dsimp only
    rw [hkind, hconf', hruns', bne_iff_ne.mpr hlocked]
    rfl
  have hdev : safeCtrl s.d req (setBit w 8 true) = { okResp { s.d with regs := m } with
      safe := { s.d.safe with unlockReq := some (bits w 10 5, req) } } := hacts.trans hasked
  exact ⟨_, next_withDev hdev, rfl, rfl, rfl⟩

theorem exec_relock {f : SafeFuncRec} (hbrake : bit w 0 = false) (hunlock : bit w 8 = false)
    (hopen : bits w 10 5 ∈ s.d.safe.unlocked) (hrec : fnRec s.d (bits w 10 5) = some f) :
    ∃ t, exec (.relock req w) s = .next t ∧ t.nv = s.nv ∧ bits w 10 5 ∉ t.d.safe.unlocked ∧
    (sout t.d f.lockOut).want = false ∧ (sout t.d f.lockOut).on = false := by
  obtain ⟨m, -, -, hacts⟩ := safeCtrl_acts (w := setBit w 9 true) hserved hlocal
  rw [safeCommands, bit_setBit, bit_setBit_ne w true (by decide : (0 : Nat) ≠ 9), bit_setBit_ne w true (by decide : (8 : Nat) ≠ 9),
    bits_setBit_outside w true (.inl (by decide) : 9 < 10 ∨ 10 + 5 ≤ 9), hbrake, hunlock] at hacts
  obtain ⟨hgone, hwant, hon⟩ := relock_closes (d := okResp { s.d with regs := m }) hopen hrec
  exact ⟨_, next_withDev hacts, rfl, hgone, hwant, hon⟩

end

/-- Settles O47: what a test of an output or of a brake ends in, what locks them out, and how a guard is unlocked. -/
theorem safeOutputsAndBrakes : Obligations.SafeOutputsAndBrakes := by
  unfold Obligations.SafeOutputsAndBrakes
  intro s req w n sw o b f hn
  exact ⟨exec_safeOutputTest hn, fun htest => ⟨exec_outputTestEnd_off hn htest, exec_outputTestEnd_on hn htest⟩,
    exec_safeReadbackFault hn sw,
    fun hrec hfree => ⟨exec_brakeTestDue_falls hrec hfree, exec_brakeTestDue_early hrec, exec_brakeFeedbackFault hn hrec hfree,
      exec_brakeTestEnd_moved hn hrec,
      fun htest hstill => ⟨exec_brakeTestEnd_passes hrec htest hstill, exec_brakeTestEnd_runs hrec htest hstill⟩⟩,
    exec_brakeTestOverdue hn,
    fun hserved hlocal => ⟨exec_brakeGo hserved hlocal, exec_unlockGo hserved hlocal,
      fun hbrake hunlock hopen hrec _ => exec_relock hserved hlocal hbrake hunlock hopen hrec⟩⟩

end Sys2Proof.Machine
end

section
/-!
PROOFS. Express acknowledgements and repeats, and the control register of a Floe port (R75, R87, R90, R91, R98).
-/
namespace Sys2Proof.Machine

/-! ### Ports -/

theorem port_setPort_same (d : Dev) (p : Nat) (f : FloePort → FloePort) : port (setPort d p f) p = f (port d p) :=
  SMap.get_mod_same _ _ _ _

theorem port_setPort_ne (d : Dev) {p q : Nat} (f : FloePort → FloePort) (h : q ≠ p) : port (setPort d p f) q = port d q :=
  SMap.get_mod_ne _ _ _ h

/-- The registers that a change of a port's state writes. -/
def pstKey (p k : Nat) : Prop :=
  k = (Reg.FLOE_STAT_STATE p).key ∨ k = (Reg.FLOE_LOST_SUM_PORTS (p / 32)).key ∨ k = (Reg.FLOE_PARK_SUM_PORTS (p / 32)).key ∨
  k = (Reg.FLOE_CHSTAT_USABLE p).key

theorem setPst_within (d : Dev) (p s : Nat) : RegsWithin (pstKey p) d (setPst d p s) :=
  (((((RegsWithin.refl (pstKey p) d).wr (f := Reg.FLOE_STAT_STATE p) s (Or.inl rfl)).wr (f := Reg.FLOE_LOST_SUM_PORTS (p / 32)) _
    (Or.inr (Or.inl rfl))).wr (f := Reg.FLOE_PARK_SUM_PORTS (p / 32)) _ (Or.inr (Or.inr (Or.inl rfl)))).wr
    (f := Reg.FLOE_CHSTAT_USABLE p) _ (Or.inr (Or.inr (Or.inr rfl))))

/-- A port is in the state it is moved to. -/
theorem pst_setPst (d : Dev) {p s : Nat} (hp : p < 128) (hs : s < 16) : pst (setPst d p s) p = s := by
  have hafter (f : Fld) (hf : f = Reg.FLOE_LOST_SUM_PORTS (p / 32) ∨ f = Reg.FLOE_PARK_SUM_PORTS (p / 32) ∨
      f = Reg.FLOE_CHSTAT_USABLE p) : (Reg.FLOE_STAT_STATE p).key ≠ f.key := by
    rcases hf with rfl | rfl | rfl
    all_goals simp only [Fld.key, Reg.FLOE_STAT_STATE, Reg.FLOE_LOST_SUM_PORTS, Reg.FLOE_PARK_SUM_PORTS, Reg.FLOE_CHSTAT_USABLE]
    all_goals omega
  have hmoved : pst (wr d (Reg.FLOE_STAT_STATE p) s) p = s := (rd_wr_same _ _ _).trans (Nat.mod_eq_of_lt hs)
  refine Eq.trans ?_ hmoved
  exact (rd_wr_ne _ (Reg.FLOE_CHSTAT_USABLE p) _ _ (hafter _ (.inr (.inr rfl)))).trans
    ((rd_wr_ne _ (Reg.FLOE_PARK_SUM_PORTS (p / 32)) _ _ (hafter _ (.inr (.inl rfl)))).trans
      (rd_wr_ne _ (Reg.FLOE_LOST_SUM_PORTS (p / 32)) _ _ (hafter _ (.inl rfl))))

/-! ### Express frames -/

/-- The upper half of a register that a write puts there. -/
theorem high_of_wrPart (d : Dev) {f : Fld} (v : Nat) (hwd : f.wd = 32) :
    rd (wrPart d f 16 16 v) f / 2 ^ 16 % 2 ^ 16 = v % 2 ^ 16 := by
  rw [wrPart, rd_wr_same, hwd, bits]
  omega

section
variable {s : State} {p : Nat} {f : List Byte}

theorem exec_expressAckRx (hstate : pst s.d p ≠ psDisabled) (hlen : f.length = 12) (hcrc : crc32c (f.take 8) = beAt f 8 4)
    (htype : byteAt f 0 = 0x20) (heid : beAt f 2 2 = (port s.d p).expId) : ∃ t, exec (.expressAckRx p f 0) s = .next t ∧
    (port t.d p).expOpen = none ∧ (port t.d p).expLatched = beAt f 4 4 ∧
    rd t.d (Reg.FLOE_EXP_ID p) / 2 ^ 16 % 2 ^ 16 = beAt f 2 2 % 2 ^ 16 ∧ t.nv = s.nv := by
  have hgate : frameGate s.d p f 8 0 = (true, s.d) := by
    unfold frameGate
    dsimp only
    rw [if_pos rfl, if_neg (by decide), if_neg (by omega), hcrc, beq_self_eq_true]
  generalize hrecorded : wrPart s.d (Reg.FLOE_EXP_ID p) 16 16 (beAt f 2 2) = e
  have hport : port e p = port s.d p := by rw [← hrecorded]; rfl
  have hhigh : rd e (Reg.FLOE_EXP_ID p) / 2 ^ 16 % 2 ^ 16 = beAt f 2 2 % 2 ^ 16 := by
    rw [← hrecorded]
    exact high_of_wrPart _ _ rfl
  have hdev : expressAckRx s.d p f 0 = setPort (setPort e p (fun q => { q with expLatched := beAt f 4 4 })) p
      (fun q => { q with expOpen := none, expTries := 0 }) := by
    unfold expressAckRx
    rw [if_neg hstate, hgate]
    dsimp only
    rw [if_neg (by simp [htype]), hrecorded]
    refine if_pos ?_
    rw [port_setPort_same, hport]
    exact heid
  have hopen := port_setPort_same (setPort e p (fun q => { q with expLatched := beAt f 4 4 })) p
    (fun q => { q with expOpen := none, expTries := 0 })
  refine ⟨_, next_withDev hdev, congrArg FloePort.expOpen hopen, (congrArg FloePort.expLatched hopen).trans ?_, hhigh, rfl⟩
  exact congrArg FloePort.expLatched (port_setPort_same e p _)

theorem exec_expressResend {fr : List Byte} (hopen : (port s.d p).expOpen = some fr)
    (hresend : rdB s.d (Reg.FLOE_CTRL_EXP_RESEND p) = true) (htries : (port s.d p).expTries = 1) (hmay : mayTalk s.d p = true)
    (hsafe : inSafe s.d = false) : exec (.expressResend p) s =
      .next (s.withDev (setPort s.d p (fun q => { q with txExp := fr, expTries := 2 }))) := by
  refine next_withDev ?_
  unfold expressResend
  rw [hopen]
  exact if_pos ⟨hresend, htries, hmay, hsafe⟩

theorem exec_expNoack {fr : List Byte} (hopen : (port s.d p).expOpen = some fr)
    (hlast : (port s.d p).expTries = 2 ∨ rdB s.d (Reg.FLOE_CTRL_EXP_RESEND p) = false) :
    ∃ t, exec (.expNoack p) s = .next t ∧ (port t.d p).expOpen = none ∧ rd t.d (Reg.FLOE_STAT_EXP_NOACK p) = 1 ∧
      ∃ e, t.d.mor.raised = s.d.mor.raised ++ [e] ∧ e.src = Src.FLOE_EXP_NOACK ∧ e.ui = p := by
  have hclosed := port_setPort_same s.d p (fun q => { q with expOpen := none, expTries := 0 })
  have hdev : expNoack s.d p = raise (wrB (setPort s.d p (fun q => { q with expOpen := none, expTries := 0 }))
      (Reg.FLOE_STAT_EXP_NOACK p) true) Src.FLOE_EXP_NOACK 3 p (floeStat (wrB (setPort s.d p
        (fun q => { q with expOpen := none, expTries := 0 })) (Reg.FLOE_STAT_EXP_NOACK p) true) p) (port s.d p).expId := by
    unfold expNoack
    exact if_pos ⟨by rw [hopen]; rfl, hlast⟩
  have hmor : (setPort s.d p (fun q => { q with expOpen := none, expTries := 0 })).mor = s.d.mor := rfl
  generalize setPort s.d p (fun q => { q with expOpen := none, expTries := 0 }) = e at hclosed hdev hmor
  refine ⟨_, next_withDev hdev, congrArg FloePort.expOpen hclosed, rd_wr_same e (Reg.FLOE_STAT_EXP_NOACK p) 1, _,
    congrArg (fun m => m.raised ++ _) hmor, rfl, rfl⟩

end

/-! ### The control register of a port -/

theorem regFind_floeCtrl {p : Nat} (hp : p < 128) : regFind (0x10050000 + 0x100 * p) = some (⟨0x10050000, [(128, 0x100)], .port,
    [⟨fun n _ _ => Reg.FLOE_CTRL_ENABLE n, .ro, none⟩,
     ⟨fun n _ _ => Reg.FLOE_CTRL_RESTART n, .wo, none⟩,
     ⟨fun n _ _ => Reg.FLOE_CTRL_TX_INV n, .rwl, none⟩,
     ⟨fun n _ _ => Reg.FLOE_CTRL_RX_INV n, .rwl, none⟩,
     ⟨fun n _ _ => Reg.FLOE_CTRL_EXP_RESEND n, .rws, none⟩,
     ⟨fun n _ _ => Reg.FLOE_CTRL_CNT_CLR n, .wo, none⟩]⟩, [p]) := by
  revert p
  show HoldsBelow _ _
  iterate 128 refine .succ ?_ rfl
  exact .zero

/-- A write of a register of the table writes its fields and the log of refused accesses, and no image. -/
theorem writeFields_within (d : Dev) (req : Requester) {addr : Nat} (w : Nat) {row : RegRow} {l : List Nat}
    (hrow : regFind addr = some (row, l)) {R : Nat → Prop} (hR : ∀ f ∈ row.flds, R (f.at l).key) :
    RegsWithin (fun k => R k ∨ 0x10110000 * 32 ≤ k) d (writeFields d req addr w) ∧
    (writeFields d req addr w).firn = d.firn := by
  have hrefuse (e : Dev) : RegsWithin (fun k => R k ∨ 0x10110000 * 32 ≤ k) e (refuseW e req addr) ∧ (refuseW e req addr).firn = e.firn :=
    ⟨(errResp_logged e req addr errRefused true).2.mono fun _ => Or.inr, rfl⟩
  obtain ⟨m, hm⟩ := foldl_fldWrite row.flds d row l addr w
  have hset : RegsWithin (fun k => R k ∨ 0x10110000 * 32 ≤ k) d { d with regs := m } := by
    rw [← hm]
    exact foldl_fldWrite_within d row l addr w row.flds fun f hf => Or.inl (hR f hf)
  unfold writeFields
  rw [hrow]
  dsimp only
  split
  · exact hrefuse d
  · rw [hm]
    split
    · exact ⟨hset.trans (hrefuse _).1, (hrefuse _).2⟩
    · exact ⟨hset.regs rfl, rfl⟩

section
variable {s : State} {req : Requester} {p w : Nat} {b : BrickRec} (hp : p < 128) (hserved : s.served req (0x10050000 + 0x100 * p))

/-- A write of `FLOE_CTRL` changes neither the port's state nor a zone's mode nor an image. -/
theorem floeCtrl_keeps (hp : p < 128) (d : Dev) (req : Requester) (w : Nat) :
    (∀ f : Fld, f.key < 0x10110000 * 32 → f.key / 32 ≠ 0x10050000 + 0x100 * p →
      rd (writeFields d req (0x10050000 + 0x100 * p) w) f = rd d f) ∧
    (writeFields d req (0x10050000 + 0x100 * p) w).firn = d.firn := by
  obtain ⟨hregs, hfirn⟩ := writeFields_within d req w (regFind_floeCtrl hp) (R := fun k => k / 32 = 0x10050000 + 0x100 * p) (by
    intro f hf
    simp only [List.mem_cons, List.mem_nil_iff, or_false] at hf
    rcases hf with rfl | rfl | rfl | rfl | rfl | rfl
    all_goals simp only [FldRow.at, List.getD_cons_zero, Fld.key, Reg.FLOE_CTRL_ENABLE, Reg.FLOE_CTRL_RESTART, Reg.FLOE_CTRL_TX_INV,
      Reg.FLOE_CTRL_RX_INV, Reg.FLOE_CTRL_EXP_RESEND, Reg.FLOE_CTRL_CNT_CLR]
    all_goals omega)
  exact ⟨fun f hlow hword => hregs f fun h => h.elim hword fun h => absurd h (by omega), hfirn⟩

include hserved

theorem floeCtrlWrite_served (w : Nat) : floeCtrlWrite s.d req p w =
    floeRestart (floeCntClr (writeFields s.d req (0x10050000 + 0x100 * p) w) p w) req p w := by
  unfold floeCtrlWrite
  rw [regAccess_served w _ hserved]

include hp

theorem exec_restart (hbrick : (img s.d).brickAt p = some b) (hrestart : bit w 1 = true) (hclr : bit w 5 = false) :
    exec (.restart req p w) s = .next (s.withDev
      (if isMaint (zmode s.d b.zone) then
        if pst s.d p = psDisabled then writeFields s.d req (0x10050000 + 0x100 * p) w
        else enterAlign (writeFields s.d req (0x10050000 + 0x100 * p) w) p
      else refuseW (writeFields s.d req (0x10050000 + 0x100 * p) w) req (0x10050000 + 0x100 * p))) := by
  refine next_withDev ?_
  rw [setBit_of_bit hrestart, floeCtrlWrite_served hserved]
  obtain ⟨hregs, hfirn⟩ := floeCtrl_keeps hp s.d req w
  generalize writeFields s.d req (0x10050000 + 0x100 * p) w = e at *
  have hclear : floeCntClr e p w = e := if_neg (by rw [hclr]; decide)
  have hzone : portZone e p = some b.zone := by rw [portZone, img, hfirn]; exact congrArg (Option.map BrickRec.zone) hbrick
  have hmode : zmode e b.zone = zmode s.d b.zone := hregs _ (by simp only [Fld.key, Reg.SYS_ZMODE]; split <;> omega)
    (by simp only [Fld.key, Reg.SYS_ZMODE]; split <;> omega)
  have hstate : pst e p = pst s.d p := hregs _ (by simp only [Fld.key, Reg.FLOE_STAT_STATE]; omega)
    (by simp only [Fld.key, Reg.FLOE_STAT_STATE]; omega)
  rw [hclear, floeRestart, if_pos hrestart, hzone]
  dsimp only
  rw [hmode, hstate]

theorem exec_floeCntClr (hrestart : bit w 1 = false) (hclr : bit w 5 = true) :
    ∃ t, exec (.floeCntClr req p w) s = .next t ∧ rd t.d (Reg.FLOE_ERR_CODE_CNT p) = 0 ∧
      rd t.d (Reg.FLOE_ERR_FRAME_CNT p) = 0 ∧ rd t.d (Reg.FLOE_MISS_CNT p) = 0 ∧ pst t.d p = pst s.d p := by
  obtain ⟨hregs, -⟩ := floeCtrl_keeps hp s.d req w
  have hdev : floeCtrlWrite s.d req p (setBit w 5 true) = wr (wr (wr (writeFields s.d req (0x10050000 + 0x100 * p) w)
      (Reg.FLOE_ERR_CODE_CNT p) 0) (Reg.FLOE_ERR_FRAME_CNT p) 0) (Reg.FLOE_MISS_CNT p) 0 := by
    rw [setBit_of_bit hclr, floeCtrlWrite_served hserved, floeRestart, if_neg (by rw [hrestart]; decide), floeCntClr, if_pos hclr]
  have hstate := hregs (Reg.FLOE_STAT_STATE p) (by simp only [Fld.key, Reg.FLOE_STAT_STATE]; omega)
    (by simp only [Fld.key, Reg.FLOE_STAT_STATE]; omega)
  generalize writeFields s.d req (0x10050000 + 0x100 * p) w = e at *
  have hkeys : (Reg.FLOE_ERR_CODE_CNT p).key ≠ (Reg.FLOE_ERR_FRAME_CNT p).key ∧ (Reg.FLOE_ERR_CODE_CNT p).key ≠ (Reg.FLOE_MISS_CNT p).key ∧
      (Reg.FLOE_ERR_FRAME_CNT p).key ≠ (Reg.FLOE_MISS_CNT p).key ∧ (Reg.FLOE_STAT_STATE p).key ≠ (Reg.FLOE_ERR_CODE_CNT p).key ∧
      (Reg.FLOE_STAT_STATE p).key ≠ (Reg.FLOE_ERR_FRAME_CNT p).key ∧ (Reg.FLOE_STAT_STATE p).key ≠ (Reg.FLOE_MISS_CNT p).key := by
    simp only [Fld.key, Reg.FLOE_ERR_CODE_CNT, Reg.FLOE_ERR_FRAME_CNT, Reg.FLOE_MISS_CNT, Reg.FLOE_STAT_STATE]
    omega
  obtain ⟨h1, h2, h3, h4, h5, h6⟩ := hkeys
  refine ⟨_, next_withDev hdev, ?_, ?_, rd_wr_same _ (Reg.FLOE_MISS_CNT p) 0, ?_⟩
  · exact (rd_wr_ne _ (Reg.FLOE_MISS_CNT p) _ _ h2).trans ((rd_wr_ne _ (Reg.FLOE_ERR_FRAME_CNT p) _ _ h1).trans (rd_wr_same e _ 0))
  · exact (rd_wr_ne _ (Reg.FLOE_MISS_CNT p) _ _ h3).trans (rd_wr_same _ (Reg.FLOE_ERR_FRAME_CNT p) 0)
  · exact (rd_wr_ne _ (Reg.FLOE_MISS_CNT p) _ _ h6).trans ((rd_wr_ne _ (Reg.FLOE_ERR_FRAME_CNT p) _ _ h5).trans
      ((rd_wr_ne e (Reg.FLOE_ERR_CODE_CNT p) _ _ h4).trans hstate))

end

/-- Settles O20: what ends and repeats an express frame, and what the control register of a port restarts and clears. -/
theorem floeControl : Obligations.FloeControl := by
  unfold Obligations.FloeControl
  refine ⟨fun s p f fr _ => ⟨exec_expressAckRx, exec_expressResend, exec_expNoack⟩,
    fun s req p w d b hp hserved hbrick => ⟨fun hrestart hclr hd => ?_, exec_floeCntClr hp hserved⟩⟩
  have hexec := exec_restart hp hserved hbrick hrestart hclr
  rw [← hd] at hexec
  refine ⟨fun hmaint hstate => ⟨_, hexec.trans (by rw [if_pos hmaint, if_neg hstate]), rfl, pst_setPst _ hp (by decide)⟩, fun hmaint => ?_⟩
  rw [hexec, if_neg (by rw [hmaint]; decide)]

end Sys2Proof.Machine
end

section
/-!
PROOFS. What feeding samples leaves alone, and the reception of blocks and superframes (R16, R78, R82, R97, R101).
-/
namespace Sys2Proof.Machine

/-! ### Feeding samples -/

/-- The registers that feeding samples writes: counters of the measurement chain, and an engine's. -/
def feedKey (k : Nat) : Prop := 0x20000 ≤ k / 32 % 0x40000

/-- What feeding samples leaves alone: the registers of the ports, the fences in force, the images, the clock, and what the
superframes of the tick are judged by. -/
structure Fed (d e : Dev) : Prop where
  regs : RegsWithin feedKey d e
  held : e.mor.fenceHeld = d.mor.fenceHeld
  firn : e.firn = d.firn
  sfOk : ∀ p, (port e p).sfOk = (port d p).sfOk
  miss : ∀ p, (port e p).miss = (port d p).miss
  winTick : e.winTick = d.winTick

theorem Fed.refl (d : Dev) : Fed d d := ⟨.refl _ _, rfl, rfl, fun _ => rfl, fun _ => rfl, rfl⟩

theorem Fed.trans {d e g : Dev} (h : Fed d e) (h' : Fed e g) : Fed d g :=
  ⟨h.regs.trans h'.regs, h'.held.trans h.held, h'.firn.trans h.firn, fun p => (h'.sfOk p).trans (h.sfOk p),
    fun p => (h'.miss p).trans (h.miss p), h'.winTick.trans h.winTick⟩

theorem Fed.wr {d e : Dev} (h : Fed d e) {f : Fld} (v : Nat) (hf : feedKey f.key) : Fed d (wr e f v) :=
  ⟨h.regs.wr v hf, h.held, h.firn, h.sfOk, h.miss, h.winTick⟩

theorem Fed.setEng {d e : Dev} (h : Fed d e) (n : Nat) (f : Eng → Eng) : Fed d (setEng e n f) :=
  ⟨h.regs.regs rfl, h.held, h.firn, h.sfOk, h.miss, h.winTick⟩

theorem Fed.setStrm {d e : Dev} (h : Fed d e) (c : Nat) (cur : Bool) (x : Strm) : Fed d (setStrm e c cur x) :=
  ⟨h.regs.regs rfl, h.held, h.firn, h.sfOk, h.miss, h.winTick⟩

theorem Fed.raise {d e : Dev} (h : Fed d e) (src ut ui d0 d1 : Nat) : Fed d (raise e src ut ui d0 d1) :=
  ⟨h.regs.raise _ _ _ _ _, h.held, h.firn, h.sfOk, h.miss, h.winTick⟩

/-- A change of a port that keeps what its superframe is judged by. -/
theorem Fed.setPort {d e : Dev} (h : Fed d e) (p : Nat) (f : FloePort → FloePort) (hok : (f (port e p)).sfOk = (port e p).sfOk)
    (hmiss : (f (port e p)).miss = (port e p).miss) : Fed d (setPort e p f) := by
  refine h.trans ⟨.of_regs rfl, rfl, rfl, fun q => ?_, fun q => ?_, rfl⟩
  all_goals by_cases hq : q = p
  · rw [hq, port_setPort_same, hok]
  · rw [port_setPort_ne e f hq]
  · rw [hq, port_setPort_same, hmiss]
  · rw [port_setPort_ne e f hq]

theorem Fed.ite {d e g : Dev} {p : Prop} [Decidable p] (h : Fed d e) (h' : Fed d g) : Fed d (if p then e else g) := by
  split
  · exact h
  · exact h'

theorem Fed.foldl {α : Type} (l : List α) (step : Dev → α → Dev) (hstep : ∀ e x, Fed e (step e x)) (d : Dev) :
    Fed d (l.foldl step d) := by
  induction l generalizing d with
  | nil => exact .refl d
  | cons x l ih => exact (hstep d x).trans (ih _)

/-- What feeding samples leaves of a port's registers. -/
theorem Fed.pst {d e : Dev} (h : Fed d e) {p : Nat} (hp : p < 128) : pst e p = pst d p := by
  refine h.regs (Reg.FLOE_STAT_STATE p) ?_
  simp only [feedKey, Fld.key, Reg.FLOE_STAT_STATE]
  omega

theorem Fed.inService {d e : Dev} (h : Fed d e) {p : Nat} (hp : p < 128) : inService e p = inService d p := by
  simp only [Machine.inService, h.pst hp, h.held]

theorem lostSample_fed (d : Dev) (e src ui d0 d1 : Nat) :
    Fed d (raise (incSat (engEv d e Reg.CHAN_ENG_STAT_SMP_OVR) (Reg.CHAN_ENG_SMP_OVR_CNT_CNT e) 1) src 5 ui d0 d1) := by
  refine Fed.raise (Fed.wr (Fed.wr (Fed.wr (Fed.refl d) _ ?_) _ ?_) _ ?_) _ _ _ _ _
  · simp only [feedKey, Fld.key, Reg.CHAN_ENG_STAT_SMP_OVR]; omega
  · simp only [feedKey, Fld.key, Reg.CHAN_ENG_SUM_ENG]; omega
  · simp only [feedKey, Fld.key, Reg.CHAN_ENG_SMP_OVR_CNT_CNT]; omega

theorem ringWrite_fed (d : Dev) (c : Nat) (cur : Bool) (lo n : Nat) (v : Int) :
    Fed d (ringWrite d c cur lo n v) ∧ (ringWrite d c cur lo n v).floe = d.floe := by
  unfold ringWrite
  split
  · exact ⟨.refl d, rfl⟩
  · dsimp only
    split
    · exact ⟨((lostSample_fed d _ _ _ _ _).setStrm _ _ _).setEng _ _, rfl⟩
    · exact ⟨(Fed.refl d).setEng _ _, rfl⟩

theorem feedStrm_fed (d : Dev) (c : Nat) (cur : Bool) (lo n : Nat) (word : Option Nat) :
    Fed d (feedStrm d c cur lo n word) ∧ (feedStrm d c cur lo n word).floe = d.floe := by
  unfold feedStrm
  extract_lets s s' r swap
  split
  rename_i x y clip _
  dsimp only
  have hclip : Fed d (if clip then incSat d Reg.MEAS_CLIP_CNT_CNT 1 else d) ∧
      (if clip then incSat d Reg.MEAS_CLIP_CNT_CNT 1 else d).floe = d.floe := by
    split
    · exact ⟨(Fed.refl d).wr (f := Reg.MEAS_CLIP_CNT_CNT) _ (by unfold feedKey; decide), rfl⟩
    · exact ⟨.refl d, rfl⟩
  generalize (if clip then incSat d Reg.MEAS_CLIP_CNT_CNT 1 else d) = e at hclip
  have hring := ringWrite_fed (setStrm e c cur { x with
    n := n + 1, smp := ((if swap then ⟨rangingSample e c (n % 16), y.sub, false⟩ else y) :: x.smp).take 96 }) c cur lo n
    (if swap then ⟨rangingSample e c (n % 16), y.sub, false⟩ else y).v
  exact ⟨(hclip.1.setStrm _ _ _).trans hring.1, hring.2.trans hclip.2⟩

theorem feedPort_fed (d : Dev) (p lo n : Nat) (data : Option (List Byte)) :
    Fed d (feedPort d p lo n data) ∧ (port (feedPort d p lo n data) p).blk = n + 1 := by
  unfold feedPort
  extract_lets e g
  have he : Fed d e := (Fed.refl d).setPort p _ rfl rfl
  have hblk : (port e p).blk = n + 1 := congrArg FloePort.blk (port_setPort_same d p _)
  have hg : Fed e g := Fed.ite (.refl e) ((Fed.refl e).wr (f := Reg.MEAS_SUBST_CNT_CNT) _ (by unfold feedKey; decide))
  have hfloe : g.floe = e.floe := by
    unfold g
    split
    all_goals rfl
  clear_value g e
  constructor
  · refine (he.trans hg).trans (Fed.foldl _ _ (fun x c => ?_) g)
    exact (feedStrm_fed x c false lo n _).1.trans (feedStrm_fed _ c true lo n _).1
  · have hkept := foldl_keeps (fun x => x.floe) (portChans g p) (fun d c => feedStrm (feedStrm d c false lo n (data.map (fun bs =>
      beAt bs (8 * idxOf d c) 4))) c true lo n (data.map (fun bs => beAt bs (8 * idxOf d c + 4) 4)))
      (fun x c => (feedStrm_fed _ c true lo n _).2.trans (feedStrm_fed x c false lo n _).2) g
    exact (congrArg (fun m => (SMap.get {} m p).blk) (hkept.trans hfloe)).trans hblk

theorem gapTo_fed (d : Dev) (p n : Nat) : Fed d (gapTo d p n) := by
  unfold gapTo
  split
  · exact Fed.foldl _ _ (fun e _ => (feedPort_fed e p _ _ none).1) d
  · exact .refl d

theorem queueStarts_floe (d : Dev) (e : Nat) : (queueStarts d e).floe = d.floe := by
  unfold queueStarts
  split
  all_goals rfl

theorem queueStarts_fed (d : Dev) (e : Nat) : Fed d (queueStarts d e) := by
  unfold queueStarts
  split
  · exact .refl d
  · exact (Fed.refl d).setEng _ _

theorem queueAllStarts_fed (d : Dev) : Fed d (queueAllStarts d) := Fed.foldl _ _ queueStarts_fed d

theorem queueAllStarts_floe (d : Dev) : (queueAllStarts d).floe = d.floe := foldl_keeps (fun e => e.floe) _ _ queueStarts_floe d

/-! ### Sample blocks and superframes -/

section
variable {s : State} {p : Nat} {hdr blk crc : List Byte} {blks : List (List Byte)}

theorem exec_sampleBlockRx_fed (hin : inService s.d p = true) (hlen : blk.length = 21 + blkData s.d p)
    (hcrc : crc32c (blk.take (17 + blkData s.d p)) = beAt blk (17 + blkData s.d p) 4) (hidx : byteAt blk 0 ≤ 15)
    (hnext : (port s.d p).blk ≤ 16 * rxWindow s.d hdr + byteAt blk 0) (hhdr : sfHeaderOk s.d p hdr = true) :
    ∃ t, exec (.sampleBlockRx p hdr blk 0) s = .next t ∧ (port t.d p).blk = 16 * rxWindow s.d hdr + byteAt blk 0 + 1 ∧
      t.nv = s.nv := by
  generalize hgaps : (mappedPorts s.d).foldl (fun d q => if q = p then gapTo d q (16 * rxWindow s.d hdr + byteAt blk 0)
    else gapTo d q (16 * rxWindow s.d hdr + byteAt blk 0 - 2)) s.d = e
  have hdev : sampleBlockRx s.d p hdr blk 0 = queueAllStarts (setPort (feedPort e p (16 * rxWindow s.d hdr + byteAt blk 0)
      (16 * rxWindow s.d hdr + byteAt blk 0) (some (sub blk 1 (blkData e p)))) p
      (fun q => { q with came := 16 * rxWindow s.d hdr + byteAt blk 0 + 1 })) := by
    rw [← hgaps]
    unfold sampleBlockRx
    rw [if_neg (by simp [hin])]
    dsimp only
    rw [show countCode s.d p 0 = s.d from if_pos rfl, if_neg (by omega), if_neg (by simp [hcrc])]
    exact if_neg (by simp [hhdr]; omega)
  have hfed := (feedPort_fed e p (16 * rxWindow s.d hdr + byteAt blk 0) (16 * rxWindow s.d hdr + byteAt blk 0)
    (some (sub blk 1 (blkData e p)))).2
  generalize feedPort e p (16 * rxWindow s.d hdr + byteAt blk 0) (16 * rxWindow s.d hdr + byteAt blk 0)
    (some (sub blk 1 (blkData e p))) = g at hfed hdev
  refine ⟨_, next_withDev hdev, ?_, rfl⟩
  exact (congrArg (fun m => (SMap.get {} m p).blk) (queueAllStarts_floe _)).trans
    ((congrArg FloePort.blk (port_setPort_same g p
      (fun q => { q with came := 16 * rxWindow s.d hdr + byteAt blk 0 + 1 }))).trans hfed)

theorem exec_sampleBlockRx_badCrc (hin : inService s.d p = true) (hlen : blk.length = 21 + blkData s.d p)
    (hcrc : crc32c (blk.take (17 + blkData s.d p)) ≠ beAt blk (17 + blkData s.d p) 4) : exec (.sampleBlockRx p hdr blk 0) s =
      .next (s.withDev (incSatPart s.d (Reg.FLOE_ERR_CODE_CNT p) 16 16 1)) := by
  refine next_withDev ?_
  unfold sampleBlockRx
  rw [if_neg (by simp [hin])]
  dsimp only
  rw [show countCode s.d p 0 = s.d from if_pos rfl, if_neg (by omega)]
  exact if_pos hcrc

/-- An accepted superframe of a port in SYNC, with no flag set in its header. -/
theorem acceptSuperframe_sync (hstate : pst s.d p = psSync) (hflags : byteAt hdr 7 = 0) :
    (port (acceptSuperframe s.d p hdr blks) p).sfOk = true ∧
    rd (acceptSuperframe s.d p hdr blks) (Reg.FLOE_BRICK_HDR_HDR p) = beAt hdr 6 4 % 2 ^ 32 ∧
    (acceptSuperframe s.d p hdr blks).mor = s.d.mor := by
  unfold acceptSuperframe
  lift_lets
  extract_lets aux fl st d1 d2 d3 d4 _ d5 _ d6 d7
  have hfl (i : Nat) : ¬ bit fl i = true := by
    simp [fl, hflags, bit]
  have h4 : d4 = d3 := if_neg (hfl 5)
  have h5 : d5 = d4 := if_neg (hfl 0)
  have h6 : d6 = d5 := if_neg (hfl 6)
  have hok : (port d1 p).sfOk = true := congrArg FloePort.sfOk (port_setPort_same s.d p _)
  have hhdr : rd d2 (Reg.FLOE_BRICK_HDR_HDR p) = beAt hdr 6 4 % 2 ^ 32 := rd_wr_same _ _ _
  have hdis : rd d3 (Reg.FLOE_BRICK_HDR_HDR p) = rd d2 (Reg.FLOE_BRICK_HDR_HDR p) := rd_wr_ne _ _ _ _ (by
    simp only [Fld.key, Reg.FLOE_BRICK_HDR_HDR, Reg.FLOE_BRICK_DIS_DIS_SEQ]; omega)
  have husable : rd d7 (Reg.FLOE_BRICK_HDR_HDR p) = rd d6 (Reg.FLOE_BRICK_HDR_HDR p) := rd_wr_ne _ _ _ _ (by
    simp only [Fld.key, Reg.FLOE_BRICK_HDR_HDR, Reg.FLOE_CHSTAT_USABLE]; omega)
  have hsync : pst d7 p = psSync := by
    have h1 : pst d2 p = pst d1 p := rd_wr_ne _ _ _ _ (by simp only [Fld.key, Reg.FLOE_STAT_STATE, Reg.FLOE_BRICK_HDR_HDR]; omega)
    have h2 : pst d3 p = pst d2 p :=
      rd_wr_ne _ _ _ _ (by simp only [Fld.key, Reg.FLOE_STAT_STATE, Reg.FLOE_BRICK_DIS_DIS_SEQ]; omega)
    have h7 : pst d7 p = pst d6 p := rd_wr_ne _ _ _ _ (by simp only [Fld.key, Reg.FLOE_STAT_STATE, Reg.FLOE_CHSTAT_USABLE]; omega)
    rw [h7, h6, h5, h4, h2, h1]
    exact hstate
  have hmor : d7.mor = d6.mor := rfl
  have hfloe : d7.floe = d6.floe := rfl
  have hmor1 : d3.mor = s.d.mor := rfl
  have hfloe1 : d3.floe = d1.floe := rfl
  rw [if_neg (by rw [hsync]; decide)]
  clear_value d7
  rw [h6, h5, h4] at husable hmor hfloe
  exact ⟨(congrArg (fun m => (SMap.get {} m p).sfOk) (hfloe.trans hfloe1)).trans hok, husable.trans (hdis.trans hhdr),
    hmor.trans hmor1⟩

theorem exec_superframeRx (hin : inService s.d p = true) (hstate : pst s.d p = psSync) (hblks : blks.length = 16)
    (hlens : ∀ b ∈ blks, b.length = 21 + blkData s.d p) (hhdr : hdr.length = 16) (hcrc : crc.length = 4)
    (hgood : crc32c (hdr ++ blks.flatten) = beAt crc 0 4) (hphase : s.d.phase = 0) (hok : sfHeaderOk s.d p hdr = true)
    (hblocks : ∀ i < 16, sfBlockOk s.d p i (blks.getD i []) = true) (hflags : byteAt hdr 7 = 0) :
    ∃ t, exec (.superframeRx p hdr blks crc 0) s = .next t ∧ (port t.d p).sfOk = true ∧
      rd t.d (Reg.FLOE_BRICK_HDR_HDR p) = beAt hdr 6 4 % 2 ^ 32 ∧ t.d.mor = s.d.mor := by
  have hall : (blks.all (fun b => b.length == 21 + blkData s.d p) && blks.length == 16 && hdr.length == 16 && crc.length == 4) = true := by
    simp only [hblks, hhdr, hcrc, beq_self_eq_true, Bool.and_true, List.all_eq_true, beq_iff_eq]
    exact hlens
  have hdev : superframeRx s.d p hdr blks crc 0 = acceptSuperframe s.d p hdr blks := by
    unfold superframeRx
    rw [if_neg (by simp [hin])]
    dsimp only
    rw [show countCode s.d p 0 = s.d from if_pos rfl, hall, if_neg (by decide), if_neg (by simp [hgood])]
    refine if_pos ⟨rfl, hphase, hok, ?_⟩
    simpa only [List.all_eq_true, List.mem_range] using hblocks
  exact ⟨_, next_withDev hdev, acceptSuperframe_sync hstate hflags⟩

/-! ### The superframe deadline -/

theorem markLost_lost (d : Dev) (hp : p < 128) : pst (markLost d p) p = psLost ∧ rd (markLost d p) (Reg.FLOE_STAT_LOST_EV p) = 1 ∧
    ∃ e ∈ (markLost d p).mor.raised, e.src = Src.FLOE_LOST ∧ e.ut = 3 ∧ e.ui = p := by
  unfold markLost
  extract_lets d1 d2 d3 d4 d5
  clear_value d3
  refine ⟨pst_setPst _ hp (by decide), ?_, _, List.mem_append_right _ (List.mem_singleton_self _), rfl, rfl, rfl⟩
  have hset : rd d4 (Reg.FLOE_STAT_LOST_EV p) = 1 := rd_wr_same _ _ _
  refine (setPst_within (setPort d4 p (fun q => { q with good := 0 })) p psLost (Reg.FLOE_STAT_LOST_EV p) ?_).trans hset
  simp only [pstKey, Fld.key, Reg.FLOE_STAT_LOST_EV, Reg.FLOE_STAT_STATE, Reg.FLOE_LOST_SUM_PORTS, Reg.FLOE_PARK_SUM_PORTS,
    Reg.FLOE_CHSTAT_USABLE]
  omega

/-- A second missing superframe in a row marks an ACTIVE port's brick lost. -/
theorem portDeadline_lost {d : Dev} (hin : inService d p = true) (hstate : pst d p = psActive) (hmissing : (port d p).sfOk = false)
    (hmiss : (port d p).miss = 1) : ∃ e, portDeadline d p = markLost e p := by
  have hcounted : (port (setPort d p (fun q => { q with miss := q.miss + 1 })) p).miss = 2 := by
    rw [port_setPort_same, hmiss]
  refine ⟨incSatPart (setPort d p (fun q => { q with miss := q.miss + 1 })) (Reg.FLOE_MISS_CNT p) 0 16 1, ?_⟩
  unfold portDeadline
  dsimp only
  rw [if_neg (by simp [hin]), if_neg (by rw [hstate]; decide), if_pos hstate, if_neg (by simp [hmissing])]
  exact if_pos (Nat.le_of_eq hcounted.symm)

theorem markLost_winTick (d : Dev) (p : Nat) : (markLost d p).winTick = d.winTick := by
  refine (foldl_keeps (fun e => e.winTick) (portChans (sendExpressAll d [] [(p, 2 ^ portCount d p - 1)]) p) _ (fun e x => ?_) _).trans ?_
  · rfl
  · unfold sendExpressAll
    split
    · rfl
    · refine foldl_keeps (fun e => e.winTick) _ _ (fun e x => ?_) d
      dsimp only
      unfold sendExpress
      repeat' split
      all_goals rfl

theorem enterActive_winTick (d : Dev) (p : Nat) : (enterActive d p).winTick = d.winTick := by
  refine foldl_keeps (fun e => e.winTick) (portChans (setPort d p (fun q => { q with staleWin := 4 })) p) _ (fun e x => ?_) _
  rfl

theorem portDeadline_winTick (d : Dev) (p : Nat) : (portDeadline d p).winTick = d.winTick := by
  unfold portDeadline
  extract_lets q st missed
  have hmissed (e : Dev) : (missed e).winTick = e.winTick := rfl
  clear_value missed
  split
  · rfl
  split
  · have hif : (if q.sfOk = true then d else missed d).winTick = d.winTick := by
      split
      · rfl
      · exact hmissed d
    split
    · exact (enterActive_winTick _ p).trans hif
    · exact hif
  split
  · split
    · rfl
    split
    · exact (markLost_winTick _ p).trans (hmissed _)
    · exact hmissed _
  split
  · split
    · split
      · exact enterActive_winTick _ p
      · rfl
    · exact hmissed _
  · rfl

/-- The device whose ports are judged: the blocks of the closed window that never came are gaps. -/
def gapsFed (d : Dev) : Dev := queueAllStarts ((mappedPorts d).foldl (fun d p => if underWay d p then d else gapTo d p (16 * d.k)) d)

theorem gapsFed_fed (d : Dev) : Fed d (gapsFed d) :=
  (Fed.foldl _ _ (fun e q => Fed.ite (.refl e) (gapTo_fed e q _)) d).trans (queueAllStarts_fed _)

theorem superframeDeadline_eq {d : Dev} (hphase : d.phase = 0) :
    superframeDeadline d = { (mappedPorts (gapsFed d)).foldl portDeadline (gapsFed d) with phase := 1 } := by
  unfold superframeDeadline
  exact if_neg (by simp [hphase])

theorem exec_superframeDeadline (hphase : s.d.phase = 0) : ∃ t, exec .superframeDeadline s = .next t ∧ t.d.phase = 1 ∧
    t.d.winTick = s.d.winTick ∧ t.nv = s.nv := by
  have hdev := superframeDeadline_eq hphase
  have hjudged := foldl_keeps (fun e => e.winTick) (mappedPorts (gapsFed s.d)) portDeadline portDeadline_winTick (gapsFed s.d)
  have hwin := hjudged.trans (gapsFed_fed s.d).winTick
  generalize (mappedPorts (gapsFed s.d)).foldl portDeadline (gapsFed s.d) = e at hdev hwin
  exact ⟨_, next_withDev hdev, rfl, hwin, rfl⟩

theorem exec_superframeDeadline_lost (hp : p < 128) (hin : inService s.d p = true) (hphase : s.d.phase = 0)
    (hone : mappedPorts s.d = [p]) (hstate : pst s.d p = psActive) (hmissing : (port s.d p).sfOk = false)
    (hmiss : (port s.d p).miss = 1) : ∃ t, exec .superframeDeadline s = .next t ∧ t.d.phase = 1 ∧ pst t.d p = psLost ∧
      rd t.d (Reg.FLOE_STAT_LOST_EV p) = 1 ∧ ∃ e ∈ t.d.mor.raised, e.src = Src.FLOE_LOST ∧ e.ut = 3 ∧ e.ui = p := by
  have hdev := superframeDeadline_eq hphase
  have hfed := gapsFed_fed s.d
  generalize gapsFed s.d = g at hdev hfed
  have hports : mappedPorts g = [p] := by
    rw [mappedPorts, img, hfed.firn]
    exact hone
  obtain ⟨e, he⟩ := portDeadline_lost ((hfed.inService hp).trans hin) ((hfed.pst hp).trans hstate) ((hfed.sfOk p).trans hmissing)
    ((hfed.miss p).trans hmiss)
  rw [hports, List.foldl_cons, List.foldl_nil, he] at hdev
  have hlost := markLost_lost e hp
  generalize markLost e p = l at hdev hlost
  exact ⟨_, next_withDev hdev, rfl, hlost⟩

end

/-- Settles O21: a block's index becomes the port's next, an accepted header is shown, and the deadline judges every mapped
port after the gaps are fed, which leaves what it judges by as it was. -/
theorem superframeReception : Obligations.SuperframeReception := by
  unfold Obligations.SuperframeReception
  intro s p hdr blk crc blks hp hin
  refine ⟨?fed, exec_sampleBlockRx_badCrc hin, ?accepted, ?lost, exec_superframeDeadline⟩
  case fed =>
    intro hlen hcrc hidx hnext hhdr
    exact exec_sampleBlockRx_fed hin hlen hcrc hidx hnext hhdr
  case accepted =>
    intro hstate hblks hlens hhdr hcrc hgood hphase hok hblocks hflags
    exact exec_superframeRx hin hstate hblks hlens hhdr hcrc hgood hphase hok hblocks hflags
  case lost =>
    intro hphase hone hstate hmissing hmiss
    exact exec_superframeDeadline_lost hp hin hphase hone hstate hmissing hmiss

end Sys2Proof.Machine
end

section
/-!
PROOFS. No step of a step program touches an engine (R170, R222).
-/
namespace Sys2Proof.Machine

/-! ### The operations of a step -/

@[simp] theorem ledWr_eng (d : Dev) (a n v : Nat) : (ledWr d a n v).eng = d.eng := by
  induction n generalizing d a v with
  | zero => rfl
  | succ n ih => exact ih (ledPut d a (BitVec.ofNat 8 v)) (a + 1) (v / 256)

@[simp] theorem hotW_eng (d : Dev) (c off n v : Nat) : (hotW d c off n v).eng = d.eng := ledWr_eng d _ n v

@[simp] theorem setSeqCh_eng (d : Dev) (c : Nat) (f : SeqCh → SeqCh) : (setSeqCh d c f).eng = d.eng := rfl

@[simp] theorem setRegCh_eng (d : Dev) (c : Nat) (f : RegCh → RegCh) : (setRegCh d c f).eng = d.eng := rfl

@[simp] theorem setGradeCh_eng (d : Dev) (c : Nat) (f : GradeCh → GradeCh) : (setGradeCh d c f).eng = d.eng := rfl

@[simp] theorem setBarrier_eng (d : Dev) (key : Nat) (f : Barrier → Barrier) : (setBarrier d key f).eng = d.eng := rfl

@[simp] theorem logEvent_eng (d : Dev) (c typ prog step : Nat) (data : List Byte) : (logEvent d c typ prog step data).eng = d.eng := by
  unfold logEvent
  dsimp only
  split
  · exact ledWr_eng d _ 4 _
  · rfl

@[simp] theorem logSeq_eng (d : Dev) (c typ : Nat) (data : List Byte) : (logSeq d c typ data).eng = d.eng := logEvent_eng d c typ _ _ data

@[simp] theorem logReg_eng (d : Dev) (c typ : Nat) (data : List Byte) : (logReg d c typ data).eng = d.eng := logEvent_eng d c typ _ _ data

@[simp] theorem setRegFlag_eng (d : Dev) (c b : Nat) (v : Bool) : (setRegFlag d c b v).eng = d.eng := hotW_eng d c _ _ _

@[simp] theorem takeDemand_eng (d : Dev) (c : Nat) (ws : List Nat) (manual : Bool) : (takeDemand d c ws manual).eng = d.eng := by
  have hwords (l : List (Nat × Nat)) : (l.foldl (fun d iw => hotW d c (0x40 + 4 * iw.1) 4 iw.2) d).eng = d.eng := by
    refine foldl_keeps (fun e => e.eng) l _ (fun e iw => ?_) d
    exact hotW_eng e c _ 4 iw.2
  unfold takeDemand
  dsimp only
  split
  · simp only [logReg_eng, wrB_eng, setRegFlag_eng, setRegCh_eng, hwords]
  split
  · simp only [logReg_eng, wrB_eng, setRegFlag_eng, setRegCh_eng, hwords]
  · simp only [setRegFlag_eng, setRegCh_eng, hwords]

@[simp] theorem takeOff_eng (d : Dev) (c : Nat) : (takeOff d c).eng = d.eng := takeDemand_eng d c _ false

@[simp] theorem countUser_eng (d : Dev) (c : Nat) (up : Bool) : (countUser d c up).eng = d.eng := by
  unfold countUser
  split
  all_goals rfl

@[simp] theorem setSq_eng (d : Dev) (c st pause : Nat) : (setSq d c st pause).eng = d.eng := by
  simp only [setSq, countUser_eng, hotW_eng]

@[simp] theorem setStep_eng (d : Dev) (c step : Nat) : (setStep d c step).eng = d.eng := hotW_eng d c _ _ _

@[simp] theorem setDepth_eng (d : Dev) (c n : Nat) : (setDepth d c n).eng = d.eng := hotW_eng d c _ _ _

@[simp] theorem setLoop_eng (d : Dev) (c i rem idx : Nat) : (setLoop d c i rem idx).eng = d.eng := hotW_eng d c _ _ _

@[simp] theorem passBarrier_eng (d : Dev) (c : Nat) : (passBarrier d c).eng = d.eng := by
  unfold passBarrier
  split
  all_goals rfl

@[simp] theorem unarrive_eng (d : Dev) (c : Nat) : (unarrive d c).eng = d.eng := by
  unfold unarrive
  refine (foldl_keeps (fun e => e.eng) _ _ (fun e key => ?_) (passBarrier d c)).trans (passBarrier_eng d c)
  exact setBarrier_eng e key _

@[simp] theorem setEnd_eng (d : Dev) (c : Nat) : (setEnd d c).eng = d.eng := by
  simp only [setEnd, setSeqCh_eng, ledWr_eng]

@[simp] theorem gradeEnd_eng (d : Dev) (c s : Nat) : (gradeEnd d c s).eng = d.eng := rfl

@[simp] theorem contactAbort_eng (d : Dev) (c : Nat) : (contactAbort d c).eng = d.eng := by
  have hcapture (e : Dev) : (captureRc e c).eng = e.eng := by
    unfold captureRc
    dsimp only
    split
    all_goals rfl
  have hrange (e : Dev) (f : RngSt → RngSt) : (setRng e c f).eng = e.eng := rfl
  have hset (x : Contact) : (setContact d c x).eng = d.eng := rfl
  unfold contactAbort
  dsimp only
  split
  · rfl
  · simp only [contactRecord, hcapture, hrange, ledWr_eng, hset]

@[simp] theorem endProgram_eng (d : Dev) (c result : Nat) : (endProgram d c result).eng = d.eng := by
  simp only [endProgram, setSeqCh_eng, takeOff_eng, logSeq_eng, setEnd_eng, hotW_eng, setSq_eng, unarrive_eng, setDepth_eng]

@[simp] theorem abortProgram_eng (d : Dev) (c cause : Nat) : (abortProgram d c cause).eng = d.eng := by
  simp only [abortProgram, setSeqCh_eng, takeOff_eng, contactAbort_eng, gradeEnd_eng, setEnd_eng, setSq_eng, logSeq_eng,
    hotW_eng, unarrive_eng]

@[simp] theorem goStep_eng (d : Dev) (c i : Nat) : (goStep d c i).eng = d.eng := by
  unfold goStep
  split
  · simp only [setSeqCh_eng, setStep_eng]
  · exact endProgram_eng d c 0

@[simp] theorem leaveBarrier_eng (d : Dev) (c hit : Nat) : (leaveBarrier d c hit).eng = d.eng := by
  simp only [leaveBarrier, goStep_eng, setSeqCh_eng, hotW_eng, passBarrier_eng]

@[simp] theorem barrierAct_eng (d : Dev) (c : Nat) (w : List Byte) : (barrierAct d c w).eng = d.eng := by
  unfold barrierAct
  split
  · exact leaveBarrier_eng d c _
  · refine foldl_keeps (fun e => e.eng) _ _ (fun e x => ?_) d
    dsimp only
    split
    · rw [leaveBarrier_eng]
      split
      all_goals rfl
    · rfl
  · exact abortProgram_eng d c 3
  · rfl

@[simp] theorem noWindow_eng (d : Dev) (c kind status pset k : Nat) : (noWindow d c kind status pset k).eng = d.eng := by
  unfold noWindow
  dsimp only
  split
  all_goals rfl

@[simp] theorem openWin_eng (d : Dev) (c kind pset k : Nat) : (openWin d c kind pset k).eng = d.eng := by
  unfold openWin
  extract_lets ws g w opened
  have hopened (e : Dev) : (opened e).eng = e.eng := by
    unfold opened
    dsimp only
    split
    all_goals split
    all_goals rfl
  clear_value opened
  split
  · exact noWindow_eng _ _ _ _ _ _
  split
  · exact noWindow_eng _ _ _ _ _ _
  split
  · exact hopened _
  split
  · exact hopened _
  · exact noWindow_eng _ _ _ _ _ _

@[simp] theorem holdRequest_eng (d : Dev) (c pset : Nat) : (holdRequest d c pset).eng = d.eng := by
  unfold holdRequest
  split
  · exact noWindow_eng _ _ _ _ _ _
  split
  · exact noWindow_eng _ _ _ _ _ _
  split
  · rfl
  · exact noWindow_eng _ _ _ _ _ _

@[simp] theorem gradeRequest_eng (d : Dev) (c req : Nat) : (gradeRequest d c req).eng = d.eng := by
  unfold gradeRequest
  dsimp only
  split
  all_goals simp only [setGradeCh_eng, hotW_eng, openWin_eng, holdRequest_eng]

/-! ### The steps -/

theorem stepRun_eng (d : Dev) (c : Nat) : (stepRun d c).eng = d.eng := by
  simp only [stepRun, writeDemand, clearTerms, gradeRequest_eng, setRegCh_eng, setSeqCh_eng, takeDemand_eng, hotW_eng, setSq_eng]

theorem stepLoop_eng (d : Dev) (c : Nat) : (stepLoop d c).eng = d.eng := by
  simp only [stepLoop, goStep_eng, setDepth_eng, setLoop_eng]

theorem stepNext_eng (d : Dev) (c : Nat) : (stepNext d c).eng = d.eng := by
  unfold stepNext
  dsimp only
  split
  all_goals simp only [goStep_eng, setDepth_eng, setLoop_eng]

theorem stepBranch_eng (d : Dev) (c : Nat) : (stepBranch d c).eng = d.eng := by
  unfold stepBranch
  dsimp only
  split
  · exact goStep_eng d c _
  split
  · simp only [goStep_eng, setDepth_eng]
  · exact goStep_eng d c _

theorem stepBarrier_eng (d : Dev) (c : Nat) : (stepBarrier d c).eng = d.eng := by
  have hact (w : List Byte) (e : Dev) : (if 3 ≤ swByte w 0 % 16 ∧ rd e (Reg.SEQ_LBAR_EXPECT (swByte w 1 % 16)) = 0
      then barrierAct e c w else e).eng = e.eng := by
    split
    · exact barrierAct_eng e c w
    · rfl
  unfold stepBarrier
  dsimp only
  rw [hact]
  split
  all_goals simp only [takeDemand_eng, setSeqCh_eng, setBarrier_eng, hotW_eng, setSq_eng]

theorem doStep_eng (d : Dev) (c : Nat) : (doStep d c).eng = d.eng := by
  unfold doStep
  split
  · exact stepRun_eng d c
  · exact stepLoop_eng d c
  · exact stepNext_eng d c
  · exact stepBranch_eng d c
  · exact stepBarrier_eng d c
  · exact endProgram_eng d c _
  · rfl

/-- The control steps that a run's start settles touch no engine. -/
theorem seqSettle_eng (d : Dev) (c : Nat) : (seqSettle d c).eng = d.eng := by
  unfold seqSettle
  refine foldl_keeps (fun e => e.eng) (List.range 64) _ (fun e _ => ?_) d
  split
  · exact doStep_eng e c
  · rfl

end Sys2Proof.Machine
end

section
/-!
PROOFS. Dispatch, runaway, the sample task and PEAK_CLR of an engine (R216, R223, R225, R235).
-/
namespace Sys2Proof.Machine

/-- An engine is what the device's engines hold. -/
theorem eng_congr {d g : Dev} (h : g.eng = d.eng) (e : Nat) : eng g e = eng d e := by simp only [eng, h]

/-! ### Dispatch -/

/-- Counting cycles moves nothing but the counts. -/
theorem gCount_keeps (d : Dev) (e : Nat) (smp : Bool) (n : Nat) : (eng (gCount d e smp n) e).run = (eng d e).run ∧
    (eng (gCount d e smp n) e).entry = (eng d e).entry ∧ (eng (gCount d e smp n) e).chan = (eng d e).chan ∧
    (eng (gCount d e smp n) e).wreg = (eng d e).wreg := by
  rw [gCount, eng_setEng_same]
  split
  · exact ⟨rfl, rfl, rfl, rfl⟩
  split
  all_goals exact ⟨rfl, rfl, rfl, rfl⟩

theorem gwSeq_sequencer (d : Dev) (e : Nat) (smp : Bool) (c v : Nat) : (eng (gwSeq d e smp c v) e).entry = (eng d e).entry ∧
    (eng (gwSeq d e smp c v) e).chan = (eng d e).chan ∧ (eng (gwSeq d e smp c v) e).starts = (eng d e).starts := by
  rw [gwSeq, eng_setEng_same]
  split
  all_goals exact ⟨rfl, rfl, rfl⟩

/-- What a run finds in its registers: its channel in `CH`. -/
theorem runRegs_shows (d : Dev) (e : Nat) {c : Nat} (cx ap : Nat) (fresh : Bool) (hc : c < 4096) :
    gr (runRegs d e c cx ap fresh) e false gCH = c ∧ (eng (runRegs d e c cx ap fresh) e).entry = (eng d e).entry ∧
    (eng (runRegs d e c cx ap fresh) e).chan = (eng d e).chan := by
  unfold runRegs
  extract_lets d1
  have hd1 : (eng d1 e).entry = (eng d e).entry ∧ (eng d1 e).chan = (eng d e).chan := by
    unfold d1
    split
    · rw [eng_setEng_same]
      exact ⟨rfl, rfl⟩
    · exact ⟨rfl, rfl⟩
  clear_value d1
  refine ⟨?_, ?_, ?_⟩
  · rw [gr_gwSeq_ne _ _ _ _ (by decide), gr_gwSeq_ne _ _ _ _ (by decide), gr_gwSeq_ne _ _ _ _ (by decide),
      gr_gwSeq_same _ _ _ _ (by decide)]
    exact Nat.mod_eq_of_lt hc
  · simp only [gwSeq_sequencer, hd1]
  · simp only [gwSeq_sequencer, hd1]

section
variable {s : State} {e i j : Nat} {r : SchedRec}

theorem exec_engineChannelRun_waits (htask : taskRuns s.d e = true) (hidle : (eng s.d e).run.live = false)
    (hnext : nextRun s.d e = some (i, r, j)) (hheld : verdictHeld s.d (r.first + j) = true) :
    ∃ t, exec (.engineChannelRun e) s = .next t ∧ t.nv = s.nv ∧ t.d.led = s.d.led ∧ (eng t.d e).run = (eng s.d e).run ∧
      (eng t.d e).entry = (eng s.d e).entry ∧ (eng t.d e).chan = (eng s.d e).chan := by
  have hdev : channelRun s.d e = verdictWait s.d e := by
    unfold channelRun
    rw [if_neg (by simp [htask, hidle]), hnext]
    exact if_pos hheld
  obtain ⟨hrun, hentry, hchan, -⟩ := gCount_keeps (useFree s.d) e false (freeVal s.d % 1601)
  exact ⟨_, next_withDev hdev, rfl, rfl, hrun, hentry, hchan⟩

theorem exec_engineChannelRun_user {k : KernRec} {ofs : Nat} (htask : taskRuns s.d e = true)
    (hidle : (eng s.d e).run.live = false) (hnext : nextRun s.d e = some (i, r, j)) (huser : 0x40 ≤ r.kernel)
    (hfree : verdictHeld s.d (r.first + j) = false)
    (hplace : (kernPlaces (img s.d) e).find? (fun p => p.2.kernel == r.kernel) = some (ofs, k)) (hchan : r.first + j < 4096) :
    ∃ t, exec (.engineChannelRun e) s = .next t ∧ t.nv = s.nv ∧ (eng t.d e).run.live = true ∧
      (eng t.d e).run.kernel = r.kernel ∧ (eng t.d e).run.pc = k.entry ∧ (eng t.d e).run.cyc = 2 ∧
      gr t.d e false gCH = r.first + j ∧ (eng t.d e).entry = i ∧ (eng t.d e).chan = j + 1 := by
  generalize hfresh : ((eng s.d e).entry != i || (eng s.d e).chan == 0) = fresh
  generalize hat : setEng s.d e (fun g => { g with entry := i, chan := j + 1 }) = d0
  have hentered : (eng d0 e).entry = i ∧ (eng d0 e).chan = j + 1 := by
    rw [← hat, eng_setEng_same]
    exact ⟨rfl, rfl⟩
  have hdev : channelRun s.d e = userRun d0 e i (r.first + j) j r fresh := by
    unfold channelRun
    rw [if_neg (by simp [htask, hidle]), hnext]
    dsimp only
    rw [if_neg (by simp [hfree]), if_neg (by simp; omega), hfresh, hat]
    exact if_pos huser
  have himg : img d0 = img s.d := by rw [← hat]; rfl
  obtain ⟨hch, hentry, hch'⟩ := runRegs_shows d0 e j ((0x4000 * gBank d0 e + ofs + 8 * k.code.length) / 4) fresh hchan
  generalize hregs : runRegs d0 e (r.first + j) j ((0x4000 * gBank d0 e + ofs + 8 * k.code.length) / 4) fresh = d1 at hch hentry hch'
  obtain ⟨-, hentry', hchan', hwreg⟩ := gCount_keeps d1 e false 2
  have hsettled := seqSettle_eng (gCount d1 e false 2) (r.first + j)
  generalize hcount : gCount d1 e false 2 = d2 at hentry' hchan' hwreg hsettled
  generalize hset : seqSettle d2 (r.first + j) = d3 at hsettled
  have heng := eng_congr hsettled e
  obtain ⟨x, hrun, hlive, hkernel, hpc, hcyc⟩ : ∃ x : GRun, userRun d0 e i (r.first + j) j r fresh =
      setEng d3 e (fun g => { g with run := x }) ∧ x.live = true ∧ x.kernel = r.kernel ∧ x.pc = k.entry ∧ x.cyc = 2 := by
    refine ⟨{
      live := true, sched := i, kernel := r.kernel, cls := k.cls, cycCh := r.cycCh, base := 0x4000 * gBank d0 e + ofs,
      ninstr := k.code.length, cbase := (0x4000 * gBank d0 e + ofs + 8 * k.code.length) / 4, nconst := k.consts.length,
      pc := k.entry, cyc := 2, ready := [], reps := [] }, ?_, rfl, rfl, rfl, rfl⟩
    unfold userRun
    rw [himg, hplace]
    dsimp only
    rw [hregs, hcount, hset]
  have hrunning : eng (setEng d3 e (fun g => { g with run := x })) e = { eng d2 e with run := x } := by
    rw [eng_setEng_same, heng]
  generalize setEng d3 e (fun g => { g with run := x }) = g at hrun hrunning
  refine ⟨_, next_withDev (hdev.trans hrun), rfl, ?_⟩
  change (eng g e).run.live = true ∧ (eng g e).run.kernel = r.kernel ∧ (eng g e).run.pc = k.entry ∧ (eng g e).run.cyc = 2 ∧
    gr g e false gCH = r.first + j ∧ (eng g e).entry = i ∧ (eng g e).chan = j + 1
  have hregister : gr g e false gCH = SMap.get 0 (eng g e).wreg gCH := rfl
  rw [hregister, hrunning]
  refine ⟨hlive, hkernel, hpc, hcyc, ?_, hentry'.trans (hentry.trans hentered.1), hchan'.trans (hch'.trans hentered.2)⟩
  exact (congrArg (fun m => SMap.get 0 m gCH) hwreg).trans hch

theorem exec_engineChannelRun_stopped (htask : taskRuns s.d e = false) : exec (.engineChannelRun e) s = .next s := by
  have hdev : channelRun s.d e = s.d := by
    unfold channelRun
    exact if_pos (by simp [htask])
  exact next_withDev hdev

/-! ### A run at its limit -/

theorem exec_engineRunaway (he : e < 24) (hlive : (eng s.d e).run.live = true)
    (hlimit : max 256 (4 * (eng s.d e).run.cycCh) ≤ (eng s.d e).run.cyc ∨ (eng s.d e).run.ninstr ≤ (eng s.d e).run.pc) :
    ∃ t, exec (.engineRunaway e) s = .next t ∧ t.nv = s.nv ∧ t.d.led = s.d.led ∧ (eng t.d e).run.live = false ∧
      rdB t.d (Reg.CHAN_ENG_STAT_RUNAWAY e) = true ∧
      t.d.mor.raised.map (·.src) = s.d.mor.raised.map (·.src) ++ [Src.ENG_RUNAWAY] := by
  have hkeys : (Reg.CHAN_ENG_STAT_RUNAWAY e).key ≠ Reg.CHAN_ENG_SUM_ENG.key ∧
      (Reg.CHAN_ENG_STAT_RUNAWAY e).key ≠ (Reg.CHAN_ENG_RUNAWAY_CNT_CNT e).key := by
    simp only [Fld.key, Reg.CHAN_ENG_STAT_RUNAWAY, Reg.CHAN_ENG_SUM_ENG, Reg.CHAN_ENG_RUNAWAY_CNT_CNT]
    omega
  have hflag := rdB_engEv_same s.d e (f := Reg.CHAN_ENG_STAT_RUNAWAY) Nat.one_pos hkeys.1
  have hcnt := rdB_wr_ne (engEv s.d e Reg.CHAN_ENG_STAT_RUNAWAY) (Reg.CHAN_ENG_RUNAWAY_CNT_CNT e) (Reg.CHAN_ENG_STAT_RUNAWAY e)
    (satAdd 32 (rd (engEv s.d e Reg.CHAN_ENG_STAT_RUNAWAY) (Reg.CHAN_ENG_RUNAWAY_CNT_CNT e)) 1) hkeys.2
  have hdev : runaway s.d e = markIncCh (gStop (raise (incSat (engEv s.d e Reg.CHAN_ENG_STAT_RUNAWAY)
      (Reg.CHAN_ENG_RUNAWAY_CNT_CNT e) 1) Src.ENG_RUNAWAY 5 e (gData0 (incSat (engEv s.d e Reg.CHAN_ENG_STAT_RUNAWAY)
      (Reg.CHAN_ENG_RUNAWAY_CNT_CNT e) 1) e false) (eng s.d e).run.cyc) e) (gr (raise (incSat (engEv s.d e
      Reg.CHAN_ENG_STAT_RUNAWAY) (Reg.CHAN_ENG_RUNAWAY_CNT_CNT e) 1) Src.ENG_RUNAWAY 5 e (gData0 (incSat (engEv s.d e
      Reg.CHAN_ENG_STAT_RUNAWAY) (Reg.CHAN_ENG_RUNAWAY_CNT_CNT e) 1) e false) (eng s.d e).run.cyc) e false gCH) e 2 := by
    unfold runaway
    exact if_neg (fun h => h.elim (fun hdead => by simp [hlive] at hdead) (fun hfar => hfar hlimit))
  have hraised : (raise (incSat (engEv s.d e Reg.CHAN_ENG_STAT_RUNAWAY) (Reg.CHAN_ENG_RUNAWAY_CNT_CNT e) 1) Src.ENG_RUNAWAY 5 e
      (gData0 (incSat (engEv s.d e Reg.CHAN_ENG_STAT_RUNAWAY) (Reg.CHAN_ENG_RUNAWAY_CNT_CNT e) 1) e false)
      (eng s.d e).run.cyc).mor.raised.map (·.src) = s.d.mor.raised.map (·.src) ++ [Src.ENG_RUNAWAY] := List.map_append
  have hled : (raise (incSat (engEv s.d e Reg.CHAN_ENG_STAT_RUNAWAY) (Reg.CHAN_ENG_RUNAWAY_CNT_CNT e) 1) Src.ENG_RUNAWAY 5 e
      (gData0 (incSat (engEv s.d e Reg.CHAN_ENG_STAT_RUNAWAY) (Reg.CHAN_ENG_RUNAWAY_CNT_CNT e) 1) e false)
      (eng s.d e).run.cyc).led = s.d.led := rfl
  have hset : rdB (raise (incSat (engEv s.d e Reg.CHAN_ENG_STAT_RUNAWAY) (Reg.CHAN_ENG_RUNAWAY_CNT_CNT e) 1) Src.ENG_RUNAWAY 5 e
      (gData0 (incSat (engEv s.d e Reg.CHAN_ENG_STAT_RUNAWAY) (Reg.CHAN_ENG_RUNAWAY_CNT_CNT e) 1) e false)
      (eng s.d e).run.cyc) (Reg.CHAN_ENG_STAT_RUNAWAY e) = true := hcnt.trans hflag
  generalize raise (incSat (engEv s.d e Reg.CHAN_ENG_STAT_RUNAWAY) (Reg.CHAN_ENG_RUNAWAY_CNT_CNT e) 1) Src.ENG_RUNAWAY 5 e
      (gData0 (incSat (engEv s.d e Reg.CHAN_ENG_STAT_RUNAWAY) (Reg.CHAN_ENG_RUNAWAY_CNT_CNT e) 1) e false)
      (eng s.d e).run.cyc = g at hdev hraised hled hset
  obtain ⟨n, hn⟩ := markIncCh_eq (gStop g e) (gr g e false gCH) e 2
  refine ⟨_, next_withDev (hdev.trans hn), rfl, hled, ?_, hset, hraised⟩
  exact congrArg (fun x => x.run.live) (eng_setEng_same g e (fun x => { x with run := { x.run with live := false, reps := [] } }))

/-! ### The sample task -/

/-- The registers that the sample task may write: those of its engine, and the summary of the engines. -/
def sampleKey (k : Nat) : Prop := k / 32 < 0x10050000 ∨ k / 32 = 0x10075400

/-- What the sample task leaves alone: the starts that wait, the image, the ports and the fences in force. -/
structure Sampled (e : Nat) (d g : Dev) : Prop where
  regs : RegsWithin sampleKey d g
  starts : (eng g e).starts = (eng d e).starts
  firn : g.firn = d.firn
  held : g.mor.fenceHeld = d.mor.fenceHeld

theorem Sampled.refl (e : Nat) (d : Dev) : Sampled e d d := ⟨.refl _ _, rfl, rfl, rfl⟩

theorem Sampled.trans {d g h : Dev} (h1 : Sampled e d g) (h2 : Sampled e g h) : Sampled e d h :=
  ⟨h1.regs.trans h2.regs, h2.starts.trans h1.starts, h2.firn.trans h1.firn, h2.held.trans h1.held⟩

theorem Sampled.wr {d g : Dev} (h : Sampled e d g) {f : Fld} (v : Nat) (hf : sampleKey f.key) : Sampled e d (wr g f v) :=
  ⟨h.regs.wr v hf, h.starts, h.firn, h.held⟩

theorem Sampled.setEng {d g : Dev} (h : Sampled e d g) (f : Eng → Eng) (hf : ∀ x, (f x).starts = x.starts) :
    Sampled e d (setEng g e f) :=
  ⟨h.regs.regs rfl, by rw [eng_setEng_same, hf]; exact h.starts, h.firn, h.held⟩

theorem Sampled.gwSeq {d g : Dev} (h : Sampled e d g) (smp : Bool) (c v : Nat) : Sampled e d (gwSeq g e smp c v) :=
  h.setEng _ fun x => by split <;> rfl

theorem Sampled.foldl {α : Type} (l : List α) (step : Dev → α → Dev) (hstep : ∀ g x, Sampled e g (step g x)) (d : Dev) :
    Sampled e d (l.foldl step d) := by
  induction l generalizing d with
  | nil => exact .refl e d
  | cons x l ih => exact (hstep d x).trans (ih _)

theorem gAcc_sampled (he : e < 24) (d : Dev) (smp : Bool) (x : Int) : Sampled e d (gAcc d e smp x).2 := by
  have hkeys : sampleKey (Reg.CHAN_ENG_STAT_ACC_OV e).key ∧ sampleKey (Reg.CHAN_ENG_OV_CH e).key ∧
      sampleKey (Reg.CHAN_ENG_OV_KERNEL e).key ∧ sampleKey Reg.CHAN_ENG_SUM_ENG.key := by
    refine ⟨Or.inl ?_, Or.inl ?_, Or.inl ?_, Or.inr rfl⟩
    all_goals simp only [Fld.key, Reg.CHAN_ENG_STAT_ACC_OV, Reg.CHAN_ENG_OV_CH, Reg.CHAN_ENG_OV_KERNEL]
    all_goals omega
  obtain ⟨hov, hch, hkernel, hsum⟩ := hkeys
  unfold gAcc
  split
  · exact .refl e d
  · extract_lets v d1 d2 d3 d4
    have h4 : Sampled e d d4 := (((((Sampled.refl e d).gwSeq smp gSR _).wr _ hov).wr _ hsum).wr _ hch).wr _ hkernel
    exact ⟨h4.regs.raise _ _ _ _ _, h4.starts, h4.firn, h4.held⟩

theorem firSlot_sampled (he : e < 24) (d : Dev) (c t w : Nat) (x : Int) (row tap : Nat) (fresh : Bool) :
    Sampled e d (firSlot d e c t w x row tap fresh) := by
  have hslot (d : Dev) (a : Nat) (x : Int) : Sampled e d (gwSlot d e true a x) :=
    (gAcc_sampled he d true x).setEng _ fun _ => rfl
  unfold firSlot
  dsimp only
  split
  · exact (hslot d _ _).setEng _ fun _ => rfl
  · exact hslot d _ _

theorem firSample_sampled (he : e < 24) (d : Dev) (j c n : Nat) : Sampled e d (firSample d e j c n) := by
  unfold firSample
  extract_lets w b d1 d2
  refine (((Sampled.refl e d).gwSeq true gCH c).gwSeq true gBI b).trans (Sampled.foldl _ _ (fun g t => ?_) d2)
  exact (((firSlot_sampled he g _ _ _ _ _ _ _).trans (firSlot_sampled he _ _ _ _ _ _ _ _)).trans
    (firSlot_sampled he _ _ _ _ _ _ _ _)).trans (firSlot_sampled he _ _ _ _ _ _ _ _)

theorem Sampled.inService {d g : Dev} (h : Sampled e d g) (p : Nat) : inService g p = inService d p := by
  have hst : pst g p = pst d p := by
    refine h.regs (Reg.FLOE_STAT_STATE p) ?_
    simp only [sampleKey, Fld.key, Reg.FLOE_STAT_STATE]
    omega
  simp only [Machine.inService, hst, h.held]

theorem Sampled.enginePorts {d g : Dev} (h : Sampled e d g) : enginePorts g e = enginePorts d e := by
  have himg : img g = img d := by simp only [img, h.firn]
  have hport : portOf g = portOf d := funext fun c => by simp only [portOf, himg]
  have hpop : populated g = populated d := funext fun c => by simp only [populated, himg]
  simp only [Machine.enginePorts, firChans, himg, hport, hpop]

/-- Starts that fall due join the queue behind those that wait. -/
theorem queueStarts_appends (d : Dev) (e : Nat) : (eng d e).starts <+: (eng (queueStarts d e) e).starts := by
  unfold queueStarts
  split
  · exact List.prefix_rfl
  · rw [eng_setEng_same]
    exact List.prefix_append _ _

theorem queueStarts_idle {d : Dev} (hidle : (enginePorts d e).all (fun p => !inService d p) = true) : queueStarts d e = d := by
  have hnone : (enginePorts d e).filter (inService d) = [] := by
    rw [List.filter_eq_nil_iff]
    intro p hp
    simpa using List.all_eq_true.mp hidle p hp
  unfold queueStarts
  rw [hnone]
  rfl

section
variable {n : Nat} {rest : List Nat}

theorem exec_engineSampleTask (he : e < 24) (hstarts : (eng s.d e).starts = n :: rest)
    (hgo : n % 16 ≠ 0 ∨ n < 16 * s.d.k ∨ 2 ≤ s.d.phase ∨ finishDone s.d e = true) :
    ∃ t, exec (.engineSampleTask e) s = .next t ∧ t.nv = s.nv ∧ rest <+: (eng t.d e).starts ∧
      ((enginePorts s.d e).all (fun p => !inService s.d p) = true → (eng t.d e).starts = rest) := by
  have htaken : (eng (setEng s.d e (fun x => { x with starts := rest })) e).starts = rest :=
    congrArg Eng.starts (eng_setEng_same s.d e _)
  have hports : enginePorts (setEng s.d e (fun x => { x with starts := rest })) e = enginePorts s.d e := rfl
  have hserving : inService (setEng s.d e (fun x => { x with starts := rest })) = inService s.d := rfl
  generalize htake : setEng s.d e (fun x => { x with starts := rest }) = d0 at htaken hports hserving
  generalize hchans : ((firChans d0 e).mapIdx (fun j c => (j, c))).filter (fun jc => populated d0 jc.2) = cs
  have hfed : Sampled e d0 (cs.foldl (fun d jc => firSample d e jc.1 jc.2 n) d0) :=
    .foldl cs _ (fun g x => firSample_sampled he g x.1 x.2 n) d0
  have hdev : sampleTask s.d e = queueStarts (setEng (cs.foldl (fun d jc => firSample d e jc.1 jc.2 n) d0) e
      (fun g => { g with cycS := g.cycS + 4 * cs.length })) e := by
    unfold sampleTask
    rw [hstarts]
    dsimp only
    rw [if_neg, htake, hchans]
    rintro ⟨h1, h2, h3, h4⟩
    rcases hgo with h | h | h | h
    · exact h h1
    · omega
    · omega
    · simp [h] at h4
  generalize cs.foldl (fun d jc => firSample d e jc.1 jc.2 n) d0 = g0 at hfed hdev
  have hg : Sampled e d0 (setEng g0 e (fun g => { g with cycS := g.cycS + 4 * cs.length })) := hfed.setEng _ fun _ => rfl
  generalize setEng g0 e (fun g => { g with cycS := g.cycS + 4 * cs.length }) = g at hg hdev
  have hrest := hg.starts.trans htaken
  refine ⟨_, next_withDev hdev, rfl, ?_, fun hidle => ?_⟩
  · have h := queueStarts_appends g e
    rwa [hrest] at h
  · have hquiet : (enginePorts g e).all (fun p => !inService g p) = true := by
      simp only [hg.enginePorts, hg.inService, hports, hserving]
      exact hidle
    have h := queueStarts_idle hquiet
    exact (congrArg (fun x => (eng x e).starts) h).trans hrest

theorem exec_engineSampleTask_waits (hstarts : (eng s.d e).starts = n :: rest) (hfirst : n % 16 = 0) (hwin : 16 * s.d.k ≤ n)
    (hphase : s.d.phase ≤ 1) (hdone : finishDone s.d e = false) : exec (.engineSampleTask e) s = .next s := by
  have hdev : sampleTask s.d e = s.d := by
    unfold sampleTask
    rw [hstarts]
    exact if_pos ⟨hfirst, hwin, hphase, hdone⟩
  exact next_withDev hdev

end

/-! ### PEAK_CLR -/

theorem regFind_engCtrl (he : e < 24) : regFind (engCtrlAddr e) = some (⟨0x2030000, [(24, 0x40000)], .device,
    [⟨fun n _ _ => Reg.CHAN_ENG_CTRL_WRAP n, .rwl, none⟩,
     ⟨fun n _ _ => Reg.CHAN_ENG_CTRL_PEAK_CLR n, .wo, none⟩]⟩, [e]) := by
  revert e
  show HoldsBelow _ _
  iterate 24 refine .succ ?_ rfl
  exact .zero

/-- The device with an engine's peaks zeroed. -/
def peaksCleared (d : Dev) (e : Nat) : Dev :=
  wr (wr (wr (wr d (Reg.CHAN_ENG_PEAK_FINISH e) 0) (Reg.CHAN_ENG_PEAK_CONTROL e) 0) (Reg.CHAN_ENG_SMP_PEAK e) 0)
    (Reg.CHAN_ENG_JRNL_PEAK e) 0

theorem peaksCleared_shows (d : Dev) (e : Nat) : rd (peaksCleared d e) (Reg.CHAN_ENG_PEAK_FINISH e) = 0 ∧
    rd (peaksCleared d e) (Reg.CHAN_ENG_PEAK_CONTROL e) = 0 ∧ rd (peaksCleared d e) (Reg.CHAN_ENG_SMP_PEAK e) = 0 ∧
    rd (peaksCleared d e) (Reg.CHAN_ENG_JRNL_PEAK e) = 0 := by
  have hkeys : (Reg.CHAN_ENG_PEAK_FINISH e).key ≠ (Reg.CHAN_ENG_PEAK_CONTROL e).key ∧
      (Reg.CHAN_ENG_PEAK_FINISH e).key ≠ (Reg.CHAN_ENG_SMP_PEAK e).key ∧
      (Reg.CHAN_ENG_PEAK_FINISH e).key ≠ (Reg.CHAN_ENG_JRNL_PEAK e).key ∧
      (Reg.CHAN_ENG_PEAK_CONTROL e).key ≠ (Reg.CHAN_ENG_SMP_PEAK e).key ∧
      (Reg.CHAN_ENG_PEAK_CONTROL e).key ≠ (Reg.CHAN_ENG_JRNL_PEAK e).key ∧
      (Reg.CHAN_ENG_SMP_PEAK e).key ≠ (Reg.CHAN_ENG_JRNL_PEAK e).key := by
    simp only [Fld.key, Reg.CHAN_ENG_PEAK_FINISH, Reg.CHAN_ENG_PEAK_CONTROL, Reg.CHAN_ENG_SMP_PEAK, Reg.CHAN_ENG_JRNL_PEAK]
    omega
  obtain ⟨hfc, hfs, hfj, hcs, hcj, hsj⟩ := hkeys
  unfold peaksCleared
  refine ⟨?_, ?_, ?_, ?_⟩
  · rw [rd_wr_ne _ _ _ _ hfj, rd_wr_ne _ _ _ _ hfs, rd_wr_ne _ _ _ _ hfc, rd_wr_same, Nat.zero_mod]
  · rw [rd_wr_ne _ _ _ _ hcj, rd_wr_ne _ _ _ _ hcs, rd_wr_same, Nat.zero_mod]
  · rw [rd_wr_ne _ _ _ _ hsj, rd_wr_same, Nat.zero_mod]
  · rw [rd_wr_same, Nat.zero_mod]

/-- What a write of `CHAN_ENG_CTRL` does past the peaks. -/
def engCtrlSet (d : Dev) (req : Requester) (e w : Nat) : Dev :=
  if isStandby d && !d.apply then refuseW d req (engCtrlAddr e)
  else if forwards d req && !d.apply && !rdB d Reg.CHAN_ENG_LOCK_LOCK then
    okResp (stage d req (.regWrite req (engCtrlAddr e) (setBit w 1 false)))
  else writeFields d req (engCtrlAddr e) w

theorem engCtrl_clears {d : Dev} {req : Requester} {w : Nat} (hacc : accessErr d req (engCtrlAddr e) true = 0)
    (hclosed : safeClosed (engCtrlAddr e) = false) (hbit : bit w 1 = true) :
    engCtrl d req e w = engCtrlSet (peaksCleared d e) req e w := by
  unfold engCtrl
  refine (regAccess_open w _ hacc (.inr hclosed)).trans ?_
  dsimp only
  rw [if_pos hbit]
  rfl

/-- It leaves them alone. -/
theorem engCtrl_within (he : e < 24) (d : Dev) (req : Requester) (w : Nat) :
    RegsWithin (fun k => k / 32 = engCtrlAddr e ∨ 0x10110000 * 32 ≤ k) d
      (engCtrlSet d req e w) := by
  unfold engCtrlSet
  split
  · exact (errResp_logged d req (engCtrlAddr e) errRefused true).2.mono fun _ => Or.inr
  split
  · refine .of_regs ?_
    unfold stage
    split
    all_goals rfl
  · refine (writeFields_within d req w (regFind_engCtrl he) (R := fun k => k / 32 = engCtrlAddr e) ?_).1
    intro f hf
    simp only [List.mem_cons, List.mem_nil_iff, or_false] at hf
    rcases hf with rfl | rfl
    all_goals simp only [FldRow.at, List.getD_cons_zero, Fld.key, Reg.CHAN_ENG_CTRL_WRAP, Reg.CHAN_ENG_CTRL_PEAK_CLR, engCtrlAddr]
    all_goals omega

theorem exec_peakClr {req : Requester} {w : Nat} (he : e < 24) (hacc : accessErr s.d req (engCtrlAddr e) true = 0) :
    ∃ t, exec (.peakClr req e w) s = .next t ∧ t.nv = s.nv ∧ rd t.d (Reg.CHAN_ENG_PEAK_FINISH e) = 0 ∧
      rd t.d (Reg.CHAN_ENG_PEAK_CONTROL e) = 0 ∧ rd t.d (Reg.CHAN_ENG_SMP_PEAK e) = 0 ∧
      rd t.d (Reg.CHAN_ENG_JRNL_PEAK e) = 0 := by
  have hclosed : safeClosed (engCtrlAddr e) = false := by
    clear hacc
    revert e
    show HoldsBelow _ _
    iterate 24 refine .succ ?_ rfl
    exact .zero
  have hwithin := engCtrl_within he (peaksCleared s.d e) req (setBit w 1 true)
  have hdev := engCtrl_clears hacc hclosed (show bit (setBit w 1 true) 1 = true by simp [bit_setBit])
  have hkept (f : Fld) (hf : f.key / 32 ≠ engCtrlAddr e) (hlow : f.key < 0x10110000 * 32) := hwithin f (by omega)
  obtain ⟨hf, hc, hs, hj⟩ := peaksCleared_shows s.d e
  have hkeys (f : Fld) (hf : f = Reg.CHAN_ENG_PEAK_FINISH e ∨ f = Reg.CHAN_ENG_PEAK_CONTROL e ∨ f = Reg.CHAN_ENG_SMP_PEAK e ∨
      f = Reg.CHAN_ENG_JRNL_PEAK e) : f.key / 32 ≠ engCtrlAddr e ∧ f.key < 0x10110000 * 32 := by
    rcases hf with rfl | rfl | rfl | rfl
    all_goals simp only [Fld.key, Reg.CHAN_ENG_PEAK_FINISH, Reg.CHAN_ENG_PEAK_CONTROL, Reg.CHAN_ENG_SMP_PEAK,
      Reg.CHAN_ENG_JRNL_PEAK, engCtrlAddr]
    all_goals omega
  have hall (f : Fld) (hf : f = Reg.CHAN_ENG_PEAK_FINISH e ∨ f = Reg.CHAN_ENG_PEAK_CONTROL e ∨ f = Reg.CHAN_ENG_SMP_PEAK e ∨
      f = Reg.CHAN_ENG_JRNL_PEAK e) := hkept f (hkeys f hf).1 (hkeys f hf).2
  generalize engCtrlSet (peaksCleared s.d e) req e (setBit w 1 true) = g at hdev hall
  exact ⟨_, next_withDev hdev, rfl, (hall _ (Or.inl rfl)).trans hf, (hall _ (Or.inr (Or.inl rfl))).trans hc,
    (hall _ (Or.inr (Or.inr (Or.inl rfl)))).trans hs, (hall _ (Or.inr (Or.inr (Or.inr rfl)))).trans hj⟩

end

/-- Settles O37: a dispatched user run begins at its kernel's entry with its channel's steps settled, which touches no
engine; a run at its limit is stopped; the sample task takes its next start and queues what falls due behind the rest. -/
theorem engineSequencer : Obligations.EngineSequencer := by
  unfold Obligations.EngineSequencer
  intro s e i j n w r k ofs req rest he
  refine ⟨exec_engineChannelRun_waits, exec_engineChannelRun_user, exec_engineChannelRun_stopped, exec_engineRunaway he, ?_, ?_⟩
  · exact fun hstarts => ⟨exec_engineSampleTask he hstarts, exec_engineSampleTask_waits hstarts⟩
  · exact fun hacc _ => exec_peakClr he hacc

end Sys2Proof.Machine
end

section
/-!
PROOFS. The steps of a step program, the end of a RUN step, barrier timeouts, and the close of a measurement window (R166 to
R178, R193).
-/
namespace Sys2Proof.Machine

/-! ### A channel's HOT segment -/

theorem ledRd_append (d : Dev) (a m n : Nat) : ledRd d a (m + n) = ledRd d a m + 256 ^ m * ledRd d (a + m) n := by
  induction m generalizing a with
  | zero => simp [ledRd]
  | succ m ih =>
    rw [Nat.succ_add, ledRd, ih (a + 1), ledRd, Nat.pow_succ', show a + 1 + m = a + (m + 1) by omega]
    rw [Nat.mul_add, ← Nat.mul_assoc, Nat.add_assoc]

theorem hot_append (d : Dev) (c off m n : Nat) : hot d c off (m + n) = hot d c off m + 256 ^ m * hot d c (off + m) n := by
  simp only [hot]
  rw [ledRd_append, Nat.add_assoc]

theorem hot_lt (d : Dev) (c off n : Nat) : hot d c off n < 256 ^ n := ledRd_lt d _ n

/-- The two halves of a double word read as it was written. -/
theorem hot_hotW_halves (d : Dev) (c off v : Nat) : hot (hotW d c off 8 v) c off 4 = v % 2 ^ 32 ∧
    hot (hotW d c off 8 v) c (off + 4) 2 = v / 2 ^ 32 % 2 ^ 16 := by
  have hwhole := hot_hotW_same d c off 8 v
  have hsplit := hot_append (hotW d c off 8 v) c off 4 4
  have hsplit' := hot_append (hotW d c off 8 v) c (off + 4) 2 2
  have hlow := hot_lt (hotW d c off 8 v) c off 4
  have hmid := hot_lt (hotW d c off 8 v) c (off + 4) 2
  simp only [Nat.reducePow, Nat.reduceAdd] at hwhole hsplit hsplit' hlow hmid ⊢
  omega

/-- What a change of a channel leaves of its segments outside `R`, of the SEQ block, and of the timeouts' flag. -/
structure StepKept (R : Nat → Prop) (c : Nat) (d e : Dev) : Prop where
  led : ∀ x, ¬ R x → ledByte e (entryOf c + x) = ledByte d (entryOf c + x)
  seq : e.seq = d.seq
  k : e.k = d.k
  regs : RegsWithin (fun f => f ≠ Reg.SEQ_STAT_BAR_TO.key) d e

section
variable {R : Nat → Prop} {c : Nat} {d e g : Dev}

theorem StepKept.refl (R : Nat → Prop) (c : Nat) (d : Dev) : StepKept R c d d := ⟨fun _ _ => rfl, rfl, rfl, .refl _ _⟩

theorem StepKept.trans (h : StepKept R c d e) (h' : StepKept R c e g) : StepKept R c d g :=
  ⟨fun x hx => (h'.led x hx).trans (h.led x hx), h'.seq.trans h.seq, h'.k.trans h.k, h.regs.trans h'.regs⟩

theorem StepKept.mono {R' : Nat → Prop} (h : StepKept R c d e) (hR : ∀ x, R x → R' x) : StepKept R' c d e :=
  ⟨fun x hx => h.led x fun hr => hx (hR x hr), h.seq, h.k, h.regs⟩

/-- What changes none of this. -/
theorem StepKept.of_parts (h : StepKept R c d e) (hled : g.led = e.led) (hseq : g.seq = e.seq) (hk : g.k = e.k)
    (hregs : g.regs = e.regs) : StepKept R c d g :=
  ⟨fun x hx => (by simp only [ledByte, hled] : ledByte g (entryOf c + x) = ledByte e (entryOf c + x)).trans (h.led x hx),
    hseq.trans h.seq, hk.trans h.k, h.regs.regs hregs⟩

theorem StepKept.ledWr (h : StepKept R c d e) (a n v : Nat) (hR : ∀ x, a ≤ entryOf c + x → entryOf c + x < a + n → R x) :
    StepKept R c d (ledWr e a n v) := by
  refine h.trans ⟨fun x hx => ledByte_ledWr_outside e _ n v ?_, ?_, ?_, ?_⟩
  · refine Decidable.byContradiction fun hin => hx (hR x (by omega) (by omega))
  all_goals rw [ledWr_eq]
  exact .of_regs rfl

theorem StepKept.hotW (h : StepKept R c d e) (off n v : Nat) (hR : ∀ i < n, R (off + i)) : StepKept R c d (hotW e c off n v) :=
  h.ledWr _ n v fun x hlo hhi => by
    have := hR (x - off) (by omega)
    rwa [Nat.add_sub_cancel' (by omega)] at this

theorem StepKept.wr (h : StepKept R c d e) {f : Fld} (v : Nat) (hf : f.key ≠ Reg.SEQ_STAT_BAR_TO.key) : StepKept R c d (wr e f v) :=
  ⟨h.led, h.seq, h.k, h.regs.wr v hf⟩

theorem StepKept.ite {p : Prop} [Decidable p] (h : StepKept R c d e) (h' : StepKept R c d g) :
    StepKept R c d (if p then e else g) := by
  split
  · exact h
  · exact h'

theorem StepKept.foldl {α : Type} (l : List α) (step : Dev → α → Dev) (hstep : ∀ e x, x ∈ l → StepKept R c e (step e x)) (d : Dev) :
    StepKept R c d (l.foldl step d) := by
  induction l generalizing d with
  | nil => exact .refl R c d
  | cons x l ih => exact (hstep d x (by simp)).trans (ih (fun e y hy => hstep e y (by simp [hy])) _)

theorem StepKept.hot (h : StepKept R c d e) {off n : Nat} (hR : ∀ i < n, ¬ R (off + i)) : hot e c off n = hot d c off n := by
  unfold Machine.hot
  induction n generalizing off with
  | zero => rfl
  | succ n ih =>
    have hnext := ih (off := off + 1) fun i hi => by rw [show off + 1 + i = off + (i + 1) by omega]; exact hR _ (by omega)
    rw [ledRd, ledRd, h.led off (hR 0 (by omega)), Nat.add_assoc, hnext]

end

/-- A field of HOT that another write does not touch. -/
theorem hot_hotW_ne (d : Dev) (c : Nat) {off n off' n' : Nat} (v : Nat) (h : off' + n' ≤ off ∨ off + n ≤ off') :
    hot (hotW d c off n v) c off' n' = hot d c off' n' :=
  ((StepKept.refl (fun x => off ≤ x ∧ x < off + n) c d).hotW off n v fun i hi => by omega).hot fun i hi => by omega

/-! ### The operations of a step -/

/-- The bytes that taking a demand writes: the demand, the regulation flags, and the LOG segment. -/
def demandAt (x : Nat) : Prop := (0x40 ≤ x ∧ x < 0x60) ∨ (0x78 ≤ x ∧ x < 0x7C) ∨ 0x200 ≤ x

section
variable {R : Nat → Prop} {c : Nat} {d e : Dev}

theorem StepKept.logEvent (h : StepKept R c d e) (hlog : ∀ x, 0x200 ≤ x → R x) (typ prog step : Nat) (data : List Byte) :
    StepKept R c d (logEvent e c typ prog step data) := by
  unfold Machine.logEvent
  dsimp only
  split
  · exact h.ledWr _ 4 _ fun x hlo _ => hlog x (by unfold logOff at hlo; omega)
  · exact h.trans ⟨fun _ _ => rfl, rfl, rfl, .of_regs rfl⟩

theorem StepKept.setRegFlag (h : StepKept demandAt c d e) (b : Nat) (v : Bool) : StepKept demandAt c d (setRegFlag e c b v) :=
  h.hotW 0x78 4 _ fun i hi => by unfold demandAt; omega

theorem StepKept.setRegCh (h : StepKept R c d e) (f : RegCh → RegCh) : StepKept R c d (setRegCh e c f) :=
  h.of_parts rfl rfl rfl rfl

theorem StepKept.setRng (h : StepKept R c d e) (f : RngSt → RngSt) : StepKept R c d (setRng e c f) :=
  h.of_parts rfl rfl rfl rfl

theorem StepKept.setSerCh (h : StepKept R c d e) (f : SerCh → SerCh) : StepKept R c d (setSerCh e c f) :=
  h.of_parts rfl rfl rfl rfl

theorem StepKept.setContact (h : StepKept R c d e) (x : Contact) : StepKept R c d (setContact e c x) :=
  h.of_parts rfl rfl rfl rfl

theorem StepKept.setGradeCh (h : StepKept R c d e) (f : GradeCh → GradeCh) : StepKept R c d (setGradeCh e c f) :=
  h.of_parts rfl rfl rfl rfl

end

/-- The words that taking a demand writes. -/
def demandWords (d : Dev) (c : Nat) (ws : List Nat) : Dev :=
  (ws.mapIdx (fun i w => (i, w))).foldl (fun d iw => hotW d c (0x40 + 4 * iw.1) 4 iw.2) d

theorem demandWords_kept (d : Dev) (c : Nat) {ws : List Nat} (hlen : ws.length ≤ 8) : StepKept demandAt c d (demandWords d c ws) := by
  refine StepKept.foldl _ _ (fun e iw hiw => ?_) d
  obtain ⟨j, hj, rfl⟩ := List.mem_mapIdx.mp hiw
  exact (StepKept.refl demandAt c e).hotW _ 4 _ fun i hi => by unfold demandAt; dsimp only; omega

/-- The first word of a demand is its mode. -/
theorem demandWords_mode (d : Dev) (c m : Nat) {ws : List Nat} (hlen : ws.length ≤ 7) :
    hot (demandWords d c (m :: ws)) c 0x40 1 = m % 256 := by
  have hmode : hot (hotW d c 0x40 4 m) c 0x40 1 = m % 256 := by
    have hwhole := hot_hotW_same d c 0x40 4 m
    have hsplit := hot_append (hotW d c 0x40 4 m) c 0x40 1 3
    have hlow := hot_lt (hotW d c 0x40 4 m) c 0x40 1
    simp only [Nat.reducePow, Nat.reduceAdd] at hwhole hsplit hlow ⊢
    omega
  have hrest : StepKept (fun x => 0x44 ≤ x) c (hotW d c 0x40 4 m)
      ((ws.mapIdx (fun i w => (i + 1, w))).foldl (fun d iw => hotW d c (0x40 + 4 * iw.1) 4 iw.2) (hotW d c 0x40 4 m)) := by
    refine StepKept.foldl _ _ (fun e iw hiw => ?_) _
    obtain ⟨j, hj, rfl⟩ := List.mem_mapIdx.mp hiw
    exact (StepKept.refl _ c e).hotW _ 4 _ fun i hi => by dsimp only; omega
  unfold demandWords
  rw [List.mapIdx_cons, List.foldl_cons]
  exact (hrest.hot fun i hi => by omega).trans hmode

/-- Taking a demand of eight words writes the demand and what refuses it, and nothing of the SEQ block. -/
theorem takeDemand_kept (d : Dev) (c m : Nat) {ws : List Nat} (hlen : ws.length ≤ 7) (manual : Bool) :
    StepKept demandAt c d (takeDemand d c (m :: ws) manual) ∧ demMode (takeDemand d c (m :: ws) manual) c = m % 256 := by
  have hwords := demandWords_kept d c (ws := (m % 2 ^ 9) :: ws) (by simp only [List.length_cons]; omega)
  have hmode := demandWords_mode d c (m % 2 ^ 9) hlen
  rw [Nat.mod_mod_of_dvd _ (by decide : 256 ∣ 2 ^ 9)] at hmode
  suffices h : StepKept (fun x => (0x78 ≤ x ∧ x < 0x7C) ∨ 0x200 ≤ x) c (demandWords d c ((m % 2 ^ 9) :: ws))
      (takeDemand d c (m :: ws) manual) from
    ⟨hwords.trans (h.mono fun x hx => by unfold demandAt; omega), (h.hot fun i hi => by omega).trans hmode⟩
  have hflag {e : Dev} (h : StepKept (fun x => (0x78 ≤ x ∧ x < 0x7C) ∨ 0x200 ≤ x) c (demandWords d c ((m % 2 ^ 9) :: ws)) e)
      (b : Nat) (v : Bool) : StepKept (fun x => (0x78 ≤ x ∧ x < 0x7C) ∨ 0x200 ≤ x) c (demandWords d c ((m % 2 ^ 9) :: ws))
      (setRegFlag e c b v) := h.hotW 0x78 4 _ fun i hi => by omega
  unfold takeDemand
  extract_lets ws' d1 d2 d3 f mode d4 d5 d6 d7
  have h1 : d1 = demandWords d c ((m % 2 ^ 9) :: ws) := by
    unfold d1 demandWords ws'
    rw [List.getD_cons_zero, List.set_cons_zero]
  have h3 : StepKept (fun x => (0x78 ≤ x ∧ x < 0x7C) ∨ 0x200 ≤ x) c (demandWords d c ((m % 2 ^ 9) :: ws)) d3 := by
    unfold d3 d2
    rw [h1]
    exact (hflag (hflag (hflag (.refl _ _ _) 14 false) 16 false) 17 manual).setRegCh _
  have hdemand : Reg.CHAN_STAT_DEMAND_EV.key ≠ Reg.SEQ_STAT_BAR_TO.key := by decide
  have hho : Reg.CHAN_STAT_HO_EV.key ≠ Reg.SEQ_STAT_BAR_TO.key := by decide
  clear_value d3
  refine StepKept.ite ?_ (StepKept.ite ?_ h3)
  · exact ((hflag (h3.setRegCh _) 14 true).wr (f := Reg.CHAN_STAT_DEMAND_EV) _ hdemand).logEvent (fun x hx => Or.inr hx) _ _ _ _
  · exact ((hflag (h3.setRegCh _) 16 true).wr (f := Reg.CHAN_STAT_HO_EV) _ hho).logEvent (fun x hx => Or.inr hx) _ _ _ _

theorem takeOff_kept (d : Dev) (c : Nat) : StepKept demandAt c d (takeOff d c) ∧ demMode (takeOff d c) c = 0 :=
  takeDemand_kept d c 0 (by decide) false

theorem hot_byte_split (d : Dev) (c st pause : Nat) : hot (hotW d c 0x140 1 (st % 16 + 16 * (pause % 16))) c 0x140 1 % 16 = st % 16 := by
  rw [hot_hotW_same]
  omega

theorem countUser_kept (d : Dev) (c : Nat) (up : Bool) (R : Nat → Prop) : StepKept R c d (countUser d c up) := by
  unfold countUser
  refine StepKept.ite ((StepKept.refl R c d).wr (f := Reg.SEQ_SLOT_INFO_USERS (sqSlot d c)) _ ?_) (.refl R c d)
  simp only [Fld.key, Reg.SEQ_SLOT_INFO_USERS, Reg.SEQ_STAT_BAR_TO]
  omega

/-- A channel's program is in the state that is set. -/
theorem setSq_kept (d : Dev) (c st pause : Nat) : StepKept (fun x => x = 0x140) c d (setSq d c st pause) ∧
    sqState (setSq d c st pause) c = st % 16 := by
  unfold setSq
  have hout := countUser_kept d c false (fun x => x = 0x140)
  have hset := hot_byte_split (countUser d c false) c st pause
  have hwrite := hout.hotW 0x140 1 (st % 16 + 16 * (pause % 16)) fun i hi => by omega
  have hin := countUser_kept (hotW (countUser d c false) c 0x140 1 (st % 16 + 16 * (pause % 16))) c true
  refine ⟨hwrite.trans (hin _), ?_⟩
  exact (congrArg (· % 16) ((hin (fun _ => False)).hot fun i _ h => h)).trans hset

/-- No barrier and no channel's wait is in a ledger or a register. -/
theorem passBarrier_eq (d : Dev) (c : Nat) : ∃ q, passBarrier d c = { d with seq := q } := by
  unfold passBarrier
  split
  all_goals exact ⟨_, rfl⟩

theorem setBarriers_eq (l : List Nat) (f : Barrier → Barrier) (d : Dev) :
    ∃ q, l.foldl (fun d key => setBarrier d key f) d = { d with seq := q } := by
  induction l generalizing d with
  | nil => exact ⟨_, rfl⟩
  | cons key l ih =>
    obtain ⟨q, hq⟩ := ih (setBarrier d key f)
    exact ⟨q, hq⟩

theorem unarrive_eq (d : Dev) (c : Nat) : ∃ q, unarrive d c = { d with seq := q } := by
  obtain ⟨q, hq⟩ := passBarrier_eq d c
  unfold unarrive
  dsimp only
  rw [hq]
  exact setBarriers_eq _ _ _

theorem setEnd_eq (d : Dev) (c : Nat) : ∃ v f, setEnd d c = setSeqCh (ledWr d (entryOf c + 0x288) 8 v) c f := by
  unfold setEnd
  dsimp only
  rw [show ctrlOff c + 0x88 = entryOf c + 0x288 by simp [ctrlOff, segOff]]
  exact ⟨_, _, rfl⟩

theorem contactAbort_kept (d : Dev) (c : Nat) : StepKept (fun x => 0x200 ≤ x) c d (contactAbort d c) := by
  unfold contactAbort
  dsimp only
  refine StepKept.ite (.refl _ c d) ?_
  unfold contactRecord
  extract_lets b d1 d2 d3 d4 d5 d6
  have h0 : StepKept (fun x => 0x200 ≤ x) c d (setContact d c {}) := (StepKept.refl _ c d).setContact {}
  have hb : b = entryOf c + 0x1EC0 := rfl
  clear_value b
  have h1 : StepKept (fun x => 0x200 ≤ x) c d d1 := h0.ledWr _ 8 _ fun x _ _ => by omega
  have h2 : StepKept (fun x => 0x200 ≤ x) c d d2 := h1.ledWr _ 4 _ fun x _ _ => by omega
  have h3 : StepKept (fun x => 0x200 ≤ x) c d d3 := h2.ledWr _ 3 _ fun x _ _ => by omega
  have h4 : StepKept (fun x => 0x200 ≤ x) c d d4 := h3.ledWr _ 1 _ fun x _ _ => by omega
  have h5 : StepKept (fun x => 0x200 ≤ x) c d d5 := h4.ledWr _ 2 _ fun x _ _ => by omega
  have h6 : StepKept (fun x => 0x200 ≤ x) c d d6 := h5.setRng _
  clear_value d6
  unfold captureRc
  dsimp only
  split
  · exact h6.setSerCh _
  · exact h6

theorem noWindow_kept (d : Dev) (c kind status pset k : Nat) (R : Nat → Prop) : StepKept R c d (noWindow d c kind status pset k) := by
  unfold noWindow
  dsimp only
  split
  · exact (((StepKept.refl R c d).wr (f := Reg.CHAN_GRD_STAT_BUSY_EV) _ (by decide)).wr
      (f := Reg.CHAN_GRD_BUSY_CNT_CNT) _ (by decide)).setGradeCh _
  · exact (StepKept.refl R c d).setGradeCh _

theorem openWin_kept (d : Dev) (c kind pset k : Nat) (R : Nat → Prop) : StepKept R c d (openWin d c kind pset k) := by
  unfold openWin
  extract_lets ws g w opened
  have hopened (e : Dev) (he : StepKept R c d e) : StepKept R c d (opened e) := by
    unfold opened
    extract_lets e'
    have hlocked : StepKept R c d e' := StepKept.ite he (he.setRng _)
    exact StepKept.ite (hlocked.setRegCh _) hlocked
  clear_value opened
  refine StepKept.ite (noWindow_kept _ _ _ _ _ _ R) (StepKept.ite (noWindow_kept _ _ _ _ _ _ R)
    (StepKept.ite (hopened _ ?_) (StepKept.ite (hopened _ ?_) (noWindow_kept _ _ _ _ _ _ R))))
  all_goals exact (StepKept.refl R c d).setGradeCh _

/-- A grading request opens a window, or marks or judges a cycle in one flag byte of HOT. -/
theorem gradeRequest_kept (d : Dev) (c req : Nat) : StepKept (fun x => x = 0x1ED) c d (gradeRequest d c req) := by
  have hflag (v : Nat) (f : GradeCh → GradeCh) : StepKept (fun x => x = 0x1ED) c d (setGradeCh (hotW d c 0x1ED 1 v) c f) :=
    ((StepKept.refl _ c d).hotW 0x1ED 1 v fun i hi => by omega).setGradeCh f
  unfold gradeRequest
  dsimp only
  split
  · exact hflag _ _
  · exact openWin_kept d c _ _ _ _
  · exact openWin_kept d c _ _ _ _
  · exact openWin_kept d c _ _ _ _
  · unfold holdRequest
    exact StepKept.ite (noWindow_kept _ _ _ _ _ _ _) (StepKept.ite (noWindow_kept _ _ _ _ _ _ _)
      (StepKept.ite ((StepKept.refl _ c d).setGradeCh _) (noWindow_kept _ _ _ _ _ _ _)))
  · exact hflag _ _
  · exact .refl _ c d

/-! ### A channel of the SEQ block -/

theorem seqCh_setSeqCh (d : Dev) (c : Nat) (f : SeqCh → SeqCh) : seqCh (setSeqCh d c f) c = f (seqCh d c) :=
  SMap.get_mod_same _ _ _ _

theorem barrier_setBarrier (d : Dev) (key : Nat) (f : Barrier → Barrier) : barrier (setBarrier d key f) key = f (barrier d key) :=
  SMap.get_mod_same _ _ _ _

theorem seqCh_congr {d e : Dev} (h : e.seq = d.seq) (c : Nat) : seqCh e c = seqCh d c := by simp only [seqCh, h]

/-- The program of a channel whose slot and whose programs stay. -/
theorem progOf_congr {d e : Dev} {c : Nat} (hseq : e.seq = d.seq) (hslot : hot e c 0x141 1 = hot d c 0x141 1) :
    progOf e c = progOf d c := by
  simp only [progOf, progAt, sqSlot, hseq, hslot]

/-! ### Going to a step -/

theorem hot_setStep (d : Dev) (c : Nat) {i : Nat} (hi : i < 1024) : sqStep (setStep d c i) c = i ∧
    sqDepth (setStep d c i) c = sqDepth d c := by
  have hword := hot_lt d c 0x142 2
  have hset := hot_hotW_same d c 0x142 2 (i % 1024 + 1024 * (hot d c 0x142 2 / 1024))
  simp only [Nat.reducePow] at hword hset
  unfold sqStep sqDepth setStep
  rw [hset]
  unfold bits
  omega

/-- A step within the program is the next that the channel executes. -/
theorem goStep_within {d : Dev} {c i : Nat} (hi : i < (progOf d c).steps.length) (hlen : (progOf d c).steps.length ≤ 1024) :
    (goStep d c i).regs = d.regs ∧ sqStep (goStep d c i) c = i ∧ sqDepth (goStep d c i) c = sqDepth d c ∧
    (seqCh (goStep d c i) c).walk = true ∧
    ∀ off n, off + n ≤ 0x142 ∨ 0x144 ≤ off → hot (goStep d c i) c off n = hot d c off n := by
  have hgo : goStep d c i = setSeqCh (setStep d c i) c (fun s => { s with walk := true }) := if_pos hi
  rw [hgo]
  obtain ⟨hstep, hdepth⟩ := hot_setStep d c (by omega : i < 1024)
  refine ⟨hotW_regs d c _ _ _, hstep, hdepth, congrArg SeqCh.walk (seqCh_setSeqCh _ c _), fun off n hoff => ?_⟩
  refine (hot_congr (d := setStep d c i) (d1 := setSeqCh (setStep d c i) c _) rfl c off n).trans ?_
  unfold setStep
  exact hot_hotW_ne d c (off := 0x142) (n := 2) _ hoff

section
variable {s : State} {ch : Nat}

/-- A row of the type of the step that a channel has still to execute. -/
theorem stepRow_taken {d : Dev} {c t : Nat} (f : Dev → Nat → Dev) (hwalk : (seqCh d c).walk = true)
    (htype : swType (stepOf d c) = t) : stepRow d c t f = f d c :=
  if_pos (by simp [hwalk, htype])

/-! ### RUN -/

/-- The words of a RUN step's demand, its mode first. -/
theorem runDemand_words (w : List Byte) : ∃ m ws, runDemand w = m :: ws ∧ ws.length ≤ 7 ∧ m % 256 = swMode w := by
  have hmode : swMode w < 16 := Nat.mod_lt _ (by decide)
  unfold runDemand
  dsimp only
  split
  case h_7 h =>
    refine ⟨_, _, rfl, by simp, ?_⟩
    cases swUseV w <;> simp [b2n, h]
  all_goals exact ⟨_, _, rfl, by simp, by omega⟩

/-- The counts of a RUN step begin at zero. -/
def runCounts (d : Dev) (c : Nat) : Dev :=
  let d := hotW (clearTerms d c) c 0x146 2 0
  hotW (hotW d c 0x148 4 0) c 0x150 16 0

theorem runCounts_zero (d : Dev) (c : Nat) : hot (runCounts d c) c 0x148 4 = 0 ∧ hot (runCounts d c) c 0x150 8 = 0 ∧
    hot (runCounts d c) c 0x158 8 = 0 ∧ hot (runCounts d c) c 0x140 1 = hot d c 0x140 1 ∧ (runCounts d c).seq = d.seq ∧
    (runCounts d c).k = d.k := by
  unfold runCounts
  extract_lets d1
  have hclear : StepKept (fun x => 0x141 ≤ x) c d d1 := by
    unfold d1 clearTerms
    dsimp only
    exact (((((StepKept.refl _ c d).hotW 0x145 1 0 fun i _ => by omega).hotW 0x1B8 4 0 fun i _ => by omega).hotW 0x1BC 1 _
      fun i _ => by omega).hotW 0x1BD 1 0 fun i _ => by omega).hotW 0x146 2 0 fun i _ => by omega
  have hall := (hclear.hotW 0x148 4 0 fun i _ => by omega).hotW 0x150 16 0 fun i _ => by omega
  have hcount : hot (hotW d1 c 0x148 4 0) c 0x148 4 = 0 := hot_hotW_same d1 c 0x148 4 0
  clear_value d1
  generalize hotW d1 c 0x148 4 0 = d2 at hall hcount
  have hcharge := hot_hotW_same d2 c 0x150 16 0
  have hsplit := hot_append (hotW d2 c 0x150 16 0) c 0x150 8 8
  simp only [Nat.reducePow, Nat.reduceAdd, Nat.zero_mod] at hcharge hsplit
  refine ⟨(hot_hotW_ne d2 c 0 (by omega)).trans hcount, by omega, by omega, ?_, hall.seq, hall.k⟩
  exact hall.hot fun i hi => by omega

theorem exec_stepRun (hwalk : (seqCh s.d ch).walk = true) (htype : swType (stepOf s.d ch) = 1) :
    ∃ t, exec (.stepRun ch) s = .next t ∧ t.nv = s.nv ∧ t.pending = s.pending ∧ sqState t.d ch = sqRUNNING ∧
      (seqCh t.d ch).walk = false ∧ (seqCh t.d ch).startK = some s.d.k ∧ hot t.d ch 0x148 4 = 0 ∧ hot t.d ch 0x150 8 = 0 ∧
      hot t.d ch 0x158 8 = 0 ∧ demMode t.d ch = swMode (stepOf s.d ch) := by
  obtain ⟨m, ws, hdemand, hlen, hmode⟩ := runDemand_words (stepOf s.d ch)
  have hdev : stepRow s.d ch 1 stepRun = stepRun s.d ch := stepRow_taken stepRun hwalk htype
  suffices h : sqState (stepRun s.d ch) ch = sqRUNNING ∧ (seqCh (stepRun s.d ch) ch).walk = false ∧
      (seqCh (stepRun s.d ch) ch).startK = some s.d.k ∧ hot (stepRun s.d ch) ch 0x148 4 = 0 ∧
      hot (stepRun s.d ch) ch 0x150 8 = 0 ∧ hot (stepRun s.d ch) ch 0x158 8 = 0 ∧
      demMode (stepRun s.d ch) ch = swMode (stepOf s.d ch) by
    generalize stepRun s.d ch = g at hdev h
    exact ⟨_, next_withDev hdev, rfl, rfl, h⟩
  unfold stepRun
  extract_lets w d1 d2 d3 d4 d5 d6 d7
  obtain ⟨h1, hrunning⟩ := setSq_kept s.d ch sqRUNNING 0
  obtain ⟨htime, hcharge, henergy, hstate, hseq, hk⟩ := runCounts_zero d1 ch
  have h3 : d3 = runCounts d1 ch := rfl
  rw [← h3] at htime hcharge henergy hstate hseq hk
  have hk3 : d3.k = s.d.k := hk.trans h1.k
  have hstate3 : sqState d3 ch = sqRUNNING := (congrArg (· % 16) hstate).trans hrunning
  clear_value d3
  have h4 : StepKept (fun x => 0x160 ≤ x ∧ x < 0x164) ch d3 d4 :=
    (StepKept.refl _ ch d3).hotW 0x160 4 _ fun i hi => by omega
  clear_value d4
  have h5 : (seqCh d5 ch).walk = false ∧ (seqCh d5 ch).startK = some d4.k := by
    unfold d5
    rw [seqCh_setSeqCh]
    exact ⟨rfl, rfl⟩
  have h5led : d5.led = d4.led := rfl
  clear_value d5
  have h6 : d6 = setSeqCh (takeDemand d5 ch (m :: ws) false) ch (fun s => { s with keep := m :: ws }) := by
    unfold d6 writeDemand
    rw [← hdemand]
  obtain ⟨htaken, hdem⟩ := takeDemand_kept d5 ch m hlen false
  generalize takeDemand d5 ch (m :: ws) false = x at h6 htaken hdem
  have h6seq : (seqCh d6 ch).walk = (seqCh x ch).walk ∧ (seqCh d6 ch).startK = (seqCh x ch).startK := by
    rw [h6, seqCh_setSeqCh]
    exact ⟨rfl, rfl⟩
  have h6led : d6.led = x.led := by rw [h6]; rfl
  clear_value d6
  have h7led : d7.led = d6.led := rfl
  have h7seq : d7.seq = d6.seq := rfl
  clear_value d7
  have hgrade := gradeRequest_kept d7 ch (swGrade w)
  have hfield (off n : Nat) (hdis : ∀ i < n, ¬ demandAt (off + i)) (hflag : off + n ≤ 0x160) :
      hot (gradeRequest d7 ch (swGrade w)) ch off n = hot d3 ch off n :=
    (hgrade.hot fun i hi => by omega).trans ((hot_congr (h7led.trans h6led) ch off n).trans ((htaken.hot hdis).trans
      ((hot_congr h5led ch off n).trans (h4.hot fun i hi => by omega))))
  have hseqEnd : seqCh (gradeRequest d7 ch (swGrade w)) ch = seqCh d6 ch := seqCh_congr (hgrade.seq.trans h7seq) ch
  have hseqTaken : seqCh x ch = seqCh d5 ch := seqCh_congr htaken.seq ch
  have hdem' : hot (gradeRequest d7 ch (swGrade w)) ch 0x40 1 = hot x ch 0x40 1 :=
    (hgrade.hot fun i hi => by omega).trans (hot_congr (h7led.trans h6led) ch _ _)
  refine ⟨?_, ?_, ?_, ?_, ?_, ?_, ?_⟩
  · exact (congrArg (· % 16) (hfield 0x140 1 (fun i hi => by unfold demandAt; omega) (by decide))).trans hstate3
  · rw [hseqEnd, h6seq.1, hseqTaken, h5.1]
  · rw [hseqEnd, h6seq.2, hseqTaken, h5.2, h4.k, hk3]
  · rw [hfield 0x148 4 (fun i hi => by unfold demandAt; omega) (by decide), htime]
  · rw [hfield 0x150 8 (fun i hi => by unfold demandAt; omega) (by decide), hcharge]
  · rw [hfield 0x158 8 (fun i hi => by unfold demandAt; omega) (by decide), henergy]
  · exact hdem'.trans (hdem.trans hmode)

/-! ### LOOP, NEXT and BRANCH -/

theorem hot_setDepth (d : Dev) (c : Nat) {n : Nat} (hn : n < 8) : sqDepth (setDepth d c n) c = n ∧
    sqStep (setDepth d c n) c = sqStep d c := by
  have hword := hot_lt d c 0x142 2
  have hset := hot_hotW_same d c 0x142 2 (hot d c 0x142 2 % 1024 + 1024 * (n % 8) + 8192 * (hot d c 0x142 2 / 8192))
  simp only [Nat.reducePow] at hword hset
  have hdef : setDepth d c n = hotW d c 0x142 2 (hot d c 0x142 2 % 1024 + 1024 * (n % 8) + 8192 * (hot d c 0x142 2 / 8192)) := rfl
  unfold sqStep sqDepth
  rw [hdef, hset]
  unfold bits
  omega

/-- An entry of the loop stack, and what pushing it leaves. -/
theorem setLoop_shows (d : Dev) (c i : Nat) {rem idx : Nat} (hrem : rem < 2 ^ 32) (hidx : idx < 1024) :
    loopRem (setLoop d c i rem idx) c i = rem ∧ loopIdx (setLoop d c i rem idx) c i = idx ∧
    ∀ off n, off + n ≤ 0x178 → hot (setLoop d c i rem idx) c off n = hot d c off n := by
  obtain ⟨hlo, hhi⟩ := hot_hotW_halves d c (0x178 + 8 * i) (rem % 2 ^ 32 + 2 ^ 32 * (idx % 1024))
  refine ⟨hlo.trans (by omega), ?_, fun off n h => hot_hotW_ne d c _ (Or.inl (by omega))⟩
  unfold loopIdx setLoop
  rw [show 0x17C + 8 * i = 0x178 + 8 * i + 4 by omega, hhi]
  omega

theorem exec_stepLoop (hwalk : (seqCh s.d ch).walk = true) (hlen : (progOf s.d ch).steps.length ≤ 1024)
    (htype : swType (stepOf s.d ch) = 2) (hdepth : sqDepth s.d ch < 4)
    (hnext : sqStep s.d ch + 1 < (progOf s.d ch).steps.length) : ∃ t, exec (.stepLoop ch) s = .next t ∧ t.nv = s.nv ∧
      t.d.regs = s.d.regs ∧ sqStep t.d ch = sqStep s.d ch + 1 ∧ sqDepth t.d ch = sqDepth s.d ch + 1 ∧
      loopRem t.d ch (sqDepth s.d ch) = swA (stepOf s.d ch) ∧ loopIdx t.d ch (sqDepth s.d ch) = sqStep s.d ch := by
  have hdev := stepRow_taken stepLoop hwalk htype
  unfold stepLoop at hdev
  dsimp only at hdev
  obtain ⟨hrem, hidx, hkept⟩ := setLoop_shows s.d ch (sqDepth s.d ch) (leAt_word_lt (stepOf s.d ch) 4)
    (Nat.mod_lt _ (by decide) : sqStep s.d ch < 1024)
  have hregs : (setLoop s.d ch (sqDepth s.d ch) (swA (stepOf s.d ch)) (sqStep s.d ch)).regs = s.d.regs := hotW_regs _ _ _ _ _
  have hseq : (setLoop s.d ch (sqDepth s.d ch) (swA (stepOf s.d ch)) (sqStep s.d ch)).seq = s.d.seq := by rw [setLoop, hotW_eq]
  change loopRem (setLoop s.d ch (sqDepth s.d ch) (swA (stepOf s.d ch)) (sqStep s.d ch)) ch _ = _ at hrem
  change loopIdx (setLoop s.d ch (sqDepth s.d ch) (swA (stepOf s.d ch)) (sqStep s.d ch)) ch _ = _ at hidx
  change ∀ off n, _ → hot (setLoop s.d ch (sqDepth s.d ch) (swA (stepOf s.d ch)) (sqStep s.d ch)) ch off n = _ at hkept
  generalize setLoop s.d ch (sqDepth s.d ch) (swA (stepOf s.d ch)) (sqStep s.d ch) = d1 at hdev hrem hidx hkept hregs hseq
  obtain ⟨hdepth', -⟩ := hot_setDepth d1 ch (by omega : sqDepth s.d ch + 1 < 8)
  have hkept' (off n : Nat) (h : off + n ≤ 0x142 ∨ 0x144 ≤ off) :
      hot (setDepth d1 ch (sqDepth s.d ch + 1)) ch off n = hot d1 ch off n := hot_hotW_ne d1 ch _ h
  have hregs' : (setDepth d1 ch (sqDepth s.d ch + 1)).regs = d1.regs := hotW_regs _ _ _ _ _
  have hseq' : (setDepth d1 ch (sqDepth s.d ch + 1)).seq = d1.seq := by rw [setDepth, hotW_eq]
  generalize setDepth d1 ch (sqDepth s.d ch + 1) = d2 at hdev hdepth' hkept' hregs' hseq'
  have hprog : progOf d2 ch = progOf s.d ch := progOf_congr (hseq'.trans hseq)
    ((hkept' 0x141 1 (by decide)).trans (hkept 0x141 1 (by decide)))
  obtain ⟨hgregs, hgstep, hgdepth, -, hgkept⟩ := goStep_within (d := d2) (c := ch) (i := sqStep s.d ch + 1)
    (by rw [hprog]; exact hnext) (by rw [hprog]; exact hlen)
  generalize goStep d2 ch (sqStep s.d ch + 1) = g at hdev hgregs hgstep hgdepth hgkept
  refine ⟨_, next_withDev hdev, rfl, hgregs.trans (hregs'.trans hregs), hgstep, hgdepth.trans hdepth', ?_, ?_⟩
  · exact ((hgkept _ 4 (Or.inr (by omega))).trans (hkept' _ 4 (Or.inr (by omega)))).trans hrem
  · exact (congrArg (· % 1024) ((hgkept _ 2 (Or.inr (by omega))).trans (hkept' _ 2 (Or.inr (by omega))))).trans hidx

end

end Sys2Proof.Machine
end

section
/-!
PROOFS. NEXT, BRANCH, BARRIER and END, what the step kernel does with a channel it has to treat, and the close of a
measurement window (R168 to R178, R193).
-/
namespace Sys2Proof.Machine

section
variable {s : State} {ch : Nat}

/-! ### NEXT and BRANCH -/

theorem setLoop_keeps (d : Dev) (c i rem idx : Nat) : (setLoop d c i rem idx).regs = d.regs ∧ (setLoop d c i rem idx).seq = d.seq := by
  rw [setLoop, hotW_eq]
  exact ⟨rfl, rfl⟩

theorem setDepth_keeps (d : Dev) (c n : Nat) : (setDepth d c n).regs = d.regs ∧ (setDepth d c n).seq = d.seq ∧
    hot (setDepth d c n) c 0x141 1 = hot d c 0x141 1 := by
  refine ⟨hotW_regs _ _ _ _ _, by rw [setDepth, hotW_eq], ?_⟩
  exact hot_hotW_ne d c _ (by decide)

theorem exec_stepNext_repeats (hwalk : (seqCh s.d ch).walk = true) (hlen : (progOf s.d ch).steps.length ≤ 1024)
    (htype : swType (stepOf s.d ch) = 3) (hleft : 1 < loopRem s.d ch (sqDepth s.d ch - 1))
    (hnext : loopIdx s.d ch (sqDepth s.d ch - 1) + 1 < (progOf s.d ch).steps.length) : ∃ t,
      exec (.stepNext ch) s = .next t ∧ t.d.regs = s.d.regs ∧ sqDepth t.d ch = sqDepth s.d ch ∧
      sqStep t.d ch = loopIdx s.d ch (sqDepth s.d ch - 1) + 1 ∧
      loopRem t.d ch (sqDepth s.d ch - 1) = loopRem s.d ch (sqDepth s.d ch - 1) - 1 := by
  have hdev := stepRow_taken stepNext hwalk htype
  unfold stepNext at hdev
  dsimp only at hdev
  rw [if_pos hleft] at hdev
  generalize hn : sqDepth s.d ch - 1 = n at hdev hnext ⊢
  generalize hpasses : loopRem s.d ch n = m at hdev ⊢
  have hm : m < 2 ^ 32 := by rw [← hpasses]; exact hot_word_lt _ _ _
  have hidx : loopIdx s.d ch n < 1024 := Nat.mod_lt _ (by decide)
  generalize loopIdx s.d ch n = i at hdev hnext hidx ⊢
  obtain ⟨hrem, -, hkept⟩ := setLoop_shows s.d ch n (by omega : m - 1 < 2 ^ 32) hidx
  obtain ⟨hregs, hseq⟩ := setLoop_keeps s.d ch n (m - 1) i
  generalize setLoop s.d ch n (m - 1) i = d1 at hdev hrem hkept hregs hseq
  have hprog : progOf d1 ch = progOf s.d ch := progOf_congr hseq (hkept 0x141 1 (by decide))
  obtain ⟨hgregs, hgstep, hgdepth, -, hgkept⟩ := goStep_within (d := d1) (c := ch) (i := i + 1)
    (by rw [hprog]; exact hnext) (by rw [hprog]; exact hlen)
  generalize goStep d1 ch (i + 1) = g at hdev hgregs hgstep hgdepth hgkept
  refine ⟨_, next_withDev hdev, hgregs.trans hregs, hgdepth.trans ?_, hgstep, ?_⟩
  · exact congrArg (fun x => bits x 10 3) (hkept 0x142 2 (by decide))
  · exact (hgkept _ 4 (Or.inr (by omega))).trans hrem

theorem exec_stepNext_goes (hwalk : (seqCh s.d ch).walk = true) (hlen : (progOf s.d ch).steps.length ≤ 1024)
    (htype : swType (stepOf s.d ch) = 3) (hdepth : 1 ≤ sqDepth s.d ch ∧ sqDepth s.d ch ≤ 4)
    (hleft : loopRem s.d ch (sqDepth s.d ch - 1) ≤ 1) (hnext : sqStep s.d ch + 1 < (progOf s.d ch).steps.length) : ∃ t,
      exec (.stepNext ch) s = .next t ∧ t.d.regs = s.d.regs ∧ sqDepth t.d ch = sqDepth s.d ch - 1 ∧
      sqStep t.d ch = sqStep s.d ch + 1 := by
  have hdev := stepRow_taken stepNext hwalk htype
  unfold stepNext at hdev
  dsimp only at hdev
  rw [if_neg (by omega)] at hdev
  obtain ⟨hpopped, -⟩ := hot_setDepth s.d ch (by omega : sqDepth s.d ch - 1 < 8)
  obtain ⟨hregs, hseq, hslot⟩ := setDepth_keeps s.d ch (sqDepth s.d ch - 1)
  generalize setDepth s.d ch (sqDepth s.d ch - 1) = d1 at hdev hpopped hregs hseq hslot
  have hprog : progOf d1 ch = progOf s.d ch := progOf_congr hseq hslot
  obtain ⟨hgregs, hgstep, hgdepth, -, -⟩ := goStep_within (d := d1) (c := ch) (i := sqStep s.d ch + 1)
    (by rw [hprog]; exact hnext) (by rw [hprog]; exact hlen)
  generalize goStep d1 ch (sqStep s.d ch + 1) = g at hdev hgregs hgstep hgdepth
  exact ⟨_, next_withDev hdev, hgregs.trans hregs, hgdepth.trans hpopped, hgstep⟩

theorem exec_stepBranch_fails (hwalk : (seqCh s.d ch).walk = true) (hlen : (progOf s.d ch).steps.length ≤ 1024)
    (htype : swType (stepOf s.d ch) = 4) (htest : branchTest s.d ch (stepOf s.d ch) = false)
    (hnext : sqStep s.d ch + 1 < (progOf s.d ch).steps.length) : ∃ t, exec (.stepBranch ch) s = .next t ∧
      sqStep t.d ch = sqStep s.d ch + 1 ∧ sqDepth t.d ch = sqDepth s.d ch ∧ (seqCh t.d ch).walk = true := by
  have hdev := stepRow_taken stepBranch hwalk htype
  unfold stepBranch at hdev
  dsimp only at hdev
  rw [if_pos (by simp [htest])] at hdev
  obtain ⟨-, hgstep, hgdepth, hgwalk, -⟩ := goStep_within hnext hlen
  generalize goStep s.d ch (sqStep s.d ch + 1) = g at hdev hgstep hgdepth hgwalk
  exact ⟨_, next_withDev hdev, hgstep, hgdepth, hgwalk⟩

theorem exec_stepBranch_jumps (hwalk : (seqCh s.d ch).walk = true) (hlen : (progOf s.d ch).steps.length ≤ 1024)
    (htype : swType (stepOf s.d ch) = 4) (htest : branchTest s.d ch (stepOf s.d ch) = true)
    (hbreak : swBreak (stepOf s.d ch) = false) (hnext : swTarget (stepOf s.d ch) < (progOf s.d ch).steps.length) : ∃ t,
      exec (.stepBranch ch) s = .next t ∧ sqStep t.d ch = swTarget (stepOf s.d ch) ∧ (seqCh t.d ch).walk = true := by
  have hdev := stepRow_taken stepBranch hwalk htype
  unfold stepBranch at hdev
  dsimp only at hdev
  rw [if_neg (by simp [htest]), if_neg (by simp [hbreak])] at hdev
  obtain ⟨-, hgstep, -, hgwalk, -⟩ := goStep_within hnext hlen
  generalize goStep s.d ch (swTarget (stepOf s.d ch)) = g at hdev hgstep hgwalk
  exact ⟨_, next_withDev hdev, hgstep, hgwalk⟩

/-! ### BARRIER and END -/

theorem exec_stepBarrier (hwalk : (seqCh s.d ch).walk = true) (htype : swType (stepOf s.d ch) = 5)
    (hscope : swByte (stepOf s.d ch) 0 % 16 ≤ 2) : ∃ t, exec (.stepBarrier ch) s = .next t ∧ t.nv = s.nv ∧
      sqState t.d ch = sqWAITING ∧ (seqCh t.d ch).walk = false ∧
      (seqCh t.d ch).bar = some (barKeyOf s.d ch (stepOf s.d ch)) ∧
      ch ∈ (barrier t.d (barKeyOf s.d ch (stepOf s.d ch))).arrived := by
  have hdev := stepRow_taken stepBarrier hwalk htype
  suffices h : sqState (stepBarrier s.d ch) ch = sqWAITING ∧ (seqCh (stepBarrier s.d ch) ch).walk = false ∧
      (seqCh (stepBarrier s.d ch) ch).bar = some (barKeyOf s.d ch (stepOf s.d ch)) ∧
      ch ∈ (barrier (stepBarrier s.d ch) (barKeyOf s.d ch (stepOf s.d ch))).arrived by
    generalize stepBarrier s.d ch = g at hdev h
    exact ⟨_, next_withDev hdev, rfl, h⟩
  unfold stepBarrier
  extract_lets w key d1 d2 d3 d4 d5
  obtain ⟨-, hwaiting⟩ := setSq_kept s.d ch sqWAITING 0
  have hstate2 : sqState d2 ch = sqWAITING := by
    have hkept : StepKept (fun x => 0x141 ≤ x) ch d1 d2 :=
      ((StepKept.refl _ ch d1).hotW 0x14C 4 0 fun i hi => by omega).hotW 0x175 1 _ fun i hi => by omega
    exact (congrArg (· % 16) (hkept.hot fun i hi => by omega)).trans hwaiting
  clear_value d2
  have harrived : ch ∈ (barrier d3 key).arrived := by
    unfold d3
    rw [barrier_setBarrier]
    exact List.mem_cons_self ..
  have hled3 : d3.led = d2.led := rfl
  clear_value d3
  have hch4 : (seqCh d4 ch).walk = false ∧ (seqCh d4 ch).bar = some key := by
    unfold d4
    rw [seqCh_setSeqCh]
    exact ⟨rfl, rfl⟩
  have hled4 : d4.led = d3.led := rfl
  have hbars : barrier d4 key = barrier d3 key := rfl
  clear_value d4
  have hend {e : Dev} (h : StepKept demandAt ch d4 e) : sqState e ch = sqWAITING ∧ (seqCh e ch).walk = false ∧
      (seqCh e ch).bar = some key ∧ ch ∈ (barrier e key).arrived := by
    have hstate : hot e ch 0x140 1 = hot d2 ch 0x140 1 :=
      (h.hot fun i hi => by unfold demandAt; omega).trans (hot_congr (hled4.trans hled3) ch _ _)
    refine ⟨(congrArg (· % 16) hstate).trans hstate2, ?_, ?_, ?_⟩
    · rw [seqCh_congr h.seq, hch4.1]
    · rw [seqCh_congr h.seq, hch4.2]
    · have hbar : barrier e key = barrier d4 key := by simp only [barrier, h.seq]
      rw [hbar, hbars]
      exact harrived
  have hlocal : ¬ (3 ≤ swByte w 0 % 16) := Nat.not_le.mpr (Nat.lt_succ_of_le hscope)
  rw [if_neg fun h => hlocal h.1]
  refine hend ?_
  unfold d5
  split
  · exact (takeDemand_kept d4 ch 6 (by decide) false).1
  · exact (takeDemand_kept d4 ch 9 (by decide) false).1
  · exact .refl _ ch d4

/-- A program that ends is in no state but ENDED, with its result, and demands nothing. -/
theorem endProgram_ends (d : Dev) (c : Nat) {result : Nat} (hres : result < 256) : sqState (endProgram d c result) c = sqENDED ∧
    hot (endProgram d c result) c 0x176 1 = result ∧ demMode (endProgram d c result) c = 0 ∧
    (seqCh (endProgram d c result) c).walk = false := by
  unfold endProgram
  extract_lets d1 d2 d3 d4
  obtain ⟨-, hended⟩ := setSq_kept d1 c sqENDED 0
  clear_value d1
  have hd2 : sqState d2 c = sqENDED := hended
  clear_value d2
  obtain ⟨v, f, hset⟩ := setEnd_eq (hotW d2 c 0x176 1 result) c
  have hresult : hot (hotW d2 c 0x176 1 result) c 0x176 1 = result := (hot_hotW_same d2 c 0x176 1 result).trans (by omega)
  have hstate : hot (hotW d2 c 0x176 1 result) c 0x140 1 = hot d2 c 0x140 1 := hot_hotW_ne d2 c _ (by decide)
  have hend : StepKept (fun x => 0x200 ≤ x) c (hotW d2 c 0x176 1 result) (ledWr (hotW d2 c 0x176 1 result) (entryOf c + 0x288) 8 v) :=
    (StepKept.refl _ c _).ledWr _ 8 v fun x _ _ => by omega
  have hd3 : d3 = _ := hset
  clear_value d3
  generalize hotW d2 c 0x176 1 result = x at hend hd3 hresult hstate
  generalize ledWr x (entryOf c + 0x288) 8 v = y at hend hd3
  have hled3 : d3.led = y.led := by rw [hd3]; rfl
  have hlog : StepKept (fun x => 0x200 ≤ x) c d3 d4 := (StepKept.refl _ c d3).logEvent (fun x hx => hx) _ _ _ _
  clear_value d4
  obtain ⟨hoff, hdem⟩ := takeOff_kept d4 c
  generalize takeOff d4 c = g at hoff hdem
  have hkept (off : Nat) (h1 : off < 0x200) (h2 : ¬ demandAt off) :
      hot (setSeqCh g c (fun s => { s with walk := false })) c off 1 = hot x c off 1 := by
    refine (hot_congr (d := g) rfl c off 1).trans ?_
    refine (hoff.hot fun i hi => by rw [Nat.lt_one_iff.mp hi]; exact h2).trans ?_
    exact (hlog.hot fun i hi => by omega).trans ((hot_congr hled3 c off 1).trans (hend.hot fun i hi => by omega))
  refine ⟨?_, ?_, ?_, congrArg SeqCh.walk (seqCh_setSeqCh g c _)⟩
  · exact (congrArg (· % 16) ((hkept 0x140 (by decide) (by unfold demandAt; omega)).trans hstate)).trans hd2
  · exact (hkept 0x176 (by decide) (by unfold demandAt; omega)).trans hresult
  · exact (hot_congr (d := g) rfl c _ 1).trans hdem

theorem swByte_lt (w : List Byte) (i : Nat) : swByte w i < 256 := (w.getD i 0).isLt

theorem exec_stepEnd (hwalk : (seqCh s.d ch).walk = true) (htype : swType (stepOf s.d ch) = 6) : ∃ t,
    exec (.stepEnd ch) s = .next t ∧ t.nv = s.nv ∧ sqState t.d ch = sqENDED ∧
      hot t.d ch 0x176 1 = swByte (stepOf s.d ch) 1 ∧ demMode t.d ch = 0 ∧ (seqCh t.d ch).walk = false := by
  have hdev := stepRow_taken (fun d c => endProgram d c (swByte (stepOf d c) 1)) hwalk htype
  have hends := endProgram_ends s.d ch (swByte_lt (stepOf s.d ch) 1)
  generalize endProgram s.d ch (swByte (stepOf s.d ch) 1) = g at hdev hends
  exact ⟨_, next_withDev hdev, rfl, hends⟩

/-! ### The step kernel -/

/-- Where no step is left to execute, the walk ends at once. -/
theorem seqSettle_done {d : Dev} {c : Nat} (hwalk : (seqCh d c).walk = false) : seqSettle d c = d := by
  have hall (l : List Nat) : l.foldl (fun d _ => if (seqCh d c).walk then doStep d c else d) d = d := by
    induction l with
    | nil => rfl
    | cons x l ih => rw [List.foldl_cons, if_neg (by simp [hwalk]), ih]
  exact hall _

/-- The kernel treats a channel that it has still to treat by the steps of its tick. -/
theorem seqKernel_due {d : Dev} {c : Nat} {g : GroupRec} (hdue : kernelDue d c = true) (hgroup : groupOf d c = some g) :
    seqKernel d c = seqTick d c g.group := by
  simp only [kernelDue, Bool.and_eq_true, bne_iff_ne, ne_eq, Bool.not_eq_true'] at hdue
  obtain ⟨⟨⟨⟨-, hran⟩, hwalk⟩, htrips⟩, -⟩ := hdue
  unfold seqKernel
  rw [seqSettle_done hwalk]
  dsimp only
  rw [if_neg hran, if_neg (by simp [htrips]), hgroup]

/-- The channel as the kernel marks it treated in this tick. -/
def kernelAt (d : Dev) (c : Nat) : Dev := setSeqCh d c (fun x => { x with ranK := some d.k })

theorem seqTick_running {d : Dev} {c g hit : Nat} (hstate : sqState d c = sqRUNNING) (hstart : (seqCh d c).startK ≠ some d.k)
    (hfires : (runTick (kernelAt d c) c g).1 = hit) (hpos : hit ≠ 0) :
    seqTick d c g = endStep (runTick (kernelAt d c) c g).2 c hit := by
  have hstate' : sqState (setSeqCh d c (fun s => { s with ranK := some d.k })) c = sqRUNNING := hstate
  unfold kernelAt at hfires ⊢
  unfold seqTick
  dsimp only
  rw [if_neg (by rw [hstate']; decide), if_pos ⟨hstate', hstart⟩, hfires]
  exact if_neg hpos

section
variable {hit : Nat} {g : GroupRec}

theorem exec_terminationFire (hdue : kernelDue s.d ch = true) (hgroup : groupOf s.d ch = some g)
    (hstate : sqState s.d ch = sqRUNNING) (hstart : (seqCh s.d ch).startK ≠ some s.d.k) (hfires : firesNow s.d ch = hit)
    (hrun : (runTick (setSeqCh s.d ch (fun x => { x with ranK := some s.d.k })) ch g.group).1 = hit) :
    (2 ≤ hit → exec (.terminationFire ch) s = .next (s.withDev (endStep
      (runTick (setSeqCh s.d ch (fun x => { x with ranK := some s.d.k })) ch g.group).2 ch hit))) ∧
    (hit % 2 = 1 → exec (.stepTimeTermination ch) s = .next (s.withDev (endStep
      (runTick (setSeqCh s.d ch (fun x => { x with ranK := some s.d.k })) ch g.group).2 ch hit))) := by
  have hends (hpos : hit ≠ 0) := (seqKernel_due hdue hgroup).trans (seqTick_running hstate hstart hrun hpos)
  refine ⟨fun h => ?_, fun h => ?_⟩
  · exact next_withDev ((if_pos (by omega)).trans (hends (by omega)))
  · exact next_withDev ((if_pos (by omega)).trans (hends (by omega)))

end

/-! ### Barrier timeouts -/

theorem satAdd_word_lt (x : Nat) : satAdd 32 x 1 < 2 ^ 32 := by
  unfold satAdd
  split
  all_goals omega

/-- The device as a timeout finds it: the channel is treated and its wait is counted. -/
def timeoutAt (d : Dev) (c : Nat) : Dev := hotW (kernelAt d c) c 0x14C 4 (satAdd 32 (hot d c 0x14C 4) 1)

theorem timeoutAt_kept (d : Dev) (c : Nat) : (∀ off n, off + n ≤ 0x14C ∨ 0x150 ≤ off → hot (timeoutAt d c) c off n = hot d c off n) ∧
    hot (timeoutAt d c) c 0x14C 4 = satAdd 32 (hot d c 0x14C 4) 1 ∧ (timeoutAt d c).seq = (kernelAt d c).seq ∧
    (timeoutAt d c).mor = d.mor := by
  unfold timeoutAt
  refine ⟨fun off n h => ?_, ?_, by rw [hotW_eq], by rw [hotW_eq]; rfl⟩
  · exact (hot_hotW_ne (kernelAt d c) c (off := 0x14C) (n := 4) _ h).trans (hot_congr (d := d) (d1 := kernelAt d c) rfl c off n)
  · exact (hot_hotW_same _ c _ 4 _).trans (Nat.mod_eq_of_lt (satAdd_word_lt _))

/-- The kernel's treatment of a waiting channel whose count reaches its barrier's `TIMEOUT`. -/
theorem seqTick_timeout {d : Dev} {c g : Nat} (hdue : barrierDue d c = true) :
    seqTick d c g = barrierTimeout (timeoutAt d c) c ∧ stepOf (timeoutAt d c) c = stepOf d c ∧
    sqState (timeoutAt d c) c = sqWAITING := by
  simp only [barrierDue, timeoutDue, Bool.and_eq_true, bne_iff_ne, ne_eq, Bool.not_eq_true', decide_eq_true_eq] at hdue
  obtain ⟨⟨⟨-, hrel⟩, hstart⟩, ⟨hwait, hset, hcount⟩, hdone⟩ := hdue
  obtain ⟨hkept, hcnt, hseq, -⟩ := timeoutAt_kept d c
  have hch : (seqCh (timeoutAt d c) c).toDone = (seqCh d c).toDone ∧ (seqCh (timeoutAt d c) c).bar = (seqCh d c).bar := by
    rw [seqCh_congr hseq, kernelAt, seqCh_setSeqCh]
    exact ⟨rfl, rfl⟩
  have hprog : progOf (timeoutAt d c) c = progOf d c := by
    have hsame : progOf (kernelAt d c) c = progOf d c := rfl
    rw [← hsame]
    exact progOf_congr hseq ((hkept 0x141 1 (by decide)).trans (hot_congr (d := d) (d1 := kernelAt d c) rfl c _ _).symm)
  have hstep : stepOf (timeoutAt d c) c = stepOf d c := by
    unfold stepOf sqStep
    rw [hprog, hkept 0x142 2 (by decide)]
  have hstate : sqState (timeoutAt d c) c = sqWAITING := (congrArg (· % 16) (hkept 0x140 1 (by decide))).trans hwait
  have hreleased : releasedNow (timeoutAt d c) c = false := by
    have hbar (key : Nat) : barrier (timeoutAt d c) key = barrier d key := by
      simp only [barrier, hseq]
      rfl
    unfold releasedNow at hrel ⊢
    rw [hch.2]
    simpa only [hbar] using hrel
  have htimeout : timeoutDue (timeoutAt d c) c (hot (timeoutAt d c) c 0x14C 4) = true := by
    simp only [timeoutDue, hstep, hstate, hcnt, hch.1, hdone, Bool.not_false, Bool.and_true, decide_eq_true_eq]
    exact ⟨trivial, hset, hcount⟩
  refine ⟨?_, hstep, hstate⟩
  have hcounted : hot (kernelAt d c) c 0x14C 4 = hot d c 0x14C 4 := hot_congr (d := d) (d1 := kernelAt d c) rfl c _ _
  have hwaits : sqState (kernelAt d c) c = sqWAITING := hwait
  unfold seqTick
  extract_lets s0 d1 d2
  have hd1 : d1 = kernelAt d c := rfl
  have hs0 : s0.startK ≠ some d1.k := hstart
  have hd2 : d2 = timeoutAt d c := by
    unfold d2 timeoutAt
    rw [if_neg hs0, hd1, hcounted]
  clear_value d2
  rw [if_pos (by rw [hd1]; exact hwaits), hd2, if_neg (by simp [hreleased]), if_pos htimeout]

/-- The report of a timeout. -/
def timeoutReported (d : Dev) (c : Nat) : Dev :=
  let w := stepOf d c
  let scope := swByte w 0 % 16
  let act := swByte w 2 / 4 % 4
  let d := raise d Src.SEQ_BAR_TIMEOUT 1 c (scope + 256 * swByte w 1 + 2 ^ 16 * act) (sqStep d c)
  let d := incSat (wrB d Reg.SEQ_STAT_BAR_TO true) Reg.SEQ_BAR_TO_CNT_CNT 1
  let d := logSeq d c 0x07 [BitVec.ofNat 8 scope, BitVec.ofNat 8 (swByte w 1), BitVec.ofNat 8 act]
  setSeqCh d c (fun s => { s with toDone := true })

theorem logEvent_mor (d : Dev) (c typ prog step : Nat) (data : List Byte) : (logEvent d c typ prog step data).mor = d.mor := by
  unfold logEvent
  dsimp only
  split
  · unfold logDrop
    rw [ledWr_eq]
  · rfl

theorem timeoutReported_shows (d : Dev) (c : Nat) : rdB (timeoutReported d c) Reg.SEQ_STAT_BAR_TO = true ∧
    (seqCh (timeoutReported d c) c).toDone = true ∧ hot (timeoutReported d c) c 0x140 1 = hot d c 0x140 1 ∧
    (timeoutReported d c).mor.raised.map (·.src) = d.mor.raised.map (·.src) ++ [Src.SEQ_BAR_TIMEOUT] := by
  unfold timeoutReported
  extract_lets w scope act d1 d2 d3
  have hraised : d1.mor.raised.map (·.src) = d.mor.raised.map (·.src) ++ [Src.SEQ_BAR_TIMEOUT] := List.map_append
  have hled : d1.led = d.led := rfl
  clear_value d1
  have hflag : rdB d2 Reg.SEQ_STAT_BAR_TO = true :=
    (rdB_wr_ne _ Reg.SEQ_BAR_TO_CNT_CNT Reg.SEQ_STAT_BAR_TO _ (by decide)).trans (rdB_wrB_same _ _ _ (by decide))
  have hmor : d2.mor = d1.mor := rfl
  have hled2 : d2.led = d1.led := rfl
  clear_value d2
  have hlog : StepKept (fun x => 0x200 ≤ x) c d2 d3 := (StepKept.refl _ c d2).logEvent (fun x hx => hx) _ _ _ _
  have hmor3 : d3.mor = d2.mor := logEvent_mor d2 c 0x07 _ _ _
  clear_value d3
  refine ⟨?_, congrArg SeqCh.toDone (seqCh_setSeqCh d3 c _), ?_, ?_⟩
  · refine Eq.trans ?_ ((hlog.regs.rdB (by simp)).trans hflag)
    rfl
  · have hstate : hot d3 c 0x140 1 = hot d2 c 0x140 1 := hlog.hot fun i hi => by omega
    exact (hot_congr (d := d3) rfl c _ _).trans (hstate.trans (hot_congr (hled2.trans hled) c _ _))
  · exact (congrArg (fun m => m.raised.map (·.src)) (hmor3.trans hmor)).trans hraised

/-- The end of a channel's windows is no ledger's. -/
theorem gradeEnd_kept (d : Dev) (c st : Nat) (R : Nat → Prop) : StepKept R c d (gradeEnd d c st) :=
  (((StepKept.refl R c d).setGradeCh _).setRng _).setRegCh _

/-- A program that aborts is in the state ABORTED with its cause, and leaves a timeout's flag as it is. -/
theorem abortProgram_aborts (d : Dev) (c : Nat) {cause : Nat} (hcause : cause < 256) :
    sqState (abortProgram d c cause) c = sqABORTED ∧ hot (abortProgram d c cause) c 0x174 1 = cause ∧
    rdB (abortProgram d c cause) Reg.SEQ_STAT_BAR_TO = rdB d Reg.SEQ_STAT_BAR_TO := by
  unfold abortProgram
  extract_lets d1 d2 d3 d4
  obtain ⟨q, hq⟩ := unarrive_eq d c
  have hd1 : hot d1 c 0x174 1 = cause := (hot_hotW_same (unarrive d c) c 0x174 1 cause).trans (by omega)
  have hregs1 : d1.regs = d.regs := (hotW_regs _ _ _ _ _).trans (by rw [hq])
  clear_value d1
  have hlog : StepKept (fun x => 0x200 ≤ x) c d1 d2 := (StepKept.refl _ c d1).logEvent (fun x hx => hx) _ _ _ _
  clear_value d2
  obtain ⟨hsq, haborted⟩ := setSq_kept d2 c sqABORTED 0
  generalize hx : setSq d2 c sqABORTED 0 = x at hsq haborted
  obtain ⟨v, f, hset⟩ := setEnd_eq x c
  have hend : StepKept (fun x => 0x200 ≤ x) c x (ledWr x (entryOf c + 0x288) 8 v) :=
    (StepKept.refl _ c x).ledWr _ 8 v fun x _ _ => by omega
  have hd3 : d3 = setSeqCh (ledWr x (entryOf c + 0x288) 8 v) c f := by
    unfold d3
    rw [hx, hset]
  generalize ledWr x (entryOf c + 0x288) 8 v = y at hend hd3
  have hled3 : d3.led = y.led ∧ d3.regs = y.regs := by rw [hd3]; exact ⟨rfl, rfl⟩
  clear_value d3
  have hcontact : StepKept (fun x => 0x200 ≤ x) c d3 d4 := (gradeEnd_kept d3 c gABORTED _).trans (contactAbort_kept _ c)
  clear_value d4
  obtain ⟨hoff, -⟩ := takeOff_kept d4 c
  generalize takeOff d4 c = g at hoff
  have hkept (off : Nat) (h1 : off < 0x200) (h2 : ¬ demandAt off) :
      hot (setSeqCh g c (fun s => { s with walk := false })) c off 1 = hot x c off 1 := by
    refine (hot_congr (d := g) rfl c off 1).trans ?_
    refine (hoff.hot fun i hi => by rw [Nat.lt_one_iff.mp hi]; exact h2).trans ?_
    exact (hcontact.hot fun i hi => by omega).trans
      ((hot_congr hled3.1 c off 1).trans (hend.hot fun i hi => by omega))
  refine ⟨?_, ?_, ?_⟩
  · exact (congrArg (· % 16) (hkept 0x140 (by decide) (by unfold demandAt; omega))).trans haborted
  · refine (hkept 0x174 (by decide) (by unfold demandAt; omega)).trans ?_
    exact (hsq.hot fun i hi => by omega).trans ((hlog.hot fun i hi => by omega).trans hd1)
  · have hflag : RegsWithin (fun f => f ≠ Reg.SEQ_STAT_BAR_TO.key) d g :=
      (((((RegsWithin.of_regs hregs1).trans hlog.regs).trans hsq.regs).trans hend.regs).trans
        ((RegsWithin.of_regs hled3.2).trans hcontact.regs)).trans hoff.regs
    exact hflag.rdB (by simp)

theorem barrierTimeout_eq (d : Dev) (c : Nat) : barrierTimeout d c = barrierAct (timeoutReported d c) c (stepOf d c) := rfl

section
variable {g : GroupRec}

theorem exec_barrierTimeout_aborts (hdue : kernelDue s.d ch = true) (hgroup : groupOf s.d ch = some g)
    (hbar : barrierDue s.d ch = true) (hact : swByte (stepOf s.d ch) 2 / 4 % 4 = 2) : ∃ t,
      exec (.barrierTimeout ch) s = .next t ∧ t.nv = s.nv ∧ sqState t.d ch = sqABORTED ∧ hot t.d ch 0x174 1 = 3 ∧
      rdB t.d Reg.SEQ_STAT_BAR_TO = true := by
  obtain ⟨htick, hstep, -⟩ := seqTick_timeout (g := g.group) hbar
  obtain ⟨hflag, -⟩ := timeoutReported_shows (timeoutAt s.d ch) ch
  obtain ⟨hstate, hcause, hkept⟩ := abortProgram_aborts (timeoutReported (timeoutAt s.d ch) ch) ch (by decide : 3 < 256)
  have hacts : barrierAct (timeoutReported (timeoutAt s.d ch) ch) ch (stepOf (timeoutAt s.d ch) ch) =
      abortProgram (timeoutReported (timeoutAt s.d ch) ch) ch 3 := by
    unfold barrierAct
    rw [hstep, hact]
    rfl
  have hdev := (seqKernel_due hdue hgroup).trans (htick.trans ((barrierTimeout_eq _ ch).trans hacts))
  generalize timeoutReported (timeoutAt s.d ch) ch = r at hflag hstate hcause hkept hdev
  generalize abortProgram r ch 3 = e at hstate hcause hkept hdev
  exact ⟨_, next_withDev ((if_pos hbar).trans hdev), rfl, hstate, hcause, hkept.trans hflag⟩

theorem exec_barrierTimeout_stays (hdue : kernelDue s.d ch = true) (hgroup : groupOf s.d ch = some g)
    (hbar : barrierDue s.d ch = true) (hact : swByte (stepOf s.d ch) 2 / 4 % 4 = 3) : ∃ t,
      exec (.barrierTimeout ch) s = .next t ∧ t.nv = s.nv ∧ sqState t.d ch = sqWAITING ∧ (seqCh t.d ch).toDone = true ∧
      rdB t.d Reg.SEQ_STAT_BAR_TO = true ∧
      t.d.mor.raised.map (·.src) = s.d.mor.raised.map (·.src) ++ [Src.SEQ_BAR_TIMEOUT] := by
  obtain ⟨htick, hstep, hwait⟩ := seqTick_timeout (g := g.group) hbar
  obtain ⟨hflag, hdone, hstate, hraised⟩ := timeoutReported_shows (timeoutAt s.d ch) ch
  obtain ⟨-, -, -, hmor⟩ := timeoutAt_kept s.d ch
  have hacts : barrierAct (timeoutReported (timeoutAt s.d ch) ch) ch (stepOf (timeoutAt s.d ch) ch) =
      timeoutReported (timeoutAt s.d ch) ch := by
    unfold barrierAct
    rw [hstep, hact]
    rfl
  have hdev := (seqKernel_due hdue hgroup).trans (htick.trans ((barrierTimeout_eq _ ch).trans hacts))
  generalize timeoutReported (timeoutAt s.d ch) ch = r at hflag hstate hdone hraised hdev
  rw [hmor] at hraised
  exact ⟨_, next_withDev ((if_pos hbar).trans hdev), rfl, (congrArg (· % 16) hstate).trans hwait, hdone, hflag, hraised⟩

end

/-! ### Measurement windows -/

theorem gradeCh_setGradeCh (d : Dev) (c : Nat) (f : GradeCh → GradeCh) : gradeCh (setGradeCh d c f) c = f (gradeCh d c) :=
  SMap.get_mod_same _ _ _ _

theorem noWindow_winK (d : Dev) (c kind status pset k : Nat) :
    (gradeCh (noWindow d c kind status pset k) c).winK = (gradeCh d c).winK := by
  unfold noWindow
  dsimp only
  rw [gradeCh_setGradeCh]
  split
  all_goals rfl

theorem openWin_winK (d : Dev) (c kind pset k : Nat) : (gradeCh (openWin d c kind pset k) c).winK = (gradeCh d c).winK := by
  unfold openWin
  extract_lets ws g w opened
  have hopened (e : Dev) : gradeCh (opened e) c = gradeCh e c := by
    unfold opened
    dsimp only
    split
    all_goals split
    all_goals rfl
  clear_value opened
  split
  · exact noWindow_winK _ _ _ _ _ _
  split
  · exact noWindow_winK _ _ _ _ _ _
  split
  · rw [hopened, gradeCh_setGradeCh]
  split
  · rw [hopened, gradeCh_setGradeCh]
  · exact noWindow_winK _ _ _ _ _ _

/-- A channel's windows have had their tick. -/
theorem windowsTick_winK {d : Dev} {c : Nat} (ran : Bool) (hnot : (gradeCh d c).winK ≠ some d.k) :
    (gradeCh (windowsTick d c ran) c).winK = some d.k := by
  unfold windowsTick
  rw [if_neg hnot]
  extract_lets d1 d2 x d3 sat
  have h1 : (gradeCh d1 c).winK = some d.k := congrArg GradeCh.winK (gradeCh_setGradeCh d c _)
  clear_value d1
  have h2 : (gradeCh d2 c).winK = some d.k := by
    unfold d2
    split
    · split
      · rw [openWin_winK, gradeCh_setGradeCh]
        exact h1
      · exact h1
    · exact h1
  clear_value d2
  have h3 : (gradeCh d3 c).winK = some d.k := (congrArg GradeCh.winK (gradeCh_setGradeCh d2 c _)).trans h2
  clear_value d3 sat
  have hsync (e : Dev) : gradeCh (winSync e c) c = gradeCh e c := rfl
  rw [hsync, gradeCh_setGradeCh]
  exact h3

theorem exec_gradeWindowClose (hdue : winDue s.d ch = true) : ∃ t, exec (.gradeWindowClose ch) s = .next t ∧ t.nv = s.nv ∧
    t.pending = s.pending ∧ (gradeCh t.d ch).winK = some s.d.k := by
  have hnot : (gradeCh s.d ch).winK ≠ some s.d.k := by
    simp only [winDue, Bool.and_eq_true, bne_iff_ne] at hdue
    exact hdue.1
  have hwin := windowsTick_winK true hnot
  exact ⟨_, next_withDev (if_pos hdue), rfl, rfl, hwin⟩

theorem exec_gradeWindowClose_early (hdue : winDue s.d ch = false) : exec (.gradeWindowClose ch) s = .next s := by
  have hdev : (if winDue s.d ch then windowsTick s.d ch true else s.d) = s.d := if_neg (by simp [hdue])
  exact next_withDev hdev

end

/-- Settles O32: a step's writes lie in its own bytes of HOT, so what one of its parts has set the later ones leave; and the
kernel's tick of a channel that it has still to treat ends the step, or times the barrier out. -/
theorem stepsRun : Obligations.StepsRun := by
  unfold Obligations.StepsRun
  refine ⟨?_, ?_⟩
  · intro s ch _ hwalk hlen
    refine ⟨exec_stepRun hwalk, exec_stepLoop hwalk hlen, ?_, exec_stepBranch_fails hwalk hlen, exec_stepBranch_jumps hwalk hlen,
      exec_stepBarrier hwalk, exec_stepEnd hwalk⟩
    intro htype hlo hhi
    exact ⟨exec_stepNext_repeats hwalk hlen htype, exec_stepNext_goes hwalk hlen htype ⟨hlo, hhi⟩⟩
  · intro s ch hit g _ hdue hgroup
    exact ⟨exec_terminationFire hdue hgroup, exec_barrierTimeout_aborts hdue hgroup, exec_barrierTimeout_stays hdue hgroup,
      exec_gradeWindowClose, exec_gradeWindowClose_early⟩

end Sys2Proof.Machine
end

section
/-!
PROOFS. Passes and conversions of the auxiliary converters, and APPLY (R440 to R449).
-/
namespace Sys2Proof.Machine

/-! ### Converters -/

theorem conv_setConv (d : Dev) (c : Nat) (f : AuxConv → AuxConv) : conv (setConv d c f) c = f (conv d c) :=
  SMap.get_mod_same _ _ _ _

theorem conv_congr {d e : Dev} (h : e.aux = d.aux) (c : Nat) : conv e c = conv d c := by simp only [conv, h]

/-- The fields of a converter's status and counts lie apart. -/
theorem convStat_keys (c : Nat) : (Reg.AUX_CONV_STAT_BUSY c).key ≠ (Reg.AUX_CONV_STAT_ENTRY c).key ∧
    (Reg.AUX_CONV_STAT_BUSY c).key ≠ (Reg.AUX_CONV_STAT_LATE_EV c).key ∧
    (Reg.AUX_CONV_STAT_BUSY c).key ≠ (Reg.AUX_CONV_CNT_LATE c).key ∧
    (Reg.AUX_CONV_STAT_LATE_EV c).key ≠ (Reg.AUX_CONV_CNT_LATE c).key ∧
    (Reg.AUX_CONV_CNT_LATE c).key ≠ (Reg.AUX_CONV_STAT_LATE_EV c).key ∧
    (Reg.AUX_CONV_CNT_OVR c).key ≠ (Reg.AUX_CONV_STAT_OVR_EV c).key ∧
    (Reg.AUX_CONV_STAT_OVR_EV c).key ≠ (Reg.AUX_CONV_CNT_OVR c).key ∧
    (Reg.AUX_CONV_STAT_PEND c).key ≠ (Reg.AUX_CONV_STAT_BUSY c).key ∧
    (Reg.AUX_CONV_STAT_BUSY c).key ≠ (Reg.AUX_CONV_STAT_APPLY_PEND c).key := by
  simp only [Fld.key, Reg.AUX_CONV_STAT_BUSY, Reg.AUX_CONV_STAT_ENTRY, Reg.AUX_CONV_STAT_LATE_EV, Reg.AUX_CONV_CNT_LATE,
    Reg.AUX_CONV_CNT_OVR, Reg.AUX_CONV_STAT_OVR_EV, Reg.AUX_CONV_STAT_PEND, Reg.AUX_CONV_STAT_APPLY_PEND]
  omega

/-! ### Passes -/

/-- The pass that starts with no staged copy waiting. -/
theorem startPass_shows {d : Dev} {c : Nat} (hpend : rdB d (Reg.AUX_CONV_STAT_APPLY_PEND c) = false) (hwords : (conv d c).words ≠ []) :
    convBusy (startPass d c) c = true ∧ convEntry (startPass d c) c = 0 ∧ conv (startPass d c) c = { conv d c with
      cal := (conv d c).words.map (fun v => auxCalWord d (auxEnt v).input (auxEnt v).gain), cnt := 0, sum := 0, clip := false,
      open_ := false, inj := false, late := false, capBad := false } := by
  unfold startPass
  rw [if_neg (show ¬ (rdB d (Reg.AUX_CONV_STAT_APPLY_PEND c) = true) by simp [hpend])]
  extract_lets d0 ws cal d1 _
  rw [if_neg (by simpa [ws] using hwords)]
  have hconv : conv d1 c = _ := conv_setConv d c _
  clear_value d1
  refine ⟨?_, rd_wr_same _ _ _, hconv⟩
  exact (rdB_wr_ne _ _ _ _ (convStat_keys c).1).trans (rdB_wrB_same d1 _ true (by simp [Reg.AUX_CONV_STAT_BUSY]))

section
variable {s : State} {c : Nat}

theorem exec_auxTickTrigger_starts (hpend : rdB s.d (Reg.AUX_CONV_STAT_APPLY_PEND c) = false) (hwords : (conv s.d c).words ≠ [])
    (htrig : (conv s.d c).trig = 2) (hidle : convBusy s.d c = false) : ∃ t, exec (.auxTickTrigger c) s = .next t ∧ t.nv = s.nv ∧
      convBusy t.d c = true ∧ convEntry t.d c = 0 ∧ (conv t.d c).cnt = 0 ∧ (conv t.d c).sum = 0 ∧
      (conv t.d c).words = (conv s.d c).words ∧ (conv t.d c).cal = (conv s.d c).words.map
        (fun v => auxCalWord s.d (auxEnt v).input (auxEnt v).gain) ∧ (conv t.d c).late = false := by
  obtain ⟨hbusy, hentry, hconv⟩ := startPass_shows hpend hwords
  have hdev : tickTrigger s.d c = startPass s.d c := by
    unfold tickTrigger
    rw [if_neg (by simp [htrig])]
    exact if_pos (by simp [hidle])
  generalize startPass s.d c = e at hbusy hentry hconv hdev
  refine ⟨_, next_withDev hdev, rfl, hbusy, hentry, ?_⟩
  change (conv e c).cnt = 0 ∧ (conv e c).sum = 0 ∧ (conv e c).words = _ ∧ (conv e c).cal = _ ∧ (conv e c).late = false
  rw [hconv]
  exact ⟨rfl, rfl, rfl, rfl, rfl⟩

theorem satAdd_half_lt (x : Nat) : satAdd 16 x 1 < 2 ^ 16 := by
  unfold satAdd
  split
  all_goals omega

/-- A counter field of 16 bits counts on. -/
theorem rd_incSat_half (d : Dev) {f : Fld} (hwd : f.wd = 16) : rd (incSat d f 1) f = satAdd 16 (rd d f) 1 := by
  rw [incSat, rd_wr_same, hwd]
  exact Nat.mod_eq_of_lt (satAdd_half_lt _)

theorem exec_auxTickTrigger_late (htrig : (conv s.d c).trig = 2) (hbusy : convBusy s.d c = true) (hlate : (conv s.d c).late = false) :
    ∃ t, exec (.auxTickTrigger c) s = .next t ∧ t.nv = s.nv ∧ (conv t.d c).late = true ∧ convBusy t.d c = true ∧
      rdB t.d (Reg.AUX_CONV_STAT_LATE_EV c) = true ∧
      rd t.d (Reg.AUX_CONV_CNT_LATE c) = satAdd 16 (rd s.d (Reg.AUX_CONV_CNT_LATE c)) 1 := by
  obtain ⟨-, hbl, hbc, hlc, hcl, -⟩ := convStat_keys c
  generalize hd1 : setConv s.d c (fun v => { v with late := true }) = d1
  have hconv : (conv d1 c).late = true := by rw [← hd1, conv_setConv]
  have hregs : d1.regs = s.d.regs := by rw [← hd1]; rfl
  have hdev : tickTrigger s.d c = raise (incSat (wrB d1 (Reg.AUX_CONV_STAT_LATE_EV c) true) (Reg.AUX_CONV_CNT_LATE c) 1) Src.AUX_LATE 0 0 c
      (convEntry (incSat (wrB d1 (Reg.AUX_CONV_STAT_LATE_EV c) true) (Reg.AUX_CONV_CNT_LATE c) 1) c) := by
    unfold tickTrigger
    rw [if_neg (by simp [htrig]), if_neg (by simp [hbusy]), if_neg (by simp [hlate]), hd1]
  have hflag := rdB_wrB_same d1 (Reg.AUX_CONV_STAT_LATE_EV c) true (by simp [Reg.AUX_CONV_STAT_LATE_EV])
  have hcount : rd (wrB d1 (Reg.AUX_CONV_STAT_LATE_EV c) true) (Reg.AUX_CONV_CNT_LATE c) = rd s.d (Reg.AUX_CONV_CNT_LATE c) :=
    (rd_wrB_ne d1 _ _ true hcl).trans (by simp only [rd, hregs])
  have hb : rdB (wrB d1 (Reg.AUX_CONV_STAT_LATE_EV c) true) (Reg.AUX_CONV_STAT_BUSY c) = true := by
    rw [rdB_wrB_ne _ _ _ _ hbl]
    exact (by simp only [rdB, rd, hregs] : rdB d1 (Reg.AUX_CONV_STAT_BUSY c) = rdB s.d (Reg.AUX_CONV_STAT_BUSY c)).trans hbusy
  have hconv2 : conv (wrB d1 (Reg.AUX_CONV_STAT_LATE_EV c) true) c = conv d1 c := rfl
  generalize wrB d1 (Reg.AUX_CONV_STAT_LATE_EV c) true = d2 at hdev hflag hcount hb hconv2
  refine ⟨_, next_withDev hdev, rfl, (congrArg AuxConv.late hconv2).trans hconv, ?_, ?_, ?_⟩
  · exact (rdB_wr_ne d2 _ _ _ hbc).trans hb
  · exact (rdB_wr_ne d2 _ _ _ hlc).trans hflag
  · exact (rd_incSat_half d2 rfl).trans (by rw [hcount])

/-! ### The control register -/

set_option maxRecDepth 4000 in
theorem regFind_convCtrl (hc : c < 8) : regFind (0x100F0100 + 0x20 * c) = some (⟨0x100F0100, [(8, 0x20)], .device,
    [⟨fun n _ _ => Reg.AUX_CONV_CTRL_TRIG n, .rws, none⟩,
     ⟨fun n _ _ => Reg.AUX_CONV_CTRL_PWM_AXIS n, .rws, none⟩,
     ⟨fun n _ _ => Reg.AUX_CONV_CTRL_TICK_OFS n, .rws, (some (0, 0x2C))⟩,
     ⟨fun n _ _ => Reg.AUX_CONV_CTRL_NENT n, .rws, (some (0, 0x10))⟩,
     ⟨fun n _ _ => Reg.AUX_CONV_CTRL_APPLY n, .wo, none⟩,
     ⟨fun n _ _ => Reg.AUX_CONV_CTRL_SW_GO n, .wo, none⟩]⟩, [c]) := by
  revert c
  show HoldsBelow _ _
  iterate 8 refine .succ ?_ rfl
  exact .zero

/-- A write of a register of the table touches no converter. -/
theorem writeFields_aux (d : Dev) (req : Requester) (addr w : Nat) : (writeFields d req addr w).aux = d.aux := by
  unfold writeFields
  split
  · split
    · exact okResp_aux d 0
    · exact errResp_aux d req addr errUnmapped true
  · next row l _ =>
    obtain ⟨m, hm⟩ := foldl_fldWrite row.flds d row l addr w
    rw [hm]
    split
    · exact refuseW_aux d req addr
    · dsimp only
      split
      · exact refuseW_aux _ req addr
      · exact okResp_aux _ 0

/-- A write of `AUX_CONV_CTRL` changes no converter's status and no pass. -/
theorem convCtrl_keeps (hc : c < 8) (d : Dev) (req : Requester) (w : Nat) (f : Fld) (hlow : f.key < 0x10110000 * 32)
    (hf : f.key / 32 ≠ 0x100F0100 + 0x20 * c) : rd (writeFields d req (0x100F0100 + 0x20 * c) w) f = rd d f := by
  refine (writeFields_within d req w (regFind_convCtrl hc) (R := fun k => k / 32 = 0x100F0100 + 0x20 * c) ?_).1 f (by omega)
  intro g hg
  simp only [List.mem_cons, List.mem_nil_iff, or_false] at hg
  rcases hg with rfl | rfl | rfl | rfl | rfl | rfl
  all_goals simp only [FldRow.at, List.getD_cons_zero, Fld.key, Reg.AUX_CONV_CTRL_TRIG, Reg.AUX_CONV_CTRL_PWM_AXIS,
    Reg.AUX_CONV_CTRL_TICK_OFS, Reg.AUX_CONV_CTRL_NENT, Reg.AUX_CONV_CTRL_APPLY, Reg.AUX_CONV_CTRL_SW_GO]
  all_goals omega

/-- A write whose `TICK_OFS` and `NENT` lie within their limits breaks none. -/
theorem convCtrl_within_limits (hc : c < 8) (d : Dev) {w : Nat} (hofs : bits w 8 6 ≤ 44) (hnent : bits w 16 5 ≤ 16) :
    limitsBad d (0x100F0100 + 0x20 * c) w = false := by
  have hcross : crossFault d (0x100F0100 + 0x20 * c) w = false := by
    unfold crossFault
    rw [if_neg (by omega), if_neg (by omega), if_neg (by omega), if_neg (by omega), if_neg (by omega)]
  unfold limitsBad
  rw [regFind_convCtrl hc]
  dsimp only
  rw [hcross, Bool.or_false]
  simp only [List.any_cons, List.any_nil, fldOutside, fldVal, FldRow.at, Reg.AUX_CONV_CTRL_TICK_OFS, Reg.AUX_CONV_CTRL_NENT,
    Bool.or_false, Bool.false_or]
  refine Bool.or_eq_false_iff.mpr ⟨decide_eq_false ?_, decide_eq_false ?_⟩
  all_goals omega

/-- What a write of `AUX_CONV_CTRL` does past its fields. -/
def convCtrlActs (d : Dev) (req : Requester) (c w : Nat) : Dev :=
  let d := if bit w 30 then auxApply d req c else d
  if bit w 31 ∧ (conv d c).trig = 0 then trigger d c else d

section
variable {req : Requester} {w : Nat} (hc : c < 8) (hacc : accessErr s.d req (0x100F0100 + 0x20 * c) true = 0)
  (hofs : bits w 8 6 ≤ 44) (hnent : bits w 16 5 ≤ 16)
include hc hacc hofs hnent

theorem auxConvCtrl_eq (i : Nat) (hi : 21 ≤ i) : auxConvCtrl s.d req c (setBit w i true) =
    convCtrlActs (writeFields s.d req (0x100F0100 + 0x20 * c) (setBit w i true)) req c (setBit w i true) := by
  have hclosed : safeClosed (0x100F0100 + 0x20 * c) = false := by
    clear hacc
    revert c
    show HoldsBelow _ _
    iterate 8 refine .succ ?_ rfl
    exact .zero
  have hlimits : limitsBad s.d (0x100F0100 + 0x20 * c) (setBit w i true) = false := by
    refine convCtrl_within_limits hc s.d ?_ ?_
    · rw [bits_setBit_outside w true (Or.inr (by omega))]
      exact hofs
    · rw [bits_setBit_outside w true (Or.inr (by omega))]
      exact hnent
  unfold auxConvCtrl
  refine (regAccess_open (setBit w i true) _ hacc (.inr hclosed)).trans ?_
  dsimp only
  rw [hlimits]
  rfl

end

/-- A write of the control register leaves the status that a command is judged by. -/
theorem convStat_kept (hc : c < 8) (d : Dev) (req : Requester) (w : Nat) (f : Fld)
    (hf : f = Reg.AUX_CONV_STAT_BUSY c ∨ f = Reg.AUX_CONV_STAT_PEND c ∨ f = Reg.AUX_CONV_STAT_APPLY_PEND c ∨
      f = Reg.AUX_CONV_CNT_OVR c) :
    rd (writeFields d req (0x100F0100 + 0x20 * c) w) f = rd d f := by
  refine convCtrl_keeps hc d req w f ?_ ?_
  all_goals rcases hf with rfl | rfl | rfl | rfl
  all_goals simp only [Fld.key, Reg.AUX_CONV_STAT_BUSY, Reg.AUX_CONV_STAT_PEND, Reg.AUX_CONV_STAT_APPLY_PEND, Reg.AUX_CONV_CNT_OVR]
  all_goals omega

section
variable {req : Requester} {w : Nat} (hc : c < 8) (hacc : accessErr s.d req (0x100F0100 + 0x20 * c) true = 0)
  (htrig : (conv s.d c).trig = 0) (happly : bit w 30 = false) (hofs : bits w 8 6 ≤ 44) (hnent : bits w 16 5 ≤ 16)
include hc hacc htrig happly hofs hnent

/-- A `SW_GO` triggers a converter that is OFF, on the device with the register's fields written. -/
theorem auxConvCtrl_swGo : ∃ u, auxConvCtrl s.d req c (setBit w 31 true) = trigger u c ∧ u.aux = s.d.aux ∧
    ∀ f, (f = Reg.AUX_CONV_STAT_BUSY c ∨ f = Reg.AUX_CONV_STAT_PEND c ∨ f = Reg.AUX_CONV_STAT_APPLY_PEND c ∨
      f = Reg.AUX_CONV_CNT_OVR c) → rd u f = rd s.d f := by
  have heq := auxConvCtrl_eq hc hacc hofs hnent 31 (by decide)
  have haux := writeFields_aux s.d req (0x100F0100 + 0x20 * c) (setBit w 31 true)
  have hstat := convStat_kept hc s.d req (setBit w 31 true)
  generalize writeFields s.d req (0x100F0100 + 0x20 * c) (setBit w 31 true) = u at heq haux hstat
  refine ⟨u, heq.trans ?_, haux, hstat⟩
  unfold convCtrlActs
  dsimp only
  rw [if_neg (show ¬ (bit (setBit w 31 true) 30 = true) by rw [bit_setBit_ne w true (by decide)]; simp [happly])]
  exact if_pos ⟨bit_setBit w 31 true, by rw [conv_congr haux]; exact htrig⟩

theorem exec_swGo_starts (hpend : rdB s.d (Reg.AUX_CONV_STAT_APPLY_PEND c) = false) (hwords : (conv s.d c).words ≠ [])
    (hidle : convBusy s.d c = false) : ∃ t, exec (.swGo req c w) s = .next t ∧ t.nv = s.nv ∧ convBusy t.d c = true ∧
      convEntry t.d c = 0 ∧ (conv t.d c).cnt = 0 := by
  obtain ⟨u, hdev, haux, hstat⟩ := auxConvCtrl_swGo hc hacc htrig happly hofs hnent
  obtain ⟨hbusy, hentry, hconv⟩ := startPass_shows (d := u) (c := c)
    ((by simp only [rdB, hstat _ (Or.inr (Or.inr (Or.inl rfl)))] :
      rdB u (Reg.AUX_CONV_STAT_APPLY_PEND c) = rdB s.d (Reg.AUX_CONV_STAT_APPLY_PEND c)).trans hpend)
    (by rw [conv_congr haux]; exact hwords)
  have hidle' : convBusy u c = false := by
    rw [convBusy, rdB, hstat _ (Or.inl rfl)]
    exact hidle
  have htriggered : trigger u c = startPass u c := if_pos (by simp [hidle'])
  generalize startPass u c = e at hbusy hentry hconv htriggered
  exact ⟨_, next_withDev (hdev.trans htriggered), rfl, hbusy, hentry, congrArg AuxConv.cnt hconv⟩

theorem exec_swGo_waits (hbusy : convBusy s.d c = true) (hpend : rdB s.d (Reg.AUX_CONV_STAT_PEND c) = false) : ∃ t,
    exec (.swGo req c w) s = .next t ∧ t.nv = s.nv ∧ t.d.aux = s.d.aux ∧ rdB t.d (Reg.AUX_CONV_STAT_PEND c) = true := by
  obtain ⟨u, hdev, haux, hstat⟩ := auxConvCtrl_swGo hc hacc htrig happly hofs hnent
  have hbusy' : convBusy u c = true := by
    rw [convBusy, rdB, hstat _ (Or.inl rfl)]
    exact hbusy
  have hpend' : rdB u (Reg.AUX_CONV_STAT_PEND c) = false := by
    rw [rdB, hstat _ (Or.inr (Or.inl rfl))]
    exact hpend
  have htriggered : trigger u c = wrB u (Reg.AUX_CONV_STAT_PEND c) true := by
    unfold trigger
    rw [if_neg (by simp [hbusy'])]
    exact if_pos (by simp [hpend'])
  exact ⟨_, next_withDev (hdev.trans htriggered), rfl, haux, rdB_wrB_same u _ true (by simp [Reg.AUX_CONV_STAT_PEND])⟩

theorem exec_swGo_dropped (hbusy : convBusy s.d c = true) (hpend : rdB s.d (Reg.AUX_CONV_STAT_PEND c) = true) : ∃ t,
    exec (.swGo req c w) s = .next t ∧ t.nv = s.nv ∧ t.d.aux = s.d.aux ∧ rdB t.d (Reg.AUX_CONV_STAT_OVR_EV c) = true ∧
      rd t.d (Reg.AUX_CONV_CNT_OVR c) = satAdd 16 (rd s.d (Reg.AUX_CONV_CNT_OVR c)) 1 := by
  obtain ⟨u, hdev, haux, hstat⟩ := auxConvCtrl_swGo hc hacc htrig happly hofs hnent
  obtain ⟨-, -, -, -, -, hcnt, hev, -⟩ := convStat_keys c
  have hbusy' : convBusy u c = true := by
    rw [convBusy, rdB, hstat _ (Or.inl rfl)]
    exact hbusy
  have hpend' : rdB u (Reg.AUX_CONV_STAT_PEND c) = true := by
    rw [rdB, hstat _ (Or.inr (Or.inl rfl))]
    exact hpend
  have htriggered : trigger u c = raise (incSat (wrB u (Reg.AUX_CONV_STAT_OVR_EV c) true) (Reg.AUX_CONV_CNT_OVR c) 1)
      Src.AUX_TRIG_OVR 0 0 c (convEntry (incSat (wrB u (Reg.AUX_CONV_STAT_OVR_EV c) true) (Reg.AUX_CONV_CNT_OVR c) 1) c) := by
    unfold trigger
    rw [if_neg (by simp [hbusy'])]
    exact if_neg (by simp [hpend'])
  have hflag := rdB_wrB_same u (Reg.AUX_CONV_STAT_OVR_EV c) true (by simp [Reg.AUX_CONV_STAT_OVR_EV])
  have hcount : rd (wrB u (Reg.AUX_CONV_STAT_OVR_EV c) true) (Reg.AUX_CONV_CNT_OVR c) = rd s.d (Reg.AUX_CONV_CNT_OVR c) :=
    (rd_wrB_ne u _ _ true hcnt).trans (hstat _ (Or.inr (Or.inr (Or.inr rfl))))
  have haux2 : (wrB u (Reg.AUX_CONV_STAT_OVR_EV c) true).aux = u.aux := rfl
  generalize wrB u (Reg.AUX_CONV_STAT_OVR_EV c) true = v at htriggered hflag hcount haux2
  refine ⟨_, next_withDev (hdev.trans htriggered), rfl, haux2.trans haux, ?_, ?_⟩
  · exact (rdB_wr_ne v _ _ _ hev).trans hflag
  · exact (rd_incSat_half v rfl).trans (by rw [hcount])

end

/-! ### Conversions -/

section
variable {x : Int} {subt : Nat}

/-- The entry in progress, and the calibrated result of a raw code. -/
def convEnt (d : Dev) (c : Nat) : AuxEnt := auxEnt ((conv d c).words.getD (convEntry d c) 0)
def convResult (d : Dev) (c : Nat) (x : Int) : Int := sat16 (auxCalibrate (sat16 x) ((conv d c).cal.getD (convEntry d c) 0x4000))

/-- The device as a conversion leaves it before its entry may end: counted, summed, and the latest of its input. -/
theorem convDone_counts {d : Dev} (hbusy : convBusy d c = true) (hrun : d.aux.run = none) (haxes : (img d).axes = [])
    (hbus : (img d).bus = none) (hilv : (convEnt d c).ilv = false) :
    ∃ e, convDone d c x subt = (if (conv e c).cnt = (convEnt d c).count then entryEnd e c (convEnt d c) (convResult d c x) else e) ∧
      e.regs = d.regs ∧ e.k = d.k ∧ e.aux.run = none ∧ (conv e c).cnt = (conv d c).cnt + 1 ∧
      (conv e c).sum = (conv d c).sum + convResult d c x ∧ (conv e c).trig = (conv d c).trig ∧
      (conv e c).words = (conv d c).words ∧
      SMap.find e.aux.latest (convEnt d c).input = some (convResult d c x, tickNs d + subt) := by
  unfold convDone
  rw [if_neg (by simp [hbusy])]
  extract_lets v i ent odd raw mapped y r clip lim isOpen d1 d2 d3
  have hodd : odd = false := by
    unfold odd
    rw [show ent.ilv = false from hilv, Bool.false_and]
  have hmapped : mapped = raw := by
    unfold mapped
    rw [hodd, if_neg (by decide)]
  have hr : r = convResult d c x := by
    unfold r y
    rw [hmapped]
    rfl
  have h1 : d1 = d := by
    unfold d1 captureConv
    rw [hrun]
  have h2 : conv d2 c = { v with cnt := v.cnt + 1, sum := v.sum + r, clip := v.clip || clip, open_ := v.open_ || isOpen } := by
    unfold d2
    rw [h1, conv_setConv]
  have h2rest : d2.regs = d.regs ∧ d2.k = d.k ∧ d2.aux.run = none ∧ d2.firn = d.firn ∧ d2.aux.latest = d.aux.latest ∧
      tickNs d2 = tickNs d := by
    unfold d2
    rw [h1]
    exact ⟨rfl, rfl, hrun, rfl, rfl, rfl⟩
  obtain ⟨hregs, hk, hrun2, hfirn, -, htick⟩ := h2rest
  clear_value d2
  have himg : img d2 = img d := by rw [img, hfirn]; rfl
  have h3 : d3 = { d2 with aux := { d2.aux with latest := SMap.put d2.aux.latest ent.input (r, tickNs d + subt) } } := by
    unfold d3 deliverAux forceInput
    have himg' : img { d2 with aux := { d2.aux with latest := SMap.put d2.aux.latest ent.input (r, tickNs d2 + subt) } } = img d := himg
    rw [htick] at himg' ⊢
    dsimp only
    rw [himg', haxes, List.filter_nil, List.foldl_nil, himg', hbus]
    rfl
  have h3conv : conv d3 c = conv d2 c := by rw [h3]; rfl
  have h3rest : d3.regs = d2.regs ∧ d3.k = d2.k ∧ d3.aux.run = d2.aux.run ∧
      SMap.find d3.aux.latest ent.input = some (r, tickNs d + subt) := by
    rw [h3]
    exact ⟨rfl, rfl, rfl, SMap.find_put_same _ _ _⟩
  obtain ⟨hregs3, hk3, hrun3, hlatest⟩ := h3rest
  clear_value d3
  refine ⟨d3, by rw [hr]; rfl, hregs3.trans hregs, hk3.trans hk, hrun3.trans hrun2, ?_, ?_, ?_, ?_, ?_⟩
  · rw [h3conv, h2]
  · rw [h3conv, h2, hr]
  · rw [h3conv, h2]
  · rw [h3conv, h2]
  · rw [hr] at hlatest
    exact hlatest

theorem exec_auxConversionDone_counts (hbusy : convBusy s.d c = true) (hrun : s.d.aux.run = none) (haxes : (img s.d).axes = [])
    (hbus : (img s.d).bus = none) (hilv : (convEnt s.d c).ilv = false) (hmore : (conv s.d c).cnt + 1 ≠ (convEnt s.d c).count) :
    ∃ t, exec (.auxConversionDone c x subt) s = .next t ∧ t.nv = s.nv ∧ t.d.regs = s.d.regs ∧
      (conv t.d c).cnt = (conv s.d c).cnt + 1 ∧ (conv t.d c).sum = (conv s.d c).sum + convResult s.d c x ∧
      SMap.find t.d.aux.latest (convEnt s.d c).input = some (convResult s.d c x, tickNs s.d + subt) := by
  obtain ⟨e, hdev, hregs, -, -, hcnt, hsum, -, -, hlatest⟩ := convDone_counts (x := x) (subt := subt) hbusy hrun haxes hbus hilv
  rw [if_neg (by rw [hcnt]; exact hmore)] at hdev
  exact ⟨_, next_withDev hdev, rfl, hregs, hcnt, hsum, hlatest⟩

theorem exec_auxConversionDone_idle (hidle : convBusy s.d c = false) : exec (.auxConversionDone c x subt) s = .next s := by
  have hdev : convDone s.d c x subt = s.d := if_pos (by simp [hidle])
  exact next_withDev hdev

/-- The registers that the end of an entry writes beside its record: the events of its converter, and the open inputs. -/
def statKey (c k : Nat) : Prop := k = (Reg.AUX_CONV_STAT_CLIP_EV c).key ∨ k = (Reg.AUX_CONV_STAT_OPEN_EV c).key ∨
  k / 32 = 0x100F000C ∨ k / 32 = 0x100F0010

theorem not_statKey_pend (c : Nat) : ¬ statKey c (Reg.AUX_CONV_STAT_PEND c).key := by
  simp only [statKey, Fld.key, Reg.AUX_CONV_STAT_PEND, Reg.AUX_CONV_STAT_CLIP_EV, Reg.AUX_CONV_STAT_OPEN_EV]
  omega

theorem not_statKey_record (c i j : Nat) : ¬ statKey c (Reg.AUX_RES_DATA c i j).key ∧
    (Reg.AUX_RES_DATA c i j).key ≠ (Reg.AUX_CONV_STAT_BUSY c).key := by
  simp only [statKey, Fld.key, Reg.AUX_RES_DATA, Reg.AUX_CONV_STAT_CLIP_EV, Reg.AUX_CONV_STAT_OPEN_EV, Reg.AUX_CONV_STAT_BUSY]
  omega

/-- Events flagged, and inputs found open or not: nothing else has changed. -/
structure StatMarked (c : Nat) (d e : Dev) : Prop where
  regs : RegsWithin (statKey c) d e
  aux : e.aux = d.aux

theorem StatMarked.refl (c : Nat) (d : Dev) : StatMarked c d d := ⟨.refl _ _, rfl⟩

theorem StatMarked.wrB {d e : Dev} (h : StatMarked c d e) {f : Fld} {b : Bool} (hf : statKey c f.key) : StatMarked c d (wrB e f b) :=
  ⟨h.regs.wrB b hf, h.aux⟩

theorem StatMarked.raise {d e : Dev} (h : StatMarked c d e) (src ut ui d0 d1 : Nat) : StatMarked c d (raise e src ut ui d0 d1) :=
  ⟨h.regs.raise src ut ui d0 d1, h.aux⟩

theorem StatMarked.ite {d e g : Dev} {p : Prop} [Decidable p] (h : StatMarked c d e) (h' : StatMarked c d g) :
    StatMarked c d (if p then e else g) := by
  split
  · exact h
  · exact h'

theorem StatMarked.setOpen {d e : Dev} (h : StatMarked c d e) (input : Nat) (b : Bool) : StatMarked c d (setOpen e input b) := by
  unfold Machine.setOpen
  refine StatMarked.ite ⟨h.regs.wr (f := Reg.AUX_OPEN_LO_INPUTS) _ ?_, h.aux⟩ ⟨h.regs.wr (f := Reg.AUX_OPEN_HI_INPUTS) _ ?_, h.aux⟩
  · exact Or.inr (Or.inr (Or.inl rfl))
  · exact Or.inr (Or.inr (Or.inr rfl))

/-- The record that the end of an entry writes. -/
theorem resData_written (d : Dev) (c i word sum : Nat) :
    let e := wr (wr (wr (wr d (Reg.AUX_RES_DATA c i 0) word) (Reg.AUX_RES_DATA c i 1) sum) (Reg.AUX_RES_DATA c i 2) d.k)
      (Reg.AUX_RES_DATA c i 3) (d.k / 2 ^ 32)
    rd e (Reg.AUX_RES_DATA c i 0) = word % 2 ^ 32 ∧ rd e (Reg.AUX_RES_DATA c i 1) = sum % 2 ^ 32 ∧
      rd e (Reg.AUX_RES_DATA c i 2) = d.k % 2 ^ 32 := by
  have hne {a b : Nat} (h : a ≠ b) : (Reg.AUX_RES_DATA c i a).key ≠ (Reg.AUX_RES_DATA c i b).key := by
    simp only [Fld.key, Reg.AUX_RES_DATA]
    omega
  refine ⟨?_, ?_, ?_⟩
  · rw [rd_wr_ne _ _ _ _ (hne (by decide)), rd_wr_ne _ _ _ _ (hne (by decide)), rd_wr_ne _ _ _ _ (hne (by decide)), rd_wr_same]
    rfl
  · rw [rd_wr_ne _ _ _ _ (hne (by decide)), rd_wr_ne _ _ _ _ (hne (by decide)), rd_wr_same]
    rfl
  · rw [rd_wr_ne _ _ _ _ (hne (by decide)), rd_wr_same]
    rfl

/-- The last entry of a sequence that a tick or a command triggers, with no trigger waiting, ends its pass. -/
theorem entryEnd_ends {d : Dev} (ent : AuxEnt) (r : Int) (hlast : (conv d c).words.length = convEntry d c + 1) (hrun : d.aux.run = none) (htrig : (conv d c).trig = 2)
    (hpend : rdB d (Reg.AUX_CONV_STAT_PEND c) = false) : convBusy (entryEnd d c ent r) c = false ∧
    (conv (entryEnd d c ent r) c).cnt = 0 ∧ rd (entryEnd d c ent r) (Reg.AUX_RES_DATA c (convEntry d c) 0) % 2 ^ 16 = ofS 16 r ∧
    rd (entryEnd d c ent r) (Reg.AUX_RES_DATA c (convEntry d c) 1) = ofS 32 (conv d c).sum ∧
    rd (entryEnd d c ent r) (Reg.AUX_RES_DATA c (convEntry d c) 2) = d.k % 2 ^ 32 := by
  unfold entryEnd
  extract_lets v i clip word d1 d2 d3 d4 a4 d5 d6 d7
  have hres := resData_written d c i word (ofS 32 v.sum)
  have hd2 : d2 = wr (wr (wr (wr d (Reg.AUX_RES_DATA c i 0) word) (Reg.AUX_RES_DATA c i 1) (ofS 32 v.sum)) (Reg.AUX_RES_DATA c i 2) d.k)
      (Reg.AUX_RES_DATA c i 3) (d.k / 2 ^ 32) := rfl
  rw [← hd2] at hres
  have haux2 : d2.aux = d.aux := rfl
  have hpend2 : rdB d2 (Reg.AUX_CONV_STAT_PEND c) = false := by
    have hne (j : Nat) : (Reg.AUX_CONV_STAT_PEND c).key ≠ (Reg.AUX_RES_DATA c i j).key := by
      simp only [Fld.key, Reg.AUX_CONV_STAT_PEND, Reg.AUX_RES_DATA]
      omega
    rw [hd2, rdB_wr_ne _ _ _ _ (hne 3), rdB_wr_ne _ _ _ _ (hne 2), rdB_wr_ne _ _ _ _ (hne 1), rdB_wr_ne _ _ _ _ (hne 0)]
    exact hpend
  clear_value d2
  have hdone : StatMarked c d2 d6 := by
    have h3 : StatMarked c d2 d3 := StatMarked.ite (StatMarked.raise ((StatMarked.refl c d2).wrB (f := Reg.AUX_CONV_STAT_CLIP_EV c) (Or.inl rfl)) _ _ _ _ _)
      (.refl c d2)
    have h4 : StatMarked c d2 d4 := StatMarked.ite h3 (StatMarked.ite (StatMarked.raise
      ((h3.wrB (f := Reg.AUX_CONV_STAT_OPEN_EV c) (Or.inr (Or.inl rfl))).setOpen _ _) _ _ _ _ _)
      (h3.setOpen _ _))
    have h5 : d5 = d4 := by
      unfold d5
      rw [h4.aux, haux2, hrun]
    have h6 : d6 = d5 := by
      unfold d6 captureEnd
      rw [h5, h4.aux, haux2, hrun]
    rw [h6, h5]
    exact h4
  clear_value d6
  have h7 : conv d7 c = { conv d c with
      cnt := 0, sum := 0, clip := false, open_ := false, inj := false, capBad := false } := by
    unfold d7
    rw [conv_setConv, conv_congr (hdone.aux.trans haux2)]
  have h7regs : d7.regs = d6.regs := rfl
  clear_value d7
  have hkeep (f : Fld) (hf : ¬ statKey c f.key) : rd d7 f = rd d2 f := ((RegsWithin.of_regs (R := statKey c) h7regs) f hf).trans (hdone.regs f hf)
  rw [if_neg (by rw [show v.words.length = i + 1 from hlast]; omega)]
  have hends : endPass d7 c = wrB d7 (Reg.AUX_CONV_STAT_BUSY c) false := by
    have hnot : rdB (wrB d7 (Reg.AUX_CONV_STAT_BUSY c) false) (Reg.AUX_CONV_STAT_PEND c) = false := by
      rw [rdB_wrB_ne _ _ _ _ (convStat_keys c).2.2.2.2.2.2.2.1, rdB, hkeep _ (not_statKey_pend c)]
      exact hpend2
    have htrig7 : (conv (wrB d7 (Reg.AUX_CONV_STAT_BUSY c) false) c).trig ≠ 1 := by
      have hsame : conv (wrB d7 (Reg.AUX_CONV_STAT_BUSY c) false) c = conv d7 c := rfl
      rw [hsame, h7]
      simp [htrig]
    unfold endPass
    dsimp only
    rw [if_neg htrig7, if_neg (by simp [hnot])]
  rw [hends]
  have hrecord (j : Nat) : rd (wrB d7 (Reg.AUX_CONV_STAT_BUSY c) false) (Reg.AUX_RES_DATA c i j) = rd d2 (Reg.AUX_RES_DATA c i j) := by
    obtain ⟨hkey, hbusyKey⟩ := not_statKey_record c i j
    rw [rd_wrB_ne _ _ _ _ hbusyKey, hkeep _ hkey]
  refine ⟨?_, ?_, ?_, ?_, ?_⟩
  · exact rdB_wrB_same d7 _ false (by simp [Reg.AUX_CONV_STAT_BUSY])
  · exact congrArg AuxConv.cnt h7
  · refine (congrArg (· % 2 ^ 16) ((hrecord 0).trans hres.1)).trans ?_
    have hx := ofS_lt 16 r
    have hword : word % 2 ^ 16 = ofS 16 r := by
      unfold word
      omega
    omega
  · exact (hrecord 1).trans (hres.2.1.trans (Nat.mod_eq_of_lt (ofS_lt 32 _)))
  · exact (hrecord 2).trans hres.2.2

theorem exec_auxConversionDone_ends (hbusy : convBusy s.d c = true) (hrun : s.d.aux.run = none) (haxes : (img s.d).axes = [])
    (hbus : (img s.d).bus = none) (hilv : (convEnt s.d c).ilv = false) (hlastConv : (conv s.d c).cnt + 1 = (convEnt s.d c).count)
    (htrig : (conv s.d c).trig = 2) (hlast : (conv s.d c).words.length = convEntry s.d c + 1)
    (hpend : rdB s.d (Reg.AUX_CONV_STAT_PEND c) = false) : ∃ t, exec (.auxConversionDone c x subt) s = .next t ∧ t.nv = s.nv ∧
      convBusy t.d c = false ∧ (conv t.d c).cnt = 0 ∧
      rd t.d (Reg.AUX_RES_DATA c (convEntry s.d c) 0) % 2 ^ 16 = ofS 16 (convResult s.d c x) ∧
      rd t.d (Reg.AUX_RES_DATA c (convEntry s.d c) 1) = ofS 32 ((conv s.d c).sum + convResult s.d c x) ∧
      rd t.d (Reg.AUX_RES_DATA c (convEntry s.d c) 2) = s.d.k % 2 ^ 32 := by
  obtain ⟨e, hdev, hregs, hk, hrun', hcnt, hsum, htrig', hwords, -⟩ := convDone_counts (x := x) (subt := subt) hbusy hrun haxes hbus hilv
  rw [if_pos (by rw [hcnt]; exact hlastConv)] at hdev
  have hentry : convEntry e c = convEntry s.d c := by simp only [convEntry, rd, hregs]
  obtain ⟨hidle, hzero, h0, h1, h2⟩ := entryEnd_ends (d := e) (c := c) (convEnt s.d c) (convResult s.d c x) (by rw [hwords, hentry]; exact hlast)
    hrun' (htrig'.trans htrig) (by simp only [rdB, rd, hregs] at hpend ⊢; exact hpend)
  rw [hentry] at h0 h1 h2
  rw [hsum] at h1
  rw [hk] at h2
  generalize entryEnd e c (convEnt s.d c) (convResult s.d c x) = g at hdev hidle hzero h0 h1 h2
  exact ⟨_, next_withDev hdev, rfl, hidle, hzero, h0, h1, h2⟩

end

/-! ### APPLY -/

/-- A write of the control register begins no pass and ends none. -/
theorem applied_busy (hc : c < 8) {req : Requester} {w : Nat} {u : Dev}
    (hu : writeFields s.d req (0x100F0100 + 0x20 * c) (setBit w 30 true) = u) : convBusy u c = convBusy s.d c := by
  rw [← hu, convBusy, convBusy, rdB, rdB, convStat_kept hc s.d req _ _ (Or.inl rfl)]

section
variable {req : Requester} {w : Nat} (hc : c < 8) (hacc : accessErr s.d req (0x100F0100 + 0x20 * c) true = 0)
  (hgo : bit w 31 = false) (hofs : bits w 8 6 ≤ 44) (hnent : bits w 16 5 ≤ 16)
include hc hacc hgo hofs hnent

theorem auxConvCtrl_apply : auxConvCtrl s.d req c (setBit w 30 true) =
    auxApply (writeFields s.d req (0x100F0100 + 0x20 * c) (setBit w 30 true)) req c := by
  refine (auxConvCtrl_eq hc hacc hofs hnent 30 (by decide)).trans ?_
  unfold convCtrlActs
  rw [if_pos (bit_setBit w 30 true)]
  refine if_neg fun h => ?_
  have hbit := h.1
  rw [bit_setBit_ne w true (by decide), hgo] at hbit
  exact Bool.noConfusion hbit

variable {u : Dev} (hu : writeFields s.d req (0x100F0100 + 0x20 * c) (setBit w 30 true) = u)
include hu

theorem exec_apply_refused (hbad : stagedBad u c = true) : exec (.apply req c w) s =
    .next (s.withDev (refuseW u req (0x100F0100 + 0x20 * c))) := by
  refine next_withDev ((auxConvCtrl_apply hc hacc hgo hofs hnent).trans ?_)
  rw [hu]
  exact if_pos hbad

theorem exec_apply_waits (hgood : stagedBad u c = false) (hbusy : convBusy s.d c = true) : exec (.apply req c w) s =
    .next (s.withDev (wrB u (Reg.AUX_CONV_STAT_APPLY_PEND c) true)) := by
  have hbusy' := (applied_busy hc hu).trans hbusy
  refine next_withDev ((auxConvCtrl_apply hc hacc hgo hofs hnent).trans ?_)
  rw [hu]
  unfold auxApply
  rw [if_neg (by simp [hgood])]
  exact if_pos (Or.inl hbusy')

theorem exec_apply_installs (hgood : stagedBad u c = false) (hidle : convBusy s.d c = false)
    (hpend : rdB s.d (Reg.AUX_CONV_STAT_PEND c) = false) (htrig : (stagedRec u c).trig ≠ 1) : ∃ t,
      exec (.apply req c w) s = .next t ∧ t.nv = s.nv ∧ (conv t.d c).words = (stagedRec u c).words ∧
      (conv t.d c).trig = (stagedRec u c).trig ∧ rdB t.d (Reg.AUX_CONV_STAT_APPLY_PEND c) = false ∧ convBusy t.d c = false := by
  have hidle' := (applied_busy hc hu).trans hidle
  have hpend' : rdB u (Reg.AUX_CONV_STAT_PEND c) = false := by
    rw [← hu, rdB, convStat_kept hc s.d req _ _ (Or.inr (Or.inl rfl))]
    exact hpend
  generalize hd1 : setConv u c (fun v => { v with
    trig := (stagedRec u c).trig, axis := (stagedRec u c).axis, ofs := (stagedRec u c).tickOfs, words := (stagedRec u c).words }) = d1
  have hconv : (conv d1 c).trig = (stagedRec u c).trig ∧ (conv d1 c).words = (stagedRec u c).words := by
    rw [← hd1, conv_setConv]
    exact ⟨rfl, rfl⟩
  have hregs : d1.regs = u.regs := by rw [← hd1]; rfl
  have hinstalled : installRec u (stagedRec u c) = wrB d1 (Reg.AUX_CONV_STAT_APPLY_PEND c) false := by rw [← hd1]; rfl
  have hsame : conv (wrB d1 (Reg.AUX_CONV_STAT_APPLY_PEND c) false) c = conv d1 c := rfl
  have hdev : auxConvCtrl s.d req c (setBit w 30 true) = wrB d1 (Reg.AUX_CONV_STAT_APPLY_PEND c) false := by
    refine (auxConvCtrl_apply hc hacc hgo hofs hnent).trans ?_
    rw [hu]
    unfold auxApply
    dsimp only
    rw [if_neg (by simp [hgood]), if_neg (by simp [hidle', hpend']), hinstalled]
    exact if_neg (by rw [hsame, hconv.1]; exact htrig)
  refine ⟨_, next_withDev hdev, rfl, (congrArg AuxConv.words hsame).trans hconv.2, (congrArg AuxConv.trig hsame).trans hconv.1,
    rdB_wrB_same d1 _ false (by simp [Reg.AUX_CONV_STAT_APPLY_PEND]), ?_⟩
  refine (rdB_wrB_ne d1 _ _ false (convStat_keys c).2.2.2.2.2.2.2.2).trans (Eq.trans ?_ hidle')
  simp only [convBusy, rdB, rd, hregs]

end
end

/-- Settles O50: a pass starts, a conversion counts, and an entry's end writes its record apart from the status it moves; a
write of the control register leaves the status that APPLY and `SW_GO` are judged by. -/
theorem auxConverters : Obligations.AuxConverters := by
  unfold Obligations.AuxConverters
  intro s req c w subt x hc
  refine ⟨?pass, ?done, exec_auxConversionDone_idle, ?apply⟩
  case pass =>
    intro hpend hwords
    refine ⟨exec_auxTickTrigger_starts hpend hwords, exec_auxTickTrigger_late, fun hacc htrig happly hofs hnent => ?_⟩
    exact ⟨exec_swGo_starts hc hacc htrig happly hofs hnent hpend hwords, exec_swGo_waits hc hacc htrig happly hofs hnent,
      exec_swGo_dropped hc hacc htrig happly hofs hnent⟩
  case done =>
    intro hbusy hrun haxes hbus hilv
    refine ⟨exec_auxConversionDone_counts hbusy hrun haxes hbus hilv, fun hlastConv htrig hlast _ hpend => ?_⟩
    exact exec_auxConversionDone_ends hbusy hrun haxes hbus hilv hlastConv htrig hlast hpend
  case apply =>
    intro hacc hgo hofs hnent u hu
    exact ⟨exec_apply_refused hc hacc hgo hofs hnent hu, exec_apply_waits hc hacc hgo hofs hnent hu,
      exec_apply_installs hc hacc hgo hofs hnent hu⟩

end Sys2Proof.Machine
end

section
/-!
PROOFS. Axes at a carrier centre, at standstill and on their limits (R426, R429, R431, R434, R448).
-/
namespace Sys2Proof.Machine

/-! ### The state of an axis -/

theorem axis_setAxis (d : Dev) (n : Nat) (f : AxisSt → AxisSt) : axis (setAxis d n f) n = f (axis d n) :=
  SMap.get_mod_same _ _ _ _

theorem axis_congr {d e : Dev} (h : e.axis = d.axis) (n : Nat) : axis e n = axis d n := by simp only [axis, h]

/-- A descriptor that is found is the axis's. -/
theorem axisRec_axis {d : Dev} {n : Nat} {r : AxisRec} (h : axisRec d n = some r) : r.axis = n := by
  simpa using List.find?_some h

/-- The registers that a stop writes. -/
def stopKey (n k : Nat) : Prop :=
  k = (Reg.AXIS_STAT_CAUSE n).key ∨ k = (Reg.AXIS_STAT_HOLDING n).key ∨ k = (Reg.AXIS_STAT_AT_VLIM n).key ∨
    k = (Reg.AXIS_STAT_STATE n).key

/-- A stop cause in the states that it ends (R429). -/
theorem axisStop_stops {d : Dev} {n cause : Nat} (hlow : 1 ≤ axState d n) (hhigh : axState d n ≤ 4) (hcause : cause < 16) :
    axState (axisStop d n cause) n = axSTOPPING ∧ rd (axisStop d n cause) (Reg.AXIS_STAT_CAUSE n) = cause ∧
    RegsWithin (stopKey n) d (axisStop d n cause) := by
  unfold axisStop
  lift_lets
  extract_lets st d1 d2 d3 d4
  have hst : st = axState d n := rfl
  clear_value st
  rw [if_neg (by rw [hst, axTEST]; omega), if_pos (by simp only [hst, axMEASURE, axSHORT, axARMING, axRUN]; omega)]
  have h1 : rd d1 (Reg.AXIS_STAT_CAUSE n) = cause := (rd_wr_same _ _ _).trans (Nat.mod_eq_of_lt hcause)
  have h3 : rd d3 (Reg.AXIS_STAT_CAUSE n) = rd d1 (Reg.AXIS_STAT_CAUSE n) := by
    refine (rd_wrB_ne d2 _ _ _ ?_).trans (rd_wrB_ne d1 _ _ _ ?_)
    · simp [Fld.key, Reg.AXIS_STAT_CAUSE, Reg.AXIS_STAT_AT_VLIM]
    · simp [Fld.key, Reg.AXIS_STAT_CAUSE, Reg.AXIS_STAT_HOLDING]
  have hwithin : RegsWithin (stopKey n) d d3 :=
    (((RegsWithin.refl _ _).wr _ (Or.inl rfl)).wrB _ (Or.inr (Or.inl rfl))).wrB _ (Or.inr (Or.inr (Or.inl rfl)))
  clear_value d3
  refine ⟨rd_wr_same _ (Reg.AXIS_STAT_STATE n) axSTOPPING, ?_, ?_⟩
  · exact (rd_wr_ne d4 (Reg.AXIS_STAT_STATE n) _ _ (by simp [Fld.key, Reg.AXIS_STAT_CAUSE, Reg.AXIS_STAT_STATE])).trans (h3.trans h1)
  · exact (hwithin.setAxis n _).wr _ (Or.inr (Or.inr (Or.inr rfl)))

/-- A fault in the states that a stop cause ends: STOPPING with the cause, the fault and its event. -/
theorem axisFault_faults {d : Dev} {n cause src : Nat} {ev : Nat → Fld} (hlow : 1 ≤ axState d n) (hhigh : axState d n ≤ 4)
    (hcause : cause < 16) (hev : ¬ stopKey n (ev n).key ∧ (ev n).key ≠ (Reg.AXIS_STAT_FAULT n).key ∧ (ev n).wd = 1) :
    axState (axisFault d n cause ev src) n = axSTOPPING ∧ rd (axisFault d n cause ev src) (Reg.AXIS_STAT_CAUSE n) = cause ∧
    rdB (axisFault d n cause ev src) (Reg.AXIS_STAT_FAULT n) = true ∧ rdB (axisFault d n cause ev src) (ev n) = true ∧
    (axisFault d n cause ev src).mor.raised.map (·.src) = d.mor.raised.map (·.src) ++ [src] := by
  obtain ⟨hstop, hfault, hone⟩ := hev
  have hmarked : ∃ e, wrB (wrB d (ev n) true) (Reg.AXIS_STAT_FAULT n) true = e ∧ axState e n = axState d n ∧
      rdB e (Reg.AXIS_STAT_FAULT n) = true ∧ rdB e (ev n) = true ∧ e.mor = d.mor := by
    refine ⟨_, rfl, ?_, rdB_wrB_same _ (Reg.AXIS_STAT_FAULT n) true (by simp [Reg.AXIS_STAT_FAULT]), ?_, rfl⟩
    · refine (rd_wrB_ne _ (Reg.AXIS_STAT_FAULT n) _ true ?_).trans (rd_wrB_ne d (ev n) _ true ?_)
      · simp [Fld.key, Reg.AXIS_STAT_STATE, Reg.AXIS_STAT_FAULT]
      · exact fun heq => hstop (Or.inr (Or.inr (Or.inr heq.symm)))
    · exact (rdB_wrB_ne _ (Reg.AXIS_STAT_FAULT n) (ev n) true hfault).trans (rdB_wrB_same d (ev n) true (by omega))
  obtain ⟨e, he, hstate, hfaulted, hshown, hmor⟩ := hmarked
  have hdev : axisFault d n cause ev src = raise (axisStop e n cause) src 0 0 n 0 := by
    unfold axisFault
    rw [if_pos (by rw [axStoppable, decide_eq_true ⟨hlow, hhigh⟩])]
    dsimp only
    rw [he]
  obtain ⟨hstopped, hcaused, hwithin⟩ := axisStop_stops (d := e) (n := n) (cause := cause) (by omega) (by omega) hcause
  have hmorStop := axisStop_mor e n cause
  rw [hdev]
  generalize axisStop e n cause = g at *
  refine ⟨hstopped, hcaused, (hwithin.rdB ?_).trans hfaulted, (hwithin.rdB hstop).trans hshown, ?_⟩
  · simp [stopKey, Fld.key, Reg.AXIS_STAT_FAULT, Reg.AXIS_STAT_CAUSE, Reg.AXIS_STAT_HOLDING, Reg.AXIS_STAT_AT_VLIM, Reg.AXIS_STAT_STATE]
  · show (g.mor.raised ++ _).map _ = _
    rw [hmorStop, hmor, List.map_append]
    rfl

/-- Driving a brake writes its shown state, and touches of the axis the icefall's mark alone. -/
theorem driveBrake_keeps (d : Dev) (n : Nat) (on : Bool) :
    RegsWithin (fun k => k = (Reg.SAFE_BRAKE_STATE n).key) d (driveBrake d n on) ∧ (driveBrake d n on).mor = d.mor ∧
    (driveBrake d n on).firn = d.firn ∧ ∃ i, axis (driveBrake d n on) n = { axis d n with ice := i } := by
  unfold driveBrake
  dsimp only
  generalize (on && ownsGate d && !rdB d (Reg.SAFE_BRAKE_LOCKOUT n)) = driven
  generalize he : setAxis { d with safe := { d.safe with brake := setBit d.safe.brake n driven } } n
    (fun a => { a with ice := a.ice && driven }) = e
  have hregs : RegsWithin (fun k => k = (Reg.SAFE_BRAKE_STATE n).key) d e := .of_regs (by rw [← he]; rfl)
  have hmor : e.mor = d.mor := by rw [← he]; rfl
  have hfirn : e.firn = d.firn := by rw [← he]; rfl
  have haxis : axis e n = { axis d n with ice := (axis d n).ice && driven } := by
    rw [← he]
    exact axis_setAxis { d with safe := { d.safe with brake := setBit d.safe.brake n driven } } n _
  split
  · exact ⟨hregs, hmor, hfirn, _, haxis⟩
  · exact ⟨hregs.wr _ rfl, hmor, hfirn, _, haxis⟩

/-- A brake is driven on by the owner of the gated outputs for an axis that is not locked out (R376, R415). -/
theorem driveBrake_on {d : Dev} {n : Nat} (hown : ownsGate d = true) (hfree : rdB d (Reg.SAFE_BRAKE_LOCKOUT n) = false) :
    brakeOn (driveBrake d n true) n = true := by
  have hbit : bit (setBit d.safe.brake n true) n = true := bit_setBit _ _ _
  unfold driveBrake
  simp only [hown, hfree, Bool.and_true, Bool.not_false]
  split
  · exact hbit
  · exact hbit

theorem axState_driveBrake (d : Dev) (n : Nat) (on : Bool) : axState (driveBrake d n on) n = axState d n :=
  (driveBrake_keeps d n on).1 (Reg.AXIS_STAT_STATE n) (by simp [Fld.key, Reg.AXIS_STAT_STATE, Reg.SAFE_BRAKE_STATE]; omega)

theorem hasBrake_congr {d e : Dev} (h : e.firn = d.firn) (n : Nat) : hasBrake e n = hasBrake d n := by
  simp only [hasBrake, img, h]

/-! ### A carrier centre -/

theorem conv_setConv_ne (d : Dev) {c m : Nat} (f : AuxConv → AuxConv) (h : m ≠ c) : conv (setConv d c f) m = conv d m :=
  SMap.get_mod_ne _ _ _ h

/-- Where no converter is triggered by a carrier, its centre touches the converters' state alone. -/
theorem pwmCentre_quiet (d : Dev) (n : Nat) (hquiet : ∀ c, c < 8 → (conv d c).trig ≠ 3) :
    ∃ aux, pwmCentre d n = { d with aux := aux } := by
  have hmark (e : Dev) (c : Nat) (he : ∀ c, c < 8 → (conv e c).trig ≠ 3) : ∃ aux,
      (if convBusy e c then setConv e c (fun v => { v with inj := true }) else e) = { e with aux := aux } ∧
      ∀ c, c < 8 → (conv { e with aux := aux } c).trig ≠ 3 := by
    split
    · refine ⟨_, rfl, fun m hm => ?_⟩
      show (conv (setConv e c _) m).trig ≠ 3
      by_cases hmc : m = c
      · subst hmc
        rw [conv_setConv]
        exact he m hm
      · rw [conv_setConv_ne e _ hmc]
        exact he m hm
    · exact ⟨e.aux, rfl, he⟩
  obtain ⟨a1, h1, hq1⟩ := hmark d (2 * (n / 2)) hquiet
  obtain ⟨a2, h2, hq2⟩ := hmark { d with aux := a1 } (2 * (n / 2) + 1) hq1
  refine ⟨a2, ?_⟩
  unfold pwmCentre
  dsimp only
  rw [h1, h2]
  have hfold (l : List Nat) (hl : ∀ c ∈ l, c < 8) : l.foldl (fun e c => if (conv e c).trig = 3 ∧ (conv e c).axis = n then
      trigger e c else e) { d with aux := a2 } = { d with aux := a2 } := by
    induction l with
    | nil => rfl
    | cons c cs ih =>
      rw [List.foldl_cons, if_neg (fun h => hq2 c (hl c List.mem_cons_self) h.1)]
      exact ih fun m hm => hl m (List.mem_cons_of_mem c hm)
  exact hfold _ fun c hc => List.mem_range.mp hc

/-- What a read of the encoder that its CRC confirms leaves (R426). -/
structure EncoderRead (d e : Dev) (r : AxisRec) (n raw : Nat) (spd : Int) : Prop where
  state : axState e n = axState d n
  code : (axis e n).raw = raw
  speed : (axis e n).spd = spd
  good : (axis e n).encBad = 0
  pos : (axis e n).pos = (axis d n).pos + (if r.encInv then -1 else 1) * toS 24 (raw + 2 ^ 24 - (axis d n).raw)
  shownPos : rd e (Reg.AXIS_POS_POS n) = ofS 32 ((axis e n).pos.fdiv 256)
  shownSpd : rd e (Reg.AXIS_SPEED_SPEED n) = ofS 32 spd

theorem encRead_reads {d : Dev} {r : AxisRec} {enc : List Byte} (spd : Int) (hlen : enc.length = 4)
    (hcrc : encCrc (enc.take 3) = beAt enc 3 1) (hok : (axis d r.axis).encOk = true) :
    EncoderRead d (encRead d r enc spd) r r.axis (beAt enc 0 3) spd := by
  unfold encRead
  rw [hlen, hcrc]
  lift_lets
  extract_lets n raw a raw0 step pos d1 d2
  rw [if_pos ⟨rfl, rfl⟩]
  have hraw0 : raw0 = (axis d n).raw := if_pos hok
  have hstep : step = toS 24 (raw + 2 ^ 24 - raw0) := if_pos hok
  have hpos : pos = (axis d n).pos + (if r.encInv then -1 else 1) * toS 24 (raw + 2 ^ 24 - (axis d n).raw) := by
    show a.pos + _ = _
    rw [hstep, hraw0]
    split
    · rw [Int.neg_one_mul]
    · rw [Int.one_mul]
  have haxis : axis (wr d2 (Reg.AXIS_SPEED_SPEED n) (ofS 32 spd)) n =
      { a with raw := raw, pos := pos, encOk := true, encBad := 0, spd := spd } :=
    axis_setAxis d n fun a => { a with raw := raw, pos := pos, encOk := true, encBad := 0, spd := spd }
  have hshown : rd d2 (Reg.AXIS_POS_POS n) = ofS 32 (pos.fdiv 256) := (rd_wr_same _ _ _).trans (Nat.mod_eq_of_lt (ofS_lt _ _))
  have hstate : axState d2 n = axState d n :=
    rd_wr_ne _ (Reg.AXIS_POS_POS n) (Reg.AXIS_STAT_STATE n) _ (by simp only [Fld.key, Reg.AXIS_POS_POS, Reg.AXIS_STAT_STATE]; omega)
  clear_value d2 step raw0
  exact {
    state := (rd_wr_ne d2 (Reg.AXIS_SPEED_SPEED n) (Reg.AXIS_STAT_STATE n) _
      (by simp only [Fld.key, Reg.AXIS_SPEED_SPEED, Reg.AXIS_STAT_STATE]; omega)).trans hstate
    code := congrArg AxisSt.raw haxis
    speed := congrArg AxisSt.spd haxis
    good := congrArg AxisSt.encBad haxis
    pos := (congrArg AxisSt.pos haxis).trans hpos
    shownPos := by
      rw [haxis]
      exact (rd_wr_ne d2 (Reg.AXIS_SPEED_SPEED n) (Reg.AXIS_POS_POS n) _
        (by simp only [Fld.key, Reg.AXIS_SPEED_SPEED, Reg.AXIS_POS_POS]; omega)).trans hshown
    shownSpd := (rd_wr_same d2 _ _).trans (Nat.mod_eq_of_lt (ofS_lt _ _)) }

/-- A failed read of an axis at rest is counted, and no stop cause. -/
theorem encRead_fails {d : Dev} {r : AxisRec} {enc : List Byte} (spd : Int) (hlen : enc.length ≠ 4)
    (hoff : axState d r.axis = axOFF) : (axis (encRead d r enc spd) r.axis).encBad = (axis d r.axis).encBad + 1 ∧
    (axis (encRead d r enc spd) r.axis).pos = (axis d r.axis).pos ∧ (encRead d r enc spd).regs = d.regs := by
  have hrest : axStoppable (setAxis d r.axis (fun a => { a with encBad := a.encBad + 1 })) r.axis = false := by
    have hsame : axState (setAxis d r.axis (fun a => { a with encBad := a.encBad + 1 })) r.axis = axOFF := hoff
    rw [axStoppable, hsame]
    rfl
  have hcount : encRead d r enc spd = setAxis d r.axis (fun a => { a with encBad := a.encBad + 1 }) := by
    unfold encRead
    dsimp only
    rw [if_neg (fun h => hlen h.1)]
    split
    · exact if_neg (by rw [hrest]; decide)
    · rfl
  have haxis := axis_setAxis d r.axis fun a => { a with encBad := a.encBad + 1 }
  rw [hcount]
  exact ⟨by rw [haxis], by rw [haxis], rfl⟩

section
variable {s : State} {n : Nat} {r : AxisRec} (hrec : axisRec s.d n = some r)
include hrec

/-- A carrier centre of an axis at rest reads the encoder and drives nothing. -/
theorem pwmPeriod_rests (raw : List Int) {enc : List Byte} {spd : Int} (hquiet : ∀ c, c < 8 → (conv s.d c).trig ≠ 3)
    (hread : ∀ aux, axState (encRead { s.d with aux := aux } r enc spd) n = axOFF) :
    ∃ aux, pwmPeriod s.d n raw enc spd = encRead { s.d with aux := aux } r enc spd := by
  obtain ⟨aux, haux⟩ := pwmCentre_quiet s.d n hquiet
  have hoff := hread aux
  refine ⟨aux, ?_⟩
  unfold pwmPeriod
  rw [hrec]
  dsimp only
  rw [haux]
  generalize encRead { s.d with aux := aux } r enc spd = e at *
  rw [hoff, if_neg (by simp [axOFF, axARMING, axTEST, axRUN]), if_neg (by simp [axOFF, axSHORT, axSTOPPING, axRUN, axLOCKED])]

theorem exec_axisPwmPeriod_read (raw : List Int) {enc : List Byte} (spd : Int) (hoff : axState s.d n = axOFF)
    (hquiet : ∀ c, c < 8 → (conv s.d c).trig ≠ 3) (hlen : enc.length = 4) (hcrc : encCrc (enc.take 3) = beAt enc 3 1)
    (hok : (axis s.d n).encOk = true) : ∃ t,
    exec (.axisPwmPeriod n raw enc spd) s = .next t ∧ t.nv = s.nv ∧ t.pending = s.pending ∧ axState t.d n = axOFF ∧
      (axis t.d n).raw = beAt enc 0 3 ∧ (axis t.d n).spd = spd ∧ (axis t.d n).encBad = 0 ∧
      (axis t.d n).pos = (axis s.d n).pos + (if r.encInv then -1 else 1) * toS 24 (beAt enc 0 3 + 2 ^ 24 - (axis s.d n).raw) ∧
      rd t.d (Reg.AXIS_POS_POS n) = ofS 32 ((axis t.d n).pos.fdiv 256) ∧ rd t.d (Reg.AXIS_SPEED_SPEED n) = ofS 32 spd := by
  have hn := axisRec_axis hrec
  have hread (aux : AuxSt) : EncoderRead s.d (encRead { s.d with aux := aux } r enc spd) r n (beAt enc 0 3) spd := by
    subst hn
    have h := encRead_reads (d := { s.d with aux := aux }) spd hlen hcrc hok
    exact { h with }
  obtain ⟨aux, hdev⟩ := pwmPeriod_rests hrec raw hquiet fun aux => (hread aux).state.trans hoff
  have h := hread aux
  generalize encRead { s.d with aux := aux } r enc spd = e at *
  exact ⟨_, next_withDev hdev, rfl, rfl, h.state.trans hoff, h.code, h.speed, h.good, h.pos, h.shownPos, h.shownSpd⟩

theorem exec_axisPwmPeriod_short (raw : List Int) {enc : List Byte} (spd : Int) (hoff : axState s.d n = axOFF)
    (hquiet : ∀ c, c < 8 → (conv s.d c).trig ≠ 3) (hlen : enc.length ≠ 4) : ∃ t,
    exec (.axisPwmPeriod n raw enc spd) s = .next t ∧ t.nv = s.nv ∧ (axis t.d n).encBad = (axis s.d n).encBad + 1 ∧
      (axis t.d n).pos = (axis s.d n).pos ∧ rd t.d (Reg.AXIS_POS_POS n) = rd s.d (Reg.AXIS_POS_POS n) := by
  have hn := axisRec_axis hrec
  have hread (aux : AuxSt) : (axis (encRead { s.d with aux := aux } r enc spd) n).encBad = (axis s.d n).encBad + 1 ∧
      (axis (encRead { s.d with aux := aux } r enc spd) n).pos = (axis s.d n).pos ∧
      (encRead { s.d with aux := aux } r enc spd).regs = s.d.regs := by
    subst hn
    exact encRead_fails (d := { s.d with aux := aux }) spd hlen hoff
  obtain ⟨aux, hdev⟩ := pwmPeriod_rests hrec raw hquiet fun aux =>
    (RegsWithin.of_regs (R := fun _ => False) (hread aux).2.2 (Reg.AXIS_STAT_STATE n) id).trans hoff
  obtain ⟨hbad, hpos, hregs⟩ := hread aux
  generalize encRead { s.d with aux := aux } r enc spd = e at *
  exact ⟨_, next_withDev hdev, rfl, hbad, hpos, RegsWithin.of_regs (R := fun _ => False) hregs (Reg.AXIS_POS_POS n) id⟩

/-! ### Measurement, standstill and the limits -/

theorem exec_axisMeasureEnd_clamp (emf : Nat) (seqOk : Bool) (hstate : axState s.d n = axMEASURE) :
    exec (.axisMeasureEnd n emf true seqOk) s = .next (s.withDev (wr s.d (Reg.AXIS_STAT_STATE n) 2)) := by
  refine next_withDev ?_
  unfold measureEnd
  rw [hrec]
  dsimp only
  rw [if_neg (not_not_intro hstate)]
  rfl

theorem exec_axisMeasureEnd_sequence (emf : Nat) (hstate : axState s.d n = axMEASURE) : ∃ t,
    exec (.axisMeasureEnd n emf false false) s = .next t ∧ t.nv = s.nv ∧ axState t.d n = axSTOPPING ∧
      rd t.d (Reg.AXIS_STAT_CAUSE n) = 7 ∧ rdB t.d (Reg.AXIS_STAT_FAULT n) = true ∧ rdB t.d (Reg.AXIS_STAT_ENC_EV n) = true ∧
      t.d.mor.raised.map (·.src) = s.d.mor.raised.map (·.src) ++ [Src.AXIS_ENC] := by
  have hdev : measureEnd s.d n emf false false = axisFault s.d n 7 Reg.AXIS_STAT_ENC_EV Src.AXIS_ENC := by
    unfold measureEnd
    rw [hrec]
    dsimp only
    rw [if_neg (not_not_intro hstate)]
    rfl
  have hkeys : ¬ stopKey n (Reg.AXIS_STAT_ENC_EV n).key ∧ (Reg.AXIS_STAT_ENC_EV n).key ≠ (Reg.AXIS_STAT_FAULT n).key ∧
      (Reg.AXIS_STAT_ENC_EV n).wd = 1 := by
    simp [stopKey, Fld.key, Reg.AXIS_STAT_ENC_EV, Reg.AXIS_STAT_FAULT, Reg.AXIS_STAT_CAUSE, Reg.AXIS_STAT_HOLDING,
      Reg.AXIS_STAT_AT_VLIM, Reg.AXIS_STAT_STATE]
  obtain ⟨hstop, hcause, hfault, hev, hraised⟩ := axisFault_faults (d := s.d) (n := n) (cause := 7) (src := Src.AXIS_ENC)
    (ev := Reg.AXIS_STAT_ENC_EV) (Nat.le_of_eq hstate.symm) (by rw [hstate, axMEASURE]; decide) (by decide) hkeys
  exact ⟨_, next_withDev hdev, rfl, hstop, hcause, hfault, hev, hraised⟩

theorem exec_axisForceTimeout {x : Int} {t0 : Nat} (hforce : r.ainF ≠ 0xFF)
    (hlast : SMap.find s.d.aux.latest r.ainF = some (x, t0)) (hdue : t0 + 1000000 ≤ tickNs s.d) (hstate : axState s.d n = axRUN) :
    ∃ t, exec (.axisForceTimeout n) s = .next t ∧ t.nv = s.nv ∧ axState t.d n = axSTOPPING ∧
      rd t.d (Reg.AXIS_STAT_CAUSE n) = 8 ∧ rdB t.d (Reg.AXIS_STAT_FORCE_EV n) = true ∧
      t.d.mor.raised.map (·.src) = s.d.mor.raised.map (·.src) ++ [Src.AXIS_FORCE] := by
  have hdev : forceTimeout s.d n = axisFault s.d n 8 Reg.AXIS_STAT_FORCE_EV Src.AXIS_FORCE := by
    unfold forceTimeout
    rw [hrec]
    dsimp only
    rw [hlast]
    exact if_pos ⟨hforce, Nat.le_add_right_of_le hdue⟩
  have hkeys : ¬ stopKey n (Reg.AXIS_STAT_FORCE_EV n).key ∧ (Reg.AXIS_STAT_FORCE_EV n).key ≠ (Reg.AXIS_STAT_FAULT n).key ∧
      (Reg.AXIS_STAT_FORCE_EV n).wd = 1 := by
    simp [stopKey, Fld.key, Reg.AXIS_STAT_FORCE_EV, Reg.AXIS_STAT_FAULT, Reg.AXIS_STAT_CAUSE, Reg.AXIS_STAT_HOLDING,
      Reg.AXIS_STAT_AT_VLIM, Reg.AXIS_STAT_STATE]
  obtain ⟨hstop, hcause, -, hev, hraised⟩ := axisFault_faults (d := s.d) (n := n) (cause := 8) (src := Src.AXIS_FORCE)
    (ev := Reg.AXIS_STAT_FORCE_EV) (by rw [hstate, axRUN]; decide) (Nat.le_of_eq hstate) (by decide) hkeys
  exact ⟨_, next_withDev hdev, rfl, hstop, hcause, hev, hraised⟩

theorem exec_axisStandstill_arms (hslow : (axis s.d n).spd.natAbs < 10 * r.stillRpm) (hbrake : hasBrake s.d n = true)
    (hstate : axState s.d n = axSHORT) (hown : ownsGate s.d = true) (hfree : rdB s.d (Reg.SAFE_BRAKE_LOCKOUT n) = false) :
    ∃ t, exec (.axisStandstill n) s = .next t ∧ t.nv = s.nv ∧ axState t.d n = axARMING ∧ brakeOn t.d n = true ∧
      (axis t.d n).hold = (axis s.d n).pos ∧ (axis t.d n).iRef = 0 := by
  have hdev : standstill s.d n = armAxis s.d n := by
    unfold standstill
    rw [hrec]
    dsimp only
    rw [if_neg (by omega), if_pos hstate]
  have hcleared : ∃ e, setAxis s.d n (fun a => { axisClear a with hold := a.pos }) = e ∧
      axis e n = { axisClear (axis s.d n) with hold := (axis s.d n).pos } ∧ ownsGate e = true ∧
      rdB e (Reg.SAFE_BRAKE_LOCKOUT n) = false ∧ hasBrake e n = true := ⟨_, rfl, axis_setAxis _ _ _, hown, hfree, hbrake⟩
  obtain ⟨e, he, haxis, hownE, hfreeE, hbrakeE⟩ := hcleared
  obtain ⟨-, -, hfirn, i, haxisE⟩ := driveBrake_keeps e n true
  have hon := driveBrake_on hownE hfreeE
  have harm : armAxis s.d n = setAxState (driveBrake e n true) n axARMING := by
    unfold armAxis
    dsimp only
    rw [he, if_pos ((hasBrake_congr hfirn n).trans hbrakeE)]
  generalize driveBrake e n true = g at *
  rw [haxis] at haxisE
  have hparts : axis (setAxState g n axARMING) n = axis g n ∧ brakeOn (setAxState g n axARMING) n = brakeOn g n := ⟨rfl, rfl⟩
  obtain ⟨haxisG, hbrakeG⟩ := hparts
  refine ⟨_, next_withDev (hdev.trans harm), rfl, rd_wr_same g (Reg.AXIS_STAT_STATE n) axARMING, hbrakeG.trans hon, ?_, ?_⟩
  · show (axis (setAxState g n axARMING) n).hold = _
    rw [haxisG, haxisE]
  · show (axis (setAxState g n axARMING) n).iRef = _
    rw [haxisG, haxisE]
    rfl

theorem exec_axisStandstill_drops (hslow : (axis s.d n).spd.natAbs < 10 * r.stillRpm) (hbrake : hasBrake s.d n = true)
    (hstate : axState s.d n = axSTOPPING) : ∃ t, exec (.axisStandstill n) s = .next t ∧ t.nv = s.nv ∧
      axState t.d n = axSTOPPING ∧ brakeOn t.d n = false ∧ (axis t.d n).fbWait = true := by
  obtain ⟨-, -, hfirn, -⟩ := driveBrake_keeps s.d n false
  obtain ⟨-, hoff, -⟩ := driveBrake_off s.d n
  have hsame := (axState_driveBrake s.d n false).trans hstate
  have hdev : standstill s.d n = setAxis (driveBrake s.d n false) n (fun a => { a with fbWait := true }) := by
    unfold standstill
    rw [hrec]
    dsimp only
    rw [if_neg (by omega), if_neg (by rw [hstate]; decide), if_pos hstate, if_pos ((hasBrake_congr hfirn n).trans hbrake)]
  generalize driveBrake s.d n false = e at *
  exact ⟨_, next_withDev hdev, rfl, hsame, hoff, congrArg AxisSt.fbWait (axis_setAxis e n _)⟩

theorem exec_axisStandstill_turns (hfast : 10 * r.stillRpm ≤ (axis s.d n).spd.natAbs) : exec (.axisStandstill n) s = .next s := by
  have hdev : standstill s.d n = s.d := by
    unfold standstill
    rw [hrec]
    exact if_pos hfast
  exact next_withDev hdev

theorem exec_axisStopSlow (hstate : axState s.d n = axSTOPPING) (hfirst : (axis s.d n).slow = false)
    (hwait : (axis s.d n).fbWait = false) (hdue : (axis s.d n).stopK + 20 * r.stopMs ≤ s.d.k) :
    ∃ t, exec (.axisStopSlow n) s = .next t ∧ t.nv = s.nv ∧ brakeOn t.d n = false ∧ axState t.d n = axSTOPPING ∧
      rdB t.d (Reg.AXIS_STAT_SLOW_EV n) = true ∧ (axis t.d n).slow = true ∧
      t.d.mor.raised.map (·.src) = s.d.mor.raised.map (·.src) ++ [Src.AXIS_STOP_SLOW] := by
  have hmarked : ∃ e, setAxis s.d n (fun a => { a with slow := true }) = e ∧ (axis e n).slow = true ∧
      axState e n = axSTOPPING ∧ e.mor = s.d.mor := ⟨_, rfl, congrArg AxisSt.slow (axis_setAxis _ _ _), hstate, rfl⟩
  obtain ⟨e, he, hslow, hstateE, hmor⟩ := hmarked
  have hdev : stopSlow s.d n =
      raise (wrB (driveBrake e n false) (Reg.AXIS_STAT_SLOW_EV n) true) Src.AXIS_STOP_SLOW 0 0 n 0 := by
    unfold stopSlow
    dsimp only
    rw [hrec, if_pos ⟨hstate, hfirst, hwait, hdue⟩, he]
  obtain ⟨-, -, -, i, haxis⟩ := driveBrake_keeps e n false
  obtain ⟨-, hoff, hmorG⟩ := driveBrake_off e n
  have hstateG := (axState_driveBrake e n false).trans hstateE
  generalize driveBrake e n false = g at *
  have haxisG : axis (raise (wrB g (Reg.AXIS_STAT_SLOW_EV n) true) Src.AXIS_STOP_SLOW 0 0 n 0) n = axis g n := rfl
  refine ⟨_, next_withDev hdev, rfl, hoff, ?_, rdB_wrB_same g (Reg.AXIS_STAT_SLOW_EV n) true (by simp [Reg.AXIS_STAT_SLOW_EV]), ?_, ?_⟩
  · exact (rd_wrB_ne g (Reg.AXIS_STAT_SLOW_EV n) (Reg.AXIS_STAT_STATE n) true
      (by simp [Fld.key, Reg.AXIS_STAT_SLOW_EV, Reg.AXIS_STAT_STATE])).trans hstateG
  · show (axis (raise _ _ _ _ _ _) n).slow = true
    rw [haxisG, haxis]
    exact hslow
  · show (g.mor.raised ++ _).map _ = _
    rw [hmorG, hmor, List.map_append]
    rfl

end

section
variable {s : State} {n : Nat}

theorem exec_brakeFbFollows_on (hstate : axState s.d n = axARMING) (hon : brakeOn s.d n = true) : exec (.brakeFbFollows n) s =
    .next (s.withDev (wr (wrB s.d (Reg.AXIS_STAT_START_EV n) true) (Reg.AXIS_STAT_STATE n) axRUN)) := by
  refine next_withDev ?_
  unfold brakeFollows
  exact if_pos ⟨hstate, hon⟩

theorem exec_brakeFbFollows_off (hstate : axState s.d n = axSTOPPING) (hwait : (axis s.d n).fbWait = true)
    (hoff : brakeOn s.d n = false) : ∃ t, exec (.brakeFbFollows n) s = .next t ∧ t.nv = s.nv ∧ axState t.d n = axOFF ∧
      rdB t.d (Reg.AXIS_STAT_STOP_EV n) = true ∧ axis t.d n = axisClear (axis s.d n) := by
  have hdev : brakeFollows s.d n = axisOff s.d n := by
    unfold brakeFollows
    rw [if_neg (fun h => by simp [hstate, axSTOPPING, axARMING] at h), if_pos ⟨hstate, hwait, hoff⟩]
  have haxis : axis (axisOff s.d n) n = axisClear (axis s.d n) := axis_setAxis s.d n axisClear
  refine ⟨_, next_withDev hdev, rfl, rd_wr_same _ (Reg.AXIS_STAT_STATE n) axOFF, ?_, haxis⟩
  exact (rdB_wr_ne _ (Reg.AXIS_STAT_STATE n) _ _ (by simp [Fld.key, Reg.AXIS_STAT_STATE, Reg.AXIS_STAT_STOP_EV])).trans
    (rdB_wrB_same _ (Reg.AXIS_STAT_STOP_EV n) true (by simp [Reg.AXIS_STAT_STOP_EV]))

end

/-- Settles O49: each event of an axis through its own case. -/
theorem axisEvents : Obligations.AxisEvents := by
  unfold Obligations.AxisEvents
  intro s n emf raw enc spd seqOk r hn hrec
  refine ⟨fun hoff hquiet => ⟨?_, ?_⟩, fun hstate => ⟨?_, ?_⟩, fun hslow hbrake => ⟨?_, ?_⟩, ?_, ?_, ?_, ?_, ?_⟩
  · exact exec_axisPwmPeriod_read hrec raw spd hoff hquiet
  · exact exec_axisPwmPeriod_short hrec raw spd hoff hquiet
  · exact exec_axisMeasureEnd_clamp hrec emf seqOk hstate
  · exact exec_axisMeasureEnd_sequence hrec emf hstate
  · exact exec_axisStandstill_arms hrec hslow hbrake
  · exact exec_axisStandstill_drops hrec hslow hbrake
  · exact exec_axisStandstill_turns hrec
  · exact exec_brakeFbFollows_on
  · exact exec_brakeFbFollows_off
  · exact exec_axisStopSlow hrec
  · exact fun x t0 => exec_axisForceTimeout hrec

end Sys2Proof.Machine
end

section
/-!
PROOFS. The DC bus: sense gaps, levels, `NET_CTRL` and the chopper test (R237 to R239, R243 to R247).
-/
namespace Sys2Proof.Machine

/-! ### The gated outputs -/

/-- Who owns the gated outputs is told by three registers' bits and the claim. -/
theorem ownsGate_congr {d e : Dev} {R : Nat → Prop} (hregs : RegsWithin R d e) (hpair : ¬ R Reg.SCH_CFG_PAIR_EN.key)
    (hown : ¬ R Reg.SCH_STAT_OWN.key) (hsch : e.sch = d.sch) : ownsGate e = ownsGate d := by
  simp only [ownsGate, hregs.rdB hpair, hregs.rdB hown, hsch]

theorem setChop_within (d : Dev) (on : Bool) : RegsWithin (fun k => k = Reg.NET_STAT_CHOP_ON.key) d (setChop d on) :=
  (RegsWithin.of_regs (R := fun k => k = Reg.NET_STAT_CHOP_ON.key) (d := d)
    (e := { d with net := { d.net with chop := on } }) rfl).wrB _ rfl

/-! ### Sense gaps and TRIP -/

/-- A change that leaves the bus's working state alone and writes registers of ports alone. -/
structure BusKept (d e : Dev) : Prop where
  net : e.net = d.net
  regs : RegsWithin actKey d e

theorem BusKept.refl (d : Dev) : BusKept d d := ⟨rfl, .refl _ _⟩

theorem BusKept.trans {d e g : Dev} (h : BusKept d e) (h' : BusKept e g) : BusKept d g :=
  ⟨h'.net.trans h.net, h.regs.trans h'.regs⟩

theorem sendExpress_net (d : Dev) (p : Nat) (quench : Bool) (mask : Nat) : (sendExpress d p quench mask).net = d.net := by
  unfold sendExpress
  split <;> rfl

theorem sendExpressAll_bus (d : Dev) (ps : List Nat) (trips : List (Nat × Nat)) : BusKept d (sendExpressAll d ps trips) := by
  refine ⟨?_, (sendExpressAll_acted d ps trips).regs⟩
  unfold sendExpressAll
  split
  · rfl
  · refine foldl_keeps Dev.net _ _ (fun e p => ?_) d
    dsimp only
    split
    · rfl
    · split
      · exact sendExpress_net _ _ _ _
      · split
        · exact sendExpress_net _ _ _ _
        · rfl

theorem idleNext_bus (ps : List Nat) (d : Dev) : BusKept d (ps.foldl idleNext d) := by
  have hone (e : Dev) (p : Nat) : (idleNext e p).net = e.net ∧ (idleNext e p).regs = e.regs := by
    unfold idleNext
    split
    · exact ⟨rfl, rfl⟩
    · exact ⟨rfl, rfl⟩
  exact ⟨foldl_keeps Dev.net ps idleNext (fun e p => (hone e p).1) d,
    .of_regs (foldl_keeps Dev.regs ps idleNext (fun e p => (hone e p).2) d)⟩

theorem markSent_bus (ps : List Nat) (d : Dev) : BusKept d (ps.foldl (fun d p => markSent d (portChans d p)) d) := by
  have hone (e : Dev) (cs : List Nat) : (markSent e cs).net = e.net ∧ (markSent e cs).regs = e.regs := by
    have hmark (e : Dev) (c : Nat) : (setSerCh e c (fun s => { s with sent := true })).net = e.net ∧
        (setSerCh e c (fun s => { s with sent := true })).regs = e.regs := ⟨rfl, rfl⟩
    exact ⟨foldl_keeps Dev.net cs _ (fun e c => (hmark e c).1) e, foldl_keeps Dev.regs cs _ (fun e c => (hmark e c).2) e⟩
  exact ⟨foldl_keeps Dev.net ps _ (fun e p => (hone e _).1) d, .of_regs (foldl_keeps Dev.regs ps _ (fun e p => (hone e _).2) d)⟩

/-- The registers that an entry to TRIP writes after the level and its events. -/
def tripKey (k : Nat) : Prop := k = Reg.NET_CNT_TRIPS.key ∨ k = Reg.NET_STAT_CHOP_ON.key ∨ actKey k

/-- The entry to TRIP (R239). -/
theorem busTrip_enters (d : Dev) (sense : Bool) : netLevel (busTrip d sense) = 3 ∧
    rdB (busTrip d sense) Reg.NET_STAT_TRIP_EV = true ∧ rdB (busTrip d sense) Reg.NET_STAT_TRIP_SENSE = sense ∧
    (busTrip d sense).net.hold = true := by
  unfold busTrip
  lift_lets
  extract_lets d1 d2 d3 d4 ps _ d5 d6 d7 d8
  have hlevel : rd d3 Reg.NET_STAT_LEVEL = 3 := by
    simp (disch := decide) only [d3, d2, d1, rd_wrB_ne, rd_wr_same]
    rfl
  have hev : rdB d3 Reg.NET_STAT_TRIP_EV = true := by
    refine (rdB_wrB_ne d2 Reg.NET_STAT_TRIP_SENSE Reg.NET_STAT_TRIP_EV sense (by decide)).trans ?_
    exact rdB_wrB_same d1 Reg.NET_STAT_TRIP_EV true (by decide)
  have hsense : rdB d3 Reg.NET_STAT_TRIP_SENSE = sense := rdB_wrB_same d2 Reg.NET_STAT_TRIP_SENSE sense (by decide)
  clear_value d3
  have hregs4 : RegsWithin tripKey d3 d4 := (RegsWithin.refl _ _).wr _ (Or.inl rfl)
  have hhold : d5.net.hold = true := rfl
  have hregs5 : RegsWithin tripKey d3 d5 := hregs4.regs rfl
  clear_value ps d5
  have hregs6 : RegsWithin tripKey d3 d6 := hregs5.trans ((setChop_within d5 true).mono fun _ h => Or.inr (Or.inl h))
  have hhold6 : d6.net.hold = true := hhold
  clear_value d6
  have hkept : BusKept d6 d8 :=
    ((sendExpressAll_bus d6 ps []).trans (idleNext_bus ps _)).trans (markSent_bus ps _)
  clear_value d8
  have hregs := hregs6.trans (hkept.regs.mono fun _ h => Or.inr (Or.inr h))
  refine ⟨(hregs Reg.NET_STAT_LEVEL ?_).trans hlevel, (hregs.rdB (f := Reg.NET_STAT_TRIP_EV) ?_).trans hev,
    (hregs.rdB (f := Reg.NET_STAT_TRIP_SENSE) ?_).trans hsense, (congrArg NetSt.hold hkept.net).trans hhold6⟩
  all_goals
    unfold tripKey actKey
    decide

section
variable {s : State} {us : Nat}

/-- The device of a sense gap, before it may enter TRIP. -/
def gapMarked (d : Dev) (us : Nat) : Dev :=
  raise (wrB { d with net := { d.net with gap := true } } Reg.NET_STAT_SENSE_EV true) Src.NET_SENSE 0 0
    (rd (wrB { d with net := { d.net with gap := true } } Reg.NET_STAT_SENSE_EV true) Reg.NET_BUS_MV_SAMPLE) us

theorem senseGap_marks {d : Dev} (hlong : 20 < us) (hact : d.firn.act.isSome = true) :
    senseGap d us = gapTrip (gapMarked d us) := by
  unfold senseGap
  exact if_neg fun h => by
    rcases h with h | h
    · omega
    · simp [Option.isSome_iff_ne_none] at hact
      simp [hact] at h

theorem anyCommanded_gapMarked (d : Dev) (us : Nat) : anyCommanded (gapMarked d us) = anyCommanded d := by
  have hpst (p : Nat) : pst (gapMarked d us) p = pst d p := by
    refine rd_wrB_ne { d with net := { d.net with gap := true } } Reg.NET_STAT_SENSE_EV (Reg.FLOE_STAT_STATE p) true ?_
    simp only [Fld.key, Reg.NET_STAT_SENSE_EV, Reg.FLOE_STAT_STATE]
    omega
  have hsame (p : Nat) : port (gapMarked d us) p = port d p := rfl
  have hmap : mappedPorts (gapMarked d us) = mappedPorts d := rfl
  simp only [anyCommanded, hpst, hsame, hmap]

theorem netLevel_gapMarked (d : Dev) (us : Nat) : netLevel (gapMarked d us) = netLevel d :=
  rd_wrB_ne { d with net := { d.net with gap := true } } Reg.NET_STAT_SENSE_EV Reg.NET_STAT_LEVEL true (by decide)

theorem exec_busSenseGap_idle (hlong : 20 < us) (hact : s.d.firn.act.isSome = true) (hidle : anyCommanded s.d = false) :
    ∃ t, exec (.busSenseGap us) s = .next t ∧ t.nv = s.nv ∧ t.d.net.gap = true ∧ rdB t.d Reg.NET_STAT_SENSE_EV = true ∧
      netLevel t.d = netLevel s.d ∧ t.d.mor.raised.map (·.src) = s.d.mor.raised.map (·.src) ++ [Src.NET_SENSE] := by
  have hdev : senseGap s.d us = gapMarked s.d us := by
    rw [senseGap_marks hlong hact]
    unfold gapTrip
    exact if_neg fun h => by
      obtain ⟨-, -, -, hany⟩ := h
      rw [anyCommanded_gapMarked, hidle] at hany
      exact absurd hany (by decide)
  exact ⟨_, next_withDev hdev, rfl, rfl, rdB_wrB_same _ Reg.NET_STAT_SENSE_EV true (by decide), netLevel_gapMarked s.d us,
    List.map_append⟩

theorem exec_busSenseGap_trips (hlong : 20 < us) (hact : s.d.firn.act.isSome = true) (hany : anyCommanded s.d = true)
    (hlevel : netLevel s.d ≠ 3) : ∃ t, exec (.busSenseGap us) s = .next t ∧ t.nv = s.nv ∧ netLevel t.d = 3 ∧
      rdB t.d Reg.NET_STAT_TRIP_EV = true ∧ rdB t.d Reg.NET_STAT_TRIP_SENSE = true ∧ t.d.net.hold = true := by
  have hdev : senseGap s.d us = busTrip (gapMarked s.d us) true := by
    rw [senseGap_marks hlong hact]
    unfold gapTrip
    refine if_pos ⟨rfl, ?_, hact, ?_⟩
    · rwa [netLevel_gapMarked]
    · rwa [anyCommanded_gapMarked]
  obtain ⟨hentered, hev, hsense, hhold⟩ := busTrip_enters (gapMarked s.d us) true
  generalize busTrip (gapMarked s.d us) true = e at *
  exact ⟨_, next_withDev hdev, rfl, hentered, hev, hsense, hhold⟩

theorem exec_busSenseGap_short (hshort : us ≤ 20) : exec (.busSenseGap us) s = .next s := by
  have hdev : senseGap s.d us = s.d := if_pos (Or.inl hshort)
  exact next_withDev hdev

/-! ### The steps down -/

theorem exec_busLevelStepDown_steps (hlevel : netLevel s.d = 1 ∨ netLevel s.d = 2) (hbelow : 20 ≤ s.d.net.below) :
    exec .busLevelStepDown s =
      .next (s.withDev (wr { s.d with net := { s.d.net with below := 0 } } Reg.NET_STAT_LEVEL (netLevel s.d - 1))) := by
  refine next_withDev ?_
  unfold levelDown
  exact if_pos ⟨hlevel, hbelow⟩

theorem exec_busLevelStepDown_waits (hbelow : s.d.net.below < 20) : exec .busLevelStepDown s = .next s := by
  have hdev : levelDown s.d = s.d := if_neg fun h => by omega
  exact next_withDev hdev

end

/-! ### The control register -/

theorem regFind_netCtrl : regFind 0x10090000 = some (⟨0x10090000, [], .device,
    [⟨fun _ _ _ => Reg.NET_CTRL_TRIP_CLR, .wo, none⟩, ⟨fun _ _ _ => Reg.NET_CTRL_TEST_NOW, .wo, none⟩,
     ⟨fun _ _ _ => Reg.NET_CTRL_XCH_EN, .rws, none⟩]⟩, []) := rfl

/-- A command bit is not closed to any write. -/
theorem fldRefused_wo (d : Dev) (r : RegRow) (l : List Nat) (addr w : Nat) (f : Nat → Nat → Nat → Fld) (lim : Option (Nat × Nat)) :
    fldRefused d r l addr w ⟨f, .wo, lim⟩ = false := rfl

/-- A write of `NET_CTRL` as its fields leave it keeps the two command bits. -/
theorem openPart_netCtrl (d : Dev) (w : Nat) : bit (openPart d 0x10090000 w).1 0 = bit w 0 ∧
    bit (openPart d 0x10090000 w).1 1 = bit w 1 := by
  have hopen : (openPart d 0x10090000 w).1 = w ∨
      (openPart d 0x10090000 w).1 = w - bits w 2 1 * 2 ^ 2 + rd d Reg.NET_CTRL_XCH_EN * 2 ^ 2 := by
    unfold openPart
    rw [regFind_netCtrl]
    simp only [List.foldl_cons, List.foldl_nil, fldRefused_wo, Bool.false_eq_true, if_false]
    split
    · exact Or.inr rfl
    · exact Or.inl rfl
  rcases hopen with h | h
  · rw [h]
    exact ⟨rfl, rfl⟩
  · rw [h]
    generalize rd d Reg.NET_CTRL_XCH_EN = x
    simp only [bit, bits]
    have hlow : (w - w / 2 ^ 2 % 2 ^ 1 * 2 ^ 2 + x * 2 ^ 2) % 4 = w % 4 := by omega
    constructor
    · congr 1
      omega
    · congr 1
      omega

/-- What a write of fields leaves beside the registers. -/
theorem writeFields_net (d : Dev) (req : Requester) {addr : Nat} (w : Nat) {row : RegRow} {l : List Nat}
    (hrow : regFind addr = some (row, l)) : (writeFields d req addr w).net = d.net ∧ (writeFields d req addr w).k = d.k ∧
    (writeFields d req addr w).apply = d.apply ∧ (writeFields d req addr w).sch = d.sch := by
  obtain ⟨m, hm⟩ := foldl_fldWrite row.flds d row l addr w
  unfold writeFields
  rw [hrow]
  dsimp only
  split
  · exact ⟨rfl, rfl, rfl, rfl⟩
  · rw [hm]
    split
    · exact ⟨rfl, rfl, rfl, rfl⟩
    · exact ⟨rfl, rfl, rfl, rfl⟩

/-- The registers that a write of `NET_CTRL` may change: its own, and the log of refused accesses. -/
def netCtrlKey (k : Nat) : Prop := 0x10090000 * 32 ≤ k ∧ k < 0x10090000 * 32 + 3 ∨ 0x10110000 * 32 ≤ k

/-- A device after the fields of a write of `NET_CTRL`, before its commands. -/
structure CtrlWritten (d e : Dev) : Prop where
  net : e.net = d.net
  k : e.k = d.k
  apply : e.apply = d.apply
  sch : e.sch = d.sch
  regs : RegsWithin netCtrlKey d e

theorem writeFields_netCtrl (d : Dev) (req : Requester) (w : Nat) : CtrlWritten d (writeFields d req 0x10090000 w) := by
  obtain ⟨hnet, hk, happly, hsch⟩ := writeFields_net d req w regFind_netCtrl
  refine ⟨hnet, hk, happly, hsch, ?_⟩
  refine (writeFields_within d req w regFind_netCtrl (R := fun k => 0x10090000 * 32 ≤ k ∧ k < 0x10090000 * 32 + 3) ?_).1
  intro f hf
  simp only [List.mem_cons, List.not_mem_nil, or_false] at hf
  rcases hf with rfl | rfl | rfl
  · decide
  · decide
  · decide

section
variable {s : State} {req : Requester} {w : Nat} (hserved : s.served req 0x10090000) (hhere : forwards s.d req = false)
include hserved hhere

/-- A served write of `NET_CTRL` that does not travel: its commands after its fields, and the refusal of what it asked in
vain. -/
theorem netCtrl_here : ∃ e v bad, netCtrl s.d req w =
      (if bad = true then refuseW (netCommands e v) req 0x10090000 else netCommands e v) ∧ CtrlWritten s.d e ∧
    bit v 0 = (bit w 0 && !(bit w 0 && !s.d.apply && !tripClrOk s.d)) ∧ bit v 1 = bit w 1 ∧
    ((bit w 0 && !s.d.apply && !tripClrOk s.d) = true → bad = true) := by
  generalize hno : (bit w 0 && !s.d.apply && !tripClrOk s.d) = no
  obtain ⟨h0, h1⟩ := openPart_netCtrl s.d (setBit w 0 (bit w 0 && !no))
  refine ⟨writeFields s.d req 0x10090000 (openPart s.d 0x10090000 (setBit w 0 (bit w 0 && !no))).1,
    (openPart s.d 0x10090000 (setBit w 0 (bit w 0 && !no))).1,
    no || (openPart s.d 0x10090000 (setBit w 0 (bit w 0 && !no))).2, ?_, writeFields_netCtrl s.d req _, ?_, ?_, ?_⟩
  · unfold netCtrl
    rw [regAccess_served w _ hserved]
    dsimp only
    rw [hno, if_neg (show ¬ (s.d.apply = false ∧ forwards s.d req = true) by simp [hhere])]
  · rw [h0, bit_setBit]
  · rw [h1, bit_setBit_ne _ _ (by decide)]
  · rintro rfl
    rfl

end

theorem netCtrlKey_level : ¬ netCtrlKey Reg.NET_STAT_LEVEL.key := by
  unfold netCtrlKey
  decide

section
variable {s : State} {req : Requester} {w : Nat} (hserved : s.served req 0x10090000) (hhere : forwards s.d req = false)
include hserved hhere

theorem exec_tripClr_waits (htest : bit w 1 = false) (happly : s.d.apply = false) (hok : tripClrOk s.d = true) :
    ∃ t, exec (.tripClr req w) s = .next t ∧ t.nv = s.nv ∧ t.d.net = { s.d.net with clrPend := true } ∧
      netLevel t.d = netLevel s.d := by
  obtain ⟨e, v, bad, hdev, hwritten, h0, h1, -⟩ := netCtrl_here (w := setBit w 0 true) hserved hhere
  rw [bit_setBit, hok, Bool.not_true, Bool.and_false] at h0
  rw [bit_setBit_ne _ _ (by decide), htest] at h1
  have hcmd : netCommands e v = { e with net := { e.net with clrPend := true } } := by
    unfold netCommands
    simp [h0, h1, hwritten.apply, happly]
  have hlevel : netLevel { e with net := { e.net with clrPend := true } } = netLevel s.d := hwritten.regs _ netCtrlKey_level
  have hnet : ({ e with net := { e.net with clrPend := true } } : Dev).net = { s.d.net with clrPend := true } :=
    congrArg (fun n : NetSt => { n with clrPend := true }) hwritten.net
  rw [hcmd] at hdev
  generalize ({ e with net := { e.net with clrPend := true } } : Dev) = g at *
  obtain ⟨-, hlog⟩ := errResp_logged g req 0x10090000 errRefused true
  cases bad
  · exact ⟨_, next_withDev hdev, rfl, hnet, hlevel⟩
  · exact ⟨_, next_withDev hdev, rfl, hnet, (hlog Reg.NET_STAT_LEVEL (by decide)).trans hlevel⟩

theorem exec_tripClr_refused (htest : bit w 1 = false) (happly : s.d.apply = false) (hno : tripClrOk s.d = false) :
    ∃ t, exec (.tripClr req w) s = .next t ∧ t.nv = s.nv ∧ t.d.net = s.d.net ∧ netLevel t.d = netLevel s.d ∧
      t.d.resp.err = errRefused := by
  obtain ⟨e, v, bad, hdev, hwritten, h0, h1, hbad⟩ := netCtrl_here (w := setBit w 0 true) hserved hhere
  rw [bit_setBit, hno, happly] at h0 hbad
  rw [bit_setBit_ne _ _ (by decide), htest] at h1
  have hcmd : netCommands e v = e := by
    unfold netCommands
    simp [h0, h1]
  rw [hcmd, if_pos (hbad rfl)] at hdev
  obtain ⟨-, hlog⟩ := errResp_logged e req 0x10090000 errRefused true
  exact ⟨_, next_withDev hdev, rfl, hwritten.net,
    (hlog Reg.NET_STAT_LEVEL (by decide)).trans (hwritten.regs _ netCtrlKey_level), rfl⟩

theorem exec_testNow (hclr : bit w 0 = false) (hown : ownsGate s.d = true) : ∃ t, exec (.testNow req w) s = .next t ∧
    t.nv = s.nv ∧ t.d.net = (chopDue s.d).net := by
  obtain ⟨e, v, bad, hdev, hwritten, h0, h1, -⟩ := netCtrl_here (w := setBit w 1 true) hserved hhere
  rw [bit_setBit_ne _ _ (by decide), hclr, Bool.false_and] at h0
  rw [bit_setBit] at h1
  have howned : ownsGate e = true := (ownsGate_congr hwritten.regs (by unfold netCtrlKey; decide) (by unfold netCtrlKey; decide)
    hwritten.sch).trans hown
  have hcmd : netCommands e v = chopDue e := by
    unfold netCommands
    simp [h0, h1, howned]
  have hnet : (chopDue e).net = (chopDue s.d).net := by simp only [chopDue, hwritten.net, hwritten.k]
  rw [hcmd] at hdev
  generalize chopDue e = g at *
  cases bad
  · exact ⟨_, next_withDev hdev, rfl, hnet⟩
  · exact ⟨_, next_withDev hdev, rfl, hnet⟩

end

/-! ### The chopper test -/

section
variable {s : State}

section
variable (hcycle : s.d.k % 200000 = 0) (hown : ownsGate s.d = true) (hact : s.d.firn.act.isSome = true) (hidle : s.d.net.run = none)
include hcycle hown hact hidle

/-- A test that falls due with none running is tried. -/
theorem chopDue_tries : (if s.d.k % 200000 = 0 ∧ ownsGate s.d then chopTry (chopDue s.d) else s.d) = chopTry (chopDue s.d) ∧
    ¬ ((chopDue s.d).net.due = false ∨ (chopDue s.d).net.run.isSome = true ∨ ownsGate (chopDue s.d) = false ∨
      (chopDue s.d).firn.act.isNone = true) := by
  refine ⟨if_pos ⟨hcycle, hown⟩, fun h => ?_⟩
  have hparts : (chopDue s.d).net.due = true ∧ (chopDue s.d).net.run = s.d.net.run ∧ ownsGate (chopDue s.d) = ownsGate s.d ∧
      (chopDue s.d).firn = s.d.firn := ⟨rfl, rfl, rfl, rfl⟩
  obtain ⟨hdue, hrun, hgate, hfirn⟩ := hparts
  rw [hdue, hrun, hgate, hfirn, hidle, hown] at h
  cases hsome : s.d.firn.act <;> simp [hsome] at h hact

theorem exec_chopTestDue_low (hlow : s.d.net.mean < (rd s.d Reg.NET_TEST_VMIN_MV : Int)) : ∃ t, exec .chopTestDue s = .next t ∧
    t.nv = s.nv ∧ rd t.d Reg.NET_TEST_RES_RESULT = 3 ∧ t.d.net.due = true ∧ t.d.net.run = none ∧
    rdB t.d Reg.NET_STAT_CHOP_ON = rdB s.d Reg.NET_STAT_CHOP_ON := by
  obtain ⟨htry, hmay⟩ := chopDue_tries hcycle hown hact hidle
  have hdev : chopTry (chopDue s.d) = wr (chopDue s.d) Reg.NET_TEST_RES_RESULT 3 := by
    unfold chopTry
    rw [if_neg hmay]
    exact if_pos (Or.inr (Or.inr hlow))
  exact ⟨_, next_withDev (htry.trans hdev), rfl, rd_wr_same _ Reg.NET_TEST_RES_RESULT 3, rfl, hidle,
    rdB_wr_ne _ Reg.NET_TEST_RES_RESULT Reg.NET_STAT_CHOP_ON 3 (by decide)⟩

theorem exec_chopTestDue_runs (hhigh : (rd s.d Reg.NET_TEST_VMIN_MV : Int) ≤ s.d.net.mean)
    (hoff : rdB s.d Reg.NET_STAT_CHOP_ON = false) (hlevel : netLevel s.d < 2) : ∃ t, exec .chopTestDue s = .next t ∧
    t.nv = s.nv ∧ t.d.net.due = false ∧ t.d.net.run.isSome = true ∧ rdB t.d Reg.NET_STAT_CHOP_ON = true := by
  obtain ⟨htry, hmay⟩ := chopDue_tries hcycle hown hact hidle
  have hmean (d : Dev) (t0 t1 : Nat) : ∃ m f, testMean d t0 t1 = (m, { d with free := f }) := by
    unfold testMean
    split
    · exact ⟨_, d.free, rfl⟩
    · exact ⟨_, _, rfl⟩
  obtain ⟨ve, f1, he1⟩ := hmean (chopDue s.d) (tickNs (chopDue s.d) - 100000) (tickNs (chopDue s.d) - 80000)
  obtain ⟨v0, f2, he2⟩ := hmean { chopDue s.d with free := f1 } (tickNs (chopDue s.d) - 20000) (tickNs (chopDue s.d))
  have hdev : chopTry (chopDue s.d) = setChop { chopDue s.d with free := f2, net := { (chopDue s.d).net with
      due := false, run := some (tickNs (chopDue s.d), ve, v0) } } true := by
    have hstart : ¬ (rdB (chopDue s.d) Reg.NET_STAT_CHOP_ON = true ∨ 2 ≤ netLevel (chopDue s.d) ∨
        (chopDue s.d).net.mean < (rd (chopDue s.d) Reg.NET_TEST_VMIN_MV : Int)) := by
      have hparts : rdB (chopDue s.d) Reg.NET_STAT_CHOP_ON = rdB s.d Reg.NET_STAT_CHOP_ON ∧ netLevel (chopDue s.d) = netLevel s.d ∧
          (chopDue s.d).net.mean = s.d.net.mean ∧ rd (chopDue s.d) Reg.NET_TEST_VMIN_MV = rd s.d Reg.NET_TEST_VMIN_MV :=
        ⟨rfl, rfl, rfl, rfl⟩
      obtain ⟨hon, hlev, hm, hmin⟩ := hparts
      rw [hon, hlev, hm, hmin, hoff]
      rintro (h | h | h)
      · exact absurd h (by decide)
      · omega
      · omega
    unfold chopTry
    rw [if_neg hmay, if_neg hstart]
    dsimp only
    rw [he1]
    dsimp only
    rw [he2]
  have hgate : ownsGate { chopDue s.d with free := f2, net := { (chopDue s.d).net with
      due := false, run := some (tickNs (chopDue s.d), ve, v0) } } = true := hown
  refine ⟨_, next_withDev (htry.trans hdev), rfl, rfl, rfl, ?_⟩
  exact (rdB_wrB_same _ Reg.NET_STAT_CHOP_ON _ (by decide)).trans (by rw [Bool.true_and]; exact hgate)

end

theorem exec_chopTestEnd {t0 : Nat} {ve v0 v1 : Int} (hrun : s.d.net.run = some (t0, ve, v0)) (hsolo : isActive s.d = false)
    (hmean : meanOf (smpIn s.d (t0 + rd s.d Reg.NET_TEST_TIME_TEST_US * 1000 - 20000)
      (t0 + rd s.d Reg.NET_TEST_TIME_TEST_US * 1000)) = some v1)
    (hmin : (rd s.d Reg.NET_TEST_DV_DV_MIN : Int) ≤ v0 - v1 + qdiv ((v0 - ve) * rd s.d Reg.NET_TEST_TIME_TEST_US) 80)
    (hmax : v0 - v1 + qdiv ((v0 - ve) * rd s.d Reg.NET_TEST_TIME_TEST_US) 80 ≤ (rd s.d Reg.NET_TEST_DV_DV_MAX : Int)) :
    ∃ t, exec .chopTestEnd s = .next t ∧ t.nv = s.nv ∧ rd t.d Reg.NET_TEST_RES_RESULT = 1 ∧ t.d.net.run = none ∧
      t.d.net.owed = none ∧ rdB t.d Reg.NET_STAT_TEST_PASS = true ∧ t.d.staged = s.d.staged ++ [.chop 0] := by
  have hm : testMean s.d (t0 + rd s.d Reg.NET_TEST_TIME_TEST_US * 1000 - 20000) (t0 + rd s.d Reg.NET_TEST_TIME_TEST_US * 1000) =
      (v1, s.d) := by
    unfold testMean
    rw [hmean]
  generalize hdelta : v0 - v1 + qdiv ((v0 - ve) * rd s.d Reg.NET_TEST_TIME_TEST_US) 80 = delta at *
  have hended : ∃ e : Dev, (if s.d.net.hold then { s.d with net := { s.d.net with run := none } }
      else setChop { s.d with net := { s.d.net with run := none } } false) = e ∧ e.net.run = none ∧ e.staged = s.d.staged ∧
      RegsWithin (fun k => k = Reg.NET_STAT_CHOP_ON.key) s.d e := by
    split
    · exact ⟨_, rfl, rfl, rfl, .of_regs rfl⟩
    · exact ⟨_, rfl, rfl, rfl, (RegsWithin.of_regs rfl).trans (setChop_within { s.d with net := { s.d.net with run := none } } false)⟩
  obtain ⟨e, he, herun, hestaged, heregs⟩ := hended
  have hkept (f : Fld) (hf : f.key ≠ Reg.NET_STAT_CHOP_ON.key) (hf' : f.key ≠ Reg.NET_TEST_RES_DELTA.key) :
      rd (wr e Reg.NET_TEST_RES_DELTA (ofS 16 delta)) f = rd s.d f := (rd_wr_ne e Reg.NET_TEST_RES_DELTA f _ hf').trans (heregs f hf)
  have hdev : chopEnd s.d = stageChop { wrB (wr (wr e Reg.NET_TEST_RES_DELTA (ofS 16 delta)) Reg.NET_TEST_RES_RESULT 1)
      Reg.NET_STAT_TEST_PASS true with net := { e.net with owed := none, lastPass := e.k } } 0 := by
    unfold chopEnd
    rw [hrun]
    dsimp only
    rw [hm]
    dsimp only
    rw [he, hdelta, hkept Reg.NET_TEST_DV_DV_MIN (by decide) (by decide), hkept Reg.NET_TEST_DV_DV_MAX (by decide) (by decide),
      if_pos ⟨hmin, hmax⟩]
    rfl
  have hstaged : (wr e Reg.NET_TEST_RES_DELTA (ofS 16 delta)).staged = s.d.staged := hestaged
  generalize wr e Reg.NET_TEST_RES_DELTA (ofS 16 delta) = g at *
  have hpassed : ∃ h : Dev, { wrB (wr g Reg.NET_TEST_RES_RESULT 1) Reg.NET_STAT_TEST_PASS true with
      net := { e.net with owed := none, lastPass := e.k } } = h ∧ rd h Reg.NET_TEST_RES_RESULT = 1 ∧ h.net.run = none ∧
      h.net.owed = none ∧ rdB h Reg.NET_STAT_TEST_PASS = true ∧ h.staged = s.d.staged ∧
      rd h Reg.SYS_PROPS_ROLE = rd s.d Reg.SYS_PROPS_ROLE := by
    refine ⟨_, rfl, ?_, herun, rfl, ?_, hstaged, ?_⟩
    · exact (rd_wrB_ne _ Reg.NET_STAT_TEST_PASS Reg.NET_TEST_RES_RESULT true (by decide)).trans
        (rd_wr_same g Reg.NET_TEST_RES_RESULT 1)
    · exact rdB_wrB_same (wr g Reg.NET_TEST_RES_RESULT 1) Reg.NET_STAT_TEST_PASS true (by decide)
    · exact ((rd_wrB_ne _ Reg.NET_STAT_TEST_PASS Reg.SYS_PROPS_ROLE true (by decide)).trans
        (rd_wr_ne g Reg.NET_TEST_RES_RESULT _ 1 (by decide))).trans (hkept _ (by decide) (by decide))
  obtain ⟨h, hh, hres, hrunH, howed, hpass, hstagedH, hrole⟩ := hpassed
  have hsoloH : isActive h = false := by
    rw [isActive, role, hrole]
    exact hsolo
  have hstage : stageChop h 0 = { h with staged := h.staged ++ [.chop 0] } := stage_local .host _ hsoloH
  rw [hh, hstage, hstagedH] at hdev
  exact ⟨_, next_withDev hdev, rfl, hres, hrunH, howed, hpass, rfl⟩

theorem exec_chopUntested {t0 : Nat} (howed : s.d.net.owed = some t0) (hlate : t0 + 600000 ≤ s.d.k)
    (hfirst : rdB s.d Reg.NET_STAT_UNTESTED = false) (hsolo : isActive s.d = false) :
    exec .chopUntested s = .next (s.withDev { s.d with staged := s.d.staged ++ [.chop 2] }) := by
  refine next_withDev ?_
  rw [howed]
  dsimp only
  rw [if_pos ⟨hlate, hfirst⟩]
  exact stage_local .host _ hsolo

end

/-- Settles O38: each event and command of the bus through its own case. -/
theorem busCommands : Obligations.BusCommands := by
  unfold Obligations.BusCommands
  intro s req us w t0 ve v0 v1
  refine ⟨exec_busSenseGap_idle, exec_busSenseGap_trips, exec_busSenseGap_short, exec_busLevelStepDown_steps,
    exec_busLevelStepDown_waits, fun hserved hhere => ⟨?_, ?_, ?_⟩, fun hcycle hown hact hidle => ⟨?_, ?_⟩, ?_, ?_⟩
  · exact exec_tripClr_waits hserved hhere
  · exact fun hno htest happly => exec_tripClr_refused hserved hhere htest happly hno
  · exact exec_testNow hserved hhere
  · exact exec_chopTestDue_low hcycle hown hact hidle
  · exact exec_chopTestDue_runs hcycle hown hact hidle
  · exact exec_chopTestEnd
  · exact exec_chopUntested

end Sys2Proof.Machine
end

section
/-!
PROOFS. The states of the segment controller: entering one, listening, and losing synchronisation (R339, R340, R344, R349).
-/
namespace Sys2Proof.Machine

/-! ### Entering a state -/

/-- The registers that tell the controller's state. -/
def csKey (k : Nat) : Prop :=
  k = Reg.RIMEL_STAT_CSTATE.key ∨ k = Reg.RIMEL_STAT_RSTATE.key ∨ k = Reg.SYS_PROPS_RIME.key ∨ k = Reg.TIME_ISO_CYC.key

/-- A change of the controller's state leaves the blocks outside Rime and its modes alone. -/
structure CsMoved (d e : Dev) : Prop where
  regs : RegsWithin csKey d e
  mor : e.mor = d.mor
  k : e.k = d.k
  mc : e.rime.mc = d.rime.mc
  trunk : e.rime.trunk = d.rime.trunk
  cNext : e.rime.cNext = d.rime.cNext

theorem CsMoved.trans {d e g : Dev} (h : CsMoved d e) (h' : CsMoved e g) : CsMoved d g :=
  ⟨h.regs.trans h'.regs, h'.mor.trans h.mor, h'.k.trans h.k, h'.mc.trans h.mc, h'.trunk.trans h.trunk, h'.cNext.trans h.cNext⟩

/-- A change of the segment controller's working state. -/
theorem CsMoved.segM {d e : Dev} (h : CsMoved d e) (f : RimeCtl → RimeCtl) : CsMoved d (segM e f) :=
  h.trans ⟨.of_regs rfl, rfl, rfl, rfl, rfl, rfl⟩

theorem CsMoved.wr {d e : Dev} (h : CsMoved d e) {f : Fld} (v : Nat) (hf : csKey f.key) : CsMoved d (wr e f v) :=
  h.trans ⟨(RegsWithin.refl _ _).wr v hf, rfl, rfl, rfl, rfl, rfl⟩

theorem CsMoved.refl (d : Dev) : CsMoved d d := ⟨.refl _ _, rfl, rfl, rfl, rfl, rfl⟩

theorem CsMoved.rime {d e : Dev} (h : CsMoved d e) (r : RimeSt) (hmc : r.mc = e.rime.mc) (htrunk : r.trunk = e.rime.trunk)
    (hc : r.cNext = e.rime.cNext) : CsMoved d { e with rime := r } := h.trans ⟨.of_regs rfl, rfl, rfl, hmc, htrunk, hc⟩

theorem setRimeState_moved (d : Dev) (r : Nat) : CsMoved d (setRimeState d r) :=
  ((CsMoved.refl d).wr _ (Or.inr (Or.inl rfl))).wr _ (Or.inr (Or.inr (Or.inl rfl)))

/-- The controller in the state it enters, the device's Rime state still to follow. -/
def csEntered (d : Dev) (st : Nat) : Dev :=
  segM (wr d Reg.RIMEL_STAT_CSTATE st) (fun c => { c with next := none, been := c.been || st == csINTEGRATED, ownBad := 0, alone := 0 })

theorem csEntered_moved (d : Dev) (st : Nat) : CsMoved d (csEntered d st) :=
  ((CsMoved.refl d).wr _ (Or.inl rfl)).segM _

theorem setCs_moved (d : Dev) (st : Nat) : CsMoved d (setCs d st) := by
  have hentered := csEntered_moved d st
  unfold setCs
  dsimp only
  change CsMoved d (if st = csINTEGRATED then wr (setRimeState { csEntered d st with rime := { (csEntered d st).rime with isoTicks := 0 } } 1)
    Reg.TIME_ISO_CYC 0 else setRimeState (csEntered d st) (if (csEntered d st).rime.seg.been then 2 else 0))
  generalize csEntered d st = e at *
  split
  · exact ((hentered.rime { e.rime with isoTicks := 0 } rfl rfl rfl).trans (setRimeState_moved _ 1)).wr _ (Or.inr (Or.inr (Or.inr rfl)))
  · exact hentered.trans (setRimeState_moved e _)

theorem csOf_setRimeState (d : Dev) (r : Nat) : csOf (setRimeState d r) = csOf d :=
  (rd_wr_ne _ Reg.SYS_PROPS_RIME Reg.RIMEL_STAT_CSTATE _ (by decide)).trans
    (rd_wr_ne d Reg.RIMEL_STAT_RSTATE Reg.RIMEL_STAT_CSTATE _ (by decide))

theorem csOf_setCs (d : Dev) {st : Nat} (hst : st < 8) : csOf (setCs d st) = st := by
  have hentered : csOf (csEntered d st) = st := (rd_wr_same _ _ _).trans (Nat.mod_eq_of_lt hst)
  unfold setCs
  dsimp only
  change csOf (if st = csINTEGRATED then wr (setRimeState { csEntered d st with rime := { (csEntered d st).rime with isoTicks := 0 } } 1)
    Reg.TIME_ISO_CYC 0 else setRimeState (csEntered d st) (if (csEntered d st).rime.seg.been then 2 else 0)) = st
  generalize csEntered d st = e at *
  split
  · refine (rd_wr_ne _ Reg.TIME_ISO_CYC Reg.RIMEL_STAT_CSTATE _ (by decide)).trans ?_
    exact (csOf_setRimeState { e with rime := { e.rime with isoTicks := 0 } } 1).trans hentered
  · exact (csOf_setRimeState e _).trans hentered

/-! ### Listening -/

/-- The listening state is told by the node's configuration and its attempts. -/
theorem listenState_congr {d e : Dev} {R : Nat → Prop} (h : RegsWithin R d e) (hcold : ¬ R Reg.RIMEL_NODE_COLD.key)
    (hatt : ¬ R Reg.RIMEL_CS_ATTEMPTS.key) (hmax : ¬ R Reg.RIMEL_CS_CS_MAX.key) : listenState e = listenState d := by
  simp only [listenState, h.rdB hcold, h _ hatt, h _ hmax]

theorem listenState_lt (d : Dev) : listenState d < 8 := by
  unfold listenState
  split
  · decide
  · decide

theorem toListen_moved (d : Dev) : CsMoved d (toListen d) := by
  have h := setCs_moved d (listenState d)
  unfold toListen
  dsimp only
  generalize setCs d (listenState d) = e at *
  exact (h.rime { e.rime with joinMode := none } rfl rfl rfl).segM _

theorem csOf_toListen (d : Dev) : csOf (toListen d) = listenState d := by
  have h := csOf_setCs d (listenState_lt d)
  unfold toListen
  dsimp only
  generalize setCs d (listenState d) = e at *
  exact h

/-- A leader that goes back to listening; one without attempts left says so. -/
theorem leaveLead_listens (d : Dev) : csOf (leaveLead d) = listenState d ∧
    RegsWithin (fun k => csKey k ∨ k = Reg.RIMEL_STAT_CS_EXHAUST.key) d (leaveLead d) ∧
    ∀ src ∈ d.mor.raised.map (·.src), src ∈ (leaveLead d).mor.raised.map (·.src) := by
  have hmoved := toListen_moved d
  have hstate := csOf_toListen d
  unfold leaveLead
  dsimp only
  generalize toListen d = e at *
  have hregs := hmoved.regs.mono (R' := fun k => csKey k ∨ k = Reg.RIMEL_STAT_CS_EXHAUST.key) fun _ => Or.inl
  split
  · exact ⟨hstate, hregs, fun src h => by rwa [hmoved.mor]⟩
  · refine ⟨(rd_wrB_ne e Reg.RIMEL_STAT_CS_EXHAUST Reg.RIMEL_STAT_CSTATE true (by decide)).trans hstate,
      (hregs.wrB true (Or.inr rfl)).raise _ _ _ _ _, fun src h => ?_⟩
    show src ∈ (e.mor.raised ++ _).map _
    rw [List.map_append, hmoved.mor]
    exact List.mem_append_left _ h

/-- An attempt that is aborted with fewer than two confirmations (R340, R344). -/
theorem csAbort_unconfirmed (d : Dev) : csOf (csAbort d 0) = listenState d ∧
    rdB (csAbort d 0) Reg.RIMEL_STAT_CS_ABORT_EV = true ∧ Src.RIMEL_CS_ABORT ∈ (csAbort d 0).mor.raised.map (·.src) := by
  have hmarked : ∃ e, raise (wrB d Reg.RIMEL_STAT_CS_ABORT_EV true) Src.RIMEL_CS_ABORT 0 0 0
        (rd (wrB d Reg.RIMEL_STAT_CS_ABORT_EV true) Reg.RIMEL_CS_ATTEMPTS) = e ∧
      RegsWithin (fun k => k = Reg.RIMEL_STAT_CS_ABORT_EV.key) d e ∧ rdB e Reg.RIMEL_STAT_CS_ABORT_EV = true ∧
      e.mor.raised.map (·.src) = d.mor.raised.map (·.src) ++ [Src.RIMEL_CS_ABORT] :=
    ⟨_, rfl, RegsWithin.raise (RegsWithin.wrB (R := fun k => k = Reg.RIMEL_STAT_CS_ABORT_EV.key) (.refl _ d) true rfl) _ _ _ _ _, rdB_wrB_same d Reg.RIMEL_STAT_CS_ABORT_EV true (by decide),
      List.map_append⟩
  obtain ⟨e, he, hregs, hev, hraised⟩ := hmarked
  have habort : csAbort d 0 = leaveLead e := by
    unfold csAbort
    dsimp only
    rw [if_pos rfl, he]
  obtain ⟨hstate, hleft, hkept⟩ := leaveLead_listens e
  rw [habort]
  generalize leaveLead e = g at *
  exact ⟨hstate.trans (listenState_congr hregs (by decide) (by decide) (by decide)),
    (hleft.rdB (by unfold csKey; decide)).trans hev, hkept _ (by
      rw [hraised]
      exact List.mem_append_right _ (List.mem_singleton.mpr rfl))⟩

/-! ### Loss of synchronisation -/

/-- The registers that a loss writes. -/
def lossKey (k : Nat) : Prop :=
  csKey k ∨ k = Reg.RIMEL_LOSS_CNT.key ∨ k = Reg.RIMEL_LOSS_CAUSE.key ∨ k = Reg.RIMEL_STAT_SYNC_LOSS_EV.key

/-- A device with a loss counted, its cause and its event shown. -/
def lossMarked (d : Dev) (cause : Nat) : Dev :=
  let d := wr (incSat d Reg.RIMEL_LOSS_CNT 1) Reg.RIMEL_LOSS_CAUSE cause
  let d := wrB d Reg.RIMEL_STAT_SYNC_LOSS_EV true
  let d := raise d Src.RIMEL_SYNC_LOSS 0 0 cause (cyc24 d)
  { d with rime := { d.rime with cNext := 0, mc := none, mcWait := none } }

theorem syncLoss_eq (d : Dev) (cause : Nat) :
    syncLoss d cause = if csOf d ≠ csINTEGRATED then d else toListen (lossMarked d cause) := rfl

/-- What a loss leaves of the device with its marks. -/
theorem lossMarked_shows (d : Dev) {cause : Nat} (hcause : cause < 16) : RegsWithin lossKey d (lossMarked d cause) ∧
    rd (lossMarked d cause) Reg.RIMEL_LOSS_CAUSE = cause ∧ rdB (lossMarked d cause) Reg.RIMEL_STAT_SYNC_LOSS_EV = true ∧
    (lossMarked d cause).rime.mc = none ∧ (lossMarked d cause).rime.trunk = d.rime.trunk ∧ (lossMarked d cause).k = d.k ∧
    (lossMarked d cause).mor.raised.map (·.src) = d.mor.raised.map (·.src) ++ [Src.RIMEL_SYNC_LOSS] := by
  refine ⟨?_, ?_, ?_, rfl, rfl, rfl, List.map_append⟩
  · have hwritten : RegsWithin lossKey d (wrB (wr (incSat d Reg.RIMEL_LOSS_CNT 1) Reg.RIMEL_LOSS_CAUSE cause)
        Reg.RIMEL_STAT_SYNC_LOSS_EV true) :=
      (((RegsWithin.refl _ _).wr _ (Or.inr (Or.inl rfl))).wr _ (Or.inr (Or.inr (Or.inl rfl)))).wrB _ (Or.inr (Or.inr (Or.inr rfl)))
    exact hwritten.regs rfl
  · refine (rd_wrB_ne _ Reg.RIMEL_STAT_SYNC_LOSS_EV Reg.RIMEL_LOSS_CAUSE true (by decide)).trans ?_
    exact (rd_wr_same _ Reg.RIMEL_LOSS_CAUSE cause).trans (Nat.mod_eq_of_lt hcause)
  · exact rdB_wrB_same (wr (incSat d Reg.RIMEL_LOSS_CNT 1) Reg.RIMEL_LOSS_CAUSE cause) Reg.RIMEL_STAT_SYNC_LOSS_EV true (by decide)

/-- A loss, or none, writes its own registers and leaves the trunk controller alone. -/
theorem syncLoss_within (d : Dev) {cause : Nat} (hcause : cause < 16) : RegsWithin lossKey d (syncLoss d cause) ∧
    (syncLoss d cause).rime.trunk = d.rime.trunk ∧ (syncLoss d cause).k = d.k ∧
    ∀ src ∈ d.mor.raised.map (·.src), src ∈ (syncLoss d cause).mor.raised.map (·.src) := by
  rw [syncLoss_eq]
  split
  · exact ⟨.refl _ _, rfl, rfl, fun _ h => h⟩
  · obtain ⟨hregs, -, -, -, htrunk, hk, hraised⟩ := lossMarked_shows d hcause
    generalize lossMarked d cause = e at *
    have hmoved := toListen_moved e
    refine ⟨hregs.trans (hmoved.regs.mono fun _ => Or.inl), hmoved.trunk.trans htrunk, hmoved.k.trans hk, fun src h => ?_⟩
    rw [hmoved.mor, hraised]
    exact List.mem_append_left _ h

/-- An INTEGRATED controller that loses synchronisation listens (R349). -/
theorem syncLoss_loses {d : Dev} (hin : csOf d = csINTEGRATED) {cause : Nat} (hcause : cause < 16) :
    csOf (syncLoss d cause) = listenState d ∧ rd (syncLoss d cause) Reg.RIMEL_LOSS_CAUSE = cause ∧
    rdB (syncLoss d cause) Reg.RIMEL_STAT_SYNC_LOSS_EV = true ∧ (syncLoss d cause).rime.mc = none ∧
    (syncLoss d cause).mor.raised.map (·.src) = d.mor.raised.map (·.src) ++ [Src.RIMEL_SYNC_LOSS] := by
  rw [syncLoss_eq, if_neg (not_not_intro hin)]
  obtain ⟨hregs, hcaused, hev, hmc, -, -, hraised⟩ := lossMarked_shows d hcause
  generalize lossMarked d cause = e at *
  have hmoved := toListen_moved e
  have hstate := csOf_toListen e
  generalize toListen e = g at *
  refine ⟨hstate.trans (listenState_congr hregs ?_ ?_ ?_), (hmoved.regs Reg.RIMEL_LOSS_CAUSE (by unfold csKey; decide)).trans hcaused,
    (hmoved.regs.rdB (f := Reg.RIMEL_STAT_SYNC_LOSS_EV) (by unfold csKey; decide)).trans hev, hmoved.mc.trans hmc,
    by rw [hmoved.mor, hraised]⟩
  all_goals
    unfold lossKey csKey
    decide

end Sys2Proof.Machine
end

section
/-!
PROOFS. The time base and mode changes of Rime (R355 to R358, R363 to R365).
-/
namespace Sys2Proof.Machine

/-! ### The midpoint method -/

/-- A cycle's midpoint shown, its senders kept, before its correction is applied. -/
def midMarked (d : Dev) : Dev :=
  keepUsed (wr (wr (wrB (wr d Reg.TIME_STAT_METHOD 2) Reg.TIME_STAT_MASTER false) Reg.TIME_PREC_NSYNC (midUsed d).length)
    Reg.TIME_PREC_NS ((midKept ((midUsed d).map (·.2))).getLastD 0 - (midKept ((midUsed d).map (·.2))).headD 0).toNat) (midUsed d)

theorem midMarked_shows (d : Dev) : rd (midMarked d) Reg.TIME_STAT_METHOD = 2 ∧
    rd (midMarked d) Reg.TIME_PREC_NSYNC = (midUsed d).length % 2 ^ Reg.TIME_PREC_NSYNC.wd ∧
    rd (midMarked d) Reg.TIME_LIM_OFS_LIM = rd d Reg.TIME_LIM_OFS_LIM ∧ rd (midMarked d) Reg.TIME_OFS_C = rd d Reg.TIME_OFS_C := by
  unfold midMarked keepUsed
  generalize (midUsed d).length = len
  generalize ((midKept ((midUsed d).map (·.2))).getLastD 0 - (midKept ((midUsed d).map (·.2))).headD 0).toNat = spread
  have hwritten : ∃ e, wr (wr (wrB (wr d Reg.TIME_STAT_METHOD 2) Reg.TIME_STAT_MASTER false) Reg.TIME_PREC_NSYNC len)
      Reg.TIME_PREC_NS spread = e ∧ rd e Reg.TIME_STAT_METHOD = 2 ∧ rd e Reg.TIME_PREC_NSYNC = len % 2 ^ Reg.TIME_PREC_NSYNC.wd ∧
      rd e Reg.TIME_LIM_OFS_LIM = rd d Reg.TIME_LIM_OFS_LIM ∧ rd e Reg.TIME_OFS_C = rd d Reg.TIME_OFS_C := by
    refine ⟨_, rfl, ?_, ?_, ?_, ?_⟩
    · simp (disch := decide) only [rd_wr_ne, rd_wrB_ne]
      exact rd_wr_same d Reg.TIME_STAT_METHOD 2
    · simp (disch := decide) only [rd_wr_ne]
      exact rd_wr_same _ Reg.TIME_PREC_NSYNC len
    · simp (disch := decide) only [rd_wr_ne, rd_wrB_ne]
    · simp (disch := decide) only [rd_wr_ne, rd_wrB_ne]
  obtain ⟨e, he, h⟩ := hwritten
  rw [he]
  exact h

section
variable {s : State} (htick : s.d.k % 20 = 17) (hown : followsPartner s.d = false) (hin : rimeState s.d = 1)
  (hmethod : rd s.d Reg.TIME_SYNC_METHOD = 2) (hused : midUsed s.d ≠ [])
include htick hown hin hmethod hused

theorem offsetCorrection_midpoint :
    offsetCorrection s.d = applyC (midMarked s.d) (midpoint (midKept ((midUsed s.d).map (·.2)))) := by
  have hmid : timeMethod s.d ≠ 1 := by
    unfold timeMethod
    rw [hmethod]
    show (2 : Nat) ≠ 1
    decide
  unfold offsetCorrection
  rw [if_neg (not_not_intro htick), if_neg (by rw [hown]; decide), if_neg (not_not_intro hin), if_neg hmid]
  exact if_neg (by simpa using hused)

theorem exec_timeOffsetCorrection_applies
    (hlim : (midpoint (midKept ((midUsed s.d).map (·.2)))).natAbs ≤ rd s.d Reg.TIME_LIM_OFS_LIM) : ∃ t,
    exec .timeOffsetCorrection s = .next t ∧ t.nv = s.nv ∧ rd t.d Reg.TIME_STAT_METHOD = 2 ∧
    t.d.rime.cNext = midpoint (midKept ((midUsed s.d).map (·.2))) ∧
    rd t.d Reg.TIME_OFS_C = ofS 16 (midpoint (midKept ((midUsed s.d).map (·.2)))) ∧
    rd t.d Reg.TIME_PREC_NSYNC = (midUsed s.d).length % 2 ^ Reg.TIME_PREC_NSYNC.wd := by
  have hdev := offsetCorrection_midpoint htick hown hin hmethod hused
  obtain ⟨hshown, hsync, hlimit, -⟩ := midMarked_shows s.d
  generalize midpoint (midKept ((midUsed s.d).map (·.2))) = c at *
  generalize midMarked s.d = e at *
  have happly : applyC e c = wr { e with rime := { e.rime with cNext := c } } Reg.TIME_OFS_C (ofS 16 c) := by
    unfold applyC
    exact if_neg (by rw [hlimit]; omega)
  refine ⟨_, next_withDev (hdev.trans happly), rfl, ?_, rfl, ?_, ?_⟩
  · exact (rd_wr_ne _ Reg.TIME_OFS_C Reg.TIME_STAT_METHOD _ (by decide)).trans hshown
  · exact (rd_wr_same _ Reg.TIME_OFS_C _).trans (Nat.mod_eq_of_lt (ofS_lt _ _))
  · exact (rd_wr_ne _ Reg.TIME_OFS_C Reg.TIME_PREC_NSYNC _ (by decide)).trans hsync

theorem exec_timeOffsetCorrection_clock
    (hlim : rd s.d Reg.TIME_LIM_OFS_LIM < (midpoint (midKept ((midUsed s.d).map (·.2)))).natAbs) : ∃ t,
    exec .timeOffsetCorrection s = .next t ∧ t.nv = s.nv ∧ rdB t.d Reg.TIME_STAT_CLOCK_EV = true ∧
    rd t.d Reg.TIME_OFS_C = rd s.d Reg.TIME_OFS_C := by
  have hdev := offsetCorrection_midpoint htick hown hin hmethod hused
  obtain ⟨-, -, hlimit, hofs⟩ := midMarked_shows s.d
  generalize midpoint (midKept ((midUsed s.d).map (·.2))) = c at *
  generalize midMarked s.d = e at *
  have hmarked : ∃ g, raise (wrB e Reg.TIME_STAT_CLOCK_EV true) Src.TIME_CLOCK 0 0 1 (ofS 32 c) = g ∧
      rdB g Reg.TIME_STAT_CLOCK_EV = true ∧ rd g Reg.TIME_OFS_C = rd e Reg.TIME_OFS_C :=
    ⟨_, rfl, rdB_wrB_same e Reg.TIME_STAT_CLOCK_EV true (by decide),
      rd_wrB_ne e Reg.TIME_STAT_CLOCK_EV Reg.TIME_OFS_C true (by decide)⟩
  obtain ⟨g, hg, hev, hkept⟩ := hmarked
  have happly : applyC e c = syncLoss g 3 := by
    unfold applyC
    rw [if_pos (by rw [hlimit]; omega), clockLoss, hg]
  obtain ⟨hregs, -⟩ := syncLoss_within g (cause := 3) (by decide)
  generalize syncLoss g 3 = q at *
  refine ⟨_, next_withDev (hdev.trans happly), rfl, (hregs.rdB (f := Reg.TIME_STAT_CLOCK_EV) ?_).trans hev,
    (hregs Reg.TIME_OFS_C ?_).trans (hkept.trans hofs)⟩
  · unfold lossKey csKey
    decide
  · unfold lossKey csKey
    decide

end

/-! ### The rate -/

section
variable {s : State} {n : Nat} {x y : Int}

/-- The rate follows the one reference that both cycles used. -/
theorem exec_timeRateCorrection_follows (hcyc : cycNo s.d % 16 = 15) (hlate : 16 ≤ cycNo s.d) (hin : rimeState s.d = 1)
    (hmethod : rd s.d Reg.TIME_STAT_METHOD = 1)
    (hnow : s.d.rime.hist.find? (fun e => e.1 == cycNo s.d) = some (cycNo s.d, [(n, x)]))
    (hthen : s.d.rime.hist.find? (fun e => e.1 == cycNo s.d - 16) = some (cycNo s.d - 16, [(n, y)])) (heven : (x - y) % 2 = 0)
    (hlim : ((toS 32 (rd s.d Reg.TIME_RATE_PPB) + (x - y) * 125 / 2).natAbs : Int) ≤ rd s.d Reg.TIME_LIM_RATE_LIM * 1000) :
    exec .timeRateCorrection s =
      .next (s.withDev (wr s.d Reg.TIME_RATE_PPB (ofS 32 (toS 32 (rd s.d Reg.TIME_RATE_PPB) + (x - y) * 125 / 2)))) := by
  have hexact : (x - y) * 125 % 2 = 0 := by omega
  refine next_withDev ?_
  unfold rateCorrection
  rw [if_neg (fun h => h.elim (fun h => h hcyc) (fun h => h (Or.inl hin)))]
  simp only [hnow, hthen, Option.map_some, Option.getD_some, List.filterMap_cons, List.filterMap_nil, List.find?_cons, beq_self_eq_true,
    List.isEmpty_cons, Bool.false_eq_true, false_or, hmethod, if_true, List.headD_cons, if_pos hexact]
  rw [if_neg (by omega)]
  exact if_neg (by omega)

theorem exec_timeRateCorrection_waits (hcyc : cycNo s.d % 16 ≠ 15) : exec .timeRateCorrection s = .next s := by
  have hdev : rateCorrection s.d = s.d := if_pos (Or.inl hcyc)
  exact next_withDev hdev

end

/-! ### Asking for a mode -/

set_option maxRecDepth 4000 in
theorem regFind_rimetMc : regFind 0x100B0030 = some (⟨0x100B0030, [], .device,
    [⟨fun _ _ _ => Reg.RIMET_MC_MODE, .rw, none⟩, ⟨fun _ _ _ => Reg.RIMET_MC_GO, .wo, none⟩,
     ⟨fun _ _ _ => Reg.RIMET_MC_PEND, .ro, none⟩, ⟨fun _ _ _ => Reg.RIMET_MC_LAPSE, .w1c, none⟩,
     ⟨fun _ _ _ => Reg.RIMET_MC_AGREED, .w1c, none⟩, ⟨fun _ _ _ => Reg.RIMET_MC_PEND_MODE, .ro, none⟩]⟩, []) := rfl

section
variable {s : State} {req : Requester} {w : Nat} (hacc : accessErr s.d req 0x100B0030 true = 0)
include hacc

theorem exec_rimetMcGo_waits (hin : rimeState s.d = 1) (hactive : isStandby s.d = false)
    (hfree : rdB s.d Reg.RIMET_MC_PEND = false) (hheld : modeHeld s.d (bits w 0 3) = true) : ∃ t,
    exec (.rimetMcGo req w) s = .next t ∧ t.nv = s.nv ∧ t.d.rime = { s.d.rime with mcWait := some (bits w 0 3) } ∧
      t.d.resp.err = 0 := by
  have hmode : bits (setBit w 3 true) 0 3 = bits w 0 3 := bits_setBit_outside w true (Or.inr (by decide))
  obtain ⟨m, hset, -⟩ := writeFields_takes (d := s.d) req (setBit w 3 true) regFind_rimetMc rfl rfl rfl
  have hdev : mcGo s.d req (setBit w 3 true) = { okResp { s.d with regs := m } with
      rime := { s.d.rime with mcWait := some (bits w 0 3) } } := by
    unfold mcGo
    rw [regAccess_open _ _ hacc (.inr (by decide))]
    dsimp only
    rw [hmode, hin, hactive, hfree, hheld, if_neg (by decide), hset]
    rfl
  exact ⟨_, next_withDev hdev, rfl, rfl, rfl⟩

theorem exec_rimetMcGo_refused (hheld : modeHeld s.d (bits w 0 3) = false) :
    exec (.rimetMcGo req w) s = .next (s.withDev (refuseW s.d req 0x100B0030)) := by
  have hmode : bits (setBit w 3 true) 0 3 = bits w 0 3 := bits_setBit_outside w true (Or.inr (by decide))
  refine next_withDev ?_
  unfold mcGo
  rw [regAccess_open _ _ hacc (.inr (by decide))]
  dsimp only
  rw [hmode, hheld]
  exact if_pos (by simp)

end

/-! ### Judging a change -/

theorem banksFill_parts (d : Dev) (i : Image) : (banksFill d i).regs = d.regs ∧ (banksFill d i).rime = d.rime ∧
    (banksFill d i).firn = { d.firn with bank := some i } := by
  have hfill (e : Dev) (k b : Nat) : (engFill e k b i).regs = e.regs ∧ (engFill e k b i).rime = e.rime ∧
      (engFill e k b i).firn = e.firn := ⟨rfl, rfl, rfl⟩
  have hregs : ((List.range 24).foldl (fun d e => engFill d e (1 - gBank d e) i) d).regs = d.regs :=
    foldl_keeps Dev.regs _ _ (fun e k => (hfill e k _).1) d
  have hrime : ((List.range 24).foldl (fun d e => engFill d e (1 - gBank d e) i) d).rime = d.rime :=
    foldl_keeps Dev.rime _ _ (fun e k => (hfill e k _).2.1) d
  have hfirn : ((List.range 24).foldl (fun d e => engFill d e (1 - gBank d e) i) d).firn = d.firn :=
    foldl_keeps Dev.firn _ _ (fun e k => (hfill e k _).2.2) d
  unfold banksFill
  dsimp only
  generalize (List.range 24).foldl (fun d e => engFill d e (1 - gBank d e) i) d = e at *
  exact ⟨hregs, hrime, by rw [hfirn]⟩

/-- A switch shown and recorded, before the engines' banks are filled for it. -/
def switchMarked (d : Dev) (m cyc : Nat) : Dev :=
  let d := wrB (wr d Reg.RIMET_MC_PEND_MODE m) Reg.RIMET_MC_PEND true
  let d := wr (wrB d Reg.FIRN_STAT_PEND true) Reg.FIRN_STAT_PEND_VAR (boundVar d m)
  { d with rime := { d.rime with mc := none }, firn := { d.firn with pendMode := m, pendCyc := cyc } }

theorem switchMarked_shows (d : Dev) (m cyc : Nat) : rdB (switchMarked d m cyc) Reg.RIMET_MC_PEND = true ∧
    rdB (switchMarked d m cyc) Reg.FIRN_STAT_PEND = true := by
  have hwritten (v : Nat) : rdB (wr (wrB (wrB (wr d Reg.RIMET_MC_PEND_MODE m) Reg.RIMET_MC_PEND true) Reg.FIRN_STAT_PEND true)
        Reg.FIRN_STAT_PEND_VAR v) Reg.RIMET_MC_PEND = true ∧
      rdB (wr (wrB (wrB (wr d Reg.RIMET_MC_PEND_MODE m) Reg.RIMET_MC_PEND true) Reg.FIRN_STAT_PEND true)
        Reg.FIRN_STAT_PEND_VAR v) Reg.FIRN_STAT_PEND = true := by
    constructor
    · refine (rdB_wr_ne _ Reg.FIRN_STAT_PEND_VAR Reg.RIMET_MC_PEND v (by decide)).trans ?_
      refine (rdB_wrB_ne _ Reg.FIRN_STAT_PEND Reg.RIMET_MC_PEND true (by decide)).trans ?_
      exact rdB_wrB_same _ Reg.RIMET_MC_PEND true (by decide)
    · refine (rdB_wr_ne _ Reg.FIRN_STAT_PEND_VAR Reg.FIRN_STAT_PEND v (by decide)).trans ?_
      exact rdB_wrB_same _ Reg.FIRN_STAT_PEND true (by decide)
  exact hwritten _

/-- A switch that waits for its boundary (R363, R365). -/
theorem pendSwitch_waits (d : Dev) (m cyc : Nat) : rdB (pendSwitch d m cyc) Reg.RIMET_MC_PEND = true ∧
    rdB (pendSwitch d m cyc) Reg.FIRN_STAT_PEND = true ∧ (pendSwitch d m cyc).rime.mc = none ∧
    (pendSwitch d m cyc).firn.pendMode = m ∧ (pendSwitch d m cyc).firn.pendCyc = cyc := by
  obtain ⟨hpend, hfirn⟩ := switchMarked_shows d m cyc
  have hparts : (switchMarked d m cyc).rime.mc = none ∧ (switchMarked d m cyc).firn.pendMode = m ∧
      (switchMarked d m cyc).firn.pendCyc = cyc := ⟨rfl, rfl, rfl⟩
  obtain ⟨hmc, hmode, hcyc⟩ := hparts
  have hcases : pendSwitch d m cyc = switchMarked d m cyc ∨ ∃ i, pendSwitch d m cyc = banksFill (switchMarked d m cyc) i := by
    unfold pendSwitch
    lift_lets
    extract_lets d1 d2 _ _ d3
    have hmarked : d3 = switchMarked d m cyc := rfl
    rw [← hmarked]
    clear_value d3
    split
    · exact Or.inl rfl
    · split
      · exact Or.inr ⟨_, rfl⟩
      · exact Or.inl rfl
  generalize switchMarked d m cyc = e at *
  rcases hcases with h | ⟨i, h⟩
  · rw [h]
    exact ⟨hpend, hfirn, hmc, hmode, hcyc⟩
  · obtain ⟨hregs, hrime, hfirnE⟩ := banksFill_parts e i
    rw [h]
    generalize banksFill e i = g at *
    have hsame : RegsWithin (fun _ => False) e g := .of_regs hregs
    exact ⟨(hsame.rdB id).trans hpend, (hsame.rdB id).trans hfirn, by rw [hrime, hmc], by rw [hfirnE, ← hmode], by rw [hfirnE, ← hcyc]⟩

section
variable {s : State} {r : McReq} (hreq : s.d.rime.mc = some r) (hcyc : r.cyc + 2 ≤ cycNo s.d) (hopen : r.agreed = none)
include hreq hcyc hopen

theorem exec_modeChangeEval_agrees (hline : trunkRec s.d (rMode s.d) = none)
    (hall : ∀ m < 64, isSync s.d (rMode s.d) m = true → if m = myNode s.d then r.mine = true ∨ r.echo = true else m ∈ r.nodes) :
    ∃ t, exec .modeChangeEval s = .next t ∧ t.nv = s.nv ∧ t.d.rime.mc = none ∧ t.d.firn.pendMode = r.mode ∧
      t.d.firn.pendCyc = mcBoundary (r.cyc + 2) ∧ rdB t.d Reg.RIMET_MC_PEND = true ∧ rdB t.d Reg.FIRN_STAT_PEND = true ∧
      rdB t.d Reg.RIMET_MC_AGREED = true := by
  have hok : (sel 64 (isSync s.d (rMode s.d))).all (fun n => if n = myNode s.d then r.mine || r.echo else r.nodes.contains n) = true := by
    rw [List.all_eq_true]
    intro m hm
    simp only [sel, List.mem_filter, List.mem_range] at hm
    have h := hall m hm.1 hm.2
    split at h
    · next hmine => simpa [hmine] using h
    · next hother => simpa [hother] using h
  have hdev : mcEval s.d = mcAgree s.d r.mode (mcBoundary (r.cyc + 2)) := by
    unfold mcEval
    rw [hreq]
    dsimp only
    rw [if_neg (by rw [hopen]; simp; omega), hok, if_neg (by decide), hline]
    rfl
  obtain ⟨hpend, hfirn, hmc, hmode, hbound⟩ := pendSwitch_waits s.d r.mode (mcBoundary (r.cyc + 2))
  rw [mcAgree] at hdev
  generalize pendSwitch s.d r.mode (mcBoundary (r.cyc + 2)) = e at *
  have hkept (f : Fld) (ha : f.key ≠ Reg.RIMET_MC_AGREED.key) (hb : f.key ≠ Reg.RIMET_MC_AT_BOUND.key) (v : Nat) :
      rdB (wr (wrB e Reg.RIMET_MC_AGREED true) Reg.RIMET_MC_AT_BOUND v) f = rdB e f :=
    (rdB_wr_ne _ Reg.RIMET_MC_AT_BOUND f v hb).trans (rdB_wrB_ne e Reg.RIMET_MC_AGREED f true ha)
  refine ⟨_, next_withDev hdev, rfl, hmc, hmode, hbound, (hkept Reg.RIMET_MC_PEND (by decide) (by decide) _).trans hpend,
    (hkept Reg.FIRN_STAT_PEND (by decide) (by decide) _).trans hfirn, ?_⟩
  exact (rdB_wr_ne _ Reg.RIMET_MC_AT_BOUND Reg.RIMET_MC_AGREED _ (by decide)).trans
    (rdB_wrB_same e Reg.RIMET_MC_AGREED true (by decide))

theorem exec_modeChangeEval_lapses (hsome : ∃ m < 64, isSync s.d (rMode s.d) m = true ∧ m ≠ myNode s.d ∧ m ∉ r.nodes) :
    ∃ t, exec .modeChangeEval s = .next t ∧ t.nv = s.nv ∧ t.d.rime.mc = none ∧ t.d.firn = s.d.firn ∧
      rdB t.d Reg.RIMET_MC_LAPSE = true ∧
      t.d.mor.raised.map (·.src) = s.d.mor.raised.map (·.src) ++ [Src.RIMET_MC_LAPSE] := by
  obtain ⟨m, hm, hsync, hother, hmissing⟩ := hsome
  have hno : (sel 64 (isSync s.d (rMode s.d))).all (fun n => if n = myNode s.d then r.mine || r.echo else r.nodes.contains n) = false := by
    rw [List.all_eq_false]
    exact ⟨m, List.mem_filter.mpr ⟨List.mem_range.mpr hm, hsync⟩, by simp [hother, hmissing]⟩
  have hdev : mcEval s.d = mcLapse s.d r.mode := by
    unfold mcEval
    rw [hreq]
    dsimp only
    rw [if_neg (by rw [hopen]; simp; omega), hno]
    rfl
  refine ⟨_, next_withDev hdev, rfl, rfl, rfl, ?_, List.map_append⟩
  exact rdB_wrB_same { s.d with rime := { s.d.rime with mc := none } } Reg.RIMET_MC_LAPSE true (by decide)

end

theorem exec_lineModeChangeEval {s : State} {l : LineReq} {tr : TrunkRec} (hreq : s.d.rime.line = some l)
    (hline : trunkRec s.d (rMode s.d) = some tr) (hcyc : l.t + 2 ≤ tcycNo s.d) (hopen : l.out = none)
    (hgw : isGateway s.d = true) : ∃ t ok, exec .lineModeChangeEval s = .next t ∧ t.nv = s.nv ∧ t.d.regs = s.d.regs ∧
      t.d.rime.line = some { l with out := some (ok, mcBoundary (4 * (l.t + 2) + 3)) } ∧
      (ok = true ↔ ∀ g < 256, bit tr.gw g = true → if g = mySeg s.d then l.mine = true ∨ l.echo = true else g ∈ l.gws) := by
  have hdev : lineEval s.d = { s.d with rime := { s.d.rime with line := some { l with
      out := some ((sel 256 (bit tr.gw)).all (fun g => if g = mySeg s.d then l.mine || l.echo else l.gws.contains g),
        mcBoundary (4 * (l.t + 2) + 3)) } } } := by
    unfold lineEval
    rw [hreq, hline]
    dsimp only
    rw [if_neg (by rw [hopen, hgw]; simp; omega)]
  refine ⟨_, _, next_withDev hdev, rfl, rfl, rfl, ?_⟩
  simp only [List.all_eq_true, sel, List.mem_filter, List.mem_range, and_imp]
  refine forall_congr' fun g => forall_congr' fun _ => forall_congr' fun _ => ?_
  split
  · exact Bool.or_eq_true_iff
  · exact List.contains_iff_mem

/-- Settles O42: the corrections and the mode changes through their own cases. -/
theorem rimeTimeAndModes : Obligations.RimeTimeAndModes := by
  unfold Obligations.RimeTimeAndModes
  intro s req w n x y r l tr
  refine ⟨fun htick hown hin hmethod hused => ⟨?_, ?_⟩, exec_timeRateCorrection_follows, exec_timeRateCorrection_waits,
    fun hacc => ⟨exec_rimetMcGo_waits hacc, exec_rimetMcGo_refused hacc⟩, fun hreq hcyc hopen hline => ⟨?_, ?_⟩, ?_⟩
  · exact exec_timeOffsetCorrection_applies htick hown hin hmethod hused
  · exact exec_timeOffsetCorrection_clock htick hown hin hmethod hused
  · exact exec_modeChangeEval_agrees hreq hcyc hopen hline
  · exact exec_modeChangeEval_lapses hreq hcyc hopen
  · exact exec_lineModeChangeEval

end Sys2Proof.Machine
end

section
/-!
PROOFS. The Rime controllers: their control registers, start-up, and failures (R334, R339, R340, R346 to R349, R362, R368).
-/
namespace Sys2Proof.Machine

/-! ### The control registers -/

set_option maxRecDepth 4000 in
theorem regFind_rimelCtrl : regFind 0x100A0000 = some (⟨0x100A0000, [], .device,
    [⟨fun _ _ _ => Reg.RIMEL_CTRL_EN, .rw, none⟩, ⟨fun _ _ _ => Reg.RIMEL_CTRL_RESTART, .wo, none⟩,
     ⟨fun _ _ _ => Reg.RIMEL_CTRL_AUTH_REQ, .rwl, none⟩, ⟨fun _ _ _ => Reg.RIMEL_CTRL_VER, .rwl, some (1, 2)⟩]⟩, []) := rfl

set_option maxRecDepth 4000 in
theorem regFind_rimetCtrl : regFind 0x100B0000 = some (⟨0x100B0000, [], .device,
    [⟨fun _ _ _ => Reg.RIMET_CTRL_EN, .rw, none⟩, ⟨fun _ _ _ => Reg.RIMET_CTRL_RESTART, .wo, none⟩,
     ⟨fun _ _ _ => Reg.RIMET_CTRL_VER, .rwl, some (1, 2)⟩]⟩, []) := rfl

/-- A control register's written word keeps its version. -/
theorem verKept_same {d : Dev} {en : Bool} {ver : Fld} {w : Nat} (h : en = true → bits w 4 2 = rd d ver) : verKept d en ver w = w := by
  unfold verKept
  cases en
  · rfl
  · rw [if_pos rfl, ← h rfl, bits]
    omega

/-- A device after the fields of a write of a control register that breaks no limit: `EN` as written, whatever else was
closed to it. -/
structure CtlWritten (d e : Dev) (f : Fld) (w : Nat) : Prop where
  en : rdB e f = bit w 0
  regs : RegsWithin (fun k => (f.key ≤ k ∧ k < f.key + 32) ∨ 0x10110000 * 32 ≤ k) d e
  rime : e.rime = d.rime
  firn : e.firn = d.firn
  k : e.k = d.k

/-- The first field of a register is written, and the rest of its fields leaves it alone. -/
theorem foldl_fldWrite_first (d : Dev) (r : RegRow) (l : List Nat) (addr w : Nat) {f : FldRow} {fs : List FldRow} (hacc : f.acc = .rw)
    (hone : (f.at l).wd = 1) (hlo : (f.at l).lo = 0) (hother : ∀ g ∈ fs, (g.at l).key ≠ (f.at l).key) :
    rdB ((f :: fs).foldl (fun d f => fldWrite d r l addr w f) d) (f.at l) = bit w 0 := by
  have hkept : RegsWithin (fun k => k ≠ (f.at l).key) (fldWrite d r l addr w f)
      (fs.foldl (fun d f => fldWrite d r l addr w f) (fldWrite d r l addr w f)) :=
    foldl_fldWrite_within _ r l addr w fs hother
  have hset : fldWrite d r l addr w f = wr d (f.at l) (fldVal (f.at l) w) := by
    unfold fldWrite fldOpen
    simp only [hacc, if_true]
  rw [List.foldl_cons, hkept.rdB (not_not_intro rfl), hset]
  simp only [rdB, rd_wr_same, fldVal, hone, hlo, bits, bit]
  congr 1
  omega

theorem writeFields_ctl (d : Dev) (req : Requester) {addr : Nat} (w : Nat) {row : RegRow} {f : FldRow} {fs : List FldRow}
    (hrow : regFind addr = some (row, [])) (hflds : row.flds = f :: fs) (hacc : f.acc = .rw) (hone : (f.at []).wd = 1)
    (hlo : (f.at []).lo = 0) (hother : ∀ g ∈ fs, (g.at []).key ≠ (f.at []).key)
    (hnear : ∀ g ∈ row.flds, (f.at []).key ≤ (g.at []).key ∧ (g.at []).key < (f.at []).key + 32)
    (hlow : (f.at []).key < 0x10110000 * 32) (hin : row.flds.any (fldOutside w []) = false) (hcross : crossFault d addr w = false) :
    CtlWritten d (writeFields d req addr w) (f.at []) w := by
  obtain ⟨m, hm⟩ := foldl_fldWrite row.flds d row [] addr w
  have hen : rdB { d with regs := m } (f.at []) = bit w 0 := by
    rw [← hm, hflds]
    exact foldl_fldWrite_first d row [] addr w hacc hone hlo hother
  have hwritten : (∃ data, writeFields d req addr w = okResp { d with regs := m } data) ∨
      writeFields d req addr w = refuseW { d with regs := m } req addr := by
    unfold writeFields
    rw [hrow]
    dsimp only
    rw [hin, hcross, if_neg (by decide), hm]
    split
    · exact Or.inr rfl
    · exact Or.inl ⟨0, rfl⟩
  have hregs := (writeFields_within d req w hrow (R := fun k => (f.at []).key ≤ k ∧ k < (f.at []).key + 32) hnear).1
  rcases hwritten with ⟨data, h⟩ | h
  · rw [h] at hregs ⊢
    exact ⟨hen, hregs, rfl, rfl, rfl⟩
  · obtain ⟨-, hlog⟩ := errResp_logged { d with regs := m } req addr errRefused true
    rw [h] at hregs ⊢
    exact ⟨(hlog.rdB (f := f.at []) (by omega)).trans hen, hregs, rfl, rfl, rfl⟩

/-- A field of a segment controller's register lies within its limits where `VER` does. -/
theorem writeFields_rimelCtrl (d : Dev) (req : Requester) {w : Nat} (hlow : 1 ≤ bits w 4 2) (hhigh : bits w 4 2 ≤ 2) :
    CtlWritten d (writeFields d req 0x100A0000 w) Reg.RIMEL_CTRL_EN w := by
  refine writeFields_ctl d req w regFind_rimelCtrl rfl rfl rfl rfl ?_ ?_ (by decide) ?_ rfl
  · intro g hg
    simp only [List.mem_cons, List.not_mem_nil, or_false] at hg
    rcases hg with rfl | rfl | rfl <;> decide
  · intro g hg
    simp only [List.mem_cons, List.not_mem_nil, or_false] at hg
    rcases hg with rfl | rfl | rfl | rfl <;> decide
  · have hver : fldOutside w [] ⟨fun _ _ _ => Reg.RIMEL_CTRL_VER, .rwl, some (1, 2)⟩ = false :=
      decide_eq_false (by
        show ¬ (bits w 4 2 < 1 ∨ 2 < bits w 4 2)
        omega)
    rw [List.any_cons, List.any_cons, List.any_cons, List.any_cons, hver]
    rfl

theorem writeFields_rimetCtrl (d : Dev) (req : Requester) {w : Nat} (hlow : 1 ≤ bits w 4 2) (hhigh : bits w 4 2 ≤ 2) :
    CtlWritten d (writeFields d req 0x100B0000 w) Reg.RIMET_CTRL_EN w := by
  refine writeFields_ctl d req w regFind_rimetCtrl rfl rfl rfl rfl ?_ ?_ (by decide) ?_ rfl
  · intro g hg
    simp only [List.mem_cons, List.not_mem_nil, or_false] at hg
    rcases hg with rfl | rfl <;> decide
  · intro g hg
    simp only [List.mem_cons, List.not_mem_nil, or_false] at hg
    rcases hg with rfl | rfl | rfl <;> decide
  · have hver : fldOutside w [] ⟨fun _ _ _ => Reg.RIMET_CTRL_VER, .rwl, some (1, 2)⟩ = false :=
      decide_eq_false (by
        show ¬ (bits w 4 2 < 1 ∨ 2 < bits w 4 2)
        omega)
    rw [List.any_cons, List.any_cons, List.any_cons, hver]
    rfl

/-! ### The segment controller's commands -/

/-- A controller's attempts forgotten. -/
def attemptsCleared (d : Dev) : Dev := wrB (wr d Reg.RIMEL_CS_ATTEMPTS 0) Reg.RIMEL_STAT_CS_EXHAUST false

theorem attemptsCleared_shows (d : Dev) : rd (attemptsCleared d) Reg.RIMEL_CS_ATTEMPTS = 0 ∧
    RegsWithin (fun k => k = Reg.RIMEL_CS_ATTEMPTS.key ∨ k = Reg.RIMEL_STAT_CS_EXHAUST.key) d (attemptsCleared d) :=
  ⟨(rd_wrB_ne _ Reg.RIMEL_STAT_CS_EXHAUST Reg.RIMEL_CS_ATTEMPTS false (by decide)).trans (rd_wr_same d Reg.RIMEL_CS_ATTEMPTS 0),
    ((RegsWithin.refl _ _).wr _ (Or.inl rfl)).wrB _ (Or.inr rfl)⟩

section
variable {s : State} {req : Requester} {w : Nat} (hacc : accessErr s.d req 0x100A0000 true = 0)
  (hlow : 1 ≤ bits w 4 2) (hhigh : bits w 4 2 ≤ 2)
include hacc hlow hhigh

/-- What a served write of `RIMEL_CTRL` that leaves `VER` does with the device its fields leave. -/
theorem rimelCtrl_written (hver : rdB s.d Reg.RIMEL_CTRL_EN = true → bits w 4 2 = rd s.d Reg.RIMEL_CTRL_VER) :
    ∃ e, CtlWritten s.d e Reg.RIMEL_CTRL_EN w ∧ rimelCtrl s.d req w =
      (if !rdB s.d Reg.RIMEL_CTRL_EN && bit w 0 then segM (attemptsCleared e) (fun c => { c with next := some csLISTEN, quietK := (attemptsCleared e).k })
      else if rdB s.d Reg.RIMEL_CTRL_EN && !bit w 0 then setCs (syncLoss e 4) csDISABLED
      else if bit w 0 && bit w 1 then toListen (attemptsCleared (syncLoss e 4))
      else e) := by
  have hwritten := writeFields_rimelCtrl s.d req hlow hhigh
  refine ⟨_, hwritten, ?_⟩
  unfold rimelCtrl
  rw [regAccess_open _ _ hacc (.inr (by decide))]
  dsimp only
  rw [verKept_same hver, if_pos rfl, hwritten.en]
  rfl

end

section
variable {s : State} {req : Requester} {w : Nat} (hacc : accessErr s.d req 0x100A0000 true = 0)
  (hlow : 1 ≤ bits w 4 2) (hhigh : bits w 4 2 ≤ 2)
include hacc hlow hhigh

theorem exec_rimelEnable (hoff : rdB s.d Reg.RIMEL_CTRL_EN = false) : ∃ t, exec (.rimelEnable req w) s = .next t ∧
    t.nv = s.nv ∧ rdB t.d Reg.RIMEL_CTRL_EN = true ∧ t.d.rime.seg.next = some csLISTEN ∧ t.d.rime.seg.quietK = s.d.k ∧
    rd t.d Reg.RIMEL_CS_ATTEMPTS = 0 := by
  have hver : bits (setBit w 0 true) 4 2 = bits w 4 2 := bits_setBit_outside w true (Or.inl (by decide))
  obtain ⟨e, hwritten, hdev⟩ := rimelCtrl_written (w := setBit w 0 true) hacc (by omega) (by omega) (by rw [hoff]; exact fun h => absurd h (by decide))
  rw [hoff, bit_setBit, if_pos (by decide)] at hdev
  obtain ⟨hatt, hregs⟩ := attemptsCleared_shows e
  have hen : rdB (attemptsCleared e) Reg.RIMEL_CTRL_EN = true := (hregs.rdB (by decide)).trans (hwritten.en.trans (bit_setBit _ _ _))
  have hk : (attemptsCleared e).k = s.d.k := hwritten.k
  generalize attemptsCleared e = g at *
  exact ⟨_, next_withDev hdev, rfl, hen, rfl, hk, hatt⟩

section
variable (hon : rdB s.d Reg.RIMEL_CTRL_EN = true) (hsame : bits w 4 2 = rd s.d Reg.RIMEL_CTRL_VER)
include hon hsame

theorem exec_rimelDisable : ∃ t, exec (.rimelDisable req w) s = .next t ∧ t.nv = s.nv ∧ rdB t.d Reg.RIMEL_CTRL_EN = false ∧
    csOf t.d = csDISABLED := by
  have hver : bits (setBit w 0 false) 4 2 = bits w 4 2 := bits_setBit_outside w false (Or.inl (by decide))
  obtain ⟨e, hwritten, hdev⟩ := rimelCtrl_written (w := setBit w 0 false) hacc (by omega) (by omega) (fun _ => hver.trans hsame)
  rw [hon, bit_setBit, if_neg (by decide), if_pos (by decide)] at hdev
  obtain ⟨hlost, -⟩ := syncLoss_within e (cause := 4) (by decide)
  have hmoved := setCs_moved (syncLoss e 4) csDISABLED
  have hstate := csOf_setCs (syncLoss e 4) (st := csDISABLED) (by decide)
  have hen : rdB (syncLoss e 4) Reg.RIMEL_CTRL_EN = false :=
    (hlost.rdB (by unfold lossKey csKey; decide)).trans (hwritten.en.trans (bit_setBit _ _ _))
  generalize setCs (syncLoss e 4) csDISABLED = g at *
  exact ⟨_, next_withDev hdev, rfl, (hmoved.regs.rdB (by unfold csKey; decide)).trans hen, hstate⟩

theorem exec_rimelRestart (hen : bit w 0 = true) : ∃ t, exec (.rimelRestart req w) s = .next t ∧ t.nv = s.nv ∧
    rd t.d Reg.RIMEL_CS_ATTEMPTS = 0 ∧
    csOf t.d = if rdB s.d Reg.RIMEL_NODE_COLD = true ∧ 0 < rd s.d Reg.RIMEL_CS_CS_MAX then csWAIT else csLISTEN := by
  have hver : bits (setBit w 1 true) 4 2 = bits w 4 2 := bits_setBit_outside w true (Or.inl (by decide))
  have hkeep : bit (setBit w 1 true) 0 = true := (bit_setBit_ne w true (by decide)).trans hen
  obtain ⟨e, hwritten, hdev⟩ := rimelCtrl_written (w := setBit w 1 true) hacc (by omega) (by omega) (fun _ => hver.trans hsame)
  rw [hon, hkeep, bit_setBit, if_neg (by decide), if_neg (by decide), if_pos (by decide)] at hdev
  obtain ⟨hlost, -⟩ := syncLoss_within e (cause := 4) (by decide)
  have hsetup (f : Fld) (hf : f = Reg.RIMEL_NODE_COLD ∨ f = Reg.RIMEL_CS_CS_MAX) :
      rd (attemptsCleared (syncLoss e 4)) f = rd s.d f := by
    have hcleared := (attemptsCleared_shows (syncLoss e 4)).2
    rcases hf with rfl | rfl
    · exact (hcleared _ (by decide)).trans ((hlost _ (by unfold lossKey csKey; decide)).trans (hwritten.regs _ (by decide)))
    · exact (hcleared _ (by decide)).trans ((hlost _ (by unfold lossKey csKey; decide)).trans (hwritten.regs _ (by decide)))
  obtain ⟨hatt, -⟩ := attemptsCleared_shows (syncLoss e 4)
  generalize attemptsCleared (syncLoss e 4) = g at *
  have hmoved := toListen_moved g
  have hstate := csOf_toListen g
  generalize toListen g = q at *
  refine ⟨_, next_withDev hdev, rfl, (hmoved.regs Reg.RIMEL_CS_ATTEMPTS (by unfold csKey; decide)).trans hatt, hstate.trans ?_⟩
  refine ite_congr (propext ?_) (fun _ => rfl) (fun _ => rfl)
  rw [rdB, rdB, hsetup _ (Or.inl rfl), hsetup _ (Or.inr rfl), hatt, Bool.and_eq_true, decide_eq_true_eq]

end

end

/-! ### The trunk controller's commands -/

section
variable {s : State} {req : Requester} {w : Nat} (hacc : accessErr s.d req 0x100B0000 true = 0)
include hacc

theorem exec_rimetEnable_refused (hoff : rdB s.d Reg.RIMET_CTRL_EN = false) (hnone : trunkRec s.d (rMode s.d) = none) :
    exec (.rimetEnable req w) s = .next (s.withDev (refuseW s.d req 0x100B0000)) := by
  refine next_withDev ?_
  unfold rimetCtrl
  rw [regAccess_open _ _ hacc (.inr (by decide))]
  dsimp only
  rw [verKept_same (by rw [hoff]; exact fun h => absurd h (by decide)), hoff, hnone, bit_setBit]
  rfl

/-- What a served write of `RIMET_CTRL` that leaves `VER`, on a gateway where it enables, does with the device its fields
leave. -/
theorem rimetCtrl_written (hlow : 1 ≤ bits w 4 2) (hhigh : bits w 4 2 ≤ 2)
    (hver : rdB s.d Reg.RIMET_CTRL_EN = true → bits w 4 2 = rd s.d Reg.RIMET_CTRL_VER)
    (hgw : rdB s.d Reg.RIMET_CTRL_EN = true ∨ ((trunkRec s.d (rMode s.d)).map (fun r => bit r.gw (mySeg s.d))).getD false = true) :
    ∃ e g, CtlWritten s.d e Reg.RIMET_CTRL_EN w ∧ (g = e ∨ g = trunkLoss e 4) ∧ rimetCtrl s.d req w =
      (if !rdB s.d Reg.RIMET_CTRL_EN && bit w 0 then trunkM e (fun c => { c with attempts := 0, next := some csLISTEN, quietK := e.k })
      else if rdB s.d Reg.RIMET_CTRL_EN && !bit w 0 then trunkM (wr g Reg.RIMET_STAT_CSTATE csDISABLED) (fun c => { c with next := none })
      else if bit w 0 && bit w 1 then trunkListen (trunkM g (fun c => { c with attempts := 0 }))
      else e) := by
  have hwritten := writeFields_rimetCtrl s.d req hlow hhigh
  refine ⟨_, if tcsOf (writeFields s.d req 0x100B0000 w) = csINTEGRATED then trunkLoss (writeFields s.d req 0x100B0000 w) 4
    else writeFields s.d req 0x100B0000 w, hwritten, ?_, ?_⟩
  · split
    · exact Or.inr rfl
    · exact Or.inl rfl
  · have hmay : ¬ (bit w 0 && !rdB s.d Reg.RIMET_CTRL_EN &&
        !((trunkRec s.d (rMode s.d)).map (fun r => bit r.gw (mySeg s.d))).getD false) = true := by
      rcases hgw with h | h <;> simp [h]
    unfold rimetCtrl
    rw [regAccess_open _ _ hacc (.inr (by decide))]
    dsimp only
    rw [verKept_same hver, if_neg hmay, if_pos rfl, hwritten.en]

theorem exec_rimetEnable (hlow : 1 ≤ bits w 4 2) (hhigh : bits w 4 2 ≤ 2) (hoff : rdB s.d Reg.RIMET_CTRL_EN = false)
    (hgw : ((trunkRec s.d (rMode s.d)).map (fun r => bit r.gw (mySeg s.d))).getD false = true) : ∃ t,
    exec (.rimetEnable req w) s = .next t ∧ t.nv = s.nv ∧ rdB t.d Reg.RIMET_CTRL_EN = true ∧
    t.d.rime.trunk.next = some csLISTEN ∧ t.d.rime.trunk.attempts = 0 := by
  have hver : bits (setBit w 0 true) 4 2 = bits w 4 2 := bits_setBit_outside w true (Or.inl (by decide))
  obtain ⟨e, g, hwritten, -, hdev⟩ := rimetCtrl_written (w := setBit w 0 true) hacc (by omega) (by omega)
    (by rw [hoff]; exact fun h => absurd h (by decide)) (Or.inr hgw)
  rw [hoff, bit_setBit, if_pos (by decide)] at hdev
  exact ⟨_, next_withDev hdev, rfl, hwritten.en.trans (bit_setBit _ _ _), rfl, rfl⟩

section
variable (hlow : 1 ≤ bits w 4 2) (hhigh : bits w 4 2 ≤ 2) (hon : rdB s.d Reg.RIMET_CTRL_EN = true)
  (hsame : bits w 4 2 = rd s.d Reg.RIMET_CTRL_VER)
include hlow hhigh hon hsame

theorem exec_rimetDisable : ∃ t, exec (.rimetDisable req w) s = .next t ∧ t.nv = s.nv ∧ rdB t.d Reg.RIMET_CTRL_EN = false ∧
    tcsOf t.d = csDISABLED := by
  have hver : bits (setBit w 0 false) 4 2 = bits w 4 2 := bits_setBit_outside w false (Or.inl (by decide))
  obtain ⟨e, g, hwritten, hlost, hdev⟩ := rimetCtrl_written (w := setBit w 0 false) hacc (by omega) (by omega)
    (fun _ => hver.trans hsame) (Or.inl hon)
  rw [hon, bit_setBit, if_neg (by decide), if_pos (by decide)] at hdev
  have hen : rdB g Reg.RIMET_CTRL_EN = false := by
    have hoff := hwritten.en.trans (bit_setBit w 0 false)
    rcases hlost with rfl | rfl
    · exact hoff
    · exact (rdB_wrB_ne e Reg.RIMET_STAT_SYNC_LOSS_EV Reg.RIMET_CTRL_EN true (by decide)).trans hoff
  refine ⟨_, next_withDev hdev, rfl, ?_, rd_wr_same g Reg.RIMET_STAT_CSTATE csDISABLED⟩
  exact (rdB_wr_ne g Reg.RIMET_STAT_CSTATE Reg.RIMET_CTRL_EN csDISABLED (by decide)).trans hen

theorem exec_rimetRestart (hen : bit w 0 = true) : ∃ t, exec (.rimetRestart req w) s = .next t ∧ t.nv = s.nv ∧
    t.d.rime.trunk.attempts = 0 ∧ (tcsOf t.d = csWAIT ∨ tcsOf t.d = csLISTEN) := by
  have hver : bits (setBit w 1 true) 4 2 = bits w 4 2 := bits_setBit_outside w true (Or.inl (by decide))
  have hkeep : bit (setBit w 1 true) 0 = true := (bit_setBit_ne w true (by decide)).trans hen
  obtain ⟨e, g, -, -, hdev⟩ := rimetCtrl_written (w := setBit w 1 true) hacc (by omega) (by omega)
    (fun _ => hver.trans hsame) (Or.inl hon)
  rw [hon, hkeep, bit_setBit, if_neg (by decide), if_neg (by decide), if_pos (by decide)] at hdev
  have hzero : (trunkM g (fun c => { c with attempts := 0 })).rime.trunk.attempts = 0 := rfl
  generalize trunkM g (fun c => { c with attempts := 0 }) = q at *
  refine ⟨_, next_withDev hdev, rfl, hzero, ?_⟩
  have hstate (st : Nat) : tcsOf (wr q Reg.RIMET_STAT_CSTATE st) = st % 8 := rd_wr_same q Reg.RIMET_STAT_CSTATE st
  show tcsOf (wr q Reg.RIMET_STAT_CSTATE _) = csWAIT ∨ tcsOf (wr q Reg.RIMET_STAT_CSTATE _) = csLISTEN
  rw [hstate]
  split
  · exact Or.inl rfl
  · exact Or.inr rfl

end

end

/-! ### Start-up and failures -/

section
variable {s : State}

theorem exec_csListenTimeout_segment (hstate : csOf s.d = csWAIT)
    (hquiet : s.d.rime.seg.quietK + 20 * (2 + rd s.d Reg.RIMEL_NODE_RANK) ≤ s.d.k) :
    exec (.csListenTimeout false) s = .next (s.withDev (segM s.d (fun c => { c with next := some csLEAD }))) := by
  refine next_withDev ?_
  unfold listenTimeout
  exact (if_neg (by decide)).trans (if_pos ⟨hstate, hquiet⟩)

theorem exec_csListenTimeout_trunk (hstate : tcsOf s.d = csWAIT)
    (hquiet : s.d.rime.trunk.quietK + 80 * (2 + (trunkRank s.d).getD 0) ≤ s.d.k) :
    exec (.csListenTimeout true) s = .next (s.withDev (trunkM s.d (fun c => { c with next := some csLEAD }))) := by
  refine next_withDev ?_
  unfold listenTimeout
  exact (if_pos rfl).trans (if_pos ⟨hstate, hquiet⟩)

theorem exec_csAttemptEnd (hstate : csOf s.d = csLEAD) (hlast : 7 ≤ s.d.rime.seg.att) (hfew : s.d.rime.seg.conf.length < 2) :
    ∃ t, exec (.csAttemptEnd false) s = .next t ∧ t.nv = s.nv ∧ rdB t.d Reg.RIMEL_STAT_CS_ABORT_EV = true ∧
      csOf t.d = listenState s.d ∧ Src.RIMEL_CS_ABORT ∈ t.d.mor.raised.map (·.src) := by
  have hdev : attemptEnd s.d false = csAbort s.d 0 := by
    unfold attemptEnd
    exact (if_neg (by decide)).trans (if_pos ⟨hstate, hlast, hfew⟩)
  obtain ⟨hlisten, hev, hraised⟩ := csAbort_unconfirmed s.d
  generalize csAbort s.d 0 = e at *
  exact ⟨_, next_withDev hdev, rfl, hev, hlisten, hraised⟩

theorem exec_rimeChFail {ch : Nat} (hch : ch < 2) (hsilent : 8 ≤ s.d.rime.seg.chSilent.getD ch 0) : ∃ t,
    exec (.rimeChFail ch) s = .next t ∧ t.nv = s.nv ∧
      rdB t.d (if ch = 0 then Reg.RIMEL_STAT_CH_A_FAIL else Reg.RIMEL_STAT_CH_B_FAIL) = true ∧
      t.d.mor.raised.map (·.src) = s.d.mor.raised.map (·.src) ++ [Src.RIMEL_CH_FAIL] := by
  have hwd : 0 < (if ch = 0 then Reg.RIMEL_STAT_CH_A_FAIL else Reg.RIMEL_STAT_CH_B_FAIL).wd := by
    split
    · decide
    · decide
  have hdev : chFail s.d ch = raise (segM (wrB s.d (if ch = 0 then Reg.RIMEL_STAT_CH_A_FAIL else Reg.RIMEL_STAT_CH_B_FAIL) true)
      (fun c => { c with
        chSilent := c.chSilent.mapIdx (fun i x => if i = ch then 0 else x),
        chDown := ch :: c.chDown.erase ch })) Src.RIMEL_CH_FAIL 8 ch ch 0 := by
    unfold chFail
    exact if_pos ⟨hch, hsilent⟩
  exact ⟨_, next_withDev hdev, rfl, rdB_wrB_same s.d _ true hwd, List.map_append⟩

theorem exec_rimelSyncLoss (hin : csOf s.d = csINTEGRATED) (hown : 2 ≤ s.d.rime.seg.ownBad) (hslot : (statusSlot s.d).isSome = true) :
    ∃ t, exec .rimelSyncLoss s = .next t ∧ t.nv = s.nv ∧ rd t.d Reg.RIMEL_LOSS_CAUSE = 1 ∧
      rdB t.d Reg.RIMEL_STAT_SYNC_LOSS_EV = true ∧ csOf t.d = listenState s.d ∧ t.d.rime.mc = none ∧
      t.d.mor.raised.map (·.src) = s.d.mor.raised.map (·.src) ++ [Src.RIMEL_SYNC_LOSS] := by
  have hdev : lossDue s.d = syncLoss s.d 1 := by
    unfold lossDue
    exact (if_neg (not_not_intro hin)).trans (if_pos ⟨hown, hslot⟩)
  obtain ⟨hlisten, hcause, hev, hmc, hraised⟩ := syncLoss_loses hin (cause := 1) (by decide)
  generalize syncLoss s.d 1 = e at *
  exact ⟨_, next_withDev hdev, rfl, hcause, hev, hlisten, hmc, hraised⟩

theorem exec_gclkFail {why : Nat} (hwhy : why ≠ 2) (hok : rdB s.d Reg.RIMEL_STAT_GCLK_FAIL = false) : ∃ t,
    exec (.gclkFail why) s = .next t ∧ t.nv = s.nv ∧ rdB t.d Reg.RIMEL_STAT_GCLK_FAIL = true ∧ guardOpen t.d = false ∧
      t.d.rime.trunk.blocked = true ∧ t.d.mor.raised.map (·.src) = s.d.mor.raised.map (·.src) ++ [Src.RIMEL_GCLK_FAIL] := by
  have hdev : gclkFail s.d why = raise (trunkM (segM (wrB s.d Reg.RIMEL_STAT_GCLK_FAIL true) (fun c => { c with blocked := true }))
      (fun c => { c with blocked := true })) Src.RIMEL_GCLK_FAIL 0 0 why 0 := by
    unfold gclkFail
    rw [if_neg hwhy, hok]
    rfl
  refine ⟨_, next_withDev hdev, rfl, rdB_wrB_same s.d Reg.RIMEL_STAT_GCLK_FAIL true (by decide), ?_, rfl, List.map_append⟩
  exact Bool.and_false _

theorem exec_rimeActivity {ch : Nat} (hopen : fenceHolds s.d 8 ch = false) (hch : ch < 2) : ∃ t,
    exec (.rimeActivity ch) s = .next t ∧ t.nv = s.nv ∧ t.d.regs = s.d.regs ∧ t.d.rime.seg.quietK = s.d.k ∧
      (csOf s.d = csWAIT → t.d.rime.seg.next = none) := by
  have hdev : activity s.d ch = restartListen s.d := by
    unfold activity
    exact (if_neg (by rw [hopen]; decide)).trans (if_pos hch)
  exact ⟨_, next_withDev hdev, rfl, rfl, rfl, fun hwait => if_pos hwait⟩

theorem exec_timeIsoLimit (hsolo : role s.d = 0) (hiso : rimeState s.d = 2) (hlate : 2000 ≤ rd s.d Reg.TIME_ISO_CYC)
    (hfirst : s.d.rime.isoDone = false) : ∃ t, exec .timeIsoLimit s = .next t ∧ t.nv = s.nv ∧ t.d.rime.isoDone = true ∧
      rd t.d Reg.SYS_ZHOLD_ZONES = (if s.d.k % 20 = 0 ∧ s.d.phase = 0 then productionZones s.d % 2 ^ Reg.SYS_ZHOLD_ZONES.wd
        else rd s.d Reg.SYS_ZHOLD_ZONES) := by
  have hmarked : ∃ e, raise { s.d with rime := { s.d.rime with isoDone := true } } Src.TIME_ISO_LIMIT 0 0
        (rd s.d Reg.TIME_ISO_CYC) 0 = e ∧ e.rime.isoDone = true ∧ e.regs = s.d.regs ∧ e.k = s.d.k ∧ e.phase = s.d.phase ∧
      productionZones e = productionZones s.d ∧ role e = 0 := ⟨_, rfl, rfl, rfl, rfl, rfl, rfl, hsolo⟩
  obtain ⟨e, he, hdone, hregs, hk, hphase, hzones, hrole⟩ := hmarked
  have hdev : isoLimit s.d = if s.d.k % 20 = 0 ∧ s.d.phase = 0 then wr e Reg.SYS_ZHOLD_ZONES (productionZones s.d) else e := by
    have hhold : holdZones e (productionZones e) = wr e Reg.SYS_ZHOLD_ZONES (productionZones s.d) := by
      unfold holdZones
      rw [hzones, if_neg (by rw [isStandby, hrole]; decide), if_neg (by rw [isActive, hrole]; decide)]
    unfold isoLimit
    rw [if_pos ⟨hiso, hlate, hfirst⟩]
    change (if (raise { s.d with rime := { s.d.rime with isoDone := true } } Src.TIME_ISO_LIMIT 0 0 (rd s.d Reg.TIME_ISO_CYC) 0).k % 20 = 0 ∧
      (raise { s.d with rime := { s.d.rime with isoDone := true } } Src.TIME_ISO_LIMIT 0 0 (rd s.d Reg.TIME_ISO_CYC) 0).phase = 0 then
      holdZones (raise { s.d with rime := { s.d.rime with isoDone := true } } Src.TIME_ISO_LIMIT 0 0 (rd s.d Reg.TIME_ISO_CYC) 0)
        (productionZones (raise { s.d with rime := { s.d.rime with isoDone := true } } Src.TIME_ISO_LIMIT 0 0 (rd s.d Reg.TIME_ISO_CYC) 0))
      else raise { s.d with rime := { s.d.rime with isoDone := true } } Src.TIME_ISO_LIMIT 0 0 (rd s.d Reg.TIME_ISO_CYC) 0) = _
    rw [he, hk, hphase, hhold]
  refine ⟨_, next_withDev hdev, rfl, ?_, ?_⟩
  · show (if _ then _ else _ : Dev).rime.isoDone = true
    split
    · exact hdone
    · exact hdone
  · show rd (if _ then _ else _) Reg.SYS_ZHOLD_ZONES = _
    split
    · exact rd_wr_same e _ _
    · simp only [rd, hregs]

end

/-- Settles O41: each command and event of the controllers through its own case. -/
theorem rimeControllers : Obligations.RimeControllers := by
  unfold Obligations.RimeControllers
  intro s req w ch why
  refine ⟨fun hacc => ⟨?_, fun hon hsame hlow hhigh => ⟨?_, ?_⟩⟩, fun hacc => ⟨?_, ?_, fun hon hsame hlow hhigh => ⟨?_, ?_⟩⟩,
    exec_csListenTimeout_segment, exec_csListenTimeout_trunk, exec_csAttemptEnd, exec_rimeChFail, exec_rimelSyncLoss,
    exec_gclkFail, rfl, exec_rimeActivity, exec_timeIsoLimit⟩
  · exact fun hoff hlow hhigh => exec_rimelEnable hacc hlow hhigh hoff
  · exact exec_rimelDisable hacc hlow hhigh hon hsame
  · exact exec_rimelRestart hacc hlow hhigh hon hsame
  · exact fun hoff hlow hhigh hgw => exec_rimetEnable hacc hlow hhigh hoff hgw
  · exact exec_rimetEnable_refused hacc
  · exact exec_rimetDisable hacc hlow hhigh hon hsame
  · exact exec_rimetRestart hacc hlow hhigh hon hsame

end Sys2Proof.Machine
end

section
/-!
PROOFS. The frames of the Rime network, and barriers released by carried arrivals (R332 to R335, R345, R346, R353, R354,
R366, R370 to R372).
-/
namespace Sys2Proof.Machine

/-! ### What a frame is made of -/

/-- A frame is told by the registers and the cycle. -/
theorem closeFrame_congr {d e : Dev} (hregs : e.regs = d.regs) (hk : e.k = d.k) (auth : Bool) (hdr payload : List Byte) :
    closeFrame e auth hdr payload = closeFrame d auth hdr payload := by
  simp only [closeFrame, rimeTag, lineKey, epochOf, cycNo, rd, hregs, hk]

theorem natBE_length (n x : Nat) : (natBE n x).length = n := by
  induction n with
  | zero => rfl
  | succ n ih => rw [natBE, List.length_cons, ih]

/-- A closed frame is its header, its payload and four bytes of CRC; a tag takes the place of eight. -/
theorem closeFrame_length (d : Dev) (auth : Bool) (hdr payload : List Byte) (hlong : 8 ≤ payload.length) :
    (closeFrame d auth hdr payload).length ≤ hdr.length + payload.length + 4 := by
  unfold closeFrame
  dsimp only
  split
  · simp only [List.length_append, rimeTag, List.length_take, natBE_length]
    omega
  · simp only [List.length_append, natBE_length]
    omega

/-! ### Own slots -/

section
variable {s : State} {slot : Nat} {lag : Int}

/-- A device with a slot recorded as sent, its own netting record with it. -/
def slotSent (d : Dev) (s : Nat) : Dev :=
  let d := segM d (fun c => { c with sent := if c.sent.contains s then c.sent else c.sent ++ [s] })
  let own := (myNode d, netLevel d, rd d Reg.NET_PUB_SURP_W, rd d Reg.NET_PUB_DEF_W)
  if statusSlot d == some s && byteAt (netRecord d) 0 != 0 && !d.net.recs.any (fun r => r.1 == myNode d)
  then { d with net := { d.net with recs := d.net.recs ++ [own] } } else d

/-- What the record leaves of the device. -/
theorem slotSent_keeps (d : Dev) (s : Nat) : (slotSent d s).regs = d.regs ∧ (slotSent d s).firn = d.firn ∧
    (slotSent d s).mor = d.mor ∧ (slotSent d s).k = d.k ∧ (slotSent d s).rime.txSlot = d.rime.txSlot ∧
    (slotSent d s).rime.seg.blocked = d.rime.seg.blocked ∧ s ∈ (slotSent d s).rime.seg.sent := by
  have hin : s ∈ (segM d (fun c => { c with sent := if c.sent.contains s then c.sent else c.sent ++ [s] })).rime.seg.sent := by
    show s ∈ (if d.rime.seg.sent.contains s then d.rime.seg.sent else d.rime.seg.sent ++ [s])
    split
    · next h => simpa using h
    · simp
  have hsame : ∃ e, segM d (fun c => { c with sent := if c.sent.contains s then c.sent else c.sent ++ [s] }) = e ∧
      e.regs = d.regs ∧ e.firn = d.firn ∧ e.mor = d.mor ∧ e.k = d.k ∧ e.rime.txSlot = d.rime.txSlot ∧
      e.rime.seg.blocked = d.rime.seg.blocked := ⟨_, rfl, rfl, rfl, rfl, rfl, rfl, rfl⟩
  obtain ⟨e, he, hregs, hfirn, hmor, hk, htx, hblocked⟩ := hsame
  unfold slotSent
  rw [he] at hin ⊢
  dsimp only
  split
  · exact ⟨hregs, hfirn, hmor, hk, htx, hblocked, hin⟩
  · exact ⟨hregs, hfirn, hmor, hk, htx, hblocked, hin⟩

/-- Who owns a slot is told by the registers and the image. -/
theorem slotOwner_congr {d e : Dev} (hmode : rd e Reg.FIRN_STAT_ACTIVE_VAR = rd d Reg.FIRN_STAT_ACTIVE_VAR)
    (hfirn : e.firn = d.firn) (m s : Nat) : slotOwner e m s = slotOwner d m s := by
  have hvar (v : Nat) : varImage e v = varImage d v := by
    unfold varImage
    rw [hmode, hfirn]
  have hbound : boundVar e m = boundVar d m := by
    unfold boundVar img
    rw [hfirn]
  unfold slotOwner segSched
  rw [hbound, hvar]

theorem ownsSlot_congr {d e : Dev} (hregs : e.regs = d.regs) (hfirn : e.firn = d.firn) (s : Nat) : ownsSlot e s = ownsSlot d s := by
  have hrd (f : Fld) : rd e f = rd d f := by simp only [rd, hregs]
  simp only [ownsSlot, rMode, myNode, slotOwner_congr (hrd _) hfirn, hrd]

theorem guardCovers_congr {d e : Dev} (hregs : e.regs = d.regs) (hfirn : e.firn = d.firn) (s chars : Nat) (lag : Int) :
    guardCovers e s chars lag = guardCovers d s chars lag := by
  have hrun (up : Bool) (n s : Nat) : ownRun e up s n = ownRun d up s n := by
    induction n generalizing s with
    | zero => rfl
    | succ n ih => simp only [ownRun, ownsSlot_congr hregs hfirn, ih]
  simp only [guardCovers, hrun]

theorem guardOpen_congr {d e : Dev} (hregs : e.regs = d.regs) (hblocked : e.rime.seg.blocked = d.rime.seg.blocked) :
    guardOpen e = guardOpen d := by
  simp only [guardOpen, rdB, rd, hregs, hblocked]

theorem txMask_congr {d e : Dev} (hmor : e.mor = d.mor) (base : Nat) : txMask e base = txMask d base := by
  simp only [txMask, fenceHolds, hmor]

section
variable (hsends : segSends s.d = true) (howns : ownsSlot s.d slot = true) (hslot : slot < 64) (hopen : guardOpen s.d = true)
include hsends howns hslot hopen

/-- An owned slot of a node that may send, by the guardian's window. -/
theorem slotTx_owned : slotTx s.d slot lag =
    if guardCovers s.d slot ((slotFrame s.d slot).length + 2) lag = true then
      { slotSent s.d slot with rime := { (slotSent s.d slot).rime with txSlot := BitVec.ofNat 8 (txMask s.d 0) :: slotFrame s.d slot } }
    else truncation (slotSent s.d slot) slot := by
  obtain ⟨hregs, hfirn, hmor, -, -, hblocked, -⟩ := slotSent_keeps s.d slot
  unfold slotTx
  rw [hsends, howns, if_neg (by simp; omega)]
  change (if (!guardOpen (slotSent s.d slot)) = true then slotSent s.d slot
    else if guardCovers (slotSent s.d slot) slot ((slotFrame s.d slot).length + 2) lag = true then
      { slotSent s.d slot with rime := { (slotSent s.d slot).rime with
        txSlot := BitVec.ofNat 8 (txMask (slotSent s.d slot) 0) :: slotFrame s.d slot } }
    else truncation (slotSent s.d slot) slot) = _
  rw [guardOpen_congr hregs hblocked, hopen, guardCovers_congr hregs hfirn, txMask_congr hmor]
  exact if_neg (by decide)

theorem exec_rimeSlotTx_sends (hcovers : guardCovers s.d slot ((slotFrame s.d slot).length + 2) lag = true) : ∃ t,
    exec (.rimeSlotTx slot lag) s = .next t ∧ t.nv = s.nv ∧ t.d.regs = s.d.regs ∧ slot ∈ t.d.rime.seg.sent ∧
      t.d.rime.txSlot = BitVec.ofNat 8 (txMask s.d 0) :: slotFrame s.d slot := by
  have hdev := (slotTx_owned hsends howns hslot hopen).trans (if_pos hcovers)
  obtain ⟨hregs, -, -, -, -, -, hin⟩ := slotSent_keeps s.d slot
  generalize slotSent s.d slot = e at *
  exact ⟨_, next_withDev hdev, rfl, hregs, hin, rfl⟩

theorem exec_rimeSlotTx_truncates (hcovers : guardCovers s.d slot ((slotFrame s.d slot).length + 2) lag = false) : ∃ t,
    exec (.rimeSlotTx slot lag) s = .next t ∧ t.nv = s.nv ∧ t.d.rime.txSlot = s.d.rime.txSlot ∧
      rdB t.d Reg.RIMEL_STAT_TRUNC_EV = true ∧ cycNo s.d ∈ t.d.rime.seg.truncs := by
  have hdev := (slotTx_owned hsends howns hslot hopen).trans (if_neg (by rw [hcovers]; decide))
  obtain ⟨-, -, -, hk, htx, -, -⟩ := slotSent_keeps s.d slot
  generalize slotSent s.d slot = e at *
  have hcyc : cycNo e = cycNo s.d := by simp only [cycNo, hk]
  have hmarked : ∃ g, segM (raise (wrB (incSat e Reg.RIMEL_GRD_TRUNC 1) Reg.RIMEL_STAT_TRUNC_EV true) Src.RIMEL_TRUNC 0 0 slot
        (cyc24 (wrB (incSat e Reg.RIMEL_GRD_TRUNC 1) Reg.RIMEL_STAT_TRUNC_EV true)))
        (fun c => { c with truncs := (cycNo e :: c.truncs).take 2, truncSlot := slot }) = g ∧
      rdB g Reg.RIMEL_STAT_TRUNC_EV = true ∧ g.rime.txSlot = s.d.rime.txSlot ∧ cycNo s.d ∈ g.rime.seg.truncs := by
    refine ⟨_, rfl, rdB_wrB_same (incSat e Reg.RIMEL_GRD_TRUNC 1) Reg.RIMEL_STAT_TRUNC_EV true (by decide), htx, ?_⟩
    show cycNo s.d ∈ (cycNo e :: e.rime.seg.truncs).take 2
    rw [hcyc]
    exact List.mem_cons_self
  obtain ⟨g, hg, hev, htxG, hcount⟩ := hmarked
  have htrunc : truncation e slot = (if e.rime.seg.truncs.any (fun c => c + 1 == cycNo e) && !rdB g Reg.RIMEL_STAT_GRD_BLOCKED then
      raise (wrB g Reg.RIMEL_STAT_GRD_BLOCKED true) Src.RIMEL_GRD_BLOCK 0 0 0 slot else g) := by
    rw [← hg]
    rfl
  rw [htrunc] at hdev
  split at hdev
  · exact ⟨_, next_withDev hdev, rfl, htxG,
      (rdB_wrB_ne g Reg.RIMEL_STAT_GRD_BLOCKED Reg.RIMEL_STAT_TRUNC_EV true (by decide)).trans hev, hcount⟩
  · exact ⟨_, next_withDev hdev, rfl, htxG, hev, hcount⟩

end

theorem exec_rimeSlotTx_silent (hsilent : segSends s.d = false) : exec (.rimeSlotTx slot lag) s = .next s := by
  have hdev : slotTx s.d slot lag = s.d := by
    unfold slotTx
    exact if_pos (by simp [hsilent])
  exact next_withDev hdev

end

/-! ### Receiving on the segment -/

/-- A valid frame counted on its channel. -/
def rxCounted (d : Dev) (ch : Nat) : Dev :=
  segM (incWrap d (Reg.RIMEL_CNT_OK_CNT ch) 1) (fun c => { c with
    chOk := if c.chOk.contains ch then c.chOk else c.chOk ++ [ch], chDown := c.chDown.erase ch })

theorem rxCounted_shows (d : Dev) {ch : Nat} : RegsWithin (fun k => k = (Reg.RIMEL_CNT_OK_CNT ch).key) d (rxCounted d ch) ∧
    rd (rxCounted d ch) (Reg.RIMEL_CNT_OK_CNT ch) = (rd d (Reg.RIMEL_CNT_OK_CNT ch) + 1) % 2 ^ 32 ∧
    (rxCounted d ch).firn = d.firn ∧ (rxCounted d ch).rime.refs = d.rime.refs ∧ (rxCounted d ch).rime.seg.rx = d.rime.seg.rx := by
  have hcount : ∃ e, incWrap d (Reg.RIMEL_CNT_OK_CNT ch) 1 = e ∧ RegsWithin (fun k => k = (Reg.RIMEL_CNT_OK_CNT ch).key) d e ∧
      rd e (Reg.RIMEL_CNT_OK_CNT ch) = (rd d (Reg.RIMEL_CNT_OK_CNT ch) + 1) % 2 ^ 32 ∧ e.firn = d.firn ∧ e.rime = d.rime :=
    ⟨_, rfl, RegsWithin.wr (R := fun k => k = (Reg.RIMEL_CNT_OK_CNT ch).key) (.refl _ d) _ rfl,
      rd_wr_same d (Reg.RIMEL_CNT_OK_CNT ch) _, rfl, rfl⟩
  obtain ⟨e, he, hregs, hcnt, hfirn, hrime⟩ := hcount
  unfold rxCounted
  rw [he]
  refine ⟨hregs, hcnt, hfirn, ?_, ?_⟩
  · show e.rime.refs = _
    rw [hrime]
  · show e.rime.seg.rx = _
    rw [hrime]

/-- A change that leaves the segment controller alone and of the registers writes the lapse of a request alone. -/
structure SegKept (d e : Dev) : Prop where
  seg : e.rime.seg = d.rime.seg
  regs : RegsWithin (fun k => k = Reg.RIMET_MC_LAPSE.key) d e

theorem SegKept.refl (d : Dev) : SegKept d d := ⟨rfl, .refl _ _⟩

theorem SegKept.trans {d e g : Dev} (h : SegKept d e) (h' : SegKept e g) : SegKept d g :=
  ⟨h'.seg.trans h.seg, h.regs.trans h'.regs⟩

theorem mcRx_kept (d : Dev) (node : Nat) (p : List Byte) : SegKept d (mcRx d node p) := by
  have hlapse : SegKept d (wrB d Reg.RIMET_MC_LAPSE true) := ⟨rfl, (RegsWithin.refl _ _).wrB true rfl⟩
  generalize hlapsed : wrB d Reg.RIMET_MC_LAPSE true = lapsed at hlapse
  unfold mcRx
  rw [hlapsed]
  dsimp only
  split
  · split
    · exact ⟨rfl, .of_regs rfl⟩
    · exact .refl d
  · next r _ =>
    split
    · split
      · exact ⟨hlapse.seg, hlapse.regs⟩
      · exact ⟨rfl, .of_regs rfl⟩
    · split
      · exact ⟨rfl, .of_regs rfl⟩
      · exact .refl d

theorem statusRx_kept (d : Dev) (node : Nat) (p : List Byte) : SegKept d (statusRx d node p) := by
  have hput : SegKept d { d with rime := { d.rime with status := SMap.put d.rime.status node (cycNo d, p) } } := ⟨rfl, .of_regs rfl⟩
  unfold statusRx
  generalize ({ d with rime := { d.rime with status := SMap.put d.rime.status node (cycNo d, p) } } : Dev) = e at *
  dsimp only
  have hrec : SegKept e (if byteAt p 16 / 16 ≠ 0 ∧ byteAt p 16 / 16 = rd e Reg.NET_XCFG_DOMAIN ∧
      e.net.recs.any (fun r => r.1 == node) = false then
      { e with net := { e.net with recs := e.net.recs ++ [(node, byteAt p 17, beAt p 20 4, beAt p 24 4)] } } else e) := by
    split
    · exact ⟨rfl, .of_regs rfl⟩
    · exact .refl e
  generalize (if byteAt p 16 / 16 ≠ 0 ∧ byteAt p 16 / 16 = rd e Reg.NET_XCFG_DOMAIN ∧ e.net.recs.any (fun r => r.1 == node) = false then
      { e with net := { e.net with recs := e.net.recs ++ [(node, byteAt p 17, beAt p 20 4, beAt p 24 4)] } } else e) = g at *
  split
  · exact (hput.trans hrec).trans (mcRx_kept g node p)
  · exact hput.trans hrec

/-- The first valid frame of a slot is kept and its node seen. -/
theorem slotRx_keeps {d : Dev} (ch sof : Nat) (gdev : Int) {f : List Byte} (hnone : SMap.find d.rime.seg.rx (fSlot f) = none) :
    SMap.find (slotRx d ch sof gdev f).rime.seg.rx (fSlot f) = some ⟨f.take (f.length - 4), sof, ch == 1⟩ ∧
    slotOwner d (fMode f) (fSlot f) ∈ (slotRx d ch sof gdev f).rime.seg.seen ∧
    RegsWithin (fun k => k = Reg.RIMET_MC_LAPSE.key) d (slotRx d ch sof gdev f) := by
  have htaken : ∃ e, segM d (fun c => { c with
        rx := SMap.put c.rx (fSlot f) ⟨f.take (f.length - 4), sof, ch == 1⟩,
        seen := if c.seen.contains (slotOwner d (fMode f) (fSlot f)) then c.seen else c.seen ++ [slotOwner d (fMode f) (fSlot f)] }) = e ∧
      SMap.find e.rime.seg.rx (fSlot f) = some ⟨f.take (f.length - 4), sof, ch == 1⟩ ∧
      slotOwner d (fMode f) (fSlot f) ∈ e.rime.seg.seen ∧ e.regs = d.regs := by
    refine ⟨_, rfl, SMap.find_put_same _ _ _, ?_, rfl⟩
    show _ ∈ (if d.rime.seg.seen.contains (slotOwner d (fMode f) (fSlot f)) then d.rime.seg.seen
      else d.rime.seg.seen ++ [slotOwner d (fMode f) (fSlot f)])
    split
    · next h => simpa using h
    · simp
  obtain ⟨e, he, hrx, hseen, hregs⟩ := htaken
  unfold slotRx
  dsimp only
  rw [hnone]
  dsimp only
  rw [he]
  have hdevs : SegKept e (if fSync f = true then { e with rime := { e.rime with
      devs := e.rime.devs ++ [(fSlot f, slotOwner d (fMode f) (fSlot f), rxDev e ch sof (slotAp (fSlot f)))],
      gdevs := e.rime.gdevs ++ [gdev] } } else e) := by
    split
    · exact ⟨rfl, .of_regs rfl⟩
    · exact .refl e
  generalize (if fSync f = true then { e with rime := { e.rime with
      devs := e.rime.devs ++ [(fSlot f, slotOwner d (fMode f) (fSlot f), rxDev e ch sof (slotAp (fSlot f)))],
      gdevs := e.rime.gdevs ++ [gdev] } } else e) = g at *
  have hlast : SegKept e (if fStat f = true then statusRx g (slotOwner d (fMode f) (fSlot f)) (fPayload f) else g) := by
    split
    · exact hdevs.trans (statusRx_kept _ _ _)
    · exact hdevs
  generalize (if fStat f = true then statusRx g (slotOwner d (fMode f) (fSlot f)) (fPayload f) else g) = q at *
  rw [hlast.seg]
  exact ⟨hrx, hseen, (RegsWithin.of_regs hregs).trans hlast.regs⟩

section
variable {s : State} {ch sof codeErrs : Nat} {gdev : Int} {framed : Bool} {f : List Byte} (hin : csOf s.d = csINTEGRATED)
  (hopen : fenceHolds s.d 8 ch = false) (hch : ch < 2) (hon : rdFBit s.d Reg.PWR_STAT_DOM_ON 11 = true)
  (hother : s.d.rime.seg.sent.contains (sof / 12500) = false)
include hin hopen hch hon hother

/-- What an INTEGRATED controller does with a frame that is none of its own. -/
theorem frameRx_integrated : frameRx s.d ch sof gdev framed codeErrs f = (match rxCheck4 s.d framed codeErrs f with
    | some e => countRx s.d ch e
    | none =>
      if 799000 ≤ sof then (if winFrameOk sof f then windowRx (rxCounted s.d ch) ch sof f else s.d)
      else if rxCheck5 s.d f = false then countRx s.d ch .schedule
      else if 1000 < (rxDev s.d ch sof (slotAp (fSlot f))).natAbs then countRx s.d ch .timing
      else stateRx (slotRx (rxCounted s.d ch) ch sof gdev f) ch sof f) := by
  have hlisten : ¬ (csINTEGRATED = csDISABLED ∨ fenceHolds s.d 8 ch = true ∨ 2 ≤ ch ∨ rdFBit s.d Reg.PWR_STAT_DOM_ON 11 = false) := by
    rw [hopen, hon]
    simp [csINTEGRATED, csDISABLED]
    omega
  have hwait : ¬ csINTEGRATED = csWAIT := by decide
  have hlead : decide (csINTEGRATED = csLEAD) = false := rfl
  unfold frameRx
  dsimp only
  rw [hin, if_neg hlisten, hother, Bool.and_false]
  cases rxCheck4 s.d framed codeErrs f with
  | some e => simp only [Bool.false_eq_true, if_false, hlead, Bool.false_and, if_neg hwait]
  | none =>
    simp only [Bool.false_eq_true, if_false, if_neg hwait, true_or, and_true, true_and]
    rfl

theorem exec_rimeFrameRx_kept (hgood : rxCheck4 s.d framed codeErrs f = none) (hearly : sof < 799000) (hfits : rxCheck5 s.d f = true)
    (hdev : (rxDev s.d ch sof (slotAp (fSlot f))).natAbs ≤ 1000) (hfirst : SMap.find s.d.rime.seg.rx (fSlot f) = none) : ∃ t,
    exec (.rimeFrameRx ch sof gdev framed codeErrs f) s = .next t ∧ t.nv = s.nv ∧
      SMap.find t.d.rime.seg.rx (fSlot f) = some ⟨f.take (f.length - 4), sof, ch == 1⟩ ∧
      slotOwner s.d (fMode f) (fSlot f) ∈ t.d.rime.seg.seen ∧
      rd t.d (Reg.RIMEL_CNT_OK_CNT ch) = (rd s.d (Reg.RIMEL_CNT_OK_CNT ch) + 1) % 2 ^ 32 := by
  obtain ⟨hregs, hcount, hfirn, -, hrx⟩ := rxCounted_shows s.d (ch := ch)
  have hrxdev : frameRx s.d ch sof gdev framed codeErrs f = stateRx (slotRx (rxCounted s.d ch) ch sof gdev f) ch sof f := by
    rw [frameRx_integrated hin hopen hch hon hother, hgood]
    dsimp only
    rw [if_neg (by omega), hfits, if_neg (by decide), if_neg (by omega)]
  generalize rxCounted s.d ch = e at *
  rw [← hrx] at hfirst
  have howner : slotOwner e (fMode f) (fSlot f) = slotOwner s.d (fMode f) (fSlot f) :=
    slotOwner_congr (hregs Reg.FIRN_STAT_ACTIVE_VAR (by simp [Fld.key, Reg.FIRN_STAT_ACTIVE_VAR, Reg.RIMEL_CNT_OK_CNT]; omega)) hfirn _ _
  obtain ⟨hfound, hseen, hlast⟩ := slotRx_keeps ch sof gdev hfirst
  have hstate : csOf (slotRx e ch sof gdev f) = csINTEGRATED :=
    (hlast Reg.RIMEL_STAT_CSTATE (by decide)).trans
      ((hregs Reg.RIMEL_STAT_CSTATE (by simp [Fld.key, Reg.RIMEL_STAT_CSTATE, Reg.RIMEL_CNT_OK_CNT]; omega)).trans hin)
  have hdone : stateRx (slotRx e ch sof gdev f) ch sof f = slotRx e ch sof gdev f := by
    unfold stateRx
    dsimp only
    rw [hstate]
    rfl
  rw [hdone] at hrxdev
  rw [howner] at hseen
  generalize slotRx e ch sof gdev f = g at *
  refine ⟨_, next_withDev hrxdev, rfl, hfound, hseen, (hlast (Reg.RIMEL_CNT_OK_CNT ch) ?_).trans hcount⟩
  simp only [Fld.key, Reg.RIMEL_CNT_OK_CNT, Reg.RIMET_MC_LAPSE]
  omega

theorem exec_rimeFrameRx_counted {e : RxFault} (hbad : rxCheck4 s.d framed codeErrs f = some e) :
    exec (.rimeFrameRx ch sof gdev framed codeErrs f) s = .next (s.withDev (countRx s.d ch e)) := by
  refine next_withDev ?_
  rw [frameRx_integrated hin hopen hch hon hother, hbad]

theorem exec_rimeFrameRx_reference (hgood : rxCheck4 s.d framed codeErrs f = none) (hwin : 799000 ≤ sof) (href : sof < 860000)
    (hstat : fStat f = false) (hsync : fSync f = true) (hslot : fSlot f ≤ 3) (hlen : fLen f = (if fAuth f then 24 else 16))
    (hforeign : byteAt (fPayload f) 1 ≠ myNode s.d) (hfirst : s.d.rime.refs = []) : ∃ t,
    exec (.rimeFrameRx ch sof gdev framed codeErrs f) s = .next t ∧ t.nv = s.nv ∧ t.d.rime.refs =
      [(fSlot f, byteAt (fPayload f) 1, rxDev s.d ch sof (800000 + 12500 * fSlot f + 1250), bit (byteAt (fPayload f) 0) 7)] := by
  obtain ⟨hregs, -, -, hrefs, -⟩ := rxCounted_shows s.d (ch := ch)
  have hok : winFrameOk sof f = true := by
    unfold winFrameOk
    rw [if_pos href, hstat, hsync, decide_eq_true hslot]
    exact beq_iff_eq.mpr hlen
  have hkept (g : Fld) (h : g.key < 0x100A0040 * 32) : rd (rxCounted s.d ch) g = rd s.d g := by
    refine hregs g ?_
    simp only [Fld.key, Reg.RIMEL_CNT_OK_CNT] at h ⊢
    omega
  have hdevn (ap : Nat) : rxDev (rxCounted s.d ch) ch sof ap = rxDev s.d ch sof ap := by
    have hdly : rxDly (rxCounted s.d ch) ch = rxDly s.d ch := by
      unfold rxDly
      split
      · exact hkept Reg.RIMEL_RXDLY_A_NS (by decide)
      · exact hkept Reg.RIMEL_RXDLY_B_NS (by decide)
    rw [rxDev, rxDev, hdly]
  have hnode : myNode (rxCounted s.d ch) = myNode s.d := hkept Reg.RIMEL_NODE_NODE (by decide)
  have hdev : frameRx s.d ch sof gdev framed codeErrs f = windowRx (rxCounted s.d ch) ch sof f := by
    rw [frameRx_integrated hin hopen hch hon hother, hgood]
    dsimp only
    rw [if_pos hwin, hok, if_pos rfl]
  generalize rxCounted s.d ch = e at *
  have hwindow : windowRx e ch sof f = { e with rime := { e.rime with refs := e.rime.refs ++
      [(fSlot f, byteAt (fPayload f) 1, rxDev s.d ch sof (800000 + 12500 * fSlot f + 1250), bit (byteAt (fPayload f) 0) 7)] } } := by
    unfold windowRx
    dsimp only
    rw [if_pos href, hnode, hrefs, hfirst, if_neg (by simpa using hforeign), hdevn]
  refine ⟨_, next_withDev (hdev.trans hwindow), rfl, ?_⟩
  show e.rime.refs ++ _ = _
  rw [hrefs, hfirst]
  rfl

end

/-! ### References -/

section
variable {s : State}

/-- The reference frame of a time master on its segment. -/
def segRefFrame (d : Dev) : List Byte :=
  let auth := authOn d (rd d Reg.RIMEL_CTRL_VER)
  let p := refPayload d (rd d Reg.TIME_SYNC_MRANK) (cycNo d * 20) (800000 + 12500 * rd d Reg.TIME_SYNC_MRANK + 1250) auth
  closeFrame d auth (segHdr d (rd d Reg.TIME_SYNC_MRANK) false true auth false p.length) p

/-- The reference frame of a trunk master of rank `b`. -/
def trunkRefFrame (d : Dev) (b : Nat) : List Byte :=
  let auth := authOn d (rd d Reg.RIMET_CTRL_VER)
  let p := refPayload d b (tcycNo d * 80) (3840000 + 15000 * b + 1500) auth
  closeFrame d auth (trunkHdr d false true auth b p.length) p

/-- A device with the frame of its segment's reference slot. -/
def withSegRef (d : Dev) (x : List Byte) : Dev := { d with rime := { d.rime with txRef := x } }

theorem segRefTx_eq (d : Dev) : segRefTx d =
    if csOf d ≠ csINTEGRATED ∨ isMaster d (d.rime.lastRanks ++ d.rime.refs.map (·.1)) = false ∨ guardOpen d = false then d
    else withSegRef d (BitVec.ofNat 8 (txMask d 0) :: segRefFrame d) := rfl

theorem trunkRefTx_eq (d : Dev) : trunkRefTx d = (match trunkRank d with
    | some r =>
      if !isGateway d || tcsOf d != csINTEGRATED || rdB d Reg.RIMEL_STAT_GCLK_FAIL || d.rime.trunk.blocked || cycNo d % 4 != 3
      then d else { d with rime := { d.rime with txTref := BitVec.ofNat 8 (txMask d 2) :: trunkRefFrame d r } }
    | none => d) := rfl

theorem exec_rimeRefTx_segment (hin : csOf s.d = csINTEGRATED)
    (hmaster : isMaster s.d (s.d.rime.lastRanks ++ s.d.rime.refs.map (·.1)) = true) (hopen : guardOpen s.d = true)
    (hnone : trunkRank s.d = none) : ∃ t g, exec .rimeRefTx s = .next t ∧
      t.d = { s.d with rime := { s.d.rime with txRef := BitVec.ofNat 8 (txMask s.d 0) :: g } } ∧ g = segRefFrame s.d := by
  have hseg : segRefTx s.d = withSegRef s.d (BitVec.ofNat 8 (txMask s.d 0) :: segRefFrame s.d) := by
    rw [segRefTx_eq, hin, hmaster, hopen]
    exact if_neg (by simp)
  generalize segRefFrame s.d = g at *
  have hrank : trunkRank (withSegRef s.d (BitVec.ofNat 8 (txMask s.d 0) :: g)) = none := hnone
  have hdev : refTx s.d = withSegRef s.d (BitVec.ofNat 8 (txMask s.d 0) :: g) := by
    rw [refTx, hseg, trunkRefTx_eq, hrank]
  exact ⟨_, g, next_withDev hdev, rfl, rfl⟩

/-- A trunk master's frame is told by the registers and the cycle. -/
theorem trunkRefFrame_congr {d e : Dev} (hregs : e.regs = d.regs) (hk : e.k = d.k) (b : Nat) :
    trunkRefFrame e b = trunkRefFrame d b := by
  have hrd (f : Fld) : rd e f = rd d f := by simp only [rd, hregs]
  have hauth (v : Nat) : authOn e v = authOn d v := by simp only [authOn, rdB, hrd]
  have hpay (r st ap : Nat) (a : Bool) : refPayload e r st ap a = refPayload d r st ap a := by simp only [refPayload, myNode, hrd]
  have hhdr (st rf a : Bool) (sg len : Nat) : trunkHdr e st rf a sg len = trunkHdr d st rf a sg len := by
    simp only [trunkHdr, rMode, tcyc24, hrd, hk]
  have hcyc : tcycNo e = tcycNo d := by simp only [tcycNo, hk]
  simp only [trunkRefFrame, closeFrame_congr hregs hk, hauth, hpay, hhdr, hcyc, hrd]

theorem exec_rimeRefTx_trunk {b : Nat} (hgw : isGateway s.d = true) (hin : tcsOf s.d = csINTEGRATED)
    (hclk : rdB s.d Reg.RIMEL_STAT_GCLK_FAIL = false) (hopen : s.d.rime.trunk.blocked = false) (hrank : trunkRank s.d = some b)
    (hcyc : cycNo s.d % 4 = 3) : ∃ t, exec .rimeRefTx s = .next t ∧ t.nv = s.nv ∧ t.d.regs = s.d.regs ∧
      t.d.rime.txTref = BitVec.ofNat 8 (txMask s.d 2) :: trunkRefFrame s.d b := by
  have hseg : ∃ e, segRefTx s.d = e ∧ e.regs = s.d.regs ∧ e.k = s.d.k ∧ e.mor = s.d.mor ∧ trunkRank e = some b ∧
      isGateway e = true ∧ e.rime.trunk.blocked = false := by
    rw [segRefTx_eq]
    split
    · exact ⟨_, rfl, rfl, rfl, rfl, hrank, hgw, hopen⟩
    · exact ⟨_, rfl, rfl, rfl, rfl, hrank, hgw, hopen⟩
  obtain ⟨e, he, hregs, hk, hmor, hrankE, hgwE, hopenE⟩ := hseg
  have hsame : RegsWithin (fun _ => False) s.d e := .of_regs hregs
  have hinE : tcsOf e = csINTEGRATED := (hsame _ id).trans hin
  have hclkE : rdB e Reg.RIMEL_STAT_GCLK_FAIL = false := (hsame.rdB id).trans hclk
  have hcycE : cycNo e % 4 = 3 := by simpa only [cycNo, hk] using hcyc
  have hdev : refTx s.d = { e with rime := { e.rime with txTref := BitVec.ofNat 8 (txMask s.d 2) :: trunkRefFrame s.d b } } := by
    rw [refTx, he, trunkRefTx_eq, hrankE]
    dsimp only
    rw [hgwE, hinE, hclkE, hopenE, hcycE, if_neg (by decide), txMask_congr hmor, trunkRefFrame_congr hregs hk]
  exact ⟨_, next_withDev hdev, rfl, hregs, rfl⟩

end

/-! ### The downlink and the trunk -/

theorem bit_validByte (v : Bool) (x : Nat) : bit (BitVec.ofNat 8 (b2n v * 128 + x % 128)).toNat 7 = v := by
  rw [BitVec.toNat_ofNat, bit_mod_two_pow _ (by decide)]
  have hdiv : (b2n v * 128 + x % 128) / 2 ^ 7 = b2n v := by omega
  rw [bit, hdiv]
  cases v <;> rfl

section
variable {s : State}

theorem cycNo_takeDown (d : Dev) (p : List Byte) : cycNo (takeDown d p) = cycNo d := by
  unfold takeDown
  dsimp only
  split
  · rfl
  · rfl

theorem exec_rimeDownlinkTx (hgw : isGateway s.d = true) (hin : csOf s.d = csINTEGRATED) (hopen : guardOpen s.d = true)
    (hcyc : cycNo s.d % 4 ≠ 3) : ∃ t g p, exec .rimeDownlinkTx s = .next t ∧ t.nv = s.nv ∧ t.d.firn = s.d.firn ∧
      t.d.rime.txDown = BitVec.ofNat 8 (txMask s.d 0) :: g ∧ t.d.rime.down = some (cycNo s.d, p) ∧
      rdB t.d Reg.TIME_STAT_LINE = (tcsOf s.d == csINTEGRATED) := by
  have hdev : ∃ g p, downTx s.d = takeDown { s.d with rime := { s.d.rime with txDown := BitVec.ofNat 8 (txMask s.d 0) :: g } } p ∧
      bit (byteAt p 0) 7 = (tcsOf s.d == csINTEGRATED) := by
    unfold downTx
    rw [hgw, hin, hopen, if_neg (by decide)]
    dsimp only
    rw [if_neg hcyc, if_neg hcyc]
    exact ⟨_, _, if_neg (by rwa [cycNo_takeDown]), bit_validByte _ _⟩
  obtain ⟨g, p, hdev, hvalid⟩ := hdev
  have htake : takeDown { s.d with rime := { s.d.rime with txDown := BitVec.ofNat 8 (txMask s.d 0) :: g } } p =
      wrB { s.d with rime := { s.d.rime with txDown := BitVec.ofNat 8 (txMask s.d 0) :: g, down := some (cycNo s.d, p) } }
        Reg.TIME_STAT_LINE (bit (byteAt p 0) 7) := by
    unfold takeDown
    exact if_neg fun h => hcyc h.1
  refine ⟨_, g, p, next_withDev (hdev.trans htake), rfl, rfl, rfl, rfl, ?_⟩
  exact (rdB_wrB_same _ Reg.TIME_STAT_LINE _ (by decide)).trans hvalid

theorem exec_trunkSlotTx (hgw : isGateway s.d = true) (hin : tcsOf s.d = csINTEGRATED)
    (hclk : rdB s.d Reg.RIMEL_STAT_GCLK_FAIL = false) (hopen : s.d.rime.trunk.blocked = false) : ∃ t g,
    exec (.trunkSlotTx 0) s = .next t ∧ t.nv = s.nv ∧ t.d.regs = s.d.regs ∧ t.d.rime.trunk.sent = [mySeg s.d] ∧
      t.d.rime.txTrunk = BitVec.ofNat 8 (txMask s.d 2) :: g := by
  have hblock : (gwBlock s.d).length = 48 := by
    simp only [gwBlock, natBE_length, List.length_flatMap, List.length_append, List.length_cons, List.length_nil]
    rfl
  have hlen := closeFrame_length s.d (authOn s.d (rd s.d Reg.RIMET_CTRL_VER))
    (trunkHdr s.d ((csINTEGRATED == csLEAD) && decide (s.d.rime.trunk.att ≤ 3)) false (authOn s.d (rd s.d Reg.RIMET_CTRL_VER)) (mySeg s.d) 48)
    (gwBlock s.d) (by omega)
  have hhdr : (trunkHdr s.d ((csINTEGRATED == csLEAD) && decide (s.d.rime.trunk.att ≤ 3)) false (authOn s.d (rd s.d Reg.RIMET_CTRL_VER))
      (mySeg s.d) 48).length = 8 := by
    simp [trunkHdr, natBE_length]
  rw [hhdr, hblock] at hlen
  have hdev : ∃ g, trunkTx s.d 0 = { s.d with rime := { s.d.rime with
      trunk := { s.d.rime.trunk with sent := [mySeg s.d] }, txTrunk := BitVec.ofNat 8 (txMask s.d 2) :: g } } := by
    unfold trunkTx
    dsimp only
    rw [hgw, hin, if_neg (by decide)]
    generalize closeFrame s.d (authOn s.d (rd s.d Reg.RIMET_CTRL_VER)) _ _ = g at *
    have hgate : (rdB (trunkM s.d fun c => { c with sent := [mySeg s.d] }) Reg.RIMEL_STAT_GCLK_FAIL ||
        (trunkM s.d fun c => { c with sent := [mySeg s.d] }).rime.trunk.blocked) = false := by
      have hparts : rdB (trunkM s.d fun c => { c with sent := [mySeg s.d] }) Reg.RIMEL_STAT_GCLK_FAIL =
          rdB s.d Reg.RIMEL_STAT_GCLK_FAIL ∧ (trunkM s.d fun c => { c with sent := [mySeg s.d] }).rime.trunk.blocked =
          s.d.rime.trunk.blocked := ⟨rfl, rfl⟩
      rw [hparts.1, hparts.2, hclk, hopen]
      rfl
    rw [hgate, if_neg (by decide), if_pos (by simp; omega)]
    exact ⟨g, rfl⟩
  obtain ⟨g, hdev⟩ := hdev
  exact ⟨_, g, next_withDev hdev, rfl, rfl, rfl, rfl⟩

/-- What another gateway's block says of a mode change of the line leaves the trunk controller and the blocks alone. -/
theorem tmcRx_keeps (d : Dev) (seg : Nat) (p : List Byte) : (tmcRx d seg p).rime.trunk = d.rime.trunk ∧
    (tmcRx d seg p).rime.gws = d.rime.gws := by
  unfold tmcRx
  dsimp only
  split
  · split
    · exact ⟨rfl, rfl⟩
    · exact ⟨rfl, rfl⟩
  · split
    · exact ⟨rfl, rfl⟩
    · exact ⟨rfl, rfl⟩

theorem exec_trunkFrameRx {ch sof codeErrs : Nat} {framed : Bool} {f : List Byte} (hin : tcsOf s.d = csINTEGRATED)
    (hopen : fenceHolds s.d 8 (2 + ch) = false) (hch : ch < 2) (hon : rdFBit s.d Reg.PWR_STAT_DOM_ON 11 = true)
    (hother : s.d.rime.trunk.sent = []) (hgood : trunkCheck s.d ch sof framed codeErrs f = true) (hblock : bit (byteAt f 0) 4 = false) :
    ∃ t, exec (.trunkFrameRx ch sof framed codeErrs f) s = .next t ∧ t.nv = s.nv ∧ byteAt f 1 ∈ t.d.rime.trunk.seen ∧
      SMap.find t.d.rime.gws (byteAt f 1) = some (tcycNo s.d, sub f 8 (fLen f)) := by
  have hcounted : ∃ e, incSatPart s.d Reg.RIMET_CNT_CNT 0 16 1 = e ∧ tcsOf e = csINTEGRATED ∧ tcycNo e = tcycNo s.d :=
    ⟨_, rfl, (rd_wr_ne s.d Reg.RIMET_CNT_CNT Reg.RIMET_STAT_CSTATE _ (by decide)).trans hin, rfl⟩
  obtain ⟨e, he, hinE, htcyc⟩ := hcounted
  have hrx : trunkRx s.d ch sof framed codeErrs f = trunkTake e ch sof f := by
    unfold trunkRx
    rw [if_neg (by rw [hin, hopen, hon]; simp [csINTEGRATED, csDISABLED]; omega), hother]
    dsimp only
    rw [hgood, he]
    rfl
  have htaken : ∃ g, { trunkM e (fun c => { c with
        seen := if c.seen.contains (byteAt f 1) then c.seen else c.seen ++ [byteAt f 1], quietK := e.k }) with
      rime := { (trunkM e (fun c => { c with
        seen := if c.seen.contains (byteAt f 1) then c.seen else c.seen ++ [byteAt f 1], quietK := e.k })).rime with
        gws := SMap.put (trunkM e (fun c => { c with
          seen := if c.seen.contains (byteAt f 1) then c.seen else c.seen ++ [byteAt f 1], quietK := e.k })).rime.gws (byteAt f 1)
          (tcycNo (trunkM e (fun c => { c with
            seen := if c.seen.contains (byteAt f 1) then c.seen else c.seen ++ [byteAt f 1], quietK := e.k })), sub f 8 (fLen f)) } } = g ∧
      byteAt f 1 ∈ g.rime.trunk.seen ∧ SMap.find g.rime.gws (byteAt f 1) = some (tcycNo s.d, sub f 8 (fLen f)) := by
    refine ⟨_, rfl, ?_, ?_⟩
    · show _ ∈ (if e.rime.trunk.seen.contains (byteAt f 1) then e.rime.trunk.seen else e.rime.trunk.seen ++ [byteAt f 1])
      split
      · next h => simpa using h
      · simp
    · exact (SMap.find_put_same _ _ _).trans (congrArg (fun c => some (c, sub f 8 (fLen f))) htcyc)
  obtain ⟨g, hg, hseen, hfound⟩ := htaken
  have htake : trunkTake e ch sof f = tmcRx g (byteAt f 1) (sub f 8 (fLen f)) := by
    unfold trunkTake
    dsimp only
    rw [hblock, if_neg (by decide), hinE, if_neg (by decide), if_neg (by decide), if_neg (by decide), if_pos rfl, hg]
  obtain ⟨htrunk, hgws⟩ := tmcRx_keeps g (byteAt f 1) (sub f 8 (fLen f))
  rw [htake] at hrx
  generalize tmcRx g (byteAt f 1) (sub f 8 (fLen f)) = q at *
  refine ⟨_, next_withDev hrx, rfl, ?_, ?_⟩
  · show byteAt f 1 ∈ q.rime.trunk.seen
    rwa [htrunk]
  · show SMap.find q.rime.gws (byteAt f 1) = _
    rwa [hgws]

/-! ### Barriers -/

theorem exec_remoteBarrierRelease {line : Bool} {b : Nat} (hdue : remoteDue s.d line b = true) : ∃ t,
    exec (.remoteBarrierRelease line b) s = .next t ∧ t.nv = s.nv ∧ rdB t.d (Reg.SEQ_LBAR_REL b) = true ∧
      rdB t.d (Reg.SEQ_LBAR_LOCAL b) = false ∧
      (barrier t.d (barKey (if line then 4 else 3) 0 b)).gen = (barrier s.d (barKey (if line then 4 else 3) 0 b)).gen + 1 ∧
      (barrier t.d (barKey (if line then 4 else 3) 0 b)).arrived = [] := by
  have hb : b < 16 := by
    refine Decidable.byContradiction fun hge => ?_
    unfold remoteDue at hdue
    dsimp only at hdue
    rw [if_pos (Or.inr (Or.inr (Or.inl (by omega))))] at hdue
    exact absurd hdue (by decide)
  have hkey : 3 ≤ barKey (if line then 4 else 3) 0 b / 2 ^ 24 ∧ barKey (if line then 4 else 3) 0 b % 16 = b := by
    unfold barKey
    cases line
    · simp only [Bool.false_eq_true, if_false]
      omega
    · simp only [if_true]
      omega
  have hexec : exec (.remoteBarrierRelease line b) s =
      .next (s.withDev (releaseBarrier s.d (barKey (if line then 4 else 3) 0 b))) := if_pos hdue
  generalize barKey (if line then 4 else 3) 0 b = key at *
  obtain ⟨hline, hindex⟩ := hkey
  have hreleased : ∃ e, setBarrier s.d key (fun b => {
        gen := b.gen + 1
        arrived := []
        released := b.released ++ b.arrived.filter (fun c => (seqCh s.d c).bar == some key) }) = e ∧
      (barrier e key).gen = (barrier s.d key).gen + 1 ∧ (barrier e key).arrived = [] :=
    ⟨_, rfl, by rw [barrier_setBarrier], by rw [barrier_setBarrier]⟩
  obtain ⟨e, he, hgen, harrived⟩ := hreleased
  have hdev : releaseBarrier s.d key =
      wrB (wrB (wr e (Reg.SEQ_LBAR_GEN b) (barrier e key).gen) (Reg.SEQ_LBAR_REL b) true) (Reg.SEQ_LBAR_LOCAL b) false := by
    unfold releaseBarrier
    dsimp only
    rw [if_pos hline, hindex, he]
  refine ⟨_, hexec.trans (next_withDev hdev), rfl, ?_, ?_, hgen, harrived⟩
  · refine (rdB_wrB_ne _ (Reg.SEQ_LBAR_LOCAL b) (Reg.SEQ_LBAR_REL b) false ?_).trans
      (rdB_wrB_same _ (Reg.SEQ_LBAR_REL b) true (by simp [Reg.SEQ_LBAR_REL]))
    simp [Fld.key, Reg.SEQ_LBAR_REL, Reg.SEQ_LBAR_LOCAL]
  · exact rdB_wrB_same _ (Reg.SEQ_LBAR_LOCAL b) false (by simp [Reg.SEQ_LBAR_LOCAL])

end

/-- Settles O40: each frame sent or received, and each barrier, through its own case. -/
theorem rimeFrames : Obligations.RimeFrames := by
  unfold Obligations.RimeFrames
  intro s slot ch sof codeErrs b lag gdev framed line f e
  refine ⟨fun hsends howns hslot hopen => ⟨?_, ?_⟩, exec_rimeSlotTx_silent, fun hin hopen hch hon hother => ⟨?_, ?_⟩,
    exec_rimeRefTx_segment, exec_rimeRefTx_trunk, ?_, exec_rimeDownlinkTx, exec_trunkSlotTx, exec_trunkFrameRx,
    exec_remoteBarrierRelease, fun hno => ?_⟩
  · exact exec_rimeSlotTx_sends hsends howns hslot hopen
  · exact exec_rimeSlotTx_truncates hsends howns hslot hopen
  · exact exec_rimeFrameRx_kept hin hopen hch hon hother
  · exact exec_rimeFrameRx_counted hin hopen hch hon hother
  · exact exec_rimeFrameRx_reference
  · exact if_neg (by rw [hno]; decide)

end Sys2Proof.Machine
end

section
/-!
PROOFS. The transactions of the triad (R277, R280, R281, R283, R292).
-/
namespace Sys2Proof.Machine

/-! ### What the voter decides -/

theorem freeCores_all {d : Dev} (h : rd d Reg.TRI_STAT_FENCED = 0) : freeCores d = [0, 1, 2] := by
  simp only [freeCores, rdFBit, h]
  decide

theorem vote_agreed {d : Dev} (hfree : rd d Reg.TRI_STAT_FENCED = 0) (hno : d.mor.noTriad = false) (x : BusOp) :
    vote d [some x, some x, some x] true = (some x, d) := by
  unfold vote
  simp [freeCores_all hfree, hno]

/-- A third copy that differs is outvoted: its core is fenced (R280). -/
theorem vote_outvoted {d : Dev} (hfree : rd d Reg.TRI_STAT_FENCED = 0) (hno : d.mor.noTriad = false) {x y : BusOp} (hne : x ≠ y) :
    vote d [some x, some x, some y] true = (some x, mismatch d 2 (copyDiff x y) x.addr) := by
  unfold vote
  simp [freeCores_all hfree, hno, Ne.symm hne]

/-- The device where the two voters differ (R281, R283). -/
def votersDiffer (d : Dev) (addr : Nat) : Dev := triadFatal (useFree d) Src.TRI_VOTER_CMP (freeVal d % 16) 0 addr

theorem vote_votersDiffer {d : Dev} (hno : d.mor.noTriad = false) (copies : List (Option BusOp)) :
    ∃ addr, vote d copies false = (none, votersDiffer d addr) := by
  unfold vote
  simp only [hno, Bool.false_eq_true, if_false, Bool.not_false, if_true]
  exact ⟨_, rfl⟩

/-! ### The course of a transaction -/

/-- No replay was pending, and none is. -/
theorem replay_stays {d : Dev} (h : d.tri.replay = false) (b : Bool) :
    { d with tri := { d.tri with replay := d.tri.replay && b } } = d := by
  have hoff : (d.tri.replay && b) = d.tri.replay := by rw [h, Bool.false_and]
  rw [hoff]

/-- The device with another mark of a replay. -/
def withReplay (d : Dev) (b : Bool) : Dev := { d with tri := { d.tri with replay := b } }

section
variable {s : State} {cs : List (Option BusOp)} (hrun : s.d.tri.running ≠ []) (hno : s.d.mor.noTriad = false)
  (hvoted : isCalved s.d = false)
include hrun hno hvoted

/-- A voted transaction is judged by the MPU, and performed or denied (R292). -/
theorem triadTransaction_voted (hgo : rdB s.d Reg.TRI_DBG_STAT_HALTED = false) (hreplay : s.d.tri.replay = false) {x : BusOp} {e : Dev}
    (hvote : vote s.d cs true = (some x, e)) (hcalm : isCalved e = false) (hkeep : e.tri.replay = false) :
    triadTransaction s cs true 0 0 =
      if mpuAllows e 0 x then busJudged (s.withDev e) .triad x 0 else s.withDev (mpuDeny e 0 x) := by
  unfold triadTransaction
  simp only [hno, hgo, hvoted, hvote, hreplay, replay_stays hkeep, busReq, hcalm, ite_self, Bool.or_false, Bool.false_and,
    Bool.false_eq_true, if_false, List.isEmpty_eq_false_iff.mpr hrun]
  cases mpuAllows e 0 x <;> rfl

/-- Where the voters differ nothing is performed (R281). -/
theorem triadTransaction_votersDiffer (core ecc : Nat) :
    ∃ addr replay, triadTransaction s cs false core ecc = s.withDev (withReplay (votersDiffer s.d addr) replay) := by
  obtain ⟨addr, hvote⟩ := vote_votersDiffer hno (if rdB s.d Reg.TRI_DBG_STAT_HALTED && !s.d.tri.step then [] else cs)
  have hfenced : rd (votersDiffer s.d addr) Reg.TRI_STAT_FENCED = rd s.d Reg.TRI_STAT_FENCED := rfl
  refine ⟨addr, (votersDiffer s.d addr).tri.replay &&
    !((if rdB s.d Reg.TRI_DBG_STAT_HALTED && !s.d.tri.step then [] else cs).any (·.isSome)), ?_⟩
  unfold triadTransaction
  simp only [hno, hvoted, hvote, hfenced, bne_self_eq_false, Bool.false_and, Bool.and_false, Bool.or_false, Bool.false_eq_true,
    if_false, List.isEmpty_eq_false_iff.mpr hrun]
  rfl

end

/-! ### A core that is fenced -/

/-- What the fence of a core of a voted triad writes, beside `NO_CORE0` (R285). -/
def fenceWritten (d : Dev) (c kind addr : Nat) : Dev :=
  let d := wr (wr (wrFBit d Reg.TRI_STAT_FENCED c true) Reg.TRI_STAT_CONFIG 1) Reg.SYS_PROPS_TRIAD 1
  let d := wr (wr (wr d Reg.TRI_MISM_LAST_CORE c) Reg.TRI_MISM_LAST_KIND kind) Reg.TRI_MISM_ADDR_ADDR addr
  wrB (incSatPart d Reg.TRI_MISM_CNT_CNT (8 * c) 8 1) Reg.TRI_STAT_MISM_EV true

theorem coreFence_voted {d : Dev} {c : Nat} (hvoted : isCalved d = false) (hc : c ≠ 0) (kind addr : Nat) :
    ∃ t : TriSt, coreFence d c kind addr = { fenceWritten d c kind addr with tri := t } ∧ t.tcm = d.tri.tcm ∧
      t.replay = d.tri.replay := by
  have hstill : isCalved (wrFBit d Reg.TRI_STAT_FENCED c true) = false := by
    rw [← hvoted]
    unfold isCalved triCfg wrFBit
    rw [rd_wr_ne _ _ _ _ (by decide)]
  refine ⟨(coreFence d c kind addr).tri, ?_, ?_, ?_⟩
  · unfold coreFence
    simp only [hstill, hc, if_false, Bool.false_eq_true]
    rfl
  · unfold coreFence
    simp only [hstill, hc, if_false, Bool.false_eq_true]
    rfl
  · unfold coreFence
    simp only [hstill, hc, if_false, Bool.false_eq_true]
    rfl

/-- The keys of the registers below the MPU's. -/
abbrev fenceKey (k : Nat) : Prop := k < 0x10030100 * 32

theorem fenceWritten_within (d : Dev) (c kind addr : Nat) : RegsWithin fenceKey d (fenceWritten d c kind addr) := by
  have hset := (((RegsWithin.refl fenceKey d).wr (f := Reg.TRI_STAT_FENCED) (setBit (rd d Reg.TRI_STAT_FENCED) c true)
    (by decide)).wr (f := Reg.TRI_STAT_CONFIG) 1 (by decide)).wr (f := Reg.SYS_PROPS_TRIAD) 1 (by decide)
  have hlast := ((hset.wr (f := Reg.TRI_MISM_LAST_CORE) c (by decide)).wr (f := Reg.TRI_MISM_LAST_KIND) kind
    (by decide)).wr (f := Reg.TRI_MISM_ADDR_ADDR) addr (by decide)
  exact (hlast.wr (f := Reg.TRI_MISM_CNT_CNT) _ (by decide)).wrB (f := Reg.TRI_STAT_MISM_EV) true (by decide)

/-- What the registers show of a fence of core 2. -/
theorem fenceWritten_shows {d : Dev} (hfree : rd d Reg.TRI_STAT_FENCED = 0) {kind : Nat} (hkind : kind < 16) (addr : Nat) :
    rdFBit (fenceWritten d 2 kind addr) Reg.TRI_STAT_FENCED 2 = true ∧ rd (fenceWritten d 2 kind addr) Reg.SYS_PROPS_TRIAD = 1 ∧
      rd (fenceWritten d 2 kind addr) Reg.TRI_MISM_LAST_CORE = 2 ∧
      rd (fenceWritten d 2 kind addr) Reg.TRI_MISM_LAST_KIND = kind := by
  unfold fenceWritten incSatPart wrB wrFBit rdFBit
  dsimp only
  refine ⟨?_, ?_, ?_, ?_⟩
  · iterate 7 rw [rd_wr_ne _ _ _ _ (by decide)]
    rw [rd_wr_same, hfree]
    decide
  · iterate 5 rw [rd_wr_ne _ _ _ _ (by decide)]
    rw [rd_wr_same]
    rfl
  · iterate 4 rw [rd_wr_ne _ _ _ _ (by decide)]
    rw [rd_wr_same]
    rfl
  · iterate 3 rw [rd_wr_ne _ _ _ _ (by decide)]
    rw [rd_wr_same]
    exact Nat.mod_eq_of_lt hkind

/-- The device once the third core's copy is outvoted over its data (R280, R285). -/
theorem mismatch_shows {d : Dev} (hvoted : isCalved d = false) (hfree : rd d Reg.TRI_STAT_FENCED = 0) {kind : Nat} (hkind : kind < 16)
    (addr : Nat) : ∃ e, mismatch d 2 kind addr = e ∧ rdFBit e Reg.TRI_STAT_FENCED 2 = true ∧ rd e Reg.SYS_PROPS_TRIAD = 1 ∧
      rd e Reg.TRI_MISM_LAST_CORE = 2 ∧ rd e Reg.TRI_MISM_LAST_KIND = kind ∧ RegsWithin fenceKey d e ∧ e.tri.tcm = d.tri.tcm ∧
      e.tri.replay = d.tri.replay ∧ e.mor.noTriad = d.mor.noTriad ∧ e.boot = d.boot ∧ e.bootOk = d.bootOk ∧
      ∃ ev, e.mor.raised = d.mor.raised ++ [ev] ∧ ev.src = 0x12 ∧ ev.ut = 7 ∧ ev.ui = 2 := by
  obtain ⟨t, hfence, htcm, hreplay⟩ := coreFence_voted hvoted (by decide : 2 ≠ 0) kind addr
  obtain ⟨hout, hduplex, hcore, hlast⟩ := fenceWritten_shows hfree hkind addr
  have hwithin := fenceWritten_within d 2 kind addr
  unfold mismatch
  rw [hfence]
  exact ⟨_, rfl, hout, hduplex, hcore, hlast, hwithin, htcm, hreplay, rfl, rfl, rfl, _, rfl, rfl, rfl, rfl⟩

/-- A fence changes nothing of what the MPU permits. -/
theorem mpuAllows_fenced {d e : Dev} (hwithin : RegsWithin fenceKey d e) (x : BusOp) : mpuAllows e 0 x = mpuAllows d 0 x :=
  mpuAllows_of_bank x fun {_ _ _ _} ha _ _ => hwithin _ (by rw [mpuFld_key]; omega)

/-! ### What is performed -/

theorem busDo_word {s : State} {x : BusOp} (req : Requester) (ecc : Nat) (h : byteMem x.addr = false ∨ x.size ≠ 8) :
    busDo s req x ecc = busWord s req x ecc := by
  unfold busDo
  exact if_neg fun hwide => h.elim (fun hmem => by simp [hmem] at hwide) fun hsize => hsize hwide.2

/-- An access to registers of another size than theirs (R9). -/
theorem busDo_misfit {s : State} {x : BusOp} (req : Requester) (ecc : Nat) (hreg : byteMem x.addr = false) (hsize : x.size ≠ 4) :
    busDo s req x ecc = s.withDev (errResp s.d req x.addr errAlign x.write) := by
  rw [busDo_word req ecc (.inl hreg)]
  exact if_pos ⟨hreg, hsize⟩

section
variable {s : State} {x : BusOp} (hbe : x.be = 15) (hfits : (byteMem x.addr = true ∧ x.size ≠ 8) ∨ x.size = 4)
include hbe hfits

theorem busDo_read (req : Requester) (ecc : Nat) (hread : x.write = false) :
    busDo s req x ecc = s.withDev (busRead s.d req x.addr ecc) := by
  rw [busDo_word req ecc (.inr (by omega))]
  unfold busWord
  have hfit : ¬ (byteMem x.addr = false ∧ x.size ≠ 4) := by rintro ⟨hmem, hsize⟩; simp_all
  simp [hfit, hread, hbe]

theorem busDo_write (req : Requester) (ecc : Nat) (hwrite : x.write = true) :
    busDo s req x ecc = busWrite s req x.addr x.data := by
  rw [busDo_word req ecc (.inr (by omega))]
  unfold busWord
  have hfit : ¬ (byteMem x.addr = false ∧ x.size ≠ 4) := by rintro ⟨hmem, hsize⟩; simp_all
  simp [hfit, hwrite, hbe]

end

/-! ### The TCM -/

theorem domainOf_tcm {addr : Nat} (haddr : addr < 0x400000) : domainOf addr = none := by
  have hpage : addr / 0x10000 < 0x40 := by omega
  unfold domainOf
  rw [if_neg (by omega)]
  generalize addr / 0x10000 = page at hpage
  split
  case h_6 => rfl
  all_goals omega

section
variable {s : State} {addr : Nat} (hno : s.d.mor.noTriad = false) (hvoted : isCalved s.d = false) (hjudged : s.d.tri.judged = true)
  (haddr : addr < 0x400000) (hword : addr % 4 = 0) (hfree : inTest s.d addr = false)
include hno hvoted hjudged haddr hword hfree

/-- A judged transaction of the triad writes a word of the TCM at once. -/
theorem busWrite_tcm (w : Nat) : busWrite s .triad addr w = s.withDev (okResp (tcmPut s.d addr w)) := by
  have hserved : accessErr s.d .triad addr true = 0 := by
    simp [accessErr, silenced, mpuBars, debugBars, hno, hvoted, hjudged, hword, domainOf_tcm haddr]
  have hown : tcmForeign s.d .triad addr = false := by simp [tcmForeign, hvoted]
  have hnothost : ¬ (addr < 0x400000 ∧ Requester.triad = .host) := fun h => nomatch h.2
  unfold busWrite
  rw [if_neg (by omega), if_neg (by omega)]
  unfold devWrite
  simp [hserved, hfree, haddr, tcmWrite, hown]

/-- A judged transaction that writes a whole word of the TCM. -/
theorem busWord_tcm {x : BusOp} (hx : x.addr = addr) (hwrite : x.write = true) (hbe : x.be = 15) (hsize : x.size = 4) (ecc : Nat) :
    busWord s .triad x ecc = s.withDev (okResp (tcmPut s.d addr x.data)) := by
  rw [← busDo_word .triad ecc (.inr (by omega)), busDo_write hbe (.inr hsize) .triad ecc hwrite, hx,
    busWrite_tcm hno hvoted hjudged haddr hword hfree]

end

/-- A memory of the TCM tests as one. -/
theorem inTest_tcm {d : Dev} {a b : Nat} (ha : a < 0x400000) (hb : b < 0x400000) : inTest d a = inTest d b := by
  simp only [inTest, testMem, startTest, memAt, ha, hb, if_true]

/-- The device with the two halves of a word of the TCM written. -/
def tcmHalves (d : Dev) (addr data : Nat) : Dev := tcmPut (tcmPut d addr (data % 2 ^ 32)) (addr + 4) (data / 2 ^ 32)

/-- A 64-bit write of the TCM stores its two halves and ends the word's poison (R290). -/
theorem busDo_tcmWide {s : State} {x : BusOp} (hno : s.d.mor.noTriad = false) (hvoted : isCalved s.d = false)
    (hjudged : s.d.tri.judged = true) (haddr : x.addr < 0x400000) (hword : x.addr % 8 = 0) (hfree : inTest s.d x.addr = false)
    (hwrite : x.write = true) (hbe : x.be = 255) (hsize : x.size = 8) :
    busDo s .triad x 0 = s.withDev (unpoison (okResp (tcmHalves s.d x.addr x.data)) .triad x.addr) := by
  have hmem : byteMem x.addr = true := by simp [byteMem, haddr]
  unfold busDo
  rw [if_pos ⟨hmem, hsize⟩]
  unfold busWide
  extract_lets lo hi slo low shi
  have hlo : slo = s.withDev (okResp (tcmPut s.d x.addr (x.data % 2 ^ 32))) :=
    busWord_tcm (x := lo) hno hvoted hjudged haddr (by omega) hfree rfl hwrite (by simp [lo, hbe]) rfl 0
  have hhi : shi = slo.withDev (okResp (tcmPut slo.d (x.addr + 4) (x.data / 2 ^ 32))) := by
    have hfree' : inTest slo.d (x.addr + 4) = false := by
      rw [hlo]
      exact (inTest_tcm (by omega) haddr).trans hfree
    refine busWord_tcm (x := hi) ?_ ?_ ?_ (by omega) (by omega) hfree' rfl hwrite (by simp [hi, hbe]) rfl 0
    · rw [hlo]
      exact hno
    · rw [hlo]
      exact hvoted
    · rw [hlo]
      exact hjudged
  clear_value slo shi
  subst hhi hlo
  rw [if_neg (by omega), if_neg (by simp [okResp]), if_neg (by simp [okResp]), if_pos hwrite, if_pos (by rw [hbe])]
  rfl

/-! ### What is not performed -/

/-- A write of `LCY_CMD` runs some life-cycle command or none. -/
theorem lcyCmd_runs (s : State) (req : Requester) (w : Nat) : ∃ cmd act, lcyCmd s req w = lcyWrite s req w cmd act := by
  unfold lcyCmd
  simp only [outState, execTransition, execRollbackAdv, execRevoke, execGrantCalve, execGrantDbg, execHostboot, execRevokeCalve,
    execRevokeDbg]
  split <;> exact ⟨_, _, rfl⟩

/-- A write that is not served answers its code at every address. -/
theorem busWrite_notServed {s : State} {addr : Nat} (w : Nat) (h : accessErr s.d .triad addr true ≠ 0) :
    busWrite s .triad addr w = s.withDev (notServed s.d .triad addr (accessErr s.d .triad addr true) true) := by
  unfold busWrite
  split
  next ha =>
    subst ha
    obtain ⟨cmd, act, hlife⟩ := lcyCmd_runs s .triad w
    rw [hlife]
    exact if_pos h
  split
  next ha =>
    subst ha
    exact if_pos h
  · have hnothost : ¬ (addr < 0x400000 ∧ Requester.triad = .host) := fun h => nomatch h.2
    unfold devWrite
    rw [if_neg hnothost]
    exact congrArg s.withDev (if_pos h)

theorem execRegisterWrite_notServed {s : State} {addr : Nat} (w : Nat) (h : accessErr s.d .triad addr true ≠ 0) :
    exec (.registerWrite ⟨.triad, 4, 0⟩ addr w) s =
      .next (s.withDev (notServed s.d .triad addr (accessErr s.d .triad addr true) true)) :=
  congrArg Host.Outcome.next (busWrite_notServed w h)

/-- From an event of R283 on the triad's accesses are not made. -/
theorem accessErr_noTriad {d : Dev} (hno : d.mor.noTriad = true) (hnow : d.apply = false) (addr : Nat) (write : Bool) :
    accessErr d .triad addr write = errNone := by
  simp [accessErr, silenced, isTriad, hno, hnow]

/-- From an event of R283 on the triad's reads are not made. -/
theorem busRead_silenced {d : Dev} (hno : d.mor.noTriad = true) (hnow : d.apply = false) (addr : Nat) :
    busRead d .triad addr 0 = d := by
  have hcode := accessErr_noTriad hno hnow addr false
  unfold busRead
  simp [hcode, errNone, notServed]

/-- The MPU denies a supervisor's register write (R292). -/
theorem accessErr_denied {d : Dev} {addr : Nat} (hno : d.mor.noTriad = false) (hnow : d.apply = false) (hown : d.tri.judged = false)
    (hvoted : isCalved d = false) (hdeny : mpuAllows d 0 (supOp addr true) = false) : accessErr d .triad addr true = errMpu := by
  have hbars : mpuBars d .triad addr true = true := by simp [mpuBars, isTriad, coreOf, hown, hdeny]
  simp [accessErr, silenced, hno, hnow, hvoted, hbars]

/-- What the access fault of a denied transaction shows (R292). -/
theorem mpuDeny_shows (d : Dev) (x : BusOp) : rd (mpuDeny d 0 x) Reg.TRI_MPU_VADDR_ADDR = x.addr % 2 ^ 32 ∧
    rdB (mpuDeny d 0 x) Reg.TRI_STAT_MPU_EV = true ∧
    rd (mpuDeny d 0 x) Reg.TRI_MPU_VINFO_TYPE = b2n x.write + 2 * b2n x.fetch + 4 * b2n x.user ∧
    (mpuDeny d 0 x).mor.raised.map (·.src) = d.mor.raised.map (·.src) ++ [Src.TRI_MPU] ∧ (mpuDeny d 0 x).tri = d.tri ∧
    (mpuDeny d 0 x).neve = d.neve := by
  have htype : b2n x.write + 2 * b2n x.fetch + 4 * b2n x.user < 8 := by
    cases x.write <;> cases x.fetch <;> cases x.user <;> decide
  have hraised : (mpuDeny d 0 x).mor.raised.map (·.src) = d.mor.raised.map (·.src) ++ [Src.TRI_MPU] := by
    simp [mpuDeny, raise, useFree, wr, wrB]
  generalize hwho : (if isCalved d then 0 else 3) = who
  obtain ⟨e, he, hregs⟩ : ∃ e, e = wrB (wr (wr (wr d Reg.TRI_MPU_VADDR_ADDR x.addr) Reg.TRI_MPU_VINFO_CORE who)
      Reg.TRI_MPU_VINFO_TYPE (b2n x.write + 2 * b2n x.fetch + 4 * b2n x.user)) Reg.TRI_STAT_MPU_EV true ∧
      (mpuDeny d 0 x).regs = e.regs := ⟨_, rfl, by rw [← hwho]; rfl⟩
  have hread (f : Fld) : rd (mpuDeny d 0 x) f = rd e f := by simp only [rd, hregs]
  refine ⟨?_, ?_, ?_, hraised, rfl, rfl⟩
  · rw [hread, he, rd_wrB_ne _ _ _ _ (by decide), rd_wr_ne _ _ _ _ (by decide), rd_wr_ne _ _ _ _ (by decide), rd_wr_same]
    rfl
  · rw [rdB, hread, he, rd_wrB_same]
    rfl
  · rw [hread, he, rd_wrB_ne _ _ _ _ (by decide), rd_wr_same]
    exact Nat.mod_eq_of_lt htype

/-! ### O14 -/

section
variable {s : State} {x y : BusOp} (hrun : s.d.tri.running ≠ []) (hgo : rdB s.d Reg.TRI_DBG_STAT_HALTED = false)
  (hno : s.d.mor.noTriad = false) (hvoted : isCalved s.d = false) (hfree : rd s.d Reg.TRI_STAT_FENCED = 0)
  (hreplay : s.d.tri.replay = false)
include hrun hgo hno hvoted hfree hreplay

/-- Three equal copies are judged by the MPU and performed once, or denied (R280, R292). -/
theorem exec_agreed : exec (.triadTransaction [some x, some x, some x] true 0 0) s =
    .next (if mpuAllows s.d 0 x then busJudged s .triad x 0 else s.withDev (mpuDeny s.d 0 x)) :=
  congrArg Host.Outcome.next
    (triadTransaction_voted hrun hno hvoted hgo hreplay (vote_agreed hfree hno x) hvoted hreplay)

/-- A third copy that differs in its data is outvoted, and the agreed write of the TCM is performed (R280). -/
theorem exec_outvoted (hallow : mpuAllows s.d 0 x = true) (hwrite : x.write = true) (hbe : x.be = 15) (hword : x.addr % 4 = 0)
    (haddr : x.addr < 0x400000) (hsize : x.size ≠ 8) (hout : inTest s.d x.addr = false) (hsame : x.addr = y.addr)
    (hdata : x.data ≠ y.data) : ∃ e, mismatch s.d 2 1 x.addr = e ∧
      exec (.triadTransaction [some x, some x, some y] true 0 0) s =
        .next ((s.withDev e).judgedOut (okResp (tcmPut (s.withDev e).judgedIn.d x.addr x.data))) := by
  obtain ⟨e, he, -, hduplex, -, -, hwithin, -, hreplay', hno', hboot, hok, -⟩ :=
    mismatch_shows hvoted hfree (kind := 1) (by decide) x.addr
  have hdiff : copyDiff x y = 1 := by simp [copyDiff, hsame, hdata]
  have hvote := vote_outvoted hfree hno (x := x) (y := y) fun heq => hdata (by rw [heq])
  rw [hdiff, he] at hvote
  have hcalm : isCalved e = false := by simp [isCalved, triCfg, hduplex]
  have hmem : byteMem x.addr = true := by simp [byteMem, haddr]
  have hout' : inTest e x.addr = false := by
    rw [← hout]
    simp only [inTest, startTest, hboot, hok]
  refine ⟨e, he, congrArg Host.Outcome.next
    ((triadTransaction_voted hrun hno hvoted hgo hreplay hvote hcalm (hreplay'.trans hreplay)).trans ?_)⟩
  rw [if_pos ((mpuAllows_fenced hwithin x).trans hallow), busJudged, busDo_write hbe (.inl ⟨hmem, hsize⟩) .triad 0 hwrite,
    busWrite_tcm (s := (s.withDev e).judgedIn) (hno'.trans hno) hcalm rfl haddr hword hout']

end

/-- The TCM after a 64-bit write of the triad, and what the write leaves alone (R290). -/
theorem busJudged_tcmWide {s : State} {x : BusOp} (hno : s.d.mor.noTriad = false) (hvoted : isCalved s.d = false)
    (haddr : x.addr < 0x400000) (hword : x.addr % 8 = 0) (hout : inTest s.d x.addr = false) (hwrite : x.write = true)
    (hbe : x.be = 255) (hsize : x.size = 8) : ∃ t, busJudged s .triad x 0 = t ∧ t.nv = s.nv ∧ t.d.regs = s.d.regs ∧
      t.d.tri.tcm = Memory.writeLE (Memory.writeLE s.d.tri.tcm x.addr 4 (x.data % 2 ^ 32)) (x.addr + 4) 4 (x.data / 2 ^ 32) ∧
      ¬ x.addr ∈ t.d.tri.bad := by
  have hplain (d : Dev) : unpoison d .triad x.addr =
      { d with tri := { d.tri with bad := d.tri.bad.filter (· != x.addr / 8 * 8) } } := if_pos haddr
  have hstart : x.addr / 8 * 8 = x.addr := by omega
  rw [busJudged, busDo_tcmWide (s := s.judgedIn) hno hvoted rfl haddr hword hout hwrite hbe hsize, hplain, hstart]
  exact ⟨_, rfl, rfl, rfl, rfl, by simp⟩

/-- Settles O14: the voter passes the value that two copies share, the MPU judges it, and the judged transaction is a read or
a write of the device space, or of both halves of a word of the TCM. -/
theorem triadVotes : Obligations.TriadVotes := by
  unfold Obligations.TriadVotes
  refine ⟨fun s x y hrun hgo hno hvoted hfree hreplay hallow => ?_, fun s x cs addr w core ecc => ⟨?_, ?_, ?_, ?_, ?_⟩⟩
  · have hagreed := exec_agreed (x := x) hrun hgo hno hvoted hfree hreplay
    rw [if_pos hallow] at hagreed
    rw [hagreed]
    refine ⟨fun hread hbe hfits => ?_, fun hreg hsize => ?_, fun hwrite hbe hfits => ?_,
      fun hwrite hbe hword haddr hsize hout hsame hdata => ?_, fun hwrite hbe hsize hword haddr hout => ?_⟩
    · rw [busJudged, busDo_read hbe hfits .triad 0 hread]
    · rw [busJudged, busDo_misfit .triad 0 hreg hsize]
    · rw [busJudged, busDo_write hbe hfits .triad 0 hwrite]
    · obtain ⟨e, he, hexec⟩ := exec_outvoted (y := y) hrun hgo hno hvoted hfree hreplay hallow hwrite hbe hword haddr hsize hout
        hsame hdata
      obtain ⟨e, he', hfenced, hduplex, hcore, hkind, -, htcm, -, -, -, -, hraised⟩ :=
        mismatch_shows hvoted hfree (kind := 1) (by decide) x.addr
      obtain rfl := he.symm.trans he'
      exact ⟨_, hexec, hfenced, hduplex, hcore, hkind, congrArg (Memory.writeLE · x.addr 4 x.data) htcm, hraised⟩
    · obtain ⟨t, ht, hkept⟩ := busJudged_tcmWide hno hvoted haddr hword hout hwrite hbe hsize
      exact ⟨t, congrArg Host.Outcome.next ht, hkept⟩
  · intro hrun hno hvoted
    obtain ⟨addr, replay, ht⟩ := triadTransaction_votersDiffer (cs := cs) hrun hno hvoted core ecc
    exact ⟨_, congrArg Host.Outcome.next ht, rfl, rfl, by simp [withReplay, votersDiffer, triadFatal, raise, useFree], rfl, rfl,
      rfl, rfl⟩
  · intro hno hnow
    have hcode (write : Bool) := accessErr_noTriad hno hnow addr write
    refine ⟨congrArg Host.Outcome.next ?_, ?_, congrArg (Host.Outcome.next ∘ s.withDev) (busRead_silenced hno hnow addr)⟩
    · exact if_pos (by simp [hno])
    · rw [execRegisterWrite_notServed w (by rw [hcode]; decide), hcode]
      rfl
  · intro hrun hgo hno hvoted hfree hreplay hdeny
    rw [exec_agreed hrun hgo hno hvoted hfree hreplay, if_neg (by simp [hdeny])]
  · intro hno hnow hown hvoted hdeny
    have hcode := accessErr_denied hno hnow hown hvoted hdeny
    rw [execRegisterWrite_notServed w (by rw [hcode]; decide), hcode]
    rfl
  · exact ⟨_, rfl, mpuDeny_shows s.d x⟩

end Sys2Proof.Machine
end
